-- ==== Sys2Proof/Word.lean ====
section
/-! DEFINITION. The word types of the part and the plain operand types of its commands. -/

namespace Sys2Proof

/-- One byte of a row or a memory (R168). -/
abbrev Byte := BitVec 8

/-- One register or one narrow word: 24 bits (R94, R170). -/
abbrev Word := BitVec 24

/-- Who makes an access: the initiators of CLK_ADDRERR1.INIT (Table CLK-10), and the boot loader (R110). -/
inductive Initiator where
  | cc (c : Fin 4)
  | sv
  | pcie
  | spi
  | debug
  | mover (c : Fin 4)
  | boot
  deriving DecidableEq, Repr

/-- The three PLLs of Table CLK-2. -/
inductive Pll where
  | a
  | b
  | c
  deriving DecidableEq, Repr

/-- A low pulse on RESET_N (Table CLK-5): too short to count, long enough to count, or between the two. -/
inductive Pulse where
  | short
  | between
  | long
  deriving DecidableEq, Repr

/-- A source of Table PWR-6: WAKE_N low, the RTC alarm, an edge on one of GPIO0-GPIO7, a sensor interrupt ball. -/
inductive WakeSource where
  | pin
  | rtc
  | gpio (g : Fin 8) (rise : Bool)
  | sens
  deriving DecidableEq, Repr

/-- The data of a tally word set, D0-D3 without the operation code, and D4 (Table TOP-2 and the tables after it). -/
structure WordSet where
  d0 : Word
  d1 : Word
  d2 : Word
  d3 : Word
  d4 : Word
  deriving DecidableEq, Repr

/-- The four words of a mover job, J0-J3 (R272). -/
structure JobWords where
  j0 : Word
  j1 : Word
  j2 : Word
  j3 : Word
  deriving DecidableEq, Repr

/-- How far a command of the parameter store gets: to its end, every margin verify passing; to its n-th erase or program
(counted from 0), which fails the margin verify of R517; only through its first n, the rest following when the part
idles; or on with each verify left open. -/
inductive PstRun where
  | whole
  | fails (n : Nat)
  | stops (n : Nat)
  | chance
  deriving DecidableEq, Repr

/-- The end of Calm: its source, and whether the board removed VDD_CORE while the part was in Calm (R793). -/
structure Waking where
  source : WakeSource
  coreLost : Bool
  deriving DecidableEq, Repr

/-- What the flash answers to the reads of discovery (R141): the SFDP header with its first parameter header, and
doublewords 1, 2, 3 and 15 of the Basic Flash Parameter Table. -/
structure Sfdp where
  head : List Byte
  dw1 : BitVec 32
  dw2 : BitVec 32
  dw3 : BitVec 32
  dw15 : BitVec 32
  deriving DecidableEq, Repr

/-- The header of an SPI host transaction (Table HOST-3): the mode it comes in, CMD, LEN, ADDR and, under v2, HCRC. -/
structure SpiHead where
  mode3 : Bool
  cmd : Byte
  len : Fin 64
  addr : BitVec 32
  hcrc : Byte
  deriving DecidableEq, Repr

/-- A mount asked for by an initiator, and how far it gets. -/
structure PstCall where
  ini : Initiator
  run : PstRun
  deriving DecidableEq, Repr

/-- What the radio finds in the 128 us of a CCA (R580): the energy in dBm, and whether it detects an O-QPSK signal. -/
structure Cca where
  energy : Int
  signal : Bool
  deriving DecidableEq, Repr

/-- How an attempt to send a frame ended: acknowledged, with the signed microseconds of the acknowledgement's Time
Correction IE where it holds one; or with no acknowledgement seen. -/
inductive TxResult where
  | acked (corr : Option Int)
  | silent
  deriving DecidableEq, Repr

/-- How a capture of a sensor port ended on its bus (Table SNS-2): the bytes read, in order; an address or register
byte not acknowledged; the clock held low too long. A PDM or PIR port has staged its samples already. -/
inductive Capture where
  | data (bs : List Byte)
  | nack
  | stretch
  deriving DecidableEq, Repr

/-- An enhanced beacon as heard: the content of its MMP IE, empty where it holds none (R625), its sender, RSSI, SFD
timestamp and ASN, and whether it passed step 4 of Table RAD-7 (R622). -/
structure Heard where
  ie : List Byte
  src : Nat
  rssi : Int
  secok : Bool
  stamp : Nat
  asn : Nat
  deriving DecidableEq, Repr

/-- An MMP enhanced beacon that a node does not discard: its MMP IE (Table MESH-3), its sender, RSSI, SFD timestamp and
ASN. -/
structure Beacon where
  kind : Nat
  claim : Nat
  rootAddr : Nat
  rootGen : Nat
  rank : Nat
  joinOpen : Bool
  start : Bool
  depth : Nat
  src : Nat
  rssi : Int
  stamp : Nat
  asn : Nat
  deriving DecidableEq, Repr

/-- An MMP data frame as received: its header (Table MESH-4), its payload, and whether it passed step 4 of Table RAD-7. -/
structure MmpFrame where
  type : Nat
  ttl : Nat
  up : Bool
  compact : Bool
  origin : Nat
  mseq : Nat
  rootGen : Nat
  payload : List Byte
  secok : Bool
  deriving DecidableEq, Repr

/-- A configuration request of the host to the PCI Express function (R427): a read of a doubleword, a write of the
power state, of the MSI-X enable and function mask bits, or of the payload size, read request size and ASPM L1. -/
inductive PcieConfig where
  | read (dw : Fin 1024)
  | d3hot (on : Bool)
  | msix (enable mask : Bool)
  | payload (mps256 : Bool) (mrrs : Fin 3) (l1 : Bool)
  | bar (bar2 : Bool) (v : BitVec 64)
  deriving DecidableEq, Repr

/-- Fuses to blow in test mode FUSE (Table BOOT-3, Table DBG-4): bits that are 1 become 1, ROLLBACK rises to its count;
and the bits of the CRC over the array. -/
structure FuseBlow where
  devkey : BitVec 256
  uid : BitVec 64
  lifecycle : BitVec 2
  dbgdis : Bool
  fmt1dis : Bool
  hostbootdis : Bool
  rollback : Fin 33
  anatrim : BitVec 48
  crc : BitVec 16
  deriving DecidableEq, Repr

end Sys2Proof
end

