-- ==== Sys2Proof/Syntax.lean ====
section
/-! DEFINITION. The commands of the part, one constructor per row of spec/opcode_table.json. The table gives no
operands; each constructor carries what its rule needs: who makes the access, which unit, the value written, and
data that comes from outside the part. The order is the table's, but commands without operands, and a few of the
production tests, stand last: compiled Lean code can build only some 245 constructors that carry operands. -/

namespace Sys2Proof

/-- A command of the part. -/
inductive Instr where
  /-- A write to a register field that has no row of its own, applied by its access code, reserved-bit, width and reach rules. (R11) -/
  | registerWrite (ini : Initiator) (addr : Nat) (size : Nat) (v : Nat)
  /-- A read of an RC field returns its value and then clears the field. (R11) -/
  | rcFieldRead (ini : Initiator) (addr : Nat) (size : Nat)
  /-- A low pulse on RESET_N long enough to count resets the part as Table CLK-6 states. (R89) -/
  | resetN (pulse : Pulse)
  /-- A reset is released synchronously to clk_xo once its conditions hold, which samples the straps and starts the boot loader. (R89) -/
  | resetRelease (bootsel : Fin 4) (hostsel : Bool)
  /-- A write of CLK_CLRST.REQ resets a cluster, aborts its commands with UNIT_RESET and starts the clearing of its scratchpad. (R91) -/
  | clusterReset (ini : Initiator) (req : Fin 16)
  /-- A write of CLK_CORESEL.SRC requests a glitch-free switch of clk_core, pending until PLL_A is locked. (R83) -/
  | clkCoreselWrite (ini : Initiator) (v : Word)
  /-- A write of the PLL_A dividers is applied, or is ignored with BADCFG when out of range or while PLL_A drives clk_core. (R80) -/
  | clkPllaWrite (ini : Initiator) (v : Word)
  /-- A PLL reports lock, and the clock it gates is released. (R81) -/
  | pllLock (pll : Pll)
  /-- A write of PWR_DOMd.REQ requests a domain state, pulling in or refusing dependencies and Breeze limits. (R111) -/
  | pwrDomRequest (ini : Initiator) (d : Fin 26) (v : Word)
  /-- A pending domain transition starts once the domain is idle and in-rush allows. (R112) -/
  | domainTransitionStart (d : Fin 26)
  /-- A domain reaches its new state, ACT is updated and any EVP_PWR_READY whose map is complete fires. (R115) -/
  | domainTransitionDone (d : Fin 26)
  /-- A write of PWR_CTRL.MODE moves between Breeze and Gale, or is refused with DENIED. (R119) -/
  | pwrModeWrite (ini : Initiator) (v : Word)
  /-- PWR_CMD Calm starts the Calm entry sequence. (R121) -/
  | pwrCalm (ini : Initiator)
  /-- An enabled wake source in Calm or Calm entry starts the XO, or abandons the entry, and brings SUP back to ON. (R122) -/
  | calmWake (src : Waking)
  /-- A write of PWR_FROSTARM.ARM arms Frost for 1,000 clk_core cycles. (R120) -/
  | frostArm (ini : Initiator)
  /-- PWR_CMD Frost, when armed, turns every domain off; unarmed it is ignored with DENIED. (R123) -/
  | pwrFrost (ini : Initiator)
  /-- The boot loader resets the flash, reads SFDP and the BFPT and chooses quad or single mode, or enters HOLD. (R141) -/
  | bootDiscover (head : List Byte) (dw1 dw2 dw3 dw15 : BitVec 32)
  /-- A parcel copy is read from the flash into SP0 rows. (R143) -/
  | bootStage (data : List Byte)
  /-- A host write of BOOT_CMD.GO freezes SP0 and checks the staged host parcel. (R158) -/
  | bootGo (spi : Bool)
  /-- A host write of BOOT_CMD.RETRY leaves HOLD for HOSTWAIT, clearing SP0 and BOOT_HOSTLEN. (R159) -/
  | bootRetry (spi : Bool)
  /-- A FRANK word set is queued at the tally unit for a metered declassification. (R50) -/
  | frank (c : Fin 4) (p : Fin 3) (ini : Initiator) (ws : WordSet)
  /-- The meter checks a FRANK and, if it passes, debits credit, writes the ring row and fires EVP_SEAL_FRANKED. (R52) -/
  | frankDebit (c : Fin 4)
  /-- A write of SEAL_RINGRPc advances the read pointer, or is ignored with RPBAD. (R53) -/
  | ringRpWrite (ini : Initiator) (c : Fin 4) (v : Word)
  /-- A write of SEAL_RINGCFGc sets the ring, or is ignored with RINGBUSY while rows are held. (R53) -/
  | ringCfgWrite (ini : Initiator) (c : Fin 4) (v : Word)
  /-- A write of CLU_OWNER.CTX with a new value sets PEND for a change of owner. (R190) -/
  | ownerWrite (ini : Initiator) (c : Fin 4) (v : Word)
  /-- Once the cluster is quiet and its posted writes acknowledged, the mark is moved, the owner loaded and clearing begun. (R190) -/
  | ownerChangeStart (c : Fin 4)
  /-- A write of CLU_CLEAR.REQ clears the scratchpad and empties fresh list and ring without a change of owner. (R190) -/
  | cluClear (ini : Initiator) (c : Fin 4)
  /-- Clearing of all rows ends, and CLEARING, PEND or the cluster reset end. (R174) -/
  | clearingEnd (c : Fin 4)
  /-- A posted remote write reaches its target stop and is written or dropped. (R181) -/
  | roundWriteArrival (src : Fin 4) (tgt : Fin 4) (link : Fin 4) (repeats : Fin 5)
  /-- A return notice reaches the source stop, which counts RND_PERRc, fires EVP_RND_LOST and sets the mark. (R182) -/
  | roundReturnNotice (src : Fin 4)
  /-- An acknowledgement of an accepted posted write reaches the source stop and frees an outstanding slot. (R176) -/
  | roundWriteAck (src : Fin 4)
  /-- A remote read is served at the target, or returns zero, and its data and tag return to the initiator. (R176) -/
  | roundRead (src : Fin 4) (tgt : Fin 4) (link : Fin 4) (repeats : Fin 5)
  /-- A write of RND_RMPOPc.POP removes the oldest returned-mail entry. (R183) -/
  | rndRmpop (ini : Initiator) (c : Fin 4)
  /-- A TOP word set is latched with its issue seal and pad and checked into the tally queue. (R250) -/
  | top (c : Fin 4) (p : Fin 3) (ini : Initiator) (ws : WordSet)
  /-- A MAXR word set is queued for a maximum reduction with winner index. (R264) -/
  | maxr (c : Fin 4) (p : Fin 3) (ini : Initiator) (ws : WordSet)
  /-- A MINR word set is queued for a minimum reduction with winner index. (R264) -/
  | minr (c : Fin 4) (p : Fin 3) (ini : Initiator) (ws : WordSet)
  /-- An INS word set is queued to copy a bit field between rows. (R266) -/
  | ins (c : Fin 4) (p : Fin 3) (ini : Initiator) (ws : WordSet)
  /-- A FINR word set is queued to round and saturate row pairs without a tile. (R260) -/
  | finr (c : Fin 4) (p : Fin 3) (ini : Initiator) (ws : WordSet)
  /-- A SYNC word set is queued and completes after every earlier entry. (R268) -/
  | sync (c : Fin 4) (p : Fin 3) (ini : Initiator) (ws : WordSet)
  /-- A queued tally entry starts once its tile has room and no earlier overlapping entry is running. (R248) -/
  | talEntryStart (c : Fin 4)
  /-- A compute operation enters the tile's passes, zeroing the accumulators, at once or after a row step. (R228) -/
  | tileComputeStart (t : Fin 32)
  /-- A tile compute operation ends and hands its lanes to the tally unit. (R210) -/
  | tileComputeDone (t : Fin 32)
  /-- A tally entry completes its last write and reports its completion. (R269) -/
  | talEntryComplete (c : Fin 4) (n : Fin 16)
  /-- A write of TAL_CPLPOP.POP removes the oldest tally completion. (R269) -/
  | talCplpop (ini : Initiator) (c : Fin 4)
  /-- A write of TAL_RSTSEED loads the rounding LFSR, a zero loading 1. (R262) -/
  | talRstseedWrite (ini : Initiator) (c : Fin 4) (v : Word)
  /-- A J3 write queues a mover job with its issue seal. (R272) -/
  | moverJob (ini : Initiator) (c : Fin 4) (p : Fin 3) (j : JobWords)
  /-- A queued mover job starts and is checked for kind and alignment. (R273) -/
  | moverJobStart (c : Fin 4)
  /-- A mover read of host memory completes, or fails and stops its job with ADDRERR. (R433) -/
  | moverHostReadDone (c : Fin 4) (good : Bool) (data : List Byte)
  /-- A mover job ends with DONE or the status of its first failed row. (R275) -/
  | moverJobComplete (c : Fin 4)
  /-- A write of MOV_CPLPOP.POP removes the oldest mover completion. (R272) -/
  | movCplpop (ini : Initiator) (c : Fin 4)
  /-- A write of TILE_CMD.PGM latches the program and checks it, ends as duplicate, or starts its pre-scan. (R221) -/
  | tileProgram (ini : Initiator) (t : Fin 32)
  /-- The pre-scan ends, refusing a sealed or invalid source or clearing VALID and starting row steps. (R221) -/
  | prescanEnd (t : Fin 32)
  /-- A write of TILE_CMD.WIPE clears the generation and starts row steps to level 0 on all 776 rows. (R223) -/
  | tileWipe (ini : Initiator) (t : Fin 32)
  /-- A row step ends; spare rows are mapped, waiting operations run, and the long operation moves on or ends. (R217) -/
  | rowStepEnd (t : Fin 32)
  /-- A write of TILE_CMD.BCHK runs one barometer check pass. (R225) -/
  | barometerCheck (ini : Initiator) (t : Fin 32)
  /-- A barometer check ends, its results are compared with the expected codes and warn or trip. (R302) -/
  | barometerCheckEnd (t : Fin 32)
  /-- A write of TILE_CMD.ABORT ends the long operation at the next row-step boundary. (R236) -/
  | tileAbort (ini : Initiator) (t : Fin 32)
  /-- A write of CAL_CMD.TRIM starts a trim sweep of all converters, or is refused when the tile is busy. (R300) -/
  | trimSweep (ini : Initiator) (t : Fin 32)
  /-- A trim sweep ends, writing trims, setting TRIMOK and firing EVP_TILE_LONGDONE. (R301) -/
  | trimSweepEnd (t : Fin 32)
  /-- A write of CAL_CMD.RFSH starts a refresh of drifted cells by row steps, or is refused. (R307) -/
  | tileRefresh (ini : Initiator) (t : Fin 32)
  /-- An ALU instruction computes its function of Table CORE-4 into rd. (R327) -/
  | alu (k : Fin 5) (fn : Fin 64) (rd : Fin 16) (rs1 : Fin 16) (rs2 : Fin 16)
  /-- ADDI adds a sign-extended immediate. (R327) -/
  | addi (k : Fin 5) (rd : Fin 16) (rs1 : Fin 16) (imm : BitVec 10)
  /-- ANDI ands a sign-extended immediate. (R327) -/
  | andi (k : Fin 5) (rd : Fin 16) (rs1 : Fin 16) (imm : BitVec 10)
  /-- ORI ors an unsigned immediate. (R327) -/
  | ori (k : Fin 5) (rd : Fin 16) (rs1 : Fin 16) (imm : BitVec 10)
  /-- XORI xors an unsigned immediate. (R327) -/
  | xori (k : Fin 5) (rd : Fin 16) (rs1 : Fin 16) (imm : BitVec 10)
  /-- TLTI tests a signed less-than against an immediate. (R327) -/
  | tlti (k : Fin 5) (rd : Fin 16) (rs1 : Fin 16) (imm : BitVec 10)
  /-- SHI shifts by an immediate amount. (R327) -/
  | shi (k : Fin 5) (rd : Fin 16) (rs1 : Fin 16) (imm : BitVec 10)
  /-- LIH loads a 14-bit immediate into the high bits. (R327) -/
  | lih (k : Fin 5) (rd : Fin 16) (imm : BitVec 14)
  /-- LD reads a data word through its window after earlier stores are accepted. (R330) -/
  | ld (k : Fin 5) (rd : Fin 16) (rs1 : Fin 16) (imm : BitVec 10)
  /-- ST places a store into the store buffer, stalling when it is full. (R331) -/
  | st (k : Fin 5) (rd : Fin 16) (rs1 : Fin 16) (imm : BitVec 10)
  /-- A buffered store is accepted by its target, or discarded in sealed state. (R331) -/
  | coreStoreAccept (k : Fin 5)
  /-- A compare-and-branch of two registers branches or continues. (R328) -/
  | cbBranch (k : Fin 5) (cond : Fin 6) (rs1 : Fin 16) (rs2 : Fin 16) (off : BitVec 10)
  /-- A compare-and-branch against an immediate branches or continues. (R328) -/
  | czBranch (k : Fin 5) (cond : Fin 6) (rs1 : Fin 16) (imm : BitVec 4) (off : BitVec 10)
  /-- CALL saves the link and jumps by an offset. (R327) -/
  | call (k : Fin 5) (rd : Fin 16) (off : BitVec 14)
  /-- CALLR saves the link and jumps to a register plus offset. (R327) -/
  | callr (k : Fin 5) (rd : Fin 16) (rs1 : Fin 16) (imm : BitVec 10)
  /-- QMUL multiplies, rounds and fits a fixed-point product. (R335) -/
  | qmul (k : Fin 5) (rd : Fin 16) (rs1 : Fin 16) (rs2 : Fin 16) (rm : Fin 4) (sat : Bool) (sub : Fin 8)
  /-- QADD adds, subtracts, negates or takes the absolute value with saturation. (R336) -/
  | qadd (k : Fin 5) (rd : Fin 16) (rs1 : Fin 16) (rs2 : Fin 16) (rm : Fin 4) (sat : Bool) (sub : Fin 8)
  /-- QSH shifts with rounding and saturation. (R337) -/
  | qsh (k : Fin 5) (rd : Fin 16) (rs1 : Fin 16) (rs2 : Fin 16) (rm : Fin 4) (sat : Bool) (sub : Fin 8)
  /-- MAC accumulates a product into an accumulator. (R338) -/
  | mac (k : Fin 5) (rd : Fin 16) (rs1 : Fin 16) (rs2 : Fin 16) (rm : Fin 4) (sat : Bool) (sub : Fin 8)
  /-- ACCX extracts a rounded, fitted word from an accumulator. (R339) -/
  | accx (k : Fin 5) (rd : Fin 16) (rs1 : Fin 16) (rs2 : Fin 16) (rm : Fin 4) (sat : Bool) (sub : Fin 8)
  /-- An ACC function reads, writes, clears, clamps or adds accumulators. (R327) -/
  | acc (k : Fin 5) (rd : Fin 16) (rs1 : Fin 16) (rs2 : Fin 16) (fn : Fin 64)
  /-- HOP operates on the H12 halves of its sources. (R340) -/
  | hop (k : Fin 5) (rd : Fin 16) (rs1 : Fin 16) (rs2 : Fin 16) (rm : Fin 4) (sat : Bool) (sub : Fin 8)
  /-- CSRR reads a CSR. (R327) -/
  | csrr (k : Fin 5) (rd : Fin 16) (rs1 : Fin 16) (imm : BitVec 10)
  /-- CSRW writes a CSR and returns its old value. (R327) -/
  | csrw (k : Fin 5) (rd : Fin 16) (rs1 : Fin 16) (imm : BitVec 10)
  /-- CSRSET sets CSR bits and returns the old value. (R327) -/
  | csrset (k : Fin 5) (rd : Fin 16) (rs1 : Fin 16) (imm : BitVec 10)
  /-- CSRCLR clears CSR bits and returns the old value. (R327) -/
  | csrclr (k : Fin 5) (rd : Fin 16) (rs1 : Fin 16) (imm : BitVec 10)
  /-- The SYS NOP does nothing. (R327) -/
  | sysNop (k : Fin 5)
  /-- TEND ends the task after draining stores, entering IDLE or the sealed wipe. (R346) -/
  | tend (k : Fin 5)
  /-- PARK drains stores and continues if an arrival is pending, or waits. (R345) -/
  | park (k : Fin 5)
  /-- XBACK returns from an exception handler to XPC. (R327) -/
  | xback (k : Fin 5)
  /-- BRK halts the core for debug when enabled, or raises exception BRK. (R754) -/
  | brk (k : Fin 5)
  /-- DRAIN stalls until every earlier store has been accepted. (R327) -/
  | drain (k : Fin 5)
  /-- The 4,100-cycle exit wipe ends and the core enters IDLE, or a waiting halt. (R43) -/
  | sealedWipeEnd (k : Fin 5)
  /-- A task-start arrival reaches an idle core, which starts the lowest task at its vector. (R342) -/
  | coreTaskStart (k : Fin 5)
  /-- A wake or task-start arrival reaches a core, setting TPEND and resuming a parked core. (R344) -/
  | coreWake (k : Fin 5)
  /-- A write of DFA_STARTp queues a timetable start with its issue seal. (R381) -/
  | dfaStart (ini : Initiator) (c : Fin 4) (p : Fin 3) (v : Word)
  /-- An arrival at EVT_DFA_START queues a start of its slot. (R381) -/
  | dfaEventStart (c : Fin 4) (k : Fin 4)
  /-- A start leaves the queue, is checked and begins its first round. (R382) -/
  | dfaTimetableStart (c : Fin 4)
  /-- All 16 cells run one schedule step, or the array stalls; round switches follow the last step. (R367) -/
  | dfaStep (c : Fin 4)
  /-- A row arrives in a read-port buffer and seals the array when its tag is 1. (R375) -/
  | dfaRowArrival (c : Fin 4) (cell : Fin 16) (p : Fin 2)
  /-- A timetable completes, with the sealed wipe if needed, and reports its completion. (R383) -/
  | dfaTimetableComplete (c : Fin 4)
  /-- A write of DFA_ABORT.REQ stops the running timetable and aborts the queued starts. (R384) -/
  | dfaAbort (ini : Initiator) (c : Fin 4)
  /-- A write of DFA_LOADCMD.GO starts copying scratchpad rows into schedule memory. (R388) -/
  | dfaLoad (ini : Initiator) (c : Fin 4)
  /-- A schedule load ends, or stops at a sealed row with LDSEAL. (R388) -/
  | dfaLoadEnd (c : Fin 4)
  /-- A write to schedule memory is applied and validated, or discarded with LOADBUSY. (R387) -/
  | scheduleWrite (ini : Initiator) (c : Fin 4) (idx : Fin 131072) (v : Word)
  /-- A write of DFA_CPLPOP.POP removes the oldest timetable completion. (R383) -/
  | dfaCplpop (ini : Initiator) (c : Fin 4)
  /-- A write of DFA_RSTSEED loads the array LFSR, a zero loading 1. (R368) -/
  | dfaRstseedWrite (ini : Initiator) (c : Fin 4) (v : Word)
  /-- A host read or write through BAR0 or BAR2 reaches its device address in arrival order. (R431) -/
  | hostBarAccess (bar2 : Bool) (off : BitVec 24) (size : Fin 5) (v : Option (BitVec 32))
  /-- An SPI host WRITE transaction applies its units, after its CRC checks under v2. (R437) -/
  | spiWrite (mode3 : Bool) (len : Fin 64) (addr : BitVec 32) (hcrc : Byte) (data : List Byte) (dcrc : Option Byte)
  /-- An SPI host READ transaction accesses LEN + 1 units and returns them. (R438) -/
  | spiRead (mode3 : Bool) (len : Fin 64) (addr : BitVec 32) (hcrc : Byte)
  /-- An SPI REPLAY re-sends the data of the last READ without access. (R436) -/
  | spiReplay (mode3 : Bool) (len : Fin 64) (addr : BitVec 32) (hcrc : Byte)
  /-- An SPI STATUS returns the low byte of HST_SPISTAT. (R436) -/
  | spiStatus (h : SpiHead)
  /-- ENTER_V2 switches the SPI host port to protocol v2. (R436) -/
  | enterV2 (mode3 : Bool) (addr : BitVec 32)
  /-- EXIT_V2 switches the SPI host port back to protocol v1. (R436) -/
  | exitV2 (mode3 : Bool) (len : Fin 64) (addr : BitVec 32) (hcrc : Byte)
  /-- A write of HST_LINKCFG.RETRAIN retrains the PCI Express link. (R427) -/
  | linkRetrain (ini : Initiator) (speed : Fin 4) (x2 : Bool)
  /-- Unmasking an MSI-X vector with its pending bit set sends its message. (R475) -/
  | msixUnmask (v : Fin 64)
  /-- A write of DB_TAIL rings the doorbell, or is ignored with BADTAIL. (R443) -/
  | dbTailWrite (ini : Initiator) (q : Fin 64) (v : Word)
  /-- The front end fetches a ring entry into its descriptor buffer and advances HEAD, or stops on a failed read. (R443) -/
  | descriptorFetch (q : Fin 64) (good : Bool) (data : List Byte)
  /-- A fetched descriptor is checked for fields, context, fences, ticket and ownership. (R446) -/
  | descriptorCheck (q : Fin 64)
  /-- A dispatched NOP command completes DONE. (R445) -/
  | queNop (q : Fin 64)
  /-- A dispatched WSET writes a word set to tally port 2. (R445) -/
  | wset (q : Fin 64)
  /-- A dispatched WSLIST issues word sets read from scratchpad rows. (R445) -/
  | wslist (q : Fin 64)
  /-- A dispatched MOVE issues mover jobs of at most 256 rows on port 2. (R445) -/
  | move (q : Fin 64)
  /-- A dispatched TIMETABLE is admitted by its cost bound and started, or ends TOOLONG. (R413) -/
  | timetable (q : Fin 64)
  /-- A dispatched TPGM starts a tile program. (R445) -/
  | tpgm (q : Fin 64)
  /-- A dispatched TWIPE starts TILE_WIPE. (R445) -/
  | twipe (q : Fin 64)
  /-- A dispatched TREFRESH posts a request to SV through QUE_SVREQ and fires EVP_QUE_SVREQ. (R459) -/
  | trefresh (q : Fin 64)
  /-- A WAIT command blocks its queue until its fence is signalled, or ends BADFENCE. (R453) -/
  | wait (q : Fin 64)
  /-- A step of a long command ends, the progress word is updated and the next step is dispatched. (R412) -/
  | longCommandStep (q : Fin 64) (n : Nat) (late : Bool)
  /-- A completed command, after earlier ones of its queue, sets its fence status, signals its fence and updates counters. (R449) -/
  | commandComplete (q : Fin 64)
  /-- A command passes its queue or global limit and is aborted at its next step boundary with TIMEOUT. (R456) -/
  | commandTimeout (q : Fin 64) (n : Nat) (global : Bool)
  /-- QUE_QqCTL ENABLE moves a queue from DISABLED to ACTIVE. (R457) -/
  | queueEnable (ini : Initiator) (q : Fin 64)
  /-- QUE_QqCTL STOP stops fetching and dispatch. (R457) -/
  | queueStop (ini : Initiator) (q : Fin 64)
  /-- QUE_QqCTL RESUME returns a stopped queue to ACTIVE. (R457) -/
  | queueResume (ini : Initiator) (q : Fin 64)
  /-- QUE_QqCTL DRAIN_ABORT abandons fetched commands and aborts dispatched ones. (R458) -/
  | drainAbort (ini : Initiator) (q : Fin 64)
  /-- A draining queue enters DRAINED once its last command has completed and its posted writes are acknowledged. (R457) -/
  | queueDrained (q : Fin 64)
  /-- QUE_QqCTL REVOKE kills the doorbell page and zeroes ring memory. (R460) -/
  | queueRevoke (ini : Initiator) (q : Fin 64)
  /-- QUE_QqCTL RESET returns a queue to DISABLED with pointers, window and errors cleared. (R457) -/
  | queueReset (ini : Initiator) (q : Fin 64)
  /-- Fence operation ALLOC allocates a free fence with a new generation. (R452) -/
  | fenceAlloc (ini : Initiator) (idx : Fin 4096)
  /-- Fence operation FREE frees a fence and advances its generation. (R452) -/
  | fenceFree (ini : Initiator) (idx : Fin 4096)
  /-- Fence operation RESET returns a signalled fence to unsignalled. (R452) -/
  | fenceReset (ini : Initiator) (idx : Fin 4096)
  /-- Fence operation SIGNAL signals a fence and releases its waiters. (R451) -/
  | fenceSignal (ini : Initiator) (idx : Fin 4096)
  /-- Fence operation ABANDON starts forcing every unsignalled fence of a context to ABANDONED. (R452) -/
  | abandon (ini : Initiator)
  /-- A write of QUE_CLASSIGNc.CTX writes the cluster's owner through the front end. (R462) -/
  | clusterAssign (ini : Initiator) (c : Fin 4) (v : Word)
  /-- SV writes QUE_SVDONE and completes the waiting TREFRESH with that status. (R459) -/
  | svDone (ini : Initiator) (v : Word)
  /-- A producer pulse reaches the Sorting Office, its channels fire and every enabled task receives its arrival, delivered, held or dropped. (R482) -/
  | eventFire (evt : Nat) (aon : Nat) (ps : List (Fin 128))
  /-- A held arrival is delivered in the first cycle its task is no longer busy. (R483) -/
  | heldArrivalDelivery (u : Fin 160)
  /-- An armed stopwatch count reaches its maximum and sets SAT. (R490) -/
  | stopwatchSaturate (n : Fin 8)
  /-- A sorter's glitch or debounce count completes and its filtered output changes. (R480) -/
  | sorterFilterExpiry (n : Fin 16)
  /-- A write of EVF_SWFIRE pulses software producers. (R489) -/
  | evfSwfire (ini : Initiator) (v : Word)
  /-- A write of a channel's producer enables, refused whole if it routes taint to a restricted task. (R488) -/
  | evfChenWrite (ini : Initiator) (k : Fin 32) (v : Word)
  /-- A write of EVF_TASKu sets enables and mode, discarding a held arrival when EN becomes 0, under the taint rule. (R500) -/
  | evfTaskWrite (ini : Initiator) (u : Fin 160) (v : Word)
  /-- A write of a sorter's configuration clears its state, under the taint rule. (R481) -/
  | evfSortWrite (ini : Initiator) (n : Fin 16) (hi : Bool) (v : Word)
  /-- An arrival at EVT_HST_IRQ sends its host vector. (R479) -/
  | hstIrqTask (n : Fin 8)
  /-- An arrival at EVT_TILE_BCHK runs a barometer check without issue seal. (R479) -/
  | tileBchkTask (t : Fin 32)
  /-- A write of RTC_SNAP.REQ or an EVT_RTC_SNAP arrival starts a snapshot. (R493) -/
  | rtcSnap (ini : Initiator)
  /-- A write of RTC_WCMD.GO stages a new time and sets WPEND. (R494) -/
  | rtcWriteStage (ini : Initiator)
  /-- A write of RTC_WCMD.CANCEL clears WPEND. (R494) -/
  | rtcWriteCancel (ini : Initiator)
  /-- PST_CMD MOUNT classes every page, repairs duplicate keys and builds the index. (R527) -/
  | mount (c : PstCall)
  /-- PST_CMD WRITE checks the request and pre-scan and writes a new record in five steps. (R520) -/
  | pstWrite (ini : Initiator) (r : PstRun)
  /-- PST_CMD DELETE supersedes the key's valid page. (R524) -/
  | pstDelete (ini : Initiator) (r : PstRun)
  /-- PST_CMD FIND looks up a key in the index. (R524) -/
  | pstFind (ini : Initiator)
  /-- A read of the parameter-store window returns corrected data, waiting for an operation on its page. (R514) -/
  | pstWindowRead (ini : Initiator) (u : Fin 32768)
  /-- CIP_CMD JOB starts a set-U cipher job, waiting for the core. (R546) -/
  | cipJob (ini : Initiator)
  /-- CIP_CMD LOAD copies row bytes into the buffer, refusing a sealed row. (R548) -/
  | cipLoad (ini : Initiator)
  /-- CIP_CMD STORE copies buffer bytes to rows in partial writes. (R550) -/
  | cipStore (ini : Initiator)
  /-- KEYSET writes a key from the buffer into a slot. (R552) -/
  | keyset (ini : Initiator)
  /-- KEYCLR zeroes a key slot. (R552) -/
  | keyclr (ini : Initiator)
  /-- KEYUSE rewrites a slot's USE. (R552) -/
  | keyuse (ini : Initiator)
  /-- DERIVE runs the KDF under slot 0 into a slot or the boot register. (R553) -/
  | derive (ini : Initiator)
  /-- UNWRAP unwraps a key into a slot by RFC 3394. (R554) -/
  | unwrap (ini : Initiator)
  /-- CIP_CMD CLEAR zeroes buffer, IV, tag registers and message context. (R552) -/
  | cipClear (ini : Initiator)
  /-- A write of CIP_LOCK.REQ queues the writer for the lock. (R556) -/
  | cipLockRequest (ini : Initiator)
  /-- A write of CIP_LOCK.REL releases the lock, zeroing set U. (R559) -/
  | cipLockRelease (ini : Initiator)
  /-- A slot-engine request reaches the engine and waits for the core to be free. (R562) -/
  | slotEngineRequest (slot : Fin 16) (nonce : List Byte) (enc : Bool) (dec : Bool) (tagLen : Fin 17) (adata : List Byte) (data : List Byte) (tag : List Byte)
  /-- LNK_CMD START_TSCH sets the ASN and slot phase and enters SYNCED. (R584) -/
  | startTsch (ini : Initiator)
  /-- LNK_CMD START_CSMA enters CSMA on RAD_CHAN. (R583) -/
  | startCsma (ini : Initiator)
  /-- LNK_CMD STOP enters STOPPED and returns in-flight buffers to READY. (R583) -/
  | lnkStop (ini : Initiator)
  /-- A slot starts; producers fire, a link is chosen, and the frame is assembled, secured and sent, or the slot is skipped. (R592) -/
  | slotStart (cca : Cca)
  /-- A CSMA backoff ends and a READY buffer is assembled and sent, or found busy. (R601) -/
  | csmaAccess (cca : Cca)
  /-- A transmission attempt ends with acknowledgement or exhausted retries, setting its status and firing EVP_LNK_TXDONE. (R594) -/
  | txDone (r : TxResult)
  /-- A received frame is checked in order, acknowledged, de-duplicated and entered in the RX ring. (R603) -/
  | rxFrame (psdu : List Byte) (power : Int) (chips : Fin 257) (stamp : BitVec 32) (corr : Int)
  /-- An energy-detect measurement ends into RAD_ED. (R602) -/
  | edDone (power : Int)
  /-- TXCMD.READY moves a buffer to READY, or ends BADARG on its descriptor. (R594) -/
  | txReady (ini : Initiator)
  /-- TXCMD.CANCEL ends a READY buffer CANCELLED, or stops retries of an in-flight one. (R611) -/
  | txCancel (ini : Initiator)
  /-- TXCMD.LOAD appends row bytes to an EMPTY buffer, refusing a sealed row. (R599) -/
  | txLoad (ini : Initiator)
  /-- TXCMD.FREE returns a DONE buffer to EMPTY. (R594) -/
  | txFree (ini : Initiator)
  /-- A write of LNK_RXPOP.POP removes the oldest received frame. (R607) -/
  | lnkRxpop (ini : Initiator)
  /-- A write of the frame counter takes effect only when it raises it. (R600) -/
  | lnkFcWrite (ini : Initiator) (hi : Bool) (v : Word)
  /-- A write of RAD_CHAN outside 11-26 is ignored with BADCHAN. (R578) -/
  | radChanWrite (ini : Initiator) (v : Word)
  /-- A write of RAD_TXPWR is clamped with PWRCLAMP. (R578) -/
  | radTxpwrWrite (ini : Initiator) (v : Word)
  /-- An MMP scan dwell ends; a hub that heard nothing claims, a leaf moves to the next channel. (R627) -/
  | scanDwellEnd (hub : Bool) (heard : List Heard)
  /-- A claimant hears a lower claim or a running mesh and withdraws. (R629) -/
  | claimHeard (b : Heard)
  /-- A waiting node receives a START beacon, synchronises and joins. (R631) -/
  | startBeaconHeard (b : Heard)
  /-- A parent receives a JOINREQ and answers with a JOINACK. (R633) -/
  | joinreq (f : MmpFrame)
  /-- A joiner receives a JOINACK and takes its cells, rank and depth, or tries the next candidate. (R633) -/
  | joinack (f : MmpFrame)
  /-- The root receives a ROUTE message and updates its route table. (R636) -/
  | route (f : MmpFrame)
  /-- The root judges each record of a zone report against its stream window. (R637) -/
  | zreport (f : MmpFrame)
  /-- A stream silent for STREAMTO is removed. (R637) -/
  | streamTimeout (origin : BitVec 64) (zone : Fin 64) (cluster : Fin 4)
  /-- A node receives LEAVE from its parent and leaves JOINED. (R639) -/
  | leave (f : MmpFrame)
  /-- A receiver handles a HANDOVER and answers with a HANDACK. (R642) -/
  | handover (f : MmpFrame) (place : Bool) (sensor : Bool)
  /-- A sender receives a HANDACK and stops repeating. (R642) -/
  | handack (f : MmpFrame)
  /-- A sender without HANDACK repeats its HANDOVER once per second. (R642) -/
  | handoverRepeat (payload : List Byte)
  /-- A write of WIR_CTRL.EN starts negotiation or training, or silences the link. (R659) -/
  | wirEnable (ini : Initiator) (on : Bool)
  /-- WIR_CTRL.RESTART restarts negotiation or training. (R659) -/
  | wirRestart (ini : Initiator)
  /-- Auto-negotiation resolves role and amplitude, or fails with ANFAIL. (R657) -/
  | anResolved (role : Fin 4) (hiable : Bool) (hireq : Bool) (common : Bool) (seed : Fin 3)
  /-- A 65,536-symbol window ends and SQI is updated. (R660) -/
  | sqiWindowEnd (snr : Int)
  /-- A received wired frame is checked in order, de-duplicated and entered in the RX ring. (R674) -/
  | wirRxFrame (frame : List Byte) (amp : Nat)
  /-- WIR_TXCMD.READY moves a buffer to READY, or ends BADARG. (R669) -/
  | wirTxReady (ini : Initiator)
  /-- WIR_TXCMD.CANCEL ends a READY buffer CANCELLED. (R681) -/
  | wirTxCancel (ini : Initiator)
  /-- WIR_TXCMD.RESEND returns a SENT or LINKDOWN buffer to READY with its assembled bytes. (R678) -/
  | resend (ini : Initiator)
  /-- WIR_TXCMD.FREE returns a DONE buffer to EMPTY. (R667) -/
  | wirTxFree (ini : Initiator)
  /-- A write of WIR_RXPOP.POP removes the oldest wired entry. (R676) -/
  | wirRxpop (ini : Initiator)
  /-- A write of WIR_CFG.DUPCLR empties the neighbour table. (R675) -/
  | dupclr (ini : Initiator)
  /-- A write of WIR_SEQ takes effect only when it raises it. (R672) -/
  | wirSeqWrite (ini : Initiator) (hi : Bool) (v : Word)
  /-- Relay firmware forwards a DATA frame with HOPS lowered and answers it with an ACK. (R666) -/
  | wrhRelay (fwd : Fin 4) (ackBuf : Fin 4) (next : BitVec 48)
  /-- A write of SNS_TRIG starts a frame of a port, or sets OVR when busy. (R693) -/
  | snsTrig (ini : Initiator) (v : Word)
  /-- The start delay ends and the port captures its bus script or samples into staging. (R693) -/
  | captureStart (n : Fin 11)
  /-- Capture ends, and the port requests its domains and starts the flush, or ends with an error. (R694) -/
  | captureDone (n : Fin 11) (r : Capture)
  /-- The last flush write is accepted and EVP_SNS_FRAME and due epoch producers fire. (R697) -/
  | flushDone (n : Fin 11)
  /-- A PIR conversion ends and its sample is staged and compared. (R700) -/
  | pirSample (p : Fin 4) (uv : Int)
  /-- A PDM window ends and its envelope sample is staged and compared. (R701) -/
  | pdmWindowEnd (num : Nat) (den : Nat)
  /-- A debounced GPIO edge fires EVP_SNS_GPIOIN. (R704) -/
  | gpioInEdge (k : Fin 2) (level : Bool)
  /-- A GPIO pulse of PW cycles ends and the ball returns. (R705) -/
  | gpioPulseEnd (g : Fin 16)
  /-- A write of SNS_GPIOSET sets OUT bits. (R705) -/
  | snsGpioset (ini : Initiator) (v : Word)
  /-- A write of SNS_GPIOCLR clears OUT bits. (R705) -/
  | snsGpioclr (ini : Initiator) (v : Word)
  /-- Writing SNS_PnCFG.EN 0 aborts a frame in progress. (R713) -/
  | portDisable (ini : Initiator) (n : Fin 11) (v : Word)
  /-- A write of SNS_EPOCHk restarts its frame count. (R715) -/
  | snsEpochWrite (ini : Initiator) (k : Fin 8) (v : Word)
  /-- A write of FLT_MGMTk sets management states and raises data-path states. (R719) -/
  | fltMgmtWrite (ini : Initiator) (k : Fin 4) (v : Word)
  /-- A write of FLT_DPREL sets D := M for a unit or all units. (R720) -/
  | fltDprel (ini : Initiator) (v : Word)
  /-- A write that sets FLT_WDCFG.EN starts the watchdog with its TIMEOUT. (R731) -/
  | watchdogEnable (ini : Initiator) (v : Word)
  /-- A write of FLT_WDKICK clears the count, or makes the watchdog expire. (R732) -/
  | watchdogKick (ini : Initiator) (v : Word)
  /-- The watchdog count reaches TIMEOUT, logs WDOG and asserts the watchdog reset. (R732) -/
  | watchdogExpiry (ticks : Nat)
  /-- A write of FLT_LOGPOP.POP removes the oldest log entry. (R728) -/
  | logPop (ini : Initiator)
  /-- A write of FLT_LOGW1 enters a firmware log entry. (R735) -/
  | logWrite (ini : Initiator) (v : Word)
  /-- A write of DBG_HALT halts a core at its next boundary, after any sealed wipe. (R754) -/
  | dbgHalt (ini : Initiator) (v : Fin 32)
  /-- DBG_RESUME.RUN returns a halted core to RUN. (R754) -/
  | dbgResume (ini : Initiator) (v : Fin 32)
  /-- DBG_RESUME.STEP runs one instruction of a halted core. (R754) -/
  | dbgStep (ini : Initiator) (v : Fin 32)
  /-- DBG_START moves a core from RESET to RUN at DBG_STARTPC. (R754) -/
  | dbgStart (ini : Initiator) (v : Fin 32)
  /-- An access of DBG_CDATA reads or writes a halted core's register. (R754) -/
  | dbgCdataAccess (ini : Initiator) (w : Option Word)
  /-- A core executes a word whose major opcode, fn or sub is not listed, or whose unused fields are non-zero, and raises ILLEGAL without effect. (R326) -/
  | illegalInstruction (k : Fin 5) (w : Word)
  /-- A router receives an MMP frame with UP 1, or a routed frame, and forwards it toward its parent or target with TTL lowered and security reapplied, or discards it at TTL 0. (R636) -/
  | mmpFrameForward (f : MmpFrame)
  /-- A supply falls below its POR threshold and the power-on reset asserts, clearing state as Table CLK-6 states. (R89) -/
  | powerOnReset
  /-- A PCI Express function-level reset clears host, queue and fence state, aborts host commands and clears the scratchpads of re-owned clusters. (R463) -/
  | flr
  /-- The pending clk_core switch takes effect once CLK_PLLA.LOCK is 1, and BUSY clears. (R83) -/
  | clockSwitch
  /-- PLL_A loses lock while driving clk_core, which switches to clk_xo and sets ALOST. (R85) -/
  | pllLoss
  /-- Once every domain has reached its Calm state and SV parks, SUP goes to RET and the XO is stopped. (R121) -/
  | calmEntryDone
  /-- The Frost arming window ends and ARM clears. (R120) -/
  | frostArmExpiry
  /-- WAKE_N low in Frost runs a power-on reset and sets FROSTEXIT. (R123) -/
  | frostWake
  /-- The boot loader loads the fuse shadow, checks its CRC and brings up the domains the boot source needs. (R140) -/
  | bootFuse
  /-- The staged parcel is checked in order; a failure falls back to the backup copy or enters HOLD. (R150) -/
  | bootCheck
  /-- The boot loader applies CLK, mounts the store, loads trims, locks classes and the meter, writes keys and REG entries, and copies code. (R151) -/
  | bootApply
  /-- The flash is put in deep power-down if asked, its pins released, RELEASED set and SP0 cleared. (R155) -/
  | bootRelease
  /-- BOOT_STATUS.DONE is set, MODE is forced to Gale if needed, and the START cores begin at their entry addresses. (R157) -/
  | bootDone
  /-- An ABANDON ends after 4,096 cycles, BUSY clears and COUNT is set. (R452) -/
  | abandonEnd
  /-- The capture edge latches SEC, SUB and FRAC and the snapshot becomes VALID. (R493) -/
  | snapCapture
  /-- SUB wraps, SEC advances or takes the staged time, and EVP_RTC_SEC fires. (R494) -/
  | rtcSecondBoundary
  /-- The time reaches the alarm, EVP_RTC_ALARM fires and EN clears. (R496) -/
  | rtcAlarm
  /-- SUB reaches a multiple of the tick period and EVP_RTC_TICK fires. (R496) -/
  | rtcTick
  /-- A rail falls below its brown-out threshold and the array operation is stopped and discharged. (R525) -/
  | brownOutAbort
  /-- A set-U operation ends and its result code is written to the owner's record. (R547) -/
  | cipOpComplete
  /-- The lock is granted to the next queued owner after a release. (R556) -/
  | cipLockGrant
  /-- A holder exceeds CIP_LOCKTO and its lock is revoked. (R560) -/
  | lockTimeout
  /-- A slot-engine CCM* job runs on set S ahead of every set-U job and returns its result. (R563) -/
  | slotEngineJob
  /-- LEAD before an active slot, LNK is brought ON and requests RF, SEC and SUP. (R593) -/
  | slotWake
  /-- LNK_SINCE reaches LNK_DESYNC.SLOTS and the engine enters DESYNC. (R587) -/
  | lnkDesync
  /-- A claimant sends a claim beacon each beacon period. (R628) -/
  | claimBeacon
  /-- An unwithdrawn claimant's hold ends and it becomes root with a START beacon. (R630) -/
  | claimholdEnd
  /-- A withdrawn claimant hears no START within WDRAWWAIT and returns to SCAN. (R631) -/
  | wdrawwaitEnd
  /-- A joiner's wait for a JOINACK ends and it retries or moves on. (R632) -/
  | joinwaitEnd
  /-- A node loses its parent or root and leaves JOINED for SCAN. (R639) -/
  | parentLoss
  /-- One second after ANFAIL, negotiation restarts. (R659) -/
  | anRestart
  /-- Training converges and the link goes UP, firing EVP_WIR_LINK. (R659) -/
  | trainConverged
  /-- Training does not converge within 2.0 s and restarts. (R659) -/
  | trainTimeout
  /-- Lock is lost, the link goes down and an in-flight buffer ends LINKDOWN. (R659) -/
  | wirLinkLoss
  /-- A READY buffer is assembled from template and rows, checked for seal, numbered and secured when the MAC is free. (R667) -/
  | wirAssembly
  /-- A wired frame ends on the line and its buffer becomes DONE. (R667) -/
  | wirTxDone
  /-- TRST_N or five TCK cycles with TMS high reset the TAP to IDCODE. (R746) -/
  | tapReset
  /-- The IDCODE instruction selects the identification register. (R748) -/
  | idcode
  /-- CLAMP holds the boundary outputs and selects bypass. (R747) -/
  | clamp
  /-- HIGHZ floats the outputs and selects bypass. (R747) -/
  | highz
  /-- BYPASS selects the 1-bit bypass register. (R747) -/
  | bypass
  /-- A debug access completes with its status, reading zero under seal. (R752) -/
  | dapaccDone
  /-- Test mode SCAN connects the internal scan chains. (R757) -/
  | testScan
  /-- An RX slot's TsRxWait passes with no frame, the receiver turns off and the domains the slot woke are returned. (R593) -/
  | tsRxWaitEnd
  /-- A disagreement lasts 158 ticks and is reported to the host as MGMT_DISAGREE. (R729) -/
  | disagreementReport (ticks : Nat)
  /-- SAMPLE/PRELOAD selects the boundary register for sampling. (R747) -/
  | samplePreload (cap : List Bool) (upd : List Bool)
  /-- EXTEST drives output balls from the boundary register. (R749) -/
  | extest (cap : List Bool) (upd : List Bool)
  /-- An Update-DR of DAPACC starts one debug access, or is denied. (R750) -/
  | dapacc (addr : BitVec 32) (data : Word) (write : Bool)
  /-- An Update-DR of TESTMODE with GO clears memories and keys and enters a test mode. (R757) -/
  | testmode (mode : Fin 16) (go : Bool)
  /-- Test mode MBIST tests the memories. (R757) -/
  | testMbist (pass : Bool)
  /-- Test mode TILETEST programs and reads tile test patterns. (R757) -/
  | testTiletest (t : Fin 32) (bad : List (Fin 768))
  /-- Test mode FUSE blows fuse fields. (R757) -/
  | testFuse (blow : FuseBlow)
  /-- Test mode ANATRIM measures the ABIAS references. (R757) -/
  | testAnatrim (pass : Bool)
  /-- An arrival at EVT_DBG_HALT halts its core. (R754) -/
  | dbgHaltTask (n : Fin 4)
  /-- The 32.768 kHz crystal starts or stops, CLK_STATUS.AONOK changes, and the RTC and the epoch-interval counting start or stop. (R105) -/
  | aonCrystalChange (on : Bool)
  /-- The PCI Express link comes up or goes down, HST_LINK.UP changes, and MSI-X delivery switches between messages and HST_VPEND with HIRQ_N. (R435) -/
  | pcieLinkChange (up : Bool) (speed : Fin 4) (x2 : Bool)
  /-- The PCI Express reference clock appears or disappears, CLK_STATUS.PCIEREF changes and clk_pcie starts or stops. (R78) -/
  | pcieRefclkChange (on : Bool)
  /-- The host accesses the endpoint's configuration space, for example moving the function between D0 and D3hot or enabling MSI-X. (R427) -/
  | pcieConfigAccess (a : PcieConfig)
  deriving DecidableEq, Repr

end Sys2Proof
end

