-- ==== Sys2Proof/Decode.lean ====
section
/-! DEFINITION. The command a word of spec/opcode_table.json spells: none, for no row of the table gives bits, commands
reach the block as operations of its ports. And the instruction words of the control cores (R325-R327, Tables CORE-2 to
CORE-8): the command a core makes of a word, and the word of a command. -/

namespace Sys2Proof

/-- The command a word of the table spells: none, for no row gives bits. -/
def decodeTableWord (_nbits _w : Nat) : Option Instr := none

/-! ### Fields of a core's instruction word (Table CORE-2) -/

/-- Bits of a word. -/
def coreBits (w : Word) (lo n : Nat) : Nat := w.toNat / 2 ^ lo % 2 ^ n

/-- The major opcode. -/
def coreOp (w : Word) : Nat := coreBits w 18 6

/-- A register field. -/
def coreReg (w : Word) (lo : Nat) : Fin 16 := Fin.ofNat 16 (coreBits w lo 4)

/-- The field of rd; rs1 of CB and CZ. -/
def fieldA (w : Word) : Fin 16 := coreReg w 14
/-- The field of rs1; rs2 of CB. -/
def fieldB (w : Word) : Fin 16 := coreReg w 10
/-- The field of rs2. -/
def fieldC (w : Word) : Fin 16 := coreReg w 6
/-- fn of RR. -/
def coreFn (w : Word) : Fin 64 := Fin.ofNat 64 (coreBits w 0 6)
/-- imm10 of RI, off10 of CB and CZ. -/
def coreImm10 (w : Word) : BitVec 10 := BitVec.ofNat 10 (coreBits w 0 10)
/-- off14 of JL, imm14 of LIH. -/
def coreImm14 (w : Word) : BitVec 14 := BitVec.ofNat 14 (coreBits w 0 14)
/-- imm4 of CZ. -/
def coreImm4 (w : Word) : BitVec 4 := BitVec.ofNat 4 (coreBits w 10 4)
/-- rm of QF. -/
def coreRm (w : Word) : Fin 4 := Fin.ofNat 4 (coreBits w 4 2)
/-- sat of QF. -/
def coreSat (w : Word) : Bool := coreBits w 3 1 == 1
/-- sub of QF. -/
def coreSub (w : Word) : Fin 8 := Fin.ofNat 8 (coreBits w 0 3)

/-! ### Which words are legal (R326) -/

/-- CSR indexes of Table CORE-12. -/
def csrListed (i : Nat) : Bool :=
  decide (i ≤ 0x005) || (decide (0x008 ≤ i) && decide (i ≤ 0x00B)) || i == 0x010 || i == 0x011 ||
  (decide (0x018 ≤ i) && decide (i ≤ 0x01A)) || (decide (0x020 ≤ i) && decide (i ≤ 0x02F))

/-- Functions of Table CORE-4, with their zero field. -/
def aluLegal (fn rs2 : Nat) : Bool :=
  decide (fn ≤ 0x0D) || (decide (0x10 ≤ fn) && decide (fn ≤ 0x12)) || (decide (0x14 ≤ fn) && decide (fn ≤ 0x17)) ||
  (decide (0x18 ≤ fn) && decide (fn ≤ 0x1A) && rs2 == 0)

/-- Shift immediates of SHI. -/
def shiLegal (imm : Nat) : Bool := decide (imm / 256 < 3) && imm / 32 % 8 == 0 && decide (imm % 32 ≤ 23)

/-- Functions of Table CORE-7, with their zero fields. -/
def accLegal (fn rd rs1 rs2 : Nat) : Bool :=
  decide (rs2 < 2) && decide (fn ≤ 9) && (if fn ≤ 2 then rs1 == 0 else rd == 0) &&
  (!(decide (6 ≤ fn) && decide (fn ≤ 8)) || rs1 == 0)

/-- Field use of the QF instructions (Table CORE-6). -/
def qfLegal (op rd rs1 rs2 rm : Nat) (sat : Bool) (sub : Nat) : Bool :=
  match op with
  | 0x20 => decide (sub ≤ 4)
  | 0x21 => rm == 0 && (decide (sub ≤ 1) || (decide (sub ≤ 3) && rs2 == 0))
  | 0x22 => sub == 0 || (sub == 1 && rm == 0)
  | 0x23 => rm == 0 && decide (rd < 8) && decide (sub ≤ 1)
  | 0x24 => decide (rs1 < 2) && (sub == 5 || (decide (sub ≤ 4) && rs2 == 0))
  | _ => decide (sub ≤ 5) && (sub == 2 || rm == 0) && (decide (sub ≤ 2) || !sat) && (!decide (4 ≤ sub) || rs2 == 0)

/-- R326: the major opcode, fn or sub is listed, every unused field is zero, a shift immediate is in range, a CSR index is
listed. -/
def coreWordLegal (w : Word) : Bool :=
  let op := coreOp w
  if op = 0x00 then aluLegal (coreFn w) (fieldC w)
  else if op = 0x06 then shiLegal (coreBits w 0 10)
  else if 0x01 ≤ op ∧ op ≤ 0x09 ∨ 0x10 ≤ op ∧ op ≤ 0x1D then true
  else if op = 0x25 then accLegal (coreFn w) (fieldA w) (fieldB w) (fieldC w)
  else if 0x20 ≤ op ∧ op ≤ 0x26 then qfLegal op (fieldA w) (fieldB w) (fieldC w) (coreRm w) (coreSat w) (coreSub w)
  else if op = 0x30 then csrListed (coreBits w 0 10) && fieldB w == 0
  else if 0x31 ≤ op ∧ op ≤ 0x33 then csrListed (coreBits w 0 10)
  else op == 0x3F && coreBits w 6 12 == 0 && decide (coreBits w 0 6 ≤ 5)

/-! ### Decoding and encoding (Tables CORE-3 to CORE-8) -/

/-- The SYS instruction of a function (Table CORE-8). -/
def decodeSys (k : Fin 5) (fn : Nat) : Instr :=
  match fn with
  | 0 => .sysNop k
  | 1 => .tend k
  | 2 => .park k
  | 3 => .xback k
  | 4 => .brk k
  | _ => .drain k

/-- The command core k makes of an instruction word. -/
def decodeCore (k : Fin 5) (w : Word) : Instr :=
  if coreWordLegal w then
    let a := fieldA w
    let b := fieldB w
    let c := fieldC w
    let rm := coreRm w
    let sat := coreSat w
    let sub := coreSub w
    let op := coreOp w
    if op = 0x00 then .alu k (coreFn w) a b c
    else if op = 0x01 then .addi k a b (coreImm10 w)
    else if op = 0x02 then .andi k a b (coreImm10 w)
    else if op = 0x03 then .ori k a b (coreImm10 w)
    else if op = 0x04 then .xori k a b (coreImm10 w)
    else if op = 0x05 then .tlti k a b (coreImm10 w)
    else if op = 0x06 then .shi k a b (coreImm10 w)
    else if op = 0x07 then .lih k a (coreImm14 w)
    else if op = 0x08 then .ld k a b (coreImm10 w)
    else if op = 0x09 then .st k a b (coreImm10 w)
    else if op ≤ 0x15 then .cbBranch k (Fin.ofNat 6 (op - 0x10)) a b (coreImm10 w)
    else if op ≤ 0x1B then .czBranch k (Fin.ofNat 6 (op - 0x16)) a (coreImm4 w) (coreImm10 w)
    else if op = 0x1C then .call k a (coreImm14 w)
    else if op = 0x1D then .callr k a b (coreImm10 w)
    else if op = 0x20 then .qmul k a b c rm sat sub
    else if op = 0x21 then .qadd k a b c rm sat sub
    else if op = 0x22 then .qsh k a b c rm sat sub
    else if op = 0x23 then .mac k a b c rm sat sub
    else if op = 0x24 then .accx k a b c rm sat sub
    else if op = 0x25 then .acc k a b c (coreFn w)
    else if op = 0x26 then .hop k a b c rm sat sub
    else if op = 0x30 then .csrr k a b (coreImm10 w)
    else if op = 0x31 then .csrw k a b (coreImm10 w)
    else if op = 0x32 then .csrset k a b (coreImm10 w)
    else if op = 0x33 then .csrclr k a b (coreImm10 w)
    else decodeSys k (coreBits w 0 6)
  else .illegalInstruction k w

/-- A word of RR, or with its low field given of any other format. -/
def coreWord (op a b low : Nat) : Word := BitVec.ofNat 24 (op * 2 ^ 18 + a * 2 ^ 14 + b * 2 ^ 10 + low)

/-- A word of QF. -/
def qfWord (op : Nat) (rd rs1 rs2 : Fin 16) (rm : Fin 4) (sat : Bool) (sub : Fin 8) : Word :=
  coreWord op rd rs1 (rs2 * 64 + rm * 16 + (if sat then 8 else 0) + sub)

/-- The core and the word of a command that is a core's instruction. -/
def encodeCore : Instr → Option (Fin 5 × Word)
  | .alu k fn rd rs1 rs2 => some (k, coreWord 0x00 rd rs1 (rs2 * 64 + fn))
  | .addi k rd rs1 imm => some (k, coreWord 0x01 rd rs1 imm.toNat)
  | .andi k rd rs1 imm => some (k, coreWord 0x02 rd rs1 imm.toNat)
  | .ori k rd rs1 imm => some (k, coreWord 0x03 rd rs1 imm.toNat)
  | .xori k rd rs1 imm => some (k, coreWord 0x04 rd rs1 imm.toNat)
  | .tlti k rd rs1 imm => some (k, coreWord 0x05 rd rs1 imm.toNat)
  | .shi k rd rs1 imm => some (k, coreWord 0x06 rd rs1 imm.toNat)
  | .lih k rd imm => some (k, coreWord 0x07 rd 0 imm.toNat)
  | .ld k rd rs1 imm => some (k, coreWord 0x08 rd rs1 imm.toNat)
  | .st k rd rs1 imm => some (k, coreWord 0x09 rd rs1 imm.toNat)
  | .cbBranch k cond rs1 rs2 off => some (k, coreWord (0x10 + cond) rs1 rs2 off.toNat)
  | .czBranch k cond rs1 imm off => some (k, coreWord (0x16 + cond) rs1 imm.toNat off.toNat)
  | .call k rd off => some (k, coreWord 0x1C rd 0 off.toNat)
  | .callr k rd rs1 imm => some (k, coreWord 0x1D rd rs1 imm.toNat)
  | .qmul k rd rs1 rs2 rm sat sub => some (k, qfWord 0x20 rd rs1 rs2 rm sat sub)
  | .qadd k rd rs1 rs2 rm sat sub => some (k, qfWord 0x21 rd rs1 rs2 rm sat sub)
  | .qsh k rd rs1 rs2 rm sat sub => some (k, qfWord 0x22 rd rs1 rs2 rm sat sub)
  | .mac k rd rs1 rs2 rm sat sub => some (k, qfWord 0x23 rd rs1 rs2 rm sat sub)
  | .accx k rd rs1 rs2 rm sat sub => some (k, qfWord 0x24 rd rs1 rs2 rm sat sub)
  | .acc k rd rs1 rs2 fn => some (k, coreWord 0x25 rd rs1 (rs2 * 64 + fn))
  | .hop k rd rs1 rs2 rm sat sub => some (k, qfWord 0x26 rd rs1 rs2 rm sat sub)
  | .csrr k rd rs1 imm => some (k, coreWord 0x30 rd rs1 imm.toNat)
  | .csrw k rd rs1 imm => some (k, coreWord 0x31 rd rs1 imm.toNat)
  | .csrset k rd rs1 imm => some (k, coreWord 0x32 rd rs1 imm.toNat)
  | .csrclr k rd rs1 imm => some (k, coreWord 0x33 rd rs1 imm.toNat)
  | .sysNop k => some (k, coreWord 0x3F 0 0 0)
  | .tend k => some (k, coreWord 0x3F 0 0 1)
  | .park k => some (k, coreWord 0x3F 0 0 2)
  | .xback k => some (k, coreWord 0x3F 0 0 3)
  | .brk k => some (k, coreWord 0x3F 0 0 4)
  | .drain k => some (k, coreWord 0x3F 0 0 5)
  | .illegalInstruction k w => if coreWordLegal w then none else some (k, w)
  | _ => none

end Sys2Proof
end

