-- ==== Sys2Proof/Machine/Tab.lean ====
section
/-! DEFINITION. Sparse tables in one canonical form: keys strictly rising, no entry equal to what an unlisted
key reads as. Memories, the register bank, tags and the arrays of units are tables of this kind. -/

namespace Sys2Proof.Machine

/-- A table: the listed keys and their values. -/
abbrev Tab (α : Type) := List (Nat × α)

/-- The value at a key; `d` says what an unlisted key reads as. -/
def tabGet {α : Type} (d : Nat → α) : Tab α → Nat → α
  | [], k => d k
  | (k', v) :: t, k => if k = k' then v else tabGet d t k

/-- An entry placed before the first greater key. -/
def tabInsert {α : Type} (k : Nat) (v : α) : Tab α → Tab α
  | [] => [(k, v)]
  | (k', v') :: t => if k < k' then (k, v) :: (k', v') :: t else (k', v') :: tabInsert k v t

/-- The table with one key set, in canonical form: an entry equal to what the key reads as unlisted is left out. -/
def tabSet {α : Type} [DecidableEq α] (d : Nat → α) (m : Tab α) (k : Nat) (v : α) : Tab α :=
  let t := m.filter fun e => e.1 != k
  if v = d k then t else tabInsert k v t

/-- The table with every key that `p` takes back at what it reads as unlisted. -/
def tabClear {α : Type} (p : Nat → Bool) (m : Tab α) : Tab α := m.filter fun e => !p e.1

/-- Consecutive keys written from a list, the first value at key `k`. -/
def tabSetList {α : Type} [DecidableEq α] (d : Nat → α) : Tab α → Nat → List α → Tab α
  | m, _, [] => m
  | m, k, v :: vs => tabSetList d (tabSet d m k v) (k + 1) vs

/-- `n` consecutive values from key `k` on. -/
def tabGetList {α : Type} (d : Nat → α) (m : Tab α) (k n : Nat) : List α :=
  (List.range n).map fun i => tabGet d m (k + i)

/-- The canonical form: every key above `lo`, keys strictly rising, no entry at its unlisted value. -/
def tabWfFrom {α : Type} [DecidableEq α] (d : Nat → α) : Option Nat → Tab α → Bool
  | _, [] => true
  | lo, (k, v) :: t =>
    (match lo with | none => true | some l => decide (l < k)) && decide (v ≠ d k) && tabWfFrom d (some k) t

/-- A table in canonical form. -/
def tabWf {α : Type} [DecidableEq α] (d : Nat → α) (m : Tab α) : Bool := tabWfFrom d none m

/-- Field of a number: `w` bits from bit `lo` on. -/
def bitsOf (v lo w : Nat) : Nat := v / 2 ^ lo % 2 ^ w

/-- One bit of a number. -/
def bitOf (v i : Nat) : Bool := v / 2 ^ i % 2 == 1

/-- The number with `w` bits from bit `lo` on replaced by the low bits of `x`. -/
def putBits (v lo w x : Nat) : Nat := v - bitsOf v lo w * 2 ^ lo + x % 2 ^ w * 2 ^ lo

/-- 1 for true, 0 for false. -/
def b2n (b : Bool) : Nat := if b then 1 else 0

/-- The signed value of the low `w` bits. -/
def signed (w v : Nat) : Int :=
  let u := v % 2 ^ w
  if u < 2 ^ (w - 1) then (u : Int) else (u : Int) - (2 : Int) ^ w

/-- The low `w` bits of an integer, as a number. -/
def unsigned (w : Nat) (v : Int) : Nat := (v % (2 : Int) ^ w).toNat

/-- A counter that stops at its greatest value. -/
def satAdd (w v n : Nat) : Nat := min (2 ^ w - 1) (v + n)

/-- Little-endian value of bytes, the first least significant (R8). -/
def ofBytes : List (BitVec 8) → Nat
  | [] => 0
  | b :: bs => b.toNat + 256 * ofBytes bs

/-- `n` bytes of a number, the least significant first (R8). -/
def toBytes : Nat → Nat → List (BitVec 8)
  | 0, _ => []
  | n + 1, v => BitVec.ofNat 8 v :: toBytes n (v / 256)

end Sys2Proof.Machine
end

