-- ==== Sys2Proof/Machine/Aes.lean ====
section
/-! DEFINITION. The ciphers and modes that R540, R543, R548-R554 and R148 take from their standards: AES-128 and AES-256
(FIPS-197), CMAC (SP 800-38B), CCM* (SP 800-38C), GCM (SP 800-38D), the counter-mode KDF (SP 800-108) and AES Key Wrap
(RFC 3394). A block is a number of 128 bits whose byte 0 is the most significant. -/

namespace Sys2Proof.Machine

/-- Big-endian value of bytes. -/
def beOf (bs : List (BitVec 8)) : Nat := bs.foldl (fun v b => 256 * v + b.toNat) 0

/-- `n` bytes of a number, the most significant first. -/
def beBytes (n v : Nat) : List (BitVec 8) := (toBytes n v).reverse

/-- Sixteen bytes as a block, a shorter list padded with zeros. -/
def blockOf (bs : List (BitVec 8)) : Nat := beOf ((bs ++ List.replicate 16 0).take 16)

/-- Bytes cut into blocks, the last padded with zeros. -/
def blocksOf (bs : List (BitVec 8)) : List Nat :=
  (List.range ((bs.length + 15) / 16)).map fun i => blockOf ((bs.drop (16 * i)).take 16)

/-! ### AES (FIPS-197) -/

/-- The S-box, a row for each high nibble. -/
def sboxRows : List Nat :=
  [0x637c777bf26b6fc53001672bfed7ab76, 0xca82c97dfa5947f0add4a2af9ca472c0, 0xb7fd9326363ff7cc34a5e5f171d83115,
   0x04c723c31896059a071280e2eb27b275, 0x09832c1a1b6e5aa0523bd6b329e32f84, 0x53d100ed20fcb15b6acbbe394a4c58cf,
   0xd0efaafb434d338545f9027f503c9fa8, 0x51a3408f929d38f5bcb6da2110fff3d2] ++
  [0xcd0c13ec5f974417c4a77e3d645d1973, 0x60814fdc222a908846eeb814de5e0bdb, 0xe0323a0a4906245cc2d3ac629195e479,
   0xe7c8376d8dd54ea96c56f4ea657aae08, 0xba78252e1ca6b4c6e8dd741f4bbd8b8a, 0x703eb5664803f60e613557b986c11d9e,
   0xe1f8981169d98e949b1e87e9ce5528df, 0x8ca1890dbfe6426841992d0fb054bb16]

/-- The inverse S-box. -/
def invSboxRows : List Nat :=
  [0x52096ad53036a538bf40a39e81f3d7fb, 0x7ce339829b2fff87348e4344c4dee9cb, 0x547b9432a6c2233dee4c950b42fac34e,
   0x082ea16628d924b2765ba2496d8bd125, 0x72f8f66486689816d4a45ccc5d65b692, 0x6c704850fdedb9da5e154657a78d9d84,
   0x90d8ab008cbcd30af7e45805b8b34506, 0xd02c1e8fca3f0f02c1afbd0301138a6b] ++
  [0x3a9111414f67dcea97f2cfcef0b4e673, 0x96ac7422e7ad3585e2f937e81c75df6e, 0x47f11a711d29c5896fb7620eaa18be1b,
   0xfc563e4bc6d279209adbc0fe78cd5af4, 0x1fdda8338807c731b11210592780ec5f, 0x60517fa919b54a0d2de57a9f93c99cef,
   0xa0e03b4dae2af5b0c8ebbb3c83539961, 0x172b047eba77d626e169146355210c7d]

/-- A byte's entry of a box. -/
def boxAt (rows : List Nat) (x : Nat) : Nat := bitsOf (rows.getD (x / 16) 0) (8 * (15 - x % 16)) 8

/-- Multiplication by x in GF(2^8). -/
def xtime (b : Nat) : Nat := if b < 128 then 2 * b else 2 * b ^^^ 0x11B

/-- Multiplication in GF(2^8) by a constant of four bits. -/
def gmul (k b : Nat) : Nat :=
  let b2 := xtime b
  let b4 := xtime b2
  (if bitOf k 0 then b else 0) ^^^ (if bitOf k 1 then b2 else 0) ^^^ (if bitOf k 2 then b4 else 0) ^^^
    (if bitOf k 3 then xtime b4 else 0)

/-- MixColumns with the first row of its matrix. -/
def mixCols (p q r t : Nat) : List Nat → List Nat
  | a :: b :: c :: d :: rest =>
    (gmul p a ^^^ gmul q b ^^^ gmul r c ^^^ gmul t d) :: (gmul t a ^^^ gmul p b ^^^ gmul q c ^^^ gmul r d) ::
    (gmul r a ^^^ gmul t b ^^^ gmul p c ^^^ gmul q d) :: (gmul q a ^^^ gmul r b ^^^ gmul t c ^^^ gmul p d) ::
    mixCols p q r t rest
  | _ => []

/-- ShiftRows on the bytes in input order: byte i comes from byte i + n (i mod 4) mod 16, n 4 or for the inverse 12. -/
def shiftRows (n : Nat) (s : List Nat) : List Nat := (List.range 16).map fun i => s.getD ((i + n * (i % 4)) % 16) 0

/-- The 16 bytes of a block. -/
def blockBytes (x : Nat) : List Nat := (List.range 16).map fun i => bitsOf x (8 * (15 - i)) 8

/-- The block of 16 bytes. -/
def bytesBlock (s : List Nat) : Nat := s.foldl (fun v b => 256 * v + b) 0

/-- SubWord of the key expansion. -/
def subWord (w : Nat) : Nat :=
  boxAt sboxRows (bitsOf w 0 8) + 2 ^ 8 * boxAt sboxRows (bitsOf w 8 8) + 2 ^ 16 * boxAt sboxRows (bitsOf w 16 8) +
    2 ^ 24 * boxAt sboxRows (bitsOf w 24 8)

/-- Round constant j of the key expansion. -/
def rcon : Nat → Nat
  | 0 => 1
  | n + 1 => xtime (rcon n)

/-- The next words of the key expansion, the newest first; `i` is the index of the next one. -/
def expand (nk : Nat) : Nat → Nat → List Nat → List Nat
  | 0, _, ws => ws
  | n + 1, i, ws =>
    let t := ws.headD 0
    let t' := if i % nk = 0 then subWord (bitsOf t 0 24 * 2 ^ 8 + bitsOf t 24 8) ^^^ (rcon (i / nk - 1) * 2 ^ 24)
      else if nk = 8 ∧ i % 8 = 4 then subWord t
      else t
    expand nk n (i + 1) ((ws.getD (nk - 1) 0 ^^^ t') :: ws)

/-- Words grouped into round keys. -/
def roundKeys : List Nat → List Nat
  | a :: b :: c :: d :: rest => (a * 2 ^ 96 + b * 2 ^ 64 + c * 2 ^ 32 + d) :: roundKeys rest
  | _ => []

/-- The round keys of a 16-byte or 32-byte key. -/
def keySchedule (key : List (BitVec 8)) : List Nat :=
  let nk := if key.length = 32 then 8 else 4
  let ws := (List.range nk).map fun i => beOf ((key.drop (4 * i)).take 4)
  roundKeys (expand nk (4 * (nk + 7) - nk) nk ws.reverse).reverse

/-- The rounds of the cipher after the first key addition. -/
def encRounds : List Nat → Nat → Nat
  | [], x => x
  | [k], x => bytesBlock (shiftRows 4 ((blockBytes x).map (boxAt sboxRows))) ^^^ k
  | k :: ks, x =>
    encRounds ks (bytesBlock (mixCols 2 3 1 1 (shiftRows 4 ((blockBytes x).map (boxAt sboxRows)))) ^^^ k)

/-- The cipher on one block. -/
def aesEnc (key : List (BitVec 8)) (x : Nat) : Nat :=
  match keySchedule key with
  | [] => x
  | k :: ks => encRounds ks (x ^^^ k)

/-- The rounds of the inverse cipher after the first key addition. -/
def decRounds : List Nat → Nat → Nat
  | [], x => x
  | [k], x => bytesBlock ((shiftRows 12 (blockBytes x)).map (boxAt invSboxRows)) ^^^ k
  | k :: ks, x =>
    decRounds ks (bytesBlock (mixCols 14 11 13 9
      (blockBytes (bytesBlock ((shiftRows 12 (blockBytes x)).map (boxAt invSboxRows)) ^^^ k))))

/-- The inverse cipher on one block. -/
def aesDec (key : List (BitVec 8)) (x : Nat) : Nat :=
  match (keySchedule key).reverse with
  | [] => x
  | k :: ks => decRounds ks (x ^^^ k)

/-! ### Chains and counters -/

/-- CBC-MAC over blocks from a chaining value. -/
def cbcMac (key : List (BitVec 8)) (x : Nat) (bs : List Nat) : Nat := bs.foldl (fun x b => aesEnc key (x ^^^ b)) x

/-- A counter block with its low `w` bits raised by n, modulo 2^w. -/
def ctrAdd (w n c : Nat) : Nat := c / 2 ^ w * 2 ^ w + (c + n) % 2 ^ w

/-- Key stream of a counter mode: bytes from the counter block c on. -/
def keyStream (key : List (BitVec 8)) (w c n : Nat) : List (BitVec 8) :=
  ((List.range ((n + 15) / 16)).flatMap fun i => beBytes 16 (aesEnc key (ctrAdd w i c))).take n

/-- Bytes under a key stream. -/
def xorBytes (a b : List (BitVec 8)) : List (BitVec 8) := List.zipWith (fun x y => x ^^^ y) a b

/-! ### CMAC -/

/-- Doubling in GF(2^128) of a CMAC subkey. -/
def cmacDouble (x : Nat) : Nat := if bitOf x 127 then (2 * x % 2 ^ 128) ^^^ 0x87 else 2 * x

/-- The last block of a CMAC under its subkey. -/
def cmacLast (key : List (BitVec 8)) (bs : List (BitVec 8)) : Nat :=
  let k1 := cmacDouble (aesEnc key 0)
  if bs.length = 16 then blockOf bs ^^^ k1 else blockOf (bs ++ [0x80]) ^^^ cmacDouble k1

/-- Where the last block of a CMAC message of n bytes begins. -/
def cmacSplit (n : Nat) : Nat := if n = 0 then 0 else (n - 1) / 16 * 16

/-- CMAC of bytes. -/
def cmac (key bs : List (BitVec 8)) : Nat :=
  aesEnc key (cbcMac key 0 (blocksOf (bs.take (cmacSplit bs.length))) ^^^ cmacLast key (bs.drop (cmacSplit bs.length)))

/-- The KDF of R148: `iters` iterations of 128 bits, with an 8-byte label and a 17-byte context. -/
def kdf (key label context : List (BitVec 8)) (iters : Nat) : List (BitVec 8) :=
  (List.range iters).flatMap fun i =>
    beBytes 16 (cmac key ([BitVec.ofNat 8 (i + 1)] ++ label ++ [0] ++ context ++ beBytes 2 (128 * iters)))

/-! ### CCM* (R544) -/

/-- B0 of CCM* with L = 2. -/
def ccmB0 (nonce : List (BitVec 8)) (tagLen aLen mLen : Nat) : Nat :=
  beOf ([BitVec.ofNat 8 ((if aLen = 0 then 0 else 64) + 8 * ((tagLen - 2) / 2) + 1)] ++ nonce.take 13 ++ beBytes 2 mLen)

/-- Counter block A_i of CCM*. -/
def ccmA (nonce : List (BitVec 8)) (i : Nat) : Nat := beOf ([1] ++ nonce.take 13 ++ beBytes 2 i)

/-- One whole CCM* operation: a-data without its length field, payload before the operation, whether the payload is
encrypted, whether it is decrypted; answers the payload after it and the tag. -/
def ccmStar (key nonce adata data : List (BitVec 8)) (tagLen : Nat) (enc dec : Bool) : List (BitVec 8) × List (BitVec 8) :=
  let ks := keyStream key 16 (ccmA nonce 1) data.length
  let out := if enc then xorBytes data ks else data
  let plain := if dec then out else data
  let a := if adata.isEmpty then [] else beBytes 2 adata.length ++ adata
  let x := cbcMac key (aesEnc key (ccmB0 nonce tagLen adata.length data.length)) (blocksOf a ++ blocksOf plain)
  (out, if tagLen = 0 then [] else (beBytes 16 (x ^^^ aesEnc key (ccmA nonce 0))).take tagLen)

/-! ### GCM -/

/-- Multiplication in GF(2^128) of SP 800-38D: bits of x from its most significant on, the running product and value. -/
def ghashMul : Nat → Nat → Nat → Nat → Nat
  | 0, _, z, _ => z
  | n + 1, x, z, v =>
    ghashMul n x (if bitOf x n then z ^^^ v else z) (if v % 2 = 1 then v / 2 ^^^ (0xE1 * 2 ^ 120) else v / 2)

/-- GHASH over blocks from a running value. -/
def ghash (h y : Nat) (bs : List Nat) : Nat := bs.foldl (fun y b => ghashMul 128 (y ^^^ b) 0 h) y

/-- The length block of GCM. -/
def gcmLen (a m : Nat) : Nat := 8 * a * 2 ^ 64 + 8 * m

/-! ### AES Key Wrap (RFC 3394) -/

/-- The unwrap steps t from n 6 down to 1 on A and the semiblocks. -/
def unwrapSteps (key : List (BitVec 8)) (n : Nat) : Nat → Nat × List Nat → Nat × List Nat
  | 0, s => s
  | t + 1, (a, r) =>
    let i := t % n
    let b := aesDec key ((a ^^^ (t + 1)) * 2 ^ 64 + r.getD i 0)
    unwrapSteps key n t (b / 2 ^ 64, r.set i (b % 2 ^ 64))

/-- Unwrap of 24 or 40 bytes: the key, when the integrity check passes. -/
def keyUnwrap (key wrapped : List (BitVec 8)) : Option (List (BitVec 8)) :=
  let n := wrapped.length / 8 - 1
  let r := (List.range n).map fun i => beOf ((wrapped.drop (8 * (i + 1))).take 8)
  let q := unwrapSteps key n (6 * n) (beOf (wrapped.take 8), r)
  if q.1 = 0xA6A6A6A6A6A6A6A6 then some (q.2.flatMap (beBytes 8)) else none

end Sys2Proof.Machine
end

