-- ==== Sys2Proof/Config.lean ====
section
/-! DEFINITION. What the spec leaves open: free values. No constant of this file has a body a proof could see. -/

namespace Sys2Proof.Config

/-- A value the spec does not state, the n-th one drawn in a run (State.free counts the draws).
Nothing constrains it; a user takes it modulo the range the spec gives. Log entry 3. -/
opaque freeNat : Nat → Nat

/-- A value drawn from a normal distribution of mean 0 and a variance greater than 0; the list names the draw (R291,
R292). Log entry 5. -/
opaque normal : Rat → List Nat → Rat

/-- How far a converter's decision or its overrange comparator lies from the ideal one, in LSB; the list names the
conversion (Table TILE-3). Log entry 5. -/
opaque deviation : List Nat → Rat

/-- Field n of Table CAL-2, from SIGP on, as it is true of tile t (R294). Log entry 5. -/
opaque noiseParam : Nat → Nat → Nat

/-- t_eff of R293 in seconds, for a tile, a cell, the draw of its last pulse and the draw of the read. Log entry 5. -/
opaque ageing : Nat → Nat → Nat → Nat → Rat

/-- The fraction of the decade in the logarithm of R292. Log entry 5. -/
opaque decade : List Nat → Rat

/-- The conductance in µS that a pulse leaves: its amplitude in mV, RESET negative, the conductance before, and what
names the pulse (R216, R292). Log entry 5. -/
opaque pulsed : Int → Rat → List Nat → Rat

/-- SV keeps the cadence of Table CAL-5 for a tile, at a draw (R294, R312). Log entry 5. -/
opaque cadenceKept : Nat → Nat → Bool

/-- Whether a cell of the die is stuck, by tile and cell number (R216, R292). Log entry 5. -/
opaque cellStuck : Nat → Nat → Bool

/-- Whether a stuck cell is stuck at 7 µS (or at 0), by tile and cell number (R292). Log entry 5. -/
opaque cellStuckHigh : Nat → Nat → Bool

/-- Whether the LFSRs of R262 shift toward bit 23, or toward bit 0; the spec gives their polynomial only. Log entry 15. -/
opaque lfsrShiftsUp : Bool

/-- The PCI Express Vendor ID of Halurn, which the spec names and does not state (R427). Log entry 6. -/
opaque vendorId : Nat

/-- Doublewords left free before the n-th PCI Express capability, whose places the spec does not give (R427). Log entry 82. -/
opaque capGap : Nat → Nat

end Sys2Proof.Config
end

