-- ==== Sys2Proof/Machine/Registers.lean ====
section
/-! DEFINITION. The memory-mapped registers of the part: their addresses and fields under the manual's names, and
the table of access codes and reset values, as the register tables of the chapters give them. -/

namespace Sys2Proof.Machine

/-- A field of a register: its register's address, its lowest bit and its width. -/
structure Fld where
  addr : Nat
  lo : Nat
  w : Nat
  deriving DecidableEq, Repr

/-- The access codes of Table SCOPE-1. -/
inductive Acc where
  | rw
  | ro
  | wo
  | w1c
  | rc
  | w1s
  deriving DecidableEq, Repr

/-- One field of a register row: lowest bit, width, access code, reset value. -/
structure FldRow where
  lo : Nat
  w : Nat
  acc : Acc
  rst : Nat
  deriving DecidableEq, Repr

/-- One row of a register table: the address of its first instance, the stride and count of each index
(greatest stride first), its fields. Bits in no field are reserved (R12). -/
structure RegRow where
  base : Nat
  dims : List (Nat × Nat)
  flds : List FldRow
  deriving DecidableEq, Repr

namespace Reg

/-! Table SEAL-7. -/
abbrev SEAL_CTRL : Nat := 0x05030000
abbrev SEAL_STATUS : Nat := 0x05030004
abbrev SEAL_VIOL : Nat := 0x05030008
abbrev SEAL_VLIMIT : Nat := 0x0503000C
abbrev SEAL_CREDIT : Nat := 0x05030010
abbrev SEAL_EPOCH : Nat := 0x05030014
abbrev SEAL_BUDGET : Nat := 0x05030018
abbrev SEAL_MINIV : Nat := 0x0503001C
abbrev SEAL_ADV (n : Nat) : Nat := 0x05030020 + 0x4 * n
abbrev SEAL_REFUSE : Nat := 0x05030040
abbrev SEAL_EGRCNT : Nat := 0x05030044
abbrev SEAL_EGRCNT2 : Nat := 0x05030048
abbrev SEAL_RINGCFG (c : Nat) : Nat := 0x05030100 + 0x20 * c
abbrev SEAL_RINGWP (c : Nat) : Nat := 0x05030104 + 0x20 * c
abbrev SEAL_RINGRP (c : Nat) : Nat := 0x05030108 + 0x20 * c
abbrev SEAL_UNITST (c : Nat) : Nat := 0x0503010C + 0x20 * c
abbrev SEAL_SVST : Nat := 0x05030180
/-! Table CLK-10. -/
abbrev CLK_CORESEL : Nat := 0x05050000
abbrev CLK_PLLA : Nat := 0x05050004
abbrev CLK_PLLBC : Nat := 0x05050008
abbrev CLK_STATUS : Nat := 0x0505000C
abbrev CLK_RSTCAUSE : Nat := 0x05050010
abbrev CLK_CLRST : Nat := 0x05050014
abbrev CLK_MEMPAGE : Nat := 0x05050018
abbrev CLK_ADDRERR0 : Nat := 0x0505001C
abbrev CLK_ADDRERR1 : Nat := 0x05050020
/-! Table PWR-8. -/
abbrev PWR_CTRL : Nat := 0x05000000
abbrev PWR_CMD : Nat := 0x05000004
abbrev PWR_FROSTARM : Nat := 0x05000008
abbrev PWR_STATE : Nat := 0x0500000C
abbrev PWR_STATUS : Nat := 0x05000010
abbrev PWR_WAKEEN : Nat := 0x05000014
abbrev PWR_WAKECAUSE : Nat := 0x05000018
abbrev PWR_GPIOWAKE : Nat := 0x0500001C
abbrev PWR_SUPEV : Nat := 0x05000020
abbrev PWR_WAKEMAP (n : Nat) : Nat := 0x05000040 + 0x4 * n
abbrev PWR_SLEEPMAP (n : Nat) : Nat := 0x05000060 + 0x4 * n
abbrev PWR_DOM (d : Nat) : Nat := 0x05000100 + 0x4 * d
/-! Table BOOT-9. -/
abbrev BOOT_STATUS : Nat := 0x05040000
abbrev BOOT_STRAP : Nat := 0x05040004
abbrev BOOT_FMT : Nat := 0x05040008
abbrev BOOT_BUILDLO : Nat := 0x0504000C
abbrev BOOT_BUILDHI : Nat := 0x05040010
abbrev BOOT_FLASH : Nat := 0x05040014
abbrev BOOT_HOSTLEN : Nat := 0x05040018
abbrev BOOT_CMD : Nat := 0x0504001C
abbrev BOOT_DARKWR : Nat := 0x05040020
abbrev BOOT_UID0 : Nat := 0x05040024
abbrev BOOT_UID1 : Nat := 0x05040028
abbrev BOOT_UID2 : Nat := 0x0504002C
abbrev BOOT_FUSE : Nat := 0x05040030
abbrev BOOT_ROLLBACK : Nat := 0x05040034
abbrev BOOT_TIME : Nat := 0x05040038
/-! Table SPD-4. -/
abbrev CLU_ID (c : Nat) : Nat := 0x06000000 + 0x100000 * c
abbrev CLU_OWNER (c : Nat) : Nat := 0x06000004 + 0x100000 * c
abbrev CLU_CLEAR (c : Nat) : Nat := 0x06000008 + 0x100000 * c
/-! Table SPD-5. -/
abbrev SPD_STATUS (c : Nat) : Nat := 0x06040000 + 0x100000 * c
abbrev SPD_WAITMAX (c : Nat) : Nat := 0x06040004 + 0x100000 * c
abbrev SPD_CONFL (c : Nat) : Nat := 0x06040008 + 0x100000 * c
abbrev SPD_CLRCNT (c : Nat) : Nat := 0x0604000C + 0x100000 * c
/-! Table SPD-6. -/
abbrev RND_STATUS : Nat := 0x06400000
abbrev RND_OUT (c : Nat) : Nat := 0x06400100 + 0x40 * c
abbrev RND_PERR (c : Nat) : Nat := 0x06400104 + 0x40 * c
abbrev RND_PMARK (c : Nat) : Nat := 0x06400108 + 0x40 * c
abbrev RND_LATE (c : Nat) : Nat := 0x0640010C + 0x40 * c
abbrev RND_RMLOG0 (c : Nat) : Nat := 0x06400110 + 0x40 * c
abbrev RND_RMLOG1 (c : Nat) : Nat := 0x06400114 + 0x40 * c
abbrev RND_RMPOP (c : Nat) : Nat := 0x06400118 + 0x40 * c
abbrev RND_RMCNT (c : Nat) : Nat := 0x0640011C + 0x40 * c
abbrev RND_RDERR (c : Nat) : Nat := 0x06400120 + 0x40 * c
/-! Table TILE-10. -/
abbrev TILE_ID (t : Nat) : Nat := 0x01000000 + 0x10000 * t
abbrev TILE_STATE (t : Nat) : Nat := 0x01000004 + 0x10000 * t
abbrev TILE_PASSCFG (t : Nat) : Nat := 0x01000008 + 0x10000 * t
abbrev TILE_CMD (t : Nat) : Nat := 0x0100000C + 0x10000 * t
abbrev TILE_PGMSRC (t : Nat) : Nat := 0x01000010 + 0x10000 * t
abbrev TILE_PGMROWS (t : Nat) : Nat := 0x01000014 + 0x10000 * t
abbrev TILE_PGMCFG (t : Nat) : Nat := 0x01000018 + 0x10000 * t
abbrev TILE_PGMGEN (t : Nat) : Nat := 0x0100001C + 0x10000 * t
abbrev TILE_GEN (t : Nat) : Nat := 0x01000020 + 0x10000 * t
abbrev TILE_LSTAT (t : Nat) : Nat := 0x01000024 + 0x10000 * t
abbrev TILE_STUCK (t : Nat) : Nat := 0x01000028 + 0x10000 * t
abbrev TILE_BCHK (t : Nat) : Nat := 0x0100002C + 0x10000 * t
abbrev TILE_BRES0 (t : Nat) : Nat := 0x01000030 + 0x10000 * t
abbrev TILE_BRES1 (t : Nat) : Nat := 0x01000034 + 0x10000 * t
abbrev TILE_CLIP (t : Nat) : Nat := 0x01000038 + 0x10000 * t
abbrev TILE_CLIPTOT (t : Nat) : Nat := 0x0100003C + 0x10000 * t
abbrev TILE_SKIPTOT (t : Nat) : Nat := 0x01000040 + 0x10000 * t
abbrev TILE_PASSTOT (t : Nat) : Nat := 0x01000044 + 0x10000 * t
abbrev TILE_COLSEL (t : Nat) : Nat := 0x01000048 + 0x10000 * t
abbrev TILE_COLACC0 (t : Nat) : Nat := 0x0100004C + 0x10000 * t
abbrev TILE_COLACC1 (t : Nat) : Nat := 0x01000050 + 0x10000 * t
abbrev TILE_ERR (t : Nat) : Nat := 0x01000054 + 0x10000 * t
abbrev TILE_SPARE (t n : Nat) : Nat := 0x01000080 + 0x10000 * t + 0x4 * n
/-! Table TOP-15. -/
abbrev TAL_STATUS (c : Nat) : Nat := 0x06020000 + 0x100000 * c
abbrev TAL_CPL (c : Nat) : Nat := 0x06020004 + 0x100000 * c
abbrev TAL_CPLPOP (c : Nat) : Nat := 0x06020008 + 0x100000 * c
abbrev TAL_CPLCNT (c : Nat) : Nat := 0x0602000C + 0x100000 * c
abbrev TAL_DONECNT (c : Nat) : Nat := 0x06020010 + 0x100000 * c
abbrev TAL_RSTSEED (c : Nat) : Nat := 0x06020014 + 0x100000 * c
abbrev TAL_DSTAT (c : Nat) : Nat := 0x06020018 + 0x100000 * c
abbrev TAL_REDIDX (c : Nat) : Nat := 0x0602001C + 0x100000 * c
abbrev TAL_REDVAL0 (c : Nat) : Nat := 0x06020020 + 0x100000 * c
abbrev TAL_REDVAL1 (c : Nat) : Nat := 0x06020024 + 0x100000 * c
abbrev TAL_PAD (c n : Nat) : Nat := 0x06020040 + 0x100000 * c + 0x4 * n
abbrev TAL_OP_D (c p w : Nat) : Nat := 0x06020100 + 0x100000 * c + 0x20 * p + 0x4 * w
/-! Table TOP-16. -/
abbrev MOV_STATUS (c : Nat) : Nat := 0x06030000 + 0x100000 * c
abbrev MOV_CPL (c : Nat) : Nat := 0x06030004 + 0x100000 * c
abbrev MOV_CPLPOP (c : Nat) : Nat := 0x06030008 + 0x100000 * c
abbrev MOV_CPLCNT (c : Nat) : Nat := 0x0603000C + 0x100000 * c
abbrev MOV_DSTAT (c : Nat) : Nat := 0x06030010 + 0x100000 * c
abbrev MOV_JOB_J (c p w : Nat) : Nat := 0x06030100 + 0x100000 * c + 0x20 * p + 0x4 * w
/-! Table CAL-6. -/
abbrev CAL_CFG (t : Nat) : Nat := 0x01008000 + 0x10000 * t
abbrev CAL_CMD (t : Nat) : Nat := 0x01008004 + 0x10000 * t
abbrev CAL_STAT (t : Nat) : Nat := 0x01008008 + 0x10000 * t
abbrev CAL_THR (t : Nat) : Nat := 0x0100800C + 0x10000 * t
abbrev CAL_BEXP0 (t : Nat) : Nat := 0x01008010 + 0x10000 * t
abbrev CAL_BEXP1 (t : Nat) : Nat := 0x01008014 + 0x10000 * t
abbrev CAL_LASTDEV (t : Nat) : Nat := 0x01008018 + 0x10000 * t
abbrev CAL_CHKCNT (t : Nat) : Nat := 0x0100801C + 0x10000 * t
abbrev CAL_RFROWS (t : Nat) : Nat := 0x01008020 + 0x10000 * t
abbrev CAL_RFCFG (t : Nat) : Nat := 0x01008024 + 0x10000 * t
abbrev CAL_RFSTAT (t : Nat) : Nat := 0x01008028 + 0x10000 * t
abbrev CAL_PAIR (t : Nat) : Nat := 0x0100802C + 0x10000 * t
abbrev CAL_SWEEP (t : Nat) : Nat := 0x01008030 + 0x10000 * t
abbrev CAL_TRIM (t k : Nat) : Nat := 0x01008400 + 0x10000 * t + 0x4 * k
/-! Table DFA-10. -/
abbrev DFA_STATUS (c : Nat) : Nat := 0x06010000 + 0x100000 * c
abbrev DFA_POS (c : Nat) : Nat := 0x06010004 + 0x100000 * c
abbrev DFA_CPL (c : Nat) : Nat := 0x06010008 + 0x100000 * c
abbrev DFA_CPLPOP (c : Nat) : Nat := 0x0601000C + 0x100000 * c
abbrev DFA_CPLCNT (c : Nat) : Nat := 0x06010010 + 0x100000 * c
abbrev DFA_RBAD (c : Nat) : Nat := 0x06010014 + 0x100000 * c
abbrev DFA_SATCNT (c : Nat) : Nat := 0x06010018 + 0x100000 * c
abbrev DFA_STALLCNT (c : Nat) : Nat := 0x0601001C + 0x100000 * c
abbrev DFA_RSTSEED (c : Nat) : Nat := 0x06010020 + 0x100000 * c
abbrev DFA_ABORT (c : Nat) : Nat := 0x06010024 + 0x100000 * c
abbrev DFA_LOAD0 (c : Nat) : Nat := 0x06010028 + 0x100000 * c
abbrev DFA_LOAD1 (c : Nat) : Nat := 0x0601002C + 0x100000 * c
abbrev DFA_LOADCMD (c : Nat) : Nat := 0x06010030 + 0x100000 * c
abbrev DFA_START (c p : Nat) : Nat := 0x06010100 + 0x100000 * c + 0x4 * p
/-! Table HOST-4. -/
abbrev DB_TAIL (q : Nat) : Nat := 0x08000000 + 0x1000 * q
abbrev DB_HEAD (q : Nat) : Nat := 0x08000004 + 0x1000 * q
abbrev DB_STATE (q : Nat) : Nat := 0x08000008 + 0x1000 * q
abbrev DB_PROG (q : Nat) : Nat := 0x0800000C + 0x1000 * q
abbrev DB_FSEL (q : Nat) : Nat := 0x08000010 + 0x1000 * q
abbrev DB_FSTATE (q : Nat) : Nat := 0x08000014 + 0x1000 * q
abbrev DB_DONE (q : Nat) : Nat := 0x08000018 + 0x1000 * q
/-! Table HOST-12. -/
abbrev HST_ID0 : Nat := 0x050B0000
abbrev HST_ID1 : Nat := 0x050B0004
abbrev HST_LINK : Nat := 0x050B0008
abbrev HST_LINKCFG : Nat := 0x050B000C
abbrev HST_IRQSTAT : Nat := 0x050B0010
abbrev HST_IRQEN : Nat := 0x050B0014
abbrev HST_IRQVEC : Nat := 0x050B0018
abbrev HST_VPEND0 : Nat := 0x050B001C
abbrev HST_VPEND1 : Nat := 0x050B0020
abbrev HST_VPEND2 : Nat := 0x050B0024
abbrev HST_SPISTAT : Nat := 0x050B0028
abbrev HST_SPIERR : Nat := 0x050B002C
abbrev HST_ERR : Nat := 0x050B0030
abbrev HST_HWIN0 (w : Nat) : Nat := 0x050B0100 + 0x10 * w
abbrev HST_HWIN1 (w : Nat) : Nat := 0x050B0104 + 0x10 * w
abbrev HST_HWIN2 (w : Nat) : Nat := 0x050B0108 + 0x10 * w
/-! Table HOST-13. -/
abbrev QUE_QCFG (q : Nat) : Nat := 0x050C0000 + 0x40 * q
abbrev QUE_QRING0 (q : Nat) : Nat := 0x050C0004 + 0x40 * q
abbrev QUE_QRING1 (q : Nat) : Nat := 0x050C0008 + 0x40 * q
abbrev QUE_QRING2 (q : Nat) : Nat := 0x050C000C + 0x40 * q
abbrev QUE_QCTL (q : Nat) : Nat := 0x050C0010 + 0x40 * q
abbrev QUE_QSTATE (q : Nat) : Nat := 0x050C0014 + 0x40 * q
abbrev QUE_QTIMEOUT (q : Nat) : Nat := 0x050C0018 + 0x40 * q
abbrev QUE_QPTR (q : Nat) : Nat := 0x050C001C + 0x40 * q
abbrev QUE_QPROG (q : Nat) : Nat := 0x050C0020 + 0x40 * q
abbrev QUE_QERR (q : Nat) : Nat := 0x050C0024 + 0x40 * q
abbrev QUE_QDUP (q : Nat) : Nat := 0x050C0028 + 0x40 * q
abbrev QUE_QDONE (q : Nat) : Nat := 0x050C002C + 0x40 * q
abbrev QUE_GLIMIT : Nat := 0x050C1000
abbrev QUE_FLY : Nat := 0x050C1004
abbrev QUE_FLYCL : Nat := 0x050C1008
abbrev QUE_CLASSIGN (c : Nat) : Nat := 0x050C1010 + 0x4 * c
abbrev QUE_FCTL : Nat := 0x050C1020
abbrev QUE_FCTLARG : Nat := 0x050C1024
abbrev QUE_FCTLSTAT : Nat := 0x050C1028
abbrev QUE_SVREQ0 : Nat := 0x050C1030
abbrev QUE_SVREQ1 : Nat := 0x050C1034
abbrev QUE_SVREQ2 : Nat := 0x050C1038
abbrev QUE_SVDONE : Nat := 0x050C103C
abbrev QUE_FSTATE (i : Nat) : Nat := 0x050C4000 + 0x4 * i
abbrev QUE_FOWNER (i : Nat) : Nat := 0x050C8000 + 0x4 * i
/-! Table EVF-7. -/
abbrev EVF_STATUS : Nat := 0x05020000
abbrev EVF_SWFIRE : Nat := 0x05020004
abbrev EVF_RETCNT : Nat := 0x05020008
abbrev EVF_TAINT0 : Nat := 0x0502000C
abbrev EVF_TAINT1 : Nat := 0x05020010
abbrev EVF_CHEN (k : Nat) : Nat := 0x05020100 + 0x4 * k
abbrev EVF_SORT0 (n : Nat) : Nat := 0x05020200 + 0x8 * n
abbrev EVF_SORT1 (n : Nat) : Nat := 0x05020204 + 0x8 * n
abbrev EVF_SWCFG (i : Nat) : Nat := 0x05020300 + 0x10 * i
abbrev EVF_SWSTAT (i : Nat) : Nat := 0x05020304 + 0x10 * i
abbrev EVF_SWRES0 (i : Nat) : Nat := 0x05020308 + 0x10 * i
abbrev EVF_SWRES1 (i : Nat) : Nat := 0x0502030C + 0x10 * i
abbrev EVF_HIRQ (n : Nat) : Nat := 0x05020400 + 0x4 * n
abbrev EVF_TASK (u : Nat) : Nat := 0x05020800 + 0x4 * u
/-! Table EVF-8. -/
abbrev RTC_SEC0 : Nat := 0x05010000
abbrev RTC_SEC1 : Nat := 0x05010004
abbrev RTC_SUB : Nat := 0x05010008
abbrev RTC_SNAP : Nat := 0x0501000C
abbrev RTC_SNAPST : Nat := 0x05010010
abbrev RTC_SNSEC0 : Nat := 0x05010014
abbrev RTC_SNSEC1 : Nat := 0x05010018
abbrev RTC_SNSUB : Nat := 0x0501001C
abbrev RTC_SNFRAC : Nat := 0x05010020
abbrev RTC_WSEC0 : Nat := 0x05010024
abbrev RTC_WSEC1 : Nat := 0x05010028
abbrev RTC_WSUB : Nat := 0x0501002C
abbrev RTC_WCMD : Nat := 0x05010030
abbrev RTC_STATUS : Nat := 0x05010034
abbrev RTC_ALM0 : Nat := 0x05010038
abbrev RTC_ALM1 : Nat := 0x0501003C
abbrev RTC_ALMSUB : Nat := 0x05010040
abbrev RTC_TICK : Nat := 0x05010044
/-! Table PST-5. -/
abbrev PST_STATUS : Nat := 0x05060000
abbrev PST_CMD : Nat := 0x05060004
abbrev PST_RESULT : Nat := 0x05060008
abbrev PST_KEY0 : Nat := 0x0506000C
abbrev PST_KEY1 : Nat := 0x05060010
abbrev PST_SRC : Nat := 0x05060014
abbrev PST_LEN : Nat := 0x05060018
abbrev PST_FOUND : Nat := 0x0506001C
abbrev PST_FSEQ0 : Nat := 0x05060020
abbrev PST_FSEQ1 : Nat := 0x05060024
abbrev PST_ECC : Nat := 0x05060028
abbrev PST_ECCADDR : Nat := 0x0506002C
abbrev PST_COUNT : Nat := 0x05060030
abbrev PST_MOUNTINFO : Nat := 0x05060034
abbrev PST_WEAR : Nat := 0x05060038
abbrev PST_PGSEL : Nat := 0x0506003C
abbrev PST_PGINFO : Nat := 0x05060040
/-! Table CIP-6. -/
abbrev CIP_LOCK : Nat := 0x05070000
abbrev CIP_LOCKTO : Nat := 0x05070004
abbrev CIP_STATUS : Nat := 0x05070008
abbrev CIP_ERR : Nat := 0x0507000C
abbrev CIP_MODE : Nat := 0x05070010
abbrev CIP_ALEN : Nat := 0x05070014
abbrev CIP_MLEN : Nat := 0x05070018
abbrev CIP_JOB : Nat := 0x0507001C
abbrev CIP_CMD : Nat := 0x05070020
abbrev CIP_XFER0 : Nat := 0x05070024
abbrev CIP_XFER1 : Nat := 0x05070028
abbrev CIP_KEYCFG : Nat := 0x0507002C
abbrev CIP_LENDMAX : Nat := 0x05070030
abbrev CIP_JOBCNT : Nat := 0x05070034
abbrev CIP_IV (w : Nat) : Nat := 0x05070040 + 0x4 * w
abbrev CIP_ETAG (w : Nat) : Nat := 0x05070060 + 0x4 * w
abbrev CIP_TAG (w : Nat) : Nat := 0x05070080 + 0x4 * w
abbrev CIP_LBL (w : Nat) : Nat := 0x050700A0 + 0x4 * w
abbrev CIP_KINFO (s : Nat) : Nat := 0x05070100 + 0x4 * s
abbrev CIP_BUF (w : Nat) : Nat := 0x05070400 + 0x4 * w
/-! Table RAD-11. -/
abbrev RAD_CHAN : Nat := 0x05080000
abbrev RAD_TXPWR : Nat := 0x05080004
abbrev RAD_CCA : Nat := 0x05080008
abbrev RAD_ED : Nat := 0x0508000C
abbrev RAD_LAST : Nat := 0x05080010
abbrev RAD_STAT : Nat := 0x05080014
abbrev RAD_ERR : Nat := 0x05080018
/-! Table RAD-12. -/
abbrev LNK_CMD : Nat := 0x05090000
abbrev LNK_STATUS : Nat := 0x05090004
abbrev LNK_CFG : Nat := 0x05090008
abbrev LNK_PAN : Nat := 0x0509000C
abbrev LNK_SADDR : Nat := 0x05090010
abbrev LNK_ASN0 : Nat := 0x05090014
abbrev LNK_ASN1 : Nat := 0x05090018
abbrev LNK_SYNCREF : Nat := 0x0509001C
abbrev LNK_TIME0 : Nat := 0x05090020
abbrev LNK_TIME1 : Nat := 0x05090024
abbrev LNK_CORR : Nat := 0x05090028
abbrev LNK_SINCE : Nat := 0x0509002C
abbrev LNK_DESYNC : Nat := 0x05090030
abbrev LNK_DSN : Nat := 0x05090034
abbrev LNK_FC0 : Nat := 0x05090038
abbrev LNK_FC1 : Nat := 0x0509003C
abbrev LNK_TMPL (k : Nat) : Nat := 0x05090040 + 0x4 * k
abbrev LNK_CSMA : Nat := 0x05090058
abbrev LNK_HOPCFG : Nat := 0x05090060
abbrev LNK_HOP (j : Nat) : Nat := 0x05090064 + 0x4 * j
abbrev LNK_SF (d : Nat) : Nat := 0x05090070 + 0x4 * d
abbrev LNK_LSEL : Nat := 0x05090080
abbrev LNK_LINK0 : Nat := 0x05090084
abbrev LNK_LINK1 : Nat := 0x05090088
abbrev LNK_NSEL : Nat := 0x05090090
abbrev LNK_NBR (i : Nat) : Nat := 0x05090094 + 0x4 * i
abbrev LNK_KEY (k : Nat) : Nat := 0x050900B0 + 0x4 * k
abbrev LNK_ASNMAT0 (n : Nat) : Nat := 0x050900D0 + 0x4 * n
abbrev LNK_ASNMAT1 (n : Nat) : Nat := 0x050900E0 + 0x4 * n
abbrev LNK_EVCFG : Nat := 0x050900F0
abbrev LNK_TXSEL : Nat := 0x05090100
abbrev LNK_TXD (i : Nat) : Nat := 0x05090104 + 0x4 * i
abbrev LNK_TXST : Nat := 0x05090110
abbrev LNK_TXCMD : Nat := 0x05090114
abbrev LNK_TXMEM (w : Nat) : Nat := 0x05090200 + 0x4 * w
abbrev LNK_RXSTAT : Nat := 0x05090300
abbrev LNK_RXMETA0 : Nat := 0x05090304
abbrev LNK_RXMETA1 : Nat := 0x05090308
abbrev LNK_RXMETA2 : Nat := 0x0509030C
abbrev LNK_RXMETA3 : Nat := 0x05090310
abbrev LNK_RXMETA4 : Nat := 0x05090314
abbrev LNK_RXPOP : Nat := 0x05090318
abbrev LNK_CNT0 : Nat := 0x05090320
abbrev LNK_CNT1 : Nat := 0x05090324
abbrev LNK_CNT2 : Nat := 0x05090328
abbrev LNK_RXMEM (w : Nat) : Nat := 0x05090400 + 0x4 * w
/-! Table WIR-11. -/
abbrev WIR_CTRL : Nat := 0x050A0000
abbrev WIR_LINKCFG : Nat := 0x050A0004
abbrev WIR_LINKST : Nat := 0x050A0008
abbrev WIR_MAC0 : Nat := 0x050A000C
abbrev WIR_MAC1 : Nat := 0x050A0010
abbrev WIR_RXCFG : Nat := 0x050A0014
abbrev WIR_SECCFG : Nat := 0x050A0018
abbrev WIR_SEQ0 : Nat := 0x050A001C
abbrev WIR_SEQ1 : Nat := 0x050A0020
abbrev WIR_CFG : Nat := 0x050A0024
abbrev WIR_EVCFG : Nat := 0x050A0028
abbrev WIR_CNT0 : Nat := 0x050A0030
abbrev WIR_CNT1 : Nat := 0x050A0034
abbrev WIR_CNT2 : Nat := 0x050A0038
abbrev WIR_MC0 (k : Nat) : Nat := 0x050A0040 + 0x8 * k
abbrev WIR_MC1 (k : Nat) : Nat := 0x050A0044 + 0x8 * k
abbrev WIR_TXSEL : Nat := 0x050A0100
abbrev WIR_TXD (i : Nat) : Nat := 0x050A0104 + 0x4 * i
abbrev WIR_TXST : Nat := 0x050A0110
abbrev WIR_TXCMD : Nat := 0x050A0114
abbrev WIR_TXMEM (w : Nat) : Nat := 0x050A0200 + 0x4 * w
abbrev WIR_RXSTAT : Nat := 0x050A0A00
abbrev WIR_RXMETA0 : Nat := 0x050A0A04
abbrev WIR_RXMETA1 : Nat := 0x050A0A08
abbrev WIR_RXPOP : Nat := 0x050A0A0C
abbrev WIR_RXMEM (w : Nat) : Nat := 0x050A0C00 + 0x4 * w
/-! Table SNS-4. -/
abbrev SNS_CLASS : Nat := 0x050D0000
abbrev SNS_TRIG : Nat := 0x050D0004
abbrev SNS_BUSY : Nat := 0x050D0008
abbrev SNS_ERR : Nat := 0x050D000C
abbrev SNS_OVR : Nat := 0x050D0010
abbrev SNS_EPOCH (k : Nat) : Nat := 0x050D0040 + 0x4 * k
abbrev SNS_CMP0 (k : Nat) : Nat := 0x050D0060 + 0x10 * k
abbrev SNS_CMP1 (k : Nat) : Nat := 0x050D0064 + 0x10 * k
abbrev SNS_CMP2 (k : Nat) : Nat := 0x050D0068 + 0x10 * k
abbrev SNS_PIRCFG : Nat := 0x050D00A0
abbrev SNS_PDMCFG : Nat := 0x050D00A4
abbrev SNS_GPIOIN0 : Nat := 0x050D0100
abbrev SNS_GPIOOE0 : Nat := 0x050D0104
abbrev SNS_GPIOOUT0 : Nat := 0x050D0108
abbrev SNS_GPIOSET : Nat := 0x050D010C
abbrev SNS_GPIOCLR : Nat := 0x050D0110
abbrev SNS_GPINSEL (k : Nat) : Nat := 0x050D0114 + 0x4 * k
abbrev SNS_GPACT (g : Nat) : Nat := 0x050D0120 + 0x4 * g
/-! Table SNS-5. -/
abbrev SNS_PCFG (n : Nat) : Nat := 0x050D0400 + 0x40 * n
abbrev SNS_PDST (n : Nat) : Nat := 0x050D0404 + 0x40 * n
abbrev SNS_PLEN (n : Nat) : Nat := 0x050D0408 + 0x40 * n
abbrev SNS_PBUS0 (n : Nat) : Nat := 0x050D040C + 0x40 * n
abbrev SNS_PBUS1 (n : Nat) : Nat := 0x050D0410 + 0x40 * n
abbrev SNS_PBUS2 (n : Nat) : Nat := 0x050D0414 + 0x40 * n
abbrev SNS_PDLY (n : Nat) : Nat := 0x050D0418 + 0x40 * n
abbrev SNS_PSTAT (n : Nat) : Nat := 0x050D041C + 0x40 * n
abbrev SNS_PFCNT (n : Nat) : Nat := 0x050D0420 + 0x40 * n
/-! Table FLT-5. -/
abbrev FLT_STATUS : Nat := 0x050E0000
abbrev FLT_WDCFG : Nat := 0x050E0004
abbrev FLT_WDKICK : Nat := 0x050E0008
abbrev FLT_WDCNT : Nat := 0x050E000C
abbrev FLT_DPREL : Nat := 0x050E0010
abbrev FLT_LOGCNT : Nat := 0x050E0014
abbrev FLT_LOGPOP : Nat := 0x050E0018
abbrev FLT_LOGW0 : Nat := 0x050E001C
abbrev FLT_LOGW1 : Nat := 0x050E0020
abbrev FLT_LOG0 : Nat := 0x050E0024
abbrev FLT_LOG1 : Nat := 0x050E0028
abbrev FLT_LOG2 : Nat := 0x050E002C
abbrev FLT_BOOTCNT : Nat := 0x050E0030
abbrev FLT_RNDRETRY : Nat := 0x050E0034
abbrev FLT_MGMT (k : Nat) : Nat := 0x050E0040 + 0x4 * k
abbrev FLT_DP (k : Nat) : Nat := 0x050E0050 + 0x4 * k
abbrev FLT_EFF (k : Nat) : Nat := 0x050E0060 + 0x4 * k
abbrev FLT_DIS0 : Nat := 0x050E0070
abbrev FLT_DIS1 : Nat := 0x050E0074
abbrev FLT_DISNOW0 : Nat := 0x050E0078
abbrev FLT_DISNOW1 : Nat := 0x050E007C
/-! Table DBG-5. -/
abbrev DBG_ID : Nat := 0x050F0000
abbrev DBG_STATUS : Nat := 0x050F0004
abbrev DBG_HALT : Nat := 0x050F0008
abbrev DBG_RESUME : Nat := 0x050F000C
abbrev DBG_BRKEN : Nat := 0x050F0010
abbrev DBG_STARTPC : Nat := 0x050F0014
abbrev DBG_START : Nat := 0x050F0018
abbrev DBG_CSEL : Nat := 0x050F001C
abbrev DBG_CDATA : Nat := 0x050F0020

end Reg

namespace F

/-! Table SEAL-7. -/
abbrev SEAL_CTRL_LOCK : Fld := ⟨Reg.SEAL_CTRL, 0, 1⟩
abbrev SEAL_CTRL_LOCKOUT : Fld := ⟨Reg.SEAL_CTRL, 1, 1⟩
abbrev SEAL_STATUS_LOCKWR : Fld := ⟨Reg.SEAL_STATUS, 0, 1⟩
abbrev SEAL_STATUS_EGRESS : Fld := ⟨Reg.SEAL_STATUS, 1, 1⟩
abbrev SEAL_STATUS_SSWRITE : Fld := ⟨Reg.SEAL_STATUS, 2, 1⟩
abbrev SEAL_STATUS_ADVEARLY : Fld := ⟨Reg.SEAL_STATUS, 3, 1⟩
abbrev SEAL_STATUS_RINGBUSY : Fld := ⟨Reg.SEAL_STATUS, 4, 1⟩
abbrev SEAL_STATUS_ROUTE : Fld := ⟨Reg.SEAL_STATUS, 5, 1⟩
abbrev SEAL_STATUS_RPBAD : Fld := ⟨Reg.SEAL_STATUS, 6, 1⟩
abbrev SEAL_VIOL_COUNT : Fld := ⟨Reg.SEAL_VIOL, 0, 24⟩
abbrev SEAL_VLIMIT_LIMIT : Fld := ⟨Reg.SEAL_VLIMIT, 0, 16⟩
abbrev SEAL_CREDIT_ZONE : Fld := ⟨Reg.SEAL_CREDIT, 0, 6⟩
abbrev SEAL_CREDIT_AVAIL : Fld := ⟨Reg.SEAL_CREDIT, 6, 12⟩
abbrev SEAL_CREDIT_SEQ : Fld := ⟨Reg.SEAL_CREDIT, 18, 5⟩
abbrev SEAL_EPOCH_ZONE : Fld := ⟨Reg.SEAL_EPOCH, 0, 6⟩
abbrev SEAL_EPOCH_EPOCH : Fld := ⟨Reg.SEAL_EPOCH, 6, 16⟩
abbrev SEAL_BUDGET_ZONE : Fld := ⟨Reg.SEAL_BUDGET, 0, 6⟩
abbrev SEAL_BUDGET_BUDGET : Fld := ⟨Reg.SEAL_BUDGET, 6, 10⟩
abbrev SEAL_MINIV_ZONE : Fld := ⟨Reg.SEAL_MINIV, 0, 6⟩
abbrev SEAL_MINIV_MINIV : Fld := ⟨Reg.SEAL_MINIV, 6, 16⟩
abbrev SEAL_ADV_ZONE (n : Nat) : Fld := ⟨Reg.SEAL_ADV n, 0, 6⟩
abbrev SEAL_ADV_EN (n : Nat) : Fld := ⟨Reg.SEAL_ADV n, 6, 1⟩
abbrev SEAL_REFUSE_STALE : Fld := ⟨Reg.SEAL_REFUSE, 0, 8⟩
abbrev SEAL_REFUSE_NOCREDIT : Fld := ⟨Reg.SEAL_REFUSE, 8, 8⟩
abbrev SEAL_REFUSE_OTHER : Fld := ⟨Reg.SEAL_REFUSE, 16, 8⟩
abbrev SEAL_EGRCNT_RADIO : Fld := ⟨Reg.SEAL_EGRCNT, 0, 8⟩
abbrev SEAL_EGRCNT_WIRED : Fld := ⟨Reg.SEAL_EGRCNT, 8, 8⟩
abbrev SEAL_EGRCNT_HOST : Fld := ⟨Reg.SEAL_EGRCNT, 16, 8⟩
abbrev SEAL_EGRCNT2_PST : Fld := ⟨Reg.SEAL_EGRCNT2, 0, 8⟩
abbrev SEAL_EGRCNT2_GPIO : Fld := ⟨Reg.SEAL_EGRCNT2, 8, 8⟩
abbrev SEAL_EGRCNT2_OTHER : Fld := ⟨Reg.SEAL_EGRCNT2, 16, 8⟩
abbrev SEAL_RINGCFG_BASE (c : Nat) : Fld := ⟨Reg.SEAL_RINGCFG c, 0, 12⟩
abbrev SEAL_RINGCFG_LEN (c : Nat) : Fld := ⟨Reg.SEAL_RINGCFG c, 12, 7⟩
abbrev SEAL_RINGWP_WP (c : Nat) : Fld := ⟨Reg.SEAL_RINGWP c, 0, 7⟩
abbrev SEAL_RINGRP_RP (c : Nat) : Fld := ⟨Reg.SEAL_RINGRP c, 0, 7⟩
abbrev SEAL_UNITST_CORE (c : Nat) : Fld := ⟨Reg.SEAL_UNITST c, 0, 1⟩
abbrev SEAL_UNITST_DFA (c : Nat) : Fld := ⟨Reg.SEAL_UNITST c, 1, 1⟩
abbrev SEAL_UNITST_TAL (c : Nat) : Fld := ⟨Reg.SEAL_UNITST c, 2, 1⟩
abbrev SEAL_UNITST_MOV (c : Nat) : Fld := ⟨Reg.SEAL_UNITST c, 3, 1⟩
abbrev SEAL_UNITST_TILE (c : Nat) : Fld := ⟨Reg.SEAL_UNITST c, 4, 8⟩
abbrev SEAL_UNITST_WIPING (c : Nat) : Fld := ⟨Reg.SEAL_UNITST c, 12, 1⟩
abbrev SEAL_UNITST_FRESH (c : Nat) : Fld := ⟨Reg.SEAL_UNITST c, 13, 5⟩
abbrev SEAL_SVST_SV : Fld := ⟨Reg.SEAL_SVST, 0, 1⟩
abbrev SEAL_SVST_WIPING : Fld := ⟨Reg.SEAL_SVST, 1, 1⟩
/-! Table CLK-10. -/
abbrev CLK_CORESEL_SRC : Fld := ⟨Reg.CLK_CORESEL, 0, 1⟩
abbrev CLK_CORESEL_BUSY : Fld := ⟨Reg.CLK_CORESEL, 1, 1⟩
abbrev CLK_PLLA_FBDIV : Fld := ⟨Reg.CLK_PLLA, 0, 8⟩
abbrev CLK_PLLA_POSTDIV : Fld := ⟨Reg.CLK_PLLA, 8, 4⟩
abbrev CLK_PLLA_EN : Fld := ⟨Reg.CLK_PLLA, 12, 1⟩
abbrev CLK_PLLA_LOCK : Fld := ⟨Reg.CLK_PLLA, 13, 1⟩
abbrev CLK_PLLBC_BLOCK : Fld := ⟨Reg.CLK_PLLBC, 0, 1⟩
abbrev CLK_PLLBC_CLOCK : Fld := ⟨Reg.CLK_PLLBC, 1, 1⟩
abbrev CLK_STATUS_XOOK : Fld := ⟨Reg.CLK_STATUS, 0, 1⟩
abbrev CLK_STATUS_AONOK : Fld := ⟨Reg.CLK_STATUS, 1, 1⟩
abbrev CLK_STATUS_PCIEREF : Fld := ⟨Reg.CLK_STATUS, 2, 1⟩
abbrev CLK_STATUS_ALOST : Fld := ⟨Reg.CLK_STATUS, 3, 1⟩
abbrev CLK_STATUS_BADCFG : Fld := ⟨Reg.CLK_STATUS, 4, 1⟩
abbrev CLK_RSTCAUSE_POR : Fld := ⟨Reg.CLK_RSTCAUSE, 0, 1⟩
abbrev CLK_RSTCAUSE_PIN : Fld := ⟨Reg.CLK_RSTCAUSE, 1, 1⟩
abbrev CLK_RSTCAUSE_WDOG : Fld := ⟨Reg.CLK_RSTCAUSE, 2, 1⟩
abbrev CLK_RSTCAUSE_FLR : Fld := ⟨Reg.CLK_RSTCAUSE, 3, 1⟩
abbrev CLK_RSTCAUSE_CLRST : Fld := ⟨Reg.CLK_RSTCAUSE, 4, 4⟩
abbrev CLK_CLRST_REQ : Fld := ⟨Reg.CLK_CLRST, 0, 4⟩
abbrev CLK_CLRST_BUSY : Fld := ⟨Reg.CLK_CLRST, 4, 4⟩
abbrev CLK_MEMPAGE_CC : Fld := ⟨Reg.CLK_MEMPAGE, 0, 4⟩
abbrev CLK_MEMPAGE_SV : Fld := ⟨Reg.CLK_MEMPAGE, 4, 1⟩
abbrev CLK_ADDRERR0_ADDR : Fld := ⟨Reg.CLK_ADDRERR0, 0, 24⟩
abbrev CLK_ADDRERR1_ADDRHI : Fld := ⟨Reg.CLK_ADDRERR1, 0, 8⟩
abbrev CLK_ADDRERR1_INIT : Fld := ⟨Reg.CLK_ADDRERR1, 8, 4⟩
abbrev CLK_ADDRERR1_WR : Fld := ⟨Reg.CLK_ADDRERR1, 12, 1⟩
abbrev CLK_ADDRERR1_VALID : Fld := ⟨Reg.CLK_ADDRERR1, 13, 1⟩
abbrev CLK_ADDRERR1_MULTI : Fld := ⟨Reg.CLK_ADDRERR1, 14, 1⟩
/-! Table PWR-8. -/
abbrev PWR_CTRL_MODE : Fld := ⟨Reg.PWR_CTRL, 0, 1⟩
abbrev PWR_CMD_CMD : Fld := ⟨Reg.PWR_CMD, 0, 2⟩
abbrev PWR_FROSTARM_ARM : Fld := ⟨Reg.PWR_FROSTARM, 0, 1⟩
abbrev PWR_STATE_WEATHER : Fld := ⟨Reg.PWR_STATE, 0, 2⟩
abbrev PWR_STATE_CALMPEND : Fld := ⟨Reg.PWR_STATE, 2, 1⟩
abbrev PWR_STATE_ANYBUSY : Fld := ⟨Reg.PWR_STATE, 3, 1⟩
abbrev PWR_STATUS_DENIED : Fld := ⟨Reg.PWR_STATUS, 0, 1⟩
abbrev PWR_STATUS_DEPEND : Fld := ⟨Reg.PWR_STATUS, 1, 1⟩
abbrev PWR_STATUS_DARK : Fld := ⟨Reg.PWR_STATUS, 2, 1⟩
abbrev PWR_STATUS_CONFLICT : Fld := ⟨Reg.PWR_STATUS, 3, 1⟩
abbrev PWR_STATUS_CALMABORT : Fld := ⟨Reg.PWR_STATUS, 4, 1⟩
abbrev PWR_STATUS_FROSTEXIT : Fld := ⟨Reg.PWR_STATUS, 5, 1⟩
abbrev PWR_WAKEEN_WAKEPIN : Fld := ⟨Reg.PWR_WAKEEN, 0, 1⟩
abbrev PWR_WAKEEN_RTC : Fld := ⟨Reg.PWR_WAKEEN, 1, 1⟩
abbrev PWR_WAKEEN_GPIO : Fld := ⟨Reg.PWR_WAKEEN, 2, 1⟩
abbrev PWR_WAKEEN_SENSINT : Fld := ⟨Reg.PWR_WAKEEN, 3, 1⟩
abbrev PWR_WAKECAUSE_CAUSE : Fld := ⟨Reg.PWR_WAKECAUSE, 0, 4⟩
abbrev PWR_GPIOWAKE_EN : Fld := ⟨Reg.PWR_GPIOWAKE, 0, 8⟩
abbrev PWR_GPIOWAKE_RISE : Fld := ⟨Reg.PWR_GPIOWAKE, 8, 8⟩
abbrev PWR_SUPEV_WAKESUP : Fld := ⟨Reg.PWR_SUPEV, 0, 8⟩
abbrev PWR_SUPEV_SLEEPSUP : Fld := ⟨Reg.PWR_SUPEV, 8, 8⟩
abbrev PWR_WAKEMAP_DOM (n : Nat) : Fld := ⟨Reg.PWR_WAKEMAP n, 0, 24⟩
abbrev PWR_SLEEPMAP_DOM (n : Nat) : Fld := ⟨Reg.PWR_SLEEPMAP n, 0, 24⟩
abbrev PWR_DOM_REQ (d : Nat) : Fld := ⟨Reg.PWR_DOM d, 0, 2⟩
abbrev PWR_DOM_ACT (d : Nat) : Fld := ⟨Reg.PWR_DOM d, 2, 2⟩
abbrev PWR_DOM_BUSY (d : Nat) : Fld := ⟨Reg.PWR_DOM d, 4, 1⟩
abbrev PWR_DOM_PEND (d : Nat) : Fld := ⟨Reg.PWR_DOM d, 5, 1⟩
abbrev PWR_DOM_RETCAP (d : Nat) : Fld := ⟨Reg.PWR_DOM d, 6, 1⟩
abbrev PWR_DOM_SLEEPRET (d : Nat) : Fld := ⟨Reg.PWR_DOM d, 7, 1⟩
abbrev PWR_DOM_KEEPCALM (d : Nat) : Fld := ⟨Reg.PWR_DOM d, 8, 1⟩
/-! Table BOOT-9. -/
abbrev BOOT_STATUS_CODE : Fld := ⟨Reg.BOOT_STATUS, 0, 8⟩
abbrev BOOT_STATUS_STAGE : Fld := ⟨Reg.BOOT_STATUS, 8, 4⟩
abbrev BOOT_STATUS_DONE : Fld := ⟨Reg.BOOT_STATUS, 12, 1⟩
abbrev BOOT_STATUS_HOLD : Fld := ⟨Reg.BOOT_STATUS, 13, 1⟩
abbrev BOOT_STATUS_COPY : Fld := ⟨Reg.BOOT_STATUS, 14, 1⟩
abbrev BOOT_STATUS_FALLBACK : Fld := ⟨Reg.BOOT_STATUS, 15, 1⟩
abbrev BOOT_STATUS_SINGLE : Fld := ⟨Reg.BOOT_STATUS, 16, 1⟩
abbrev BOOT_STATUS_SEALDIFF : Fld := ⟨Reg.BOOT_STATUS, 17, 1⟩
abbrev BOOT_STATUS_TESTSTRAP : Fld := ⟨Reg.BOOT_STATUS, 18, 1⟩
abbrev BOOT_STATUS_FORCEGALE : Fld := ⟨Reg.BOOT_STATUS, 19, 1⟩
abbrev BOOT_STRAP_BOOTSEL : Fld := ⟨Reg.BOOT_STRAP, 0, 2⟩
abbrev BOOT_STRAP_HOSTSEL : Fld := ⟨Reg.BOOT_STRAP, 2, 1⟩
abbrev BOOT_STRAP_EFFSRC : Fld := ⟨Reg.BOOT_STRAP, 3, 2⟩
abbrev BOOT_FMT_FORMAT : Fld := ⟨Reg.BOOT_FMT, 0, 4⟩
abbrev BOOT_FMT_ROLLLVL : Fld := ⟨Reg.BOOT_FMT, 4, 6⟩
abbrev BOOT_FMT_KEYGEN : Fld := ⟨Reg.BOOT_FMT, 10, 8⟩
abbrev BOOT_BUILDLO_BUILD : Fld := ⟨Reg.BOOT_BUILDLO, 0, 24⟩
abbrev BOOT_BUILDHI_BUILD : Fld := ⟨Reg.BOOT_BUILDHI, 0, 8⟩
abbrev BOOT_FLASH_RELEASED : Fld := ⟨Reg.BOOT_FLASH, 0, 1⟩
abbrev BOOT_FLASH_QUAD : Fld := ⟨Reg.BOOT_FLASH, 1, 1⟩
abbrev BOOT_FLASH_DPD : Fld := ⟨Reg.BOOT_FLASH, 2, 1⟩
abbrev BOOT_FLASH_DENSITY : Fld := ⟨Reg.BOOT_FLASH, 8, 8⟩
abbrev BOOT_HOSTLEN_LEN : Fld := ⟨Reg.BOOT_HOSTLEN, 0, 20⟩
abbrev BOOT_CMD_GO : Fld := ⟨Reg.BOOT_CMD, 0, 1⟩
abbrev BOOT_CMD_RETRY : Fld := ⟨Reg.BOOT_CMD, 1, 1⟩
abbrev BOOT_DARKWR_COUNT : Fld := ⟨Reg.BOOT_DARKWR, 0, 8⟩
abbrev BOOT_UID0_UID : Fld := ⟨Reg.BOOT_UID0, 0, 24⟩
abbrev BOOT_UID1_UID : Fld := ⟨Reg.BOOT_UID1, 0, 24⟩
abbrev BOOT_UID2_UID : Fld := ⟨Reg.BOOT_UID2, 0, 16⟩
abbrev BOOT_FUSE_DBGDIS : Fld := ⟨Reg.BOOT_FUSE, 0, 1⟩
abbrev BOOT_FUSE_FMT1DIS : Fld := ⟨Reg.BOOT_FUSE, 1, 1⟩
abbrev BOOT_FUSE_HOSTBOOTDIS : Fld := ⟨Reg.BOOT_FUSE, 2, 1⟩
abbrev BOOT_FUSE_LIFECYCLE : Fld := ⟨Reg.BOOT_FUSE, 3, 2⟩
abbrev BOOT_FUSE_SHADOWOK : Fld := ⟨Reg.BOOT_FUSE, 5, 1⟩
abbrev BOOT_ROLLBACK_LEVEL : Fld := ⟨Reg.BOOT_ROLLBACK, 0, 6⟩
abbrev BOOT_TIME_US : Fld := ⟨Reg.BOOT_TIME, 0, 24⟩
/-! Table SPD-4. -/
abbrev CLU_ID_CLUSTER (c : Nat) : Fld := ⟨Reg.CLU_ID c, 0, 2⟩
abbrev CLU_OWNER_CTX (c : Nat) : Fld := ⟨Reg.CLU_OWNER c, 0, 12⟩
abbrev CLU_OWNER_PEND (c : Nat) : Fld := ⟨Reg.CLU_OWNER c, 12, 1⟩
abbrev CLU_OWNER_CLEARING (c : Nat) : Fld := ⟨Reg.CLU_OWNER c, 13, 1⟩
abbrev CLU_CLEAR_REQ (c : Nat) : Fld := ⟨Reg.CLU_CLEAR c, 0, 1⟩
/-! Table SPD-5. -/
abbrev SPD_STATUS_CLEARING (c : Nat) : Fld := ⟨Reg.SPD_STATUS c, 0, 1⟩
abbrev SPD_STATUS_INGRESS (c : Nat) : Fld := ⟨Reg.SPD_STATUS c, 1, 1⟩
abbrev SPD_WAITMAX_MAX (c : Nat) : Fld := ⟨Reg.SPD_WAITMAX c, 0, 4⟩
abbrev SPD_CONFL_COUNT (c : Nat) : Fld := ⟨Reg.SPD_CONFL c, 0, 24⟩
abbrev SPD_CLRCNT_COUNT (c : Nat) : Fld := ⟨Reg.SPD_CLRCNT c, 0, 16⟩
/-! Table SPD-6. -/
abbrev RND_STATUS_BUSY : Fld := ⟨Reg.RND_STATUS, 0, 4⟩
abbrev RND_OUT_OUT (c : Nat) : Fld := ⟨Reg.RND_OUT c, 0, 6⟩
abbrev RND_OUT_RD (c : Nat) : Fld := ⟨Reg.RND_OUT c, 6, 4⟩
abbrev RND_PERR_COUNT (c : Nat) : Fld := ⟨Reg.RND_PERR c, 0, 16⟩
abbrev RND_PMARK_CTX (c : Nat) : Fld := ⟨Reg.RND_PMARK c, 0, 12⟩
abbrev RND_PMARK_PEND (c : Nat) : Fld := ⟨Reg.RND_PMARK c, 12, 1⟩
abbrev RND_LATE_CTX (c : Nat) : Fld := ⟨Reg.RND_LATE c, 0, 12⟩
abbrev RND_LATE_VALID (c : Nat) : Fld := ⟨Reg.RND_LATE c, 12, 1⟩
abbrev RND_LATE_MULTI (c : Nat) : Fld := ⟨Reg.RND_LATE c, 13, 1⟩
abbrev RND_RMLOG0_ROW (c : Nat) : Fld := ⟨Reg.RND_RMLOG0 c, 0, 12⟩
abbrev RND_RMLOG0_SRC (c : Nat) : Fld := ⟨Reg.RND_RMLOG0 c, 12, 2⟩
abbrev RND_RMLOG0_CAUSE (c : Nat) : Fld := ⟨Reg.RND_RMLOG0 c, 14, 2⟩
abbrev RND_RMLOG0_VALID (c : Nat) : Fld := ⟨Reg.RND_RMLOG0 c, 16, 1⟩
abbrev RND_RMLOG0_WIDE (c : Nat) : Fld := ⟨Reg.RND_RMLOG0 c, 17, 1⟩
abbrev RND_RMLOG0_SEALED (c : Nat) : Fld := ⟨Reg.RND_RMLOG0 c, 18, 1⟩
abbrev RND_RMLOG1_CTX (c : Nat) : Fld := ⟨Reg.RND_RMLOG1 c, 0, 12⟩
abbrev RND_RMPOP_POP (c : Nat) : Fld := ⟨Reg.RND_RMPOP c, 0, 1⟩
abbrev RND_RMCNT_COUNT (c : Nat) : Fld := ⟨Reg.RND_RMCNT c, 0, 5⟩
abbrev RND_RMCNT_OVF (c : Nat) : Fld := ⟨Reg.RND_RMCNT c, 5, 8⟩
abbrev RND_RDERR_COUNT (c : Nat) : Fld := ⟨Reg.RND_RDERR c, 0, 16⟩
/-! Table TILE-10. -/
abbrev TILE_ID_TILE (t : Nat) : Fld := ⟨Reg.TILE_ID t, 0, 5⟩
abbrev TILE_STATE_STATE (t : Nat) : Fld := ⟨Reg.TILE_STATE t, 0, 3⟩
abbrev TILE_STATE_SEALED (t : Nat) : Fld := ⟨Reg.TILE_STATE t, 3, 1⟩
abbrev TILE_STATE_QDEPTH (t : Nat) : Fld := ⟨Reg.TILE_STATE t, 4, 2⟩
abbrev TILE_STATE_LONG (t : Nat) : Fld := ⟨Reg.TILE_STATE t, 6, 1⟩
abbrev TILE_STATE_KIND (t : Nat) : Fld := ⟨Reg.TILE_STATE t, 7, 1⟩
abbrev TILE_PASSCFG_SKIPEN (t : Nat) : Fld := ⟨Reg.TILE_PASSCFG t, 0, 1⟩
abbrev TILE_PASSCFG_GATEEN (t : Nat) : Fld := ⟨Reg.TILE_PASSCFG t, 1, 1⟩
abbrev TILE_CMD_PGM (t : Nat) : Fld := ⟨Reg.TILE_CMD t, 0, 1⟩
abbrev TILE_CMD_WIPE (t : Nat) : Fld := ⟨Reg.TILE_CMD t, 1, 1⟩
abbrev TILE_CMD_BCHK (t : Nat) : Fld := ⟨Reg.TILE_CMD t, 2, 1⟩
abbrev TILE_CMD_ABORT (t : Nat) : Fld := ⟨Reg.TILE_CMD t, 3, 1⟩
abbrev TILE_PGMSRC_SRCROW (t : Nat) : Fld := ⟨Reg.TILE_PGMSRC t, 0, 12⟩
abbrev TILE_PGMROWS_FIRST (t : Nat) : Fld := ⟨Reg.TILE_PGMROWS t, 0, 10⟩
abbrev TILE_PGMROWS_COUNT (t : Nat) : Fld := ⟨Reg.TILE_PGMROWS t, 10, 10⟩
abbrev TILE_PGMCFG_GRPMASK (t : Nat) : Fld := ⟨Reg.TILE_PGMCFG t, 0, 6⟩
abbrev TILE_PGMCFG_STUCKOK (t : Nat) : Fld := ⟨Reg.TILE_PGMCFG t, 6, 3⟩
abbrev TILE_PGMGEN_GEN (t : Nat) : Fld := ⟨Reg.TILE_PGMGEN t, 0, 16⟩
abbrev TILE_GEN_GEN (t : Nat) : Fld := ⟨Reg.TILE_GEN t, 0, 16⟩
abbrev TILE_GEN_VALID (t : Nat) : Fld := ⟨Reg.TILE_GEN t, 16, 1⟩
abbrev TILE_LSTAT_STATUS (t : Nat) : Fld := ⟨Reg.TILE_LSTAT t, 0, 4⟩
abbrev TILE_LSTAT_ROWSDONE (t : Nat) : Fld := ⟨Reg.TILE_LSTAT t, 4, 10⟩
abbrev TILE_LSTAT_SPARENEW (t : Nat) : Fld := ⟨Reg.TILE_LSTAT t, 14, 4⟩
abbrev TILE_LSTAT_DUP (t : Nat) : Fld := ⟨Reg.TILE_LSTAT t, 18, 1⟩
abbrev TILE_STUCK_COUNT (t : Nat) : Fld := ⟨Reg.TILE_STUCK t, 0, 10⟩
abbrev TILE_BCHK_GROUPS (t : Nat) : Fld := ⟨Reg.TILE_BCHK t, 0, 12⟩
abbrev TILE_BCHK_GAIN (t : Nat) : Fld := ⟨Reg.TILE_BCHK t, 12, 2⟩
abbrev TILE_BRES0_B0_B3 (t : Nat) : Fld := ⟨Reg.TILE_BRES0 t, 0, 24⟩
abbrev TILE_BRES1_B4_B7 (t : Nat) : Fld := ⟨Reg.TILE_BRES1 t, 0, 24⟩
abbrev TILE_CLIP_COUNT (t : Nat) : Fld := ⟨Reg.TILE_CLIP t, 0, 16⟩
abbrev TILE_CLIP_GRP (t : Nat) : Fld := ⟨Reg.TILE_CLIP t, 16, 6⟩
abbrev TILE_CLIPTOT_COUNT (t : Nat) : Fld := ⟨Reg.TILE_CLIPTOT t, 0, 24⟩
abbrev TILE_SKIPTOT_COUNT (t : Nat) : Fld := ⟨Reg.TILE_SKIPTOT t, 0, 24⟩
abbrev TILE_PASSTOT_COUNT (t : Nat) : Fld := ⟨Reg.TILE_PASSTOT t, 0, 24⟩
abbrev TILE_COLSEL_COL (t : Nat) : Fld := ⟨Reg.TILE_COLSEL t, 0, 9⟩
abbrev TILE_COLACC0_ACC (t : Nat) : Fld := ⟨Reg.TILE_COLACC0 t, 0, 24⟩
abbrev TILE_COLACC1_ACC (t : Nat) : Fld := ⟨Reg.TILE_COLACC1 t, 0, 8⟩
abbrev TILE_ERR_BUSY (t : Nat) : Fld := ⟨Reg.TILE_ERR t, 0, 1⟩
abbrev TILE_ERR_BADWEIGHT (t : Nat) : Fld := ⟨Reg.TILE_ERR t, 1, 1⟩
abbrev TILE_ERR_NOSPARE (t : Nat) : Fld := ⟨Reg.TILE_ERR t, 2, 1⟩
abbrev TILE_ERR_SEALSRC (t : Nat) : Fld := ⟨Reg.TILE_ERR t, 3, 1⟩
abbrev TILE_ERR_ABORTED (t : Nat) : Fld := ⟨Reg.TILE_ERR t, 4, 1⟩
abbrev TILE_SPARE_LROW (t n : Nat) : Fld := ⟨Reg.TILE_SPARE t n, 0, 10⟩
abbrev TILE_SPARE_VALID (t n : Nat) : Fld := ⟨Reg.TILE_SPARE t n, 10, 1⟩
abbrev TILE_SPARE_BAD (t n : Nat) : Fld := ⟨Reg.TILE_SPARE t n, 11, 1⟩
/-! Table TOP-15. -/
abbrev TAL_STATUS_QDEPTH (c : Nat) : Fld := ⟨Reg.TAL_STATUS c, 0, 5⟩
abbrev TAL_STATUS_BUSY (c : Nat) : Fld := ⟨Reg.TAL_STATUS c, 5, 1⟩
abbrev TAL_STATUS_BADARG (c : Nat) : Fld := ⟨Reg.TAL_STATUS c, 6, 1⟩
abbrev TAL_STATUS_OWNPEND (c : Nat) : Fld := ⟨Reg.TAL_STATUS c, 7, 1⟩
abbrev TAL_STATUS_CPLOVF (c : Nat) : Fld := ⟨Reg.TAL_STATUS c, 8, 1⟩
abbrev TAL_CPL_TAG (c : Nat) : Fld := ⟨Reg.TAL_CPL c, 0, 6⟩
abbrev TAL_CPL_STATUS (c : Nat) : Fld := ⟨Reg.TAL_CPL c, 6, 4⟩
abbrev TAL_CPL_OPC (c : Nat) : Fld := ⟨Reg.TAL_CPL c, 10, 4⟩
abbrev TAL_CPL_MIXED (c : Nat) : Fld := ⟨Reg.TAL_CPL c, 14, 1⟩
abbrev TAL_CPL_SEALED (c : Nat) : Fld := ⟨Reg.TAL_CPL c, 15, 1⟩
abbrev TAL_CPL_PORT (c : Nat) : Fld := ⟨Reg.TAL_CPL c, 16, 1⟩
abbrev TAL_CPL_VALID (c : Nat) : Fld := ⟨Reg.TAL_CPL c, 17, 1⟩
abbrev TAL_CPLPOP_POP (c : Nat) : Fld := ⟨Reg.TAL_CPLPOP c, 0, 1⟩
abbrev TAL_CPLCNT_COUNT (c : Nat) : Fld := ⟨Reg.TAL_CPLCNT c, 0, 5⟩
abbrev TAL_CPLCNT_OVF (c : Nat) : Fld := ⟨Reg.TAL_CPLCNT c, 5, 8⟩
abbrev TAL_DONECNT_COUNT (c : Nat) : Fld := ⟨Reg.TAL_DONECNT c, 0, 24⟩
abbrev TAL_RSTSEED_STATE (c : Nat) : Fld := ⟨Reg.TAL_RSTSEED c, 0, 24⟩
abbrev TAL_DSTAT_SAT (c : Nat) : Fld := ⟨Reg.TAL_DSTAT c, 0, 16⟩
abbrev TAL_DSTAT_P48OVF (c : Nat) : Fld := ⟨Reg.TAL_DSTAT c, 16, 1⟩
abbrev TAL_REDIDX_IDX (c : Nat) : Fld := ⟨Reg.TAL_REDIDX c, 0, 9⟩
abbrev TAL_REDIDX_VALID (c : Nat) : Fld := ⟨Reg.TAL_REDIDX c, 9, 1⟩
abbrev TAL_REDVAL0_VAL (c : Nat) : Fld := ⟨Reg.TAL_REDVAL0 c, 0, 24⟩
abbrev TAL_REDVAL1_VAL (c : Nat) : Fld := ⟨Reg.TAL_REDVAL1 c, 0, 24⟩
abbrev TAL_PAD_PAD (c n : Nat) : Fld := ⟨Reg.TAL_PAD c n, 0, 24⟩
abbrev TAL_OP_D_WORD (c p w : Nat) : Fld := ⟨Reg.TAL_OP_D c p w, 0, 24⟩
/-! Table TOP-16. -/
abbrev MOV_STATUS_QDEPTH (c : Nat) : Fld := ⟨Reg.MOV_STATUS c, 0, 4⟩
abbrev MOV_STATUS_BUSY (c : Nat) : Fld := ⟨Reg.MOV_STATUS c, 4, 1⟩
abbrev MOV_STATUS_OWNPEND (c : Nat) : Fld := ⟨Reg.MOV_STATUS c, 5, 1⟩
abbrev MOV_STATUS_CPLOVF (c : Nat) : Fld := ⟨Reg.MOV_STATUS c, 6, 1⟩
abbrev MOV_CPL_TAG (c : Nat) : Fld := ⟨Reg.MOV_CPL c, 0, 6⟩
abbrev MOV_CPL_STATUS (c : Nat) : Fld := ⟨Reg.MOV_CPL c, 6, 3⟩
abbrev MOV_CPL_PORT (c : Nat) : Fld := ⟨Reg.MOV_CPL c, 9, 1⟩
abbrev MOV_CPL_VALID (c : Nat) : Fld := ⟨Reg.MOV_CPL c, 10, 1⟩
abbrev MOV_CPL_ROWS (c : Nat) : Fld := ⟨Reg.MOV_CPL c, 11, 13⟩
abbrev MOV_CPLPOP_POP (c : Nat) : Fld := ⟨Reg.MOV_CPLPOP c, 0, 1⟩
abbrev MOV_CPLCNT_COUNT (c : Nat) : Fld := ⟨Reg.MOV_CPLCNT c, 0, 4⟩
abbrev MOV_CPLCNT_OVF (c : Nat) : Fld := ⟨Reg.MOV_CPLCNT c, 4, 8⟩
abbrev MOV_DSTAT_COUNT (c : Nat) : Fld := ⟨Reg.MOV_DSTAT c, 0, 24⟩
abbrev MOV_JOB_J_WORD (c p w : Nat) : Fld := ⟨Reg.MOV_JOB_J c p w, 0, 24⟩
/-! Table CAL-6. -/
abbrev CAL_CFG_ONCHK (t : Nat) : Fld := ⟨Reg.CAL_CFG t, 0, 1⟩
abbrev CAL_CMD_TRIM (t : Nat) : Fld := ⟨Reg.CAL_CMD t, 0, 1⟩
abbrev CAL_CMD_RFSH (t : Nat) : Fld := ⟨Reg.CAL_CMD t, 1, 1⟩
abbrev CAL_STAT_TRIMOK (t : Nat) : Fld := ⟨Reg.CAL_STAT t, 0, 1⟩
abbrev CAL_STAT_CARDBAD (t : Nat) : Fld := ⟨Reg.CAL_STAT t, 1, 1⟩
abbrev CAL_STAT_RFACT (t : Nat) : Fld := ⟨Reg.CAL_STAT t, 2, 1⟩
abbrev CAL_STAT_WARN (t : Nat) : Fld := ⟨Reg.CAL_STAT t, 3, 1⟩
abbrev CAL_STAT_TRIP (t : Nat) : Fld := ⟨Reg.CAL_STAT t, 4, 1⟩
abbrev CAL_STAT_TRIPCNT (t : Nat) : Fld := ⟨Reg.CAL_STAT t, 5, 2⟩
abbrev CAL_STAT_PAIROK (t : Nat) : Fld := ⟨Reg.CAL_STAT t, 7, 1⟩
abbrev CAL_STAT_PAIRBUSY (t : Nat) : Fld := ⟨Reg.CAL_STAT t, 8, 1⟩
abbrev CAL_STAT_DARK (t : Nat) : Fld := ⟨Reg.CAL_STAT t, 9, 1⟩
abbrev CAL_STAT_FULLRF (t : Nat) : Fld := ⟨Reg.CAL_STAT t, 10, 8⟩
abbrev CAL_THR_WARN (t : Nat) : Fld := ⟨Reg.CAL_THR t, 0, 3⟩
abbrev CAL_THR_TRIP (t : Nat) : Fld := ⟨Reg.CAL_THR t, 3, 3⟩
abbrev CAL_THR_TRIPN (t : Nat) : Fld := ⟨Reg.CAL_THR t, 6, 2⟩
abbrev CAL_BEXP0_B0_B3 (t : Nat) : Fld := ⟨Reg.CAL_BEXP0 t, 0, 24⟩
abbrev CAL_BEXP1_B4_B7 (t : Nat) : Fld := ⟨Reg.CAL_BEXP1 t, 0, 24⟩
abbrev CAL_LASTDEV_MAXDEV (t : Nat) : Fld := ⟨Reg.CAL_LASTDEV t, 0, 5⟩
abbrev CAL_LASTDEV_COL (t : Nat) : Fld := ⟨Reg.CAL_LASTDEV t, 5, 3⟩
abbrev CAL_LASTDEV_CLIP (t : Nat) : Fld := ⟨Reg.CAL_LASTDEV t, 8, 1⟩
abbrev CAL_CHKCNT_COUNT (t : Nat) : Fld := ⟨Reg.CAL_CHKCNT t, 0, 24⟩
abbrev CAL_RFROWS_FIRST (t : Nat) : Fld := ⟨Reg.CAL_RFROWS t, 0, 10⟩
abbrev CAL_RFROWS_COUNT (t : Nat) : Fld := ⟨Reg.CAL_RFROWS t, 10, 10⟩
abbrev CAL_RFCFG_GRPMASK (t : Nat) : Fld := ⟨Reg.CAL_RFCFG t, 0, 6⟩
abbrev CAL_RFCFG_BARO (t : Nat) : Fld := ⟨Reg.CAL_RFCFG t, 6, 1⟩
abbrev CAL_RFSTAT_AMBIG (t : Nat) : Fld := ⟨Reg.CAL_RFSTAT t, 0, 12⟩
abbrev CAL_RFSTAT_PULSED (t : Nat) : Fld := ⟨Reg.CAL_RFSTAT t, 12, 10⟩
abbrev CAL_PAIR_PARTNER (t : Nat) : Fld := ⟨Reg.CAL_PAIR t, 0, 5⟩
abbrev CAL_PAIR_ROLE (t : Nat) : Fld := ⟨Reg.CAL_PAIR t, 5, 1⟩
abbrev CAL_PAIR_EN (t : Nat) : Fld := ⟨Reg.CAL_PAIR t, 6, 1⟩
abbrev CAL_SWEEP_FAIL (t : Nat) : Fld := ⟨Reg.CAL_SWEEP t, 0, 9⟩
abbrev CAL_TRIM_TRIM (t k : Nat) : Fld := ⟨Reg.CAL_TRIM t k, 0, 24⟩
/-! Table DFA-10. -/
abbrev DFA_STATUS_QDEPTH (c : Nat) : Fld := ⟨Reg.DFA_STATUS c, 0, 3⟩
abbrev DFA_STATUS_RUN (c : Nat) : Fld := ⟨Reg.DFA_STATUS c, 3, 1⟩
abbrev DFA_STATUS_SLOT (c : Nat) : Fld := ⟨Reg.DFA_STATUS c, 4, 2⟩
abbrev DFA_STATUS_ENTRY (c : Nat) : Fld := ⟨Reg.DFA_STATUS c, 6, 3⟩
abbrev DFA_STATUS_LOADRUN (c : Nat) : Fld := ⟨Reg.DFA_STATUS c, 9, 1⟩
abbrev DFA_STATUS_BADARG (c : Nat) : Fld := ⟨Reg.DFA_STATUS c, 10, 1⟩
abbrev DFA_STATUS_OWNPEND (c : Nat) : Fld := ⟨Reg.DFA_STATUS c, 11, 1⟩
abbrev DFA_STATUS_LOADBUSY (c : Nat) : Fld := ⟨Reg.DFA_STATUS c, 12, 1⟩
abbrev DFA_STATUS_EXHAUST (c : Nat) : Fld := ⟨Reg.DFA_STATUS c, 13, 1⟩
abbrev DFA_STATUS_LDSEAL (c : Nat) : Fld := ⟨Reg.DFA_STATUS c, 14, 1⟩
abbrev DFA_STATUS_CPLOVF (c : Nat) : Fld := ⟨Reg.DFA_STATUS c, 15, 1⟩
abbrev DFA_POS_STEP (c : Nat) : Fld := ⟨Reg.DFA_POS c, 0, 8⟩
abbrev DFA_POS_ITER (c : Nat) : Fld := ⟨Reg.DFA_POS c, 8, 16⟩
abbrev DFA_CPL_TAG (c : Nat) : Fld := ⟨Reg.DFA_CPL c, 0, 6⟩
abbrev DFA_CPL_STATUS (c : Nat) : Fld := ⟨Reg.DFA_CPL c, 6, 2⟩
abbrev DFA_CPL_SLOT (c : Nat) : Fld := ⟨Reg.DFA_CPL c, 8, 2⟩
abbrev DFA_CPL_SRC (c : Nat) : Fld := ⟨Reg.DFA_CPL c, 10, 2⟩
abbrev DFA_CPL_SEALED (c : Nat) : Fld := ⟨Reg.DFA_CPL c, 12, 1⟩
abbrev DFA_CPL_EXH (c : Nat) : Fld := ⟨Reg.DFA_CPL c, 13, 1⟩
abbrev DFA_CPL_VALID (c : Nat) : Fld := ⟨Reg.DFA_CPL c, 14, 1⟩
abbrev DFA_CPLPOP_POP (c : Nat) : Fld := ⟨Reg.DFA_CPLPOP c, 0, 1⟩
abbrev DFA_CPLCNT_COUNT (c : Nat) : Fld := ⟨Reg.DFA_CPLCNT c, 0, 4⟩
abbrev DFA_CPLCNT_OVF (c : Nat) : Fld := ⟨Reg.DFA_CPLCNT c, 4, 8⟩
abbrev DFA_RBAD_ROUND (c : Nat) : Fld := ⟨Reg.DFA_RBAD c, 0, 8⟩
abbrev DFA_SATCNT_COUNT (c : Nat) : Fld := ⟨Reg.DFA_SATCNT c, 0, 24⟩
abbrev DFA_STALLCNT_COUNT (c : Nat) : Fld := ⟨Reg.DFA_STALLCNT c, 0, 24⟩
abbrev DFA_RSTSEED_STATE (c : Nat) : Fld := ⟨Reg.DFA_RSTSEED c, 0, 24⟩
abbrev DFA_ABORT_REQ (c : Nat) : Fld := ⟨Reg.DFA_ABORT c, 0, 1⟩
abbrev DFA_LOAD0_SRCROW (c : Nat) : Fld := ⟨Reg.DFA_LOAD0 c, 0, 12⟩
abbrev DFA_LOAD0_NROWS (c : Nat) : Fld := ⟨Reg.DFA_LOAD0 c, 12, 10⟩
abbrev DFA_LOAD1_WIDX (c : Nat) : Fld := ⟨Reg.DFA_LOAD1 c, 0, 17⟩
abbrev DFA_LOADCMD_GO (c : Nat) : Fld := ⟨Reg.DFA_LOADCMD c, 0, 1⟩
abbrev DFA_START_SLOT (c p : Nat) : Fld := ⟨Reg.DFA_START c p, 0, 2⟩
abbrev DFA_START_TAG (c p : Nat) : Fld := ⟨Reg.DFA_START c p, 2, 6⟩
abbrev DFA_START_NOTIFY (c p : Nat) : Fld := ⟨Reg.DFA_START c p, 8, 1⟩
/-! Table HOST-4. -/
abbrev DB_TAIL_TAIL (q : Nat) : Fld := ⟨Reg.DB_TAIL q, 0, 12⟩
abbrev DB_HEAD_HEAD (q : Nat) : Fld := ⟨Reg.DB_HEAD q, 0, 12⟩
abbrev DB_STATE_STATE (q : Nat) : Fld := ⟨Reg.DB_STATE q, 0, 3⟩
abbrev DB_STATE_LASTSTAT (q : Nat) : Fld := ⟨Reg.DB_STATE q, 3, 5⟩
abbrev DB_PROG_ALL (q : Nat) : Fld := ⟨Reg.DB_PROG q, 0, 24⟩
abbrev DB_FSEL_INDEX (q : Nat) : Fld := ⟨Reg.DB_FSEL q, 0, 12⟩
abbrev DB_FSTATE_ALL (q : Nat) : Fld := ⟨Reg.DB_FSTATE q, 0, 24⟩
abbrev DB_DONE_COUNT (q : Nat) : Fld := ⟨Reg.DB_DONE q, 0, 24⟩
/-! Table HOST-12. -/
abbrev HST_ID0_PART : Fld := ⟨Reg.HST_ID0, 0, 16⟩
abbrev HST_ID1_STEP : Fld := ⟨Reg.HST_ID1, 0, 8⟩
abbrev HST_ID1_VENDOR : Fld := ⟨Reg.HST_ID1, 8, 16⟩
abbrev HST_LINK_SPEED : Fld := ⟨Reg.HST_LINK, 0, 2⟩
abbrev HST_LINK_WIDTH : Fld := ⟨Reg.HST_LINK, 2, 2⟩
abbrev HST_LINK_UP : Fld := ⟨Reg.HST_LINK, 4, 1⟩
abbrev HST_LINK_HOSTSEL : Fld := ⟨Reg.HST_LINK, 5, 1⟩
abbrev HST_LINK_D3 : Fld := ⟨Reg.HST_LINK, 6, 1⟩
abbrev HST_LINKCFG_MAXSPD : Fld := ⟨Reg.HST_LINKCFG, 0, 2⟩
abbrev HST_LINKCFG_X1ONLY : Fld := ⟨Reg.HST_LINKCFG, 2, 1⟩
abbrev HST_LINKCFG_RETRAIN : Fld := ⟨Reg.HST_LINKCFG, 3, 1⟩
abbrev HST_IRQSTAT_MGMT : Fld := ⟨Reg.HST_IRQSTAT, 0, 1⟩
abbrev HST_IRQSTAT_QERR : Fld := ⟨Reg.HST_IRQSTAT, 1, 1⟩
abbrev HST_IRQSTAT_LOCKOUT : Fld := ⟨Reg.HST_IRQSTAT, 2, 1⟩
abbrev HST_IRQSTAT_FAULT : Fld := ⟨Reg.HST_IRQSTAT, 3, 1⟩
abbrev HST_IRQSTAT_SPIERR : Fld := ⟨Reg.HST_IRQSTAT, 4, 1⟩
abbrev HST_IRQSTAT_FLRDONE : Fld := ⟨Reg.HST_IRQSTAT, 5, 1⟩
abbrev HST_IRQEN_EN : Fld := ⟨Reg.HST_IRQEN, 0, 6⟩
abbrev HST_IRQVEC_VEC : Fld := ⟨Reg.HST_IRQVEC, 0, 6⟩
abbrev HST_VPEND0_PEND : Fld := ⟨Reg.HST_VPEND0, 0, 24⟩
abbrev HST_VPEND1_PEND : Fld := ⟨Reg.HST_VPEND1, 0, 24⟩
abbrev HST_VPEND2_PEND : Fld := ⟨Reg.HST_VPEND2, 0, 16⟩
abbrev HST_SPISTAT_PROTO : Fld := ⟨Reg.HST_SPISTAT, 0, 1⟩
abbrev HST_SPISTAT_MODE3 : Fld := ⟨Reg.HST_SPISTAT, 1, 1⟩
abbrev HST_SPISTAT_IRQ : Fld := ⟨Reg.HST_SPISTAT, 2, 1⟩
abbrev HST_SPIERR_HCRC : Fld := ⟨Reg.HST_SPIERR, 0, 8⟩
abbrev HST_SPIERR_DCRC : Fld := ⟨Reg.HST_SPIERR, 8, 8⟩
abbrev HST_SPIERR_FRAME : Fld := ⟨Reg.HST_SPIERR, 16, 8⟩
abbrev HST_ERR_RDFAIL : Fld := ⟨Reg.HST_ERR, 0, 1⟩
abbrev HST_HWIN0_BASE (w : Nat) : Fld := ⟨Reg.HST_HWIN0 w, 0, 24⟩
abbrev HST_HWIN1_BASE (w : Nat) : Fld := ⟨Reg.HST_HWIN1 w, 0, 24⟩
abbrev HST_HWIN2_BASE (w : Nat) : Fld := ⟨Reg.HST_HWIN2 w, 0, 4⟩
abbrev HST_HWIN2_CTX (w : Nat) : Fld := ⟨Reg.HST_HWIN2 w, 4, 12⟩
abbrev HST_HWIN2_EN (w : Nat) : Fld := ⟨Reg.HST_HWIN2 w, 16, 1⟩
/-! Table HOST-13. -/
abbrev QUE_QCFG_CTX (q : Nat) : Fld := ⟨Reg.QUE_QCFG q, 0, 12⟩
abbrev QUE_QCFG_FMT (q : Nat) : Fld := ⟨Reg.QUE_QCFG q, 12, 1⟩
abbrev QUE_QCFG_RINGLOC (q : Nat) : Fld := ⟨Reg.QUE_QCFG q, 13, 1⟩
abbrev QUE_QCFG_RINGLOG2 (q : Nat) : Fld := ⟨Reg.QUE_QCFG q, 14, 4⟩
abbrev QUE_QCFG_MAXFLY (q : Nat) : Fld := ⟨Reg.QUE_QCFG q, 18, 4⟩
abbrev QUE_QCFG_STOPERR (q : Nat) : Fld := ⟨Reg.QUE_QCFG q, 22, 1⟩
abbrev QUE_QRING0_BASE (q : Nat) : Fld := ⟨Reg.QUE_QRING0 q, 0, 24⟩
abbrev QUE_QRING1_BASE (q : Nat) : Fld := ⟨Reg.QUE_QRING1 q, 0, 24⟩
abbrev QUE_QRING2_BASE (q : Nat) : Fld := ⟨Reg.QUE_QRING2 q, 0, 4⟩
abbrev QUE_QRING2_VEC (q : Nat) : Fld := ⟨Reg.QUE_QRING2 q, 4, 6⟩
abbrev QUE_QRING2_VECEN (q : Nat) : Fld := ⟨Reg.QUE_QRING2 q, 10, 1⟩
abbrev QUE_QCTL_CMD (q : Nat) : Fld := ⟨Reg.QUE_QCTL q, 0, 3⟩
abbrev QUE_QSTATE_STATE (q : Nat) : Fld := ⟨Reg.QUE_QSTATE q, 0, 3⟩
abbrev QUE_QSTATE_INFLY (q : Nat) : Fld := ⟨Reg.QUE_QSTATE q, 3, 5⟩
abbrev QUE_QSTATE_LASTSTAT (q : Nat) : Fld := ⟨Reg.QUE_QSTATE q, 8, 5⟩
abbrev QUE_QTIMEOUT_T64 (q : Nat) : Fld := ⟨Reg.QUE_QTIMEOUT q, 0, 16⟩
abbrev QUE_QPTR_HEAD (q : Nat) : Fld := ⟨Reg.QUE_QPTR q, 0, 12⟩
abbrev QUE_QPTR_TAIL (q : Nat) : Fld := ⟨Reg.QUE_QPTR q, 12, 12⟩
abbrev QUE_QPROG_ALL (q : Nat) : Fld := ⟨Reg.QUE_QPROG q, 0, 24⟩
abbrev QUE_QERR_FETCHERR (q : Nat) : Fld := ⟨Reg.QUE_QERR q, 0, 1⟩
abbrev QUE_QERR_BADTAIL (q : Nat) : Fld := ⟨Reg.QUE_QERR q, 1, 1⟩
abbrev QUE_QERR_TIMEOUT (q : Nat) : Fld := ⟨Reg.QUE_QERR q, 2, 1⟩
abbrev QUE_QERR_GLOBAL (q : Nat) : Fld := ⟨Reg.QUE_QERR q, 3, 1⟩
abbrev QUE_QERR_BADFENCE (q : Nat) : Fld := ⟨Reg.QUE_QERR q, 4, 1⟩
abbrev QUE_QERR_BADCMD (q : Nat) : Fld := ⟨Reg.QUE_QERR q, 5, 1⟩
abbrev QUE_QDUP_COUNT (q : Nat) : Fld := ⟨Reg.QUE_QDUP q, 0, 16⟩
abbrev QUE_QDONE_COUNT (q : Nat) : Fld := ⟨Reg.QUE_QDONE q, 0, 24⟩
abbrev QUE_GLIMIT_US : Fld := ⟨Reg.QUE_GLIMIT, 0, 24⟩
abbrev QUE_FLY_TOTAL : Fld := ⟨Reg.QUE_FLY, 0, 7⟩
abbrev QUE_FLYCL_CL : Fld := ⟨Reg.QUE_FLYCL, 0, 20⟩
abbrev QUE_CLASSIGN_CTX (c : Nat) : Fld := ⟨Reg.QUE_CLASSIGN c, 0, 12⟩
abbrev QUE_CLASSIGN_PEND (c : Nat) : Fld := ⟨Reg.QUE_CLASSIGN c, 12, 1⟩
abbrev QUE_FCTL_INDEX : Fld := ⟨Reg.QUE_FCTL, 0, 12⟩
abbrev QUE_FCTL_OP : Fld := ⟨Reg.QUE_FCTL, 12, 3⟩
abbrev QUE_FCTLARG_CTX : Fld := ⟨Reg.QUE_FCTLARG, 0, 12⟩
abbrev QUE_FCTLARG_STATUS : Fld := ⟨Reg.QUE_FCTLARG, 12, 5⟩
abbrev QUE_FCTLARG_VEC : Fld := ⟨Reg.QUE_FCTLARG, 17, 6⟩
abbrev QUE_FCTLARG_IRQ : Fld := ⟨Reg.QUE_FCTLARG, 23, 1⟩
abbrev QUE_FCTLSTAT_BUSY : Fld := ⟨Reg.QUE_FCTLSTAT, 0, 1⟩
abbrev QUE_FCTLSTAT_REFUSED : Fld := ⟨Reg.QUE_FCTLSTAT, 1, 1⟩
abbrev QUE_FCTLSTAT_RESIGNAL : Fld := ⟨Reg.QUE_FCTLSTAT, 2, 1⟩
abbrev QUE_FCTLSTAT_COUNT : Fld := ⟨Reg.QUE_FCTLSTAT, 3, 12⟩
abbrev QUE_SVREQ0_QUEUE : Fld := ⟨Reg.QUE_SVREQ0, 0, 6⟩
abbrev QUE_SVREQ0_TILE : Fld := ⟨Reg.QUE_SVREQ0, 6, 5⟩
abbrev QUE_SVREQ0_VALID : Fld := ⟨Reg.QUE_SVREQ0, 11, 1⟩
abbrev QUE_SVREQ0_ABORT : Fld := ⟨Reg.QUE_SVREQ0, 12, 1⟩
abbrev QUE_SVREQ1_FIRST : Fld := ⟨Reg.QUE_SVREQ1, 0, 10⟩
abbrev QUE_SVREQ1_COUNT : Fld := ⟨Reg.QUE_SVREQ1, 10, 10⟩
abbrev QUE_SVREQ2_GRPMASK : Fld := ⟨Reg.QUE_SVREQ2, 0, 6⟩
abbrev QUE_SVREQ2_BARO : Fld := ⟨Reg.QUE_SVREQ2, 6, 1⟩
abbrev QUE_SVDONE_STATUS : Fld := ⟨Reg.QUE_SVDONE, 0, 4⟩
abbrev QUE_FSTATE_GEN (i : Nat) : Fld := ⟨Reg.QUE_FSTATE i, 0, 8⟩
abbrev QUE_FSTATE_STATE (i : Nat) : Fld := ⟨Reg.QUE_FSTATE i, 8, 2⟩
abbrev QUE_FSTATE_STATUS (i : Nat) : Fld := ⟨Reg.QUE_FSTATE i, 10, 5⟩
abbrev QUE_FSTATE_DETAIL (i : Nat) : Fld := ⟨Reg.QUE_FSTATE i, 15, 8⟩
abbrev QUE_FOWNER_CTX (i : Nat) : Fld := ⟨Reg.QUE_FOWNER i, 0, 12⟩
abbrev QUE_FOWNER_VEC (i : Nat) : Fld := ⟨Reg.QUE_FOWNER i, 12, 6⟩
abbrev QUE_FOWNER_IRQ (i : Nat) : Fld := ⟨Reg.QUE_FOWNER i, 18, 1⟩
/-! Table EVF-7. -/
abbrev EVF_STATUS_RETANY : Fld := ⟨Reg.EVF_STATUS, 0, 1⟩
abbrev EVF_SWFIRE_FIRE : Fld := ⟨Reg.EVF_SWFIRE, 0, 4⟩
abbrev EVF_RETCNT_COUNT : Fld := ⟨Reg.EVF_RETCNT, 0, 16⟩
abbrev EVF_TAINT0_CH : Fld := ⟨Reg.EVF_TAINT0, 0, 24⟩
abbrev EVF_TAINT1_CH : Fld := ⟨Reg.EVF_TAINT1, 0, 8⟩
abbrev EVF_CHEN_EN (k : Nat) : Fld := ⟨Reg.EVF_CHEN k, 0, 16⟩
abbrev EVF_SORT0_SELA (n : Nat) : Fld := ⟨Reg.EVF_SORT0 n, 0, 6⟩
abbrev EVF_SORT0_SELB (n : Nat) : Fld := ⟨Reg.EVF_SORT0 n, 6, 6⟩
abbrev EVF_SORT0_SELC (n : Nat) : Fld := ⟨Reg.EVF_SORT0 n, 12, 6⟩
abbrev EVF_SORT0_REG (n : Nat) : Fld := ⟨Reg.EVF_SORT0 n, 18, 1⟩
abbrev EVF_SORT0_EDGE (n : Nat) : Fld := ⟨Reg.EVF_SORT0 n, 19, 1⟩
abbrev EVF_SORT1_TRUTH (n : Nat) : Fld := ⟨Reg.EVF_SORT1 n, 0, 8⟩
abbrev EVF_SORT1_FLT (n : Nat) : Fld := ⟨Reg.EVF_SORT1 n, 8, 2⟩
abbrev EVF_SORT1_LEN (n : Nat) : Fld := ⟨Reg.EVF_SORT1 n, 10, 6⟩
abbrev EVF_SORT1_Q (n : Nat) : Fld := ⟨Reg.EVF_SORT1 n, 16, 1⟩
abbrev EVF_SORT1_OUT (n : Nat) : Fld := ⟨Reg.EVF_SORT1 n, 17, 1⟩
abbrev EVF_SWCFG_DBLRST (i : Nat) : Fld := ⟨Reg.EVF_SWCFG i, 0, 1⟩
abbrev EVF_SWSTAT_STATE (i : Nat) : Fld := ⟨Reg.EVF_SWSTAT i, 0, 2⟩
abbrev EVF_SWSTAT_SAME (i : Nat) : Fld := ⟨Reg.EVF_SWSTAT i, 2, 1⟩
abbrev EVF_SWSTAT_ORDER (i : Nat) : Fld := ⟨Reg.EVF_SWSTAT i, 3, 1⟩
abbrev EVF_SWSTAT_DOUBLE (i : Nat) : Fld := ⟨Reg.EVF_SWSTAT i, 4, 1⟩
abbrev EVF_SWSTAT_SAT (i : Nat) : Fld := ⟨Reg.EVF_SWSTAT i, 5, 1⟩
abbrev EVF_SWSTAT_CLKSTOP (i : Nat) : Fld := ⟨Reg.EVF_SWSTAT i, 6, 1⟩
abbrev EVF_SWSTAT_TAINT (i : Nat) : Fld := ⟨Reg.EVF_SWSTAT i, 7, 1⟩
abbrev EVF_SWRES0_WIDTH (i : Nat) : Fld := ⟨Reg.EVF_SWRES0 i, 0, 24⟩
abbrev EVF_SWRES1_WIDTH (i : Nat) : Fld := ⟨Reg.EVF_SWRES1 i, 0, 8⟩
abbrev EVF_HIRQ_VEC (n : Nat) : Fld := ⟨Reg.EVF_HIRQ n, 0, 6⟩
abbrev EVF_TASK_EN (u : Nat) : Fld := ⟨Reg.EVF_TASK u, 0, 4⟩
abbrev EVF_TASK_DROP (u : Nat) : Fld := ⟨Reg.EVF_TASK u, 4, 1⟩
abbrev EVF_TASK_HELD (u : Nat) : Fld := ⟨Reg.EVF_TASK u, 5, 1⟩
abbrev EVF_TASK_RET (u : Nat) : Fld := ⟨Reg.EVF_TASK u, 6, 1⟩
abbrev EVF_TASK_BUSY (u : Nat) : Fld := ⟨Reg.EVF_TASK u, 7, 1⟩
/-! Table EVF-8. -/
abbrev RTC_SEC0_SEC : Fld := ⟨Reg.RTC_SEC0, 0, 24⟩
abbrev RTC_SEC1_SEC : Fld := ⟨Reg.RTC_SEC1, 0, 8⟩
abbrev RTC_SUB_SUB : Fld := ⟨Reg.RTC_SUB, 0, 15⟩
abbrev RTC_SNAP_REQ : Fld := ⟨Reg.RTC_SNAP, 0, 1⟩
abbrev RTC_SNAPST_BUSY : Fld := ⟨Reg.RTC_SNAPST, 0, 1⟩
abbrev RTC_SNAPST_VALID : Fld := ⟨Reg.RTC_SNAPST, 1, 1⟩
abbrev RTC_SNAPST_STALE : Fld := ⟨Reg.RTC_SNAPST, 2, 1⟩
abbrev RTC_SNSEC0_SEC : Fld := ⟨Reg.RTC_SNSEC0, 0, 24⟩
abbrev RTC_SNSEC1_SEC : Fld := ⟨Reg.RTC_SNSEC1, 0, 8⟩
abbrev RTC_SNSUB_SUB : Fld := ⟨Reg.RTC_SNSUB, 0, 15⟩
abbrev RTC_SNFRAC_FRAC : Fld := ⟨Reg.RTC_SNFRAC, 0, 13⟩
abbrev RTC_WSEC0_SEC : Fld := ⟨Reg.RTC_WSEC0, 0, 24⟩
abbrev RTC_WSEC1_SEC : Fld := ⟨Reg.RTC_WSEC1, 0, 8⟩
abbrev RTC_WSUB_SUB : Fld := ⟨Reg.RTC_WSUB, 0, 15⟩
abbrev RTC_WCMD_GO : Fld := ⟨Reg.RTC_WCMD, 0, 1⟩
abbrev RTC_WCMD_CANCEL : Fld := ⟨Reg.RTC_WCMD, 1, 1⟩
abbrev RTC_STATUS_WPEND : Fld := ⟨Reg.RTC_STATUS, 0, 1⟩
abbrev RTC_STATUS_APPLIED : Fld := ⟨Reg.RTC_STATUS, 1, 1⟩
abbrev RTC_STATUS_ASKIP : Fld := ⟨Reg.RTC_STATUS, 2, 1⟩
abbrev RTC_STATUS_ALMFIRED : Fld := ⟨Reg.RTC_STATUS, 3, 1⟩
abbrev RTC_ALM0_SEC : Fld := ⟨Reg.RTC_ALM0, 0, 24⟩
abbrev RTC_ALM1_SEC : Fld := ⟨Reg.RTC_ALM1, 0, 8⟩
abbrev RTC_ALMSUB_SUB : Fld := ⟨Reg.RTC_ALMSUB, 0, 15⟩
abbrev RTC_ALMSUB_EN : Fld := ⟨Reg.RTC_ALMSUB, 15, 1⟩
abbrev RTC_TICK_DIV : Fld := ⟨Reg.RTC_TICK, 0, 4⟩
/-! Table PST-5. -/
abbrev PST_STATUS_BUSY : Fld := ⟨Reg.PST_STATUS, 0, 1⟩
abbrev PST_STATUS_MOUNTED : Fld := ⟨Reg.PST_STATUS, 1, 1⟩
abbrev PST_STATUS_STEP : Fld := ⟨Reg.PST_STATUS, 2, 3⟩
abbrev PST_STATUS_REFUSED : Fld := ⟨Reg.PST_STATUS, 5, 1⟩
abbrev PST_CMD_CMD : Fld := ⟨Reg.PST_CMD, 0, 3⟩
abbrev PST_RESULT_CODE : Fld := ⟨Reg.PST_RESULT, 0, 4⟩
abbrev PST_RESULT_CMD : Fld := ⟨Reg.PST_RESULT, 4, 3⟩
abbrev PST_KEY0_TYPE : Fld := ⟨Reg.PST_KEY0, 0, 16⟩
abbrev PST_KEY1_INST : Fld := ⟨Reg.PST_KEY1, 0, 16⟩
abbrev PST_SRC_CLUSTER : Fld := ⟨Reg.PST_SRC, 0, 2⟩
abbrev PST_SRC_ROW : Fld := ⟨Reg.PST_SRC, 2, 12⟩
abbrev PST_LEN_LEN : Fld := ⟨Reg.PST_LEN, 0, 9⟩
abbrev PST_FOUND_PAGE : Fld := ⟨Reg.PST_FOUND, 0, 8⟩
abbrev PST_FOUND_FOUND : Fld := ⟨Reg.PST_FOUND, 8, 1⟩
abbrev PST_FOUND_LEN : Fld := ⟨Reg.PST_FOUND, 9, 9⟩
abbrev PST_FSEQ0_SEQ : Fld := ⟨Reg.PST_FSEQ0, 0, 24⟩
abbrev PST_FSEQ1_SEQ : Fld := ⟨Reg.PST_FSEQ1, 0, 8⟩
abbrev PST_ECC_CE : Fld := ⟨Reg.PST_ECC, 0, 12⟩
abbrev PST_ECC_UE : Fld := ⟨Reg.PST_ECC, 12, 12⟩
abbrev PST_ECCADDR_GROUP : Fld := ⟨Reg.PST_ECCADDR, 0, 14⟩
abbrev PST_ECCADDR_UE : Fld := ⟨Reg.PST_ECCADDR, 14, 1⟩
abbrev PST_ECCADDR_VALID : Fld := ⟨Reg.PST_ECCADDR, 15, 1⟩
abbrev PST_COUNT_RECORDS : Fld := ⟨Reg.PST_COUNT, 0, 8⟩
abbrev PST_COUNT_SPARE : Fld := ⟨Reg.PST_COUNT, 8, 8⟩
abbrev PST_COUNT_RETIRED : Fld := ⟨Reg.PST_COUNT, 16, 8⟩
abbrev PST_MOUNTINFO_DIRTY : Fld := ⟨Reg.PST_MOUNTINFO, 0, 8⟩
abbrev PST_MOUNTINFO_REPAIR : Fld := ⟨Reg.PST_MOUNTINFO, 8, 1⟩
abbrev PST_MOUNTINFO_LOST : Fld := ⟨Reg.PST_MOUNTINFO, 9, 8⟩
abbrev PST_WEAR_MAX : Fld := ⟨Reg.PST_WEAR, 0, 17⟩
abbrev PST_PGSEL_PAGE : Fld := ⟨Reg.PST_PGSEL, 0, 8⟩
abbrev PST_PGINFO_STATE : Fld := ⟨Reg.PST_PGINFO, 0, 2⟩
abbrev PST_PGINFO_WEAR : Fld := ⟨Reg.PST_PGINFO, 2, 17⟩
abbrev PST_PGINFO_KNOWN : Fld := ⟨Reg.PST_PGINFO, 19, 1⟩
abbrev PST_PGINFO_RETIRED : Fld := ⟨Reg.PST_PGINFO, 20, 1⟩
/-! Table CIP-6. -/
abbrev CIP_LOCK_REQ : Fld := ⟨Reg.CIP_LOCK, 0, 1⟩
abbrev CIP_LOCK_REL : Fld := ⟨Reg.CIP_LOCK, 1, 1⟩
abbrev CIP_LOCK_OWNER : Fld := ⟨Reg.CIP_LOCK, 2, 4⟩
abbrev CIP_LOCK_MINE : Fld := ⟨Reg.CIP_LOCK, 6, 1⟩
abbrev CIP_LOCK_LENT : Fld := ⟨Reg.CIP_LOCK, 7, 1⟩
abbrev CIP_LOCK_WAIT : Fld := ⟨Reg.CIP_LOCK, 8, 3⟩
abbrev CIP_LOCKTO_T : Fld := ⟨Reg.CIP_LOCKTO, 0, 16⟩
abbrev CIP_STATUS_CODE : Fld := ⟨Reg.CIP_STATUS, 0, 4⟩
abbrev CIP_STATUS_OP : Fld := ⟨Reg.CIP_STATUS, 4, 4⟩
abbrev CIP_STATUS_BUSY : Fld := ⟨Reg.CIP_STATUS, 8, 1⟩
abbrev CIP_STATUS_CTXACT : Fld := ⟨Reg.CIP_STATUS, 9, 1⟩
abbrev CIP_ERR_NOLOCK : Fld := ⟨Reg.CIP_ERR, 0, 1⟩
abbrev CIP_ERR_RELBUSY : Fld := ⟨Reg.CIP_ERR, 1, 1⟩
abbrev CIP_ERR_REVOKED : Fld := ⟨Reg.CIP_ERR, 2, 1⟩
abbrev CIP_MODE_MODE : Fld := ⟨Reg.CIP_MODE, 0, 3⟩
abbrev CIP_MODE_DEC : Fld := ⟨Reg.CIP_MODE, 3, 1⟩
abbrev CIP_MODE_ENC : Fld := ⟨Reg.CIP_MODE, 4, 1⟩
abbrev CIP_MODE_VERIFY : Fld := ⟨Reg.CIP_MODE, 5, 1⟩
abbrev CIP_MODE_KSLOT : Fld := ⟨Reg.CIP_MODE, 6, 4⟩
abbrev CIP_MODE_INCW : Fld := ⟨Reg.CIP_MODE, 10, 2⟩
abbrev CIP_MODE_TAGLEN : Fld := ⟨Reg.CIP_MODE, 12, 5⟩
abbrev CIP_ALEN_LEN : Fld := ⟨Reg.CIP_ALEN, 0, 24⟩
abbrev CIP_MLEN_LEN : Fld := ⟨Reg.CIP_MLEN, 0, 24⟩
abbrev CIP_JOB_NBYTES : Fld := ⟨Reg.CIP_JOB, 0, 11⟩
abbrev CIP_JOB_AAD : Fld := ⟨Reg.CIP_JOB, 11, 1⟩
abbrev CIP_JOB_FIRST : Fld := ⟨Reg.CIP_JOB, 12, 1⟩
abbrev CIP_JOB_LAST : Fld := ⟨Reg.CIP_JOB, 13, 1⟩
abbrev CIP_CMD_OP : Fld := ⟨Reg.CIP_CMD, 0, 4⟩
abbrev CIP_XFER0_CLUSTER : Fld := ⟨Reg.CIP_XFER0, 0, 2⟩
abbrev CIP_XFER0_ROW : Fld := ⟨Reg.CIP_XFER0, 2, 12⟩
abbrev CIP_XFER1_OFFSET : Fld := ⟨Reg.CIP_XFER1, 0, 9⟩
abbrev CIP_XFER1_LEN : Fld := ⟨Reg.CIP_XFER1, 9, 11⟩
abbrev CIP_KEYCFG_TSLOT : Fld := ⟨Reg.CIP_KEYCFG, 0, 4⟩
abbrev CIP_KEYCFG_SIZE : Fld := ⟨Reg.CIP_KEYCFG, 4, 1⟩
abbrev CIP_KEYCFG_USE : Fld := ⟨Reg.CIP_KEYCFG, 5, 7⟩
abbrev CIP_KEYCFG_TOBOOT : Fld := ⟨Reg.CIP_KEYCFG, 12, 1⟩
abbrev CIP_LENDMAX_CYCLES : Fld := ⟨Reg.CIP_LENDMAX, 0, 16⟩
abbrev CIP_JOBCNT_COUNT : Fld := ⟨Reg.CIP_JOBCNT, 0, 24⟩
abbrev CIP_IV_IV (w : Nat) : Fld := ⟨Reg.CIP_IV w, 0, 24⟩
abbrev CIP_ETAG_TAG (w : Nat) : Fld := ⟨Reg.CIP_ETAG w, 0, 24⟩
abbrev CIP_TAG_TAG (w : Nat) : Fld := ⟨Reg.CIP_TAG w, 0, 24⟩
abbrev CIP_LBL_LBL (w : Nat) : Fld := ⟨Reg.CIP_LBL w, 0, 24⟩
abbrev CIP_KINFO_VALID (s : Nat) : Fld := ⟨Reg.CIP_KINFO s, 0, 1⟩
abbrev CIP_KINFO_SIZE (s : Nat) : Fld := ⟨Reg.CIP_KINFO s, 1, 1⟩
abbrev CIP_KINFO_USE (s : Nat) : Fld := ⟨Reg.CIP_KINFO s, 2, 7⟩
abbrev CIP_KINFO_FUSED (s : Nat) : Fld := ⟨Reg.CIP_KINFO s, 9, 1⟩
abbrev CIP_BUF_DATA (w : Nat) : Fld := ⟨Reg.CIP_BUF w, 0, 24⟩
/-! Table RAD-11. -/
abbrev RAD_CHAN_CHAN : Fld := ⟨Reg.RAD_CHAN, 0, 5⟩
abbrev RAD_TXPWR_PWR : Fld := ⟨Reg.RAD_TXPWR, 0, 6⟩
abbrev RAD_CCA_MODE : Fld := ⟨Reg.RAD_CCA, 0, 2⟩
abbrev RAD_CCA_THR : Fld := ⟨Reg.RAD_CCA, 2, 8⟩
abbrev RAD_ED_ED : Fld := ⟨Reg.RAD_ED, 0, 8⟩
abbrev RAD_ED_VALID : Fld := ⟨Reg.RAD_ED, 8, 1⟩
abbrev RAD_LAST_RSSI : Fld := ⟨Reg.RAD_LAST, 0, 8⟩
abbrev RAD_LAST_LQI : Fld := ⟨Reg.RAD_LAST, 8, 8⟩
abbrev RAD_LAST_RSSICLIP : Fld := ⟨Reg.RAD_LAST, 16, 1⟩
abbrev RAD_STAT_STATE : Fld := ⟨Reg.RAD_STAT, 0, 3⟩
abbrev RAD_STAT_PLLLOCK : Fld := ⟨Reg.RAD_STAT, 3, 1⟩
abbrev RAD_ERR_BADCHAN : Fld := ⟨Reg.RAD_ERR, 0, 1⟩
abbrev RAD_ERR_PWRCLAMP : Fld := ⟨Reg.RAD_ERR, 1, 1⟩
/-! Table RAD-12. -/
abbrev LNK_CMD_CMD : Fld := ⟨Reg.LNK_CMD, 0, 3⟩
abbrev LNK_STATUS_STATE : Fld := ⟨Reg.LNK_STATUS, 0, 3⟩
abbrev LNK_STATUS_DESYNCEV : Fld := ⟨Reg.LNK_STATUS, 3, 1⟩
abbrev LNK_STATUS_HELD : Fld := ⟨Reg.LNK_STATUS, 4, 1⟩
abbrev LNK_CFG_LEAD : Fld := ⟨Reg.LNK_CFG, 0, 9⟩
abbrev LNK_CFG_AUTORET : Fld := ⟨Reg.LNK_CFG, 9, 1⟩
abbrev LNK_CFG_SLOTEV : Fld := ⟨Reg.LNK_CFG, 10, 1⟩
abbrev LNK_CFG_PROMISC : Fld := ⟨Reg.LNK_CFG, 11, 1⟩
abbrev LNK_CFG_TSCHCCA : Fld := ⟨Reg.LNK_CFG, 12, 1⟩
abbrev LNK_CFG_FCSUP : Fld := ⟨Reg.LNK_CFG, 13, 1⟩
abbrev LNK_PAN_PANID : Fld := ⟨Reg.LNK_PAN, 0, 16⟩
abbrev LNK_SADDR_SADDR : Fld := ⟨Reg.LNK_SADDR, 0, 16⟩
abbrev LNK_ASN0_ASN : Fld := ⟨Reg.LNK_ASN0, 0, 24⟩
abbrev LNK_ASN1_ASN : Fld := ⟨Reg.LNK_ASN1, 0, 16⟩
abbrev LNK_SYNCREF_REF : Fld := ⟨Reg.LNK_SYNCREF, 0, 24⟩
abbrev LNK_TIME0_TIME : Fld := ⟨Reg.LNK_TIME0, 0, 24⟩
abbrev LNK_TIME1_TIME : Fld := ⟨Reg.LNK_TIME1, 0, 8⟩
abbrev LNK_CORR_CORR : Fld := ⟨Reg.LNK_CORR, 0, 24⟩
abbrev LNK_SINCE_SLOTS : Fld := ⟨Reg.LNK_SINCE, 0, 24⟩
abbrev LNK_DESYNC_SLOTS : Fld := ⟨Reg.LNK_DESYNC, 0, 16⟩
abbrev LNK_DSN_DSN : Fld := ⟨Reg.LNK_DSN, 0, 8⟩
abbrev LNK_FC0_FC : Fld := ⟨Reg.LNK_FC0, 0, 24⟩
abbrev LNK_FC1_FC : Fld := ⟨Reg.LNK_FC1, 0, 8⟩
abbrev LNK_TMPL_ALL (k : Nat) : Fld := ⟨Reg.LNK_TMPL k, 0, 24⟩
abbrev LNK_CSMA_MINBE : Fld := ⟨Reg.LNK_CSMA, 0, 4⟩
abbrev LNK_CSMA_MAXBE : Fld := ⟨Reg.LNK_CSMA, 4, 4⟩
abbrev LNK_CSMA_MAXBO : Fld := ⟨Reg.LNK_CSMA, 8, 3⟩
abbrev LNK_CSMA_QMASK : Fld := ⟨Reg.LNK_CSMA, 11, 8⟩
abbrev LNK_HOPCFG_LEN : Fld := ⟨Reg.LNK_HOPCFG, 0, 4⟩
abbrev LNK_HOP_HOP (j : Nat) : Fld := ⟨Reg.LNK_HOP j, 0, 24⟩
abbrev LNK_SF_LEN (d : Nat) : Fld := ⟨Reg.LNK_SF d, 0, 16⟩
abbrev LNK_SF_EN (d : Nat) : Fld := ⟨Reg.LNK_SF d, 16, 1⟩
abbrev LNK_LSEL_LINK : Fld := ⟨Reg.LNK_LSEL, 0, 7⟩
abbrev LNK_LINK0_ALL : Fld := ⟨Reg.LNK_LINK0, 0, 24⟩
abbrev LNK_LINK1_ALL : Fld := ⟨Reg.LNK_LINK1, 0, 24⟩
abbrev LNK_NSEL_NBR : Fld := ⟨Reg.LNK_NSEL, 0, 7⟩
abbrev LNK_NBR_ALL (i : Nat) : Fld := ⟨Reg.LNK_NBR i, 0, 24⟩
abbrev LNK_KEY_KEYIDX (k : Nat) : Fld := ⟨Reg.LNK_KEY k, 0, 8⟩
abbrev LNK_KEY_KSLOT (k : Nat) : Fld := ⟨Reg.LNK_KEY k, 8, 4⟩
abbrev LNK_KEY_EN (k : Nat) : Fld := ⟨Reg.LNK_KEY k, 12, 1⟩
abbrev LNK_ASNMAT0_PERIOD (n : Nat) : Fld := ⟨Reg.LNK_ASNMAT0 n, 0, 24⟩
abbrev LNK_ASNMAT1_OFF (n : Nat) : Fld := ⟨Reg.LNK_ASNMAT1 n, 0, 24⟩
abbrev LNK_EVCFG_BUF0_BUF3 : Fld := ⟨Reg.LNK_EVCFG, 0, 16⟩
abbrev LNK_TXSEL_BUF : Fld := ⟨Reg.LNK_TXSEL, 0, 4⟩
abbrev LNK_TXD_ALL (i : Nat) : Fld := ⟨Reg.LNK_TXD i, 0, 24⟩
abbrev LNK_TXST_STATE : Fld := ⟨Reg.LNK_TXST, 0, 2⟩
abbrev LNK_TXST_STATUS : Fld := ⟨Reg.LNK_TXST, 2, 4⟩
abbrev LNK_TXST_TRIES : Fld := ⟨Reg.LNK_TXST, 6, 3⟩
abbrev LNK_TXST_LENGTH : Fld := ⟨Reg.LNK_TXST, 9, 7⟩
abbrev LNK_TXCMD_READY_CANCEL_LOAD_FREE : Fld := ⟨Reg.LNK_TXCMD, 0, 4⟩
abbrev LNK_TXMEM_DATA (w : Nat) : Fld := ⟨Reg.LNK_TXMEM w, 0, 24⟩
abbrev LNK_RXSTAT_COUNT : Fld := ⟨Reg.LNK_RXSTAT, 0, 5⟩
abbrev LNK_RXSTAT_VALID : Fld := ⟨Reg.LNK_RXSTAT, 5, 1⟩
abbrev LNK_RXMETA0_LEN : Fld := ⟨Reg.LNK_RXMETA0, 0, 7⟩
abbrev LNK_RXMETA0_NBR : Fld := ⟨Reg.LNK_RXMETA0, 7, 7⟩
abbrev LNK_RXMETA0_VER : Fld := ⟨Reg.LNK_RXMETA0, 14, 2⟩
abbrev LNK_RXMETA0_SECOK : Fld := ⟨Reg.LNK_RXMETA0, 16, 1⟩
abbrev LNK_RXMETA0_NONBR : Fld := ⟨Reg.LNK_RXMETA0, 17, 1⟩
abbrev LNK_RXMETA0_CHAN : Fld := ⟨Reg.LNK_RXMETA0, 18, 4⟩
abbrev LNK_RXMETA1_RSSI_LQI_RSSICLIP : Fld := ⟨Reg.LNK_RXMETA1, 0, 17⟩
abbrev LNK_RXMETA2_TSTAMP : Fld := ⟨Reg.LNK_RXMETA2, 0, 24⟩
abbrev LNK_RXMETA3_TSTAMP : Fld := ⟨Reg.LNK_RXMETA3, 0, 8⟩
abbrev LNK_RXMETA3_ASN : Fld := ⟨Reg.LNK_RXMETA3, 8, 16⟩
abbrev LNK_RXMETA4_ASN : Fld := ⟨Reg.LNK_RXMETA4, 0, 24⟩
abbrev LNK_RXPOP_POP : Fld := ⟨Reg.LNK_RXPOP, 0, 1⟩
abbrev LNK_CNT0_DUP_MICFAIL_REPLAY : Fld := ⟨Reg.LNK_CNT0, 0, 24⟩
abbrev LNK_CNT1_FCSERR_FILTER_NOBUF : Fld := ⟨Reg.LNK_CNT1, 0, 24⟩
abbrev LNK_CNT2_LATE_NOACK_CCABUSY : Fld := ⟨Reg.LNK_CNT2, 0, 24⟩
abbrev LNK_RXMEM_DATA (w : Nat) : Fld := ⟨Reg.LNK_RXMEM w, 0, 24⟩
/-! Table WIR-11. -/
abbrev WIR_CTRL_EN : Fld := ⟨Reg.WIR_CTRL, 0, 1⟩
abbrev WIR_CTRL_RESTART : Fld := ⟨Reg.WIR_CTRL, 1, 1⟩
abbrev WIR_LINKCFG_ANEN : Fld := ⟨Reg.WIR_LINKCFG, 0, 1⟩
abbrev WIR_LINKCFG_ROLE : Fld := ⟨Reg.WIR_LINKCFG, 1, 2⟩
abbrev WIR_LINKCFG_HIABLE : Fld := ⟨Reg.WIR_LINKCFG, 3, 1⟩
abbrev WIR_LINKCFG_HIREQ : Fld := ⟨Reg.WIR_LINKCFG, 4, 1⟩
abbrev WIR_LINKCFG_FHIAMP : Fld := ⟨Reg.WIR_LINKCFG, 5, 1⟩
abbrev WIR_LINKST_STATE : Fld := ⟨Reg.WIR_LINKST, 0, 3⟩
abbrev WIR_LINKST_UP : Fld := ⟨Reg.WIR_LINKST, 3, 1⟩
abbrev WIR_LINKST_LEADER : Fld := ⟨Reg.WIR_LINKST, 4, 1⟩
abbrev WIR_LINKST_HIAMP : Fld := ⟨Reg.WIR_LINKST, 5, 1⟩
abbrev WIR_LINKST_ANFAIL : Fld := ⟨Reg.WIR_LINKST, 6, 1⟩
abbrev WIR_LINKST_DOWNEV : Fld := ⟨Reg.WIR_LINKST, 7, 1⟩
abbrev WIR_LINKST_SQI : Fld := ⟨Reg.WIR_LINKST, 8, 3⟩
abbrev WIR_LINKST_AMP : Fld := ⟨Reg.WIR_LINKST, 11, 10⟩
abbrev WIR_LINKST_AMPVALID : Fld := ⟨Reg.WIR_LINKST, 21, 1⟩
abbrev WIR_MAC0_ADDR : Fld := ⟨Reg.WIR_MAC0, 0, 24⟩
abbrev WIR_MAC1_ADDR : Fld := ⟨Reg.WIR_MAC1, 0, 24⟩
abbrev WIR_RXCFG_PROMISC : Fld := ⟨Reg.WIR_RXCFG, 0, 1⟩
abbrev WIR_RXCFG_BCAST : Fld := ⟨Reg.WIR_RXCFG, 1, 1⟩
abbrev WIR_RXCFG_PLAIN : Fld := ⟨Reg.WIR_RXCFG, 2, 1⟩
abbrev WIR_RXCFG_RXSECREQ : Fld := ⟨Reg.WIR_RXCFG, 3, 1⟩
abbrev WIR_RXCFG_MCEN : Fld := ⟨Reg.WIR_RXCFG, 4, 8⟩
abbrev WIR_SECCFG_KSLOT : Fld := ⟨Reg.WIR_SECCFG, 0, 4⟩
abbrev WIR_SEQ0_SEQ : Fld := ⟨Reg.WIR_SEQ0, 0, 24⟩
abbrev WIR_SEQ1_SEQ : Fld := ⟨Reg.WIR_SEQ1, 0, 8⟩
abbrev WIR_CFG_TXDONEEV : Fld := ⟨Reg.WIR_CFG, 0, 1⟩
abbrev WIR_CFG_DUPCLR : Fld := ⟨Reg.WIR_CFG, 1, 1⟩
abbrev WIR_EVCFG_BUF0 : Fld := ⟨Reg.WIR_EVCFG, 0, 2⟩
abbrev WIR_EVCFG_BUF1 : Fld := ⟨Reg.WIR_EVCFG, 2, 2⟩
abbrev WIR_CNT0_FCSERR_LENERR_FILTER : Fld := ⟨Reg.WIR_CNT0, 0, 24⟩
abbrev WIR_CNT1_NOBUF_MICFAIL_DUP : Fld := ⟨Reg.WIR_CNT1, 0, 24⟩
abbrev WIR_CNT2_STALE_TXOK_TXFAIL : Fld := ⟨Reg.WIR_CNT2, 0, 24⟩
abbrev WIR_MC0_ADDR (k : Nat) : Fld := ⟨Reg.WIR_MC0 k, 0, 24⟩
abbrev WIR_MC1_ADDR (k : Nat) : Fld := ⟨Reg.WIR_MC1 k, 0, 24⟩
abbrev WIR_TXSEL_BUF : Fld := ⟨Reg.WIR_TXSEL, 0, 2⟩
abbrev WIR_TXD_ALL (i : Nat) : Fld := ⟨Reg.WIR_TXD i, 0, 24⟩
abbrev WIR_TXST_STATE : Fld := ⟨Reg.WIR_TXST, 0, 2⟩
abbrev WIR_TXST_STATUS : Fld := ⟨Reg.WIR_TXST, 2, 4⟩
abbrev WIR_TXST_LENGTH : Fld := ⟨Reg.WIR_TXST, 6, 11⟩
abbrev WIR_TXCMD_READY : Fld := ⟨Reg.WIR_TXCMD, 0, 1⟩
abbrev WIR_TXCMD_CANCEL : Fld := ⟨Reg.WIR_TXCMD, 1, 1⟩
abbrev WIR_TXCMD_RESEND : Fld := ⟨Reg.WIR_TXCMD, 2, 1⟩
abbrev WIR_TXCMD_FREE : Fld := ⟨Reg.WIR_TXCMD, 3, 1⟩
abbrev WIR_TXMEM_DATA (w : Nat) : Fld := ⟨Reg.WIR_TXMEM w, 0, 24⟩
abbrev WIR_RXSTAT_COUNT : Fld := ⟨Reg.WIR_RXSTAT, 0, 3⟩
abbrev WIR_RXSTAT_VALID : Fld := ⟨Reg.WIR_RXSTAT, 3, 1⟩
abbrev WIR_RXMETA0_LEN : Fld := ⟨Reg.WIR_RXMETA0, 0, 11⟩
abbrev WIR_RXMETA0_DUP : Fld := ⟨Reg.WIR_RXMETA0, 11, 1⟩
abbrev WIR_RXMETA0_SECOK : Fld := ⟨Reg.WIR_RXMETA0, 12, 1⟩
abbrev WIR_RXMETA0_WRH : Fld := ⟨Reg.WIR_RXMETA0, 13, 1⟩
abbrev WIR_RXMETA1_AMP : Fld := ⟨Reg.WIR_RXMETA1, 0, 10⟩
abbrev WIR_RXMETA1_SQI : Fld := ⟨Reg.WIR_RXMETA1, 10, 3⟩
abbrev WIR_RXPOP_POP : Fld := ⟨Reg.WIR_RXPOP, 0, 1⟩
abbrev WIR_RXMEM_DATA (w : Nat) : Fld := ⟨Reg.WIR_RXMEM w, 0, 24⟩
/-! Table SNS-4. -/
abbrev SNS_CLASS_CLASS : Fld := ⟨Reg.SNS_CLASS, 0, 11⟩
abbrev SNS_CLASS_LOCKED : Fld := ⟨Reg.SNS_CLASS, 11, 1⟩
abbrev SNS_TRIG_TRIG : Fld := ⟨Reg.SNS_TRIG, 0, 11⟩
abbrev SNS_BUSY_BUSY : Fld := ⟨Reg.SNS_BUSY, 0, 11⟩
abbrev SNS_ERR_ERR : Fld := ⟨Reg.SNS_ERR, 0, 11⟩
abbrev SNS_ERR_BADCFG : Fld := ⟨Reg.SNS_ERR, 11, 1⟩
abbrev SNS_OVR_OVR : Fld := ⟨Reg.SNS_OVR, 0, 11⟩
abbrev SNS_EPOCH_SRC (k : Nat) : Fld := ⟨Reg.SNS_EPOCH k, 0, 4⟩
abbrev SNS_EPOCH_DIV (k : Nat) : Fld := ⟨Reg.SNS_EPOCH k, 4, 4⟩
abbrev SNS_EPOCH_EN (k : Nat) : Fld := ⟨Reg.SNS_EPOCH k, 8, 1⟩
abbrev SNS_CMP0_SRC (k : Nat) : Fld := ⟨Reg.SNS_CMP0 k, 0, 3⟩
abbrev SNS_CMP0_MODE (k : Nat) : Fld := ⟨Reg.SNS_CMP0 k, 3, 2⟩
abbrev SNS_CMP1_HI (k : Nat) : Fld := ⟨Reg.SNS_CMP1 k, 0, 16⟩
abbrev SNS_CMP2_LO (k : Nat) : Fld := ⟨Reg.SNS_CMP2 k, 0, 16⟩
abbrev SNS_PIRCFG_OSR : Fld := ⟨Reg.SNS_PIRCFG, 0, 2⟩
abbrev SNS_PIRCFG_RATE : Fld := ⟨Reg.SNS_PIRCFG, 2, 10⟩
abbrev SNS_PIRCFG_CAPPED : Fld := ⟨Reg.SNS_PIRCFG, 12, 1⟩
abbrev SNS_PDMCFG_CLKDIV : Fld := ⟨Reg.SNS_PDMCFG, 0, 6⟩
abbrev SNS_PDMCFG_WIN : Fld := ⟨Reg.SNS_PDMCFG, 6, 8⟩
abbrev SNS_GPIOIN0_LEVEL : Fld := ⟨Reg.SNS_GPIOIN0, 0, 24⟩
abbrev SNS_GPIOOE0_OE : Fld := ⟨Reg.SNS_GPIOOE0, 0, 24⟩
abbrev SNS_GPIOOUT0_OUT : Fld := ⟨Reg.SNS_GPIOOUT0, 0, 24⟩
abbrev SNS_GPIOSET_SET : Fld := ⟨Reg.SNS_GPIOSET, 0, 24⟩
abbrev SNS_GPIOCLR_CLR : Fld := ⟨Reg.SNS_GPIOCLR, 0, 24⟩
abbrev SNS_GPINSEL_PIN (k : Nat) : Fld := ⟨Reg.SNS_GPINSEL k, 0, 5⟩
abbrev SNS_GPINSEL_EDGE (k : Nat) : Fld := ⟨Reg.SNS_GPINSEL k, 5, 2⟩
abbrev SNS_GPINSEL_DEB (k : Nat) : Fld := ⟨Reg.SNS_GPINSEL k, 7, 3⟩
abbrev SNS_GPACT_ACT (g : Nat) : Fld := ⟨Reg.SNS_GPACT g, 0, 2⟩
abbrev SNS_GPACT_PW (g : Nat) : Fld := ⟨Reg.SNS_GPACT g, 2, 16⟩
/-! Table SNS-5. -/
abbrev SNS_PCFG_EN (n : Nat) : Fld := ⟨Reg.SNS_PCFG n, 0, 1⟩
abbrev SNS_PCFG_FREE (n : Nat) : Fld := ⟨Reg.SNS_PCFG n, 1, 1⟩
abbrev SNS_PCFG_RESTORE (n : Nat) : Fld := ⟨Reg.SNS_PCFG n, 2, 1⟩
abbrev SNS_PCFG_BSWAP (n : Nat) : Fld := ⟨Reg.SNS_PCFG n, 3, 1⟩
abbrev SNS_PDST_CLUSTER (n : Nat) : Fld := ⟨Reg.SNS_PDST n, 0, 2⟩
abbrev SNS_PDST_ROW (n : Nat) : Fld := ⟨Reg.SNS_PDST n, 2, 12⟩
abbrev SNS_PDST_NBUF (n : Nat) : Fld := ⟨Reg.SNS_PDST n, 14, 2⟩
abbrev SNS_PLEN_LEN (n : Nat) : Fld := ⟨Reg.SNS_PLEN n, 0, 11⟩
abbrev SNS_PBUS0_ADDR_A10 (n : Nat) : Fld := ⟨Reg.SNS_PBUS0 n, 0, 11⟩
abbrev SNS_PBUS0_SPEED_REGLEN (n : Nat) : Fld := ⟨Reg.SNS_PBUS0 n, 11, 4⟩
abbrev SNS_PBUS1_REG_CMD (n : Nat) : Fld := ⟨Reg.SNS_PBUS1 n, 0, 24⟩
abbrev SNS_PBUS2_RDLEN (n : Nat) : Fld := ⟨Reg.SNS_PBUS2 n, 0, 11⟩
abbrev SNS_PBUS2_NREAD (n : Nat) : Fld := ⟨Reg.SNS_PBUS2 n, 11, 3⟩
abbrev SNS_PBUS2_REGSTEP (n : Nat) : Fld := ⟨Reg.SNS_PBUS2 n, 14, 10⟩
abbrev SNS_PDLY_DLY (n : Nat) : Fld := ⟨Reg.SNS_PDLY n, 0, 16⟩
abbrev SNS_PSTAT_STATUS (n : Nat) : Fld := ⟨Reg.SNS_PSTAT n, 0, 3⟩
abbrev SNS_PSTAT_SLOT (n : Nat) : Fld := ⟨Reg.SNS_PSTAT n, 3, 2⟩
abbrev SNS_PSTAT_ERRCNT (n : Nat) : Fld := ⟨Reg.SNS_PSTAT n, 5, 8⟩
abbrev SNS_PFCNT_COUNT (n : Nat) : Fld := ⟨Reg.SNS_PFCNT n, 0, 24⟩
/-! Table FLT-5. -/
abbrev FLT_STATUS_DIS : Fld := ⟨Reg.FLT_STATUS, 0, 1⟩
abbrev FLT_STATUS_LOGANY : Fld := ⟨Reg.FLT_STATUS, 1, 1⟩
abbrev FLT_STATUS_DPCHG : Fld := ⟨Reg.FLT_STATUS, 2, 1⟩
abbrev FLT_WDCFG_EN : Fld := ⟨Reg.FLT_WDCFG, 0, 1⟩
abbrev FLT_WDCFG_TIMEOUT : Fld := ⟨Reg.FLT_WDCFG, 1, 16⟩
abbrev FLT_WDKICK_KEY : Fld := ⟨Reg.FLT_WDKICK, 0, 24⟩
abbrev FLT_WDCNT_RESETS : Fld := ⟨Reg.FLT_WDCNT, 0, 8⟩
abbrev FLT_WDCNT_COUNT : Fld := ⟨Reg.FLT_WDCNT, 8, 16⟩
abbrev FLT_DPREL_UNIT : Fld := ⟨Reg.FLT_DPREL, 0, 6⟩
abbrev FLT_DPREL_ALL : Fld := ⟨Reg.FLT_DPREL, 6, 1⟩
abbrev FLT_LOGCNT_COUNT : Fld := ⟨Reg.FLT_LOGCNT, 0, 6⟩
abbrev FLT_LOGCNT_OVF : Fld := ⟨Reg.FLT_LOGCNT, 6, 8⟩
abbrev FLT_LOGPOP_POP : Fld := ⟨Reg.FLT_LOGPOP, 0, 1⟩
abbrev FLT_LOGW0_DETAIL : Fld := ⟨Reg.FLT_LOGW0, 0, 16⟩
abbrev FLT_LOGW1_CODE : Fld := ⟨Reg.FLT_LOGW1, 0, 8⟩
abbrev FLT_LOGW1_UNIT : Fld := ⟨Reg.FLT_LOGW1, 8, 6⟩
abbrev FLT_LOG0_CODE : Fld := ⟨Reg.FLT_LOG0, 0, 8⟩
abbrev FLT_LOG0_UNIT : Fld := ⟨Reg.FLT_LOG0, 8, 6⟩
abbrev FLT_LOG0_VALID : Fld := ⟨Reg.FLT_LOG0, 14, 1⟩
abbrev FLT_LOG0_BOOT : Fld := ⟨Reg.FLT_LOG0, 15, 4⟩
abbrev FLT_LOG1_DETAIL : Fld := ⟨Reg.FLT_LOG1, 0, 16⟩
abbrev FLT_LOG2_SEC : Fld := ⟨Reg.FLT_LOG2, 0, 24⟩
abbrev FLT_BOOTCNT_COUNT : Fld := ⟨Reg.FLT_BOOTCNT, 0, 8⟩
abbrev FLT_RNDRETRY_L0_L3 : Fld := ⟨Reg.FLT_RNDRETRY, 0, 24⟩
abbrev FLT_MGMT_M (k : Nat) : Fld := ⟨Reg.FLT_MGMT k, 0, 24⟩
abbrev FLT_DP_D (k : Nat) : Fld := ⟨Reg.FLT_DP k, 0, 24⟩
abbrev FLT_EFF_E (k : Nat) : Fld := ⟨Reg.FLT_EFF k, 0, 24⟩
abbrev FLT_DIS0_UNIT : Fld := ⟨Reg.FLT_DIS0, 0, 24⟩
abbrev FLT_DIS1_UNIT : Fld := ⟨Reg.FLT_DIS1, 0, 19⟩
abbrev FLT_DISNOW0_UNIT : Fld := ⟨Reg.FLT_DISNOW0, 0, 24⟩
abbrev FLT_DISNOW1_UNIT : Fld := ⟨Reg.FLT_DISNOW1, 0, 19⟩
/-! Table DBG-5. -/
abbrev DBG_ID_PART : Fld := ⟨Reg.DBG_ID, 0, 16⟩
abbrev DBG_ID_STEP : Fld := ⟨Reg.DBG_ID, 16, 8⟩
abbrev DBG_STATUS_ENABLED : Fld := ⟨Reg.DBG_STATUS, 0, 1⟩
abbrev DBG_STATUS_SEALREAD : Fld := ⟨Reg.DBG_STATUS, 1, 1⟩
abbrev DBG_STATUS_FIELDMASK : Fld := ⟨Reg.DBG_STATUS, 2, 1⟩
abbrev DBG_STATUS_NOTHALT : Fld := ⟨Reg.DBG_STATUS, 3, 1⟩
abbrev DBG_STATUS_HALTED : Fld := ⟨Reg.DBG_STATUS, 4, 5⟩
abbrev DBG_STATUS_WIPEWAIT : Fld := ⟨Reg.DBG_STATUS, 9, 5⟩
abbrev DBG_HALT_REQ : Fld := ⟨Reg.DBG_HALT, 0, 5⟩
abbrev DBG_RESUME_RUN : Fld := ⟨Reg.DBG_RESUME, 0, 5⟩
abbrev DBG_RESUME_STEP : Fld := ⟨Reg.DBG_RESUME, 5, 5⟩
abbrev DBG_BRKEN_EN : Fld := ⟨Reg.DBG_BRKEN, 0, 5⟩
abbrev DBG_STARTPC_PC : Fld := ⟨Reg.DBG_STARTPC, 0, 16⟩
abbrev DBG_START_GO : Fld := ⟨Reg.DBG_START, 0, 5⟩
abbrev DBG_CSEL_CORE : Fld := ⟨Reg.DBG_CSEL, 0, 3⟩
abbrev DBG_CSEL_REG : Fld := ⟨Reg.DBG_CSEL, 3, 11⟩
abbrev DBG_CDATA_DATA : Fld := ⟨Reg.DBG_CDATA, 0, 24⟩

end F

/-- Register rows of the SEAL block. -/
def rowsSEAL : List RegRow := [
  ⟨0x05030000, [], [⟨0, 1, .ro, 0⟩, ⟨1, 1, .ro, 0⟩]⟩,
  ⟨0x05030004, [], [⟨0, 1, .w1c, 0⟩, ⟨1, 1, .w1c, 0⟩, ⟨2, 1, .w1c, 0⟩, ⟨3, 1, .w1c, 0⟩, ⟨4, 1, .w1c, 0⟩, ⟨5, 1, .w1c, 0⟩, ⟨6, 1, .w1c, 0⟩]⟩,
  ⟨0x05030008, [], [⟨0, 24, .ro, 0⟩]⟩,
  ⟨0x0503000C, [], [⟨0, 16, .ro, 0⟩]⟩,
  ⟨0x05030010, [], [⟨0, 6, .rw, 0⟩, ⟨6, 12, .ro, 0⟩, ⟨18, 5, .ro, 0⟩]⟩,
  ⟨0x05030014, [], [⟨0, 6, .rw, 0⟩, ⟨6, 16, .ro, 0⟩]⟩,
  ⟨0x05030018, [], [⟨0, 6, .rw, 0⟩, ⟨6, 10, .ro, 0⟩]⟩,
  ⟨0x0503001C, [], [⟨0, 6, .rw, 0⟩, ⟨6, 16, .ro, 0⟩]⟩,
  ⟨0x05030020, [(0x4, 8)], [⟨0, 6, .ro, 0⟩, ⟨6, 1, .ro, 0⟩]⟩,
  ⟨0x05030040, [], [⟨0, 8, .rc, 0⟩, ⟨8, 8, .rc, 0⟩, ⟨16, 8, .rc, 0⟩]⟩,
  ⟨0x05030044, [], [⟨0, 8, .rc, 0⟩, ⟨8, 8, .rc, 0⟩, ⟨16, 8, .rc, 0⟩]⟩,
  ⟨0x05030048, [], [⟨0, 8, .rc, 0⟩, ⟨8, 8, .rc, 0⟩, ⟨16, 8, .rc, 0⟩]⟩,
  ⟨0x05030100, [(0x20, 4)], [⟨0, 12, .rw, 0⟩, ⟨12, 7, .rw, 0⟩]⟩,
  ⟨0x05030104, [(0x20, 4)], [⟨0, 7, .ro, 0⟩]⟩,
  ⟨0x05030108, [(0x20, 4)], [⟨0, 7, .rw, 0⟩]⟩,
  ⟨0x0503010C, [(0x20, 4)], [⟨0, 1, .ro, 0⟩, ⟨1, 1, .ro, 0⟩, ⟨2, 1, .ro, 0⟩, ⟨3, 1, .ro, 0⟩, ⟨4, 8, .ro, 0⟩, ⟨12, 1, .ro, 0⟩, ⟨13, 5, .ro, 0⟩]⟩,
  ⟨0x05030180, [], [⟨0, 1, .ro, 0⟩, ⟨1, 1, .ro, 0⟩]⟩]

/-- Register rows of the CLK block. -/
def rowsCLK : List RegRow := [
  ⟨0x05050000, [], [⟨0, 1, .rw, 0⟩, ⟨1, 1, .ro, 0⟩]⟩,
  ⟨0x05050004, [], [⟨0, 8, .rw, 125⟩, ⟨8, 4, .rw, 2⟩, ⟨12, 1, .rw, 0⟩, ⟨13, 1, .ro, 0⟩]⟩,
  ⟨0x05050008, [], [⟨0, 1, .ro, 0⟩, ⟨1, 1, .ro, 0⟩]⟩,
  ⟨0x0505000C, [], [⟨0, 1, .ro, 0⟩, ⟨1, 1, .ro, 0⟩, ⟨2, 1, .ro, 0⟩, ⟨3, 1, .w1c, 0⟩, ⟨4, 1, .w1c, 0⟩]⟩,
  ⟨0x05050010, [], [⟨0, 1, .w1c, 1⟩, ⟨1, 1, .w1c, 0⟩, ⟨2, 1, .w1c, 0⟩, ⟨3, 1, .w1c, 0⟩, ⟨4, 4, .w1c, 0⟩]⟩,
  ⟨0x05050014, [], [⟨0, 4, .w1s, 0⟩, ⟨4, 4, .ro, 0⟩]⟩,
  ⟨0x05050018, [], [⟨0, 4, .rw, 0⟩, ⟨4, 1, .rw, 0⟩]⟩,
  ⟨0x0505001C, [], [⟨0, 24, .ro, 0⟩]⟩,
  ⟨0x05050020, [], [⟨0, 8, .ro, 0⟩, ⟨8, 4, .ro, 0⟩, ⟨12, 1, .ro, 0⟩, ⟨13, 1, .w1c, 0⟩, ⟨14, 1, .w1c, 0⟩]⟩]

/-- Register rows of the PWR block. -/
def rowsPWR : List RegRow := [
  ⟨0x05000000, [], [⟨0, 1, .rw, 0⟩]⟩,
  ⟨0x05000004, [], [⟨0, 2, .wo, 0⟩]⟩,
  ⟨0x05000008, [], [⟨0, 1, .w1s, 0⟩]⟩,
  ⟨0x0500000C, [], [⟨0, 2, .ro, 2⟩, ⟨2, 1, .ro, 0⟩, ⟨3, 1, .ro, 0⟩]⟩,
  ⟨0x05000010, [], [⟨0, 1, .w1c, 0⟩, ⟨1, 1, .w1c, 0⟩, ⟨2, 1, .w1c, 0⟩, ⟨3, 1, .w1c, 0⟩, ⟨4, 1, .w1c, 0⟩, ⟨5, 1, .w1c, 0⟩]⟩,
  ⟨0x05000014, [], [⟨0, 1, .ro, 1⟩, ⟨1, 1, .rw, 0⟩, ⟨2, 1, .rw, 0⟩, ⟨3, 1, .rw, 0⟩]⟩,
  ⟨0x05000018, [], [⟨0, 4, .rc, 0⟩]⟩,
  ⟨0x0500001C, [], [⟨0, 8, .rw, 0⟩, ⟨8, 8, .rw, 0⟩]⟩,
  ⟨0x05000020, [], [⟨0, 8, .rw, 0⟩, ⟨8, 8, .rw, 0⟩]⟩,
  ⟨0x05000040, [(0x4, 8)], [⟨0, 24, .rw, 0⟩]⟩,
  ⟨0x05000060, [(0x4, 8)], [⟨0, 24, .rw, 0⟩]⟩,
  ⟨0x05000100, [(0x4, 26)], [⟨0, 2, .rw, 2⟩, ⟨2, 2, .ro, 0⟩, ⟨4, 1, .ro, 0⟩, ⟨5, 1, .ro, 0⟩, ⟨6, 1, .ro, 0⟩, ⟨7, 1, .rw, 0⟩, ⟨8, 1, .rw, 0⟩]⟩]

/-- Register rows of the BOOT block. -/
def rowsBOOT : List RegRow := [
  ⟨0x05040000, [], [⟨0, 8, .ro, 0⟩, ⟨8, 4, .ro, 0⟩, ⟨12, 1, .ro, 0⟩, ⟨13, 1, .ro, 0⟩, ⟨14, 1, .ro, 0⟩, ⟨15, 1, .ro, 0⟩, ⟨16, 1, .ro, 0⟩, ⟨17, 1, .ro, 0⟩, ⟨18, 1, .ro, 0⟩, ⟨19, 1, .ro, 0⟩]⟩,
  ⟨0x05040004, [], [⟨0, 2, .ro, 0⟩, ⟨2, 1, .ro, 0⟩, ⟨3, 2, .ro, 0⟩]⟩,
  ⟨0x05040008, [], [⟨0, 4, .ro, 0⟩, ⟨4, 6, .ro, 0⟩, ⟨10, 8, .ro, 0⟩]⟩,
  ⟨0x0504000C, [], [⟨0, 24, .ro, 0⟩]⟩,
  ⟨0x05040010, [], [⟨0, 8, .ro, 0⟩]⟩,
  ⟨0x05040014, [], [⟨0, 1, .ro, 0⟩, ⟨1, 1, .ro, 0⟩, ⟨2, 1, .ro, 0⟩, ⟨8, 8, .ro, 0⟩]⟩,
  ⟨0x05040018, [], [⟨0, 20, .rw, 0⟩]⟩,
  ⟨0x0504001C, [], [⟨0, 1, .w1s, 0⟩, ⟨1, 1, .w1s, 0⟩]⟩,
  ⟨0x05040020, [], [⟨0, 8, .ro, 0⟩]⟩,
  ⟨0x05040024, [], [⟨0, 24, .ro, 0⟩]⟩,
  ⟨0x05040028, [], [⟨0, 24, .ro, 0⟩]⟩,
  ⟨0x0504002C, [], [⟨0, 16, .ro, 0⟩]⟩,
  ⟨0x05040030, [], [⟨0, 1, .ro, 0⟩, ⟨1, 1, .ro, 0⟩, ⟨2, 1, .ro, 0⟩, ⟨3, 2, .ro, 0⟩, ⟨5, 1, .ro, 0⟩]⟩,
  ⟨0x05040034, [], [⟨0, 6, .ro, 0⟩]⟩,
  ⟨0x05040038, [], [⟨0, 24, .ro, 0⟩]⟩]

/-- Register rows of the CLU block. -/
def rowsCLU : List RegRow := [
  ⟨0x06000000, [(0x100000, 4)], [⟨0, 2, .ro, 0⟩]⟩,
  ⟨0x06000004, [(0x100000, 4)], [⟨0, 12, .rw, 0⟩, ⟨12, 1, .ro, 0⟩, ⟨13, 1, .ro, 0⟩]⟩,
  ⟨0x06000008, [(0x100000, 4)], [⟨0, 1, .w1s, 0⟩]⟩]

/-- Register rows of the SPD block. -/
def rowsSPD : List RegRow := [
  ⟨0x06040000, [(0x100000, 4)], [⟨0, 1, .ro, 0⟩, ⟨1, 1, .ro, 0⟩]⟩,
  ⟨0x06040004, [(0x100000, 4)], [⟨0, 4, .rc, 0⟩]⟩,
  ⟨0x06040008, [(0x100000, 4)], [⟨0, 24, .rc, 0⟩]⟩,
  ⟨0x0604000C, [(0x100000, 4)], [⟨0, 16, .ro, 0⟩]⟩]

/-- Register rows of the RND block. -/
def rowsRND : List RegRow := [
  ⟨0x06400000, [], [⟨0, 4, .ro, 0⟩]⟩,
  ⟨0x06400100, [(0x40, 4)], [⟨0, 6, .ro, 0⟩, ⟨6, 4, .ro, 0⟩]⟩,
  ⟨0x06400104, [(0x40, 4)], [⟨0, 16, .rc, 0⟩]⟩,
  ⟨0x06400108, [(0x40, 4)], [⟨0, 12, .ro, 0⟩, ⟨12, 1, .ro, 0⟩]⟩,
  ⟨0x0640010C, [(0x40, 4)], [⟨0, 12, .ro, 0⟩, ⟨12, 1, .w1c, 0⟩, ⟨13, 1, .w1c, 0⟩]⟩,
  ⟨0x06400110, [(0x40, 4)], [⟨0, 12, .ro, 0⟩, ⟨12, 2, .ro, 0⟩, ⟨14, 2, .ro, 0⟩, ⟨16, 1, .ro, 0⟩, ⟨17, 1, .ro, 0⟩, ⟨18, 1, .ro, 0⟩]⟩,
  ⟨0x06400114, [(0x40, 4)], [⟨0, 12, .ro, 0⟩]⟩,
  ⟨0x06400118, [(0x40, 4)], [⟨0, 1, .w1s, 0⟩]⟩,
  ⟨0x0640011C, [(0x40, 4)], [⟨0, 5, .ro, 0⟩, ⟨5, 8, .rc, 0⟩]⟩,
  ⟨0x06400120, [(0x40, 4)], [⟨0, 16, .rc, 0⟩]⟩]

/-- Register rows of the TILE block. -/
def rowsTILE : List RegRow := [
  ⟨0x01000000, [(0x10000, 32)], [⟨0, 5, .ro, 0⟩]⟩,
  ⟨0x01000004, [(0x10000, 32)], [⟨0, 3, .ro, 0⟩, ⟨3, 1, .ro, 0⟩, ⟨4, 2, .ro, 0⟩, ⟨6, 1, .ro, 0⟩, ⟨7, 1, .ro, 0⟩]⟩,
  ⟨0x01000008, [(0x10000, 32)], [⟨0, 1, .rw, 1⟩, ⟨1, 1, .rw, 1⟩]⟩,
  ⟨0x0100000C, [(0x10000, 32)], [⟨0, 1, .w1s, 0⟩, ⟨1, 1, .w1s, 0⟩, ⟨2, 1, .w1s, 0⟩, ⟨3, 1, .w1s, 0⟩]⟩,
  ⟨0x01000010, [(0x10000, 32)], [⟨0, 12, .rw, 0⟩]⟩,
  ⟨0x01000014, [(0x10000, 32)], [⟨0, 10, .rw, 0⟩, ⟨10, 10, .rw, 0⟩]⟩,
  ⟨0x01000018, [(0x10000, 32)], [⟨0, 6, .rw, 63⟩, ⟨6, 3, .rw, 0⟩]⟩,
  ⟨0x0100001C, [(0x10000, 32)], [⟨0, 16, .rw, 0⟩]⟩,
  ⟨0x01000020, [(0x10000, 32)], [⟨0, 16, .ro, 0⟩, ⟨16, 1, .ro, 0⟩]⟩,
  ⟨0x01000024, [(0x10000, 32)], [⟨0, 4, .ro, 0⟩, ⟨4, 10, .ro, 0⟩, ⟨14, 4, .ro, 0⟩, ⟨18, 1, .ro, 0⟩]⟩,
  ⟨0x01000028, [(0x10000, 32)], [⟨0, 10, .ro, 0⟩]⟩,
  ⟨0x0100002C, [(0x10000, 32)], [⟨0, 12, .rw, 4095⟩, ⟨12, 2, .rw, 3⟩]⟩,
  ⟨0x01000030, [(0x10000, 32)], [⟨0, 24, .ro, 0⟩]⟩,
  ⟨0x01000034, [(0x10000, 32)], [⟨0, 24, .ro, 0⟩]⟩,
  ⟨0x01000038, [(0x10000, 32)], [⟨0, 16, .ro, 0⟩, ⟨16, 6, .ro, 0⟩]⟩,
  ⟨0x0100003C, [(0x10000, 32)], [⟨0, 24, .rc, 0⟩]⟩,
  ⟨0x01000040, [(0x10000, 32)], [⟨0, 24, .rc, 0⟩]⟩,
  ⟨0x01000044, [(0x10000, 32)], [⟨0, 24, .rc, 0⟩]⟩,
  ⟨0x01000048, [(0x10000, 32)], [⟨0, 9, .rw, 0⟩]⟩,
  ⟨0x0100004C, [(0x10000, 32)], [⟨0, 24, .ro, 0⟩]⟩,
  ⟨0x01000050, [(0x10000, 32)], [⟨0, 8, .ro, 0⟩]⟩,
  ⟨0x01000054, [(0x10000, 32)], [⟨0, 1, .w1c, 0⟩, ⟨1, 1, .w1c, 0⟩, ⟨2, 1, .w1c, 0⟩, ⟨3, 1, .w1c, 0⟩, ⟨4, 1, .w1c, 0⟩]⟩,
  ⟨0x01000080, [(0x10000, 32), (0x4, 8)], [⟨0, 10, .ro, 0⟩, ⟨10, 1, .ro, 0⟩, ⟨11, 1, .ro, 0⟩]⟩]

/-- Register rows of the TAL block. -/
def rowsTAL : List RegRow := [
  ⟨0x06020000, [(0x100000, 4)], [⟨0, 5, .ro, 0⟩, ⟨5, 1, .ro, 0⟩, ⟨6, 1, .w1c, 0⟩, ⟨7, 1, .w1c, 0⟩, ⟨8, 1, .w1c, 0⟩]⟩,
  ⟨0x06020004, [(0x100000, 4)], [⟨0, 6, .ro, 0⟩, ⟨6, 4, .ro, 0⟩, ⟨10, 4, .ro, 0⟩, ⟨14, 1, .ro, 0⟩, ⟨15, 1, .ro, 0⟩, ⟨16, 1, .ro, 0⟩, ⟨17, 1, .ro, 0⟩]⟩,
  ⟨0x06020008, [(0x100000, 4)], [⟨0, 1, .w1s, 0⟩]⟩,
  ⟨0x0602000C, [(0x100000, 4)], [⟨0, 5, .ro, 0⟩, ⟨5, 8, .rc, 0⟩]⟩,
  ⟨0x06020010, [(0x100000, 4)], [⟨0, 24, .ro, 0⟩]⟩,
  ⟨0x06020014, [(0x100000, 4)], [⟨0, 24, .rw, 1⟩]⟩,
  ⟨0x06020018, [(0x100000, 4)], [⟨0, 16, .rc, 0⟩, ⟨16, 1, .rc, 0⟩]⟩,
  ⟨0x0602001C, [(0x100000, 4)], [⟨0, 9, .ro, 0⟩, ⟨9, 1, .ro, 0⟩]⟩,
  ⟨0x06020020, [(0x100000, 4)], [⟨0, 24, .ro, 0⟩]⟩,
  ⟨0x06020024, [(0x100000, 4)], [⟨0, 24, .ro, 0⟩]⟩,
  ⟨0x06020040, [(0x100000, 4), (0x4, 4)], [⟨0, 24, .rw, 0⟩]⟩,
  ⟨0x06020100, [(0x100000, 4), (0x20, 3), (0x4, 5)], [⟨0, 24, .wo, 0⟩]⟩]

/-- Register rows of the MOV block. -/
def rowsMOV : List RegRow := [
  ⟨0x06030000, [(0x100000, 4)], [⟨0, 4, .ro, 0⟩, ⟨4, 1, .ro, 0⟩, ⟨5, 1, .w1c, 0⟩, ⟨6, 1, .w1c, 0⟩]⟩,
  ⟨0x06030004, [(0x100000, 4)], [⟨0, 6, .ro, 0⟩, ⟨6, 3, .ro, 0⟩, ⟨9, 1, .ro, 0⟩, ⟨10, 1, .ro, 0⟩, ⟨11, 13, .ro, 0⟩]⟩,
  ⟨0x06030008, [(0x100000, 4)], [⟨0, 1, .w1s, 0⟩]⟩,
  ⟨0x0603000C, [(0x100000, 4)], [⟨0, 4, .ro, 0⟩, ⟨4, 8, .rc, 0⟩]⟩,
  ⟨0x06030010, [(0x100000, 4)], [⟨0, 24, .rc, 0⟩]⟩,
  ⟨0x06030100, [(0x100000, 4), (0x20, 3), (0x4, 4)], [⟨0, 24, .wo, 0⟩]⟩]

/-- Register rows of the CAL block. -/
def rowsCAL : List RegRow := [
  ⟨0x01008000, [(0x10000, 32)], [⟨0, 1, .rw, 0⟩]⟩,
  ⟨0x01008004, [(0x10000, 32)], [⟨0, 1, .w1s, 0⟩, ⟨1, 1, .w1s, 0⟩]⟩,
  ⟨0x01008008, [(0x10000, 32)], [⟨0, 1, .ro, 0⟩, ⟨1, 1, .w1c, 0⟩, ⟨2, 1, .ro, 0⟩, ⟨3, 1, .w1c, 0⟩, ⟨4, 1, .w1c, 0⟩, ⟨5, 2, .ro, 0⟩, ⟨7, 1, .ro, 0⟩, ⟨8, 1, .w1c, 0⟩, ⟨9, 1, .w1c, 0⟩, ⟨10, 8, .ro, 0⟩]⟩,
  ⟨0x0100800C, [(0x10000, 32)], [⟨0, 3, .rw, 1⟩, ⟨3, 3, .rw, 2⟩, ⟨6, 2, .rw, 2⟩]⟩,
  ⟨0x01008010, [(0x10000, 32)], [⟨0, 24, .rw, 15105324⟩]⟩,
  ⟨0x01008014, [(0x10000, 32)], [⟨0, 24, .rw, 9881632⟩]⟩,
  ⟨0x01008018, [(0x10000, 32)], [⟨0, 5, .ro, 0⟩, ⟨5, 3, .ro, 0⟩, ⟨8, 1, .ro, 0⟩]⟩,
  ⟨0x0100801C, [(0x10000, 32)], [⟨0, 24, .ro, 0⟩]⟩,
  ⟨0x01008020, [(0x10000, 32)], [⟨0, 10, .rw, 0⟩, ⟨10, 10, .rw, 0⟩]⟩,
  ⟨0x01008024, [(0x10000, 32)], [⟨0, 6, .rw, 63⟩, ⟨6, 1, .rw, 0⟩]⟩,
  ⟨0x01008028, [(0x10000, 32)], [⟨0, 12, .ro, 0⟩, ⟨12, 10, .ro, 0⟩]⟩,
  ⟨0x0100802C, [(0x10000, 32)], [⟨0, 5, .rw, 0⟩, ⟨5, 1, .rw, 0⟩, ⟨6, 1, .rw, 0⟩]⟩,
  ⟨0x01008030, [(0x10000, 32)], [⟨0, 9, .ro, 0⟩]⟩,
  ⟨0x01008400, [(0x10000, 32), (0x4, 130)], [⟨0, 24, .rw, 0⟩]⟩,
  ⟨0x01008608, [(0x10000, 32)], [⟨0, 16, .rw, 0⟩]⟩]

/-- Register rows of the DFA block. -/
def rowsDFA : List RegRow := [
  ⟨0x06010000, [(0x100000, 4)], [⟨0, 3, .ro, 0⟩, ⟨3, 1, .ro, 0⟩, ⟨4, 2, .ro, 0⟩, ⟨6, 3, .ro, 0⟩, ⟨9, 1, .ro, 0⟩, ⟨10, 1, .w1c, 0⟩, ⟨11, 1, .w1c, 0⟩, ⟨12, 1, .w1c, 0⟩, ⟨13, 1, .w1c, 0⟩, ⟨14, 1, .w1c, 0⟩, ⟨15, 1, .w1c, 0⟩]⟩,
  ⟨0x06010004, [(0x100000, 4)], [⟨0, 8, .ro, 0⟩, ⟨8, 16, .ro, 0⟩]⟩,
  ⟨0x06010008, [(0x100000, 4)], [⟨0, 6, .ro, 0⟩, ⟨6, 2, .ro, 0⟩, ⟨8, 2, .ro, 0⟩, ⟨10, 2, .ro, 0⟩, ⟨12, 1, .ro, 0⟩, ⟨13, 1, .ro, 0⟩, ⟨14, 1, .ro, 0⟩]⟩,
  ⟨0x0601000C, [(0x100000, 4)], [⟨0, 1, .w1s, 0⟩]⟩,
  ⟨0x06010010, [(0x100000, 4)], [⟨0, 4, .ro, 0⟩, ⟨4, 8, .rc, 0⟩]⟩,
  ⟨0x06010014, [(0x100000, 4)], [⟨0, 8, .ro, 0⟩]⟩,
  ⟨0x06010018, [(0x100000, 4)], [⟨0, 24, .rc, 0⟩]⟩,
  ⟨0x0601001C, [(0x100000, 4)], [⟨0, 24, .rc, 0⟩]⟩,
  ⟨0x06010020, [(0x100000, 4)], [⟨0, 24, .rw, 1⟩]⟩,
  ⟨0x06010024, [(0x100000, 4)], [⟨0, 1, .w1s, 0⟩]⟩,
  ⟨0x06010028, [(0x100000, 4)], [⟨0, 12, .rw, 0⟩, ⟨12, 10, .rw, 0⟩]⟩,
  ⟨0x0601002C, [(0x100000, 4)], [⟨0, 17, .rw, 0⟩]⟩,
  ⟨0x06010030, [(0x100000, 4)], [⟨0, 1, .w1s, 0⟩]⟩,
  ⟨0x06010100, [(0x100000, 4), (0x4, 3)], [⟨0, 2, .wo, 0⟩, ⟨2, 6, .wo, 0⟩, ⟨8, 1, .wo, 0⟩]⟩]

/-- Register rows of the DB block. -/
def rowsDB : List RegRow := [
  ⟨0x08000000, [(0x1000, 64)], [⟨0, 12, .rw, 0⟩]⟩,
  ⟨0x08000004, [(0x1000, 64)], [⟨0, 12, .ro, 0⟩]⟩,
  ⟨0x08000008, [(0x1000, 64)], [⟨0, 3, .ro, 0⟩, ⟨3, 5, .ro, 0⟩]⟩,
  ⟨0x0800000C, [(0x1000, 64)], [⟨0, 24, .ro, 0⟩]⟩,
  ⟨0x08000010, [(0x1000, 64)], [⟨0, 12, .rw, 0⟩]⟩,
  ⟨0x08000014, [(0x1000, 64)], [⟨0, 24, .ro, 0⟩]⟩,
  ⟨0x08000018, [(0x1000, 64)], [⟨0, 24, .ro, 0⟩]⟩]

/-- Register rows of the HST block. -/
def rowsHST : List RegRow := [
  ⟨0x050B0000, [], [⟨0, 16, .ro, 12872⟩]⟩,
  ⟨0x050B0004, [], [⟨0, 8, .ro, 33⟩, ⟨8, 16, .ro, 0⟩]⟩,
  ⟨0x050B0008, [], [⟨0, 2, .ro, 0⟩, ⟨2, 2, .ro, 0⟩, ⟨4, 1, .ro, 0⟩, ⟨5, 1, .ro, 0⟩, ⟨6, 1, .ro, 0⟩]⟩,
  ⟨0x050B000C, [], [⟨0, 2, .rw, 3⟩, ⟨2, 1, .rw, 0⟩, ⟨3, 1, .w1s, 0⟩]⟩,
  ⟨0x050B0010, [], [⟨0, 1, .w1c, 0⟩, ⟨1, 1, .w1c, 0⟩, ⟨2, 1, .w1c, 0⟩, ⟨3, 1, .w1c, 0⟩, ⟨4, 1, .w1c, 0⟩, ⟨5, 1, .w1c, 0⟩]⟩,
  ⟨0x050B0014, [], [⟨0, 6, .rw, 0⟩]⟩,
  ⟨0x050B0018, [], [⟨0, 6, .rw, 0⟩]⟩,
  ⟨0x050B001C, [], [⟨0, 24, .w1c, 0⟩]⟩,
  ⟨0x050B0020, [], [⟨0, 24, .w1c, 0⟩]⟩,
  ⟨0x050B0024, [], [⟨0, 16, .w1c, 0⟩]⟩,
  ⟨0x050B0028, [], [⟨0, 1, .ro, 0⟩, ⟨1, 1, .ro, 0⟩, ⟨2, 1, .ro, 0⟩]⟩,
  ⟨0x050B002C, [], [⟨0, 8, .rc, 0⟩, ⟨8, 8, .rc, 0⟩, ⟨16, 8, .rc, 0⟩]⟩,
  ⟨0x050B0030, [], [⟨0, 1, .w1c, 0⟩]⟩,
  ⟨0x050B0110, [(0x10, 15)], [⟨0, 24, .rw, 0⟩]⟩,
  ⟨0x050B0114, [(0x10, 15)], [⟨0, 24, .rw, 0⟩]⟩,
  ⟨0x050B0118, [(0x10, 15)], [⟨0, 4, .rw, 0⟩, ⟨4, 12, .rw, 0⟩, ⟨16, 1, .rw, 0⟩]⟩]

/-- Register rows of the QUE block. -/
def rowsQUE : List RegRow := [
  ⟨0x050C0000, [(0x40, 64)], [⟨0, 12, .rw, 0⟩, ⟨12, 1, .rw, 0⟩, ⟨13, 1, .rw, 0⟩, ⟨14, 4, .rw, 4⟩, ⟨18, 4, .rw, 15⟩, ⟨22, 1, .rw, 0⟩]⟩,
  ⟨0x050C0004, [(0x40, 64)], [⟨0, 24, .rw, 0⟩]⟩,
  ⟨0x050C0008, [(0x40, 64)], [⟨0, 24, .rw, 0⟩]⟩,
  ⟨0x050C000C, [(0x40, 64)], [⟨0, 4, .rw, 0⟩, ⟨4, 6, .rw, 0⟩, ⟨10, 1, .rw, 0⟩]⟩,
  ⟨0x050C0010, [(0x40, 64)], [⟨0, 3, .wo, 0⟩]⟩,
  ⟨0x050C0014, [(0x40, 64)], [⟨0, 3, .ro, 0⟩, ⟨3, 5, .ro, 0⟩, ⟨8, 5, .ro, 0⟩]⟩,
  ⟨0x050C0018, [(0x40, 64)], [⟨0, 16, .rw, 0⟩]⟩,
  ⟨0x050C001C, [(0x40, 64)], [⟨0, 12, .ro, 0⟩, ⟨12, 12, .ro, 0⟩]⟩,
  ⟨0x050C0020, [(0x40, 64)], [⟨0, 24, .ro, 0⟩]⟩,
  ⟨0x050C0024, [(0x40, 64)], [⟨0, 1, .w1c, 0⟩, ⟨1, 1, .w1c, 0⟩, ⟨2, 1, .w1c, 0⟩, ⟨3, 1, .w1c, 0⟩, ⟨4, 1, .w1c, 0⟩, ⟨5, 1, .w1c, 0⟩]⟩,
  ⟨0x050C0028, [(0x40, 64)], [⟨0, 16, .rc, 0⟩]⟩,
  ⟨0x050C002C, [(0x40, 64)], [⟨0, 24, .ro, 0⟩]⟩,
  ⟨0x050C1000, [], [⟨0, 24, .rw, 2000000⟩]⟩,
  ⟨0x050C1004, [], [⟨0, 7, .ro, 0⟩]⟩,
  ⟨0x050C1008, [], [⟨0, 20, .ro, 0⟩]⟩,
  ⟨0x050C1010, [(0x4, 4)], [⟨0, 12, .rw, 0⟩, ⟨12, 1, .ro, 0⟩]⟩,
  ⟨0x050C1020, [], [⟨0, 12, .wo, 0⟩, ⟨12, 3, .wo, 0⟩]⟩,
  ⟨0x050C1024, [], [⟨0, 12, .rw, 0⟩, ⟨12, 5, .rw, 0⟩, ⟨17, 6, .rw, 0⟩, ⟨23, 1, .rw, 0⟩]⟩,
  ⟨0x050C1028, [], [⟨0, 1, .ro, 0⟩, ⟨1, 1, .w1c, 0⟩, ⟨2, 1, .w1c, 0⟩, ⟨3, 12, .ro, 0⟩]⟩,
  ⟨0x050C1030, [], [⟨0, 6, .ro, 0⟩, ⟨6, 5, .ro, 0⟩, ⟨11, 1, .ro, 0⟩, ⟨12, 1, .ro, 0⟩]⟩,
  ⟨0x050C1034, [], [⟨0, 10, .ro, 0⟩, ⟨10, 10, .ro, 0⟩]⟩,
  ⟨0x050C1038, [], [⟨0, 6, .ro, 0⟩, ⟨6, 1, .ro, 0⟩]⟩,
  ⟨0x050C103C, [], [⟨0, 4, .wo, 0⟩]⟩,
  ⟨0x050C4000, [(0x4, 4096)], [⟨0, 8, .ro, 0⟩, ⟨8, 2, .ro, 0⟩, ⟨10, 5, .ro, 0⟩, ⟨15, 8, .ro, 0⟩]⟩,
  ⟨0x050C8000, [(0x4, 4096)], [⟨0, 12, .ro, 0⟩, ⟨12, 6, .ro, 0⟩, ⟨18, 1, .ro, 0⟩]⟩]

/-- Register rows of the EVF block. -/
def rowsEVF : List RegRow := [
  ⟨0x05020000, [], [⟨0, 1, .w1c, 0⟩]⟩,
  ⟨0x05020004, [], [⟨0, 4, .w1s, 0⟩]⟩,
  ⟨0x05020008, [], [⟨0, 16, .rc, 0⟩]⟩,
  ⟨0x0502000C, [], [⟨0, 24, .ro, 0⟩]⟩,
  ⟨0x05020010, [], [⟨0, 8, .ro, 0⟩]⟩,
  ⟨0x05020100, [(0x4, 32)], [⟨0, 16, .rw, 0⟩]⟩,
  ⟨0x05020200, [(0x8, 16)], [⟨0, 6, .rw, 32⟩, ⟨6, 6, .rw, 32⟩, ⟨12, 6, .rw, 32⟩, ⟨18, 1, .rw, 0⟩, ⟨19, 1, .rw, 0⟩]⟩,
  ⟨0x05020204, [(0x8, 16)], [⟨0, 8, .rw, 0⟩, ⟨8, 2, .rw, 0⟩, ⟨10, 6, .rw, 0⟩, ⟨16, 1, .ro, 0⟩, ⟨17, 1, .ro, 0⟩]⟩,
  ⟨0x05020300, [(0x10, 8)], [⟨0, 1, .rw, 0⟩]⟩,
  ⟨0x05020304, [(0x10, 8)], [⟨0, 2, .ro, 0⟩, ⟨2, 1, .w1c, 0⟩, ⟨3, 1, .w1c, 0⟩, ⟨4, 1, .w1c, 0⟩, ⟨5, 1, .w1c, 0⟩, ⟨6, 1, .w1c, 0⟩, ⟨7, 1, .ro, 0⟩]⟩,
  ⟨0x05020308, [(0x10, 8)], [⟨0, 24, .ro, 0⟩]⟩,
  ⟨0x0502030C, [(0x10, 8)], [⟨0, 8, .ro, 0⟩]⟩,
  ⟨0x05020400, [(0x4, 8)], [⟨0, 6, .rw, 0⟩]⟩,
  ⟨0x05020800, [(0x4, 160)], [⟨0, 4, .rw, 0⟩, ⟨4, 1, .rw, 0⟩, ⟨5, 1, .ro, 0⟩, ⟨6, 1, .w1c, 0⟩, ⟨7, 1, .ro, 0⟩]⟩]

/-- Register rows of the RTC block. -/
def rowsRTC : List RegRow := [
  ⟨0x05010000, [], [⟨0, 24, .ro, 0⟩]⟩,
  ⟨0x05010004, [], [⟨0, 8, .ro, 0⟩]⟩,
  ⟨0x05010008, [], [⟨0, 15, .ro, 0⟩]⟩,
  ⟨0x0501000C, [], [⟨0, 1, .w1s, 0⟩]⟩,
  ⟨0x05010010, [], [⟨0, 1, .ro, 0⟩, ⟨1, 1, .ro, 0⟩, ⟨2, 1, .ro, 0⟩]⟩,
  ⟨0x05010014, [], [⟨0, 24, .ro, 0⟩]⟩,
  ⟨0x05010018, [], [⟨0, 8, .ro, 0⟩]⟩,
  ⟨0x0501001C, [], [⟨0, 15, .ro, 0⟩]⟩,
  ⟨0x05010020, [], [⟨0, 13, .ro, 0⟩]⟩,
  ⟨0x05010024, [], [⟨0, 24, .rw, 0⟩]⟩,
  ⟨0x05010028, [], [⟨0, 8, .rw, 0⟩]⟩,
  ⟨0x0501002C, [], [⟨0, 15, .rw, 0⟩]⟩,
  ⟨0x05010030, [], [⟨0, 1, .w1s, 0⟩, ⟨1, 1, .w1s, 0⟩]⟩,
  ⟨0x05010034, [], [⟨0, 1, .ro, 0⟩, ⟨1, 1, .w1c, 0⟩, ⟨2, 1, .w1c, 0⟩, ⟨3, 1, .w1c, 0⟩]⟩,
  ⟨0x05010038, [], [⟨0, 24, .rw, 0⟩]⟩,
  ⟨0x0501003C, [], [⟨0, 8, .rw, 0⟩]⟩,
  ⟨0x05010040, [], [⟨0, 15, .rw, 0⟩, ⟨15, 1, .rw, 0⟩]⟩,
  ⟨0x05010044, [], [⟨0, 4, .rw, 15⟩]⟩]

/-- Register rows of the PST block. -/
def rowsPST : List RegRow := [
  ⟨0x05060000, [], [⟨0, 1, .ro, 0⟩, ⟨1, 1, .ro, 0⟩, ⟨2, 3, .ro, 0⟩, ⟨5, 1, .w1c, 0⟩]⟩,
  ⟨0x05060004, [], [⟨0, 3, .wo, 0⟩]⟩,
  ⟨0x05060008, [], [⟨0, 4, .ro, 0⟩, ⟨4, 3, .ro, 0⟩]⟩,
  ⟨0x0506000C, [], [⟨0, 16, .rw, 0⟩]⟩,
  ⟨0x05060010, [], [⟨0, 16, .rw, 0⟩]⟩,
  ⟨0x05060014, [], [⟨0, 2, .rw, 0⟩, ⟨2, 12, .rw, 0⟩]⟩,
  ⟨0x05060018, [], [⟨0, 9, .rw, 8⟩]⟩,
  ⟨0x0506001C, [], [⟨0, 8, .ro, 0⟩, ⟨8, 1, .ro, 0⟩, ⟨9, 9, .ro, 0⟩]⟩,
  ⟨0x05060020, [], [⟨0, 24, .ro, 0⟩]⟩,
  ⟨0x05060024, [], [⟨0, 8, .ro, 0⟩]⟩,
  ⟨0x05060028, [], [⟨0, 12, .rc, 0⟩, ⟨12, 12, .rc, 0⟩]⟩,
  ⟨0x0506002C, [], [⟨0, 14, .ro, 0⟩, ⟨14, 1, .ro, 0⟩, ⟨15, 1, .w1c, 0⟩]⟩,
  ⟨0x05060030, [], [⟨0, 8, .ro, 0⟩, ⟨8, 8, .ro, 0⟩, ⟨16, 8, .ro, 0⟩]⟩,
  ⟨0x05060034, [], [⟨0, 8, .ro, 0⟩, ⟨8, 1, .ro, 0⟩, ⟨9, 8, .ro, 0⟩]⟩,
  ⟨0x05060038, [], [⟨0, 17, .ro, 0⟩]⟩,
  ⟨0x0506003C, [], [⟨0, 8, .rw, 0⟩]⟩,
  ⟨0x05060040, [], [⟨0, 2, .ro, 0⟩, ⟨2, 17, .ro, 0⟩, ⟨19, 1, .ro, 0⟩, ⟨20, 1, .ro, 0⟩]⟩]

/-- Register rows of the CIP block. -/
def rowsCIP : List RegRow := [
  ⟨0x05070000, [], [⟨0, 1, .w1s, 0⟩, ⟨1, 1, .w1s, 0⟩, ⟨2, 4, .ro, 0⟩, ⟨6, 1, .ro, 0⟩, ⟨7, 1, .ro, 0⟩, ⟨8, 3, .ro, 0⟩]⟩,
  ⟨0x05070004, [], [⟨0, 16, .rw, 0⟩]⟩,
  ⟨0x05070008, [], [⟨0, 4, .ro, 0⟩, ⟨4, 4, .ro, 0⟩, ⟨8, 1, .ro, 0⟩, ⟨9, 1, .ro, 0⟩]⟩,
  ⟨0x0507000C, [], [⟨0, 1, .w1c, 0⟩, ⟨1, 1, .w1c, 0⟩, ⟨2, 1, .w1c, 0⟩]⟩,
  ⟨0x05070010, [], [⟨0, 3, .rw, 0⟩, ⟨3, 1, .rw, 0⟩, ⟨4, 1, .rw, 0⟩, ⟨5, 1, .rw, 0⟩, ⟨6, 4, .rw, 0⟩, ⟨10, 2, .rw, 0⟩, ⟨12, 5, .rw, 0⟩]⟩,
  ⟨0x05070014, [], [⟨0, 24, .rw, 0⟩]⟩,
  ⟨0x05070018, [], [⟨0, 24, .rw, 0⟩]⟩,
  ⟨0x0507001C, [], [⟨0, 11, .rw, 0⟩, ⟨11, 1, .rw, 0⟩, ⟨12, 1, .rw, 0⟩, ⟨13, 1, .rw, 0⟩]⟩,
  ⟨0x05070020, [], [⟨0, 4, .wo, 0⟩]⟩,
  ⟨0x05070024, [], [⟨0, 2, .rw, 0⟩, ⟨2, 12, .rw, 0⟩]⟩,
  ⟨0x05070028, [], [⟨0, 9, .rw, 0⟩, ⟨9, 11, .rw, 0⟩]⟩,
  ⟨0x0507002C, [], [⟨0, 4, .rw, 0⟩, ⟨4, 1, .rw, 0⟩, ⟨5, 7, .rw, 0⟩, ⟨12, 1, .rw, 0⟩]⟩,
  ⟨0x05070030, [], [⟨0, 16, .rc, 0⟩]⟩,
  ⟨0x05070034, [], [⟨0, 24, .ro, 0⟩]⟩,
  ⟨0x05070040, [(0x4, 5)], [⟨0, 24, .rw, 0⟩]⟩,
  ⟨0x05070054, [], [⟨0, 8, .rw, 0⟩]⟩,
  ⟨0x05070060, [(0x4, 5)], [⟨0, 24, .rw, 0⟩]⟩,
  ⟨0x05070074, [], [⟨0, 8, .rw, 0⟩]⟩,
  ⟨0x05070080, [(0x4, 5)], [⟨0, 24, .ro, 0⟩]⟩,
  ⟨0x05070094, [], [⟨0, 8, .ro, 0⟩]⟩,
  ⟨0x050700A0, [(0x4, 2)], [⟨0, 24, .rw, 0⟩]⟩,
  ⟨0x050700A8, [], [⟨0, 16, .rw, 0⟩]⟩,
  ⟨0x05070100, [(0x4, 16)], [⟨0, 1, .ro, 0⟩, ⟨1, 1, .ro, 0⟩, ⟨2, 7, .ro, 0⟩, ⟨9, 1, .ro, 1⟩]⟩,
  ⟨0x05070400, [(0x4, 341)], [⟨0, 24, .rw, 0⟩]⟩,
  ⟨0x05070954, [], [⟨0, 8, .rw, 0⟩]⟩]

/-- Register rows of the RAD block. -/
def rowsRAD : List RegRow := [
  ⟨0x05080000, [], [⟨0, 5, .rw, 11⟩]⟩,
  ⟨0x05080004, [], [⟨0, 6, .rw, 0⟩]⟩,
  ⟨0x05080008, [], [⟨0, 2, .rw, 1⟩, ⟨2, 8, .rw, 181⟩]⟩,
  ⟨0x0508000C, [], [⟨0, 8, .ro, 0⟩, ⟨8, 1, .ro, 0⟩]⟩,
  ⟨0x05080010, [], [⟨0, 8, .ro, 0⟩, ⟨8, 8, .ro, 0⟩, ⟨16, 1, .ro, 0⟩]⟩,
  ⟨0x05080014, [], [⟨0, 3, .ro, 0⟩, ⟨3, 1, .ro, 0⟩]⟩,
  ⟨0x05080018, [], [⟨0, 1, .w1c, 0⟩, ⟨1, 1, .w1c, 0⟩]⟩]

/-- Register rows of the LNK block. -/
def rowsLNK : List RegRow := [
  ⟨0x05090000, [], [⟨0, 3, .wo, 0⟩]⟩,
  ⟨0x05090004, [], [⟨0, 3, .ro, 0⟩, ⟨3, 1, .w1c, 0⟩, ⟨4, 1, .ro, 0⟩]⟩,
  ⟨0x05090008, [], [⟨0, 9, .rw, 200⟩, ⟨9, 1, .rw, 0⟩, ⟨10, 1, .rw, 0⟩, ⟨11, 1, .rw, 0⟩, ⟨12, 1, .rw, 0⟩, ⟨13, 1, .rw, 0⟩]⟩,
  ⟨0x0509000C, [], [⟨0, 16, .rw, 65535⟩]⟩,
  ⟨0x05090010, [], [⟨0, 16, .rw, 65535⟩]⟩,
  ⟨0x05090014, [], [⟨0, 24, .rw, 0⟩]⟩,
  ⟨0x05090018, [], [⟨0, 16, .rw, 0⟩]⟩,
  ⟨0x0509001C, [], [⟨0, 24, .rw, 0⟩]⟩,
  ⟨0x05090020, [], [⟨0, 24, .ro, 0⟩]⟩,
  ⟨0x05090024, [], [⟨0, 8, .ro, 0⟩]⟩,
  ⟨0x05090028, [], [⟨0, 24, .ro, 0⟩]⟩,
  ⟨0x0509002C, [], [⟨0, 24, .ro, 0⟩]⟩,
  ⟨0x05090030, [], [⟨0, 16, .rw, 2700⟩]⟩,
  ⟨0x05090034, [], [⟨0, 8, .rw, 0⟩]⟩,
  ⟨0x05090038, [], [⟨0, 24, .rw, 0⟩]⟩,
  ⟨0x0509003C, [], [⟨0, 8, .rw, 0⟩]⟩,
  ⟨0x05090040, [(0x4, 5)], [⟨0, 24, .rw, 0⟩]⟩,
  ⟨0x05090058, [], [⟨0, 4, .rw, 3⟩, ⟨4, 4, .rw, 5⟩, ⟨8, 3, .rw, 4⟩, ⟨11, 8, .rw, 255⟩]⟩,
  ⟨0x05090060, [], [⟨0, 4, .rw, 15⟩]⟩,
  ⟨0x05090064, [(0x4, 3)], [⟨0, 24, .rw, 0⟩]⟩,
  ⟨0x05090070, [(0x4, 4)], [⟨0, 16, .rw, 100⟩, ⟨16, 1, .rw, 0⟩]⟩,
  ⟨0x05090080, [], [⟨0, 7, .rw, 0⟩]⟩,
  ⟨0x05090084, [], [⟨0, 24, .rw, 0⟩]⟩,
  ⟨0x05090088, [], [⟨0, 24, .rw, 0⟩]⟩,
  ⟨0x05090090, [], [⟨0, 7, .rw, 0⟩]⟩,
  ⟨0x05090094, [(0x4, 6)], [⟨0, 24, .rw, 0⟩]⟩,
  ⟨0x050900B0, [(0x4, 8)], [⟨0, 8, .rw, 0⟩, ⟨8, 4, .rw, 0⟩, ⟨12, 1, .rw, 0⟩]⟩,
  ⟨0x050900D0, [(0x4, 4)], [⟨0, 24, .rw, 0⟩]⟩,
  ⟨0x050900E0, [(0x4, 4)], [⟨0, 24, .rw, 0⟩]⟩,
  ⟨0x050900F0, [], [⟨0, 16, .rw, 0⟩]⟩,
  ⟨0x05090100, [], [⟨0, 4, .rw, 0⟩]⟩,
  ⟨0x05090104, [(0x4, 3)], [⟨0, 24, .rw, 0⟩]⟩,
  ⟨0x05090110, [], [⟨0, 2, .ro, 0⟩, ⟨2, 4, .ro, 0⟩, ⟨6, 3, .ro, 0⟩, ⟨9, 7, .ro, 0⟩]⟩,
  ⟨0x05090114, [], [⟨0, 4, .w1s, 0⟩]⟩,
  ⟨0x05090200, [(0x4, 43)], [⟨0, 24, .rw, 0⟩]⟩,
  ⟨0x05090300, [], [⟨0, 5, .ro, 0⟩, ⟨5, 1, .ro, 0⟩]⟩,
  ⟨0x05090304, [], [⟨0, 7, .ro, 0⟩, ⟨7, 7, .ro, 0⟩, ⟨14, 2, .ro, 0⟩, ⟨16, 1, .ro, 0⟩, ⟨17, 1, .ro, 0⟩, ⟨18, 4, .ro, 0⟩]⟩,
  ⟨0x05090308, [], [⟨0, 17, .ro, 0⟩]⟩,
  ⟨0x0509030C, [], [⟨0, 24, .ro, 0⟩]⟩,
  ⟨0x05090310, [], [⟨0, 8, .ro, 0⟩, ⟨8, 16, .ro, 0⟩]⟩,
  ⟨0x05090314, [], [⟨0, 24, .ro, 0⟩]⟩,
  ⟨0x05090318, [], [⟨0, 1, .w1s, 0⟩]⟩,
  ⟨0x05090320, [], [⟨0, 24, .rc, 0⟩]⟩,
  ⟨0x05090324, [], [⟨0, 24, .rc, 0⟩]⟩,
  ⟨0x05090328, [], [⟨0, 24, .rc, 0⟩]⟩,
  ⟨0x05090400, [(0x4, 43)], [⟨0, 24, .ro, 0⟩]⟩]

/-- Register rows of the WIR block. -/
def rowsWIR : List RegRow := [
  ⟨0x050A0000, [], [⟨0, 1, .rw, 0⟩, ⟨1, 1, .w1s, 0⟩]⟩,
  ⟨0x050A0004, [], [⟨0, 1, .rw, 1⟩, ⟨1, 2, .rw, 3⟩, ⟨3, 1, .rw, 1⟩, ⟨4, 1, .rw, 0⟩, ⟨5, 1, .rw, 0⟩]⟩,
  ⟨0x050A0008, [], [⟨0, 3, .ro, 0⟩, ⟨3, 1, .ro, 0⟩, ⟨4, 1, .ro, 0⟩, ⟨5, 1, .ro, 0⟩, ⟨6, 1, .w1c, 0⟩, ⟨7, 1, .w1c, 0⟩, ⟨8, 3, .ro, 0⟩, ⟨11, 10, .ro, 0⟩, ⟨21, 1, .ro, 0⟩]⟩,
  ⟨0x050A000C, [], [⟨0, 24, .rw, 0⟩]⟩,
  ⟨0x050A0010, [], [⟨0, 24, .rw, 0⟩]⟩,
  ⟨0x050A0014, [], [⟨0, 1, .rw, 0⟩, ⟨1, 1, .rw, 1⟩, ⟨2, 1, .rw, 0⟩, ⟨3, 1, .rw, 0⟩, ⟨4, 8, .rw, 0⟩]⟩,
  ⟨0x050A0018, [], [⟨0, 4, .rw, 0⟩]⟩,
  ⟨0x050A001C, [], [⟨0, 24, .rw, 0⟩]⟩,
  ⟨0x050A0020, [], [⟨0, 8, .rw, 0⟩]⟩,
  ⟨0x050A0024, [], [⟨0, 1, .rw, 0⟩, ⟨1, 1, .w1s, 0⟩]⟩,
  ⟨0x050A0028, [], [⟨0, 2, .rw, 0⟩, ⟨2, 2, .rw, 0⟩]⟩,
  ⟨0x050A0030, [], [⟨0, 24, .rc, 0⟩]⟩,
  ⟨0x050A0034, [], [⟨0, 24, .rc, 0⟩]⟩,
  ⟨0x050A0038, [], [⟨0, 24, .rc, 0⟩]⟩,
  ⟨0x050A0040, [(0x8, 8)], [⟨0, 24, .rw, 0⟩]⟩,
  ⟨0x050A0044, [(0x8, 8)], [⟨0, 24, .rw, 0⟩]⟩,
  ⟨0x050A0100, [], [⟨0, 2, .rw, 0⟩]⟩,
  ⟨0x050A0104, [(0x4, 3)], [⟨0, 24, .rw, 0⟩]⟩,
  ⟨0x050A0110, [], [⟨0, 2, .ro, 0⟩, ⟨2, 4, .ro, 0⟩, ⟨6, 11, .ro, 0⟩]⟩,
  ⟨0x050A0114, [], [⟨0, 1, .w1s, 0⟩, ⟨1, 1, .w1s, 0⟩, ⟨2, 1, .w1s, 0⟩, ⟨3, 1, .w1s, 0⟩]⟩,
  ⟨0x050A0200, [(0x4, 512)], [⟨0, 24, .rw, 0⟩]⟩,
  ⟨0x050A0A00, [], [⟨0, 3, .ro, 0⟩, ⟨3, 1, .ro, 0⟩]⟩,
  ⟨0x050A0A04, [], [⟨0, 11, .ro, 0⟩, ⟨11, 1, .ro, 0⟩, ⟨12, 1, .ro, 0⟩, ⟨13, 1, .ro, 0⟩]⟩,
  ⟨0x050A0A08, [], [⟨0, 10, .ro, 0⟩, ⟨10, 3, .ro, 0⟩]⟩,
  ⟨0x050A0A0C, [], [⟨0, 1, .w1s, 0⟩]⟩,
  ⟨0x050A0C00, [(0x4, 512)], [⟨0, 24, .ro, 0⟩]⟩]

/-- Register rows of the SNS block. -/
def rowsSNS : List RegRow := [
  ⟨0x050D0000, [], [⟨0, 11, .ro, 0⟩, ⟨11, 1, .ro, 0⟩]⟩,
  ⟨0x050D0004, [], [⟨0, 11, .w1s, 0⟩]⟩,
  ⟨0x050D0008, [], [⟨0, 11, .ro, 0⟩]⟩,
  ⟨0x050D000C, [], [⟨0, 11, .w1c, 0⟩, ⟨11, 1, .w1c, 0⟩]⟩,
  ⟨0x050D0010, [], [⟨0, 11, .w1c, 0⟩]⟩,
  ⟨0x050D0040, [(0x4, 8)], [⟨0, 4, .rw, 0⟩, ⟨4, 4, .rw, 0⟩, ⟨8, 1, .rw, 0⟩]⟩,
  ⟨0x050D0060, [(0x10, 4)], [⟨0, 3, .rw, 0⟩, ⟨3, 2, .rw, 0⟩]⟩,
  ⟨0x050D0064, [(0x10, 4)], [⟨0, 16, .rw, 65535⟩]⟩,
  ⟨0x050D0068, [(0x10, 4)], [⟨0, 16, .rw, 0⟩]⟩,
  ⟨0x050D00A0, [], [⟨0, 2, .rw, 0⟩, ⟨2, 10, .rw, 0⟩, ⟨12, 1, .ro, 0⟩]⟩,
  ⟨0x050D00A4, [], [⟨0, 6, .rw, 32⟩, ⟨6, 8, .rw, 16⟩]⟩,
  ⟨0x050D0100, [], [⟨0, 24, .ro, 0⟩]⟩,
  ⟨0x050D0104, [], [⟨0, 24, .rw, 0⟩]⟩,
  ⟨0x050D0108, [], [⟨0, 24, .rw, 0⟩]⟩,
  ⟨0x050D010C, [], [⟨0, 24, .w1s, 0⟩]⟩,
  ⟨0x050D0110, [], [⟨0, 24, .wo, 0⟩]⟩,
  ⟨0x050D0114, [(0x4, 2)], [⟨0, 5, .rw, 0⟩, ⟨5, 2, .rw, 0⟩, ⟨7, 3, .rw, 0⟩]⟩,
  ⟨0x050D0120, [(0x4, 16)], [⟨0, 2, .rw, 0⟩, ⟨2, 16, .rw, 1⟩]⟩,
  ⟨0x050D0400, [(0x40, 11)], [⟨0, 1, .rw, 0⟩, ⟨1, 1, .rw, 0⟩, ⟨2, 1, .rw, 0⟩, ⟨3, 1, .rw, 0⟩]⟩,
  ⟨0x050D0404, [(0x40, 11)], [⟨0, 2, .rw, 0⟩, ⟨2, 12, .rw, 0⟩, ⟨14, 2, .rw, 0⟩]⟩,
  ⟨0x050D0408, [(0x40, 11)], [⟨0, 11, .rw, 2⟩]⟩,
  ⟨0x050D040C, [(0x40, 6)], [⟨0, 11, .rw, 0⟩, ⟨11, 4, .rw, 0⟩]⟩,
  ⟨0x050D0410, [(0x40, 11)], [⟨0, 24, .rw, 0⟩]⟩,
  ⟨0x050D0414, [(0x40, 11)], [⟨0, 11, .rw, 0⟩, ⟨11, 3, .rw, 0⟩, ⟨14, 10, .rw, 0⟩]⟩,
  ⟨0x050D0418, [(0x40, 11)], [⟨0, 16, .rw, 0⟩]⟩,
  ⟨0x050D041C, [(0x40, 11)], [⟨0, 3, .ro, 0⟩, ⟨3, 2, .ro, 0⟩, ⟨5, 8, .rc, 0⟩]⟩,
  ⟨0x050D0420, [(0x40, 11)], [⟨0, 24, .ro, 0⟩]⟩]

/-- Register rows of the FLT block. -/
def rowsFLT : List RegRow := [
  ⟨0x050E0000, [], [⟨0, 1, .w1c, 0⟩, ⟨1, 1, .w1c, 0⟩, ⟨2, 1, .w1c, 0⟩]⟩,
  ⟨0x050E0004, [], [⟨0, 1, .w1s, 0⟩, ⟨1, 16, .rw, 15625⟩]⟩,
  ⟨0x050E0008, [], [⟨0, 24, .wo, 0⟩]⟩,
  ⟨0x050E000C, [], [⟨0, 8, .ro, 0⟩, ⟨8, 16, .ro, 0⟩]⟩,
  ⟨0x050E0010, [], [⟨0, 6, .wo, 0⟩, ⟨6, 1, .wo, 0⟩]⟩,
  ⟨0x050E0014, [], [⟨0, 6, .ro, 0⟩, ⟨6, 8, .rc, 0⟩]⟩,
  ⟨0x050E0018, [], [⟨0, 1, .w1s, 0⟩]⟩,
  ⟨0x050E001C, [], [⟨0, 16, .rw, 0⟩]⟩,
  ⟨0x050E0020, [], [⟨0, 8, .wo, 0⟩, ⟨8, 6, .wo, 0⟩]⟩,
  ⟨0x050E0024, [], [⟨0, 8, .ro, 0⟩, ⟨8, 6, .ro, 0⟩, ⟨14, 1, .ro, 0⟩, ⟨15, 4, .ro, 0⟩]⟩,
  ⟨0x050E0028, [], [⟨0, 16, .ro, 0⟩]⟩,
  ⟨0x050E002C, [], [⟨0, 24, .ro, 0⟩]⟩,
  ⟨0x050E0030, [], [⟨0, 8, .ro, 0⟩]⟩,
  ⟨0x050E0034, [], [⟨0, 24, .rc, 0⟩]⟩,
  ⟨0x050E0040, [(0x4, 3)], [⟨0, 24, .rw, 0⟩]⟩,
  ⟨0x050E004C, [], [⟨0, 14, .rw, 0⟩]⟩,
  ⟨0x050E0050, [(0x4, 3)], [⟨0, 24, .ro, 0⟩]⟩,
  ⟨0x050E005C, [], [⟨0, 14, .ro, 0⟩]⟩,
  ⟨0x050E0060, [(0x4, 3)], [⟨0, 24, .ro, 0⟩]⟩,
  ⟨0x050E006C, [], [⟨0, 14, .ro, 0⟩]⟩,
  ⟨0x050E0070, [], [⟨0, 24, .w1c, 0⟩]⟩,
  ⟨0x050E0074, [], [⟨0, 19, .w1c, 0⟩]⟩,
  ⟨0x050E0078, [], [⟨0, 24, .ro, 0⟩]⟩,
  ⟨0x050E007C, [], [⟨0, 19, .ro, 0⟩]⟩]

/-- Register rows of the DBG block. -/
def rowsDBG : List RegRow := [
  ⟨0x050F0000, [], [⟨0, 16, .ro, 12872⟩, ⟨16, 8, .ro, 33⟩]⟩,
  ⟨0x050F0004, [], [⟨0, 1, .ro, 0⟩, ⟨1, 1, .w1c, 0⟩, ⟨2, 1, .ro, 0⟩, ⟨3, 1, .w1c, 0⟩, ⟨4, 5, .ro, 0⟩, ⟨9, 5, .ro, 0⟩]⟩,
  ⟨0x050F0008, [], [⟨0, 5, .w1s, 0⟩]⟩,
  ⟨0x050F000C, [], [⟨0, 5, .w1s, 0⟩, ⟨5, 5, .w1s, 0⟩]⟩,
  ⟨0x050F0010, [], [⟨0, 5, .rw, 0⟩]⟩,
  ⟨0x050F0014, [], [⟨0, 16, .rw, 0⟩]⟩,
  ⟨0x050F0018, [], [⟨0, 5, .w1s, 0⟩]⟩,
  ⟨0x050F001C, [], [⟨0, 3, .rw, 0⟩, ⟨3, 11, .rw, 0⟩]⟩,
  ⟨0x050F0020, [], [⟨0, 24, .rw, 0⟩]⟩]

end Sys2Proof.Machine
end

