-- ==== Sys2Proof/Machine/Bank.lean ====
section
/-! DEFINITION. The register bank: which register stands at an address, what it reads as after reset, and how the
access codes of Table SCOPE-1 act on a word. -/

namespace Sys2Proof.Machine

/-- An offset is a sum of multiples of the strides, each below its count (greatest stride first). -/
def inDims : List (Nat × Nat) → Nat → Bool
  | [], o => o == 0
  | (st, n) :: ds, o => decide (o / st < n) && inDims ds (o % st)

/-- The register row stands at the address. -/
def RegRow.at (r : RegRow) (a : Nat) : Bool := decide (r.base ≤ a) && inDims r.dims (a - r.base)

/-- The register rows of the block or unit that holds the address (Table CLK-7). -/
def rowsOf (a : Nat) : List RegRow :=
  if a < 0x01000000 then []
  else if a < 0x01200000 then if a % 0x10000 < 0x8000 then rowsTILE else rowsCAL
  else if a < 0x05000000 then []
  else if a < 0x05010000 then rowsPWR
  else if a < 0x05020000 then rowsRTC
  else if a < 0x05030000 then rowsEVF
  else if a < 0x05040000 then rowsSEAL
  else if a < 0x05050000 then rowsBOOT
  else if a < 0x05060000 then rowsCLK
  else if a < 0x05070000 then rowsPST
  else if a < 0x05080000 then rowsCIP
  else if a < 0x05090000 then rowsRAD
  else if a < 0x050A0000 then rowsLNK
  else if a < 0x050B0000 then rowsWIR
  else if a < 0x050C0000 then rowsHST
  else if a < 0x050D0000 then rowsQUE
  else if a < 0x050E0000 then rowsSNS
  else if a < 0x050F0000 then rowsFLT
  else if a < 0x05100000 then rowsDBG
  else if a < 0x06000000 then []
  else if a < 0x06400000 then
    if a % 0x100000 < 0x10000 then rowsCLU
    else if a % 0x100000 < 0x20000 then rowsDFA
    else if a % 0x100000 < 0x30000 then rowsTAL
    else if a % 0x100000 < 0x40000 then rowsMOV
    else if a % 0x100000 < 0x50000 then rowsSPD
    else []
  else if a < 0x06410000 then rowsRND
  else if a < 0x08000000 then []
  else if a < 0x08040000 then rowsDB
  else []

/-- The register row at an address, if a register stands there. -/
def regRow (a : Nat) : Option RegRow := (rowsOf a).find? (·.at a)

/-- The reset value a register's fields give. -/
def rowReset : List FldRow → Nat
  | [] => 0
  | f :: fs => f.rst * 2 ^ f.lo + rowReset fs

/-- The RET column of Table PWR-1: the domain takes RET. -/
def domTakesRet (d : Nat) : Bool := [1, 3, 6, 7].contains d || (decide (9 ≤ d) && decide (d ≤ 16))

/-- The reset value of PWR_DOMd (Table PWR-8): AON and SUP ON, the others OFF (R108). -/
def pwrDomReset (d : Nat) : Nat := (if d < 2 then 0b1010 else 0) + b2n (domTakesRet d) * 64

/-- Reset values of LNK_TMPL0-4: two fields of 12 bits each, TMPL4 one of 16 (Table RAD-4). -/
def lnkTmplReset (k : Nat) : Nat :=
  if k = 0 then 1800 + 128 * 4096 else if k = 1 then 2120 + 1020 * 4096 else if k = 2 then 800 + 1000 * 4096
  else if k = 3 then 2200 + 400 * 4096 else 10000

/-- Reset values of LNK_HOP0-2 (Table RAD-12). -/
def lnkHopReset (j : Nat) : Nat :=
  if j = 0 then 0x543210 else if j = 1 then 0xBA9876 else 0x00FEDC

/-- What a register reads as until something is stored there: the Reset column of its table, and for the registers
whose reset value depends on the instance the value of that instance. -/
def regReset (a : Nat) : Word :=
  if 0x05000100 ≤ a ∧ a < 0x05000168 ∧ a % 4 = 0 then BitVec.ofNat 24 (pwrDomReset ((a - 0x05000100) / 4))
  else if a = Reg.LNK_HOP 0 ∨ a = Reg.LNK_HOP 1 ∨ a = Reg.LNK_HOP 2 then
    BitVec.ofNat 24 (lnkHopReset ((a - Reg.LNK_HOP 0) / 4))
  else if 0x05090040 ≤ a ∧ a < 0x05090054 ∧ a % 4 = 0 then BitVec.ofNat 24 (lnkTmplReset ((a - 0x05090040) / 4))
  else if a = Reg.SNS_CLASS then 0x7FF
  else match regRow a with
    | some r => BitVec.ofNat 24 (rowReset r.flds)
    | none => 0

/-- One field's part of a read: a WO field reads zero (Table SCOPE-1). -/
def fldRead (w : Nat) (f : FldRow) : Nat :=
  if f.acc = .wo then 0 else bitsOf w f.lo f.w * 2 ^ f.lo

/-- What a read of a register word returns: its fields by access code, reserved bits zero (R12). -/
def rowRead : List FldRow → Nat → Nat
  | [], _ => 0
  | f :: fs, w => fldRead w f + rowRead fs w

/-- One field's part of a write of `v` on the word `w` (Table SCOPE-1). -/
def fldWrite (w v : Nat) (f : FldRow) : Nat :=
  match f.acc with
  | .rw | .wo => putBits w f.lo f.w (bitsOf v f.lo f.w)
  | .w1c => putBits w f.lo f.w (bitsOf w f.lo f.w &&& (2 ^ f.w - 1 - bitsOf v f.lo f.w))
  | .w1s => putBits w f.lo f.w (bitsOf w f.lo f.w ||| bitsOf v f.lo f.w)
  | .ro | .rc => w

/-- What a write by access codes leaves in a register word; reserved bits keep (R11, R12). -/
def rowWrite : List FldRow → Nat → Nat → Nat
  | [], w, _ => w
  | f :: fs, w, v => rowWrite fs (fldWrite w v f) v

/-- A read of `n` bytes from byte `lo` of a register on takes bits of the field. -/
def FldRow.inBytes (f : FldRow) (lo n : Nat) : Bool := decide (f.lo < 8 * (lo + n)) && decide (8 * lo < f.lo + f.w)

/-- What a read of bytes `lo` to `lo + n - 1` leaves in a register word: every RC field of which it returned bits cleared
(R11, R14; log entry 68). -/
def rowAfterRead (lo n : Nat) : List FldRow → Nat → Nat
  | [], w => w
  | f :: fs, w => rowAfterRead lo n fs (if f.acc = .rc ∧ f.inBytes lo n = true then putBits w f.lo f.w 0 else w)

/-- A register's rows hold an RC field. -/
def rowHasRc (fs : List FldRow) : Bool := fs.any (·.acc == .rc)

end Sys2Proof.Machine
end

