-- ==== Sys2Proof/Machine/State.lean ====
section
/-! DEFINITION. Everything the spec gives the part to hold, as plain data; the outcomes a step may stop with; and
the state after reset. Registers of the address map stand in `regs` (Machine/Registers.lean names them and gives
their reset values); a register field that only shows other state is computed where it is read (Machine/View.lean). -/

namespace Sys2Proof.Machine

/-- Faults: no rule of the spec stops the part, so there is one, which no command raises (safe). -/
inductive Fault where
  /-- Raised by nobody: kept so that the type is not empty (safe). -/
  | never
  deriving DecidableEq, Repr

/-- Refusals. -/
inductive Refusal where
  /-- Raised by an arm of exec whose command has no meaning in the model (safe: nothing is provable of it). -/
  | notModelled (mnemonic : String)
  deriving DecidableEq, Repr

/-- A zone of the franking meter (R55-R58). -/
structure Zone where
  epoch : Nat := 0
  seq : Nat := 0
  b0 : Nat := 0
  b1 : Nat := 0
  b2 : Nat := 0
  b3 : Nat := 0
  b4 : Nat := 0
  budget : Nat := 0
  miniv : Nat := 0
  /-- clk_aon cycle of the last advance, or of LOCK. -/
  last : Nat := 0
  deriving DecidableEq, Repr

/-- An entry of a cluster's fresh list (R47). -/
structure Fresh where
  row : Nat
  zone : Nat
  epoch : Nat
  deriving DecidableEq, Repr

/-- The three resets that are held until their release (R89). -/
structure Held where
  por : Bool := false
  pin : Bool := false
  wdog : Bool := false
  deriving DecidableEq, Repr

/-- The weather state of the whole part (R119-R123); Breeze and Gale are told apart by PWR_CTRL.MODE. -/
inductive Weather where
  | run
  | calm
  | frost
  deriving DecidableEq, Repr

/-- An entry of the fault log (R728). -/
structure LogEntry where
  code : Nat
  unit : Nat
  detail : Nat
  sec : Nat
  boot : Nat
  deriving DecidableEq, Repr

/-- Where a packet of the Round stands: on its way to its target; accepted or dropped there, its answer on the way. -/
inductive Stage where
  | flying
  | accepted
  | returned
  deriving DecidableEq, Repr

/-- A packet on the Round (R176): a posted write or a remote read, of a whole row or of bytes from an address on. -/
structure Packet where
  src : Nat
  tgt : Nat
  read : Bool
  wide : Bool
  /-- Device address of its first byte. -/
  addr : Nat
  data : List Byte
  tag : Bool
  /-- The context that owned the source cluster at issue (R182). -/
  ctx : Nat
  /-- Made in sealed state (R184). -/
  sealedIssue : Bool
  /-- It goes clockwise (R175, R724). -/
  cw : Bool
  stage : Stage
  /-- Its number among the posted writes issued (R185; the model's own count). -/
  seq : Nat := 0
  deriving DecidableEq, Repr

/-- An entry of a returned-mail log (R182). -/
structure Mail where
  src : Nat
  row : Nat
  ctx : Nat
  cause : Nat
  wide : Bool
  masked : Bool
  deriving DecidableEq, Repr

/-- The real-time clock's counters and transfers (R492-R495). -/
structure Rtc where
  sec : Nat := 0
  sub : Nat := 0
  /-- The staged time of a pending write. -/
  wsec : Nat := 0
  wsub : Nat := 0
  /-- The snapshot in progress: the clk_evt cycle of its request. -/
  snapReq : Nat := 0
  /-- A write was pending at the request cycle of the last snapshot (R495). -/
  snapStale : Bool := false
  /-- Old time less new, in clk_aon cycles, of the write applied last (R495). -/
  snapOld : Int := 0
  /-- The held snapshot. -/
  snSec : Nat := 0
  snSub : Nat := 0
  snFrac : Nat := 0
  deriving DecidableEq, Repr

/-- One entry of the MSI-X table (R434). -/
structure MsixEntry where
  addrLo : Nat := 0
  addrHi : Nat := 0
  data : Nat := 0
  masked : Bool := true
  deriving DecidableEq, Repr

/-- The states of a core (Table CORE-10). -/
inductive RunState where
  | reset
  | idle
  | run
  | wait
  | wipe
  | halt
  | fault
  deriving DecidableEq, Repr

/-- A store in a core's store buffer (R331): to word `addr` of the own data memory, or to the byte address `addr` of
the device map as a unit of `width` bytes. -/
structure Store where
  own : Bool
  addr : Nat
  width : Nat
  v : Word
  /-- The store follows the entering read of sealed state (R41). -/
  sealedSt : Bool
  deriving DecidableEq, Repr

/-- A control core (Table CORE-1, Table CORE-10). -/
structure CoreSt where
  g : Tab Word := []
  acc0 : BitVec 56 := 0
  acc1 : BitVec 56 := 0
  pc : BitVec 16 := 0
  run : RunState := .reset
  sealedSt : Bool := false
  /-- A debug halt waits for an instruction boundary or for the wipe (R74, R754). -/
  haltWait : Bool := false
  /-- One instruction runs under DBG_RESUME.STEP (R754). -/
  stepping : Bool := false
  inx : Bool := false
  task : Nat := 0
  tvalid : Bool := false
  /-- TPEND.WAKE (R344). -/
  wake : Bool := false
  /-- A task-start arrival reached the core in WAIT (Table CORE-10). -/
  hail : Bool := false
  /-- CSRs that hold a value of their own, by index (Table CORE-12). -/
  csr : Tab Word := []
  /-- Dirty 64-word blocks of data memory (R42). -/
  dirty : Tab Bool := []
  stores : List Store := []
  /-- The destination of a load that waits for its remote data (R176, R331). -/
  load : Option Nat := none
  /-- START bit of the parcel in use and its entry address (R347). -/
  start : Option (BitVec 16) := none
  deriving DecidableEq, Repr

/-- An entry of a tile's spare-row map (R219, Table TILE-10). -/
structure Spare where
  lrow : Nat := 0
  valid : Bool := false
  bad : Bool := false
  deriving DecidableEq, Repr

/-- The kinds of long operation of a tile (R221, R223, R307). -/
inductive LongKind where
  | program
  | wipe
  | refresh
  deriving DecidableEq, Repr

/-- Where a long operation stands (Table TILE-9). -/
inductive LongPhase where
  | prescan
  | step
  | between
  deriving DecidableEq, Repr

/-- A long operation in progress, with the parameters it latched (R221, R307). -/
structure LongOp where
  kind : LongKind
  src : Nat
  first : Nat
  count : Nat
  mask : Nat
  stuckok : Nat
  gen : Nat
  baro : Bool
  phase : LongPhase
  /-- Rows of the range already complete. -/
  idx : Nat
  /-- The barometer row step of the current row comes next (R307). -/
  baroNext : Bool
  /-- Compute operations that may still run before the next row step (R228). -/
  allow : Nat
  /-- First logical row that found no spare row (R218). -/
  nospare : Option Nat
  /-- ABORT waits for the end of the row step (R236). -/
  abort : Bool
  /-- A step of the front end has just ended: the next waits for the commands other queues want to dispatch (R412). -/
  atStep : Bool := false
  deriving DecidableEq, Repr

/-- A cell of a tile: the level it was programmed to, its conductance in µS when it was last pulsed, and the draw that
names that pulse (R216, R292). -/
structure Cell where
  level : Nat := 0
  g : Rat := 0
  pulse : Nat := 0
  deriving DecidableEq, Repr

/-- What a trim load or a trim sweep settles for a tile: the draw that names its static terms, the trim bytes they are
residuals of, and the fields of Table CAL-2 of its card (R291, R294, R299); held beside the CAL registers. -/
structure TrimSet where
  seed : Nat := 0
  ref : List Nat := []
  card : List Nat := []
  deriving DecidableEq, Repr

/-- A barometer check or trim sweep that runs (Table TILE-9, R301). -/
structure Check where
  trim : Bool
  sealedIn : Bool
  /-- CAL_BEXP0-1 at its start (R316). -/
  bexp0 : Nat
  bexp1 : Nat
  deriving DecidableEq, Repr

/-- An analogue tile. `cells`, `gen`, `genValid` and `spares` are held in its non-volatile cells (R109, R219, R231). -/
structure Tile where
  /-- The cells, by (392 * physical row + column) * 2, plus 1 for G- (R203; columns 384-391 are B0-B7). -/
  cells : Tab Cell := []
  gen : Nat := 0
  genValid : Bool := false
  spares : Tab Spare := []
  sealedFlag : Bool := false
  long : Option LongOp := none
  check : Option Check := none
  /-- Column accumulators (R212). -/
  acc : Tab Int := []
  /-- The trim bytes that the operation in progress started with (R290). -/
  trims : List Nat := []
  /-- The front end's number for the long operation in progress, where the front end asked for it. -/
  front : Option Nat := none
  deriving DecidableEq, Repr

/-- Where a tally entry stands: in the queue; in a tile's second buffer; in its passes; its lanes or its debit
come back; running without a tile. -/
inductive TalPhase where
  | queued
  | inTile
  | computing
  | running
  | back
  deriving DecidableEq, Repr

/-- A word set in the operation queue, or the entry it became (R244, R245). -/
structure TalEntry where
  port : Nat
  ws : WordSet
  /-- The issue seal (R39). -/
  iseal : Bool
  /-- The pad register latched at entry (R245). -/
  pad : Word
  phase : TalPhase
  /-- Its place in the order of starts (R262). -/
  seq : Nat := 0
  /-- Raw input elements read at the start (R253). -/
  elems : List Nat := []
  /-- An input row was sealed (Table SEAL-1). -/
  inSealed : Bool := false
  /-- Lanes that came back from the tile (R255, R256). -/
  lanes : List Int := []
  mixed : Bool := false
  status : Nat := 0
  /-- The front end's number for it (port 2). -/
  id : Nat := 0
  deriving DecidableEq, Repr

/-- A completion as TAL_CPL shows it (Table TOP-15). -/
structure TalCpl where
  tag : Nat
  status : Nat
  opc : Nat
  mixed : Bool
  sealedOut : Bool
  port : Nat
  deriving DecidableEq, Repr

/-- The tally unit of a cluster. -/
structure Tally where
  entries : List TalEntry := []
  cpl : List TalCpl := []
  starts : Nat := 0
  sealedFlag : Bool := false
  /-- A seed write met RST entries that run: the LFSR before it, and the starts so far (R281). -/
  reseed : Option (Nat × Nat) := none
  deriving DecidableEq, Repr

/-- A mover job (R272). -/
structure MovJob where
  port : Nat
  jw : JobWords
  iseal : Bool
  running : Bool
  /-- Rows delivered. -/
  done : Nat
  /-- Remote rows read and not yet written, with their tags (R176). -/
  got : List (List Byte × Bool)
  /-- Remote reads issued. -/
  asked : Nat
  status : Nat
  ended : Bool
  /-- The front end's number for it (port 2). -/
  id : Nat := 0
  deriving DecidableEq, Repr

/-- A completion as MOV_CPL shows it (Table TOP-16). -/
structure MovCpl where
  tag : Nat
  status : Nat
  port : Nat
  rows : Nat
  deriving DecidableEq, Repr

/-- The mover of a cluster. -/
structure Mover where
  jobs : List MovJob := []
  cpl : List MovCpl := []
  sealedFlag : Bool := false
  deriving DecidableEq, Repr

/-- A start in the start queue of a dataflow array (R381): source 0-2 an issue port, 3 an event. -/
structure DfaStart where
  slot : Nat
  tag : Nat
  notify : Bool
  src : Nat
  iseal : Bool
  /-- The front end's number for it (port 2). -/
  id : Nat := 0
  deriving DecidableEq, Repr

/-- A stream port of a cell (R370-R373): its descriptor, delivered or pushed elements, rows that have arrived, row
buffers by place in the stream, the bytes of the row being filled. A full row waits in `Dfa.writes`. -/
structure DfaPort where
  pd0 : Nat := 0
  pd1 : Nat := 0
  pos : Nat := 0
  arrived : Nat := 0
  bufs : List (Nat × List Byte) := []
  fill : List Byte := []
  deriving DecidableEq, Repr

/-- A timetable that runs: its start, its entry, iteration and step, whether a stream passed its end, whether the cycle of
a round switch comes next (R380), whether its last step has run. -/
structure DfaRun where
  start : DfaStart
  entry : Nat
  iter : Nat
  step : Nat
  exh : Bool
  switching : Bool := false
  ended : Bool
  deriving DecidableEq, Repr

/-- A completion as DFA_CPL shows it. -/
structure DfaCpl where
  tag : Nat
  status : Nat
  slot : Nat
  src : Nat
  sealedRun : Bool
  exh : Bool
  deriving DecidableEq, Repr

/-- A schedule load that runs (R388): first row, rows, first index. -/
structure DfaLoad where
  src : Nat
  rows : Nat
  widx : Nat
  deriving DecidableEq, Repr

/-- A dataflow array (R366). -/
structure Dfa where
  /-- l0-l7 by 8 * cell + register. -/
  l : Tab Word := []
  /-- o by cell. -/
  o : Tab Word := []
  /-- Stream ports by 2 * cell + port. -/
  ports : Tab DfaPort := []
  /-- Full rows that wait for their write, in order of issue: port, row, bytes (R372, R374). -/
  writes : List (Nat × Nat × List Byte) := []
  sealedSt : Bool := false
  run : Option DfaRun := none
  queue : List DfaStart := []
  cpl : List DfaCpl := []
  load : Option DfaLoad := none
  /-- Invalid entries, by (round * 256 + step) * 16 + cell (R377, R387). -/
  bad : Tab Bool := []
  deriving DecidableEq, Repr

/-- A group of the parameter store: its 64 data bits as a read returns them, its bit errors (0, 1, or 2 for a
double-bit error), and whether it fails the margin of R517 (R510-R517). -/
structure PstGroup where
  data : Nat := 0xFFFFFFFFFFFFFFFF
  ecc : Nat := 0
  weak : Bool := false
  deriving DecidableEq, Repr

/-- What the controller's index holds of a page (R519, R527, R529): class 0 ERASED, 1 VALID, 2 SUPERSEDED, 3 DIRTY. -/
structure PstPage where
  cls : Nat := 0
  wear : Nat := 0
  known : Bool := false
  retired : Bool := false
  type : Nat := 0
  inst : Nat := 0
  len : Nat := 0
  seq : Nat := 0
  deriving DecidableEq, Repr

/-- A command in progress (R521, R524, R527): a record write or a delete with the key and source it took, or a mount,
where `fixes` lists the pages whose SUPERSEDE it programs. `unit` counts the erase and the programs done. -/
structure PstOp where
  del : Bool
  type : Nat
  inst : Nat
  len : Nat
  cluster : Nat
  row : Nat
  spare : Nat
  old : Option Nat
  unit : Nat
  fixes : Option (List Nat) := none
  deriving DecidableEq, Repr

/-- A key slot of the AES engine (R551): size 0 for 128 bits, 1 for 256. -/
structure CipKey where
  valid : Bool := false
  size : Nat := 0
  use : Nat := 0
  key : List Byte := []
  deriving DecidableEq, Repr

/-- The message context carried from job to job (R542, R546): bytes of a-data and payload so far, the chaining or hash
value, the next counter block, the block under the tag, the GCM hash subkey, and bytes CMAC holds back. -/
structure CipCtx where
  aad : Nat := 0
  pay : Nat := 0
  payStarted : Bool := false
  x : Nat := 0
  ctr : Nat := 0
  tagCtr : Nat := 0
  h : Nat := 0
  held : List Byte := []
  deriving DecidableEq, Repr

/-- The fields a job uses. -/
structure JobArgs where
  mode : Nat
  dec : Bool
  enc : Bool
  verify : Bool
  kslot : Nat
  incw : Nat
  tagLen : Nat
  aLen : Nat
  mLen : Nat
  nb : Nat
  aad : Bool
  first : Bool
  last : Bool
  deriving DecidableEq, Repr

/-- What a command of set U takes from the registers when it is written (R546, R548, R552): the fields of a job, IV,
expected tag, label, the transfer of CIP_XFER0-1, and CIP_KEYCFG. -/
structure CipArgs where
  job : JobArgs
  iv : List Byte
  etag : List Byte
  label : List Byte
  cluster : Nat
  row : Nat
  offset : Nat
  len : Nat
  tslot : Nat
  size : Nat
  use : Nat
  toBoot : Bool
  deriving DecidableEq, Repr

/-- A command of set U that waits or runs (R547, R562), with the key latched at its start (R568); `torn`: the buffer was
written while it ran. -/
structure CipOp where
  op : Nat
  owner : Nat
  args : CipArgs
  key : CipKey := {}
  running : Bool := false
  torn : Bool := false
  deriving DecidableEq, Repr

/-- A set-S job (R563), with the key latched at its start (R568). -/
structure SlotJob where
  slot : Nat
  nonce : List Byte
  dec : Bool
  enc : Bool
  tagLen : Nat
  adata : List Byte
  data : List Byte
  tag : List Byte
  running : Bool
  key : CipKey := {}
  deriving DecidableEq, Repr

/-- Why a release waits for the running job (R559, R560). -/
inductive Release where
  | none
  | plain
  | revoke
  deriving DecidableEq, Repr

/-- The AES engine beside its registers. -/
structure Cip where
  buf : Tab Byte := []
  keys : Tab CipKey := []
  /-- The boot register (R148). -/
  boot : List Byte := []
  ctx : Option CipCtx := none
  /-- Owners queued for the lock, in order of request (R556). -/
  queue : List Nat := []
  op : Option CipOp := none
  due : Release := .none
  /-- CODE and OP of each owner's record (R558). -/
  recs : Tab (Nat × Nat) := []
  slotJob : Option SlotJob := none
  /-- Result of the last set-S job: code of Table CIP-5, payload, tag. -/
  slotRes : Option (Nat × List Byte × List Byte) := none
  deriving DecidableEq, Repr

/-- The fuse array (Table BOOT-3) with its CRC-16 (R140); unblown but for the CRC, which matches (log entry 78). -/
structure Fuses where
  devkey : List Byte := List.replicate 32 0
  uid : BitVec 64 := 0
  lifecycle : BitVec 2 := 0
  dbgdis : Bool := false
  fmt1dis : Bool := false
  hostbootdis : Bool := false
  rollback : Nat := 0
  anatrim : BitVec 48 := 0
  crc : BitVec 16 := 0x3E08
  deriving DecidableEq, Repr

/-- A transmit buffer of the slot engine with its descriptor (Table RAD-10, R594): state 0 EMPTY, 1 READY, 2 INFLIGHT,
3 DONE. `plain` is the frame before its security and FCS, `psdu` the frame as sent; `order` its place in the order of
READY; `cancel` a CANCEL while INFLIGHT (R611); `csma`, `nb`, `be` its CSMA-CA access, `backoff` shared slots still to
let pass (R598, R601). -/
structure TxBuf where
  mem : Tab Byte := []
  d0 : Word := 0
  d1 : Word := 0
  d2 : Word := 0
  st : Nat := 0
  status : Nat := 0
  tries : Nat := 0
  len : Nat := 0
  order : Nat := 0
  plain : List Byte := []
  psdu : List Byte := []
  cancel : Bool := false
  csma : Bool := false
  nb : Nat := 0
  be : Nat := 0
  backoff : Nat := 0
  deriving DecidableEq, Repr

/-- A neighbour entry: the words LNK_NBR0-5 (Table RAD-9) and the last DSNs delivered, newest first (R604). -/
structure Nbr where
  w : List Word := [0, 0, 0, 0, 0, 0]
  window : List Nat := []
  deriving DecidableEq, Repr

/-- A received frame in the RX ring (R607). -/
structure RxEntry where
  psdu : List Byte
  rssi : Nat
  lqi : Nat
  clip : Bool
  stamp : Nat
  asn : Nat
  nbr : Nat
  ver : Nat
  chan : Nat
  secok : Bool
  nonbr : Bool
  deriving DecidableEq, Repr

/-- A slot in which the engine receives: its channel and its ASN. -/
structure RxSlot where
  chan : Nat
  asn : Nat
  deriving DecidableEq, Repr

/-- The slot engine beside its registers. -/
structure Lnk where
  /-- LNK_LINK0 and LNK_LINK1 of each link. -/
  links : Tab (Word × Word) := []
  nbrs : Tab Nbr := []
  txs : Tab TxBuf := []
  rx : List RxEntry := []
  /-- READYs so far. -/
  readies : Nat := 0
  /-- TIME value at the start of the next slot (R584, R585). -/
  phase : Nat := 0
  /-- Correction to add to the length of the next slot (R585). -/
  corr : Int := 0
  /-- clk_xo cycle at which TIME was 0. -/
  timeBase : Nat := 0
  /-- The buffer on the air; in TSCH, whether its link is shared. -/
  onAir : Option (Nat × Option Bool) := none
  /-- The slot in progress in which the engine receives. -/
  rxLink : Option RxSlot := none
  /-- Neighbour entries and TsRxWait as the last slot start found them (R591, R608). -/
  latched : Option (Tab Nbr × Nat) := none
  /-- The Calm reference: RTC SEC and SUB of the next slot boundary (R588). -/
  refSec : Nat := 0
  refSub : Nat := 0
  /-- Slots passed in RESYNC. -/
  resync : Nat := 0
  /-- Widened guard of RESYNC in us. -/
  guard : Nat := 0
  /-- Domains woken for a slot, with the states they held (R593). -/
  woke : List (Nat × Nat) := []
  /-- An energy-detect measurement runs (R602). -/
  ed : Bool := false
  deriving DecidableEq, Repr

/-- A transmit buffer of the wired MAC with its descriptor (Table WIR-10, R667). State 0 EMPTY, 1 READY, 2 INFLIGHT,
3 DONE; `plain` the assembled bytes before security, `frame` as sent with FCS; `waiting` for the AES engine. -/
structure WirBuf where
  mem : Tab Byte := []
  d0 : Word := 0
  d1 : Word := 0
  d2 : Word := 0
  st : Nat := 0
  status : Nat := 0
  len : Nat := 0
  order : Nat := 0
  plain : List Byte := []
  frame : List Byte := []
  waiting : Bool := false
  deriving DecidableEq, Repr

/-- An entry of the wired RX ring (R676). -/
structure WirEntry where
  bytes : List Byte
  dup : Bool
  secok : Bool
  wrh : Bool
  amp : Nat
  sqi : Nat
  deriving DecidableEq, Repr

/-- A received frame, without FCS, that waits for verification, its own or that of a frame before it: whether it carries
a WRH, the place of that WRH, its amplitude and SQI. -/
structure WirPend where
  bytes : List Byte
  pos : Nat
  amp : Nat
  sqi : Nat
  wrh : Bool := true
  deriving DecidableEq, Repr

/-- A neighbour hub (R675): bit i of the mask is sequence HI - i. -/
structure WirHub where
  origin : Nat
  hi : Nat
  mask : Nat
  deriving DecidableEq, Repr

/-- The wired link beside its registers. -/
structure Wir where
  bufs : Tab WirBuf := []
  rx : List WirEntry := []
  /-- WIR_LINKCFG as the last entry to AN or TRAIN took it (R677). -/
  cfg : Word := 0
  /-- Frames that wait for verification, in the order in which they ended. -/
  checks : List WirPend := []
  /-- Neighbour hubs, the most recently used first. -/
  hubs : List WirHub := []
  readies : Nat := 0
  deriving DecidableEq, Repr

/-- What a port does on its sensor bus (R698, R699): an I²C START or repeated START, a byte sent, bytes read (on I²C with
ACK on each but the last, on SPI while zeros are sent), an I²C STOP, and SSPIm_CS_N asserted and deasserted. -/
inductive BusOp where
  | start
  | send (b : Byte)
  | read (n : Nat)
  | stop
  | select
  | deselect
  deriving DecidableEq, Repr

/-- A capture port (R693, R694): phase 0 no capture, 1 the start delay, 2 capture; the script its bus runs; bytes staged; the frame being
flushed; its number since EN; domains it woke with the states they held (R695). -/
structure SnsPort where
  phase : Nat := 0
  script : List BusOp := []
  staged : List Byte := []
  flush : Option (List Byte) := none
  count : Nat := 0
  woke : List (Nat × Nat) := []
  deriving DecidableEq, Repr

/-- The sensor block beside its registers: ports, frame counts of the epoch producers, each comparator's history (0 no
sample yet, 1 its condition did not hold at the last sample, 2 it held), and the levels that GPIO pulses return to. -/
structure Sns where
  ports : Tab SnsPort := []
  epochs : Tab Nat := []
  held : Tab Nat := []
  gpioPulses : List (Nat × Bool) := []
  deriving DecidableEq, Repr

/-- Where an MMP node stands (R627-R640). -/
inductive MeshPhase where
  | scan
  | waiting
  | claiming
  | withdrawn
  | joining
  | joined
  | root
  deriving DecidableEq, Repr

/-- A child of an MMP node and the cell it was given (R633); `idle` counts the SF0 slotframes in which no frame arrived
on it (R647). -/
structure Child where
  addr : Nat
  ts : Nat
  choff : Nat
  saddr : Nat
  idle : Nat := 0
  deriving DecidableEq, Repr

/-- A stream of the root (R637): the highest epoch, and one SEQ mask for each of the 64 epochs down from it. -/
structure Stream where
  origin : Nat
  zone : Nat
  cluster : Nat
  hi : Nat
  masks : List Nat
  deriving DecidableEq, Repr

/-- A record of a zone report as the root passes it on (R638). -/
structure ZoneRecord where
  origin : Nat
  zone : Nat
  cluster : Nat
  epoch : Nat
  seq : Nat
  data : List Byte
  deriving DecidableEq, Repr

/-- How an MMP node sends (R628, Table MESH-2): CSMA on CLAIMCH, the advertising cell, the shared cell, its SF0 cell to the
parent, the SF2 downlink. -/
inductive MmpVia where
  | csma
  | advert
  | shared
  | data
  | downlink
  deriving DecidableEq, Repr

/-- What an MMP node has sent: on which cell, to which next hop (0 broadcast), and the bytes of an MMP IE, or of an MMP
header with its payload. -/
structure MmpSent where
  via : MmpVia
  dest : Nat
  bytes : List Byte
  deriving DecidableEq, Repr

/-- MMP as SV firmware holds it for this node (18_mesh_formation.md). -/
structure Mesh where
  phase : MeshPhase := .scan
  hub : Bool := false
  claimCh : Nat := 26
  /-- Place in the scan order: 0 is CLAIMCH. -/
  scanPos : Nat := 0
  claim : Nat := 0
  /-- The key derived under the label MMPCLAIM, once there is one (R626). -/
  claimKey : List Byte := []
  /-- Claims made since boot. -/
  claims : Nat := 0
  /-- Claim beacons sent in this claim. -/
  sent : Nat := 0
  rootGen : Nat := 0
  /-- The generation of the root this node lost. -/
  lostGen : Option Nat := none
  rootClaim : Nat := 0
  rootAddr : Nat := 0
  parent : Nat := 0
  rank : Nat := 0
  depth : Nat := 0
  /-- Beacons kept by a scan; of a node that joins, the candidates it has not tried. -/
  kept : List Beacon := []
  cand : Option Beacon := none
  tries : Nat := 0
  ts : Nat := 0
  choff : Nat := 0
  saddr : Nat := 0
  children : List Child := []
  /-- Route table of the root: address and router. -/
  routes : List (Nat × Nat) := []
  streams : List Stream := []
  overflow : Nat := 0
  mseq : Nat := 0
  /-- A hand-over sent and not yet answered: its payload, its HSEQ and the repeats made. -/
  handOut : Option (List Byte × Nat × Nat) := none
  /-- Answers given to hand-overs: sender, zone, HSEQ, STATUS (R642). -/
  answers : List (Nat × Nat × Nat × Nat) := []
  /-- The highest HSEQ accepted for a sender's zone (R416). -/
  accepted : List (Nat × Nat × Nat) := []
  /-- Hand-overs accepted: the payloads of the jobs this chip starts. -/
  jobs : List (List Byte) := []
  /-- Records accepted by the root, oldest first. -/
  records : List ZoneRecord := []
  /-- MMP IEs and frames sent, oldest first. -/
  out : List MmpSent := []
  deriving DecidableEq, Repr

/-- A command a queue holds: the descriptor's bytes and format, and how far it has come: phase 0 fetched, 1 checked,
2 running, 3 ended; `sent` once dispatched (R447); `nosig` when check 3 of R446 failed for its SIGFENCE; the fence
status of Table HOST-7 and DETAIL it carries; `cause` of an abort: 1 timeout, 2 DRAIN_ABORT, 3 cluster reset; unit
operations issued, ended, still out by number, and how many the current step may issue (R412). -/
structure QCmd where
  uid : Nat := 0
  raw : List Byte := []
  qf2 : Bool := false
  phase : Nat := 0
  sent : Bool := false
  dup : Bool := false
  nosig : Bool := false
  status : Nat := 1
  detail : Nat := 0
  mixed : Bool := false
  cause : Nat := 0
  issued : Nat := 0
  ended : Nat := 0
  ids : List Nat := []
  limit : Nat := 0
  /-- Posted writes issued when the command completed: those before are its fence's to wait for (R185). -/
  covers : Option Nat := none
  deriving DecidableEq, Repr

/-- A queue beside its registers: its commands in ring order from the oldest not retired, its ticket window newest
first (R455), the clusters its commands ran on, and the long command its progress word shows. -/
structure Queue where
  cmds : List QCmd := []
  window : List Nat := []
  ran : List Nat := []
  long : Option Nat := none
  deriving DecidableEq, Repr

/-- The front end beside its registers: the queue served last (R447), numbers given to commands and unit operations,
the context an ABANDON that runs works on, and the TREFRESH that waits for QUE_SVDONE. -/
structure Front where
  rr : Nat := 63
  ids : Nat := 1
  abandon : Nat := 0
  sv : Option Nat := none
  deriving DecidableEq, Repr

/-- What the host sets of the PCI Express function beside MSI-X and D3hot (R427): payloads of 256 bytes, the read
request size as 128 shifted left, ASPM L1; the addresses in BAR0 and BAR2 (R429, R430). -/
structure PcieFn where
  mps256 : Bool := false
  mrrs : Nat := 2
  l1 : Bool := false
  bar0 : BitVec 64 := 0
  bar2 : BitVec 64 := 0
  deriving DecidableEq, Repr

/-- A command the boot loader gives the flash, or what it does to its balls (R141-R143, R155): an instruction byte; a
read with its instruction, wait states and address; the write that sets the quad-enable bit of a status register;
FLASH_CS_N high; the six flash balls high-impedance. -/
inductive FlashOp where
  | cmd (op : Nat)
  | read (op waits addr : Nat)
  | setQuad (reg bit : Nat)
  | csHigh
  | floating
  deriving DecidableEq, Repr

/-- What the boot loader keeps while it runs (R137): the evt cycle of the release of reset, how far APPLY has come, the
state the REG sections ask of SP0 (R155), the parcel's DPD, ADVROLL and ROLLLVL, whether a GO froze SP0 and BOOT_HOSTLEN
(R158), what it did at the flash port since the release of reset, oldest first, the instruction and wait states it reads
the flash with (R142), and whether it has let the flash balls go (R155, R159). -/
structure BootSt where
  base : Nat := 0
  apply : Nat := 0
  sp0 : Nat := 0
  dpd : Bool := false
  advroll : Bool := false
  level : Nat := 0
  frozen : Bool := false
  flash : List FlashOp := []
  readOp : Nat := 3
  waits : Nat := 0
  floating : Bool := false
  deriving DecidableEq, Repr

/-- The TAP (R746-R757): its instruction, the boundary register as captured and as updated, the last debug access with
whether it is BUSY, the test mode in force and its result (0 running, 1 pass, 2 fail). -/
structure Tap where
  ir : Nat := 1
  captured : List Bool := []
  boundary : List Bool := []
  addr : Nat := 0
  data : Word := 0
  write : Bool := false
  status : Nat := 0
  lost : Bool := false
  mode : Nat := 0
  result : Nat := 0
  deriving DecidableEq, Repr


/-- The whole part. -/
structure State where
  /-- The commands that wait, first in first out. -/
  pending : List Instr
  /-- The model's own count of free values drawn (log entry 3). -/
  free : Nat
  /-- The register bank. -/
  regs : Tab Word
  /-- Bytes by device address: scratchpad rows (R168), local memories (Table CLK-8, one word in 4 bytes; the upper
  instruction half at 0x4000_0000 above), schedule memory (R386). -/
  mem : Tab Byte
  /-- Seal tags, by 4096 * cluster + row (R36). -/
  tags : Tab Bool
  /-- Fresh marks, by 4096 * cluster + row (R47). -/
  marks : Tab Bool
  /-- Producer pulses fired and not yet taken by the Sorting Office. -/
  pulses : List Nat
  /-- Tasks delivered at the fabric whose consumer lies in another clock
  domain and has not yet acted (R484). -/
  arriving : List Nat
  /-- The data the last read of a register, a row or a memory returned to its initiator, least byte first (R11). -/
  readData : List Byte
  /-- Zones of the franking meter. -/
  zones : Tab Zone
  /-- Fresh lists by cluster, oldest entry first (R47). -/
  fresh : Tab (List Fresh)
  /-- clk_aon cycles counted since power-on reset (R55; the model's own name for that count). -/
  aonCycles : Nat
  /-- clk_evt cycles counted since power-on reset (R490, R493). -/
  evtCycles : Nat
  /-- Resets that are asserted and not yet released. -/
  held : Held
  /-- Weather state. -/
  weather : Weather
  /-- Domains whose transition waits, in order of arrival (R117). -/
  waiting : List Nat
  /-- Target state of each domain transition that runs. -/
  target : Tab Nat
  /-- Wake tasks whose EVP_PWR_READY is due (R109). -/
  wakeDue : List Nat
  /-- The real-time clock. -/
  rtc : Rtc
  /-- Fault log, oldest first (R728). -/
  log : List LogEntry
  /-- 64 us ticks each unit's disagreement has lasted (R729). -/
  disTicks : Tab Nat
  /-- Packets of the Round, in order of issue. -/
  flight : List Packet
  /-- Returned-mail logs by target, oldest first (R183). -/
  mail : Tab (List Mail)
  /-- Posted writes issued so far, by which R185 and R196 tell the writes a fence covers (the model's own count). -/
  posted : Nat
  /-- Numbers of the lost writes that a source cluster's mark stands for (R185, R196). -/
  lostPosted : Tab (List Nat)
  /-- Raw output of each sorter (R480). -/
  sortRaw : Tab Bool
  /-- clk_evt cycles for which each sorter's raw output has held its value (R480). -/
  sortHeld : Tab Nat
  /-- clk_evt cycle in which each stopwatch was armed (R490). -/
  swStart : Tab Nat
  /-- MSI-X table (R434). -/
  msix : Tab MsixEntry
  /-- MSI-X pending bits. -/
  msixPend : Tab Bool
  /-- MSI-X enable and function mask of the configuration space (R427). -/
  msixEnable : Bool
  msixMaskAll : Bool
  /-- Messages sent to the host, oldest first: address and data. -/
  messages : List (Nat × Nat)
  /-- The control cores: 0-3 are CC0-CC3, 4 is SV. -/
  cores : Tab CoreSt
  /-- The analogue tiles. -/
  tiles : Tab Tile
  /-- What trim loads and sweeps settled, by tile; held in SUP (R288). -/
  trimSets : Tab TrimSet
  /-- The tally units by cluster. -/
  tallies : Tab Tally
  /-- The movers by cluster. -/
  movers : Tab Mover
  /-- Writes to host memory that left the part, oldest first: address and bytes (R189). -/
  hostWrites : List (Nat × List Byte)
  /-- Read requests for descriptors that left the part, oldest first: host address and bytes (R441, R443). -/
  hostReads : List (Nat × Nat)
  /-- The dataflow arrays by cluster. -/
  dfas : Tab Dfa
  /-- Owner that a change of owner will load, by cluster (R190). -/
  nextCtx : Tab Nat
  /-- The parameter store by group index (R510). -/
  pst : Tab PstGroup
  /-- The controller's index by page; it is lost when SEC leaves ON (R528). -/
  pstPages : Tab PstPage
  /-- The store's command in progress (R516). -/
  pstOp : Option PstOp
  /-- The AES engine. -/
  cip : Cip
  /-- The fuse array. -/
  fuses : Fuses
  /-- The fuse shadow (R140); its visible fields also stand in BOOT_UID0-2, BOOT_FUSE and BOOT_ROLLBACK. -/
  shadow : Fuses
  /-- The slot engine. -/
  lnk : Lnk
  /-- Frames the radio has sent, oldest first: channel and PSDU. -/
  air : List (Nat × List Byte)
  /-- The wired link. -/
  wir : Wir
  /-- Frames the wired MAC has sent, oldest first. -/
  line : List (List Byte)
  /-- The sensor block. -/
  sns : Sns
  /-- MMP firmware state. -/
  mesh : Mesh
  /-- The queues. -/
  queues : Tab Queue
  /-- The front end. -/
  front : Front
  /-- PCI Express configuration beside MSI-X. -/
  pcie : PcieFn
  /-- Data of the last READ of the SPI host port (Table HOST-3). -/
  spiLast : List Byte
  /-- A function-level reset that waits for DONE or HOLD (R164). -/
  flrWaits : Bool
  /-- Clusters whose change of owner a function-level reset waits for (Table CLK-6, R463). -/
  flrDue : List Nat
  /-- The boot loader. -/
  boot : BootSt
  /-- The TAP. -/
  tap : Tap
  deriving DecidableEq, Repr

/-- The part right after a power-on reset has been released: every register at its Reset column, every memory byte
and tag 0 (R37), no command waiting. -/
def State.reset : State where
  pending := []
  free := 0
  regs := []
  mem := []
  tags := []
  marks := []
  pulses := []
  arriving := []
  readData := []
  zones := []
  fresh := []
  aonCycles := 0
  evtCycles := 0
  held := {}
  weather := .run
  waiting := []
  target := []
  wakeDue := []
  rtc := {}
  log := []
  disTicks := []
  flight := []
  mail := []
  posted := 0
  lostPosted := []
  sortRaw := []
  sortHeld := []
  swStart := []
  msix := []
  msixPend := []
  msixEnable := false
  msixMaskAll := false
  messages := []
  cores := []
  tiles := []
  trimSets := []
  tallies := []
  movers := []
  hostWrites := []
  hostReads := []
  dfas := []
  nextCtx := []
  pst := []
  pstPages := []
  pstOp := none
  cip := {}
  fuses := {}
  shadow := {}
  lnk := {}
  air := []
  wir := {}
  line := []
  sns := {}
  mesh := {}
  queues := []
  front := {}
  pcie := {}
  spiLast := []
  flrWaits := false
  flrDue := []
  boot := {}
  tap := {}

end Sys2Proof.Machine
end

