-- ==== Sys2Proof/Machine/Ops.lean ====
section
/-! DEFINITION. The named operations over registers, rows, tags, domains, unit health, event pulses and the
records of refusals: what every family of commands is written from. -/

namespace Sys2Proof.Machine

open Sys2Proof

/-! ### Registers and fields -/

/-- The word a register holds. -/
def State.reg (s : State) (a : Nat) : Word := tabGet regReset s.regs a

/-- The state with a register's word set. -/
def State.setReg (s : State) (a : Nat) (w : Word) : State := { s with regs := tabSet regReset s.regs a w }

/-- The value of a register field. -/
def State.fld (s : State) (f : Fld) : Nat := bitsOf (s.reg f.addr).toNat f.lo f.w

/-- The state with a register field set. -/
def State.setFld (s : State) (f : Fld) (v : Nat) : State :=
  s.setReg f.addr (BitVec.ofNat 24 (putBits (s.reg f.addr).toNat f.lo f.w v))

/-- A field that is not zero. -/
def State.flag (s : State) (f : Fld) : Bool := s.fld f != 0

/-- A counter field raised by `n`, saturating. -/
def State.incFld (s : State) (f : Fld) (n : Nat) : State := s.setFld f (satAdd f.w (s.fld f) n)

/-- Bit `i` of a field. -/
def State.fbit (s : State) (f : Fld) (i : Nat) : Bool := bitOf (s.fld f) i

/-- The state with bit `i` of a field set. -/
def State.setFbit (s : State) (f : Fld) (i : Nat) (b : Bool) : State := s.setFld f (putBits (s.fld f) i 1 (b2n b))

/-- One field per instance set over a list of indexes. -/
def State.foldSet (s : State) (is : List Nat) (step : State → Nat → State) : State := is.foldl step s

/-! ### Free values and pulses -/

/-- A value the spec leaves open, below `n` (log entry 3). -/
def State.open_ (s : State) (n : Nat) : Nat := Config.freeNat s.free % n

/-- The state after a free value has been drawn. -/
def State.drawn (s : State) : State := { s with free := s.free + 1 }

/-- A producer fires its pulse (Table EVF-1). -/
def State.fire (s : State) (p : Nat) : State := { s with pulses := s.pulses ++ [p] }

/-! ### Domains (Table PWR-1) -/

/-- Domain index of cluster logic CLc. -/
def domCL (c : Nat) : Nat := 9 + c
/-- Domain index of scratchpad SPc. -/
def domSP (c : Nat) : Nat := 13 + c
/-- Domain index of the quad of tile t. -/
def domTQ (t : Nat) : Nat := 17 + t / 4

/-- The state ACT of a domain: 0 OFF, 1 RET, 2 ON. -/
def State.dom (s : State) (d : Nat) : Nat := s.fld (F.PWR_DOM_ACT d)

/-- A domain is ON and has not begun to leave ON (R115, R192). -/
def State.domOn (s : State) (d : Nat) : Bool :=
  s.dom d == 2 && !(s.flag (F.PWR_DOM_BUSY d) && tabGet (fun _ => 2) s.target d != 2)

/-- A cluster is in cluster reset (R91). -/
def State.inClReset (s : State) (c : Nat) : Bool := s.fbit F.CLK_CLRST_BUSY c

/-- A cluster is clearing its scratchpad (R191). -/
def State.clearing (s : State) (c : Nat) : Bool := s.flag (F.CLU_OWNER_CLEARING c)

/-! ### Unit health (R718) and the fault log (R727, R728) -/

/-- Management state M of a unit. -/
def State.healthM (s : State) (u : Nat) : Nat := s.fld ⟨Reg.FLT_MGMT (u / 12), 2 * (u % 12), 2⟩
/-- Data-path state D of a unit. -/
def State.healthD (s : State) (u : Nat) : Nat := s.fld ⟨Reg.FLT_DP (u / 12), 2 * (u % 12), 2⟩
/-- Effective state E of a unit: the more severe of M and D. -/
def State.healthE (s : State) (u : Nat) : Nat := max (s.healthM u) (s.healthD u)
/-- A unit is FENCED (R718). -/
def State.fenced (s : State) (u : Nat) : Bool := s.healthE u == 2
/-- A unit disagrees while M and D differ (R729). -/
def State.disagrees (s : State) (u : Nat) : Bool := s.healthM u != s.healthD u

/-- The tick count of a unit goes back to 0 when M and D agree (R729). -/
def State.settleUnit (s : State) (u : Nat) : State :=
  if s.disagrees u then s else { s with disTicks := tabSet (fun _ => 0) s.disTicks u 0 }

/-- D of a unit set (R720). -/
def State.setHealthD (s : State) (u v : Nat) : State :=
  (s.setFld ⟨Reg.FLT_DP (u / 12), 2 * (u % 12), 2⟩ v).settleUnit u

/-- M of a unit set (R719). -/
def State.setHealthM (s : State) (u v : Nat) : State :=
  (s.setFld ⟨Reg.FLT_MGMT (u / 12), 2 * (u % 12), 2⟩ v).settleUnit u

/-- D of a unit raised to SUSPECT, with DPCHG when it rose (R720, R727; log entry 10). -/
def State.raiseD (s : State) (u : Nat) : State :=
  if s.healthD u = 0 then (s.setHealthD u 1).setFld F.FLT_STATUS_DPCHG 1 else s

/-! ### Messages to the host (R434, R435) -/

/-- The MSI-X entry of a vector. -/
def State.msixOf (s : State) (v : Nat) : MsixEntry := tabGet (fun _ => {}) s.msix v

/-- The bit of HST_VPEND0-2 of a vector. -/
def vpendFld (v : Nat) : Fld :=
  if v < 24 then ⟨Reg.HST_VPEND0, v, 1⟩ else if v < 48 then ⟨Reg.HST_VPEND1, v - 24, 1⟩ else ⟨Reg.HST_VPEND2, v - 48, 1⟩

/-- A vector's event: its message while the link is up and it is unmasked, its pending bit while masked, its
HST_VPEND bit while the link is down (R434, R435). With HST not ON nothing of it stands (R109). -/
def State.sendVec (s : State) (v : Nat) : State :=
  if !s.domOn 5 then s
  else if !s.flag F.HST_LINK_UP then s.setFld (vpendFld v) 1
  else if s.msixEnable && !s.msixMaskAll && !(s.msixOf v).masked then
    { s with messages := s.messages ++ [((s.msixOf v).addrLo + 2 ^ 32 * (s.msixOf v).addrHi, (s.msixOf v).data)] }
  else { s with msixPend := tabSet (fun _ => false) s.msixPend v true }

/-- A device event: its HST_IRQSTAT bit, and its vector when enabled (R434). -/
def State.hostEvent (s : State) (bit : Nat) : State :=
  if !s.domOn 5 then s
  else
    let s1 := s.setFbit ⟨Reg.HST_IRQSTAT, 0, 6⟩ bit true
    if s.fbit F.HST_IRQEN_EN bit then s1.sendVec (s.fld F.HST_IRQVEC_VEC) else s1

/-- An entry of the fault log: kept while fewer than 32 are held, else counted (R728). -/
def State.logEntry (s : State) (code unit detail : Nat) : State :=
  let e : LogEntry := { code := code, unit := unit, detail := detail % 2 ^ 16,
                        sec := if s.flag F.CLK_STATUS_AONOK then s.rtc.sec % 2 ^ 24 else 0,
                        boot := s.fld F.FLT_BOOTCNT_COUNT % 16 }
  let s1 := if s.log.length < 32 then { s with log := s.log ++ [e] } else s.incFld F.FLT_LOGCNT_OVF 1
  (s1.setFld F.FLT_STATUS_LOGANY 1).hostEvent 3

/-- An event of Table FLT-3: its entry, and D of its unit raised where the table says so (R727). -/
def State.fault (s : State) (code unit detail : Nat) (raises : Bool) : State :=
  let s1 := s.logEntry code unit detail
  if raises then s1.raiseD unit else s1

/-! ### Violations and refusals (R46, R59, R60) -/

/-- One violation counted; at a limit that is not 0 lock-out begins (R59, R60). -/
def State.violate (s : State) : State :=
  let s1 := s.incFld F.SEAL_VIOL_COUNT 1
  if s1.fld F.SEAL_VLIMIT_LIMIT ≠ 0 ∧ s1.fld F.SEAL_VLIMIT_LIMIT ≤ s1.fld F.SEAL_VIOL_COUNT
      ∧ s1.fld F.SEAL_CTRL_LOCKOUT = 0 then
    (((s1.setFld F.SEAL_CTRL_LOCKOUT 1).fire 61).fault 0x03 63 0 false).hostEvent 2
  else s1

/-- A refusal at an egress point: a violation, STATUS.EGRESS and its count (R46). -/
def State.refuseEgress (s : State) (f : Fld) : State := (s.violate.setFld F.SEAL_STATUS_EGRESS 1).incFld f 1

/-- The number of an initiator in CLK_ADDRERR1.INIT (Table CLK-10); the table gives the boot loader none. -/
def initNum : Initiator → Option Nat
  | .cc c => some c
  | .sv => some 4
  | .pcie => some 5
  | .spi => some 6
  | .debug => some 7
  | .mover c => some (8 + c)
  | .boot => none

/-- An access recorded in CLK_ADDRERR0-1, or MULTI when a record is held (R95); an initiator to which Table CLK-10
gives no number leaves INIT open. -/
def State.addrErrN (s : State) (n : Option Nat) (a : Nat) (wr : Bool) : State :=
  if s.flag F.CLK_ADDRERR1_VALID then s.setFld F.CLK_ADDRERR1_MULTI 1
  else
    let s1 := ((((s.setFld F.CLK_ADDRERR0_ADDR a).setFld F.CLK_ADDRERR1_ADDRHI (a / 2 ^ 24)).setFld
      F.CLK_ADDRERR1_WR (b2n wr)).setFld F.CLK_ADDRERR1_VALID 1)
    match n with
    | some n => s1.setFld F.CLK_ADDRERR1_INIT n
    | none => (s1.setFld F.CLK_ADDRERR1_INIT (s1.open_ 16)).drawn

/-- An access of an initiator recorded (R95). -/
def State.addrErr (s : State) (ini : Initiator) (a : Nat) (wr : Bool) : State := s.addrErrN (initNum ini) a wr

/-- An access that reached a domain not ON: recorded, and DARK (R114). -/
def State.dark (s : State) (ini : Initiator) (a : Nat) (wr : Bool) : State :=
  (s.addrErr ini a wr).setFld F.PWR_STATUS_DARK 1

/-! ### Memory and rows (R168-R170) -/

/-- What a byte of memory that nothing has written reads as: rows are zero after reset (R37). -/
def memReset : Nat → Byte := fun _ => 0

/-- One byte of memory. -/
def State.byte (s : State) (a : Nat) : Byte := tabGet memReset s.mem a

/-- `n` bytes of memory from an address on. -/
def State.bytes (s : State) (a n : Nat) : List Byte := tabGetList memReset s.mem a n

/-- Bytes stored from an address on. -/
def State.setBytes (s : State) (a : Nat) (bs : List Byte) : State := { s with mem := tabSetList memReset s.mem a bs }

/-- The address of a row's byte 0 (Table CLK-7). -/
def rowAddr (c r : Nat) : Nat := c * 0x200000 + r % 4096 * 0x200

/-- The key of a row in the tag and mark tables. -/
def rowKey (c r : Nat) : Nat := 4096 * c + r % 4096

/-- The seal tag of a row (R36). -/
def State.tag (s : State) (c r : Nat) : Bool := tabGet (fun _ => false) s.tags (rowKey c r)

/-- The fresh mark of a row (R47). -/
def State.mark (s : State) (c r : Nat) : Bool := tabGet (fun _ => false) s.marks (rowKey c r)

/-- The 384 bytes of a row. -/
def State.rowBytes (s : State) (c r : Nat) : List Byte := s.bytes (rowAddr c r) 384

/-- A row's tag set. -/
def State.setTag (s : State) (c r : Nat) (t : Bool) : State :=
  { s with tags := tabSet (fun _ => false) s.tags (rowKey c r) t }

/-- The fresh list of a cluster. -/
def State.freshOf (s : State) (c : Nat) : List Fresh := tabGet (fun _ => []) s.fresh c

/-- The fresh list of a cluster set. -/
def State.setFresh (s : State) (c : Nat) (l : List Fresh) : State := { s with fresh := tabSet (fun _ => []) s.fresh c l }

/-- A row's fresh mark cleared and its entry removed (R48). -/
def State.clearFresh (s : State) (c r : Nat) : State :=
  let s1 := { s with marks := tabSet (fun _ => false) s.marks (rowKey c r) false }
  s1.setFresh c ((s1.freshOf c).filter fun e => e.row != r % 4096)

/-- A fresh mark set and its entry recorded; a full list gives up its oldest entry (R47). -/
def State.setFreshMark (s : State) (c r z : Nat) : State :=
  let s0 := s.clearFresh c r
  let s1 := match s0.freshOf c with
    | e :: rest => if rest.length + 1 < 16 then s0
        else { s0 with marks := tabSet (fun _ => false) s0.marks (rowKey c e.row) false }.setFresh c rest
    | [] => s0
  let s2 := { s1 with marks := tabSet (fun _ => false) s1.marks (rowKey c r) true }
  s2.setFresh c (s2.freshOf c ++ [{ row := r % 4096, zone := z, epoch := (tabGet (fun _ => {}) s2.zones z).epoch }])

/-- A wide write: the row's 384 bytes and its tag; the fresh mark goes (R38, R48, R169). -/
def State.writeWide (s : State) (c r : Nat) (bs : List Byte) (t : Bool) : State :=
  ((s.setBytes (rowAddr c r) (bs.take 384)).setTag c r t).clearFresh c r

/-- A partial write: bytes of a row from byte `off` on; the tag keeps or takes 1; the fresh mark goes (R38, R48). -/
def State.writePart (s : State) (c r off : Nat) (bs : List Byte) (t : Bool) : State :=
  ((s.setBytes (rowAddr c r + off) (bs.take (384 - off))).setTag c r (s.tag c r || t)).clearFresh c r

/-- The fresh list emptied with its marks, and the franked-row ring reset (R71). -/
def State.resetRing (s : State) (c : Nat) : State :=
  ((s.setFresh c []).setFld (F.SEAL_RINGWP_WP c) 0).setFld (F.SEAL_RINGRP_RP c) 0

/-- Every row, tag and mark of a scratchpad back at zero (R174). -/
def State.zeroRows (s : State) (c : Nat) : State :=
  { s with
    mem := tabClear (fun a => decide (c * 0x200000 ≤ a) && decide (a < (c + 1) * 0x200000)) s.mem
    tags := tabClear (fun k => k / 4096 == c) s.tags
    marks := tabClear (fun k => k / 4096 == c) s.marks }

/-- A clearing of SPc (R174): rows, tags and marks zero, fresh list empty, ring reset, SPD_CLRCNT counted. -/
def State.clearScratch (s : State) (c : Nat) : State :=
  ((s.zeroRows c).resetRing c).incFld (F.SPD_CLRCNT_COUNT c) 1

/-! ### Rows as the units of a cluster reach them (R114, R169) -/

/-- SPc is ON. -/
def State.spOn (s : State) (c : Nat) : Bool := s.domOn (domSP c)

/-- A row as a unit reads it: zero with tag 0 while SPc is not ON (R114). -/
def State.unitRow (s : State) (c r : Nat) : List Byte := if s.spOn c then s.rowBytes c r else List.replicate 384 0

/-- The tag a unit reads with a row. -/
def State.unitTag (s : State) (c r : Nat) : Bool := s.spOn c && s.tag c r

/-- An access of a unit to a row of SPc that is not ON (R114). -/
def State.unitDark (s : State) (c r : Nat) (wr : Bool) : State :=
  if s.spOn c then s else (s.addrErrN none (rowAddr c r) wr).setFld F.PWR_STATUS_DARK 1

/-- A wide write of a unit. -/
def State.unitWrite (s : State) (c r : Nat) (bs : List Byte) (t : Bool) : State :=
  if s.spOn c then s.writeWide c r bs t else s.unitDark c r true

/-- The units of cluster c act: its logic is ON, and it is neither in cluster reset nor clearing (R91, R114, R191). -/
def State.unitsAct (s : State) (c : Nat) : Bool := s.domOn (domCL c) && !s.inClReset c && !s.clearing c

/-- The little-endian value of the `w` bytes of lane i. -/
def laneAt (bs : List Byte) (w i : Nat) : Nat := ofBytes ((bs.drop (w * i)).take w)

/-- A row with lanes `i0` to `i0 + vs.length - 1` of `w` bytes replaced. -/
def putLanes (bs : List Byte) (w i0 : Nat) (vs : List Nat) : List Byte :=
  bs.take (w * i0) ++ vs.flatMap (toBytes w) ++ bs.drop (w * (i0 + vs.length))

/-! ### Outcomes -/

/-- The outcome of a command that goes on. -/
abbrev ok (s : State) : Host.Outcome State Fault Refusal := .next s

end Sys2Proof.Machine
end

