-- ==== Sys2Proof/Machine/Access.lean ====
section
/-! DEFINITION. Who reaches what: the address map of Table CLK-7, the domains its ranges lie in, the initiators that
may write each block, and what sealed state leaves a core (Table SEAL-2). -/

namespace Sys2Proof.Machine

open Sys2Proof

/-- A control core of the part: 0-3 CC0-CC3, 4 SV. -/
def State.core (s : State) (k : Nat) : CoreSt := tabGet (fun _ => {}) s.cores k

/-- What a core reads as a CSR that nothing has written (Table CORE-12): the core LFSR starts at 1. -/
def csrReset : Nat → Word := fun i => if i = 0x11 then 1 else 0

/-- The value a CSR of its own holds. -/
def CoreSt.csrOf (c : CoreSt) (i : Nat) : Word := tabGet csrReset c.csr i

/-- A CSR set by the core itself. -/
def CoreSt.setCsr (c : CoreSt) (i : Nat) (v : Word) : CoreSt := { c with csr := tabSet csrReset c.csr i v }

/-- A halt that waits takes effect at an instruction boundary, once every store is accepted and no load waits; in
sealed state the wipe runs first (Table CORE-10, R74, R358, R753). -/
def CoreSt.settle (c : CoreSt) : CoreSt :=
  if c.haltWait && c.stores.isEmpty && c.load.isNone then
    match c.run with
    | .run | .wait =>
      if c.sealedSt then { c with run := .wipe, sealedSt := false } else { c with run := .halt, haltWait := false }
    | .reset | .fault | .halt => { c with haltWait := false }
    | .idle | .wipe => c
  else c

/-- A core's state set. -/
def State.setCore (s : State) (k : Nat) (c : CoreSt) : State := { s with cores := tabSet (fun _ => {}) s.cores k c }

/-- The core an initiator is. -/
def coreOf : Initiator → Option Nat
  | .cc c => some c
  | .sv => some 4
  | _ => none

/-- The initiator is a core in sealed state (R40). -/
def State.sealedIni (s : State) (ini : Initiator) : Bool :=
  match coreOf ini with
  | some k => (s.core k).sealedSt
  | none => false

/-- The initiator is the host, over PCI Express or over the SPI host port. -/
def isHost : Initiator → Bool
  | .pcie | .spi => true
  | _ => false

/-- The cluster whose scratchpad holds the address, if it lies in one (Table CLK-7). -/
def scratchOf (a : Nat) : Option Nat := if a < 0x00800000 then some (a / 0x200000) else none

/-- The core whose local memories the address shows: 0-3 CC0-CC3, 4 SV (Table CLK-7). -/
def localOf (a : Nat) : Option Nat :=
  if 0x03000000 ≤ a ∧ a < 0x03140000 then some ((a - 0x03000000) / 0x40000) else none

/-- The cluster whose CLU, DFA, TAL, MOV or SPD block or schedule memory holds the address. -/
def clusterOf (a : Nat) : Option Nat :=
  if 0x06000000 ≤ a ∧ a < 0x06400000 then some ((a - 0x06000000) / 0x100000) else none

/-- The tile whose TILE or CAL registers hold the address. -/
def tileOf (a : Nat) : Option Nat := if 0x01000000 ≤ a ∧ a < 0x01200000 then some ((a - 0x01000000) / 0x10000) else none

/-- An offset in a cluster's megabyte where Table CLK-7 places a block or the schedule memory; the offsets between, which
the table does not name, are taken as unmapped (R95; log entry 66). -/
def clusterMapped (a : Nat) : Bool := a % 0x100000 < 0x50000 || 0x80000 ≤ a % 0x100000

/-- A range of Table CLK-7 that holds something, and whether the initiator reaches it. -/
def mayReach (ini : Initiator) (a : Nat) : Bool :=
  let blocks := match ini with | .mover _ => false | _ => true
  if a < 0x00800000 then true
  else if a < 0x01000000 then false
  else if a < 0x01200000 then blocks
  else if a < 0x03000000 then false
  else if a < 0x03100000 then
    match ini with
    | .mover _ => false
    | .cc c => decide ((a - 0x03000000) / 0x40000 ≠ c)
    | _ => true
  else if a < 0x03140000 then isHost ini || ini == .debug || ini == .boot
  else if a < 0x04000000 then false
  else if a < 0x04020000 then true
  else if a < 0x05000000 then false
  else if a < 0x05100000 then blocks
  else if a < 0x06000000 then false
  else if a < 0x06400000 then blocks && clusterMapped a
  else if a < 0x06410000 then blocks
  else if a < 0x08000000 then false
  else if a < 0x08040000 then isHost ini
  else if a < 0x10000000 then false
  else if a < 0x100000000 then match ini with | .mover _ => true | _ => false
  else false

/-- Registers of the RND block whose fields Table SPD-6 marks AON (R182): they stand while NET is OFF (log entry 11). -/
def rndAon (a : Nat) : Bool :=
  decide (0x06400100 ≤ a) && decide (a < 0x06400200) && [0x04, 0x08, 0x0C, 0x10, 0x14, 0x18, 0x1C].contains ((a - 0x06400100) % 0x40)

/-- The domain that must be ON for an access to the address (Table PWR-1, R288, R582). -/
def domainOf (a : Nat) : Nat :=
  match scratchOf a, tileOf a, localOf a, clusterOf a with
  | some c, _, _, _ => domSP c
  | _, some t, _, _ => if a % 0x10000 < 0x8000 then domTQ t else 1
  | _, _, some k, _ => if k < 4 then domCL k else 1
  | _, _, _, some c => domCL c
  | none, none, none, none =>
    if a < 0x05000000 then 7
    else if a < 0x05060000 then 0
    else if a < 0x05080000 then 7
    else if a < 0x050A0000 then 3
    else if a < 0x050B0000 then 4
    else if a < 0x050D0000 then 5
    else if a < 0x050E0000 then 6
    else if a < 0x06000000 then 0
    else if a < 0x06410000 then (if rndAon a then 0 else 8)
    else 5

/-- SV, the boot loader. -/
def isSvBoot (i : Initiator) : Bool := i == .sv || i == .boot
/-- A control core of a cluster. -/
def isCc : Initiator → Bool
  | .cc _ => true
  | _ => false

/-- The boot loader stands in HOSTWAIT (7) or HOLD (8) (Table BOOT-1, R158, R159). -/
def State.hostBootOpen (s : State) : Bool := s.fld F.BOOT_STATUS_STAGE == 7 || s.fld F.BOOT_STATUS_STAGE == 8

/-- The initiator may write the register at the address: R82, R110, R190, R232, R246, R247, R289, R381, R440, R489,
R497, R530, R555, R560, R608, R677, R706, R719, R732, R751, and the note above Table BOOT-9. -/
def State.mayWrite (s : State) (ini : Initiator) (a : Nat) : Bool :=
  let svBootDbg := isSvBoot ini || ini == .debug
  let four := svBootDbg || isHost ini
  match tileOf a, clusterOf a with
  | some t, _ =>
    if a % 0x10000 < 0x8000 then svBootDbg || isHost ini || (match ini with | .cc c => decide (t / 8 = c) | _ => false)
    else svBootDbg
  | none, some c =>
    if a % 0x100000 = 4 then isSvBoot ini
    else if 0x20100 ≤ a % 0x100000 ∧ a % 0x100000 < 0x20160 then issuePort ini c ((a % 0x100000 - 0x20100) / 0x20)
    else if 0x30100 ≤ a % 0x100000 ∧ a % 0x100000 < 0x30160 then issuePort ini c ((a % 0x100000 - 0x30100) / 0x20)
    else if 0x10100 ≤ a % 0x100000 ∧ a % 0x100000 < 0x1010C then issuePort ini c ((a % 0x100000 - 0x10100) / 4)
    else true
  | none, none =>
    if a < 0x05000000 then true
    else if a < 0x05010000 then isSvBoot ini
    else if a < 0x05020000 then four
    else if a < 0x05030000 then four || (isCc ini && a == Reg.EVF_SWFIRE)
    else if a < 0x05040000 then true
    else if a < 0x05050000 then
      isHost ini && s.hostBootOpen && (a == Reg.BOOT_HOSTLEN || a == Reg.BOOT_CMD)
    else if a < 0x05060000 then
      isSvBoot ini || !(a == Reg.CLK_CORESEL || a == Reg.CLK_PLLA || a == Reg.CLK_CLRST)
    else if a < 0x05070000 then svBootDbg
    else if a < 0x05080000 then isSvBoot ini || (isCc ini && a != Reg.CIP_LOCKTO)
    else if a < 0x050B0000 then four || isCc ini
    else if a < 0x050D0000 then isSvBoot ini || (isHost ini && a != Reg.QUE_SVDONE)
    else if a < 0x050E0000 then four || (isCc ini && a == Reg.SNS_TRIG)
    else if a < 0x050F0000 then if a = Reg.FLT_WDKICK then isSvBoot ini else svBootDbg
    else if a < 0x05100000 then ini == .debug
    else true
where
  /-- The writer of issue port p of a unit of cluster c (Table TOP-1): 0 CCc, 1 SV, which runs the boot loader (R137), 2 the
  front end. -/
  issuePort (ini : Initiator) (c p : Nat) : Bool :=
    match p with
    | 0 => (match ini with | .cc k => decide ((k : Nat) = c) | _ => false)
    | 1 => isSvBoot ini
    | _ => false

/-- Where a core in sealed state may write beyond its own data memory (Table SEAL-2). -/
def sealedMay (k a : Nat) : Bool :=
  match scratchOf a, tileOf a, clusterOf a with
  | some _, _, _ => true
  | _, some t, _ => a % 0x10000 == 0xC && (k == 4 || t / 8 == k)
  | _, _, some c =>
    let o := a % 0x100000
    let p := if k = 4 then 1 else 0
    (k == 4 || k == c) &&
      ((decide (0x20100 + 0x20 * p ≤ o) && decide (o < 0x20120 + 0x20 * p)) ||
       (decide (0x30100 + 0x20 * p ≤ o) && decide (o < 0x30120 + 0x20 * p)) || o == 0x10100 + 4 * p)
  | none, none, none => false

/-- What becomes of an access before it reaches its register or row. -/
inductive Verdict where
  | pass
  | refused
  | dark
  | discarded
  deriving DecidableEq, Repr

/-- A local-memory window is reached only while its core is halted or in reset (R96). -/
def State.windowOpen (s : State) (k : Nat) : Bool := (s.core k).run == .halt || (s.core k).run == .reset

/-- The part does nothing: a reset is held (R89), it is in Frost (R123), or its scan chains are connected (R757). -/
def State.stopped (s : State) : Bool :=
  s.held.por || s.held.pin || s.held.wdog || s.weather == .frost || s.tap.mode == 1

/-! ### The host's ports (R78, R137, R158, R159, R439) -/

/-- The endpoint answers: HST is ON, its reference clock runs, the link is up, the function is not in D3hot. -/
def State.barOpen (s : State) : Bool :=
  !s.stopped && s.domOn 5 && s.flag F.CLK_STATUS_PCIEREF && s.flag F.HST_LINK_UP && !s.flag F.HST_LINK_D3

/-- The SPI host port answers: HST is ON. -/
def State.spiOpen (s : State) : Bool := !s.stopped && s.domOn 5

/-- An initiator's access reaches the part: that of a host needs its port. -/
def State.portOpen (s : State) (ini : Initiator) : Bool :=
  match ini with
  | .pcie => s.barOpen
  | .spi => s.spiOpen
  | _ => true

/-- Host recovery is allowed (R159). -/
def State.recoveryAllowed (s : State) : Bool := !s.flag F.BOOT_FUSE_HOSTBOOTDIS && s.fld F.BOOT_STATUS_CODE != 1

/-- What the boot loader's state makes of a host access. -/
inductive Gate where
  | live
  | refused
  | dropped
  deriving DecidableEq, Repr

/-- Whether a host port is live for an access: fully after DONE, for staging in HOSTWAIT, for recovery in HOLD; from GO
on, until the next HOSTWAIT or DONE, writes to SP0 and BOOT_HOSTLEN are dropped (log entry 65). -/
def State.hostGate (s : State) (spi : Bool) (a : Nat) (wr : Bool) : Gate :=
  let mine := s.flag F.BOOT_STRAP_HOSTSEL == spi
  let block := decide (0x05040000 ≤ a) && decide (a < 0x05050000)
  let cmd := a / 4 * 4 == Reg.BOOT_CMD
  let stage := a < 0x200000 || a / 4 * 4 == Reg.BOOT_HOSTLEN
  let frozen := s.boot.frozen && mine && wr && stage
  match s.fld F.BOOT_STATUS_STAGE with
  | 6 => .live
  | 7 => if mine && (if wr then cmd || stage else block) then .live else .refused
  | 8 =>
    if frozen then .dropped
    else if mine && s.recoveryAllowed && (if wr then cmd else a / 4 * 4 == Reg.BOOT_STATUS) then .live else .refused
  | _ => if frozen then .dropped else .refused

/-- The gate an initiator's access passes: that of its host port, or none. -/
def State.gate (s : State) (ini : Initiator) (a : Nat) (wr : Bool) : Gate :=
  match ini with
  | .pcie => if s.barOpen then s.hostGate false a wr else .dropped
  | .spi => if s.spiOpen then s.hostGate true a wr else .dropped
  | _ => .live

/-- The verdict on an access of an initiator that stands where it may make one (R91, R95, R96, R114). A write to the
schedule memory of a cluster in cluster reset is discarded with those to its registers (log entry 66). -/
def State.mapVerdict (s : State) (ini : Initiator) (a : Nat) (wr : Bool) : Verdict :=
  if !mayReach ini a then .refused
  else if wr && decide (0x01000000 ≤ a) && !s.mayWrite ini a then .refused
  else if !s.domOn (domainOf a) then .dark
  else if (match localOf a with | some k => !s.windowOpen k | none => false) then .refused
  else if wr && (match clusterOf a with | some c => s.inClReset c | none => false) then .discarded
  else .pass

/-- The verdict on an access (R91, R95, R96, R114, R137, R158, R159, R439). -/
def State.verdict (s : State) (ini : Initiator) (a : Nat) (wr : Bool) : Verdict :=
  match s.gate ini a wr with
  | .live => s.mapVerdict ini a wr
  | .refused => .refused
  | .dropped => .discarded

/-- The egress count of Table SEAL-3 to which a write refused to a core in sealed state also belongs: programming of the
parameter store (R530), and the registers that drive a GPIO ball (R705; log entry 67). -/
def sealedEgress (a : Nat) : Option Fld :=
  if a = Reg.PST_CMD then some F.SEAL_EGRCNT2_PST
  else if a = Reg.SNS_GPIOOE0 ∨ a = Reg.SNS_GPIOOUT0 ∨ a = Reg.SNS_GPIOSET ∨ a = Reg.SNS_GPIOCLR then some F.SEAL_EGRCNT2_GPIO
  else none

/-- The discard of a write made in sealed state (R42); where it is an egress refusal too, both are one violation (R46,
R530). -/
def State.sealedDiscard (s : State) (a : Nat) : State :=
  let s1 := s.violate.setFld F.SEAL_STATUS_SSWRITE 1
  match sealedEgress a with
  | some f => (s1.setFld F.SEAL_STATUS_EGRESS 1).incFld f 1
  | none => s1

/-- A register write by an initiator: discarded in sealed state, refused, dark, or the register's own effect. -/
def State.onWrite (s : State) (ini : Initiator) (sealedW : Bool) (a : Nat) (effect : State → State) : State :=
  if s.stopped then s
  else if sealedW && (match coreOf ini with | some k => !sealedMay k a | none => false) then s.sealedDiscard a
  else match s.verdict ini a true with
    | .pass => effect s
    | .refused => s.addrErr ini a true
    | .dark => s.dark ini a true
    | .discarded => s

/-- A register write as a command of the table: the writer's sealed state is the one it is in. -/
def State.cmdWrite (s : State) (ini : Initiator) (a : Nat) (effect : State → State) : State :=
  s.onWrite ini (s.sealedIni ini) a effect

end Sys2Proof.Machine
end

