-- ==== Sys2Proof/Machine/Clock.lean ====
section
/-! DEFINITION. clk_core and the PLLs, and the clocks that appear and disappear (R78-R85, R105). -/

namespace Sys2Proof.Machine

open Sys2Proof

/-- PLL_A drives clk_core: SRC once the switch is done, else the source from before it (R83). -/
def State.coreOnPll (s : State) : Bool := s.flag F.CLK_CORESEL_SRC != s.flag F.CLK_CORESEL_BUSY

/-- A write of CLK_CORESEL.SRC: a switch is pending while the source asked for is not the one in use (R83). -/
def State.writeCoresel (s : State) (v : Nat) : State :=
  (s.setFld F.CLK_CORESEL_BUSY (b2n ((v % 2 == 1) != s.coreOnPll))).setFld F.CLK_CORESEL_SRC (v % 2)

/-- CLOCK_SWITCH: the pending switch takes effect, to PLL_A only while it is locked (R83). -/
def State.clockSwitch (s : State) : State :=
  if s.flag F.CLK_CORESEL_BUSY ∧ (s.fld F.CLK_CORESEL_SRC = 0 ∨ s.flag F.CLK_PLLA_LOCK) then
    s.setFld F.CLK_CORESEL_BUSY 0
  else s

/-- A PLL_A setting within R80: 8 MHz x FBDIV / POSTDIV up to 500 MHz, the VCO within 800-2,000 MHz. -/
def pllaOk (fb pd : Nat) : Bool :=
  decide (100 ≤ fb) && decide (fb ≤ 250) && decide (2 ≤ pd) && decide (pd ≤ 15) && decide (8 * fb ≤ 500 * pd)

/-- PLL_A is no longer locked; where it drove clk_core, clk_core goes to clk_xo and the loss is reported (R85). -/
def State.pllLost (s : State) : State :=
  let s1 := s.setFld F.CLK_PLLA_LOCK 0
  if s.coreOnPll then
    (((s1.setFld F.CLK_CORESEL_SRC 0).setFld F.CLK_CORESEL_BUSY 0).setFld F.CLK_STATUS_ALOST 1).fault 0x02 63 0 false
  else s1

/-- A write of CLK_PLLA (R80, R84): dividers out of range, or while SRC is 1, are ignored with BADCFG; a new setting
must lock again. Clearing EN while PLL_A drives clk_core is taken as a loss of lock with ALOST and its log entry; a new
divider setting while SRC is 0 and the switch away is pending only drops LOCK (log entry 73). -/
def State.writePlla (s : State) (v : Nat) : State :=
  let fb := bitsOf v 0 8
  let pd := bitsOf v 8 4
  let bad := s.flag F.CLK_CORESEL_SRC || !pllaOk fb pd
  let changed := !bad && (fb != s.fld F.CLK_PLLA_FBDIV || pd != s.fld F.CLK_PLLA_POSTDIV)
  let s1 := if bad then s.setFld F.CLK_STATUS_BADCFG 1
    else (s.setFld F.CLK_PLLA_FBDIV fb).setFld F.CLK_PLLA_POSTDIV pd
  let s2 := s1.setFld F.CLK_PLLA_EN (bitsOf v 12 1)
  if s.flag F.CLK_PLLA_LOCK ∧ bitsOf v 12 1 = 0 then s2.pllLost
  else if changed then s2.setFld F.CLK_PLLA_LOCK 0
  else s2

/-- A tile quad is ON, coming ON or going OFF (R81, R116, R135). -/
def State.quadLit (s : State) : Bool :=
  (List.range 8).any fun q => s.dom (17 + q) == 2 || s.flag (F.PWR_DOM_BUSY (17 + q))

/-- PLL_LOCK: an enabled PLL reports lock (R81, R83). -/
def State.pllLock (s : State) (p : Pll) : State :=
  match p with
  | .a => if s.flag F.CLK_PLLA_EN then s.setFld F.CLK_PLLA_LOCK 1 else s
  | .b => if s.quadLit then s.setFld F.CLK_PLLBC_BLOCK 1 else s
  | .c => if s.dom 4 = 2 ∨ s.flag (F.PWR_DOM_BUSY 4) then s.setFld F.CLK_PLLBC_CLOCK 1 else s

/-! ### Commands -/

/-- CLK_CORESEL_WRITE (R82, R83). -/
def execClkCoreselWrite (ini : Initiator) (v : Word) (s : State) : Host.Outcome State Fault Refusal :=
  ok (s.cmdWrite ini Reg.CLK_CORESEL fun s => s.writeCoresel v.toNat)

/-- CLOCK_SWITCH (R83). -/
def execClockSwitch (s : State) : Host.Outcome State Fault Refusal := ok s.clockSwitch

/-- CLK_PLLA_WRITE (R80, R84). -/
def execClkPllaWrite (ini : Initiator) (v : Word) (s : State) : Host.Outcome State Fault Refusal :=
  ok (s.cmdWrite ini Reg.CLK_PLLA fun s => s.writePlla v.toNat)

/-- PLL_LOCK (R81). -/
def execPllLock (pll : Pll) (s : State) : Host.Outcome State Fault Refusal := ok (s.pllLock pll)

/-- PLL_LOSS: PLL_A loses lock (R85). -/
def execPllLoss (s : State) : Host.Outcome State Fault Refusal :=
  ok (if s.flag F.CLK_PLLA_LOCK then s.pllLost else s)

/-- AON_CRYSTAL_CHANGE: the 32.768 kHz crystal starts or stops (R105). -/
def execAonCrystalChange (on : Bool) (s : State) : Host.Outcome State Fault Refusal :=
  ok (s.setFld F.CLK_STATUS_AONOK (b2n on))

end Sys2Proof.Machine
end

