-- ==== Sys2Proof/Machine/Analogue.lean ====
section
/-! DEFINITION. The analogue side of a tile: the model of its deviations (R290-R294), its cells with their drift,
verify and program pulses (R215, R216, R292), the column sum (R291, R299) and the converter (R213, R214, Table TILE-3).
Log entry 5. -/

namespace Sys2Proof.Machine

open Sys2Proof

/-! ### Rounding and bounds -/

/-- n / d to the nearest integer, ties to the even one (RHE). -/
def rhe (n : Int) (d : Nat) : Int :=
  let q := n / (d : Int)
  let r := n % (d : Int)
  if 2 * r < d then q else if 2 * r > d then q + 1 else if q % 2 = 0 then q else q + 1

/-- The nearest integer, ties to the even one (R213). -/
def rheQ (x : Rat) : Int := rhe x.num x.den

/-- The value held between two bounds. -/
def clampI (lo hi v : Int) : Int := if v < lo then lo else if hi < v then hi else v

/-- The value held between two bounds. -/
def clampQ (lo hi v : Rat) : Rat := max lo (min hi v)

/-- A deviation held between two bounds where R294 is in force, and any other wise. -/
def bounded (force : Bool) (lo hi v : Rat) : Rat := if force then clampQ lo hi v else v

/-- A draw of normal(0, σ) with σ * σ = v (R291). -/
def normalQ (v : Rat) (k : List Nat) : Rat := if v ≤ 0 then 0 else Config.normal v k

/-! ### Trims (R290, R298, R299) -/

/-- The trims of tile t as a load or a sweep settled them. -/
def State.trimSet (s : State) (t : Nat) : TrimSet := tabGet (fun _ => {}) s.trimSets t

/-- The trims of tile t settled anew. -/
def State.setTrimSet (s : State) (t : Nat) (x : TrimSet) : State :=
  { s with trimSets := tabSet (fun _ => {}) s.trimSets t x }

/-- The trim bytes of tile t, by column (R298). -/
def State.trimBytes (s : State) (t : Nat) : List Nat :=
  (List.range 131).flatMap fun k =>
    let v := (s.reg (Reg.CAL_TRIM t k)).toNat
    [bitsOf v 0 8, bitsOf v 8 8, bitsOf v 16 8]

/-- OFS of a trim byte. -/
def trimOfs (b : Nat) : Int := signed 4 b
/-- GN of a trim byte. -/
def trimGn (b : Nat) : Int := signed 4 (b / 16)

/-! ### The noise model (R291, R292, R294, Table CAL-2) -/

/-- The parameters that describe a tile, in µS, weight units, LSB and seconds, and whether the bounds of R294 are in
force. -/
structure Noise where
  force : Bool
  sigp : Rat
  sigr : Rat
  sigc : Rat
  siga : Rat
  nu : Rat
  nusig : Rat
  sigk : Rat
  sigo : Rat
  sigg : Rat
  tau0 : Nat

/-- R294 is in force for tile t: its trims came from a valid card or a sweep, and SV keeps the cadence (R312). -/
def State.inForce (s : State) (t : Nat) : Bool := s.flag (F.CAL_STAT_TRIMOK t) && Config.cadenceKept t s.free

/-- Field n of Table CAL-2 as it is true of tile t: what the card gives is an upper bound where R294 is in force. -/
def State.noiseField (s : State) (t n : Nat) : Nat :=
  match (s.trimSet t).card[n]? with
  | some v => if s.inForce t then min v (Config.noiseParam t n) else Config.noiseParam t n
  | none => Config.noiseParam t n

/-- The parameters of tile t. -/
def State.noise (s : State) (t : Nat) : Noise :=
  let f (n e : Nat) : Rat := (s.noiseField t n : Rat) / 2 ^ e
  { force := s.inForce t, sigp := f 0 10, sigr := f 1 12, sigc := f 2 8, siga := f 3 10, nu := f 4 14, nusig := f 5 14
    sigk := f 7 12, sigo := f 8 10, sigg := f 9 14
    tau0 := match (s.trimSet t).card[11]? with
      | some v => if s.inForce t then max v (Config.noiseParam t 11) else Config.noiseParam t 11
      | none => Config.noiseParam t 11 }

/-- Decades of drift log10(1 + t / tau0), the fraction open; with a TAU0 of 0 the spec states none. -/
def Noise.decades (n : Noise) (t : Rat) (k : List Nat) : Rat :=
  if n.tau0 = 0 then max 0 (Config.decade k)
  else (Nat.log 10 (1 + t / n.tau0).floor.toNat : Rat) + clampQ 0 1 (Config.decade k)

/-! ### Cells (R203, R216, R292) -/

/-- The number of a cell: physical row, column 0-391 (384-391 are B0-B7), side 0 for G+ and 1 for G-. -/
def cellKey (row col side : Nat) : Nat := (392 * row + col) * 2 + side

/-- The column of a cell. -/
def cellCol (key : Nat) : Nat := key / 2 % 392

/-- A cell of a tile. -/
def Tile.cell (x : Tile) (key : Nat) : Cell := tabGet (fun _ => {}) x.cells key

/-- The cell pair's conductance a cell is stuck at, in µS. -/
def stuckAt (t key : Nat) : Rat := if Config.cellStuckHigh t key then 7 else 0

/-- nu of a cell, at least 0 and at most nu + 3 * nusig where R294 is in force (R292). -/
def Noise.cellNu (n : Noise) (t key : Nat) : Rat :=
  max 0 (n.nu + bounded n.force (-n.nu) (3 * n.nusig) (normalQ (n.nusig * n.nusig) [0, t, key]))

/-- The conductance of a cell in µS: what its last pulse left, less the drift since (R292, R293). -/
def Noise.cond (n : Noise) (x : Tile) (t draw key : Nat) : Rat :=
  if Config.cellStuck t key then stuckAt t key
  else
    let e := x.cell key
    max 0 (e.g - n.cellNu t key * e.level * n.decades (max 0 (Config.ageing t key e.pulse draw)) [t, key, draw])

/-- The verify transfer (R215). -/
def vcode (g : Rat) : Nat := (clampI 0 31 (rheQ (4 * g))).toNat

/-- A verify accepts a cell whose target is a level (R215). -/
def accepted (v target : Nat) : Bool := decide (v ≤ 4 * target + 1) && decide (4 * target ≤ v + 1)

/-- Amplitude of a program pulse in mV (Table TILE-4). -/
def pulseMv (isSet : Bool) (k : Nat) : Int := if isSet then 1400 + 40 * k else -(1200 + 40 * k : Int)

/-- The pulses of R216 for one cell, at most `fuel` of them: the polarity of the last and the k of the next. -/
def pulseCell (target : Nat) (name : List Nat) : Nat → Option Bool → Nat → Rat → Rat
  | 0, _, _, g => g
  | fuel + 1, pol, k, g =>
    if accepted (vcode g) target then g
    else
      let p := decide (vcode g < 4 * target)
      let k0 := if pol = some p then k else 0
      pulseCell target name fuel (some p) (min (k0 + 1) 23) (max 0 (Config.pulsed (pulseMv p k0) g (fuel :: name)))

/-- What a row step leaves: the tile, stuck cells of the row, and whether a cell was pulsed. -/
structure RowStep where
  tile : Tile
  stuck : Nat := 0
  pulsed : Bool := false
  deriving DecidableEq, Repr

/-- One cell of a row step: verified, pulsed until it is accepted or 24 iterations are over, and counted stuck when it
is not accepted then (R216). -/
def Noise.program (n : Noise) (t draw : Nat) (r : RowStep) (kt : Nat × Nat) : RowStep :=
  let g0 := n.cond r.tile t draw kt.1
  if accepted (vcode g0) kt.2 then r
  else if Config.cellStuck t kt.1 then { r with stuck := r.stuck + 1, pulsed := true }
  else
    let g := pulseCell kt.2 [t, kt.1, draw] 24 none 0 g0
    { tile := { r.tile with cells := tabSet (fun _ => {}) r.tile.cells kt.1 { level := kt.2, g := g, pulse := draw } }
      stuck := r.stuck + b2n (!accepted (vcode g) kt.2), pulsed := true }

/-- The target a refresh takes from the first verify of a cell (R308). -/
def refreshTarget (v : Nat) : Nat := min ((v + 2) / 4) 7

/-- The verify lies halfway between two levels (R308). -/
def ambiguous (v : Nat) : Bool := v % 4 == 2

/-! ### The column sum and the converter (R213, R214, R291, R299, Table TILE-2) -/

/-- The step l(g), in weight units. -/
def gainLsb (g : Nat) : Nat := 4 ^ g

/-- s and q of R291 over driven physical rows. -/
def Noise.rowSums (n : Noise) (x : Tile) (t draw col : Nat) (rows : List Nat) : Rat × Rat :=
  rows.foldl (fun a r =>
    let p := n.cond x t draw (cellKey r col 0)
    let m := n.cond x t draw (cellKey r col 1)
    (a.1 + (p - m), a.2 + (p + m))) (0, 0)

/-- d_a of a column: its rows' sums, the ungated groups, and trim byte `b` in place of the one its static terms are the
residuals of (R291, R299); `k` names the conversion. -/
def Noise.columnSum (n : Noise) (ts : TrimSet) (t col g ungated b : Nat) (k : List Nat) (sq : Rat × Rat) : Rat :=
  let b0 := ts.ref.getD col 0
  let gam := bounded n.force (-1 / 50) (1 / 50) (normalQ (n.sigg * n.sigg) [1, t, col, ts.seed])
  let off := bounded n.force (-1 / 4) (1 / 4) (normalQ (n.sigo * n.sigo) [2, t, col, ts.seed])
  let kap := normalQ (n.sigk * n.sigk) [3, t, col, ts.seed]
  (1 + gam) * (100 + trimGn b : Int) / (100 + trimGn b0 : Int) * (sq.1 + kap * ungated)
    + gainLsb g * (off + (trimOfs b - trimOfs b0 : Int) / 8 + normalQ (n.siga * n.siga) (4 :: t :: col :: k))
    + normalQ (n.sigc * n.sigc) (5 :: t :: col :: k) + normalQ (n.sigr * n.sigr * sq.2) (6 :: t :: col :: k)

/-- A conversion of an analogue sum: its code, and whether the overrange comparator fired; each decision lies as far from
the ideal one as Table TILE-3 lets it (R213, R214, R243). -/
def Noise.convert (n : Noise) (t col g : Nat) (k : List Nat) (d : Rat) : Int × Bool :=
  let v := d / gainLsb g
  let dev (j : Nat) (b : Rat) : Rat := bounded n.force (-b) b (Config.deviation (j :: t :: col :: k))
  if 31 / 2 + dev 0 (1 / 4) ≤ v then (15, true)
  else if v < -33 / 2 + dev 1 (1 / 4) then (-16, true)
  else (clampI (-16) 15 (rheQ (v + dev 2 (3 / 4))), false)

/-! ### One column of a trim sweep (R300) -/

/-- The trim byte of an OFS and a GN (R298). -/
def trimByte (ofs gn : Int) : Nat := unsigned 4 ofs + 16 * unsigned 4 gn

/-- A vote: at least 5 of 8 conversions meet the condition. -/
def vote (p : Nat → Bool) : Bool := decide (5 ≤ ((List.range 8).filter p).length)

/-- The trims -8 to 7 in ascending order. -/
def trimRange : List Int := (List.range 16).map fun i => (i : Int) - 8

/-- The code of a conversion of the sweep with an injected input and nothing driven. -/
def Noise.sweepCode (n : Noise) (ts : TrimSet) (t col g b draw phase i : Nat) (inject : Rat) : Int :=
  let k := [draw, phase, b, i]
  (n.convert t col g k (n.columnSum ts t col g 0 b k (inject, 0))).1

/-- OFS that the offset phase finds from its votes, if any. -/
def pickOfs (hi lo : Int → Bool) : Option Int :=
  match trimRange.find? hi, trimRange.reverse.find? lo with
  | some th, some tl => some (clampI (-8) 7 ((th + tl + 1) / 2))
  | some th, none => some (clampI (-8) 7 (th - 4))
  | none, some tl => some (clampI (-8) 7 (tl + 4))
  | none, none => none

/-- GN that the gain phase finds from its votes, if any. -/
def pickGn (up : Int → Bool) : Option Int := if up (-8) then none else trimRange.find? up

/-- The new trim byte of a column whose byte is `old`, or none where the column fails. -/
def Noise.sweep (n : Noise) (ts : TrimSet) (t col draw old : Nat) : Option Nat :=
  let code (ofs : Int) (i : Nat) := n.sweepCode ts t col 0 (trimByte ofs (trimGn old)) draw 0 i 0
  match pickOfs (fun o => vote fun i => decide (1 ≤ code o i)) (fun o => vote fun i => decide (code o i ≤ -1)) with
  | none => none
  | some ofs =>
    (pickGn fun gn => vote fun i => n.sweepCode ts t col 3 (trimByte ofs gn) draw 1 i 928 == 15).map (trimByte ofs)

/-! ### A row step cut short (R239, R315) -/

/-- The group of a cell's column: 0-5, or 6 for the barometer group. -/
def cellGroup (key : Nat) : Nat := if 384 ≤ cellCol key then 6 else cellCol key / 64

/-- A cell of the group in progress: it stands at its old level, at its new one or between them. -/
def Noise.cutCell (n : Noise) (x y : Tile) (t draw key : Nat) : Cell :=
  let a := x.cell key
  let b := y.cell key
  let g := n.cond x t draw key
  { level := min a.level b.level + Config.freeNat (draw + key) % (max a.level b.level - min a.level b.level + 1)
    g := g + clampQ 0 1 (Config.deviation [3, t, key, draw]) * (b.g - g), pulse := draw }

/-- The tile when a row step that would turn it into `y` stops in group `h`: the groups before it are done, those after it
untouched. -/
def Noise.cut (n : Noise) (x y : Tile) (t draw h : Nat) (keys : List Nat) : Tile :=
  keys.foldl (fun z key =>
    if x.cell key = y.cell key ∨ h < cellGroup key then z
    else { z with cells := tabSet (fun _ => {}) z.cells key
                    (if cellGroup key < h then y.cell key else n.cutCell x y t draw key) }) x

end Sys2Proof.Machine
end

