-- ==== Sys2Proof/Machine/Front.lean ====
section
/-! DEFINITION. The commands the front end holds and the results their units report to it (R448, R454). -/

namespace Sys2Proof.Machine

open Sys2Proof

/-! ### The descriptor (Table HOST-5, Table HOST-6) -/

/-- The little-endian value of `n` bytes of the descriptor from byte `o` on. -/
def QCmd.num (x : QCmd) (o n : Nat) : Nat := ofBytes ((x.raw.drop o).take n)

/-- The little-endian value of `n` payload bytes from byte `o` on. -/
def QCmd.pay (x : QCmd) (o n : Nat) : Nat := x.num ((if x.qf2 then 16 else 9) + o) n

/-- OPC. -/
def QCmd.opc (x : QCmd) : Nat := bitsOf (x.num 0 1) 0 5
/-- A bit of FLAGS. -/
def QCmd.flagAt (x : QCmd) (i : Nat) : Bool := bitOf (x.num 1 1) i
/-- CTX. -/
def QCmd.ctx (x : QCmd) : Nat := bitsOf (x.num 2 2) 0 12
/-- CL. -/
def QCmd.cl (x : QCmd) : Nat := bitsOf (x.num 2 2) 12 2
/-- TICKET. -/
def QCmd.ticket (x : QCmd) : Nat := x.num 4 2
/-- SIGFENCE. -/
def QCmd.sig (x : QCmd) : Nat := x.num 6 3
/-- WAITFENCE, or the handle of a WAIT. -/
def QCmd.waitOn (x : QCmd) : Nat := if x.opc = 8 then x.pay 0 3 else x.num 9 3

/-- A command with unit work (R446). -/
def QCmd.hasUnit (x : QCmd) : Bool := decide (1 ≤ x.opc) && decide (x.opc ≤ 7)

/-- Rows of a MOVE. -/
def QCmd.moveRows (x : QCmd) : Nat := bitsOf (x.pay 9 3) 0 13

/-- The unit kind of DETAIL (R454): 1 tally, 2 mover, 3 dataflow array, 4 tile long operation. -/
def QCmd.kind (x : QCmd) : Nat :=
  match x.opc with
  | 1 | 2 => 1
  | 3 => 2
  | 4 => 3
  | 5 | 6 | 7 => 4
  | _ => 0

/-- Unit operations the command issues when every one ends DONE (R445): a MOVE is cut into jobs of 256 rows. -/
def QCmd.total (x : QCmd) : Nat :=
  match x.opc with
  | 1 | 4 | 5 | 6 | 7 => 1
  | 2 => x.pay 2 2
  | 3 => if 256 < x.moveRows ∧ x.moveRows ≤ 4096 then (x.moveRows + 255) / 256 else 1
  | _ => 0

/-- Unit operations of one step (Table RUN-4). -/
def QCmd.perStep (x : QCmd) : Nat := if x.opc = 2 then 8 else 1

/-- Row steps or logical rows of one step of a tile long operation (Table RUN-4). -/
def QCmd.stepRows (x : QCmd) : Nat := if x.opc = 7 ∧ bitOf (x.pay 6 1) 0 then 4 else 6

/-- Steps of the command (Table RUN-5): a wipe covers the 768 rows and the 8 spare rows. -/
def QCmd.steps (x : QCmd) : Nat :=
  match x.opc with
  | 2 => (x.total + 7) / 8
  | 3 => x.total
  | 5 => (x.pay 5 2 + 5) / 6
  | 6 => 130
  | 7 => (x.pay 3 2 + x.stepRows - 1) / x.stepRows
  | _ => 1

/-- The command is a long one, of a kind Table RUN-4 lists: it has a progress word (R412). -/
def QCmd.isLong (x : QCmd) : Bool := decide (2 ≤ x.opc ∧ x.opc ≤ 7)

/-! ### Results (Table HOST-8) -/

/-- The code ABORTED of a unit kind. -/
def abortCode : Nat → Nat
  | 1 => 2
  | 2 => 4
  | 3 => 2
  | 4 => 3
  | _ => 0

/-- The fence status of an abort's cause. -/
def causeStatus : Nat → Nat
  | 1 => 6
  | 2 => 5
  | 3 => 4
  | _ => 7

/-- The fence status of a unit's result (Table HOST-8). -/
def unitStatus (kind code cause : Nat) : Nat :=
  if code = (if kind = 4 then 2 else 0) then 1
  else if kind = 2 ∧ code = 3 then 3
  else if code = abortCode kind then causeStatus cause
  else 8

/-- The command ends once nothing it issued is out and nothing more is to be issued (R448). -/
def QCmd.settle (x : QCmd) : QCmd :=
  if x.phase = 2 ∧ x.opc ≠ 8 ∧ x.ids.isEmpty ∧ (x.status ≠ 1 ∨ x.issued = x.total) then { x with phase := 3 } else x

/-- A unit operation has ended: the first result other than DONE gives the command its status (R448). -/
def QCmd.unitEnd (x : QCmd) (id kind code : Nat) (mixed : Bool) : QCmd :=
  if x.ids.contains id then
    let x1 := { x with ids := x.ids.filter (· != id), ended := x.ended + 1, mixed := x.mixed || mixed }
    (if x.status = 1 then { x1 with status := unitStatus kind code x.cause, detail := code + 16 * kind } else x1).settle
  else x

/-- A command in flight: dispatched and not yet complete (R447, R448). -/
def QCmd.flies (x : QCmd) : Bool := x.sent && decide (x.phase < 3)

/-- A command that has completed takes note of the posted writes issued by then (R185). -/
def QCmd.noted (posted : Nat) (x : QCmd) : QCmd :=
  if x.phase = 3 ∧ x.covers = none then { x with covers := some posted } else x

/-- A queue of the front end. -/
def State.queue (s : State) (q : Nat) : Queue := tabGet (fun _ => {}) s.queues q

/-- A queue set. -/
def State.setQueue (s : State) (q : Nat) (x : Queue) : State := { s with queues := tabSet (fun _ => {}) s.queues q x }

/-- Every command the queues hold, changed by `f`. -/
def State.mapCmds (s : State) (f : QCmd → QCmd) : State :=
  { s with queues := s.queues.map fun e => (e.1, { e.2 with cmds := e.2.cmds.map fun x => (f x).noted s.posted }) }

/-- A unit reports an operation of port 2 to the front end (R448). -/
def State.unitDone (s : State) (id kind code : Nat) (mixed : Bool) : State := s.mapCmds (·.unitEnd id kind code mixed)

/-- A command on cluster c is dispatched and not yet completed (R469). -/
def State.frontUses (s : State) (c : Nat) : Bool :=
  s.queues.any fun e => e.2.cmds.any fun x => x.flies && x.hasUnit && x.cl == c

end Sys2Proof.Machine
end

