-- ==== Sys2Proof/Machine/Tile.lean ====
section
/-! DEFINITION. The analogue tiles: cells and weights, passes and converters, long operations and their row steps,
spare rows, barometer checks, trim sweeps and refreshes (07_analogue_tiles.md, 09_calibration_drift.md). -/

namespace Sys2Proof.Machine

open Sys2Proof

/-! ### Access to a tile -/

/-- Tile t. -/
def State.tile (s : State) (t : Nat) : Tile := tabGet (fun _ => {}) s.tiles t

/-- Tile t set. -/
def State.setTile (s : State) (t : Nat) (x : Tile) : State := { s with tiles := tabSet (fun _ => {}) s.tiles t x }

/-- The tally unit of a cluster. -/
def State.tally (s : State) (c : Nat) : Tally := tabGet (fun _ => {}) s.tallies c

/-- The tally unit of a cluster set. -/
def State.setTally (s : State) (c : Nat) (x : Tally) : State := { s with tallies := tabSet (fun _ => {}) s.tallies c x }

/-- Field OPC of a word set (Table TOP-2). -/
def wsOpc (w : WordSet) : Nat := bitsOf w.d0.toNat 0 4
/-- Field TILE of a TOP (Table TOP-4). -/
def wsTile (w : WordSet) : Nat := bitsOf w.d1.toNat 0 3

/-- The entry is a TOP for tile t that is in phase `ph`. -/
def TalEntry.onTile (e : TalEntry) (t : Nat) (ph : TalPhase) : Bool :=
  wsOpc e.ws == 1 && wsTile e.ws == t % 8 && e.phase == ph

/-- Compute operations that wait in tile t. -/
def State.tileWaiting (s : State) (t : Nat) : Nat := ((s.tally (t / 8)).entries.filter (·.onTile t .inTile)).length

/-- A compute operation is in its passes in tile t. -/
def State.tileComputing (s : State) (t : Nat) : Bool := (s.tally (t / 8)).entries.any (·.onTile t .computing)

/-- Compute operations in tile t, 0-2 (R211, TILE_STATE.QDEPTH). -/
def State.tileDepth (s : State) (t : Nat) : Nat := s.tileWaiting t + b2n (s.tileComputing t)

/-- TILE_STATE.STATE (Table TILE-9). -/
def State.tileState (s : State) (t : Nat) : Nat :=
  let x := s.tile t
  if x.check.isSome then 5
  else if s.tileComputing t then 1
  else match x.long with
    | some l => match l.phase with
      | .prescan => 2
      | .step => 3
      | .between => 4
    | none => 0

/-- A tile operation is running or waiting in the tile, or a row step or a pre-scan runs: its quad is not idle (R112). A
TOP that still waits in the tally unit's queue holds no quad (R280). -/
def State.tileBusy (s : State) (t : Nat) : Bool :=
  let x := s.tile t
  x.check.isSome || decide (s.tileDepth t ≠ 0) ||
  (match x.long with | some l => l.phase != .between | none => false)

/-! ### Rows -/

/-- The spare row that holds logical row r, if the map binds one that is not BAD (R208, R218). -/
def Tile.spareOf (x : Tile) (r : Nat) : Option Nat :=
  (List.range 8).find? fun n => let e := tabGet (fun _ => {}) x.spares n; e.valid && !e.bad && e.lrow == r

/-- The physical row that holds logical row r: 768 + n for spare row Sn. -/
def Tile.physRow (x : Tile) (r : Nat) : Nat := match x.spareOf r with | some n => 768 + n | none => r

/-! ### Input planes (R205, R251-R254, Table TOP-5) -/

/-- Planes of an input format. -/
def planeCount : Nat → Nat
  | 0 => 1
  | 1 => 2
  | 2 => 4
  | 3 => 4
  | _ => 8

/-- Bit of plane p of a raw element. -/
def planeBit (fmt p e : Nat) : Bool :=
  if fmt = 1 then bitOf e 0 && (if p = 0 then !bitOf e 1 else bitOf e 1) else bitOf e p

/-- Shift s(p). -/
def planeShift (fmt p : Nat) : Nat := if fmt = 1 then 0 else p

/-- Sign of plane p. -/
def planeSign (fmt p : Nat) : Int :=
  if (fmt = 1 ∧ p = 1) ∨ (fmt = 3 ∧ p = 3) ∨ (fmt = 5 ∧ p = 7) then -1 else 1

/-- The logical rows a plane drives: element i drives row 64 * RBASE + i (R254). -/
def planeRows (fmt p rbase : Nat) (elems : List Nat) : List Nat :=
  (elems.zipIdx.filter fun ei => planeBit fmt p ei.1).map fun ei => 64 * rbase + ei.2

/-- Ungated row groups of a pass (R207, R291). -/
def State.ungated (s : State) (t : Nat) (rows : List Nat) : Nat :=
  if s.flag (F.TILE_PASSCFG_GATEEN t) then ((List.range 12).filter fun g => rows.any fun r => r / 64 == g).length else 12

/-- A conversion of column `col` of tile t over driven logical rows, with the trims its operation started with (R290). -/
def State.convertCol (s : State) (t g draw : Nat) (rows : List Nat) (col : Nat) : Int × Bool :=
  let x := s.tile t
  let n := s.noise t
  n.convert t col g [draw] (n.columnSum (s.trimSet t) t col g (s.ungated t rows) (x.trims.getD col 0) [draw]
    (n.rowSums x t draw col (rows.map x.physRow)))

/-- What one converted plane adds to the columns, and its clips: updated accumulators, clip count, clip groups. -/
def State.onePass (s : State) (t fmt gain p draw : Nat) (rows : List Nat) (st : Tab Int × Nat × Nat) : Tab Int × Nat × Nat :=
  (List.range 384).foldl (fun a col =>
    let r := s.convertCol t gain draw rows col
    let add := planeSign fmt p * r.1 * 2 ^ (planeShift fmt p + 2 * gain)
    let acc := tabSet (fun _ => 0) a.1 col (tabGet (fun _ => 0) a.1 col + add)
    if r.2 then (acc, a.2.1 + 1, a.2.2 ||| 2 ^ (col / 64)) else (acc, a.2.1, a.2.2)) st

/-- The result of the passes of an operation. -/
structure PassResult where
  acc : Tab Int
  clips : Nat
  groups : Nat
  converted : Nat
  skipped : Nat
  deriving DecidableEq, Repr

/-- The planes of an operation in ascending order; an all-zero plane is skipped when SKIPEN is 1 (R205, R206). -/
def State.passes (s : State) (t fmt gain rbase : Nat) (elems : List Nat) : PassResult :=
  (List.range (planeCount fmt)).foldl (fun r p =>
    let rows := planeRows fmt p rbase elems
    if s.flag (F.TILE_PASSCFG_SKIPEN t) && rows.isEmpty then { r with skipped := r.skipped + 1 }
    else
      let q := s.onePass t fmt gain p (s.free + p) rows (r.acc, r.clips, r.groups)
      { r with acc := q.1, clips := q.2.1, groups := q.2.2, converted := r.converted + 1 })
    { acc := [], clips := 0, groups := 0, converted := 0, skipped := 0 }

/-! ### Sealed flag and statuses -/

/-- The status and the producer at the end of a long operation, a check or a sweep (R222). -/
def State.longDone (s : State) (t status : Nat) : State := (s.setFld (F.TILE_LSTAT_STATUS t) status).fire t

/-- A long operation that the front end asked for reports to it (R448). -/
def State.frontTile (s : State) (t status : Nat) : State :=
  match (s.tile t).front with
  | some id => (s.setTile t { s.tile t with front := none }).unitDone id 4 status false
  | none => s

/-- Table TILE-6: the TILE_ERR bit that goes with a status. -/
def State.longErr (s : State) (t status : Nat) : State :=
  if status = 3 then s.setFld (F.TILE_ERR_ABORTED t) 1
  else if status = 4 then (s.setFld (F.TILE_ERR_SEALSRC t) 1).refuseEgress F.SEAL_EGRCNT2_OTHER
  else if status = 5 then s.setFld (F.TILE_ERR_BADWEIGHT t) 1
  else if status = 6 then s.setFld (F.TILE_ERR_NOSPARE t) 1
  else s

/-- The end of a refresh, whatever its status: an ambiguous cell makes the generation invalid (R309). -/
def State.refreshOver (s : State) (t : Nat) : State :=
  let s1 := s.setFld (F.CAL_STAT_RFACT t) 0
  if s1.fld (F.CAL_RFSTAT_AMBIG t) ≠ 0 then s1.setTile t { s1.tile t with genValid := false } else s1

/-- A long operation ends with a status (R221 step 8, R222, R223, R309): generation, error bits, refresh records. -/
def State.endLong (s : State) (t status : Nat) : State :=
  let x := s.tile t
  match x.long with
  | none => s
  | some l =>
    let s1 := s.setTile t { x with
      long := none
      gen := if l.kind = .program ∧ status = 2 then l.gen else x.gen
      genValid := if l.kind = .program ∧ status = 2 then true else x.genValid }
    let s2 := if l.kind = .refresh then
        let s4 := s1.refreshOver t
        let s5 := if status = 2 then s4.setFld (F.CAL_STAT_TRIPCNT t) 0 else s4
        if status = 2 ∧ l.first = 0 ∧ l.count = 768 ∧ l.mask = 0x3F then s5.incFld (F.CAL_STAT_FULLRF t) 1 else s5
      else s1
    let s6 := match l.nospare with
      | some r => if status = 6 then s2.fault 0x06 t r true else s2
      | none => s2
    ((s6.longErr t status).longDone t status).frontTile t status

/-- A command that ends before any row step: status, error bit, producer, nothing else (R221 steps 2-4, R307 step 2). -/
def State.endEarly (s : State) (t status : Nat) : State :=
  let s1 := ((s.setFld (F.TILE_LSTAT_ROWSDONE t) 0).setFld (F.TILE_LSTAT_SPARENEW t) 0).setFld (F.TILE_LSTAT_DUP t) 0
  ((s1.longErr t status).longDone t status).frontTile t status

/-- A request refused because the tile is taken (R234). -/
def State.tileRefuse (s : State) (t : Nat) : State := s.setFld (F.TILE_ERR_BUSY t) 1

/-- A long operation is accepted: LSTAT and TILE_STUCK begin anew. -/
def State.beginLong (s : State) (t : Nat) (l : LongOp) : State :=
  let s1 := ((((s.setFld (F.TILE_LSTAT_STATUS t) 1).setFld (F.TILE_LSTAT_ROWSDONE t) 0).setFld
    (F.TILE_LSTAT_SPARENEW t) 0).setFld (F.TILE_LSTAT_DUP t) 0).setFld (F.TILE_STUCK_COUNT t) 0
  s1.setTile t { s1.tile t with long := some l }

/-- Where a long operation that may step now stands: at its first row step, or behind the compute operations that
are in the tile. -/
def State.stepPhase (s : State) (t : Nat) : LongPhase := if s.tileComputing t then .between else .step

/-! ### Program (R220, R221) -/

/-- Source rows of a program of `count` rows. -/
def srcRows (count : Nat) : Nat := (count + 1) / 2

/-- A byte of a source row as the tile reads it. -/
def State.srcByte (s : State) (c row i : Nat) : Nat := if s.spOn c then (s.byte (rowAddr c row + i)).toNat else 0

/-- The nibble of column j for program row FIRST + i (R220). -/
def State.pgmNibble (s : State) (c src i j : Nat) : Nat :=
  bitsOf (s.srcByte c (src + i / 2) ((i % 2) * 192 + j / 2)) (4 * (j % 2)) 4

/-- Columns of the groups a mask names. -/
def maskCols (mask : Nat) : List Nat := (List.range 384).filter fun j => bitOf mask (j / 64)

/-- A source row of the program is sealed. -/
def State.pgmSealed (s : State) (c src count : Nat) : Bool :=
  (List.range (srcRows count)).any fun k => s.unitTag c (src + k)

/-- A nibble for one of the program rows `rows` is invalid, in whichever column (R221 step 5, R237). -/
def State.pgmBad (s : State) (c src : Nat) (rows : List Nat) : Bool :=
  rows.any fun i => (List.range 384).any fun j => s.pgmNibble c src i j == 8

/-- Program rows that the source row of row i holds (R220). -/
def rowsWith (i count : Nat) : List Nat := (List.range count).filter fun k => k / 2 == i / 2

/-- Reads of n source rows of a scratchpad that is not ON: errors, each read as zero (R114). -/
def State.srcDark (s : State) (c src n : Nat) : State :=
  (List.range n).foldl (fun s k => s.unitDark c (src + k) false) s

/-- TILE_CMD.PGM (R221 steps 1-5, R233, R234). -/
def State.tileProgram (s : State) (t : Nat) (iseal : Bool) : State :=
  let x := s.tile t
  let gen := s.fld (F.TILE_PGMGEN_GEN t)
  let first := s.fld (F.TILE_PGMROWS_FIRST t)
  let count := s.fld (F.TILE_PGMROWS_COUNT t)
  let mask := s.fld (F.TILE_PGMCFG_GRPMASK t)
  let src := s.fld (F.TILE_PGMSRC_SRCROW t)
  match x.long with
  | some l => if l.kind = .program ∧ l.gen = gen then s.setFld (F.TILE_LSTAT_DUP t) 1 else s.tileRefuse t
  | none =>
    if first + count > 768 ∨ count = 0 ∨ mask = 0 ∨ src + srcRows count > 4096 then s.endEarly t 7
    else if x.genValid ∧ gen = x.gen then (s.endEarly t 2).setFld (F.TILE_LSTAT_DUP t) 1
    else if iseal then s.endEarly t 4
    else s.beginLong t { kind := .program, src := src, first := first, count := count, mask := mask,
                         stuckok := s.fld (F.TILE_PGMCFG_STUCKOK t), gen := gen, baro := false, phase := .prescan,
                         idx := 0, baroNext := false, allow := 0, nospare := none, abort := false }

/-- The pre-scan ends (R221 steps 5-7, R241); while the scratchpad is clearing its reads wait (R191). A program whose
sources are open clears the sealed flag (R45). -/
def State.prescanEnd (s : State) (t : Nat) : State :=
  match (s.tile t).long with
  | some l =>
    if l.phase = .prescan ∧ s.clearing (t / 8) = false then
      let s1 := s.srcDark (t / 8) l.src (srcRows l.count)
      let x := s1.tile t
      if s.pgmSealed (t / 8) l.src l.count then (s1.setTile t { x with sealedFlag := true }).endLong t 4
      else if s.pgmBad (t / 8) l.src (List.range l.count) then (s1.setTile t { x with sealedFlag := false }).endLong t 5
      else s1.setTile t { x with genValid := false, sealedFlag := false
                                 long := some { l with phase := s.stepPhase t, allow := s.tileWaiting t } }
    else s
  | none => s

/-- TILE_CMD.WIPE (R223 step 1, R234); its only input is the seal of its issue (R45). -/
def State.tileWipe (s : State) (t : Nat) (iseal : Bool) : State :=
  if (s.tile t).long.isSome then s.tileRefuse t
  else
    let l : LongOp := { kind := .wipe, src := 0, first := 0, count := 776, mask := 0x3F, stuckok := 7, gen := 0,
                        baro := false, phase := s.stepPhase t, idx := 0, baroNext := false,
                        allow := s.tileWaiting t, nospare := none, abort := false }
    let s1 := s.beginLong t l
    s1.setTile t { s1.tile t with gen := 0, genValid := false, sealedFlag := iseal }

/-- TILE_CMD.ABORT (R236, Table TILE-9): at the end of the row step that runs, or at once between steps. -/
def State.tileAbort (s : State) (t : Nat) : State :=
  match (s.tile t).long with
  | some l => if l.phase = .step then s.setTile t { s.tile t with long := some { l with abort := true } } else s.endLong t 3
  | none => s

/-! ### Row steps (R216-R218, R308) -/

/-- The barometer weight of column Bi on logical row r (Table TILE-7). -/
def baroWeight (i r : Nat) : Int :=
  match i with
  | 0 => 1
  | 1 => -1
  | 2 => if r / 64 = 0 then 7 else 0
  | 3 => if r / 64 = 0 then -7 else 0
  | 4 => if r % 2 = 0 then 4 else -4
  | 5 => 0
  | 6 => if r / 64 ≤ 3 then 3 else 0
  | _ => if r / 64 = 11 then 5 else 0

/-- The two cells of a pair with the levels of a signed weight (R203). -/
def pairTargets (row col : Nat) (w : Int) : List (Nat × Nat) := [(cellKey row col 0, w.toNat), (cellKey row col 1, (-w).toNat)]

/-- The row step that comes now is the barometer step of its row (R307). -/
def LongOp.baroStep (l : LongOp) : Bool := l.kind == .refresh && l.baroNext

/-- The physical row of the row step that comes now. -/
def State.stepRow (s : State) (t : Nat) (l : LongOp) : Nat :=
  if l.kind = .wipe then l.idx else (s.tile t).physRow (l.first + l.idx)

/-- The cells of the columns a mask names in a physical row. -/
def maskCells (row mask : Nat) : List Nat := (maskCols mask).flatMap fun j => [cellKey row j 0, cellKey row j 1]

/-- The cells of the row step that comes now with their targets: the nibbles of a program (R217, R220), level 0 of a wipe
(R223), the barometer weights, and what the first verify of a refresh gives (R308, Table TILE-7). -/
def State.stepTargets (s : State) (t : Nat) (l : LongOp) : List (Nat × Nat) :=
  let row := s.stepRow t l
  match l.kind with
  | .program => (maskCols l.mask).flatMap fun j => pairTargets row j (signed 4 (s.pgmNibble (t / 8) l.src l.idx j))
  | .wipe => (maskCells row 0x3F).map fun k => (k, 0)
  | .refresh =>
    if l.baroNext then (List.range 8).flatMap fun i => pairTargets row (384 + i) (baroWeight i (l.first + l.idx))
    else (maskCells row l.mask).map fun k => (k, refreshTarget (vcode ((s.noise t).cond (s.tile t) t s.free k)))

/-- The row step that comes now, run to its end (R216, R217). -/
def State.runStep (s : State) (t : Nat) (l : LongOp) : RowStep :=
  (s.stepTargets t l).foldl ((s.noise t).program t s.free) { tile := s.tile t }

/-- Ambiguous cells of a data row step of a refresh (R308). -/
def State.stepAmbig (s : State) (t : Nat) (l : LongOp) : Nat :=
  ((maskCells (s.stepRow t l) l.mask).filter fun k => ambiguous (vcode ((s.noise t).cond (s.tile t) t s.free k))).length

/-- The source row of a program's row step has become sealed or has taken an invalid nibble: the status that ends the
program (R237). -/
def State.stepRefused (s : State) (t : Nat) (l : LongOp) : Option Nat :=
  if l.kind ≠ .program then none
  else if s.unitTag (t / 8) (l.src + l.idx / 2) then some 4
  else if s.pgmBad (t / 8) l.src (rowsWith l.idx l.count) then some 5
  else none

/-- A row step that runs stops with the supply or a reset: the group in progress, an open one, is left between old and new
(R239, R315, R319). -/
def State.cutStep (s : State) (t : Nat) : State :=
  match (s.tile t).long with
  | some l =>
    if l.phase = .step ∧ s.stepRefused t l = none then
      ({ s.setTile t ((s.noise t).cut (s.tile t) (s.runStep t l).tile t s.free (s.open_ 8) ((s.stepTargets t l).map (·.1))) with
        free := s.free + 1 })
    else s
  | none => s

/-- The lowest spare row no entry of the map uses (R218). -/
def Tile.freeSpare (x : Tile) : Option Nat := (List.range 8).find? fun n => !(tabGet (fun _ => {}) x.spares n).valid

/-- Too many stuck cells in the row that holds logical row r: its spare goes BAD, and the next free spare takes r
(R218). Answers whether a spare was found. -/
def State.retireRow (s : State) (t r : Nat) : State × Bool :=
  let x := s.tile t
  let x1 := match x.spareOf r with
    | some n => { x with spares := tabSet (fun _ => {}) x.spares n { lrow := r, valid := true, bad := true } }
    | none => x
  match x1.freeSpare with
  | some n =>
    let x2 := { x1 with spares := tabSet (fun _ => {}) x1.spares n { lrow := r, valid := true, bad := false } }
    (((s.setTile t x2).incFld (F.TILE_LSTAT_SPARENEW t) 1).fault 0x07 t r false, true)
  | none => (s.setTile t x1, false)

/-- The front end runs the long operation of tile t: through port 2, or through SV (R412, R459). -/
def State.frontDrives (s : State) (t : Nat) (l : LongOp) : Bool :=
  (s.tile t).front.isSome ||
    (l.kind == .refresh && s.flag F.QUE_SVREQ0_VALID && s.fld F.QUE_SVREQ0_TILE == t)

/-- Row steps, or logical rows of a refresh, of one step of Table RUN-4. -/
def LongOp.stepRows (l : LongOp) : Nat := if l.kind = .refresh ∧ l.baro = true then 4 else 6

/-- The operation moves on after a row step: next row, or its end (Table TILE-9, R228, R236). A quad that waits to
leave ON finds the tile in BETWEEN (R238), and so does the end of a step of the front end (R412). -/
def State.longNext (s : State) (t : Nat) (l : LongOp) (rowDone : Bool) : State :=
  let idx := if rowDone then l.idx + 1 else l.idx
  let stepEnd := s.frontDrives t l && (rowDone || l.kind == .program) && s.fld (F.TILE_LSTAT_ROWSDONE t) % l.stepRows == 0
  let l1 : LongOp := { l with idx := idx, allow := s.tileWaiting t, atStep := stepEnd,
                              phase := if s.tileWaiting t = 0 ∧ ¬ s.flag (F.PWR_DOM_PEND (domTQ t)) ∧ stepEnd = false
                                then .step else .between }
  let s1 := s.setTile t { s.tile t with long := some l1 }
  if l.abort then s1.endLong t 3
  else if idx = l.count then s1.endLong t (if l.nospare.isSome then 6 else 2)
  else s1

/-- What a row step on data did: stuck cells against STUCKOK, spare rows, counts (R218). -/
def State.settleRow (s : State) (t r : Nat) (l : LongOp) (stuck : Nat) : State × LongOp × Bool :=
  if stuck > l.stuckok then
    let q := s.retireRow t r
    if q.2 then (q.1, l, false)
    else (q.1, { l with nospare := some (l.nospare.getD r) }, true)
  else (s.incFld (F.TILE_STUCK_COUNT t) stuck, l, true)

/-- A row step runs, or starts from BETWEEN because no compute operation is owed before it (Table TILE-9). -/
def State.stepRuns (s : State) (t : Nat) (l : LongOp) : Bool :=
  match l.phase with
  | .prescan => false
  | .step => true
  | .between => !s.tileComputing t && (l.allow == 0 || s.tileWaiting t == 0)

/-- The row step has run: the tile as it leaves it, and the records of a refresh (R217, R223, R308). -/
def State.stepDone (s : State) (t : Nat) (l : LongOp) : State × RowStep :=
  let q := s.runStep t l
  let s1 := (s.setTile t q.tile).drawn
  let s2 := if l.kind = .program then s1.srcDark (t / 8) (l.src + l.idx / 2) 1 else s1
  let s3 := if l.kind = .refresh then s2.incFld (F.CAL_RFSTAT_PULSED t) (b2n q.pulsed) else s2
  (if l.kind = .refresh ∧ l.baroNext = false then s3.incFld (F.CAL_RFSTAT_AMBIG t) (s.stepAmbig t l) else s3, q)

/-- A row step ends (R217, R218, R223, R237, R308); the read of a source row waits while the scratchpad is clearing
(R191). -/
def State.rowStepEnd (s : State) (t : Nat) : State :=
  match (s.tile t).long with
  | none => s
  | some l =>
    if !s.stepRuns t l || (l.kind == .program && s.clearing (t / 8)) then s
    else match s.stepRefused t l with
    | some status => s.endLong t status
    | none =>
      let q := s.stepDone t l
      match l.kind with
      | .wipe => ((q.1.incFld (F.TILE_STUCK_COUNT t) q.2.stuck).incFld (F.TILE_LSTAT_ROWSDONE t) 1).longNext t l true
      | .program =>
        let z := (q.1.incFld (F.TILE_LSTAT_ROWSDONE t) 1).settleRow t (l.first + l.idx) l q.2.stuck
        z.1.longNext t z.2.1 z.2.2
      | .refresh =>
        if l.baroNext then
          ((q.1.incFld (F.TILE_STUCK_COUNT t) q.2.stuck).incFld (F.TILE_LSTAT_ROWSDONE t) 1).longNext t
            { l with baroNext := l.mask == 0 } true
        else
          let z := q.1.settleRow t (l.first + l.idx) l q.2.stuck
          if z.2.2 && !l.baro then (z.1.incFld (F.TILE_LSTAT_ROWSDONE t) 1).longNext t z.2.1 true
          else z.1.longNext t { z.2.1 with baroNext := z.2.2 && l.baro } false

/-! ### Barometer checks (R225, R302-R303), trim sweeps (R300, R301) -/

/-- The accumulators and the clip record zeroed (R212). -/
def State.zeroAcc (s : State) (t : Nat) : State :=
  let s1 := (s.setFld (F.TILE_CLIP_COUNT t) 0).setFld (F.TILE_CLIP_GRP t) 0
  s1.setTile t { s1.tile t with acc := [] }

/-- TILE_CMD.BCHK, EVT_TILE_BCHK or ONCHK (R225, R234, R306). -/
def State.tileCheck (s : State) (t : Nat) (iseal : Bool) : State :=
  if s.tileState t ≠ 0 ∨ s.tileDepth t ≠ 0 then s.tileRefuse t
  else
    let s1 := s.zeroAcc t
    s1.setTile t { s1.tile t with
      sealedFlag := iseal
      trims := s.trimBytes t
      check := some { trim := false, sealedIn := iseal, bexp0 := s.fld (F.CAL_BEXP0_B0_B3 t), bexp1 := s.fld (F.CAL_BEXP1_B4_B7 t) } }

/-- The code and clip of barometer column Bi in a check (R225). -/
def State.baroCode (s : State) (t i : Nat) : Int × Bool :=
  s.convertCol t (s.fld (F.TILE_BCHK_GAIN t)) s.free
    ((List.range 768).filter fun r => s.fbit (F.TILE_BCHK_GROUPS t) (r / 64)) (384 + i)

/-- Six bits of a barometer result: code and clip (Table TILE-10). -/
def baroBits (r : Int × Bool) : Nat := unsigned 5 r.1 + 32 * b2n r.2

/-- Deviations of the enabled columns: column, |dev|, clip (R302). -/
def baroDevs (bexp0 bexp1 : Nat) (codes : List (Int × Bool)) : List (Nat × Nat × Bool) :=
  codes.zipIdx.filterMap fun ci =>
    let e := if ci.2 < 4 then bitsOf bexp0 (6 * ci.2) 6 else bitsOf bexp1 (6 * (ci.2 - 4)) 6
    if bitOf e 5 then some (ci.2, (ci.1.1 - signed 5 e).natAbs, ci.1.2) else none

/-- The comparison of a check without issue seal (R302, R303). -/
def State.compareCheck (s : State) (t : Nat) (k : Check) (codes : List (Int × Bool)) : State :=
  let devs := baroDevs k.bexp0 k.bexp1 codes
  let worst := devs.foldl (fun a d => if d.2.1 > a.2 then (d.1, d.2.1) else a) (0, 0)
  let clip := devs.any (·.2.2)
  let s1 := (((s.setFld (F.CAL_LASTDEV_MAXDEV t) worst.2).setFld (F.CAL_LASTDEV_COL t) worst.1).setFld
    (F.CAL_LASTDEV_CLIP t) (b2n clip)).setFld (F.CAL_CHKCNT_COUNT t) (s.fld (F.CAL_CHKCNT_COUNT t) + 1)
  let s2 := if devs.any fun d => decide (s1.fld (F.CAL_THR_WARN t) ≤ d.2.1) then s1.setFld (F.CAL_STAT_WARN t) 1 else s1
  let trips := clip || devs.any fun d => decide (s1.fld (F.CAL_THR_TRIP t) ≤ d.2.1)
  if !trips then s2.setFld (F.CAL_STAT_TRIPCNT t) 0
  else if s2.fld (F.CAL_THR_TRIPN t) = 0 then s2
  else if s2.fld (F.CAL_STAT_TRIPCNT t) + 1 < s2.fld (F.CAL_THR_TRIPN t) then s2.incFld (F.CAL_STAT_TRIPCNT t) 1
  else
    let s3 := (s2.setFld (F.CAL_STAT_TRIP t) 1).setFld (F.CAL_STAT_TRIPCNT t) 0
    (s3.fault 0x04 t (bitsOf (s3.reg (Reg.CAL_LASTDEV t)).toNat 0 9) true).fire (44 + t / 8)

/-- A barometer check ends (R225, R302, R222). -/
def State.checkEnd (s : State) (t : Nat) : State :=
  match (s.tile t).check with
  | some k =>
    if k.trim then s
    else
      let codes := (List.range 8).map (s.baroCode t)
      let pack (l : List (Int × Bool)) : Nat := (l.zipIdx.map fun c => baroBits c.1 * 64 ^ c.2).sum
      let s1 := ((s.setFld (F.TILE_BRES0_B0_B3 t) (pack (codes.take 4))).setFld (F.TILE_BRES1_B4_B7 t)
        (pack (codes.drop 4))).incFld (F.TILE_CLIP_COUNT t) (codes.filter (·.2)).length
      let s2 := (s1.setTile t { s1.tile t with check := none }).drawn
      let s3 := if k.sealedIn then s2 else s2.compareCheck t k codes
      s3.longDone t 2
  | none => s

/-- CAL_CMD.TRIM (R289, R300, R318, R321). -/
def State.trimSweep (s : State) (t : Nat) : State :=
  if !s.domOn (domTQ t) then s.setFld (F.CAL_STAT_DARK t) 1
  else if s.tileState t ≠ 0 ∨ s.tileDepth t ≠ 0 then s.tileRefuse t
  else
    let s1 := (s.zeroAcc t).setFld (F.CAL_SWEEP_FAIL t) 0
    s1.setTile t { s1.tile t with trims := s.trimBytes t, check := some { trim := true, sealedIn := false, bexp0 := 0, bexp1 := 0 } }

/-- The trim byte field of column j (R298). -/
def trimFld (t j : Nat) : Fld := ⟨Reg.CAL_TRIM t (j / 3), 8 * (j % 3), 8⟩

/-- One column of a sweep: its new byte, or one more failure (R300). -/
def State.sweepColumn (s : State) (t : Nat) (a : State) (j : Nat) : State :=
  match (s.noise t).sweep (s.trimSet t) t j s.free ((s.tile t).trims.getD j 0) with
  | some b => a.setFld (trimFld t j) b
  | none => a.incFld (F.CAL_SWEEP_FAIL t) 1

/-- A trim sweep ends (R301); the static terms are drawn anew (R291). -/
def State.sweepEnd (s : State) (t : Nat) : State :=
  match (s.tile t).check with
  | some k =>
    if k.trim then
      let s1 := (List.range 392).foldl (s.sweepColumn t) s
      let s2 := (s1.setTile t { s1.tile t with check := none }).setTrimSet t
        { s.trimSet t with seed := s.free + 1, ref := s1.trimBytes t }
      (s2.drawn.setFld (F.CAL_STAT_TRIMOK t) 1).longDone t 2
    else s
  | none => s

/-! ### Refresh (R307, R310) -/

/-- The pairing of tile t is in force (R310). -/
def State.pairOk (s : State) (t : Nat) : Bool :=
  let p := s.fld (F.CAL_PAIR_PARTNER t)
  s.flag (F.CAL_PAIR_EN t) && s.flag (F.CAL_PAIR_EN p) && s.fld (F.CAL_PAIR_PARTNER p) == t &&
  s.fld (F.CAL_PAIR_ROLE t) != s.fld (F.CAL_PAIR_ROLE p) && p != t

/-- CAL_CMD.RFSH (R289, R307). -/
def State.tileRefresh (s : State) (t : Nat) : State :=
  let first := s.fld (F.CAL_RFROWS_FIRST t)
  let count := s.fld (F.CAL_RFROWS_COUNT t)
  let mask := s.fld (F.CAL_RFCFG_GRPMASK t)
  let baro := s.flag (F.CAL_RFCFG_BARO t)
  if !s.domOn (domTQ t) then s.setFld (F.CAL_STAT_DARK t) 1
  else if (s.tile t).long.isSome then s.tileRefuse t
  else if first + count > 768 ∨ count = 0 ∨ (mask = 0 ∧ !baro) then (s.endEarly t 7).refreshOver t
  else if s.pairOk t && (s.tile (s.fld (F.CAL_PAIR_PARTNER t))).long.isSome then s.setFld (F.CAL_STAT_PAIRBUSY t) 1
  else
    let s1 := ((s.setFld (F.CAL_RFSTAT_AMBIG t) 0).setFld (F.CAL_RFSTAT_PULSED t) 0).setFld (F.CAL_STAT_RFACT t) 1
    s1.beginLong t { kind := .refresh, src := 0, first := first, count := count, mask := mask,
                     stuckok := s.fld (F.TILE_PGMCFG_STUCKOK t), gen := 0, baro := baro, phase := s.stepPhase t, idx := 0,
                     baroNext := mask == 0, allow := s.tileWaiting t, nospare := none, abort := false }

/-! ### Commands -/

/-- TILE_PROGRAM: a write of TILE_CMD.PGM (R221). -/
def execTileProgram (ini : Initiator) (t : Fin 32) (s : State) : Host.Outcome State Fault Refusal :=
  ok (s.cmdWrite ini (Reg.TILE_CMD t) fun s => s.tileProgram t (s.sealedIni ini))

/-- PRESCAN_END (R221). -/
def execPrescanEnd (t : Fin 32) (s : State) : Host.Outcome State Fault Refusal := ok (s.prescanEnd t)

/-- TILE_WIPE: a write of TILE_CMD.WIPE (R223). -/
def execTileWipe (ini : Initiator) (t : Fin 32) (s : State) : Host.Outcome State Fault Refusal :=
  ok (s.cmdWrite ini (Reg.TILE_CMD t) fun s => s.tileWipe t (s.sealedIni ini))

/-- BAROMETER_CHECK: a write of TILE_CMD.BCHK (R225). -/
def execBarometerCheck (ini : Initiator) (t : Fin 32) (s : State) : Host.Outcome State Fault Refusal :=
  ok (s.cmdWrite ini (Reg.TILE_CMD t) fun s => s.tileCheck t (s.sealedIni ini))

/-- BAROMETER_CHECK_END (R302). -/
def execBarometerCheckEnd (t : Fin 32) (s : State) : Host.Outcome State Fault Refusal := ok (s.checkEnd t)

/-- TILE_ABORT: a write of TILE_CMD.ABORT (R236). -/
def execTileAbort (ini : Initiator) (t : Fin 32) (s : State) : Host.Outcome State Fault Refusal :=
  ok (s.cmdWrite ini (Reg.TILE_CMD t) fun s => s.tileAbort t)

/-- TRIM_SWEEP: a write of CAL_CMD.TRIM (R300). -/
def execTrimSweep (ini : Initiator) (t : Fin 32) (s : State) : Host.Outcome State Fault Refusal :=
  ok (s.cmdWrite ini (Reg.CAL_CMD t) fun s => s.trimSweep t)

/-- TRIM_SWEEP_END (R301). -/
def execTrimSweepEnd (t : Fin 32) (s : State) : Host.Outcome State Fault Refusal := ok (s.sweepEnd t)

/-- TILE_REFRESH: a write of CAL_CMD.RFSH (R307). -/
def execTileRefresh (ini : Initiator) (t : Fin 32) (s : State) : Host.Outcome State Fault Refusal :=
  ok (s.cmdWrite ini (Reg.CAL_CMD t) fun s => s.tileRefresh t)

end Sys2Proof.Machine
end

