-- ==== Sys2Proof/Machine/Operands.lean ====
section
/-! DEFINITION. The arithmetic that operands of the tally unit, the dataflow arrays and the cores share: the LFSR of
R262, the rounding of R260 and R333, fitting to a range. -/

namespace Sys2Proof.Machine

open Sys2Proof

/-- One advance of a 24-bit Fibonacci LFSR with the polynomial x^24 + x^23 + x^22 + x^17 + 1 (R262). -/
def lfsrNext (x : Nat) : Nat :=
  if Config.lfsrShiftsUp then
    (2 * x + (bitsOf x 23 1 + bitsOf x 22 1 + bitsOf x 21 1 + bitsOf x 16 1) % 2) % 2 ^ 24
  else x / 2 + (bitsOf x 0 1 + bitsOf x 1 1 + bitsOf x 2 1 + bitsOf x 7 1) % 2 * 2 ^ 23

/-- What a write of an LFSR's state register loads: 0 loads 1 (R262, R333, R368). -/
def lfsrLoad (v : Nat) : Nat := if v % 2 ^ 24 = 0 then 1 else v % 2 ^ 24

/-- round(v, sh, rm) with the LFSR before and after (R260, R333): rm 0 TRN, 1 RHU, 2 RHE, 3 RST. -/
def roundSh (v : Int) (sh rm lfsr : Nat) : Int × Nat :=
  if sh = 0 then (v, lfsr)
  else match rm with
  | 0 => (v / (2 : Int) ^ sh, lfsr)
  | 1 => ((v + (2 : Int) ^ (sh - 1)) / (2 : Int) ^ sh, lfsr)
  | 2 => (rhe v (2 ^ sh), lfsr)
  | _ =>
    let r := if sh ≤ 24 then lfsr % 2 ^ sh else lfsr * 2 ^ (sh - 24)
    ((v + (r : Int)) / (2 : Int) ^ sh, lfsrNext lfsr)

/-- fit(q, lo, hi, width, sat) of R333: the word, and whether the value was clamped. -/
def fit (q lo hi : Int) (w : Nat) (sat : Bool) : Nat × Bool :=
  if sat && (decide (q < lo) || decide (hi < q)) then (unsigned w (clampI lo hi q), true) else (unsigned w q, false)

/-! ### Cyclic redundancy checks -/

/-- One bit of a reflected CRC with polynomial `p`. -/
def crcBitR (p x : Nat) : Nat := if x % 2 = 1 then x / 2 ^^^ p else x / 2

/-- One bit of a CRC of `w` bits that shifts up, with polynomial `p`. -/
def crcBitU (w p x : Nat) : Nat := if bitOf x (w - 1) then (2 * x % 2 ^ w) ^^^ p else 2 * x % 2 ^ w

/-- A step repeated. -/
def iter {α : Type} (f : α → α) : Nat → α → α
  | 0, x => x
  | n + 1, x => iter f n (f x)

/-- CRC-32: polynomial 0x04C1_1DB7, reflected, initial value and final XOR 0xFFFF_FFFF (Table PST-2). -/
def crc32 (bs : List Byte) : Nat :=
  bs.foldl (fun x b => iter (crcBitR 0xEDB88320) 8 (x ^^^ b.toNat)) 0xFFFFFFFF ^^^ 0xFFFFFFFF

/-- CRC-16: polynomial 0x1021, initial value 0xFFFF, no reflection (Table PST-2). -/
def crc16 (bs : List Byte) : Nat := bs.foldl (fun x b => iter (crcBitU 16 0x1021) 8 (x ^^^ (b.toNat * 256))) 0xFFFF

end Sys2Proof.Machine
end

