-- ==== Sys2Proof/Machine/PowerReq.lean ====
section
/-! DEFINITION. Requests for domain states: dependencies, the Breeze limits, pending transitions (R107, R111, R119,
R126-R129). The transitions themselves stand in Machine/Power.lean. -/

namespace Sys2Proof.Machine

open Sys2Proof

/-- Number of domains (Table PWR-1). -/
def domains : Nat := 26

/-- The domains a domain needs ON, beside AON (Table PWR-2). -/
def needs (d : Nat) : List Nat :=
  if d = 2 then [3]
  else if 3 ≤ d ∧ d ≤ 12 then [1]
  else if 17 ≤ d ∧ d ≤ 24 then [9 + (d - 17) / 2, 25]
  else []

/-- A domain with every domain it needs, and what those need (R111). -/
def withNeeds (d : Nat) : List Nat := d :: (needs d ++ (needs d).flatMap needs)

/-- The domains that need a domain. -/
def dependents (d : Nat) : List Nat := (List.range domains).filter fun e => (needs e).contains d

/-- A transition of a domain runs. -/
def State.domBusy (s : State) (d : Nat) : Bool := s.flag (F.PWR_DOM_BUSY d)

/-- The state a domain's running transition ends in. -/
def State.domTarget (s : State) (d : Nat) : Nat := tabGet (fun _ => 2) s.target d

/-- The requested state of a domain. -/
def State.domReq (s : State) (d : Nat) : Nat := s.fld (F.PWR_DOM_REQ d)

/-- A domain belongs to the lit set: ON, coming ON, or requested ON (R119). -/
def State.lit (s : State) (d : Nat) : Bool :=
  s.dom d == 2 || s.domReq d == 2 || (s.domBusy d && s.domTarget d == 2)

/-- A set of domains lies outside the Breeze limits (R119): over one cluster, over one quad, or any of NET, HST, WIR. -/
def outsideBreeze (l : Nat → Bool) : Bool :=
  decide (1 < ((List.range 4).filter fun c => l (9 + c)).length) ||
  decide (1 < ((List.range 8).filter fun q => l (17 + q)).length) || l 8 || l 5 || l 4

/-- The boot loader has not reached DONE: its own requests are outside the Breeze limits (R119, R153). -/
def State.booting (s : State) : Bool := !s.flag F.BOOT_STATUS_DONE

/-- A domain has to move to reach a state; OFF holds nothing that RET could keep (log entry 18). -/
def State.mustMove (s : State) (d v : Nat) : Bool := s.dom d != v && !(s.dom d == 0 && v == 1)

/-- The place of a request in the order of arrivals (R117): one that asks again for the same keeps its place. -/
def State.queueReq (s : State) (d v : Nat) (go : Bool) : List Nat :=
  if !go then s.waiting.filter (· != d)
  else if s.waiting.contains d && s.domReq d == v then s.waiting
  else s.waiting.filter (· != d) ++ [d]

/-- A request recorded: pending until its transition starts, or no longer pending when the domain stands there (R112,
R129). A transition in progress completes first, and the request keeps the place of its arrival (R117, R127, R128). -/
def State.setReq (s : State) (d v : Nat) : State :=
  let s1 := s.setFld (F.PWR_DOM_REQ d) v
  if s.domBusy d then { s1 with waiting := s.queueReq d v (s.domTarget d != v) }
  else { s1.setFld (F.PWR_DOM_PEND d) (b2n (s.mustMove d v)) with waiting := s.queueReq d v (s.mustMove d v) }

/-- A request for ON for several domains, whole or refused whole (R111, R119); answers whether it was accepted. -/
def State.requestOn (s : State) (ds : List Nat) (exempt : Bool) : State × Bool :=
  let full := ((List.range domains).filter fun d => d != 0 && (ds.flatMap withNeeds).contains d)
  if !exempt && s.fld F.PWR_CTRL_MODE == 0 && outsideBreeze (fun d => s.lit d || full.contains d) then
    (s.setFld F.PWR_STATUS_DENIED 1, false)
  else (full.foldl (fun s d => s.setReq d 2) s, true)

/-- A domain that needs another is not OFF, and is not sent OFF by the same request: a sleep map or a Calm entry that
names both lets both leave, the one it needs last (R111, R121; log entry 55). -/
def State.holdsUp (s : State) (going : List (Nat × Nat)) (e : Nat) : Bool :=
  (s.dom e != 0 || s.domBusy e) && !going.contains (e, 0)

/-- A request for RET (1) or OFF (0) for several domains, each taken or refused by itself (R107, R108, R111). -/
def State.requestLeave (s : State) (going : List (Nat × Nat)) : State :=
  going.foldl (fun t g =>
    if g.1 = 0 then t
    else if (g.2 = 1 ∧ domTakesRet g.1 = false) ∨ (g.1 = 1 ∧ g.2 = 0) then t.setFld F.PWR_STATUS_DENIED 1
    else if (dependents g.1).any (s.holdsUp going) then t.setFld F.PWR_STATUS_DEPEND 1
    else t.setReq g.1 g.2) s

end Sys2Proof.Machine
end

