-- ==== Sys2Proof/Machine/Sensors.lean ====
section
/-! DEFINITION. The sensor ports, comparators, frame-epoch producers and GPIO balls (20_sensor_ports.md). -/

namespace Sys2Proof.Machine

open Sys2Proof

/-! ### Ports -/

/-- A capture port. -/
def State.port (s : State) (n : Nat) : SnsPort := tabGet (fun _ => {}) s.sns.ports n

/-- A capture port set. -/
def State.setPort (s : State) (n : Nat) (p : SnsPort) : State :=
  { s with sns := { s.sns with ports := tabSet (fun _ => {}) s.sns.ports n p } }

/-- Port n is sealed (R691). -/
def State.portSealed (s : State) (n : Nat) : Bool := n == 6 || s.fbit F.SNS_CLASS_CLASS n

/-- A PDM or PIR port. -/
def sampled (n : Nat) : Bool := decide (6 ≤ n)

/-- Port n runs free (FREE is ignored on I²C and SPI ports). -/
def State.portFree (s : State) (n : Nat) : Bool := sampled n && s.flag (F.SNS_PCFG_FREE n) && s.flag (F.SNS_PCFG_EN n)

/-- Port n is busy (R693): from its trigger to the end of its producers. -/
def State.portBusy (s : State) (n : Nat) : Bool := (s.port n).phase != 0 || (s.port n).flush.isSome

/-- SNS is idle (R707). -/
def State.snsIdle (s : State) : Bool := !(List.range 11).any fun n => s.portBusy n || s.portFree n

/-- LEN of a port. -/
def State.portLen (s : State) (n : Nat) : Nat := s.fld (F.SNS_PLEN_LEN n)

/-- The domains a port woke go back to the states they held (R695). -/
def State.portReturn (s : State) (n : Nat) : State :=
  let w := (s.port n).woke
  let s1 := s.setPort n { s.port n with woke := [] }
  if s.flag (F.SNS_PCFG_RESTORE n) then s1.requestLeave (w.filter fun e => e.2 != 2) else s1

/-- A frame ends with an error: no producer, an empty staging buffer, ERR, STATUS and ERRCNT (R696). A frame lost in its
flush leaves a free-running port to the frame it captures meanwhile, whose staged bytes are gone (log entry 90). -/
def State.portError (s : State) (n code : Nat) : State :=
  let p := s.port n
  let s1 := s.setPort n { p with phase := if code = 4 then p.phase else 0, script := [], staged := [], flush := none }
  (((s1.setFbit F.SNS_ERR_ERR n true).setFld (F.SNS_PSTAT_STATUS n) code).incFld (F.SNS_PSTAT_ERRCNT n) 1).portReturn n

/-- RDLEN x NREAD equals LEN on a bus port (R698, R699). -/
def State.portCfgOk (s : State) (n : Nat) : Bool :=
  sampled n || s.fld (F.SNS_PBUS2_RDLEN n) * (s.fld (F.SNS_PBUS2_NREAD n) + 1) == s.portLen n

/-- A frame begins (R693); one whose bytes do not fit its script is refused with BADCFG (R698). -/
def State.portStart (s : State) (n : Nat) : State :=
  if !s.flag (F.SNS_PCFG_EN n) then s
  else if s.portCfgOk n then s.setPort n { s.port n with phase := 1, staged := [] }
  else (s.setFld F.SNS_ERR_BADCFG 1).portError n 5

/-- A trigger by register write: ignored with OVR while the port is busy (R693). -/
def State.trigger (s : State) (n : Nat) : State :=
  if s.portBusy n then s.setFbit F.SNS_OVR_OVR n true else s.portStart n

/-- A write of SNS_TRIG. -/
def State.writeTrig (s : State) (v : Nat) : State :=
  (List.range 11).foldl (fun s n => if bitOf v n then s.trigger n else s) s

/-- The two bytes of each 16-bit element exchanged. -/
def swapPairs : List Byte → List Byte
  | a :: b :: t => b :: a :: swapPairs t
  | t => t

/-- The domains a flush needs (R695), with the states they hold when they are not ON. -/
def State.flushNeeds (s : State) (n : Nat) : List Nat :=
  [1, domSP (s.fld (F.SNS_PDST_CLUSTER n))].filter fun d => !s.domOn d

/-- Capture is over with the frame's bytes staged: the flush begins, its domains are asked for, and a free-running
port goes on to its next frame (R693-R695). -/
def State.portStaged (s : State) (n : Nat) (bs : List Byte) : State :=
  let fr := if s.flag (F.SNS_PCFG_BSWAP n) then swapPairs bs else bs
  let s1 := s.setPort n { s.port n with phase := if s.portFree n then 1 else 0, script := [], staged := [], flush := some fr }
  let ds := s.flushNeeds n
  if ds.isEmpty then s1
  else
    let fresh := ds.filter fun d => !s1.lit d
    let r := s1.requestOn ds false
    if r.2 then r.1.setPort n { r.1.port n with woke := (r.1.port n).woke ++ fresh.map fun d => (d, s.dom d) }
    else r.1.portError n 4

/-- An I²C target address on the bus: 7 bits and the direction, or the two bytes of a 10-bit address, of which a repeated
START for a read sends the first alone (R689, R698; log entry 90). -/
def i2cAddr (addr : Nat) (ten read first : Bool) : List Byte :=
  let dir := b2n read
  if ten then
    let hi : Byte := BitVec.ofNat 8 (0xF0 + addr / 256 % 4 * 2 + dir)
    if first then [hi, BitVec.ofNat 8 addr] else [hi]
  else [BitVec.ofNat 8 (addr % 128 * 2 + dir)]

/-- Read j of an I²C frame (R698). -/
def State.i2cRead (s : State) (n regLen j : Nat) : List BusOp :=
  let b := s.fld (F.SNS_PBUS0_ADDR_A10 n)
  let ten := bitOf b 10
  let reg := s.fld (F.SNS_PBUS1_REG_CMD n) % 2 ^ 16 + j * s.fld (F.SNS_PBUS2_REGSTEP n)
  let head :=
    if regLen = 0 then [.start] ++ (i2cAddr b ten true true).map .send
    else [.start] ++ (i2cAddr b ten false true).map .send ++ ((toBytes regLen reg).reverse.map .send) ++
      [.start] ++ (i2cAddr b ten true false).map .send
  head ++ [.read (s.fld (F.SNS_PBUS2_RDLEN n)), .stop]

/-- Transfer of an SPI frame (R699). -/
def State.spiTransfer (s : State) (n : Nat) : List BusOp :=
  let k := s.fld (F.SNS_PBUS0_ADDR_A10 n) / 256 % 4
  [.select] ++ (toBytes k (s.fld (F.SNS_PBUS1_REG_CMD n))).map .send ++ [.read (s.fld (F.SNS_PBUS2_RDLEN n)), .deselect]

/-- REGLEN of an I²C port; the value 3, which Table SNS-5 does not list, sends an open number of bytes. -/
def State.regLen (s : State) (n : Nat) : Nat :=
  let r := s.fld (F.SNS_PBUS0_SPEED_REGLEN n) / 4
  if r = 3 then s.open_ 3 else r

/-- The bus script of a frame of port n: NREAD reads (R698, R699); a PDM or PIR port has none. -/
def State.busScript (s : State) (n : Nat) : List BusOp :=
  if sampled n then []
  else (List.range (s.fld (F.SNS_PBUS2_NREAD n) + 1)).flatMap fun j =>
    if n < 4 then s.i2cRead n (s.regLen n) j else s.spiTransfer n

/-- CAPTURE_START: the start delay ends and the port runs its bus script or takes samples (R693, R698, R699). -/
def State.captureStart (s : State) (n : Nat) : State :=
  if (s.port n).phase = 1 then
    (s.setPort n { s.port n with phase := 2, script := s.busScript n, staged := [] }).drawn
  else s

/-- CAPTURE_DONE: the capture of a port ends (R694, R696). A sampled port needs its LEN bytes staged and its previous
frame flushed. -/
def State.captureDone (s : State) (n : Nat) (r : Capture) : State :=
  let p := s.port n
  if p.phase ≠ 2 then s
  else if sampled n then
    if s.portLen n ≤ p.staged.length ∧ p.flush = none then s.portStaged n (p.staged.take (s.portLen n)) else s
  else match r with
  | .data bs => s.portStaged n ((bs ++ List.replicate (s.portLen n) 0).take (s.portLen n))
  | .nack => s.portError n 2
  | .stretch => s.portError n 3

/-! ### Flush and producers (R694, R697, R702) -/

/-- Rows of a frame. -/
def frameRows (len : Nat) : Nat := (len + 383) / 384

/-- Aligned 4-byte units `0` to `units - 1` of a frame written from a row on, each a partial write with the port's tag
(R38, R48, R694). -/
def State.flushUnits (s : State) (c row units : Nat) (bs : List Byte) (t : Bool) : State :=
  let all := (bs ++ List.replicate (frameRows bs.length * 384 - bs.length) 0).take (4 * units)
  (List.range (frameRows all.length)).foldl (fun s i => s.writePart c (row + i) 0 ((all.drop (384 * i)).take 384) t) s

/-- The first row of the slot a frame goes to. -/
def State.slotRow (s : State) (n : Nat) : Nat :=
  s.fld (F.SNS_PDST_ROW n) + (s.port n).count % (s.fld (F.SNS_PDST_NBUF n) + 1) * frameRows (s.portLen n)

/-- A frame-epoch producer counts a DONE frame of its port and fires when its count falls due. -/
def State.epochCount (s : State) (n k : Nat) : State :=
  if s.flag (F.SNS_EPOCH_EN k) && s.fld (F.SNS_EPOCH_SRC k) == n then
    let c := tabGet (fun _ => 0) s.sns.epochs k + 1
    let due := decide (s.fld (F.SNS_EPOCH_DIV k) + 1 ≤ c)
    let s1 := { s with sns := { s.sns with epochs := tabSet (fun _ => 0) s.sns.epochs k (if due then 0 else c) } }
    if due then s1.fire (96 + k) else s1
  else s

/-- A DONE frame (R697). -/
def State.frameDone (s : State) (n : Nat) : State :=
  let k := (s.port n).count + 1
  let s1 := s.setPort n { s.port n with flush := none, count := k }
  let s2 := (s1.setFld (F.SNS_PSTAT_STATUS n) 1).setFld (F.SNS_PSTAT_SLOT n) (k % (s.fld (F.SNS_PDST_NBUF n) + 1))
  let s3 := s2.setFld (F.SNS_PFCNT_COUNT n) (s2.fld (F.SNS_PFCNT_COUNT n) + 1)
  let s4 := if n ≤ 6 then s3.fire (104 + n) else s3
  ((List.range 8).foldl (fun s k => s.epochCount n k) s4).portReturn n

/-- FLUSH_DONE: the flush of a port ends (R694-R697). While a domain is still coming ON it has not ended; a target
that clears or is in cluster reset loses it, after units the spec leaves open. -/
def State.flushDone (s : State) (n : Nat) : State :=
  let c := s.fld (F.SNS_PDST_CLUSTER n)
  match (s.port n).flush with
  | none => s
  | some bs =>
    if !(s.flushNeeds n).isEmpty then
      if s.lit 1 && s.lit (domSP c) then s else s.portError n 4
    else if s.clearing c then s.portError n 4
    else if s.inClReset c then
      ((s.flushUnits c (s.slotRow n) (s.open_ (frameRows bs.length * 96 + 1)) bs (s.portSealed n)).drawn).portError n 4
    else (s.flushUnits c (s.slotRow n) (frameRows bs.length * 96) bs (s.portSealed n)).frameDone n

/-! ### Samples and comparators (R700, R701, R703) -/

/-- Comparator k watches a port: PIR0-PIR3 (7-10) or PDM (6). -/
def State.cmpPort (s : State) (k : Nat) : Nat :=
  let src := s.fld (F.SNS_CMP0_SRC k)
  if src = 4 then 6 else if 4 < src then 7 else 7 + src

/-- A comparator's condition on a sample. -/
def State.cmpHolds (s : State) (k code : Nat) : Bool :=
  let above := decide (s.fld (F.SNS_CMP1_HI k) < code)
  let below := decide (code < s.fld (F.SNS_CMP2_LO k))
  match s.fld (F.SNS_CMP0_MODE k) with
  | 0 => false
  | 1 => above
  | 2 => below
  | _ => above || below

/-- A comparator takes a sample: it fires where its condition holds and did not hold at the sample before; one that is
off evaluates nothing. -/
def State.cmpSample (s : State) (n code k : Nat) : State :=
  if s.cmpPort k = n then
    let now := if s.fld (F.SNS_CMP0_MODE k) = 0 then 0 else 1 + b2n (s.cmpHolds k code)
    let was := tabGet (fun _ => 0) s.sns.held k
    let s1 := { s with sns := { s.sns with held := tabSet (fun _ => 0) s.sns.held k now } }
    if now = 2 ∧ was = 1 then s1.fire (111 + k) else s1
  else s

/-- A sample of a PDM or PIR port: compared, and staged while the port captures. -/
def State.sample (s : State) (n code : Nat) : State :=
  let s1 := (List.range 4).foldl (fun s k => s.cmpSample n code k) s
  let p := s1.port n
  if p.phase = 2 ∧ p.staged.length < s.portLen n then s1.setPort n { p with staged := p.staged ++ toBytes 2 code } else s1

/-- The code of a PIR voltage in microvolts (R700). -/
def pirCode (uv : Int) : Nat := (clampI 0 65535 (rhe (65535 * uv) 1200000)).toNat

/-- round(256 * (10 log10(num / den) + 128)) is at least c: num / den is at least 10 to the power
(2c - 1) / 5120 - 12.8 (R701). -/
def pdmAtLeast (num den c : Nat) : Bool := decide (den ^ 5120 * 10 ^ (2 * c - 1) ≤ num ^ 5120 * 10 ^ 65536)

/-- The greatest code not refuted, bit by bit. -/
def pdmSearch (num den : Nat) : Nat → Nat → Nat
  | 0, c => c
  | k + 1, c => pdmSearch num den k (if pdmAtLeast num den (c + 2 ^ k) then c + 2 ^ k else c)

/-- The code of a PDM window whose mean square is num / den (R701). -/
def pdmCode (num den : Nat) : Nat := if num = 0 ∨ den = 0 then 0 else pdmSearch num den 15 0

/-! ### GPIO (R704, R705) -/

/-- OUT bit g set. -/
def State.gpioOut (s : State) (g : Nat) (b : Bool) : State := s.setFbit F.SNS_GPIOOUT0_OUT g b

/-- The action of EVT_SNS_GPIOOUT[g]; an action during a pulse ends the pulse. -/
def State.gpioTask (s : State) (g : Nat) : State :=
  let now := s.fbit F.SNS_GPIOOUT0_OUT g
  let s1 := { s with sns := { s.sns with gpioPulses := s.sns.gpioPulses.filter (·.1 != g) } }
  match s.fld (F.SNS_GPACT_ACT g) with
  | 0 => s1.gpioOut g true
  | 1 => s1.gpioOut g false
  | 2 => s1.gpioOut g (!now)
  | _ =>
    let base := match s.sns.gpioPulses.find? (·.1 == g) with | some e => e.2 | none => now
    { s1.gpioOut g (!base) with sns := { s1.sns with gpioPulses := s1.sns.gpioPulses ++ [(g, base)] } }

/-- GPIO_PULSE_END: the ball returns to its level (R705). -/
def State.gpioPulseEnd (s : State) (g : Nat) : State :=
  match s.sns.gpioPulses.find? (·.1 == g) with
  | some e => { s.gpioOut g e.2 with sns := { s.sns with gpioPulses := s.sns.gpioPulses.filter (·.1 != g) } }
  | none => s

/-- GPIO_IN_EDGE: the ball of an input producer has held a new level for DEB ms (R704). The field LEVEL keeps the level so
held; what a read of SNS_GPIOIN0 shows is State.gpioLevels. -/
def State.gpioEdge (s : State) (k : Nat) (level : Bool) : State :=
  let g := s.fld (F.SNS_GPINSEL_PIN k)
  if g < 24 ∧ s.fbit F.SNS_GPIOIN0_LEVEL g ≠ level then
    let s1 := s.setFbit F.SNS_GPIOIN0_LEVEL g level
    if s.fbit (F.SNS_GPINSEL_EDGE k) (if level then 0 else 1) then s1.fire (115 + k) else s1
  else s

/-! ### Register writes -/

/-- A write of SNS_PnCFG: EN from 0 to 1 begins the frame count anew; EN 0 ends a frame in progress ABORTED (R694,
R698, R713). -/
def State.writePortCfg (s : State) (n v : Nat) : State :=
  let was := s.flag (F.SNS_PCFG_EN n)
  let s1 := s.setReg (Reg.SNS_PCFG n) (BitVec.ofNat 24 (v % 16))
  if bitOf v 0 then
    if was then s1
    else ((s1.setPort n { s1.port n with count := 0 }).setFld (F.SNS_PSTAT_STATUS n) 0).setFld (F.SNS_PSTAT_SLOT n) 0
  else if s.portBusy n then s1.portError n 5 else s1

/-- A write of SNS_EPOCHk: its count restarts (R702, R715). -/
def State.writeEpoch (s : State) (k v : Nat) : State :=
  let s1 := s.setReg (Reg.SNS_EPOCH k) (BitVec.ofNat 24 (v % 512))
  { s1 with sns := { s1.sns with epochs := tabSet (fun _ => 0) s1.sns.epochs k 0 } }

/-- The modulator cannot meet a sampling interval (R700). -/
def pirCapped (osr rate : Nat) : Bool := decide (rate ≠ 0 ∧ 1000000 < rate * (256 * 2 ^ osr))

/-- A write of SNS_PIRCFG. -/
def State.writePirCfg (s : State) (v : Nat) : State :=
  let o := bitsOf v 0 2
  let r := bitsOf v 2 10
  ((s.setFld F.SNS_PIRCFG_OSR o).setFld F.SNS_PIRCFG_RATE r).setFld F.SNS_PIRCFG_CAPPED (b2n (pirCapped o r))

/-- A write of SNS_GPIOSET. -/
def State.gpioSet (s : State) (v : Nat) : State := s.setFld F.SNS_GPIOOUT0_OUT (s.fld F.SNS_GPIOOUT0_OUT ||| v % 2 ^ 24)

/-- A write of SNS_GPIOCLR. -/
def State.gpioClr (s : State) (v : Nat) : State :=
  s.setFld F.SNS_GPIOOUT0_OUT (s.fld F.SNS_GPIOOUT0_OUT &&& (2 ^ 24 - 1 - v % 2 ^ 24))

/-! ### Commands -/

/-- SNS_TRIG (R693). -/
def execSnsTrig (ini : Initiator) (v : Word) (s : State) : Host.Outcome State Fault Refusal :=
  ok (s.cmdWrite ini Reg.SNS_TRIG fun s => s.writeTrig v.toNat)

/-- CAPTURE_START (R693). -/
def execCaptureStart (n : Fin 11) (s : State) : Host.Outcome State Fault Refusal :=
  ok (if s.domOn 6 then s.captureStart n else s)

/-- CAPTURE_DONE (R694). -/
def execCaptureDone (n : Fin 11) (r : Capture) (s : State) : Host.Outcome State Fault Refusal :=
  ok (if s.domOn 6 then s.captureDone n r else s)

/-- FLUSH_DONE (R697). -/
def execFlushDone (n : Fin 11) (s : State) : Host.Outcome State Fault Refusal :=
  ok (if s.domOn 6 then s.flushDone n else s)

/-- PIR_SAMPLE (R700): a conversion of PIR port p ends with a voltage in microvolts. -/
def execPirSample (p : Fin 4) (uv : Int) (s : State) : Host.Outcome State Fault Refusal :=
  ok (if s.domOn 6 && s.flag (F.SNS_PCFG_EN (7 + p)) && s.flag F.SNS_PIRCFG_RATE then s.sample (7 + p) (pirCode uv) else s)

/-- PDM_WINDOW_END (R701): a window ends with a mean square of num / den. -/
def execPdmWindowEnd (num den : Nat) (s : State) : Host.Outcome State Fault Refusal :=
  ok (if s.domOn 6 && s.flag (F.SNS_PCFG_EN 6) then s.sample 6 (pdmCode num den) else s)

/-- GPIO_IN_EDGE (R704). -/
def execGpioInEdge (k : Fin 2) (level : Bool) (s : State) : Host.Outcome State Fault Refusal :=
  ok (if s.domOn 6 then s.gpioEdge k level else s)

/-- GPIO_PULSE_END (R705). -/
def execGpioPulseEnd (g : Fin 16) (s : State) : Host.Outcome State Fault Refusal := ok (s.gpioPulseEnd g)

/-- SNS_GPIOSET (R705). -/
def execSnsGpioset (ini : Initiator) (v : Word) (s : State) : Host.Outcome State Fault Refusal :=
  ok (s.cmdWrite ini Reg.SNS_GPIOSET fun s => s.gpioSet v.toNat)

/-- SNS_GPIOCLR (R705). -/
def execSnsGpioclr (ini : Initiator) (v : Word) (s : State) : Host.Outcome State Fault Refusal :=
  ok (s.cmdWrite ini Reg.SNS_GPIOCLR fun s => s.gpioClr v.toNat)

/-- PORT_DISABLE: a write of SNS_PnCFG with EN 0 (R713). -/
def execPortDisable (ini : Initiator) (n : Fin 11) (v : Word) (s : State) : Host.Outcome State Fault Refusal :=
  ok (s.cmdWrite ini (Reg.SNS_PCFG n) fun s => s.writePortCfg n (v.toNat / 2 * 2))

/-- SNS_EPOCH_WRITE (R715). -/
def execSnsEpochWrite (ini : Initiator) (k : Fin 8) (v : Word) (s : State) : Host.Outcome State Fault Refusal :=
  ok (s.cmdWrite ini (Reg.SNS_EPOCH k) fun s => s.writeEpoch k v.toNat)

end Sys2Proof.Machine
end

