-- ==== Sys2Proof/Machine/Balls.lean ====
section
/-! DEFINITION. The digital signal balls: their boundary cells, and what each drives (R435, R689, R705, R746, R749,
R774, R775, R784, R786). -/

namespace Sys2Proof.Machine

open Sys2Proof

/-- The 64 digital signal balls beside the TAP's (Table ELEC-6). -/
inductive Ball where
  | flashSck
  | flashCsN
  | flashIo (i : Nat)
  | resetN
  | wakeN
  | bootsel (i : Nat)
  | hostsel
  | gpio (g : Nat)
  | i2cScl (n : Nat)
  | i2cSda (n : Nat)
  | sspiSck (m : Nat)
  | sspiMosi (m : Nat)
  | sspiMiso (m : Nat)
  | sspiCsN (m : Nat)
  | pdmClk
  | pdmDat
  | sint (i : Nat)
  | hspiSck
  | hspiCsN
  | hspiIo (i : Nat)
  | hirqN
  deriving DecidableEq, Repr

/-- A ball's direction (Table ELEC-6). -/
inductive BallDir where
  | input
  | output
  | bidir
  deriving DecidableEq, Repr

/-- The direction of a ball. -/
def Ball.dir : Ball → BallDir
  | .resetN | .wakeN | .bootsel _ | .hostsel | .sspiMiso _ | .pdmDat | .sint _ | .hspiSck | .hspiCsN => .input
  | .flashSck | .flashCsN | .sspiSck _ | .sspiMosi _ | .sspiCsN _ | .pdmClk | .hirqN => .output
  | .flashIo _ | .gpio _ | .i2cScl _ | .i2cSda _ | .hspiIo _ => .bidir

/-- Boundary cells of a ball: input, output and enable, as far as it has them (R749, R786). -/
def Ball.cells (b : Ball) : Nat :=
  match b.dir with
  | .input => 1
  | .output => 2
  | .bidir => 3

/-- The balls in the order of the boundary register, FLASH_SCK nearest TDO (R786). -/
def scanBalls : List Ball :=
  [.flashSck, .flashCsN] ++ (List.range 4).map .flashIo ++ [.resetN, .wakeN, .bootsel 0, .bootsel 1, .hostsel] ++
  (List.range 24).map .gpio ++ ((List.range 4).flatMap fun n => [.i2cScl n, .i2cSda n]) ++
  ((List.range 2).flatMap fun m => [.sspiSck m, .sspiMosi m, .sspiMiso m, .sspiCsN m]) ++ [.pdmClk, .pdmDat] ++
  (List.range 4).map .sint ++ [.hspiSck, .hspiCsN] ++ (List.range 4).map .hspiIo ++ [.hirqN]

/-- The boundary cells: ball and cell of the ball, in order. -/
def scanCells : List (Ball × Nat) := scanBalls.flatMap fun b => (List.range b.cells).map fun i => (b, i)

/-- Number of boundary cells (R786). -/
def boundaryCells : Nat := 154

/-- The place of a ball's first cell. -/
def Ball.cell (b : Ball) : Nat := scanCells.findIdx (· == (b, 0))

/-- The sensor port a ball belongs to (Table SNS-1). -/
def Ball.port : Ball → Option Nat
  | .i2cScl n | .i2cSda n => some n
  | .sspiSck m | .sspiMosi m | .sspiMiso m | .sspiCsN m => some (4 + m)
  | .pdmClk | .pdmDat => some 6
  | _ => none

/-- A cell captures 0: LIFECYCLE is FIELD and it is an input cell of a sealed port's ball (R749). -/
def State.cellMasked (s : State) (i : Nat) : Bool :=
  s.fld F.BOOT_FUSE_LIFECYCLE == 2 &&
    match scanCells[i]? with
    | some (b, 0) => b.dir != .output && (match b.port with | some n => s.portSealed n | none => false)
    | _ => false

/-- A reset is held or the part is in Frost (R774). -/
def State.inReset (s : State) : Bool := s.held.por || s.held.pin || s.held.wdog || s.weather == .frost

/-- HIRQ_N is driven low (R435). -/
def State.hirqLow (s : State) : Bool :=
  !s.inReset && s.domOn 5 && [Reg.HST_VPEND0, Reg.HST_VPEND1, Reg.HST_VPEND2].any fun a => s.reg a != 0

/-- The condition under which the part may drive a ball (R774, R775, Table ELEC-6). -/
def State.mayDrive (s : State) (b : Ball) : Bool :=
  !s.inReset &&
    match b with
    | .flashSck | .flashCsN | .flashIo _ =>
      let g := s.fld F.BOOT_STATUS_STAGE
      decide (1 ≤ g) && decide (g ≤ 5) && !s.boot.floating
    | .gpio g => s.dom 6 != 0 && s.fbit F.SNS_GPIOOE0_OE g
    | .i2cScl n | .i2cSda n => s.domOn 6 && s.flag (F.SNS_PCFG_EN n)
    | .sspiSck m | .sspiMosi m | .sspiCsN m => s.domOn 6 && s.flag (F.SNS_PCFG_EN (4 + m))
    | .pdmClk => s.domOn 6 && s.flag (F.SNS_PCFG_EN 6)
    | .hspiIo _ => s.domOn 5
    | .hirqN => s.hirqLow
    | .resetN | .wakeN | .bootsel _ | .hostsel | .sspiMiso _ | .pdmDat | .sint _ | .hspiSck | .hspiCsN => false

/-- The boundary register drives the balls: EXTEST or CLAMP is in force (R749). -/
def State.scanDrives (s : State) : Bool := s.tap.ir == 3 || s.tap.ir == 4

/-- What the boundary register drives on a ball, by its output and enable cells. -/
def State.scanOut (s : State) (b : Ball) : Option Bool :=
  let k := b.cell + b.cells - 2
  if b.dir ≠ .input ∧ s.tap.boundary.getD (k + 1) false = true then some (s.tap.boundary.getD k false) else none

/-- What core logic drives on a ball whose level the state holds, a GPIO ball or HIRQ_N. -/
def State.coreOut (s : State) (b : Ball) : Option Bool :=
  if s.mayDrive b then
    match b with
    | .gpio g => some (s.fbit F.SNS_GPIOOUT0_OUT g)
    | .hirqN => some false
    | _ => none
  else none

/-- The level a ball is driven to: by the boundary register under EXTEST and CLAMP, by nothing under HIGHZ and while a
supply is lost, else by core logic (R749, R774; log entry 92). -/
def State.ballOut (s : State) (b : Ball) : Option Bool :=
  if s.held.por || s.weather == .frost || s.tap.ir == 5 then none
  else if s.scanDrives then s.scanOut b
  else s.coreOut b

/-- The levels SNS_GPIOIN0 shows: what a ball is driven to, else what stands on it, which is open (R704, R705; log entry
90). -/
def State.gpioLevels (s : State) : Nat :=
  (List.range 24).foldl (fun v g =>
    match s.ballOut (.gpio g) with
    | some l => putBits v g 1 (b2n l)
    | none => v) (s.open_ (2 ^ 24))

end Sys2Proof.Machine
end

