-- ==== Sys2Proof/Machine/Lock.lean ====
section
/-! DEFINITION. The lock of the AES engine and its release (R555-R560), which cores that enter sealed state or are
reset also bring about. -/

namespace Sys2Proof.Machine

open Sys2Proof

/-- The owner ID of an initiator (Table CIP-4). -/
def cipOwner : Initiator → Nat
  | .cc c => c + 1
  | .sv => 5
  | .boot => 8
  | _ => 0

/-- The holder of the lock, 0 when it is free. -/
def State.cipHolder (s : State) : Nat := s.fld F.CIP_LOCK_OWNER

/-- The record of an owner: CODE and OP (R558). -/
def State.cipRec (s : State) (o : Nat) : Nat × Nat := tabGet (fun _ => (0, 0)) s.cip.recs o

/-- An owner's record set. -/
def State.setCipRec (s : State) (o code op : Nat) : State :=
  { s with cip := { s.cip with recs := tabSet (fun _ => (0, 0)) s.cip.recs o (code, op) } }

/-- Words of CIP_IV, CIP_ETAG and CIP_TAG back at zero. -/
def State.zeroCipRegs (s : State) : State :=
  { s with regs := tabClear (fun a => decide (Reg.CIP_IV 0 ≤ a) && decide (a < Reg.CIP_LBL 0)) s.regs }

/-- What CLEAR zeroes: buffer, IV, ETAG and TAG registers, message context (R552). -/
def State.cipClear (s : State) : State :=
  { s.zeroCipRegs with cip := { s.cip with buf := [], ctx := none } }

/-- The lock is released: set U is zeroed, the boot register too when owner 8 held it (R559). -/
def State.releaseLock (s : State) : State :=
  let boot := if s.cipHolder = 8 then [] else s.cip.boot
  let s1 := (s.cipClear.setReg Reg.CIP_MODE 0).setFld F.CIP_LOCK_OWNER 0
  { s1 with cip := { s1.cip with boot := boot, due := .none, op := none } }

/-- The lock is revoked from its holder (R560). -/
def State.revokeLock (s : State) : State :=
  let o := s.cipHolder
  (((s.setCipRec o 8 (s.cipRec o).2).setFld F.CIP_ERR_REVOKED 1).fault 0x0B 63 o false).releaseLock

/-- A release from any cause but the REL write: at once, or when the command in progress ends (R559). -/
def State.dropLock (s : State) (revoke : Bool) : State :=
  if s.cip.op.isSome then { s with cip := { s.cip with due := if revoke then .revoke else .plain } }
  else if revoke then s.revokeLock
  else s.releaseLock

/-- An owner leaves: the lock it holds is released, its request leaves the queue (R559, R572). -/
def State.ownerGone (s : State) (o : Nat) : State :=
  let s1 := { s with cip := { s.cip with queue := s.cip.queue.filter (· != o) } }
  if s1.cipHolder = o then s1.dropLock false else s1

/-- A core enters sealed state: a lock it holds is released (R559). -/
def State.sealLock (s : State) (k : Nat) : State := if s.cipHolder = k + 1 then s.dropLock false else s

end Sys2Proof.Machine
end

