-- ==== Sys2Proof/Machine/Seal.lean ====
section
/-! DEFINITION. The franking meter, the franked-row rings, and the checks and effects of FRANK
(02_seal_and_franking.md). -/

namespace Sys2Proof.Machine

open Sys2Proof

/-- Zone z of the meter. -/
def State.zone (s : State) (z : Nat) : Zone := tabGet (fun _ => {}) s.zones z

/-- Zone z set. -/
def State.setZone (s : State) (z : Nat) (v : Zone) : State := { s with zones := tabSet (fun _ => {}) s.zones z v }

/-- Available credit (R56). -/
def zoneAvail (z : Zone) : Nat := z.b0 + z.b1 + z.b2 + z.b3 + z.b4

/-- A debit: oldest bucket first (R56). -/
def zoneDebit (z : Zone) (n : Nat) : Zone :=
  let n3 := n - z.b4
  let n2 := n3 - z.b3
  let n1 := n2 - z.b2
  let n0 := n1 - z.b1
  { z with b4 := z.b4 - n, b3 := z.b3 - n3, b2 := z.b2 - n2, b1 := z.b1 - n1, b0 := z.b0 - n0 }

/-! ### Rings (R53) -/

/-- LEN of cluster c's ring. -/
def State.ringLen (s : State) (c : Nat) : Nat := s.fld (F.SEAL_RINGCFG_LEN c)

/-- Rows the ring holds; a ring of LEN 0 holds none. -/
def State.ringHeld (s : State) (c : Nat) : Nat :=
  let n := s.ringLen c
  if n = 0 then 0 else (s.fld (F.SEAL_RINGWP_WP c) + 2 * n - s.fld (F.SEAL_RINGRP_RP c)) % (2 * n)

/-- Every FRANK is refused RINGFULL: LEN is 0 or the ring holds LEN rows. -/
def State.ringFull (s : State) (c : Nat) : Bool := s.ringLen c == 0 || s.ringHeld c == s.ringLen c

/-- The row a pointer value names. -/
def State.ringRow (s : State) (c v : Nat) : Nat := s.fld (F.SEAL_RINGCFG_BASE c) + v % s.ringLen c

/-- Firmware sets RP: accepted when it passes no more rows than the ring holds, else RPBAD. RP counts modulo 2 x LEN, so it
takes the value so reduced (log entry 72). -/
def State.writeRp (s : State) (c v : Nat) : State :=
  let n := s.ringLen c
  let rp := s.fld (F.SEAL_RINGRP_RP c)
  let good := if n = 0 then v == rp else decide ((v + 2 * n - rp) % (2 * n) ≤ s.ringHeld c)
  if good then s.setFld (F.SEAL_RINGRP_RP c) (if n = 0 then v else v % (2 * n)) else s.setFld F.SEAL_STATUS_RPBAD 1

/-- A consumer takes n rows (R596, R667). -/
def State.takeRing (s : State) (c n : Nat) : State :=
  s.setFld (F.SEAL_RINGRP_RP c) ((s.fld (F.SEAL_RINGRP_RP c) + n) % (2 * s.ringLen c))

/-- A write of SEAL_RINGCFGc: ignored with RINGBUSY while WP and RP differ, ignored outside LEN 0-64 or past row
4,095 (log entry 12); the pointers go on counting modulo 2 x the new LEN. -/
def State.writeRingCfg (s : State) (c v : Nat) : State :=
  let base := bitsOf v 0 12
  let len := bitsOf v 12 7
  let wp := s.fld (F.SEAL_RINGWP_WP c)
  if wp ≠ s.fld (F.SEAL_RINGRP_RP c) then s.setFld F.SEAL_STATUS_RINGBUSY 1
  else if 64 < len ∨ 4096 < base + len then s
  else
    let w := if len = 0 then 0 else wp % (2 * len)
    (((s.setFld (F.SEAL_RINGCFG_BASE c) base).setFld (F.SEAL_RINGCFG_LEN c) len).setFld (F.SEAL_RINGWP_WP c) w).setFld
      (F.SEAL_RINGRP_RP c) w

/-! ### FRANK (R49-R54) -/

/-- The fresh-list entry that makes a row fresh, whatever its epoch (R48). -/
def State.freshEntry (s : State) (c r : Nat) : Option Fresh :=
  if s.mark c r then (s.freshOf c).find? fun e => e.row == r % 4096 else none

/-- The refusals of R50 in its order, as completion codes of Table TOP-8; otherwise the zone to debit. -/
def State.frankCheck (s : State) (c src offset bits : Nat) : Nat ⊕ Nat :=
  if !s.flag F.SEAL_CTRL_LOCK then .inl 5
  else if s.flag F.SEAL_CTRL_LOCKOUT then .inl 6
  else if bits = 0 ∨ 256 < bits ∨ 3072 < offset + bits then .inl 7
  else match s.freshEntry c src with
  | none => .inl 8
  | some e =>
    let z := s.zone e.zone
    if e.epoch ≠ z.epoch then .inl 8
    else if 16 ≤ z.seq then .inl 9
    else if s.ringFull c then .inl 10
    else if zoneAvail z < bits then .inl 11
    else .inr e.zone

/-- The franking header (Table SEAL-6). -/
def frankHeader (zone cluster epoch bits seq : Nat) : Nat :=
  zone + cluster * 2 ^ 6 + epoch * 2 ^ 8 + bits * 2 ^ 24 + seq * 2 ^ 33 + 2 ^ 37

/-- The first 40 bytes of a FRANK output row (R54). -/
def frankBytes (header : Nat) (row : List Byte) (offset bits : Nat) : List Byte :=
  toBytes 8 header ++ toBytes 32 (bitsOf (ofBytes row) offset bits)

/-- The check and the debit, one indivisible step (R50, R52): the status, and the bytes that the ring row takes. -/
def State.frankDebit (s : State) (c src offset bits : Nat) : State × Nat × List Byte :=
  match s.frankCheck c src offset bits with
  | .inl code =>
    let f := if code = 8 then F.SEAL_REFUSE_STALE else if code = 11 then F.SEAL_REFUSE_NOCREDIT else F.SEAL_REFUSE_OTHER
    (s.incFld f 1, code, [])
  | .inr zi =>
    let z := s.zone zi
    let bytes := frankBytes (frankHeader zi c z.epoch bits z.seq) (s.unitRow c src) offset bits
    ((s.setZone zi { zoneDebit z bits with seq := z.seq + 1 }).clearFresh c src, 0, bytes)

/-- The ring write: the row that WP names, WP moved on, EVP_SEAL_FRANKED[c] fired (R50, R53, R54). -/
def State.frankWrite (s : State) (c : Nat) (bytes : List Byte) : State :=
  let wp := s.fld (F.SEAL_RINGWP_WP c)
  let s1 := s.unitWrite c (s.ringRow c wp) (bytes ++ List.replicate (384 - bytes.length) 0) false
  (s1.setFld (F.SEAL_RINGWP_WP c) ((wp + 1) % (2 * s.ringLen c))).fire (57 + c)

/-! ### Epochs (R55) -/

/-- The fresh entries of zone z invalidated in every cluster, their marks cleared (R48). -/
def State.dropZone (s : State) (z : Nat) : State :=
  (List.range 4).foldl (fun s c => ((s.freshOf c).filter fun e => e.zone == z).foldl (fun s e => s.clearFresh c e.row) s) s

/-- An arrival at EVT_SEAL_ADV[n] (R55, R105): with the 32,768 Hz clock absent it is early. -/
def State.sealAdvance (s : State) (n : Nat) : State :=
  if !s.flag (F.SEAL_ADV_EN n) || !s.flag F.SEAL_CTRL_LOCK then s
  else
    let zi := s.fld (F.SEAL_ADV_ZONE n)
    let z := s.zone zi
    if s.aonCycles < z.last + z.miniv ∨ !s.flag F.CLK_STATUS_AONOK then s.setFld F.SEAL_STATUS_ADVEARLY 1
    else (s.setZone zi { z with epoch := (z.epoch + 1) % 65536, b4 := z.b3, b3 := z.b2, b2 := z.b1, b1 := z.b0,
                                b0 := z.budget, seq := 0, last := s.aonCycles }).dropZone zi

/-- A write to a locked value: ignored, counted (R57). -/
def State.lockedWrite (s : State) : State :=
  if s.flag F.SEAL_CTRL_LOCK then s.violate.setFld F.SEAL_STATUS_LOCKWR 1 else s

/-! ### Commands -/

/-- RING_RP_WRITE: a write of SEAL_RINGRPc (R53). -/
def execRingRpWrite (ini : Initiator) (c : Fin 4) (v : Word) (s : State) : Host.Outcome State Fault Refusal :=
  ok (s.cmdWrite ini (Reg.SEAL_RINGRP c) fun s => s.writeRp c (bitsOf v.toNat 0 7))

/-- RING_CFG_WRITE: a write of SEAL_RINGCFGc (R53). -/
def execRingCfgWrite (ini : Initiator) (c : Fin 4) (v : Word) (s : State) : Host.Outcome State Fault Refusal :=
  ok (s.cmdWrite ini (Reg.SEAL_RINGCFG c) fun s => s.writeRingCfg c v.toNat)

end Sys2Proof.Machine
end

