-- ==== Sys2Proof/Machine/Tally.lean ====
section
/-! DEFINITION. The tally units: word sets, the operation queue, tile operations, reductions, inserts, finalisation,
FRANK and SYNC (08_tile_operations.md). -/

namespace Sys2Proof.Machine

open Sys2Proof

/-! ### Fields of a word set (Tables TOP-2, TOP-4, TOP-7) -/

/-- Bits of D0. -/
def d0f (w : WordSet) (lo n : Nat) : Nat := bitsOf w.d0.toNat lo n
/-- Bits of D1. -/
def d1f (w : WordSet) (lo n : Nat) : Nat := bitsOf w.d1.toNat lo n
/-- Bits of D2. -/
def d2f (w : WordSet) (lo n : Nat) : Nat := bitsOf w.d2.toNat lo n
/-- Bits of D3. -/
def d3f (w : WordSet) (lo n : Nat) : Nat := bitsOf w.d3.toNat lo n
/-- Bits of D4. -/
def d4f (w : WordSet) (lo n : Nat) : Nat := bitsOf w.d4.toNat lo n

/-- FIN. -/
def wsFin (w : WordSet) : Bool := d0f w 11 1 == 1
/-- ADD. -/
def wsAdd (w : WordSet) : Bool := d0f w 12 1 == 1
/-- ZV. -/
def wsZv (w : WordSet) : Bool := d0f w 13 1 == 1
/-- RM. -/
def wsRm (w : WordSet) : Nat := d0f w 20 2
/-- OFMT. -/
def wsOfmt (w : WordSet) : Nat := d0f w 22 2

/-- Rows that hold n items of k to a row. -/
def rowsFor (n k : Nat) : Nat := (n + k - 1) / k

/-- Bits of an element of an input format (Table TOP-5). -/
def elemBits : Nat → Nat
  | 0 => 1
  | 1 => 2
  | 2 => 4
  | 3 => 4
  | _ => 8

/-- Elements a TOP reads from its stream: with PADM GEN the ragged tail is not read (R254). -/
def topReads (w : WordSet) : Nat := if d1f w 9 1 = 1 then d2f w 12 10 else 64 * d1f w 16 4

/-- Input rows of a TOP (R253). -/
def topInRows (w : WordSet) : Nat := rowsFor (topReads w) (3072 / elemBits (d1f w 3 3))

/-- Rows of the row pairs of n lanes (R257). -/
def pairRows (n : Nat) : Nat := 2 * rowsFor n 128

/-- Output rows at FIN of n lanes (R261). -/
def finRows (ofmt n : Nat) : Nat := if ofmt = 2 then rowsFor n 128 else 1

/-- The rows an entry reads or writes, as ranges of first row and count (R248); a FRANK's ring row is the one WP
names. -/
def State.rowSet (s : State) (c : Nat) (w : WordSet) : List (Nat × Nat) :=
  match wsOpc w with
  | 1 =>
    [(d2f w 0 12, topInRows w)]
      ++ (if wsFin w && !wsAdd w then [] else [(d4f w 0 12, pairRows (d3f w 9 9))])
      ++ (if wsFin w then [(d4f w 12 12, finRows (wsOfmt w) (d3f w 9 9))] else [])
  | 2 | 3 => [(d2f w 0 12, if d1f w 0 2 = 3 then 2 else 1), (d4f w 0 12, 1)]
  | 4 => [(d2f w 0 12, 1), (d4f w 0 12, 1)]
  | 5 => [(d4f w 0 12, pairRows (d3f w 9 9)), (d4f w 12 12, finRows (wsOfmt w) (d3f w 9 9))]
  | 6 => [(d1f w 0 12, 1)] ++ (if s.ringLen c = 0 then [] else [(s.ringRow c (s.fld (F.SEAL_RINGWP_WP c)), 1)])
  | _ => []

/-- Two row ranges share a row. -/
def rangesMeet (a b : Nat × Nat) : Bool := decide (a.1 < b.1 + b.2) && decide (b.1 < a.1 + a.2)

/-- Two row sets share a row. -/
def rowSetsMeet (a b : List (Nat × Nat)) : Bool := a.any fun x => b.any (rangesMeet x)

/-! ### Argument checks (R249, R250, R264-R266, Table TOP-7; log entry 16) -/

/-- D0 bits that an opcode does not use are zero (Table TOP-3). -/
def d0Ok (w : WordSet) : Bool :=
  match wsOpc w with
  | 1 => wsOfmt w != 3
  | 2 | 3 | 4 => d0f w 12 1 == 0 && d0f w 20 4 == 0
  | 5 => wsFin w && d0f w 12 1 == 0 && wsOfmt w != 3
  | 6 | 7 => d0f w 11 13 == 0
  | _ => false

/-- The checks of R250. -/
def topOk (w : WordSet) : Bool :=
  let extg := d1f w 16 4
  let vlen := d2f w 12 10
  let ncol := d3f w 9 9
  let shift := d3f w 18 6
  let dst := d4f w 0 12
  let out := d4f w 12 12
  d1f w 20 4 == 0 && d2f w 22 2 == 0 && decide (d1f w 3 3 < 6) && extg != 0 && decide (d1f w 12 4 + extg ≤ 12) &&
  vlen != 0 && decide (vlen ≤ 64 * extg) &&
  decide (d3f w 0 9 + ncol ≤ if d1f w 8 1 = 1 then 192 else 384) && ncol != 0 && decide (shift ≤ 47) &&
  (wsRm w != 3 || decide (shift ≤ 24)) &&
  decide (d2f w 0 12 + topInRows w ≤ 4096) && dst % 2 == 0 &&
  (if wsFin w then
    (if wsAdd w then decide (dst + pairRows ncol ≤ 4096) else dst == 0) &&
      decide (out + finRows (wsOfmt w) ncol ≤ 4096)
   else decide (dst + pairRows ncol ≤ 4096) && out == 0 && shift == 0 && wsRm w == 0 && wsOfmt w == 0)

/-- The checks of R264 and R265. -/
def redOk (w : WordSet) : Bool :=
  let sfmt := d1f w 0 2
  let iw := d1f w 5 5
  let n := d3f w 0 9
  let vlen := d3f w 9 9
  d1f w 11 13 == 0 && d2f w 21 3 == 0 && d3f w 18 6 == 0 &&
  decide (d2f w 12 9 + n ≤ if sfmt < 2 then 384 else 128) && (sfmt != 3 || d2f w 0 12 % 2 == 0) &&
  vlen != 0 && decide (vlen ≤ n) && iw != 0 && decide (iw ≤ 9) && decide (d4f w 12 12 + iw ≤ 3072) && decide (n ≤ 2 ^ iw)

/-- The checks of R266. -/
def insOk (w : WordSet) : Bool :=
  let width := d1f w 0 5
  d1f w 6 18 == 0 && d2f w 12 12 == 0 && d3f w 12 12 == 0 && width != 0 && decide (width ≤ 24) &&
  decide (d3f w 0 12 + width ≤ 3072) && decide (d4f w 12 12 + width ≤ 3072)

/-- The checks of R250 that reach FINR's fields (Table TOP-7). -/
def finrOk (w : WordSet) : Bool :=
  let ncol := d3f w 9 9
  let shift := d3f w 18 6
  w.d1 == 0 && w.d2 == 0 && d3f w 0 9 == 0 && ncol != 0 && decide (ncol ≤ 384) && decide (shift ≤ 47) &&
  (wsRm w != 3 || decide (shift ≤ 24)) && d4f w 0 12 % 2 == 0 && decide (d4f w 0 12 + pairRows ncol ≤ 4096) &&
  decide (d4f w 12 12 + finRows (wsOfmt w) ncol ≤ 4096)

/-- A word set passes the checks at entry. -/
def wsOk (w : WordSet) : Bool :=
  d0Ok w && match wsOpc w with
  | 1 => topOk w
  | 2 | 3 => redOk w
  | 4 => insOk w
  | 5 => finrOk w
  | 6 => d1f w 12 12 == 0 && d2f w 12 12 == 0 && d3f w 9 15 == 0 && w.d4 == 0
  | 7 => w.d1 == 0 && w.d2 == 0 && w.d3 == 0 && w.d4 == 0
  | _ => false

/-! ### Completion (R269) -/

/-- A completion: counted, its event, its report; a full FIFO keeps no more. -/
def State.tallyReport (s : State) (c : Nat) (e : TalEntry) (status : Nat) (sealedOut : Bool) : State :=
  let k : TalCpl := { tag := d0f e.ws 4 6, status := status, opc := wsOpc e.ws,
                      mixed := wsOpc e.ws == 1 && e.mixed, sealedOut := sealedOut, port := e.port }
  let s1 := s.setFld (F.TAL_DONECNT_COUNT c) (s.fld (F.TAL_DONECNT_COUNT c) + 1)
  let s2 := if d0f e.ws 10 1 = 1 then s1.fire (32 + c) else s1
  let u := s2.tally c
  if e.port = 2 then s2.unitDone e.id 1 status k.mixed
  else if u.cpl.length < 16 then s2.setTally c { u with cpl := u.cpl ++ [k] }
  else (s2.incFld (F.TAL_CPLCNT_OVF c) 1).setFld (F.TAL_STATUS_CPLOVF c) 1

/-- An entry leaves the queue with a completion. -/
def State.tallyFinish (s : State) (c n : Nat) (e : TalEntry) (status : Nat) (sealedOut : Bool) : State :=
  let u := s.tally c
  (s.setTally c { u with entries := u.entries.eraseIdx n }).tallyReport c e status sealedOut

/-! ### Issue (R244-R249) -/

/-- The pad register a word set names (R245). -/
def State.padOf (s : State) (c : Nat) (w : WordSet) : Word :=
  if wsOpc w = 1 then s.reg (Reg.TAL_PAD c (d1f w 10 2))
  else if wsOpc w = 2 ∨ wsOpc w = 3 then s.reg (Reg.TAL_PAD c (d1f w 3 2)) else 0

/-- A word set enters the queue of cluster c through a port; while the queue is full nothing happens and the
initiator waits (R245; log entry 14). A pending change of owner discards the write, on every port (R247). -/
def State.tallyPush (s : State) (c port : Nat) (iseal : Bool) (w : WordSet) (id : Nat := 0) : State :=
  let u := s.tally c
  let e : TalEntry := { port := port, ws := w, iseal := iseal, pad := s.padOf c w, phase := .queued, id := id }
  if s.flag (F.CLU_OWNER_PEND c) then s.setFld (F.TAL_STATUS_OWNPEND c) 1
  else if 16 ≤ u.entries.length then s
  else if wsOk w then s.setTally c { u with entries := u.entries ++ [e] }
  else (s.setFld (F.TAL_STATUS_BADARG c) 1).tallyReport c e 1 false

/-- The operation queue is full: a writer of D4 waits. -/
def State.tallyFull (s : State) (c : Nat) : Bool := decide (16 ≤ (s.tally c).entries.length)

/-- The word set in the descriptor registers of a port. -/
def State.portWords (s : State) (c p : Nat) : WordSet :=
  { d0 := s.reg (Reg.TAL_OP_D c p 0), d1 := s.reg (Reg.TAL_OP_D c p 1), d2 := s.reg (Reg.TAL_OP_D c p 2),
    d3 := s.reg (Reg.TAL_OP_D c p 3), d4 := s.reg (Reg.TAL_OP_D c p 4) }

/-- The descriptor registers of a port take a word set (R244). -/
def State.setPortWords (s : State) (c p : Nat) (w : WordSet) : State :=
  ((((s.setReg (Reg.TAL_OP_D c p 0) w.d0).setReg (Reg.TAL_OP_D c p 1) w.d1).setReg (Reg.TAL_OP_D c p 2) w.d2).setReg
    (Reg.TAL_OP_D c p 3) w.d3).setReg (Reg.TAL_OP_D c p 4) w.d4

/-- A write of D4 of cluster c must wait: the queue is full, and no change of owner discards the write (R245, R247). -/
def State.tallyWaits (s : State) (c : Nat) : Bool := s.tallyFull c && !s.flag (F.CLU_OWNER_PEND c)

/-- The writes of D0-D4 of a port as one command (R244): D4 takes the word set. A D4 write that must wait leaves
D4 as it stands (log entry 14). -/
def State.tallyIssue (s : State) (c p : Nat) (iseal : Bool) (w : WordSet) (id : Nat := 0) : State :=
  if s.tallyWaits c then s.setPortWords c p { w with d4 := (s.portWords c p).d4 }
  else (s.setPortWords c p w).tallyPush c p iseal w id

/-- A word set with an opcode in its field OPC (Table TOP-2). -/
def withOpc (opc : Nat) (w : WordSet) : WordSet := { w with d0 := BitVec.ofNat 24 (putBits w.d0.toNat 0 4 opc) }

/-- A word set of one opcode, issued by an initiator. -/
def State.issueOpc (s : State) (opc : Nat) (c p : Nat) (ini : Initiator) (w : WordSet) : State :=
  s.cmdWrite ini (Reg.TAL_OP_D c p 4) fun s => s.tallyIssue c p (s.sealedIni ini) (withOpc opc w)

/-! ### Start (R248, R270, R280) -/

/-- Index of the entry that starts next: in queue order, passing only TOPs whose tile is full, and none whose rows
meet those of an earlier entry. -/
def State.tallyNext (s : State) (c : Nat) : List TalEntry → Nat → List (Nat × Nat) → Bool → Option Nat
  | [], _, _, _ => none
  | e :: rest, n, taken, any =>
    let mine := s.rowSet c e.ws
    if e.phase ≠ .queued then s.tallyNext c rest (n + 1) (taken ++ mine) true
    else if wsOpc e.ws = 7 then (if any then none else some n)
    else if rowSetsMeet taken mine then none
    else if wsOpc e.ws = 1 ∧ 2 ≤ s.tileDepth (8 * c + wsTile e.ws) then s.tallyNext c rest (n + 1) (taken ++ mine) true
    else some n

/-- The pad of a TOP as an element of its format: saturated to the format's range (R254). -/
def padElem (fmt : Nat) (pad : Word) : Nat :=
  let v := signed 24 pad.toNat
  match fmt with
  | 0 => (clampI 0 1 v).toNat
  | 1 => let x := clampI (-1) 1 v
    if x = -1 then 3 else x.toNat
  | 2 => (clampI 0 15 v).toNat
  | 3 => unsigned 4 (clampI (-8) 7 v)
  | 4 => (clampI 0 255 v).toNat
  | _ => unsigned 8 (clampI (-128) 127 v)

/-- Element i of a stream held in bytes (R253). -/
def streamElem (fmt : Nat) (bs : List Byte) (i : Nat) : Nat :=
  let b := elemBits fmt
  bitsOf ((bs.getD (i * b / 8) 0).toNat) (i * b % 8) b

/-- The bytes of n rows from row r on, as a unit reads them. -/
def State.unitRows (s : State) (c r n : Nat) : List Byte := (List.range n).flatMap fun k => s.unitRow c (r + k)

/-- A row of n from row r on is sealed. -/
def State.unitTags (s : State) (c r n : Nat) : Bool := (List.range n).any fun k => s.unitTag c (r + k)

/-- Elements of a TOP's extent: the stream, and the pad over the tail that is not read (R254). -/
def State.topElems (s : State) (c : Nat) (e : TalEntry) : List Nat :=
  let w := e.ws
  let fmt := d1f w 3 3
  let bs := s.unitRows c (d2f w 0 12) (topInRows w)
  (List.range (64 * d1f w 16 4)).map fun i => if i < topReads w then streamElem fmt bs i else padElem fmt e.pad

/-- The rows a TOP or a FINR covers only in part, which it reads to write them back whole (R259). -/
def mergeRows (w : WordSet) : List Nat :=
  let n := d3f w 9 9
  let pair := if n % 128 = 0 then [] else [d4f w 0 12 + 2 * (n / 128), d4f w 0 12 + 2 * (n / 128) + 1]
  let out := if wsOfmt w = 2 then (if n % 128 = 0 then [] else [d4f w 12 12 + n / 128])
    else if n < 384 then [d4f w 12 12] else []
  match wsOpc w with
  | 1 => if wsFin w then out else pair
  | 5 => out
  | _ => []

/-- A row read only to be merged is sealed: an input of the operation (R259). -/
def State.mergeSealed (s : State) (c : Nat) (w : WordSet) : Bool := (mergeRows w).any (s.unitTag c)

/-- The input of a TOP's passes is sealed, or a row it merges (Table SEAL-1, R259). -/
def State.topSealed (s : State) (c : Nat) (e : TalEntry) : Bool :=
  e.iseal || s.unitTags c (d2f e.ws 0 12) (topInRows e.ws) || s.mergeSealed c e.ws

/-- An input of the entry is sealed (Table SEAL-1, R259, R267). -/
def State.inputSealed (s : State) (c : Nat) (e : TalEntry) : Bool :=
  let w := e.ws
  e.iseal || match wsOpc w with
  | 1 => s.topSealed c e || (wsAdd w && s.unitTags c (d4f w 0 12) (pairRows (d3f w 9 9)))
  | 2 | 3 => s.unitTags c (d2f w 0 12) (if d1f w 0 2 = 3 then 2 else 1) || (d1f w 10 1 == 1 && s.unitTag c (d4f w 0 12))
  | 4 => s.unitTag c (d2f w 0 12) || (d1f w 5 1 == 1 && s.unitTag c (d4f w 0 12))
  | 5 => s.unitTags c (d4f w 0 12) (pairRows (d3f w 9 9)) || s.mergeSealed c w
  | 6 => s.unitTag c (d1f w 0 12)
  | _ => false

/-- The unit's sealed flag at the start of an operation (R45). -/
def State.tallySeal (s : State) (c : Nat) (b : Bool) : State := s.setTally c { s.tally c with sealedFlag := b }

/-- Entry n begins. -/
def State.tallyBegin (s : State) (c n : Nat) (e : TalEntry) : State :=
  let t := 8 * c + wsTile e.ws
  if wsOpc e.ws = 1 ∧ ¬ s.domOn (domTQ t) then s.tallyFinish c n e 3 false
  else if wsOpc e.ws = 1 ∧ s.fenced t then s.tallyFinish c n e 4 false
  else
    let s1 := s.tallySeal c (s.inputSealed c e)
    let u := s1.tally c
    let e1 := { e with
      phase := if wsOpc e.ws = 1 then .inTile else .running
      seq := u.starts
      elems := if wsOpc e.ws = 1 then s.topElems c e else []
      inSealed := if wsOpc e.ws = 1 then s.topSealed c e else e.iseal }
    s1.setTally c { u with entries := u.entries.set n e1, starts := u.starts + 1 }

/-- TAL_ENTRY_START (R248). -/
def State.tallyStart (s : State) (c : Nat) : State :=
  if !s.unitsAct c then s
  else match s.tallyNext c (s.tally c).entries 0 [] false with
    | some n => match (s.tally c).entries[n]? with
      | some e => s.tallyBegin c n e
      | none => s
    | none => s

/-! ### In the tile (R205-R214, R227-R230, R255) -/

/-- Index of the entry of tile t in a phase that started first. -/
def firstOnTile (l : List TalEntry) (t : Nat) (ph : TalPhase) : Option Nat :=
  let c := (l.zipIdx.filter fun en => en.1.onTile t ph)
  c.foldl (fun best en => match best with
    | some b => if (l[b]?.map (·.seq)).getD 0 ≤ en.1.seq then best else some en.2
    | none => some en.2) none

/-- The tile may run a compute operation now (Table TILE-9, R228, R241). -/
def State.mayCompute (s : State) (t : Nat) : Bool :=
  !s.tileComputing t && (s.tile t).check.isNone &&
  match (s.tile t).long with
  | some l => l.phase == .between && l.allow != 0
  | none => true

/-- TILE_COMPUTE_START: the operation in the tile that came first begins (R212, R45). -/
def State.computeStart (s : State) (t : Nat) : State :=
  let c := t / 8
  if !s.domOn (domTQ t) || !s.mayCompute t then s
  else match firstOnTile (s.tally c).entries t .inTile with
    | some n => match (s.tally c).entries[n]? with
      | some e =>
        let s1 := s.zeroAcc t
        let x := s1.tile t
        let s2 := s1.setTile t { x with
          sealedFlag := e.inSealed
          trims := s.trimBytes t
          long := x.long.map fun l => { l with allow := l.allow - 1 } }
        let u := s2.tally c
        s2.setTally c { u with entries := u.entries.set n { e with phase := .computing, mixed := !x.genValid } }
      | none => s
    | none => s

/-- Lane k of a finished operation: a column, or a W8 pair of columns (R204, R255). -/
def accLane (acc : Tab Int) (w8 : Bool) (k : Nat) : Int :=
  if w8 then tabGet (fun _ => 0) acc (2 * k) + 16 * tabGet (fun _ => 0) acc (2 * k + 1) else tabGet (fun _ => 0) acc k

/-- TILE_COMPUTE_DONE: the passes' results stand in the tile and go back to the tally unit (R212, R230). -/
def State.computeDone (s : State) (t : Nat) : State :=
  let c := t / 8
  match firstOnTile (s.tally c).entries t .computing with
  | none => s
  | some n => match (s.tally c).entries[n]? with
    | none => s
    | some e =>
      let w := e.ws
      let x := s.tile t
      let fmt := d1f w 3 3
      let r := s.passes t fmt (d1f w 6 2) (d1f w 12 4) e.elems
      let lanes := (List.range (d3f w 9 9)).map fun i => accLane r.acc (d1f w 8 1 == 1) (d3f w 0 9 + i)
      let s1 := (s.setFld (F.TILE_CLIP_COUNT t) (min 65535 r.clips)).setFld (F.TILE_CLIP_GRP t) r.groups
      let s2 := if e.inSealed then s1
        else ((s1.incFld (F.TILE_CLIPTOT_COUNT t) r.clips).incFld (F.TILE_SKIPTOT_COUNT t) r.skipped).incFld
          (F.TILE_PASSTOT_COUNT t) r.converted
      let u := s2.tally c
      let s3 := s2.setTally c { u with
        entries := u.entries.set n { e with phase := .back, lanes := lanes, mixed := e.mixed || !x.genValid } }
      let s4 := s3.setTile t { x with
        acc := r.acc
        long := x.long.map fun l => if l.phase == .between && (l.allow == 0 || s3.tileWaiting t == 0) && !s.flag (F.PWR_DOM_PEND (domTQ t))
          then { l with phase := .step } else l }
      { s4 with free := s4.free + planeCount fmt }

/-! ### Writing results (R257-R263) -/

/-- Lane j of a row pair (R257). -/
def pairLane (lo hi : List Byte) (j : Nat) : Int := signed 48 (laneAt lo 3 j + 2 ^ 24 * laneAt hi 3 j)

/-- The two rows of a pair as a unit reads them, and whether one is sealed. -/
def State.pairRead (s : State) (c r : Nat) : List Byte × List Byte × Bool :=
  (s.unitRow c r, s.unitRow c (r + 1), s.unitTag c r || s.unitTag c (r + 1))

/-- n lanes of the row pairs from row r on. -/
def State.pairLanes (s : State) (c r n : Nat) : List Int :=
  (List.range n).map fun i => let p := s.pairRead c (r + 2 * (i / 128)); pairLane p.1 p.2.1 (i % 128)

/-- The row written by an entry, with its tag and, for FIN with ZV, its fresh mark (R47, R77, R263; log entry 84). -/
def State.tallyRow (s : State) (c r : Nat) (w : WordSet) (bs : List Byte) (t : Bool) : State :=
  let s1 := s.unitWrite c r bs t
  if wsFin w && wsZv w && s1.spOn c then s1.setFreshMark c r (d0f w 14 6) else s1

/-- The state, and whether every row so far was written open. -/
abbrev TalOut := State × Bool

/-- Pair k of a TOP with FIN 0 (R258, R259): lanes of `vs` from lane 128 k on; `t` says that an input is sealed. -/
def State.writePair (c : Nat) (e : TalEntry) (vs : List Int) (t : Bool) (a : TalOut) (k : Nat) : TalOut :=
  let s := a.1
  let part := (vs.drop (128 * k)).take 128
  let r := d4f e.ws 0 12 + 2 * k
  let p := s.pairRead c r
  let add := wsAdd e.ws
  let sums := part.zipIdx.map fun vi => if add then pairLane p.1 p.2.1 vi.2 + vi.1 else vi.1
  let wrapped := sums.any fun v => decide (v < -(2 : Int) ^ 47) || decide ((2 : Int) ^ 47 ≤ v)
  let t := t || (add && p.2.2)
  let s1 := if wrapped then s.setFld (F.TAL_DSTAT_P48OVF c) 1 else s
  let lo := putLanes p.1 3 0 (sums.map fun v => unsigned 48 v % 2 ^ 24)
  let hi := putLanes p.2.1 3 0 (sums.map fun v => unsigned 48 v / 2 ^ 24)
  ((s1.tallyRow c r e.ws lo t).tallyRow c (r + 1) e.ws hi t, a.2 || t)

/-- Least and greatest value of an output format (R260). -/
def outRange : Nat → Int × Int
  | 0 => (-128, 127)
  | 1 => (0, 255)
  | _ => (-8388608, 8388607)

/-- One lane of a FIN: words so far, clamped lanes, the LFSR (R260, R262). -/
def finLane (ofmt rm shift : Nat) (a : List Nat × Nat × Nat) (v : Int) : List Nat × Nat × Nat :=
  let q := roundSh v shift rm a.2.2
  let f := fit q.1 (outRange ofmt).1 (outRange ofmt).2 24 true
  (a.1 ++ [f.1], a.2.1 + b2n f.2, q.2)

/-- FIN of lanes: rounded and clamped words, clamped lanes, the LFSR after them (R260, R262). -/
def finLanes (ofmt rm shift : Nat) (vs : List Int) (lfsr : Nat) : List Nat × Nat × Nat :=
  vs.foldl (finLane ofmt rm shift) ([], 0, lfsr)

/-- An entry rounds with RST, so its lanes wait for those of entries that started before it (R262). -/
def drawsRst (e : TalEntry) : Bool := wsFin e.ws && wsRm e.ws == 3 && (wsOpc e.ws == 1 || wsOpc e.ws == 5) && e.status == 0

/-- Another RST entry of cluster c runs that started before `lim` starts. -/
def State.rstRuns (s : State) (c seq lim : Nat) : Bool :=
  (s.tally c).entries.any fun x => x.phase != .queued && drawsRst x && x.seq != seq && decide (x.seq < lim)

/-- The lanes of an entry's FIN and the LFSR after them. A seed write that met the entry while it ran leaves open how many
of its lanes took the old sequence; where all did, the next entry that ran then goes on with it (R281; log entry 85). -/
def State.finRound (s : State) (c : Nat) (e : TalEntry) (vs : List Int) : List Nat × Nat × State :=
  let w := e.ws
  let lanes := finLane (wsOfmt w) (wsRm w) (d3f w 18 6)
  let now := s.fld (F.TAL_RSTSEED_STATE c)
  match (s.tally c).reseed with
  | some (old, lim) =>
    if drawsRst e && decide (e.seq < lim) then
      let k := s.open_ (vs.length + 1)
      let a := (vs.take k).foldl lanes ([], 0, old)
      let b := (vs.drop k).foldl lanes (a.1, a.2.1, now)
      let goes := k == vs.length && s.rstRuns c e.seq lim
      let s1 := (s.setTally c { s.tally c with reseed := if goes then some (a.2.2, lim) else none }).drawn
      (b.1, b.2.1, s1.setFld (F.TAL_RSTSEED_STATE c) b.2.2)
    else
      let q := vs.foldl lanes ([], 0, now)
      (q.1, q.2.1, s.setFld (F.TAL_RSTSEED_STATE c) q.2.2)
  | none =>
    let q := finLanes (wsOfmt w) (wsRm w) (d3f w 18 6) vs now
    (q.1, q.2.1, s.setFld (F.TAL_RSTSEED_STATE c) q.2.2)

/-- A write of TAL_RSTSEED (R262); RST entries that run meet both sequences (R281). -/
def State.writeSeed (s : State) (c v : Nat) : State :=
  let u := s.tally c
  let s1 := if u.reseed.isNone ∧ u.entries.any (fun x => x.phase != .queued && drawsRst x) = true then
      s.setTally c { u with reseed := some (s.fld (F.TAL_RSTSEED_STATE c), u.starts) }
    else s
  s1.setFld (F.TAL_RSTSEED_STATE c) (lfsrLoad v)

/-- Output row k of a FIN (R259, R261). -/
def State.writeOut (c : Nat) (e : TalEntry) (words : List Nat) (t : Bool) (a : TalOut) (k : Nat) : TalOut :=
  let s := a.1
  let wide := wsOfmt e.ws = 2
  let per := if wide then 128 else 384
  let part := (words.drop (per * k)).take per
  let r := d4f e.ws 12 12 + k
  (s.tallyRow c r e.ws (putLanes (s.unitRow c r) (if wide then 3 else 1) 0 part) t, a.2 || t)

/-- FIN of an entry: lanes `vs`, sealed as `t` says; SHIFT stands at D3[23:18] for TOP and FINR alike. -/
def State.finish (s : State) (c : Nat) (e : TalEntry) (vs : List Int) (t : Bool) : TalOut :=
  let w := e.ws
  let q := s.finRound c e vs
  let s1 := q.2.2.incFld (F.TAL_DSTAT_SAT c) q.2.1
  (List.range (finRows (wsOfmt w) vs.length)).foldl (State.writeOut c e q.1 t) (s1, false)

/-- The writes of a TOP. -/
def State.completeTop (s : State) (c : Nat) (e : TalEntry) : TalOut :=
  let w := e.ws
  let t := e.inSealed || s.mergeSealed c w
  if wsFin w then
    if wsAdd w then
      let old := s.pairLanes c (d4f w 0 12) (d3f w 9 9)
      s.finish c e (List.zipWith (· + ·) old e.lanes) (t || s.unitTags c (d4f w 0 12) (pairRows (d3f w 9 9)))
    else s.finish c e e.lanes t
  else (List.range (rowsFor (d3f w 9 9) 128)).foldl (State.writePair c e e.lanes t) (s, false)

/-! ### Reductions and inserts (R264-R267) -/

/-- The value of lane k of a reduction's row (R264). -/
def redLane (sfmt : Nat) (lo hi : List Byte) (k : Nat) : Int :=
  match sfmt with
  | 0 => laneAt lo 1 k
  | 1 => signed 8 (laneAt lo 1 k)
  | 2 => signed 24 (laneAt lo 3 k)
  | _ => pairLane lo hi k

/-- The pad of a reduction saturated to its format (R264). -/
def redPad (sfmt : Nat) (pad : Word) : Int :=
  let v := signed 24 pad.toNat
  match sfmt with
  | 0 => clampI 0 255 v
  | 1 => clampI (-128) 127 v
  | _ => v

/-- The winner of a list of values: the first of the greatest (or least), with its offset (R264, R282). -/
def winner (isMax : Bool) : List Int → Int × Nat
  | [] => (0, 0)
  | v :: vs => (vs.zipIdx 1).foldl (fun b x =>
      if (if isMax then decide (b.1 < x.1) else decide (x.1 < b.1)) then (x.1, x.2) else b) (v, 0)

/-- A row with a bit field replaced, the rest kept (MERGE) or zero. -/
def rowField (old : List Byte) (merge : Bool) (pos width v : Nat) : List Byte :=
  toBytes 384 (putBits (if merge then ofBytes old else 0) pos width v)

/-- The write of a MAXR or MINR. -/
def State.completeRed (s : State) (c : Nat) (e : TalEntry) : TalOut :=
  let w := e.ws
  let sfmt := d1f w 0 2
  let src := d2f w 0 12
  let dst := d4f w 0 12
  let lo := s.unitRow c src
  let hi := s.unitRow c (src + 1)
  let vs := (List.range (d3f w 0 9)).map fun i =>
    if d1f w 2 1 = 1 ∧ d3f w 9 9 ≤ i then redPad sfmt e.pad else redLane sfmt lo hi (d2f w 12 9 + i)
  let b := winner (wsOpc w == 2) vs
  let t := s.inputSealed c e
  let s1 := (((s.setFld (F.TAL_REDIDX_IDX c) b.2).setFld (F.TAL_REDIDX_VALID c) 1).setFld (F.TAL_REDVAL0_VAL c)
    (unsigned 48 b.1 % 2 ^ 24)).setFld (F.TAL_REDVAL1_VAL c) (unsigned 48 b.1 / 2 ^ 24)
  (s1.tallyRow c dst w (rowField (s.unitRow c dst) (d1f w 10 1 == 1) (d4f w 12 12) (d1f w 5 5) b.2) t, t)

/-- The write of an INS. -/
def State.completeIns (s : State) (c : Nat) (e : TalEntry) : TalOut :=
  let w := e.ws
  let dst := d4f w 0 12
  let v := bitsOf (ofBytes (s.unitRow c (d2f w 0 12))) (d3f w 0 12) (d1f w 0 5)
  let t := s.inputSealed c e
  (s.tallyRow c dst w (rowField (s.unitRow c dst) (d1f w 5 1 == 1) (d4f w 12 12) (d1f w 0 5) v) t, t)

/-- The writes of a FINR. -/
def State.completeFinr (s : State) (c : Nat) (e : TalEntry) : TalOut :=
  let w := e.ws
  s.finish c e (s.pairLanes c (d4f w 0 12) (d3f w 9 9)) (s.inputSealed c e)

/-- Entry e may complete: its results are there, and its draws are next. -/
def State.tallyReady (s : State) (c : Nat) (e : TalEntry) : Bool :=
  (if wsOpc e.ws = 1 ∨ wsOpc e.ws = 6 then e.phase == .back else e.phase == .running) &&
  (!drawsRst e || (s.tally c).entries.all fun x => x.phase == .queued || !drawsRst x || decide (e.seq ≤ x.seq))

/-- The writes of an entry, and whether one was sealed. -/
def State.tallyWrites (s : State) (c : Nat) (e : TalEntry) : TalOut :=
  if e.status ≠ 0 then (s, false)
  else match wsOpc e.ws with
  | 1 => s.completeTop c e
  | 2 | 3 => s.completeRed c e
  | 4 => s.completeIns c e
  | 5 => s.completeFinr c e
  | 6 => (s.frankWrite c (e.elems.map (BitVec.ofNat 8)), false)
  | _ => (s, false)

/-- TAL_ENTRY_COMPLETE of the entry at place n of the queue (R269). -/
def State.tallyComplete (s : State) (c n : Nat) : State :=
  match (s.tally c).entries[n]? with
  | some e =>
    if s.unitsAct c && s.tallyReady c e then
      let o := s.tallyWrites c e
      (if o.2 then o.1.tallySeal c true else o.1).tallyFinish c n e e.status o.2
    else s
  | none => s

/-- FRANK_DEBIT: the first FRANK that runs meets the meter (R50, R52). -/
def State.tallyDebit (s : State) (c : Nat) : State :=
  let u := s.tally c
  if !s.unitsAct c then s
  else match u.entries.zipIdx.find? fun en => wsOpc en.1.ws == 6 && en.1.phase == .running with
  | some (e, n) =>
    let o := s.frankDebit c (d1f e.ws 0 12) (d2f e.ws 0 12) (d3f e.ws 0 9)
    let u1 := o.1.tally c
    o.1.setTally c { u1 with entries := u1.entries.set n { e with
      phase := .back, status := o.2.1, elems := o.2.2.map (·.toNat) } }
  | none => s

/-! ### Aborts (R285) -/

/-- Entries of the queue that `p` takes complete ABORTED: those not started at once, a TOP in a tile when its passes
are over, one that already runs as it would. -/
def State.tallyAbort (s : State) (c : Nat) (p : TalEntry → Bool) : State :=
  let u := s.tally c
  let gone := u.entries.filter fun e => p e && e.phase == .queued
  let kept := (u.entries.filter fun e => !(p e && e.phase == .queued)).map fun e =>
    if p e && wsOpc e.ws == 1 then { e with status := 2 } else e
  gone.foldl (fun s e => s.tallyReport c e 2 false) (s.setTally c { u with entries := kept })

/-- A cluster reset ends every entry: a FRANK past its debit writes its ring row and completes, every other one completes
ABORTED (R285). -/
def State.tallyReset (s : State) (c : Nat) : State :=
  (s.tally c).entries.foldl (fun s e =>
    if wsOpc e.ws = 6 ∧ e.phase = .back then (s.tallyWrites c e).1.tallyReport c e e.status false
    else s.tallyReport c e 2 false) s

/-! ### Commands -/

/-- TOP (R250). -/
def execTop (c : Fin 4) (p : Fin 3) (ini : Initiator) (ws : WordSet) (s : State) : Host.Outcome State Fault Refusal :=
  ok (s.issueOpc 1 c p ini ws)

/-- MAXR (R264). -/
def execMaxr (c : Fin 4) (p : Fin 3) (ini : Initiator) (ws : WordSet) (s : State) : Host.Outcome State Fault Refusal :=
  ok (s.issueOpc 2 c p ini ws)

/-- MINR (R264). -/
def execMinr (c : Fin 4) (p : Fin 3) (ini : Initiator) (ws : WordSet) (s : State) : Host.Outcome State Fault Refusal :=
  ok (s.issueOpc 3 c p ini ws)

/-- INS (R266). -/
def execIns (c : Fin 4) (p : Fin 3) (ini : Initiator) (ws : WordSet) (s : State) : Host.Outcome State Fault Refusal :=
  ok (s.issueOpc 4 c p ini ws)

/-- FINR (R260). -/
def execFinr (c : Fin 4) (p : Fin 3) (ini : Initiator) (ws : WordSet) (s : State) : Host.Outcome State Fault Refusal :=
  ok (s.issueOpc 5 c p ini ws)

/-- FRANK: its word set enters the queue (R49, R268). -/
def execFrank (c : Fin 4) (p : Fin 3) (ini : Initiator) (ws : WordSet) (s : State) : Host.Outcome State Fault Refusal :=
  ok (s.issueOpc 6 c p ini ws)

/-- FRANK_DEBIT (R50). -/
def execFrankDebit (c : Fin 4) (s : State) : Host.Outcome State Fault Refusal := ok (s.tallyDebit c)

/-- SYNC (R268). -/
def execSync (c : Fin 4) (p : Fin 3) (ini : Initiator) (ws : WordSet) (s : State) : Host.Outcome State Fault Refusal :=
  ok (s.issueOpc 7 c p ini ws)

/-- TAL_ENTRY_START (R248). -/
def execTalEntryStart (c : Fin 4) (s : State) : Host.Outcome State Fault Refusal := ok (s.tallyStart c)

/-- TILE_COMPUTE_START (R212). -/
def execTileComputeStart (t : Fin 32) (s : State) : Host.Outcome State Fault Refusal := ok (s.computeStart t)

/-- TILE_COMPUTE_DONE (R210). -/
def execTileComputeDone (t : Fin 32) (s : State) : Host.Outcome State Fault Refusal := ok (s.computeDone t)

/-- TAL_ENTRY_COMPLETE (R269). -/
def execTalEntryComplete (c : Fin 4) (n : Fin 16) (s : State) : Host.Outcome State Fault Refusal :=
  ok (s.tallyComplete c n)

/-- The oldest completion removed (Table TOP-15). -/
def State.tallyPop (s : State) (c : Nat) : State := s.setTally c { s.tally c with cpl := (s.tally c).cpl.drop 1 }

/-- TAL_CPLPOP: a write of 1 to TAL_CPLPOP.POP. -/
def execTalCplpop (ini : Initiator) (c : Fin 4) (s : State) : Host.Outcome State Fault Refusal :=
  ok (s.cmdWrite ini (Reg.TAL_CPLPOP c) fun s => s.tallyPop c)

/-- TAL_RSTSEED_WRITE (R262). -/
def execTalRstseedWrite (ini : Initiator) (c : Fin 4) (v : Word) (s : State) : Host.Outcome State Fault Refusal :=
  ok (s.cmdWrite ini (Reg.TAL_RSTSEED c) fun s => s.writeSeed c v.toNat)

end Sys2Proof.Machine
end

