-- ==== Sys2Proof/Machine/Round.lean ====
section
/-! DEFINITION. Scratchpads as their narrow and system-port accesses see them, the Round with its posted writes, reads
and returned mail, and the owners and clearings of clusters (06_scratchpad.md, R724, R726). -/

namespace Sys2Proof.Machine

open Sys2Proof

/-! ### Bytes of scratchpads by address (R168, R170, R171, R38) -/

/-- The address shows a populated byte of a row (Table CLK-7). -/
def populated (a : Nat) : Bool := decide (a < 0x00800000) && decide (a % 0x200 < 384)

/-- A byte of a scratchpad: bytes 384-511 of a row's place read as zero. -/
def State.spByte (s : State) (a : Nat) : Byte := if populated a then s.byte a else 0

/-- Bytes of a scratchpad from an address on. -/
def State.spBytes (s : State) (a n : Nat) : List Byte := (List.range n).map fun i => s.spByte (a + i)

/-- The row an address lies in, by scratchpad and row. -/
def rowAt (a : Nat) : Nat × Nat := (a / 0x200000, a % 0x200000 / 0x200)

/-- The tag of the row an address lies in. -/
def State.tagAt (s : State) (a : Nat) : Bool := s.tag (rowAt a).1 (rowAt a).2

/-- A byte of n from an address on lies in a sealed row. -/
def State.spSealed (s : State) (a n : Nat) : Bool := (List.range n).any fun i => populated (a + i) && s.tagAt (a + i)

/-- One byte written: its row's tag takes the OR, its fresh mark goes (R38, R48). -/
def State.spPut (s : State) (a : Nat) (b : Byte) (t : Bool) : State :=
  if populated a then s.writePart (rowAt a).1 (rowAt a).2 (a % 0x200) [b] t else s

/-- A partial write of bytes from an address on (R38). -/
def State.spWrite (s : State) (a : Nat) (t : Bool) : List Byte → State
  | [] => s
  | b :: bs => (s.spPut a b t).spWrite (a + 1) t bs

/-! ### Ways round (R175, R724) -/

/-- Links a packet crosses clockwise from one stop to another. -/
def cwLinks (src tgt : Nat) : List Nat := (List.range ((tgt + 4 - src) % 4)).map fun i => (src + i) % 4

/-- Links a packet crosses counter-clockwise. -/
def ccwLinks (src tgt : Nat) : List Nat := (List.range ((src + 4 - tgt) % 4)).map fun i => (src + 3 - i) % 4

/-- No link of a way is fenced. -/
def State.wayFree (s : State) (ls : List Nat) : Bool := ls.all fun j => !s.fenced (36 + j)

/-- The way of a new packet: clockwise or not, or none when both ways cross a fenced link. -/
def State.way (s : State) (src tgt : Nat) : Option Bool :=
  let cw := s.wayFree (cwLinks src tgt)
  let ccw := s.wayFree (ccwLinks src tgt)
  if cw && ccw then some (decide ((cwLinks src tgt).length ≤ (ccwLinks src tgt).length))
  else if cw then some true
  else if ccw then some false
  else none

/-- Links of the way a packet took. -/
def Packet.links (p : Packet) : List Nat := if p.cw then cwLinks p.src p.tgt else ccwLinks p.src p.tgt

/-! ### Sending (R176, R178, R180, R724) -/

/-- Posted writes of a stop that are unacknowledged (R178). -/
def State.outWrites (s : State) (c : Nat) : Nat := (s.flight.filter fun p => p.src == c && !p.read).length

/-- Outstanding reads of a stop (R178). -/
def State.outReads (s : State) (c : Nat) : Nat := (s.flight.filter fun p => p.src == c && p.read).length

/-- The context that owns cluster c. -/
def State.ownerCtx (s : State) (c : Nat) : Nat := s.fld (F.CLU_OWNER_CTX c)

/-- Numbers of the lost writes that the mark of cluster c stands for (R185). -/
def State.lostOf (s : State) (c : Nat) : List Nat := tabGet (fun _ => []) s.lostPosted c

/-- A posted write lost: its count and the mark of the context it was issued for (R180, R182). -/
def State.lostWrite (s : State) (p : Packet) : State :=
  { ((s.incFld (F.RND_PERR_COUNT p.src) 1).setFld (F.RND_PMARK_CTX p.src) p.ctx).setFld (F.RND_PMARK_PEND p.src) 1 with
    lostPosted := tabSet (fun _ => []) s.lostPosted p.src (s.lostOf p.src ++ [p.seq]) }

/-- A packet takes its number as it is issued. -/
def State.numbered (s : State) (p : Packet) : State × Packet :=
  if p.read then (s, p) else ({ s with posted := s.posted + 1 }, { p with seq := s.posted })

/-- What becomes of a packet at its source stop. -/
inductive Sent where
  /-- The stop has taken it, or it is lost at once. -/
  | done (s : State)
  /-- A read that brings zero with tag 0. -/
  | zero (s : State)
  /-- The initiator stalls (R178, R724). -/
  | stall
  deriving DecidableEq, Repr

/-- A packet offered to its source stop by an initiator. -/
def State.send (s : State) (ini : Initiator) (p : Packet) : Sent :=
  let n := s.numbered p
  if !s.domOn 8 then
    if p.read then .zero (s.dark ini p.addr false) else .done ((n.1.dark ini p.addr true).lostWrite n.2)
  else match s.way p.src p.tgt with
  | none =>
    if p.read then .zero (s.incFld (F.RND_RDERR_COUNT p.src) 1) else .done ((n.1.dark ini p.addr true).lostWrite n.2)
  | some w =>
    if s.flight.any fun q => q.src == p.src && q.tgt == p.tgt && q.cw != w then .stall
    else if (if p.read then decide (8 ≤ s.outReads p.src) else decide (32 ≤ s.outWrites p.src)) then .stall
    else .done { n.1 with flight := n.1.flight ++ [{ n.2 with cw := w, stage := .flying }] }

/-! ### Arrival (R181-R184, R187, R192, R194, R738) -/

/-- The lowest cause of Table SPD-3 that holds at a target, if one does. -/
def State.dropCause (s : State) (c : Nat) : Option Nat :=
  let d := domSP c
  let leaving := s.flag (F.PWR_DOM_BUSY d)
  let tgt := tabGet (fun _ => 2) s.target d
  if s.dom d = 0 ∨ (s.dom d = 2 ∧ leaving ∧ tgt = 0) then some 0
  else if s.dom d = 1 ∨ (leaving ∧ tgt = 1) then some 1
  else if s.fenced (32 + c) then some 2
  else if s.inClReset c || s.clearing c then some 3
  else none

/-- Index of the first packet from one stop to another that flies (R179). -/
def State.nextPacket (s : State) (src tgt : Nat) : Option Nat :=
  s.flight.findIdx? fun p => p.src == src && p.tgt == tgt && p.stage == .flying

/-- A returned-mail entry at its target's log (R182-R184). -/
def State.mailEntry (s : State) (p : Packet) (cause : Nat) : State :=
  let masked := p.sealedIssue || p.tag
  let e : Mail := { src := p.src, row := if masked then 0 else (rowAt p.addr).2, ctx := p.ctx, cause := cause,
                    wide := p.wide, masked := masked }
  let l := tabGet (fun _ => []) s.mail p.tgt
  if l.length < 16 then { s with mail := tabSet (fun _ => []) s.mail p.tgt (l ++ [e]) } else s.incFld (F.RND_RMCNT_OVF p.tgt) 1

/-- Bits of FLT_RNDRETRY of a link. -/
def rndRetryFld (j : Nat) : Fld := ⟨Reg.FLT_RNDRETRY, 6 * j, 6⟩

/-- The repeats of a packet on one link of its way (R726): counted; after four failures the packet is dropped and
RNDFAIL logged. Answers whether it is dropped. -/
def State.linkRepeats (s : State) (p : Packet) (link repeats : Nat) : State × Bool :=
  if repeats = 0 ∨ !p.links.contains link then (s, false)
  else
    let s1 := s.incFld (rndRetryFld link) (min repeats 3)
    if repeats < 4 then (s1, false) else (s1.fault 0x0C (36 + link) 0 true, true)

/-- ROUND_WRITE_ARRIVAL (R181, R182, R726). -/
def State.writeArrives (s : State) (src tgt link repeats : Nat) : State :=
  match s.nextPacket src tgt with
  | some n => match s.flight[n]? with
    | some p =>
      if p.read then s
      else
        let q := s.linkRepeats p link repeats
        if q.2 then { q.1 with flight := q.1.flight.eraseIdx n }.lostWrite p
        else match q.1.dropCause tgt with
        | some k =>
          let s1 := q.1.mailEntry p k
          { s1 with flight := s1.flight.set n { p with stage := .returned } }
        | none =>
          let s1 := if p.wide then q.1.writeWide (rowAt p.addr).1 (rowAt p.addr).2 p.data p.tag else q.1.spWrite p.addr p.tag p.data
          { s1 with flight := s1.flight.set n { p with stage := .accepted } }
    | none => s
  | none => s

/-- ROUND_WRITE_ACK: an acknowledgement reaches its source stop. -/
def State.writeAck (s : State) (src : Nat) : State :=
  match s.flight.findIdx? fun p => p.src == src && p.stage == .accepted with
  | some n => { s with flight := s.flight.eraseIdx n }
  | none => s

/-- ROUND_RETURN_NOTICE (R182 steps 3 and 4). -/
def State.returnNotice (s : State) (src : Nat) : State :=
  match s.flight.findIdx? fun p => p.src == src && p.stage == .returned with
  | some n => match s.flight[n]? with
    | some p => ({ s with flight := s.flight.eraseIdx n }.lostWrite p).fire (48 + src)
    | none => s
  | none => s

/-- Core k enters sealed state (R40). -/
def State.enterSealed (s : State) (k : Nat) : State := (s.setCore k { s.core k with sealedSt := true }).sealLock k

/-- A general register of a core (R323). -/
def CoreSt.reg (c : CoreSt) (r : Nat) : Word := if r = 0 then 0 else tabGet (fun _ => 0) c.g r

/-- A general register written; g0 discards (R323). -/
def CoreSt.setReg (c : CoreSt) (r : Nat) (v : Word) : CoreSt :=
  if r = 0 then c else { c with g := tabSet (fun _ => 0) c.g r v }

/-- The data of a load reaches its core: register, and sealed state where the data is sealed (R40, R331). -/
def State.loadDone (s : State) (k : Nat) (v : Word) (t : Bool) : State :=
  let c := s.core k
  match c.load with
  | some rd =>
    let s1 := s.setCore k { c.setReg rd v with load := none, sealedSt := c.sealedSt || t }.settle
    if t then s1.sealLock k else s1
  | none => s

/-- The data of a remote read reaches its reader: the core of the source cluster, or its mover. -/
def State.deliverRead (s : State) (p : Packet) (bs : List Byte) (t : Bool) : State :=
  if p.wide then
    let m := tabGet (fun _ => ({} : Mover)) s.movers p.src
    { s with movers := tabSet (fun _ => {}) s.movers p.src { m with
        jobs := m.jobs.map fun j => if j.running then { j with got := j.got ++ [(bs, t)] } else j } }
  else s.loadDone p.src (BitVec.ofNat 24 (ofBytes bs)) t

/-- ROUND_READ: the first packet from one stop to another is a read, and its data comes back (R176, R187). -/
def State.roundRead (s : State) (src tgt link repeats : Nat) : State :=
  match s.nextPacket src tgt with
  | some n => match s.flight[n]? with
    | some p =>
      if !p.read then s
      else
        let q := s.linkRepeats p link repeats
        let s1 := { q.1 with flight := q.1.flight.eraseIdx n }
        let len := if p.wide then 384 else 3
        if q.2 || (s1.dropCause tgt).isSome then
          (s1.incFld (F.RND_RDERR_COUNT src) 1).deliverRead p (List.replicate len 0) false
        else s1.deliverRead p (s1.spBytes p.addr len) (s1.spSealed p.addr len)
    | none => s
  | none => s

/-- RND_RMPOP: the oldest entry of a log goes (R183). -/
def State.mailPop (s : State) (c : Nat) : State :=
  { s with mail := tabSet (fun _ => []) s.mail c ((tabGet (fun _ => []) s.mail c).drop 1) }

/-! ### Owners and clearings (R174, R186, R190, R191) -/

/-- The pending owner of a cluster. -/
def State.newOwner (s : State) (c : Nat) : Nat := tabGet (fun _ => 0) s.nextCtx c

/-- A write of CLU_OWNER.CTX. R190 says nothing of a write while a change waits: a further different value replaces the
one that waits, and the current owner's value changes nothing (log entry 80). -/
def State.writeOwner (s : State) (c v : Nat) : State :=
  if v = s.ownerCtx c then s
  else { s.setFld (F.CLU_OWNER_PEND c) 1 with nextCtx := tabSet (fun _ => 0) s.nextCtx c v }

/-- A tile has an operation running: a compute operation, or a long operation, check or sweep, between its row steps too
(R190 step 1). -/
def State.tileRuns (s : State) (t : Nat) : Bool := (s.tile t).long.isSome || (s.tile t).check.isSome || s.tileBusy t

/-- Units of cluster c have work running or queued (R190 step 1). -/
def State.unitsBusy (s : State) (c : Nat) : Bool :=
  !(s.tally c).entries.isEmpty || !(tabGet (fun _ => ({} : Mover)) s.movers c).jobs.isEmpty ||
  (let d := tabGet (fun _ => ({} : Dfa)) s.dfas c
   d.run.isSome || !d.queue.isEmpty) ||
  ((List.range 8).any fun i => s.tileRuns (8 * c + i))

/-- The mark of a source cluster moved into RND_LATEc and cleared (R186). -/
def State.moveMark (s : State) (c : Nat) : State :=
  if s.flag (F.RND_PMARK_PEND c) then
    let s1 := if s.flag (F.RND_LATE_VALID c) then s.setFld (F.RND_LATE_MULTI c) 1 else s
    { ((s1.setFld (F.RND_LATE_CTX c) (s.ownerCtx c)).setFld (F.RND_LATE_VALID c) 1).setFld (F.RND_PMARK_PEND c) 0 with
      lostPosted := tabSet (fun _ => []) s.lostPosted c [] }
  else s

/-- A clearing begins: the rows read as zero from its start on, and CLEARING stands until it ends (R174, R191). -/
def State.beginClearing (s : State) (c : Nat) : State := (s.clearScratch c).setFld (F.CLU_OWNER_CLEARING c) 1

/-- OWNER_CHANGE_START: the waiting change is carried out once the cluster is quiet (R190 steps 1-5) and no command
dispatched on it is left (R469). -/
def State.ownerChange (s : State) (c : Nat) : State :=
  if s.flag (F.CLU_OWNER_PEND c) && !s.unitsBusy c && !s.frontUses c && s.outWrites c == 0 && !s.clearing c then
    ((s.moveMark c).setFld (F.CLU_OWNER_CTX c) (s.newOwner c)).beginClearing c
  else s

/-- A function-level reset ends once no change of owner it asked for is pending (R463). -/
def State.flrSettle (s : State) : State :=
  if !s.flrDue.isEmpty && s.flrDue.all fun c => !s.flag (F.CLU_OWNER_PEND c) then
    { s with flrDue := [] }.hostEvent 5
  else s

/-- A core whose parcel gives it an entry address runs from there (R157, R347). -/
def State.startCore (s : State) (k : Nat) : State :=
  match (s.core k).start with
  | some pc => s.setCore k { s.core k with pc := pc, run := .run, tvalid := false }
  | none => s

/-- CLEARING_END: PEND and CLU_CLEAR.REQ go with it (R190 step 6, Table SPD-4), and so does a cluster reset, after
which the core restarts (R91, R347). A change of owner that arrived during a clearing of another kind goes on
waiting. -/
def State.endClearing (s : State) (c : Nat) : State :=
  if s.clearing c then
    let s1 := (s.setFld (F.CLU_OWNER_CLEARING c) 0).setFld (F.CLU_CLEAR_REQ c) 0
    let s2 := if s1.flag (F.CLU_OWNER_PEND c) && s1.newOwner c == s1.ownerCtx c then s1.setFld (F.CLU_OWNER_PEND c) 0 else s1
    (if s2.inClReset c then (s2.setFbit F.CLK_CLRST_BUSY c false).startCore c else s2).flrSettle
  else s

/-- CLU_CLEAR.REQ (R190). A write while the cluster is clearing, of which R190 says nothing, starts no second clearing and
leaves REQ as it is (log entry 80). -/
def State.requestClear (s : State) (c : Nat) : State :=
  if s.clearing c then s else (s.setFld (F.CLU_CLEAR_REQ c) 1).beginClearing c

/-! ### Commands -/

/-- OWNER_WRITE (R190). -/
def execOwnerWrite (ini : Initiator) (c : Fin 4) (v : Word) (s : State) : Host.Outcome State Fault Refusal :=
  ok (s.cmdWrite ini (Reg.CLU_OWNER c) fun s => s.writeOwner c (bitsOf v.toNat 0 12))

/-- OWNER_CHANGE_START (R190). -/
def execOwnerChangeStart (c : Fin 4) (s : State) : Host.Outcome State Fault Refusal := ok (s.ownerChange c)

/-- CLU_CLEAR (R190). -/
def execCluClear (ini : Initiator) (c : Fin 4) (s : State) : Host.Outcome State Fault Refusal :=
  ok (s.cmdWrite ini (Reg.CLU_CLEAR c) fun s => s.requestClear c)

/-- CLEARING_END (R174). -/
def execClearingEnd (c : Fin 4) (s : State) : Host.Outcome State Fault Refusal := ok (s.endClearing c)

/-- ROUND_WRITE_ARRIVAL (R181). -/
def execRoundWriteArrival (src : Fin 4) (tgt : Fin 4) (link : Fin 4) (repeats : Fin 5) (s : State) :
    Host.Outcome State Fault Refusal := ok (s.writeArrives src tgt link repeats)

/-- ROUND_RETURN_NOTICE (R182). -/
def execRoundReturnNotice (src : Fin 4) (s : State) : Host.Outcome State Fault Refusal := ok (s.returnNotice src)

/-- ROUND_WRITE_ACK (R176). -/
def execRoundWriteAck (src : Fin 4) (s : State) : Host.Outcome State Fault Refusal := ok (s.writeAck src)

/-- ROUND_READ (R187). -/
def execRoundRead (src : Fin 4) (tgt : Fin 4) (link : Fin 4) (repeats : Fin 5) (s : State) :
    Host.Outcome State Fault Refusal := ok (s.roundRead src tgt link repeats)

/-- RND_RMPOP (R183). -/
def execRndRmpop (ini : Initiator) (c : Fin 4) (s : State) : Host.Outcome State Fault Refusal :=
  ok (s.cmdWrite ini (Reg.RND_RMPOP c) fun s => s.mailPop c)

end Sys2Proof.Machine
end

