-- ==== Sys2Proof/Machine/Cip.lean ====
section
/-! DEFINITION. The AES engine: its buffer, keys, jobs, lock and slot-engine jobs (16_cipher.md). -/

namespace Sys2Proof.Machine

open Sys2Proof

/-! ### Buffer, registers and keys -/

/-- `n` buffer bytes from byte 0. -/
def State.cipBytes (s : State) (n : Nat) : List Byte := tabGetList (fun _ => 0) s.cip.buf 0 n

/-- Buffer bytes written from byte 0 on. -/
def State.setCipBytes (s : State) (bs : List Byte) : State :=
  { s with cip := { s.cip with buf := tabSetList (fun _ => 0) s.cip.buf 0 bs } }

/-- The 16 bytes three to a word from a register on (CIP_IVw, CIP_ETAGw). -/
def State.cipWords (s : State) (a n : Nat) : List Byte :=
  ((List.range ((n + 2) / 3)).flatMap fun w => toBytes 3 (s.reg (a + 4 * w)).toNat).take n

/-- CIP_TAG0-5 set to a tag. -/
def State.setCipTag (s : State) (t : List Byte) : State :=
  (List.range 6).foldl (fun s w => s.setReg (Reg.CIP_TAG w) (BitVec.ofNat 24 (ofBytes ((t.drop (3 * w)).take 3)))) s

/-- A key slot. -/
def State.cipKey (s : State) (k : Nat) : CipKey := tabGet (fun _ => {}) s.cip.keys k

/-- A key slot set. -/
def State.setCipKey (s : State) (k : Nat) (v : CipKey) : State :=
  { s with cip := { s.cip with keys := tabSet (fun _ => {}) s.cip.keys k v } }

/-- An owner may use slot k, which holds `x`, for a job or an unwrap (R551). -/
def CipKey.okFor (x : CipKey) (k o : Nat) : Bool := k != 0 && x.valid && (o == 8 || bitOf x.use (o - 1))

/-- An owner may use a key slot for a job or an unwrap (R551). -/
def State.keyOk (s : State) (o k : Nat) : Bool := (s.cipKey k).okFor k o

/-! ### Jobs (R543-R546) -/

/-- The fields of CIP_MODE, CIP_JOB, CIP_ALEN and CIP_MLEN. -/
def State.jobArgs (s : State) : JobArgs where
  mode := s.fld F.CIP_MODE_MODE
  dec := s.flag F.CIP_MODE_DEC
  enc := s.flag F.CIP_MODE_ENC
  verify := s.flag F.CIP_MODE_VERIFY
  kslot := s.fld F.CIP_MODE_KSLOT
  incw := 2 ^ (4 + s.fld F.CIP_MODE_INCW)
  tagLen := s.fld F.CIP_MODE_TAGLEN
  aLen := s.fld F.CIP_ALEN_LEN
  mLen := s.fld F.CIP_MLEN_LEN
  nb := s.fld F.CIP_JOB_NBYTES
  aad := s.flag F.CIP_JOB_AAD
  first := s.flag F.CIP_JOB_FIRST
  last := s.flag F.CIP_JOB_LAST

/-- What a command written now takes from the registers. -/
def State.cipArgs (s : State) : CipArgs where
  job := s.jobArgs
  iv := s.cipWords (Reg.CIP_IV 0) 16
  etag := s.cipWords (Reg.CIP_ETAG 0) 16
  label := s.cipWords (Reg.CIP_LBL 0) 8
  cluster := s.fld F.CIP_XFER0_CLUSTER
  row := s.fld F.CIP_XFER0_ROW
  offset := s.fld F.CIP_XFER1_OFFSET
  len := s.fld F.CIP_XFER1_LEN
  tslot := s.fld F.CIP_KEYCFG_TSLOT
  size := s.fld F.CIP_KEYCFG_SIZE
  use := s.fld F.CIP_KEYCFG_USE
  toBoot := s.flag F.CIP_KEYCFG_TOBOOT

/-- Parameters within Table CIP-1. -/
def JobArgs.inRange (j : JobArgs) : Bool :=
  match j.mode with
  | 1 => true
  | 2 => decide (j.tagLen ≤ 16)
  | 3 => decide (j.aLen ≤ 65279) && decide (j.mLen ≤ 65535) && [0, 4, 8, 16].contains j.tagLen && (j.tagLen != 0 || j.enc)
  | 4 => j.tagLen == 4 || j.tagLen == 8 || (decide (12 ≤ j.tagLen) && decide (j.tagLen ≤ 16))
  | 5 => decide (4 ≤ j.tagLen) && decide (j.tagLen ≤ 16)
  | _ => false

/-- The mode has a-data and payload phases. -/
def JobArgs.aead (j : JobArgs) : Bool := j.mode == 3 || j.mode == 4

/-- Bytes of the a-data phase: ALEN, and in CCM* its 2-byte length field (R544). -/
def JobArgs.aTotal (j : JobArgs) : Nat := if j.mode = 3 ∧ j.aLen ≠ 0 then j.aLen + 2 else j.aLen

/-- C + G of a job (Table CIP-2). -/
def JobArgs.cost (j : JobArgs) : Nat :=
  let b := (j.nb + 15) / 16
  let f := b2n j.first
  let l := b2n j.last
  match j.mode with
  | 1 | 2 => b
  | 5 => (if j.last then max b 1 else b) + f
  | 3 => if j.aad then b + f else b * (b2n j.enc + b2n (j.tagLen != 0)) + f + l * b2n (j.tagLen != 0)
  | _ => if j.aad then b + 2 * f else b + 2 * f + l

/-- The checks of R546 against the context the job would carry on. -/
def JobArgs.good (j : JobArgs) (c : CipCtx) : Bool :=
  let a := if j.aad then c.aad + j.nb else c.aad
  let p := if j.aad then c.pay else c.pay + j.nb
  j.inRange && decide (j.nb ≤ 1024) && decide (j.cost ≤ 64) &&
  (if j.aead then
    !(j.aad && c.payStarted) && decide (a ≤ j.aTotal) && decide (p ≤ j.mLen) &&
    (j.nb % 16 == 0 || (if j.aad then a == j.aTotal else p == j.mLen)) &&
    (!j.last || (a == j.aTotal && p == j.mLen))
  else !j.aad && (j.nb % 16 == 0 || (j.last && j.mode != 2)))

/-- The context a FIRST job begins with. -/
def newCtx (j : JobArgs) (iv key : List Byte) : CipCtx :=
  match j.mode with
  | 1 => { ctr := beOf iv }
  | 2 => { x := beOf iv }
  | 3 => { x := aesEnc key (ccmB0 iv j.tagLen j.aLen j.mLen), ctr := ccmA iv 1, tagCtr := ccmA iv 0 }
  | 4 => let j0 := beOf (iv.take 12) * 2 ^ 32 + 1
         { h := aesEnc key 0, ctr := ctrAdd 32 1 j0, tagCtr := j0 }
  | _ => {}

/-- One job on its bytes: the context after it and the buffer bytes it leaves. -/
def jobStep (j : JobArgs) (key : List Byte) (c : CipCtx) (d : List Byte) : CipCtx × List Byte :=
  let b := (d.length + 15) / 16
  match j.mode with
  | 1 => ({ c with ctr := ctrAdd j.incw b c.ctr }, xorBytes d (keyStream key j.incw c.ctr d.length))
  | 2 => ({ c with x := cbcMac key c.x (blocksOf d) }, d)
  | 3 =>
    if j.aad then ({ c with x := cbcMac key c.x (blocksOf d), aad := c.aad + d.length }, d)
    else
      let out := if j.enc then xorBytes d (keyStream key 16 c.ctr d.length) else d
      ({ c with x := cbcMac key c.x (blocksOf (if j.dec then out else d)), ctr := ctrAdd 16 b c.ctr,
                pay := c.pay + d.length, payStarted := true }, out)
  | 4 =>
    if j.aad then ({ c with x := ghash c.h c.x (blocksOf d), aad := c.aad + d.length }, d)
    else
      let out := xorBytes d (keyStream key 32 c.ctr d.length)
      ({ c with x := ghash c.h c.x (blocksOf (if j.dec then d else out)), ctr := ctrAdd 32 b c.ctr,
                pay := c.pay + d.length, payStarted := true }, out)
  | _ =>
    let all := c.held ++ d
    let n := cmacSplit all.length
    ({ c with x := cbcMac key c.x (blocksOf (all.take n)), held := all.drop n }, d)

/-- The tag at a LAST job. -/
def jobTag (j : JobArgs) (key : List Byte) (c : CipCtx) : List Byte :=
  match j.mode with
  | 1 => []
  | 2 => beBytes 16 c.x
  | 3 => (beBytes 16 (c.x ^^^ aesEnc key c.tagCtr)).take j.tagLen
  | 4 => (beBytes 16 (ghash c.h c.x [gcmLen j.aLen j.mLen] ^^^ aesEnc key c.tagCtr)).take j.tagLen
  | _ => beBytes 16 (aesEnc key (c.x ^^^ cmacLast key c.held))

/-- A job of either set has completed. -/
def State.countJob (s : State) : State := s.setFld F.CIP_JOBCNT_COUNT (s.fld F.CIP_JOBCNT_COUNT + 1)

/-- JOB: its result code and the state after it (R546). -/
def State.cipJob (s : State) (p : CipOp) : Nat × State :=
  let j := p.args.job
  let c0 : Option CipCtx := if j.first then some {} else s.cip.ctx
  match c0 with
  | none => (3, s)
  | some c0 =>
    if !j.good c0 then (3, s)
    else if !p.key.okFor j.kslot p.owner then (4, s)
    else
      let key := p.key.key
      let r := jobStep j key (if j.first then newCtx j p.args.iv key else c0) (s.cipBytes j.nb)
      let s1 := (s.setCipBytes r.2).countJob
      if j.last then
        let tag := jobTag j key r.1
        let s2 := if j.mode = 1 then s1 else s1.setCipTag tag
        let s3 := { s2 with cip := { s2.cip with ctx := none } }
        (if j.mode != 1 && j.verify && tag.take j.tagLen != p.args.etag.take j.tagLen then 2 else 1, s3)
      else (1, { s1 with cip := { s1.cip with ctx := some r.1 } })

/-! ### Loads and stores (R548-R550) -/

/-- The transfer is refused: its length, offset or last row is out of range. -/
def CipArgs.xferBad (a : CipArgs) : Bool :=
  a.len == 0 || decide (1024 < a.len) || decide (383 < a.offset) || decide (4095 < a.row + (a.offset + a.len - 1) / 384)

/-- The system port reads zeros from a scratchpad, and discards writes to it, while its cluster clears or is in reset
(R91, R191). -/
def State.portShut (s : State) (c : Nat) : Bool := s.clearing c || s.inClReset c

/-- LOAD (R548, R549). -/
def State.cipLoad (s : State) (ini : Initiator) (a : CipArgs) : Nat × State :=
  let rows := List.range ((a.offset + a.len - 1) / 384 + 1)
  if a.xferBad then (3, s)
  else if !s.spOn a.cluster then (3, s.dark ini (rowAddr a.cluster a.row) false)
  else if s.portShut a.cluster then (1, s.setCipBytes (List.replicate a.len 0))
  else if rows.any fun i => s.tag a.cluster (a.row + i) then
    (5, { s with cip := { s.cip with buf := [] } }.refuseEgress F.SEAL_EGRCNT2_OTHER)
  else (1, s.setCipBytes (((rows.flatMap fun i => s.rowBytes a.cluster (a.row + i)).drop a.offset).take a.len))

/-- Bytes written into consecutive rows from a byte of a row on, each write partial (R38). -/
def State.storeRows (s : State) (c row off : Nat) (bs : List Byte) : State :=
  (List.range ((off + bs.length + 383) / 384)).foldl (fun s i =>
    let o := if i = 0 then off else 0
    let seg := if i = 0 then bs.take (384 - off) else (bs.drop (384 * i - off)).take 384
    s.writePart c (row + i) o seg false) s

/-- STORE (R550). -/
def State.cipStore (s : State) (ini : Initiator) (a : CipArgs) : Nat × State :=
  if a.xferBad || a.offset % 4 != 0 || a.len % 4 != 0 then (3, s)
  else if !s.spOn a.cluster then (3, s.dark ini (rowAddr a.cluster a.row) true)
  else (1, if s.portShut a.cluster then s else s.storeRows a.cluster a.row a.offset (s.cipBytes a.len))

/-! ### Key operations (R552-R554) -/

/-- The key bytes of a SIZE. -/
def keyLen (size : Nat) : Nat := if size = 1 then 32 else 16

/-- A key operation's target written (KEYSET, DERIVE, UNWRAP). -/
def State.putKey (s : State) (a : CipArgs) (k : List Byte) : State :=
  s.setCipKey a.tslot { valid := true, size := a.size, use := a.use, key := k }

/-- KEYSET. -/
def State.keySet (s : State) (a : CipArgs) : Nat × State :=
  if a.tslot = 0 then (3, s) else (1, (s.putKey a (s.cipBytes (keyLen a.size))).setCipBytes (List.replicate 32 0))

/-- KEYCLR. -/
def State.keyClr (s : State) (a : CipArgs) : Nat × State :=
  if a.tslot = 0 then (3, s) else (1, s.setCipKey a.tslot {})

/-- KEYUSE. -/
def State.keyUse (s : State) (a : CipArgs) : Nat × State :=
  if a.tslot = 0 then (3, s)
  else if (s.cipKey a.tslot).valid then (1, s.setCipKey a.tslot { s.cipKey a.tslot with use := a.use })
  else (4, s)

/-- DERIVE (R553). -/
def State.derive (s : State) (o : Nat) (a : CipArgs) : Nat × State :=
  if (a.toBoot && o != 8) || (!a.toBoot && a.tslot == 0) || (o != 8 && a.label.take 2 == [0x48, 0x4C]) then (3, s)
  else if !(s.cipKey 0).valid then (4, s)
  else
    let k := kdf (s.cipKey 0).key a.label (s.cipBytes 17) (a.size + 1)
    (1, if a.toBoot then { s with cip := { s.cip with boot := k } } else s.putKey a k)

/-- UNWRAP (R554). -/
def State.unwrap (s : State) (p : CipOp) : Nat × State :=
  let a := p.args
  if a.tslot = 0 ∨ (a.toBoot = true ∧ p.owner ≠ 8) then (3, s)
  else if !a.toBoot && !p.key.okFor a.job.kslot p.owner then (4, s)
  else
    let kek := if a.toBoot then s.cip.boot else p.key.key
    let s1 := s.setCipBytes (List.replicate 40 0)
    match keyUnwrap kek (s.cipBytes (keyLen a.size + 8)) with
    | some k => (1, s1.putKey a k)
    | none => (7, s1)

/-- The initiator of an owner. -/
def ownerIni (o : Nat) : Initiator :=
  match o with
  | 1 => .cc 0
  | 2 => .cc 1
  | 3 => .cc 2
  | 4 => .cc 3
  | 8 => .boot
  | _ => .sv

/-- The effect of a command, with its result code; key operations are for owners 5 and 8 (R552). -/
def State.cipRun (s : State) (p : CipOp) : Nat × State :=
  if 4 ≤ p.op ∧ p.op ≤ 8 ∧ p.owner ≠ 5 ∧ p.owner ≠ 8 then (4, s)
  else match p.op with
  | 1 => s.cipJob p
  | 2 => s.cipLoad (ownerIni p.owner) p.args
  | 3 => s.cipStore (ownerIni p.owner) p.args
  | 4 => s.keySet p.args
  | 5 => s.keyClr p.args
  | 6 => s.keyUse p.args
  | 7 => s.derive p.owner p.args
  | 8 => s.unwrap p
  | _ => (1, s.cipClear)

/-! ### The cipher core, shared by the two sets (R542, R562) -/

/-- The operation uses the cipher core. -/
def coreOp (op : Nat) : Bool := op == 1 || op == 7 || op == 8

/-- The cipher core runs a command of set U. -/
def State.coreTaken (s : State) : Bool := match s.cip.op with | some p => coreOp p.op && p.running | none => false

/-- The cipher core runs a set-S job (CIP_LOCK.LENT). -/
def State.lent (s : State) : Bool := match s.cip.slotJob with | some j => j.running | none => false

/-- A command of set U starts: it latches its key (R568). -/
def State.startOp (s : State) (p : CipOp) : CipOp := { p with running := true, key := s.cipKey p.args.job.kslot }

/-- A set-S job starts: it latches its key (R568). -/
def State.startSlot (s : State) (j : SlotJob) : SlotJob := { j with running := true, key := s.cipKey j.slot }

/-- A command of owner `o` as the engine takes it: it runs, or waits for a lent core. -/
def State.cipTaken (s : State) (o op : Nat) : CipOp :=
  let p : CipOp := { op := op, owner := o, args := s.cipArgs }
  if coreOp op && s.lent then p else s.startOp p

/-- A write of CIP_CMD (R557, R558): the holder's command waits or runs, and its record shows the command, with an open
CODE until the result; another owner's is discarded. A command while one is in progress is ignored (log entry 52). -/
def State.cipCmd (s : State) (ini : Initiator) (op : Nat) : State :=
  let o := cipOwner ini
  if s.cipHolder ≠ o ∨ o = 0 then (s.setCipRec o 6 op).setFld F.CIP_ERR_NOLOCK 1
  else if op = 0 ∨ 9 < op ∨ s.cip.op.isSome = true then s
  else { (s.drawn.setCipRec o (s.open_ 9) op) with cip := { (s.drawn.setCipRec o (s.open_ 9) op).cip with op := some (s.cipTaken o op) } }

/-- The next user of a free cipher core: a waiting set-S job before a waiting command of set U (R562). -/
def State.nextCore (s : State) : State :=
  match s.cip.slotJob with
  | some j => if s.coreTaken || j.running then s else { s with cip := { s.cip with slotJob := some (s.startSlot j) } }
  | none => match s.cip.op with
    | some p => if p.running then s else { s with cip := { s.cip with op := some (s.startOp p) } }
    | none => s

/-- A buffer that was written while a command used it: what it holds is open (log entry 52). -/
def State.tearBuf (s : State) : State := s.drawn.setCipBytes (toBytes 1024 (s.open_ (2 ^ 8192)))

/-- The effect of a command; a buffer written meanwhile is open to it, and after a LOAD. -/
def State.cipEffect (s : State) (p : CipOp) : Nat × State :=
  if p.torn then
    let r := s.tearBuf.cipRun p
    (r.1, if p.op = 2 then r.2.tearBuf else r.2)
  else s.cipRun p

/-- CIP_OP_COMPLETE: the command in progress ends with its result code, and a release that waits follows (R547, R559). -/
def State.cipComplete (s : State) : State :=
  match s.cip.op with
  | some p =>
    if p.running then
      let r := s.cipEffect p
      let s1 := { r.2 with cip := { r.2.cip with op := none } }.setCipRec p.owner r.1 p.op
      (match s1.cip.due with
        | .none => s1
        | .plain => s1.releaseLock
        | .revoke => s1.revokeLock).nextCore
    else s
  | none => s

/-! ### The lock (R556, R559, R560) -/

/-- A write of CIP_LOCK.REQ. -/
def State.lockRequest (s : State) (o : Nat) : State :=
  if s.cipHolder = o ∨ s.cip.queue.contains o then s
  else { s with cip := { s.cip with queue := s.cip.queue ++ [o] } }

/-- A write of CIP_LOCK.REL: by the holder, while BUSY is 0. -/
def State.lockRel (s : State) (o : Nat) : State :=
  if s.cipHolder ≠ o then s
  else if s.cip.op.isSome then s.setFld F.CIP_ERR_RELBUSY 1
  else s.releaseLock

/-- CIP_LOCK_GRANT. -/
def State.lockGrant (s : State) : State :=
  if s.cipHolder = 0 ∧ s.domOn 7 then
    match s.cip.queue with
    | o :: rest => { s with cip := { s.cip with queue := rest } }.setFld F.CIP_LOCK_OWNER o
    | [] => s
  else s

/-- LOCK_TIMEOUT (R560). -/
def State.lockTimeout (s : State) : State :=
  if s.flag F.CIP_LOCKTO_T ∧ 1 ≤ s.cipHolder ∧ s.cipHolder ≤ 5 then s.dropLock true else s

/-! ### Slot-engine jobs (R562-R564) -/

/-- A set-S job as the engine computes it under the key `x` of a slot: result code, payload, tag; NOKEY for a slot that
is not an AES-128 key of owner 6 (R563). -/
def ccmUnder (x : CipKey) (slot : Nat) (nonce adata data : List Byte) (tagLen : Nat) (enc dec : Bool) (tag : List Byte) :
    Nat × List Byte × List Byte :=
  if x.okFor slot 6 && x.size == 0 then
    let r := ccmStar x.key nonce adata data tagLen enc dec
    (if dec && r.2 != tag then 2 else 1, r)
  else (4, [], [])

/-- The same, under the key the slot holds now. -/
def State.slotCcm (s : State) (slot : Nat) (nonce adata data : List Byte) (tagLen : Nat) (enc dec : Bool) (tag : List Byte) :
    Nat × List Byte × List Byte := ccmUnder (s.cipKey slot) slot nonce adata data tagLen enc dec tag

/-- The longest wait of a set-S job, a free value up to the bound of R564. -/
def State.lendWait (s : State) : State :=
  (s.setFld F.CIP_LENDMAX_CYCLES (max (s.fld F.CIP_LENDMAX_CYCLES) (s.open_ 1035))).drawn

/-- SLOT_ENGINE_REQUEST: the job waits for the core, or runs at once when no job runs (R562). -/
def State.slotRequest (s : State) (j : SlotJob) : State :=
  if s.domOn 7 && s.cip.slotJob.isNone && decide (j.adata.length + j.data.length + j.tagLen ≤ 127) then
    { s with cip := { s.cip with slotJob := some (if s.coreTaken then j else s.startSlot j) } }
  else s

/-- SLOT_ENGINE_JOB: the job that runs ends with its result (R562, R563). -/
def State.slotRun (s : State) : State :=
  match s.cip.slotJob with
  | some j =>
    if j.running then
      let r := ccmUnder j.key j.slot j.nonce j.adata j.data j.tagLen j.enc j.dec j.tag
      let s1 := if r.1 = 4 then s.lendWait else s.countJob.lendWait
      { s1 with cip := { s1.cip with slotJob := none, slotRes := some r } }.nextCore
    else s
  | none => s

/-! ### Commands -/

/-- A command written to CIP_CMD. -/
def State.cipIssue (s : State) (ini : Initiator) (op : Nat) : State := s.cmdWrite ini Reg.CIP_CMD fun s => s.cipCmd ini op

/-- CIP_JOB (R546). -/
def execCipJob (ini : Initiator) (s : State) : Host.Outcome State Fault Refusal := ok (s.cipIssue ini 1)

/-- CIP_LOAD (R548). -/
def execCipLoad (ini : Initiator) (s : State) : Host.Outcome State Fault Refusal := ok (s.cipIssue ini 2)

/-- CIP_STORE (R550). -/
def execCipStore (ini : Initiator) (s : State) : Host.Outcome State Fault Refusal := ok (s.cipIssue ini 3)

/-- KEYSET (R552). -/
def execKeyset (ini : Initiator) (s : State) : Host.Outcome State Fault Refusal := ok (s.cipIssue ini 4)

/-- KEYCLR (R552). -/
def execKeyclr (ini : Initiator) (s : State) : Host.Outcome State Fault Refusal := ok (s.cipIssue ini 5)

/-- KEYUSE (R552). -/
def execKeyuse (ini : Initiator) (s : State) : Host.Outcome State Fault Refusal := ok (s.cipIssue ini 6)

/-- DERIVE (R553). -/
def execDerive (ini : Initiator) (s : State) : Host.Outcome State Fault Refusal := ok (s.cipIssue ini 7)

/-- UNWRAP (R554). -/
def execUnwrap (ini : Initiator) (s : State) : Host.Outcome State Fault Refusal := ok (s.cipIssue ini 8)

/-- CIP_CLEAR (R552). -/
def execCipClear (ini : Initiator) (s : State) : Host.Outcome State Fault Refusal := ok (s.cipIssue ini 9)

/-- CIP_LOCK_REQUEST (R556). -/
def execCipLockRequest (ini : Initiator) (s : State) : Host.Outcome State Fault Refusal :=
  ok (s.cmdWrite ini Reg.CIP_LOCK fun s => s.lockRequest (cipOwner ini))

/-- CIP_LOCK_RELEASE (R559). -/
def execCipLockRelease (ini : Initiator) (s : State) : Host.Outcome State Fault Refusal :=
  ok (s.cmdWrite ini Reg.CIP_LOCK fun s => s.lockRel (cipOwner ini))

/-- CIP_LOCK_GRANT (R556). -/
def execCipLockGrant (s : State) : Host.Outcome State Fault Refusal := ok s.lockGrant

/-- LOCK_TIMEOUT (R560). -/
def execLockTimeout (s : State) : Host.Outcome State Fault Refusal := ok s.lockTimeout

/-- SLOT_ENGINE_REQUEST (R562). -/
def execSlotEngineRequest (slot : Fin 16) (nonce : List Byte) (enc dec : Bool) (tagLen : Fin 17)
    (adata data tag : List Byte) (s : State) : Host.Outcome State Fault Refusal :=
  ok (s.slotRequest { slot := slot, nonce := nonce, enc := enc, dec := dec, tagLen := tagLen, adata := adata, data := data,
                      tag := tag, running := false })

/-- SLOT_ENGINE_JOB (R563). -/
def execSlotEngineJob (s : State) : Host.Outcome State Fault Refusal := ok s.slotRun

end Sys2Proof.Machine
end

