-- ==== Sys2Proof/Machine/Cores.lean ====
section
/-! DEFINITION. The 24-bit control core: its registers, CSRs and exceptions, and every instruction that reaches no
data address (10_control_core_isa.md). Loads and stores stand in Machine/CoreMem.lean. -/

namespace Sys2Proof.Machine

open Sys2Proof

/-! ### Words and CSRs -/

/-- w24(v): an integer stored as a word. -/
def w24 (v : Int) : Word := BitVec.ofInt 24 v

/-- The signed value of an accumulator (R324). -/
def CoreSt.acc (c : CoreSt) (x : Nat) : Int := if x = 0 then c.acc0.toInt else c.acc1.toInt

/-- An accumulator set, modulo 2^56. -/
def CoreSt.setAcc (c : CoreSt) (x : Nat) (v : Int) : CoreSt :=
  if x = 0 then { c with acc0 := BitVec.ofInt 56 v } else { c with acc1 := BitVec.ofInt 56 v }

/-- TPEND of core k: held task starts, and the wake (Table CORE-12). -/
def State.tpend (s : State) (k : Nat) : Nat :=
  s.fld (F.EVF_TASK_HELD (4 * k)) + 2 * s.fld (F.EVF_TASK_HELD (4 * k + 1)) + 4 * s.fld (F.EVF_TASK_HELD (4 * k + 2)) +
    8 * s.fld (F.EVF_TASK_HELD (4 * k + 3)) + 16 * b2n (s.core k).wake

/-- The value of a CSR of core k. -/
def State.csr (s : State) (k i : Nat) : Word :=
  let c := s.core k
  if i = 0x000 then BitVec.ofNat 24 (b2n c.sealedSt + 2 * b2n c.inx + 4 * k + 32 * c.task + 128 * b2n c.tvalid)
  else if i = 0x005 then BitVec.ofNat 24 (s.tpend k)
  else c.csrOf i

/-- CYCLE and CYCLEH count n more clk_core cycles, modulo 2^48 (Table CORE-12; log entry 33). -/
def CoreSt.addCycles (c : CoreSt) (n : Nat) : CoreSt :=
  let v := ((c.csrOf 0x018).toNat + 2 ^ 24 * (c.csrOf 0x019).toNat + n) % 2 ^ 48
  (c.setCsr 0x018 (BitVec.ofNat 24 v)).setCsr 0x019 (BitVec.ofNat 24 (v / 2 ^ 24))

/-- A CSR write by access code: RO fields and reserved bits ignore it (R353). -/
def CoreSt.writeCsr (c : CoreSt) (i : Nat) (v : Word) : CoreSt :=
  if i = 0x001 ∨ i = 0x004 ∨ (0x008 ≤ i ∧ i ≤ 0x00B) then c.setCsr i (BitVec.ofNat 24 (v.toNat % 2 ^ 16))
  else if i = 0x010 then c.setCsr i v
  else if i = 0x011 then c.setCsr i (BitVec.ofNat 24 (lfsrLoad v.toNat))
  else if 0x021 ≤ i ∧ i ≤ 0x02F then c.setCsr i (BitVec.ofNat 24 (v.toNat % 2 ^ 22))
  else c

/-- SATCNT raised by n, saturating (R334). -/
def CoreSt.countSat (c : CoreSt) (n : Nat) : CoreSt := c.setCsr 0x010 (BitVec.ofNat 24 (satAdd 24 (c.csrOf 0x010).toNat n))

/-- round of R333 with the core LFSR. -/
def CoreSt.rounded (c : CoreSt) (v : Int) (sh rm : Nat) : Int × CoreSt :=
  let q := roundSh v sh rm (c.csrOf 0x011).toNat
  (q.1, if rm = 3 ∧ sh ≠ 0 then c.setCsr 0x011 (BitVec.ofNat 24 q.2) else c)

/-- fit of R333: the value within `w` bits, and the core with the clamp counted. -/
def CoreSt.fitted (c : CoreSt) (q lo hi : Int) (w : Nat) (sat : Bool) : Nat × CoreSt :=
  let f := fit q lo hi w sat
  (f.1, if f.2 then c.countSat 1 else c)

/-- Fitted to a signed word of 24 bits and written to rd. -/
def CoreSt.putFit (c : CoreSt) (rd : Nat) (q : Int) (sat : Bool) : CoreSt :=
  let f := c.fitted q (-8388608) 8388607 24 sat
  f.2.setReg rd (BitVec.ofNat 24 f.1)

/-! ### Running, ending and exceptions (R342-R350) -/

/-- The power domain of a core: CLc, or SUP for SV (Table PWR-1). -/
def coreDom (k : Nat) : Nat := if k < 4 then domCL k else 1

/-- Core k issues its next instruction: it is in RUN, no load waits, no halt waits for its boundary, its domain is ON. -/
def State.coreRuns (s : State) (k : Nat) : Bool :=
  (s.core k).run == .run && (s.core k).load.isNone && !(s.core k).haltWait && s.domOn (coreDom k) && s.weather == .run

/-- The next instruction's address (R323). -/
def CoreSt.next (c : CoreSt) : CoreSt := { c with pc := c.pc + 1 }

/-- A step's halt is due at the boundary the instruction reaches (R754). -/
def CoreSt.boundary (c : CoreSt) : CoreSt :=
  if c.stepping then { c with stepping := false, haltWait := true }.settle else c.settle

/-- One instruction completed: INSTRET counts it. -/
def CoreSt.retired (c : CoreSt) : CoreSt := (c.setCsr 0x01A (c.csrOf 0x01A + 1)).boundary

/-- The wipe of R43 begins: sealed state ends and the core executes nothing until the wipe ends. -/
def CoreSt.beginWipe (c : CoreSt) : CoreSt := { c with run := .wipe, sealedSt := false, inx := false }

/-- XWHY with a cause and DOUBLE (Table CORE-11). -/
def xwhy (code : Nat) (double : Bool) : Word := BitVec.ofNat 24 (code + 16 * b2n double)

/-- The unit number of a core in the fault log (Table FLT-3). -/
def coreUnit (k : Nat) : Nat := if k < 4 then 32 + k else 63

/-- An exception of core k (R348-R350). In sealed state it waits for the stores as a sealed TEND does. -/
def State.raise (s : State) (k code xaddr : Nat) : State :=
  let c := s.core k
  if c.sealedSt then
    if c.stores.isEmpty then
      let c1 := ((c.setCsr 1 0).setCsr 3 0).setCsr 2 (xwhy 4 false)
      ((s.setCore k c1.beginWipe.boundary).fire (52 + k)).fault 0x08 (coreUnit k) 4 false
    else s
  else if c.inx then
    let c1 := (c.setCsr 2 (xwhy code true)).setCsr 3 (BitVec.ofNat 24 xaddr)
    ((s.setCore k { c1 with run := .fault, stepping := false, haltWait := false }).fire (52 + k)).fault 0x08 (coreUnit k) code
      (decide (k < 4))
  else
    let c1 := ((c.setCsr 1 (BitVec.ofNat 24 c.pc.toNat)).setCsr 2 (xwhy code false)).setCsr 3 (BitVec.ofNat 24 xaddr)
    s.setCore k { c1 with inx := true, pc := BitVec.ofNat 16 (c1.csrOf 4).toNat }.boundary

/-- ILLEGAL (R326). -/
def State.illegal (s : State) (k : Nat) : State := s.raise k 1 0

/-- One instruction of core k: its effect on the core, or ILLEGAL where it has none. -/
def State.instr (s : State) (k : Nat) (body : CoreSt → Option CoreSt) : State :=
  if s.coreRuns k then
    match body (s.core k) with
    | some c => s.setCore k c.retired
    | none => s.illegal k
  else s

/-! ### Integer instructions (Tables CORE-3 and CORE-4) -/

/-- Leading zero bits of the low `n` bits of a number. -/
def leadZeros : Nat → Nat → Nat
  | 0, _ => 0
  | n + 1, x => if bitOf x n then 0 else 1 + leadZeros n x

/-- CLS: bits below bit 23 equal to bit 23 before the first that differs. -/
def leadSigns (x : Word) : Nat := if bitOf x.toNat 23 then leadZeros 23 (2 ^ 24 - 1 - x.toNat) else leadZeros 23 x.toNat

/-- DIV of R329, and whether it saturated. -/
def divS (a b : Int) : Int × Bool :=
  if b = 0 then ((if a < 0 then -8388608 else 8388607), true)
  else if a = -8388608 ∧ b = -1 then (8388607, true)
  else (Int.tdiv a b, false)

/-- An ALU function: its result and whether it is a saturated division (Table CORE-4). -/
def alu (fn : Nat) (x y : Word) (rs2 : Nat) : Option (Word × Bool) :=
  let a := x.toInt
  let b := y.toInt
  let u := x.toNat
  let v := y.toNat
  let sh := v % 32
  let w (r : Int) : Option (Word × Bool) := some (w24 r, false)
  match fn with
  | 0x00 => w (a + b)
  | 0x01 => w (a - b)
  | 0x02 => some (x &&& y, false)
  | 0x03 => some (x ||| y, false)
  | 0x04 => some (x ^^^ y, false)
  | 0x05 => w (if 24 ≤ sh then 0 else u * 2 ^ sh)
  | 0x06 => w (if 24 ≤ sh then 0 else u / 2 ^ sh)
  | 0x07 => w (a / 2 ^ min sh 23)
  | 0x08 => w (b2n (decide (a < b)))
  | 0x09 => w (b2n (decide (u < v)))
  | 0x0A => w (min a b)
  | 0x0B => w (max a b)
  | 0x0C => w (min u v)
  | 0x0D => w (max u v)
  | 0x10 => w (a * b)
  | 0x11 => w (a * b / 2 ^ 24)
  | 0x12 => w (u * v / 2 ^ 24)
  | 0x14 => some (w24 (divS a b).1, (divS a b).2)
  | 0x15 => if v = 0 then some (0xFFFFFF, true) else w (u / v)
  | 0x16 => w (if b = 0 then 0 else a - b * Int.tdiv a b)
  | 0x17 => w (if v = 0 then 0 else u % v)
  | 0x18 => if rs2 = 0 then w (leadZeros 24 u) else none
  | 0x19 => if rs2 = 0 then w (leadSigns x) else none
  | 0x1A => if rs2 = 0 then w (signed 12 u) else none
  | _ => none

/-- ALU (R327, R329). -/
def execAlu (k : Fin 5) (fn : Fin 64) (rd rs1 rs2 : Fin 16) (s : State) : Host.Outcome State Fault Refusal :=
  ok (s.instr k fun c =>
    match alu fn (c.reg rs1) (c.reg rs2) rs2 with
    | some r => some ((if r.2 then c.countSat 1 else c).setReg rd r.1).next
    | none => none)

/-- An instruction that writes rd with a function of rs1 and goes on. -/
def State.instrRd (s : State) (k rd rs1 : Nat) (f : Word → Word) : State :=
  s.instr k fun c => some (c.setReg rd (f (c.reg rs1))).next

/-- ADDI. -/
def execAddi (k : Fin 5) (rd rs1 : Fin 16) (imm : BitVec 10) (s : State) : Host.Outcome State Fault Refusal :=
  ok (s.instrRd k rd rs1 fun x => x + imm.signExtend 24)

/-- ANDI. -/
def execAndi (k : Fin 5) (rd rs1 : Fin 16) (imm : BitVec 10) (s : State) : Host.Outcome State Fault Refusal :=
  ok (s.instrRd k rd rs1 fun x => x &&& imm.signExtend 24)

/-- ORI. -/
def execOri (k : Fin 5) (rd rs1 : Fin 16) (imm : BitVec 10) (s : State) : Host.Outcome State Fault Refusal :=
  ok (s.instrRd k rd rs1 fun x => x ||| imm.zeroExtend 24)

/-- XORI. -/
def execXori (k : Fin 5) (rd rs1 : Fin 16) (imm : BitVec 10) (s : State) : Host.Outcome State Fault Refusal :=
  ok (s.instrRd k rd rs1 fun x => x ^^^ imm.zeroExtend 24)

/-- TLTI. -/
def execTlti (k : Fin 5) (rd rs1 : Fin 16) (imm : BitVec 10) (s : State) : Host.Outcome State Fault Refusal :=
  ok (s.instrRd k rd rs1 fun x => if x.toInt < imm.toInt then 1 else 0)

/-- SHI by its immediate: kind 0 SHL, 1 SHRU, 2 SHRS; bits [7:5] zero, amount up to 23 (Table CORE-3). -/
def shi (imm : Nat) (x : Word) : Option Word :=
  let a := imm % 32
  if imm / 32 % 8 ≠ 0 ∨ 23 < a then none
  else match imm / 256 with
  | 0 => some (x <<< a)
  | 1 => some (x >>> a)
  | 2 => some (x.sshiftRight a)
  | _ => none

/-- SHI. -/
def execShi (k : Fin 5) (rd rs1 : Fin 16) (imm : BitVec 10) (s : State) : Host.Outcome State Fault Refusal :=
  ok (s.instr k fun c => (shi imm.toNat (c.reg rs1)).map fun v => (c.setReg rd v).next)

/-- LIH. -/
def execLih (k : Fin 5) (rd : Fin 16) (imm : BitVec 14) (s : State) : Host.Outcome State Fault Refusal :=
  ok (s.instr k fun c => some (c.setReg rd (BitVec.ofNat 24 (imm.toNat * 2 ^ 10))).next)

/-! ### Branches and calls (R328) -/

/-- The condition of a compare: 0 equal, 1 not equal, 2 less, 3 not less, 4 less unsigned, 5 not less unsigned. -/
def cond (n : Nat) (x y : Word) : Bool :=
  match n with
  | 0 => x == y
  | 1 => x != y
  | 2 => decide (x.toInt < y.toInt)
  | 3 => decide (y.toInt ≤ x.toInt)
  | 4 => decide (x.toNat < y.toNat)
  | _ => decide (y.toNat ≤ x.toNat)

/-- A branch: to pc plus the offset when taken, else to the next instruction. -/
def CoreSt.branch (c : CoreSt) (taken : Bool) (off : BitVec 10) : CoreSt :=
  if taken then { c with pc := c.pc + off.signExtend 16 } else c.next

/-- CB_BRANCH: CBEQ, CBNE, CBLT, CBGE, CBLTU, CBGEU. -/
def execCbBranch (k : Fin 5) (cond : Fin 6) (rs1 rs2 : Fin 16) (off : BitVec 10) (s : State) :
    Host.Outcome State Fault Refusal :=
  ok (s.instr k fun c => some (c.branch (Machine.cond cond (c.reg rs1) (c.reg rs2)) off))

/-- The constant a CZ branch compares with: sign-extended for CZEQ to CZGE, unsigned for CZLTU and CZGEU. -/
def czConst (n : Nat) (imm : BitVec 4) : Word := if n < 4 then imm.signExtend 24 else imm.zeroExtend 24

/-- CZ_BRANCH: CZEQ, CZNE, CZLT, CZGE, CZLTU, CZGEU. -/
def execCzBranch (k : Fin 5) (cond : Fin 6) (rs1 : Fin 16) (imm : BitVec 4) (off : BitVec 10) (s : State) :
    Host.Outcome State Fault Refusal :=
  ok (s.instr k fun c => some (c.branch (Machine.cond cond (c.reg rs1) (czConst cond imm)) off))

/-- The link value pc + 1, in a word. -/
def CoreSt.link (c : CoreSt) : Word := (c.pc + 1).zeroExtend 24

/-- CALL. -/
def execCall (k : Fin 5) (rd : Fin 16) (off : BitVec 14) (s : State) : Host.Outcome State Fault Refusal :=
  ok (s.instr k fun c => some { c.setReg rd c.link with pc := c.pc + off.signExtend 16 })

/-- CALLR: the target is formed from rs1 before rd is written. -/
def execCallr (k : Fin 5) (rd rs1 : Fin 16) (imm : BitVec 10) (s : State) : Host.Outcome State Fault Refusal :=
  ok (s.instr k fun c =>
    some { c.setReg rd c.link with pc := (c.reg rs1 + imm.signExtend 24).truncate 16 })

/-! ### Fixed-point and accumulator instructions (R335-R340) -/

/-- The shift of QMUL and ACCX by sub (R335, R339). -/
def qShift (sub : Nat) : Option Nat :=
  match sub with
  | 0 => some 0
  | 1 => some 23
  | 2 => some 19
  | 3 => some 15
  | 4 => some 24
  | _ => none

/-- QMUL (R335). -/
def execQmul (k : Fin 5) (rd rs1 rs2 : Fin 16) (rm : Fin 4) (sat : Bool) (sub : Fin 8) (s : State) :
    Host.Outcome State Fault Refusal :=
  ok (s.instr k fun c => (qShift sub).map fun sh =>
    let q := c.rounded ((c.reg rs1).toInt * (c.reg rs2).toInt) sh rm
    (q.2.putFit rd q.1 sat).next)

/-- The exact value of QADD (R336). -/
def qadd (sub : Nat) (a b : Int) (rs2 : Nat) : Option Int :=
  match sub with
  | 0 => some (a + b)
  | 1 => some (a - b)
  | 2 => if rs2 = 0 then some (-a) else none
  | 3 => if rs2 = 0 then some (a.natAbs : Int) else none
  | _ => none

/-- QADD (R336). -/
def execQadd (k : Fin 5) (rd rs1 rs2 : Fin 16) (rm : Fin 4) (sat : Bool) (sub : Fin 8) (s : State) :
    Host.Outcome State Fault Refusal :=
  ok (s.instr k fun c =>
    if rm ≠ 0 then none
    else (qadd sub (c.reg rs1).toInt (c.reg rs2).toInt rs2).map fun q => (c.putFit rd q sat).next)

/-- QSH (R337). -/
def execQsh (k : Fin 5) (rd rs1 rs2 : Fin 16) (rm : Fin 4) (sat : Bool) (sub : Fin 8) (s : State) :
    Host.Outcome State Fault Refusal :=
  ok (s.instr k fun c =>
    let a := min ((c.reg rs2).toNat % 32) 24
    if sub = 0 then
      let q := c.rounded (c.reg rs1).toInt a rm
      some (q.2.putFit rd q.1 sat).next
    else if sub = 1 ∧ rm = 0 then some (c.putFit rd ((c.reg rs1).toInt * 2 ^ a) sat).next
    else none)

/-- The halves of a word (Table CORE-5). -/
def loH (x : Word) : Int := signed 12 x.toNat
/-- The high half. -/
def hiH (x : Word) : Int := signed 12 (x.toNat / 4096)

/-- The product of MAC by sub (R338). -/
def macProd (sub : Nat) (x y : Word) : Option Int :=
  match sub with
  | 0 => some (x.toInt * y.toInt)
  | 1 => some (loH x * loH y + hiH x * hiH y)
  | _ => none

/-- MAC (R338): rd bits are x, NEG, CLR and a zero (Table CORE-6). -/
def execMac (k : Fin 5) (rd rs1 rs2 : Fin 16) (rm : Fin 4) (sat : Bool) (sub : Fin 8) (s : State) :
    Host.Outcome State Fault Refusal :=
  ok (s.instr k fun c =>
    if rm ≠ 0 ∨ bitOf rd 3 then none
    else (macProd sub (c.reg rs1) (c.reg rs2)).map fun p =>
      let x := (rd : Nat) % 2
      let base := if bitOf rd 2 then 0 else c.acc x
      let f := c.fitted (base + (if bitOf rd 1 then -p else p)) (-(2 ^ 55)) (2 ^ 55 - 1) 56 sat
      (f.2.setAcc x (f.1 : Int)).next)

/-- The shift of ACCX (R339). -/
def accxShift (sub rs2 : Nat) (y : Word) : Option Nat :=
  if sub = 5 then some (min (y.toNat % 64) 47) else if rs2 = 0 then qShift sub else none

/-- ACCX (R339). -/
def execAccx (k : Fin 5) (rd rs1 rs2 : Fin 16) (rm : Fin 4) (sat : Bool) (sub : Fin 8) (s : State) :
    Host.Outcome State Fault Refusal :=
  ok (s.instr k fun c =>
    if 2 ≤ (rs1 : Nat) then none
    else (accxShift sub rs2 (c.reg rs2)).map fun sh =>
      let q := c.rounded (c.acc rs1) sh rm
      (q.2.putFit rd q.1 sat).next)

/-- An ACC function on accumulator x (Table CORE-7). -/
def accFn (fn x rd rs1 : Nat) (c : CoreSt) : Option CoreSt :=
  let v := unsigned 56 (c.acc x)
  let r := (c.reg rs1).toNat
  if fn ≤ 2 ∧ rs1 ≠ 0 then none
  else if 3 ≤ fn ∧ rd ≠ 0 then none
  else if 6 ≤ fn ∧ fn ≤ 8 ∧ rs1 ≠ 0 then none
  else match fn with
  | 0x00 => some (c.setReg rd (BitVec.ofNat 24 v))
  | 0x01 => some (c.setReg rd (BitVec.ofNat 24 (v / 2 ^ 24)))
  | 0x02 => some (c.setReg rd (w24 (signed 8 (v / 2 ^ 48))))
  | 0x03 => some (c.setAcc x (putBits v 0 24 r : Nat))
  | 0x04 => some (c.setAcc x (putBits v 24 24 r : Nat))
  | 0x05 => some (c.setAcc x (putBits v 48 8 r : Nat))
  | 0x06 => some (c.setAcc x 0)
  | 0x07 =>
    let q := clampI (-(2 ^ 47)) (2 ^ 47 - 1) (c.acc x)
    some ((if q = c.acc x then c else c.countSat 1).setAcc x q)
  | 0x08 => some (c.setAcc x (c.acc x + c.acc (1 - x)))
  | 0x09 => some (c.setAcc x (c.reg rs1).toInt)
  | _ => none

/-- ACC (Table CORE-7). -/
def execAcc (k : Fin 5) (rd rs1 rs2 : Fin 16) (fn : Fin 64) (s : State) : Host.Outcome State Fault Refusal :=
  ok (s.instr k fun c => if 2 ≤ (rs2 : Nat) then none else (accFn fn rs2 rd rs1 c).map CoreSt.next)

/-- Two halves fitted to 12 bits, the lo half first (R340). -/
def CoreSt.fitHalves (c : CoreSt) (lo hi : Int) (sat : Bool) : Word × CoreSt :=
  let a := c.fitted lo (-2048) 2047 12 sat
  let b := a.2.fitted hi (-2048) 2047 12 sat
  (BitVec.ofNat 24 (a.1 + 4096 * b.1), b.2)

/-- HMUL: the lo half is rounded and fitted before the hi half (R340). -/
def CoreSt.hmul (c : CoreSt) (x y : Word) (rm : Nat) (sat : Bool) : Word × CoreSt :=
  let q := c.rounded (loH x * loH y) 11 rm
  let a := q.2.fitted q.1 (-2048) 2047 12 sat
  let r := a.2.rounded (hiH x * hiH y) 11 rm
  let b := r.2.fitted r.1 (-2048) 2047 12 sat
  (BitVec.ofNat 24 (a.1 + 4096 * b.1), b.2)

/-- A HOP function (R340); unused rm, sat and rs2 are zero (Table CORE-6). -/
def hopFn (sub rs2 rm : Nat) (sat : Bool) (x y : Word) (c : CoreSt) : Option (Word × CoreSt) :=
  if sub ≠ 2 ∧ rm ≠ 0 then none
  else if 3 ≤ sub ∧ sat then none
  else match sub with
  | 0 => some (c.fitHalves (loH x + loH y) (hiH x + hiH y) sat)
  | 1 => some (c.fitHalves (loH x - loH y) (hiH x - hiH y) sat)
  | 2 => some (c.hmul x y rm sat)
  | 3 => some (BitVec.ofNat 24 (y.toNat % 4096 * 4096 + x.toNat % 4096), c)
  | 4 => if rs2 = 0 then some (w24 (loH x), c) else none
  | 5 => if rs2 = 0 then some (w24 (hiH x), c) else none
  | _ => none

/-- HOP (R340). -/
def execHop (k : Fin 5) (rd rs1 rs2 : Fin 16) (rm : Fin 4) (sat : Bool) (sub : Fin 8) (s : State) :
    Host.Outcome State Fault Refusal :=
  ok (s.instr k fun c => (hopFn sub rs2 rm sat (c.reg rs1) (c.reg rs2) c).map fun r => (r.2.setReg rd r.1).next)

/-! ### CSR instructions (R351, R353) -/

/-- A CSR instruction that writes: rd takes the old value; in sealed state the CSR keeps its value and the write is
counted as discarded (R42, R351). -/
def State.csrWrite (s : State) (k rd rs1 i : Nat) (f : Word → Word → Word) : State :=
  if s.coreRuns k then
    if csrListed i then
      let t := s.csr k i
      let c := s.core k
      if c.sealedSt then (s.setCore k (c.setReg rd t).next.retired).violate.setFld F.SEAL_STATUS_SSWRITE 1
      else s.setCore k ((c.writeCsr i (f t (c.reg rs1))).setReg rd t).next.retired
    else s.illegal k
  else s

/-- CSRR: rs1 must be 0. -/
def execCsrr (k : Fin 5) (rd rs1 : Fin 16) (imm : BitVec 10) (s : State) : Host.Outcome State Fault Refusal :=
  ok (if s.coreRuns k then
    if csrListed imm.toNat && rs1 == 0 then
      s.setCore k ((s.core k).setReg rd (s.csr k imm.toNat)).next.retired
    else s.illegal k
  else s)

/-- CSRW. -/
def execCsrw (k : Fin 5) (rd rs1 : Fin 16) (imm : BitVec 10) (s : State) : Host.Outcome State Fault Refusal :=
  ok (s.csrWrite k rd rs1 imm.toNat fun _ x => x)

/-- CSRSET. -/
def execCsrset (k : Fin 5) (rd rs1 : Fin 16) (imm : BitVec 10) (s : State) : Host.Outcome State Fault Refusal :=
  ok (s.csrWrite k rd rs1 imm.toNat fun t x => t ||| x)

/-- CSRCLR. -/
def execCsrclr (k : Fin 5) (rd rs1 : Fin 16) (imm : BitVec 10) (s : State) : Host.Outcome State Fault Refusal :=
  ok (s.csrWrite k rd rs1 imm.toNat fun t x => t &&& ~~~x)

/-! ### SYS instructions (Table CORE-8, R345, R346) -/

/-- NOP. -/
def execSysNop (k : Fin 5) (s : State) : Host.Outcome State Fault Refusal := ok (s.instr k fun c => some c.next)

/-- TEND: it waits for the stores, clears INX, and enters IDLE, in sealed state through the wipe (R346). -/
def execTend (k : Fin 5) (s : State) : Host.Outcome State Fault Refusal :=
  ok (if (s.core k).stores.isEmpty then s.instr k fun c =>
      some (if c.sealedSt then c.next.beginWipe else { c.next with inx := false, run := .idle })
    else s)

/-- PARK: it waits for the stores, then goes on when TPEND is not 0 and clears WAKE, else waits (R345). -/
def execPark (k : Fin 5) (s : State) : Host.Outcome State Fault Refusal :=
  ok (if (s.core k).stores.isEmpty then s.instr k fun c =>
      some (if s.tpend k ≠ 0 then { c.next with wake := false } else { c.next with run := .wait, hail := false })
    else s)

/-- XBACK: illegal when INX is 0. -/
def execXback (k : Fin 5) (s : State) : Host.Outcome State Fault Refusal :=
  ok (s.instr k fun c => if c.inx then some { c with pc := BitVec.ofNat 16 (c.csrOf 1).toNat, inx := false } else none)

/-- Debug is enabled (R755). -/
def State.debugOn (s : State) : Bool := !s.flag F.BOOT_FUSE_DBGDIS && s.fld F.BOOT_FUSE_LIFECYCLE != 3

/-- BRK: a halt with pc at the BRK where DBG_BRKEN enables it, else exception BRK (Table CORE-8, R754, R755). -/
def execBrk (k : Fin 5) (s : State) : Host.Outcome State Fault Refusal :=
  ok (if s.coreRuns k then
      if s.debugOn && s.fbit F.DBG_BRKEN_EN k then
        s.setCore k { s.core k with haltWait := true, stepping := false }.settle
      else s.raise k 3 0
    else s)

/-- DRAIN: it stalls until every earlier store has been accepted. -/
def execDrain (k : Fin 5) (s : State) : Host.Outcome State Fault Refusal :=
  ok (if (s.core k).stores.isEmpty then s.instr k fun c => some c.next else s)

/-- An instruction word that no opcode, function or field rule admits (R326). -/
def execIllegalInstruction (k : Fin 5) (w : Word) (s : State) : Host.Outcome State Fault Refusal :=
  ok (if s.coreRuns k && !coreWordLegal w then s.illegal k else s)

/-! ### The wipe (R43) -/

/-- Data word `i` of core k, as a byte address of its window (Table CLK-8). -/
def dataAddr (k i : Nat) : Nat := 0x03020000 + 0x40000 * k + 4 * i

/-- Every dirty block of a core's data memory zeroed. -/
def State.wipeBlocks (s : State) (k : Nat) : State :=
  let d := (s.core k).dirty
  { s with mem := tabClear (fun a =>
      decide (dataAddr k 0 ≤ a) && decide (a < dataAddr k 32768) && tabGet (fun _ => false) d ((a - dataAddr k 0) / 256)) s.mem }

/-- The registers, accumulators and sticky count of a core zeroed, its dirty marks cleared, and the core in IDLE, or
in HALT with pc 0 and TVALID 0 where a halt waits. -/
def CoreSt.endWipe (c : CoreSt) : CoreSt :=
  let c1 := { c.setCsr 0x010 0 with g := [], acc0 := 0, acc1 := 0, dirty := [] }
  if c1.haltWait then { c1 with run := .halt, haltWait := false, pc := 0, tvalid := false } else { c1 with run := .idle }

/-- SEALED_WIPE_END: the 4,100 cycles have elapsed (R43); stores that precede the end of sealed state are accepted
before it (R346). -/
def execSealedWipeEnd (k : Fin 5) (s : State) : Host.Outcome State Fault Refusal :=
  ok (if (s.core k).run = .wipe ∧ (s.core k).stores = [] then
      (s.wipeBlocks k).setCore k (s.core k).endWipe
    else s)

end Sys2Proof.Machine
end

