-- ==== Sys2Proof/Machine/Dataflow.lean ====
section
/-! DEFINITION. The dataflow arrays: schedule memory, timetables, steps, stream ports and loads
(11_dataflow_array.md). -/

namespace Sys2Proof.Machine

open Sys2Proof

/-- The dataflow array of cluster c. -/
def State.dfa (s : State) (c : Nat) : Dfa := tabGet (fun _ => {}) s.dfas c

/-- The dataflow array of cluster c set. -/
def State.setDfa (s : State) (c : Nat) (d : Dfa) : State := { s with dfas := tabSet (fun _ => {}) s.dfas c d }

/-! ### Schedule memory (Table DFA-8, R377, R386, R387) -/

/-- Base of the schedule memory of cluster c. -/
def schedBase (c : Nat) : Nat := 0x06080000 + c * 0x100000

/-- A word of schedule memory by its offset. -/
def State.sched (s : State) (c off : Nat) : Nat := ofBytes (s.bytes (schedBase c + off) 3)

/-- Word Ee of the entry with number k = (round * 256 + step) * 16 + cell. -/
def State.entryWord (s : State) (c k e : Nat) : Nat := s.sched c (8 * k + 4 * e)

/-- RCFG of a round: its number of steps. -/
def State.roundLen (s : State) (c r : Nat) : Nat := bitsOf (s.sched c (0x40000 + r * 0x200)) 0 8 + 1

/-- Word PDe of port q = 2 * cell + port of a round. -/
def State.portDesc (s : State) (c r q e : Nat) : Nat := s.sched c (0x40100 + r * 0x200 + q * 8 + 4 * e)

/-- Entry j of a timetable slot. -/
def State.slotWord (s : State) (c k j : Nat) : Nat := s.sched c (0x41000 + k * 0x20 + 4 * j)

/-- What stands at an offset of schedule memory (Table DFA-8). -/
inductive SchedPlace where
  /-- A word of an entry, by entry number. -/
  | entry (k : Nat)
  /-- RCFG or a descriptor word of a round. -/
  | round (r : Nat)
  /-- A word of a timetable slot. -/
  | slot (k : Nat)
  /-- Nothing: reads zero, ignores writes. -/
  | none
  deriving DecidableEq, Repr

/-- The place of an offset. -/
def schedPlace (o : Nat) : SchedPlace :=
  if o < 0x40000 then .entry (o / 8)
  else if o < 0x41000 then
    let m := (o - 0x40000) % 0x200
    if m < 4 ∨ 0x100 ≤ m then .round ((o - 0x40000) / 0x200) else .none
  else if o < 0x41080 then .slot ((o - 0x41000) / 0x20)
  else .none

/-- The entries of a slot up to the last (R378): (round, iterations, CLR). -/
def State.timetable (s : State) (c k : Nat) : List (Nat × Nat × Bool) :=
  go 8 0
where
  /-- From entry j on, with `fuel` entries left. -/
  go : Nat → Nat → List (Nat × Nat × Bool)
    | 0, _ => []
    | fuel + 1, j =>
      let w := s.slotWord c k j
      let e := (bitsOf w 0 3, bitsOf w 3 16 + 1, bitOf w 19)
      if bitOf w 20 then [e] else e :: go fuel (j + 1)

/-- Slots of the running timetable and the queued starts. -/
def State.slotsInUse (s : State) (c : Nat) : List Nat :=
  let d := s.dfa c
  (match d.run with | some r => [r.start.slot] | none => []) ++ d.queue.map (·.slot)

/-- A place belongs to a round or slot in use (R387). -/
def State.schedInUse (s : State) (c : Nat) (p : SchedPlace) : Bool :=
  match p with
  | .slot k => (s.slotsInUse c).contains k
  | .entry k => (s.slotsInUse c).any fun t => (s.timetable c t).any fun e => e.1 == k / 4096
  | .round r => (s.slotsInUse c).any fun t => (s.timetable c t).any fun e => e.1 == r
  | .none => false

/-- Fields of a schedule entry (Table DFA-1). -/
structure DfaEntry where
  op : Nat
  a : Nat
  b : Nat
  dst : Nat
  sh : Nat
  out : Bool
  sat : Bool
  imm : Nat
  rm : Nat
  pop0 : Bool
  pop1 : Bool
  top : Nat
  deriving DecidableEq, Repr

/-- The fields of two words. -/
def dfaFields (e0 e1 : Nat) : DfaEntry :=
  { op := bitsOf e0 0 5, a := bitsOf e0 5 4, b := bitsOf e0 9 4, dst := bitsOf e0 13 4, sh := bitsOf e0 17 5,
    out := bitOf e0 22, sat := bitOf e0 23, imm := bitsOf e1 0 12, rm := bitsOf e1 12 2, pop0 := bitOf e1 14,
    pop1 := bitOf e1 15, top := bitsOf e1 16 8 }

/-- Which of A, B, SAT, SH, RM an operation uses (Table DFA-3). -/
def dfaUses (op : Nat) : Bool × Bool × Bool × Bool × Bool :=
  match op with
  | 0x00 => (false, false, false, false, false)
  | 0x01 => (true, false, false, false, false)
  | 0x02 | 0x03 | 0x04 => (true, true, true, false, false)
  | 0x0A => (true, false, true, true, false)
  | 0x0B => (true, false, false, true, true)
  | 0x0C | 0x0D => (true, true, true, true, true)
  | _ => (true, true, false, false, false)

/-- An entry reads IMM. -/
def DfaEntry.usesImm (e : DfaEntry) : Bool :=
  let u := dfaUses e.op
  e.op == 0x0E || (u.1 && e.a == 14) || (u.2.1 && e.b == 14)

/-- The entry is valid (R377); so is one of two zero words, which does nothing. -/
def DfaEntry.valid (e : DfaEntry) : Bool :=
  let u := dfaUses e.op
  e == dfaFields 0 0 || decide (e.op ≤ 0x11) && decide (e.dst ≤ 10) && e.top == 0 && decide (e.sh ≤ 23) &&
  (u.1 || e.a == 0) && (u.2.1 || e.b == 0) && (u.2.2.1 || !e.sat) && (u.2.2.2.1 || e.sh == 0) && (u.2.2.2.2 || e.rm == 0) &&
  (e.usesImm || e.imm == 0) && (e.op != 0x0D || decide (e.dst ≤ 7)) && (e.op != 0 || (e.dst == 8 && !e.out))

/-- The entry reads the head of port p. -/
def DfaEntry.reads (e : DfaEntry) (p : Nat) : Bool :=
  let u := dfaUses e.op
  (u.1 && e.a == 12 + p) || (u.2.1 && e.b == 12 + p)

/-- The entry pops port p. -/
def DfaEntry.pops (e : DfaEntry) (p : Nat) : Bool := if p = 0 then e.pop0 else e.pop1

/-- The entry pushes to port p. -/
def DfaEntry.pushes (e : DfaEntry) (p : Nat) : Bool := e.op != 0 && e.dst == 9 + p

/-- Entry k of the schedule. -/
def State.dfaEntry (s : State) (c k : Nat) : DfaEntry := dfaFields (s.entryWord c k 0) (s.entryWord c k 1)

/-- A word of schedule memory written, and its entry validated (R387). -/
def State.putSched (s : State) (c off v : Nat) : State :=
  let s1 := s.setBytes (schedBase c + off) (toBytes 3 v)
  match schedPlace off with
  | .entry k =>
    let d := s1.dfa c
    s1.setDfa c { d with bad := tabSet (fun _ => false) d.bad k (!(s1.dfaEntry c k).valid) }
  | _ => s1

/-- A write to schedule memory: in use it is discarded with LOADBUSY, at no place it is ignored (R386, R387). -/
def State.writeSched (s : State) (c off v : Nat) : State :=
  let p := schedPlace off
  if p = .none then s
  else if s.schedInUse c p then s.setFld (F.DFA_STATUS_LOADBUSY c) 1
  else s.putSched c off v

/-! ### Ports (R370-R375) -/

/-- Elements in a row. -/
def DfaPort.perRow (p : DfaPort) : Nat := if bitsOf p.pd1 0 2 = 0 then 384 else if bitsOf p.pd1 0 2 = 1 then 192 else 128
/-- Bytes of an element. -/
def DfaPort.width (p : DfaPort) : Nat := bitsOf p.pd1 0 2 + 1
/-- SGN. -/
def DfaPort.sgn (p : DfaPort) : Bool := bitOf p.pd1 2
/-- DIR: a write port. -/
def DfaPort.writes (p : DfaPort) : Bool := bitOf p.pd1 3
/-- EN. -/
def DfaPort.en (p : DfaPort) : Bool := bitOf p.pd1 4
/-- NROWS. -/
def DfaPort.nrows (p : DfaPort) : Nat := bitsOf p.pd0 12 12 + 1
/-- Row j of the stream. -/
def DfaPort.row (p : DfaPort) (j : Nat) : Nat := bitsOf p.pd0 0 12 + bitsOf p.pd1 6 8 * j
/-- Place in the stream of the element that the head of a read port shows. -/
def DfaPort.elem (p : DfaPort) : Nat := bitsOf p.pd1 14 4 + p.pos * (bitsOf p.pd1 18 4 + 1)
/-- The head has passed the last element of its stream. -/
def DfaPort.past (p : DfaPort) : Bool := decide (p.nrows * p.perRow ≤ p.elem)
/-- Rows the read port has requested: two ahead of its head. -/
def DfaPort.asked (p : DfaPort) : Nat := if p.past then p.nrows else min p.nrows (p.elem / p.perRow + 2)

/-- The head of a read port is present (R369, R373). -/
def DfaPort.present (p : DfaPort) : Bool := p.past || decide (p.elem / p.perRow < p.arrived)

/-- The head element as a word (R371, R373). -/
def DfaPort.head (p : DfaPort) : Word :=
  if p.past then 0
  else match p.bufs.find? fun b => b.1 == p.elem / p.perRow with
  | some b =>
    let v := laneAt b.2 p.width (p.elem % p.perRow)
    if p.sgn then BitVec.ofInt 24 (signed (8 * p.width) v) else BitVec.ofNat 24 v
  | none => 0

/-- Port q of an array. -/
def Dfa.port (d : Dfa) (q : Nat) : DfaPort := tabGet (fun _ => {}) d.ports q

/-- Port q set. -/
def Dfa.setPort (d : Dfa) (q : Nat) (p : DfaPort) : Dfa := { d with ports := tabSet (fun _ => {}) d.ports q p }

/-- Rows of the array that wait for their write, among them those `p` takes, are written in order of issue, each with the
tag of the array's state now (R374, R375). -/
def State.writeRows (s : State) (c : Nat) (p : Nat × Nat × List Byte → Bool) : State :=
  let d := s.dfa c
  let s1 := s.setDfa c { d with writes := d.writes.filter fun w => !p w }
  (d.writes.filter p).foldl (fun s w => s.unitWrite c w.2.1 w.2.2 (s.dfa c).sealedSt) s1

/-- The oldest full row of port q is written, behind earlier writes of the array to that row (R372, R374). -/
def State.writePort (s : State) (c q : Nat) : State :=
  let d := s.dfa c
  match d.writes.findIdx? fun w => w.1 == q with
  | some n =>
    let r := (d.writes.getD n (0, 0, [])).2.1
    let go := d.writes.zipIdx.filter fun w => decide (w.2 ≤ n) && w.1.2.1 == r
    let s1 := s.setDfa c { d with writes := (d.writes.zipIdx.filter fun w => !(decide (w.2 ≤ n) && w.1.2.1 == r)).map (·.1) }
    go.foldl (fun s w => s.unitWrite c w.1.2.1 w.1.2.2 (s.dfa c).sealedSt) s1
  | none => s

/-- A row reaches its port, after the writes to it that were issued before the request: sealed state comes with a sealed row
(R374, R375). -/
def State.rowArrives (s0 : State) (c q : Nat) : State :=
  let p0 := (s0.dfa c).port q
  let s := if p0.en && !p0.writes && decide (p0.arrived < p0.asked)
    then s0.writeRows c fun w => w.2.1 == p0.row p0.arrived else s0
  let d := s.dfa c
  let p := d.port q
  if p.en && !p.writes && decide (p.arrived < p.asked) then
    let r := p.row p.arrived
    let d1 := d.setPort q { p with arrived := p.arrived + 1, bufs := p.bufs ++ [(p.arrived, s.unitRow c r)] }
    s.setDfa c { d1 with sealedSt := d1.sealedSt || s.unitTag c r }
  else s

/-- Read requests for a row that were issued before a write to it are served first (R374): `fuel` bounds the rows. -/
def State.serveRow (s : State) (c r : Nat) : State :=
  (List.range 32).foldl (fun s q => serve c r q 3 s) s
where
  /-- The requests of one port up to the last for the row. -/
  serve (c r q : Nat) : Nat → State → State
    | 0, s => s
    | n + 1, s =>
      let p := (s.dfa c).port q
      if p.en && !p.writes && (List.range p.asked).any fun j => decide (p.arrived ≤ j) && p.row j == r then
        serve c r q n (s.rowArrives c q)
      else s

/-- A row of write port q is full, or flushed: its write is issued, behind the read requests issued before it (R372,
R374). -/
def State.portRow (s : State) (c q r : Nat) (bs : List Byte) : State :=
  let s1 := s.serveRow c r
  s1.setDfa c { s1.dfa c with writes := (s1.dfa c).writes ++ [(q, r, bs)] }

/-- Row buffers of write port q in use: its full rows that wait, and the one it fills (R372). -/
def Dfa.buffers (d : Dfa) (q : Nat) : Nat := (d.writes.filter fun w => w.1 == q).length + b2n !(d.port q).fill.isEmpty

/-- Port q has buffer room for an element: a row it fills, a free buffer, or a stream that takes no more (R369, R372,
R373). -/
def Dfa.room (d : Dfa) (q : Nat) : Bool :=
  let p := d.port q
  !p.fill.isEmpty || decide (d.buffers q < 2) || decide (p.nrows * p.perRow ≤ p.pos)

/-- The range of a pushed element (R371). -/
def DfaPort.range (p : DfaPort) : Int × Int :=
  let w := 8 * p.width
  if w = 24 then (-8388608, 8388607)
  else if p.sgn then (-((2 : Int) ^ (w - 1)), (2 : Int) ^ (w - 1) - 1) else (0, (2 : Int) ^ w - 1)

/-- EXHAUST, and EXH of the running timetable (R373). -/
def State.exhaust (s : State) (c : Nat) : State :=
  let d := s.dfa c
  (s.setDfa c { d with run := d.run.map fun r => { r with exh := true } }).setFld (F.DFA_STATUS_EXHAUST c) 1

/-- Clamps counted while the array is open (R368). -/
def State.dfaSat (s : State) (c n : Nat) : State := if (s.dfa c).sealedSt then s else s.incFld (F.DFA_SATCNT_COUNT c) n

/-- A value pushed to port q. -/
def State.push (s : State) (c q : Nat) (v : Int) : State :=
  let p := (s.dfa c).port q
  if p.nrows * p.perRow ≤ p.pos then s.exhaust c
  else
    let x := clampI p.range.1 p.range.2 v
    let s1 := if x = v then s else s.dfaSat c 1
    let fill := p.fill ++ toBytes p.width (unsigned (8 * p.width) x)
    let full := decide (p.perRow * p.width ≤ fill.length)
    let s2 := s1.setDfa c ((s1.dfa c).setPort q { p with pos := p.pos + 1, fill := if full then [] else fill })
    if full then s2.portRow c q (p.row (p.pos / p.perRow)) fill else s2

/-- A pop of port q (R372, R373). -/
def State.popPort (s : State) (c q : Nat) : State :=
  let p := (s.dfa c).port q
  if p.past then s.exhaust c
  else
    let p1 := { p with pos := p.pos + 1 }
    s.setDfa c ((s.dfa c).setPort q { p1 with
      bufs := if p1.past then [] else p1.bufs.filter fun b => decide (p1.elem / p1.perRow ≤ b.1) })

/-- A flush of port q: its partly filled row whole, zero where nothing was pushed, whatever EN is now (R379). -/
def State.flushPort (s : State) (c q : Nat) : State :=
  let p := (s.dfa c).port q
  if !p.fill.isEmpty then
    let s1 := s.setDfa c ((s.dfa c).setPort q { p with fill := [] })
    s1.portRow c q (p.row (p.pos / p.perRow)) (p.fill ++ List.replicate (384 - p.fill.length) 0)
  else s

/-! ### Operations (Table DFA-3) -/

/-- An operation on the words a, b and d (the destination register) with the cell's own o: the result, whether fit
clamped it, and the LFSR after it. -/
def dfaOp (e : DfaEntry) (a b d o : Word) (lfsr : Nat) : Word × Bool × Nat :=
  let x := signed 24 a.toNat
  let y := signed 24 b.toNat
  let fitW (q : Int) (l : Nat) : Word × Bool × Nat :=
    let f := fit q (-8388608) 8388607 24 e.sat
    (BitVec.ofNat 24 f.1, f.2, l)
  let plain (w : Word) : Word × Bool × Nat := (w, false, lfsr)
  match e.op with
  | 0x01 => plain a
  | 0x02 => fitW (x + y) lfsr
  | 0x03 => fitW (x - y) lfsr
  | 0x04 => fitW (x - y).natAbs lfsr
  | 0x05 => plain (if x < y then a else b)
  | 0x06 => plain (if x < y then b else a)
  | 0x07 => plain (a &&& b)
  | 0x08 => plain (a ||| b)
  | 0x09 => plain (a ^^^ b)
  | 0x0A => fitW (x * (2 : Int) ^ e.sh) lfsr
  | 0x0B => let r := roundSh x e.sh e.rm lfsr; (BitVec.ofInt 24 r.1, false, r.2)
  | 0x0C => let r := roundSh (x * y) e.sh e.rm lfsr; fitW r.1 r.2
  | 0x0D => let r := roundSh (x * y) e.sh e.rm lfsr; fitW (signed 24 d.toNat + r.1) r.2
  | 0x0E => plain (BitVec.ofInt 24 (min (max x y) (signed 12 e.imm)))
  | 0x0F => plain (if x < y then 1 else 0)
  | 0x10 => plain (if x = y then 1 else 0)
  | 0x11 => plain (if o = 0 then b else a)
  | _ => plain 0

/-- Cell n's neighbour by source code 8-11 (R365). -/
def dfaNeighbour (n code : Nat) : Nat :=
  let r := n / 4
  let q := n % 4
  match code with
  | 8 => (r + 3) % 4 * 4 + q
  | 9 => r * 4 + (q + 1) % 4
  | 10 => (r + 1) % 4 * 4 + q
  | _ => r * 4 + (q + 3) % 4

/-- A source of cell n by its code (Table DFA-2), from the values before the step. -/
def Dfa.source (d : Dfa) (n : Nat) (e : DfaEntry) (code : Nat) : Word :=
  if code < 8 then tabGet (fun _ => 0) d.l (8 * n + code)
  else if code < 12 then tabGet (fun _ => 0) d.o (dfaNeighbour n code)
  else if code < 14 then (d.port (2 * n + (code - 12))).head
  else if code = 14 then BitVec.ofInt 24 (signed 12 e.imm)
  else 0

/-- The step may run for a cell: heads it reads or pops are there, and a port it pushes to has room (R369). -/
def Dfa.ready (d : Dfa) (n : Nat) (e : DfaEntry) : Bool :=
  [0, 1].all fun p => (!(e.reads p || e.pops p) || (d.port (2 * n + p)).present) && (!e.pushes p || d.room (2 * n + p))

/-- The results of a step, cells in ascending order (R367, R368): result, clamp, LFSR draws. -/
def State.dfaResults (s : State) (c base : Nat) : List (Nat × DfaEntry × Word) × Nat × Nat :=
  let d := s.dfa c
  (List.range 16).foldl (fun a n =>
    let e := s.dfaEntry c (base + n)
    let u := dfaUses e.op
    let av := if u.1 then d.source n e e.a else 0
    let bv := if u.2.1 then d.source n e e.b else 0
    let dv := if e.dst ≤ 7 then tabGet (fun _ => 0) d.l (8 * n + e.dst) else 0
    let r := dfaOp e av bv dv (tabGet (fun _ => 0) d.o n) a.2.2
    (a.1 ++ [(n, e, r.1)], a.2.1 + b2n r.2.1, r.2.2)) ([], 0, s.fld (F.DFA_RSTSEED_STATE c))

/-- What one cell's result does: register, output, push, pops; a head read past its end exhausts. -/
def State.dfaStore (c : Nat) (s : State) (x : Nat × DfaEntry × Word) : State :=
  let n := x.1
  let e := x.2.1
  let w := x.2.2
  let d := s.dfa c
  let s1 := if e.op = 0 then s
    else s.setDfa c { d with
      l := if e.dst ≤ 7 then tabSet (fun _ => 0) d.l (8 * n + e.dst) w else d.l
      o := if e.out then tabSet (fun _ => 0) d.o n w else d.o }
  let s2 := if e.pushes 0 then s1.push c (2 * n) (signed 24 w.toNat)
    else if e.pushes 1 then s1.push c (2 * n + 1) (signed 24 w.toNat) else s1
  [0, 1].foldl (fun s p =>
    let h := (s.dfa c).port (2 * n + p)
    let s3 := if e.reads p && h.past then s.exhaust c else s
    if e.pops p then s3.popPort c (2 * n + p) else s3) s2

/-! ### Timetables (R378-R385) -/

/-- The ports as the descriptors of a round leave them: CONT keeps a port as it stood, EN is the new one's (R379). -/
def State.loadPorts (s : State) (c r : Nat) : State :=
  let d := s.dfa c
  s.setDfa c ((List.range 32).foldl (fun d q =>
    let pd1 := s.portDesc c r q 1
    if bitOf pd1 5 then
      let p := d.port q
      d.setPort q { p with pd1 := putBits p.pd1 4 1 (b2n (bitOf pd1 4)) }
    else d.setPort q { pd0 := s.portDesc c r q 0, pd1 := pd1 }) d)

/-- CLR of an entry: l0-l7 and o of every cell zero. -/
def State.clearCells (s : State) (c : Nat) : State := s.setDfa c { s.dfa c with l := [], o := [] }

/-- The array turns to entry j of its timetable: write ports not continued flushed, ports loaded, CLR (R379, R380). -/
def State.enterEntry (s : State) (c slot j : Nat) (flush : Bool) : State :=
  match (s.timetable c slot)[j]? with
  | some e =>
    let s1 := if flush then
        (List.range 32).foldl (fun s q => if bitOf (s.portDesc c e.1 q 1) 5 then s else s.flushPort c q) s
      else s
    let s2 := s1.loadPorts c e.1
    if e.2.2 then s2.clearCells c else s2
  | none => s

/-- Descriptor words as a check sees them after entry j: CONT keeps what stood. -/
def State.checkPorts (s : State) (c r : Nat) (old : List (Nat × Nat)) : List (Nat × Nat) :=
  (List.range 32).map fun q =>
    let pd1 := s.portDesc c r q 1
    if bitOf pd1 5 then
      let o := old.getD q (0, 0)
      (o.1, putBits o.2 4 1 (b2n (bitOf pd1 4)))
    else (s.portDesc c r q 0, pd1)

/-- A descriptor passes R382, enabled or not. -/
def descOk (pd : Nat × Nat) : Bool :=
  let p : DfaPort := { pd0 := pd.1, pd1 := pd.2 }
  bitsOf pd.2 0 2 != 3 && bitsOf pd.2 22 2 == 0 &&
  decide (p.row (p.nrows - 1) ≤ 4095) && (!p.writes || (bitsOf pd.2 14 4 == 0 && bitsOf pd.2 18 4 == 0))

/-- The entries of a round that hold a word other than zero, by their number. -/
def State.listedEntries (s : State) (c r : Nat) : List Nat :=
  let lo := schedBase c + 32768 * r
  s.mem.filterMap fun x => if lo ≤ x.1 ∧ x.1 < lo + 32768 then some ((x.1 - schedBase c) / 8) else none

/-- An entry uses its cell's ports as their descriptors allow (R382). -/
def State.entryOk (s : State) (c k : Nat) (ports : List (Nat × Nat)) : Bool :=
  let e := s.dfaEntry c k
  [0, 1].all fun p =>
    let d : DfaPort := { pd1 := (ports.getD (2 * (k % 16) + p) (0, 0)).2 }
    (!(e.reads p || e.pops p) || (d.en && !d.writes)) && (!e.pushes p || (d.en && d.writes))

/-- Round r of an array holds an invalid entry (DFA_RBAD). -/
def Dfa.roundBad (d : Dfa) (r : Nat) : Bool := d.bad.any fun b => b.1 / 4096 == r

/-- The checks of R382 on a slot. -/
def State.startOk (s : State) (c slot : Nat) : Bool :=
  ((s.timetable c slot).foldl (fun (a : Bool × List (Nat × Nat)) e =>
    let ports := s.checkPorts c e.1 a.2
    (a.1 && !(s.dfa c).roundBad e.1 && ports.all descOk && (s.listedEntries c e.1).all (s.entryOk c · ports), ports))
    (true, [])).1

/-- A completion (R383). -/
def State.dfaReport (s : State) (c : Nat) (st : DfaStart) (status : Nat) (sealedRun exh : Bool) : State :=
  let k : DfaCpl := { tag := st.tag, status := status, slot := st.slot, src := st.src, sealedRun := sealedRun, exh := exh }
  let s1 := if st.notify then s.fire (40 + c) else s
  let d := s1.dfa c
  if st.src = 2 then s1.unitDone st.id 3 status false
  else if d.cpl.length < 8 then s1.setDfa c { d with cpl := d.cpl ++ [k] }
  else (s1.incFld (F.DFA_CPLCNT_OVF c) 1).setFld (F.DFA_STATUS_CPLOVF c) 1

/-- Starts queued or running. -/
def State.dfaDepth (s : State) (c : Nat) : Nat := (s.dfa c).queue.length + b2n (s.dfa c).run.isSome

/-- The start queue of cluster c is full (R381). -/
def State.dfaFull (s : State) (c : Nat) : Bool := decide (4 ≤ s.dfaDepth c)

/-- A start enters the queue; a full queue makes its writer wait (R381; log entry 14). -/
def State.dfaQueue (s : State) (c : Nat) (st : DfaStart) : State :=
  if s.dfaFull c then s else s.setDfa c { s.dfa c with queue := (s.dfa c).queue ++ [st] }

/-- A write of DFA_STARTp; while a change of owner waits it is discarded at every port (R247, R381). -/
def State.dfaStart (s : State) (c p : Nat) (iseal : Bool) (v : Nat) (id : Nat := 0) : State :=
  if s.flag (F.CLU_OWNER_PEND c) then s.setFld (F.DFA_STATUS_OWNPEND c) 1
  else s.dfaQueue c { slot := bitsOf v 0 2, tag := bitsOf v 2 6, notify := bitOf v 8, src := p, iseal := iseal, id := id }

/-- A start leaves the queue: checked, then running from entry 0 (R382, R385). -/
def State.timetableStart (s : State) (c : Nat) : State :=
  let d := s.dfa c
  if !s.unitsAct c || d.run.isSome then s
  else match d.queue with
  | [] => s
  | st :: rest =>
    let s1 := s.setDfa c { d with queue := rest }
    if !s1.startOk c st.slot then (s1.dfaReport c st 1 false false).setFld (F.DFA_STATUS_BADARG c) 1
    else
      let s2 := s1.setDfa c { s1.dfa c with
        ports := [], writes := []
        sealedSt := st.iseal
        run := some { start := st, entry := 0, iter := 0, step := 0, exh := false, ended := false } }
      s2.enterEntry c st.slot 0 false

/-- The running timetable moves on after a step: the cycle of a round switch follows the last step of an entry (R378,
R380). -/
def State.dfaAdvance (s : State) (c : Nat) (r : DfaRun) : State :=
  let tt := s.timetable c r.start.slot
  let e := tt.getD r.entry (0, 1, false)
  let put (s : State) (f : DfaRun → DfaRun) : State := s.setDfa c { s.dfa c with run := (s.dfa c).run.map f }
  if r.step + 1 < s.roundLen c e.1 then put s fun x => { x with step := r.step + 1 }
  else if r.iter + 1 < e.2.1 then put s fun x => { x with step := 0, iter := r.iter + 1 }
  else if r.entry + 1 < tt.length then put s fun x => { x with switching := true }
  else put s fun x => { x with ended := true }

/-- The cycle of a round switch (R380). -/
def State.roundSwitch (s : State) (c : Nat) (r : DfaRun) : State :=
  (s.setDfa c { s.dfa c with
    run := some { r with step := 0, iter := 0, entry := r.entry + 1, switching := false } }).enterEntry c r.start.slot
    (r.entry + 1) true

/-- DFA_STEP: the step of the current cycle, a stall, or the cycle of a round switch (R367, R369, R380). -/
def State.dfaStep (s : State) (c : Nat) : State :=
  let d := s.dfa c
  match d.run with
  | some r =>
    if r.ended || !s.unitsAct c then s
    else if r.switching then s.roundSwitch c r
    else
      let e := (s.timetable c r.start.slot).getD r.entry (0, 1, false)
      let base := (e.1 * 256 + r.step) * 16
      if (List.range 16).all fun n => d.ready n (s.dfaEntry c (base + n)) then
        let q := s.dfaResults c base
        let s1 := (s.dfaSat c q.2.1).setFld (F.DFA_RSTSEED_STATE c) q.2.2
        (q.1.foldl (State.dfaStore c) s1).dfaAdvance c r
      else if d.sealedSt then s else s.incFld (F.DFA_STALLCNT_COUNT c) 1
  | none => s

/-- The wipe of R44: cells and ports zero, sealed state left. -/
def State.dfaWipe (s : State) (c : Nat) : State :=
  let d := s.dfa c
  s.setDfa c (if d.sealedSt then { d with l := [], o := [], ports := [], writes := [], sealedSt := false }
    else { d with ports := [], writes := [] })

/-- DFA_TIMETABLE_COMPLETE: what is left is flushed, the last rows are written, then the wipe (R379, R383, R44). -/
def State.timetableDone (s : State) (c : Nat) : State :=
  match (s.dfa c).run with
  | some r =>
    if r.ended && s.unitsAct c then
      let s1 := ((List.range 32).foldl (fun s q => s.flushPort c q) s).writeRows c fun _ => true
      let sealedRun := (s1.dfa c).sealedSt
      let s2 := s1.dfaWipe c
      (s2.setDfa c { s2.dfa c with run := none }).dfaReport c r.start 0 sealedRun r.exh
    else s
  | none => s

/-- The running timetable and the queued starts that `p` takes complete ABORTED, nothing flushed (R384). -/
def State.dfaAbort (s : State) (c : Nat) (p : DfaStart → Bool) : State :=
  let d := s.dfa c
  let gone := d.queue.filter p
  let s1 := s.setDfa c { d with queue := d.queue.filter fun x => !p x }
  let s2 := match d.run with
    | some r =>
      if p r.start then
        let s3 := s1.dfaWipe c
        (s3.setDfa c { s3.dfa c with run := none }).dfaReport c r.start 2 d.sealedSt r.exh
      else s1
    | none => s1
  gone.foldl (fun s x => s.dfaReport c x 2 false false) s2

/-! ### Loads (R388) -/

/-- DFA_LOADCMD.GO. -/
def State.dfaLoad (s : State) (c : Nat) : State :=
  let src := s.fld (F.DFA_LOAD0_SRCROW c)
  let n := s.fld (F.DFA_LOAD0_NROWS c)
  let d := s.dfa c
  if d.load.isSome then s
  else if n = 0 ∨ 4096 < src + n then s.setFld (F.DFA_STATUS_BADARG c) 1
  else s.setDfa c { d with load := some { src := src, rows := n, widx := s.fld (F.DFA_LOAD1_WIDX c) } }

/-- One row of a load. -/
def State.loadRow (s : State) (c : Nat) (l : DfaLoad) (i : Nat) : State :=
  let bs := s.unitRow c (l.src + i)
  (List.range 128).foldl (fun s w =>
    let idx := l.widx + 128 * i + w
    if idx < 131072 then s.writeSched c (4 * idx) (laneAt bs 3 w) else s) s

/-- The rows of a load, up to the first sealed one. -/
def State.loadRows (c : Nat) (l : DfaLoad) : Nat → Nat → State → State
  | 0, _, s => s
  | n + 1, i, s =>
    if s.unitTag c (l.src + i) then s.setFld (F.DFA_STATUS_LDSEAL c) 1 else State.loadRows c l n (i + 1) (s.loadRow c l i)

/-- DFA_LOAD_END: the words are in schedule memory. -/
def State.dfaLoadEnd (s : State) (c : Nat) : State :=
  match (s.dfa c).load with
  | some l =>
    if s.unitsAct c then
      let s1 := State.loadRows c l l.rows 0 s
      s1.setDfa c { s1.dfa c with load := none }
    else s
  | none => s

/-! ### Commands -/

/-- DFA_START: a write of DFA_STARTp (R381). -/
def execDfaStart (ini : Initiator) (c : Fin 4) (p : Fin 3) (v : Word) (s : State) : Host.Outcome State Fault Refusal :=
  ok (s.cmdWrite ini (Reg.DFA_START c p) fun s => s.dfaStart c p (s.sealedIni ini) v.toNat)

/-- DFA_TIMETABLE_START (R382). -/
def execDfaTimetableStart (c : Fin 4) (s : State) : Host.Outcome State Fault Refusal := ok (s.timetableStart c)

/-- DFA_STEP (R367). -/
def execDfaStep (c : Fin 4) (s : State) : Host.Outcome State Fault Refusal := ok (s.dfaStep c)

/-- The request of port q is granted: the row a read port waits for arrives, or the oldest full row of a write port is
written (R372, R375; log entry 81). -/
def State.portGrant (s : State) (c q : Nat) : State :=
  if (s.dfa c).writes.any fun w => w.1 == q then s.writePort c q else s.rowArrives c q

/-- DFA_ROW_ARRIVAL (R372, R375). -/
def execDfaRowArrival (c : Fin 4) (cell : Fin 16) (p : Fin 2) (s : State) : Host.Outcome State Fault Refusal :=
  ok (if s.unitsAct c then s.portGrant c (2 * cell + p) else s)

/-- DFA_TIMETABLE_COMPLETE (R383). -/
def execDfaTimetableComplete (c : Fin 4) (s : State) : Host.Outcome State Fault Refusal := ok (s.timetableDone c)

/-- DFA_ABORT: a write of DFA_ABORT.REQ (R384). -/
def execDfaAbort (ini : Initiator) (c : Fin 4) (s : State) : Host.Outcome State Fault Refusal :=
  ok (s.cmdWrite ini (Reg.DFA_ABORT c) fun s => s.dfaAbort c fun _ => true)

/-- DFA_LOAD: a write of DFA_LOADCMD.GO (R388). -/
def execDfaLoad (ini : Initiator) (c : Fin 4) (s : State) : Host.Outcome State Fault Refusal :=
  ok (s.cmdWrite ini (Reg.DFA_LOADCMD c) fun s => s.dfaLoad c)

/-- DFA_LOAD_END (R388). -/
def execDfaLoadEnd (c : Fin 4) (s : State) : Host.Outcome State Fault Refusal := ok (s.dfaLoadEnd c)

/-- SCHEDULE_WRITE: a word of schedule memory by its index (R386, R387). -/
def execScheduleWrite (ini : Initiator) (c : Fin 4) (idx : Fin 131072) (v : Word) (s : State) :
    Host.Outcome State Fault Refusal :=
  ok (s.cmdWrite ini (schedBase c + 4 * idx) fun s => s.writeSched c (4 * idx) v.toNat)

/-- The oldest completion removed. -/
def State.dfaPop (s : State) (c : Nat) : State := s.setDfa c { s.dfa c with cpl := (s.dfa c).cpl.drop 1 }

/-- DFA_CPLPOP (R383). -/
def execDfaCplpop (ini : Initiator) (c : Fin 4) (s : State) : Host.Outcome State Fault Refusal :=
  ok (s.cmdWrite ini (Reg.DFA_CPLPOP c) fun s => s.dfaPop c)

/-- DFA_RSTSEED_WRITE (R368). -/
def execDfaRstseedWrite (ini : Initiator) (c : Fin 4) (v : Word) (s : State) : Host.Outcome State Fault Refusal :=
  ok (s.cmdWrite ini (Reg.DFA_RSTSEED c) fun s => s.setFld (F.DFA_RSTSEED_STATE c) (lfsrLoad v.toNat))

end Sys2Proof.Machine
end

