-- ==== Sys2Proof/Machine/Pst.lean ====
section
/-! DEFINITION. The parameter store: groups and their errors, record pages, the mount, record writes and deletes, and
what an abort leaves (15_parameter_store.md). -/

namespace Sys2Proof.Machine

open Sys2Proof

/-! ### Groups (R510-R514) -/

/-- Group g of the array. -/
def State.pstGroup (s : State) (g : Nat) : PstGroup := tabGet (fun _ => {}) s.pst g

/-- Group g set. -/
def State.setGroup (s : State) (g : Nat) (x : PstGroup) : State := { s with pst := tabSet (fun _ => {}) s.pst g x }

/-- The data of an erased group. -/
def erasedData : Nat := 0xFFFFFFFFFFFFFFFF

/-- What a read of group g counts and records (R514). -/
def State.eccRead (s : State) (g : Nat) : State :=
  match (s.pstGroup g).ecc with
  | 0 => s
  | 1 =>
    let s1 := s.incFld F.PST_ECC_CE 1
    if s1.flag F.PST_ECCADDR_VALID then s1
    else ((s1.setFld F.PST_ECCADDR_GROUP g).setFld F.PST_ECCADDR_UE 0).setFld F.PST_ECCADDR_VALID 1
  | _ =>
    let s1 := s.incFld F.PST_ECC_UE 1
    let s2 := if s1.flag F.PST_ECCADDR_VALID && s1.flag F.PST_ECCADDR_UE then s1
      else ((s1.setFld F.PST_ECCADDR_GROUP g).setFld F.PST_ECCADDR_UE 1).setFld F.PST_ECCADDR_VALID 1
    s2.fault 0x09 63 g false

/-- Reads of groups in order. -/
def State.eccReads (s : State) (gs : List Nat) : State := gs.foldl State.eccRead s

/-- n bytes of the array from offset o on, as a read returns them. -/
def State.pstBytes (s : State) (o n : Nat) : List Byte :=
  (List.range n).map fun i => BitVec.ofNat 8 (bitsOf (s.pstGroup ((o + i) / 8)).data (8 * ((o + i) % 8)) 8)

/-- Groups that n bytes from offset o on lie in. -/
def groupsOf (o n : Nat) : List Nat := (List.range ((o + n + 7) / 8 - o / 8)).map fun i => o / 8 + i

/-- A group programmed with data; all-ones data is left erased (R511). -/
def State.program (s : State) (g v : Nat) (weak : Bool) : State :=
  if v = erasedData then s else s.setGroup g { data := v, ecc := 0, weak := weak }

/-- A page erased (R512). -/
def State.erasePage (s : State) (p : Nat) : State := { s with pst := tabClear (fun g => g / 64 == p) s.pst }

/-! ### Record pages (R518, R519) -/

/-- Bytes o to o + n - 1 of page p as a number. -/
def State.pageNum (s : State) (p o n : Nat) : Nat := ofBytes (s.pstBytes (512 * p + o) n)

/-- The constant of COMMIT. -/
def commitData : Nat := 0x0F0F5A5AA5A5F0F0

/-- A double-bit error in a group of page p. -/
def State.pageUe (s : State) (p : Nat) (gs : List Nat) : Bool := gs.any fun g => decide (2 ≤ (s.pstGroup (64 * p + g)).ecc)

/-- HCRC of page p matches its header, which reads without a double-bit error. -/
def State.pageHcrc (s : State) (p : Nat) : Bool :=
  s.pageNum p 492 2 == crc16 (s.pstBytes (512 * p + 472) 20) && !s.pageUe p [59, 60, 61]

/-- The header of page p passes: MAGIC, TYPE, LEN, HCRC. -/
def State.headerOk (s : State) (p : Nat) : Bool :=
  let type := s.pageNum p 474 2
  let len := s.pageNum p 478 2
  s.pageNum p 472 2 == 0x5253 && type != 0 && type != 0xFFFF && decide (8 ≤ len) && decide (len ≤ 472) && len % 8 == 0 &&
  s.pageHcrc p

/-- COMMIT of page p is valid: at the margin, without correction. -/
def State.commitOk (s : State) (p : Nat) : Bool :=
  let g := s.pstGroup (64 * p + 62)
  g.data == commitData && g.ecc == 0 && !g.weak

/-- Groups that the body of page p takes, by its LEN. -/
def State.bodyGroups (s : State) (p : Nat) : List Nat := List.range ((s.pageNum p 478 2 + 7) / 8)

/-- BCRC of page p matches its body. -/
def State.bodyOk (s : State) (p : Nat) : Bool :=
  let len := s.pageNum p 478 2
  decide (len ≤ 472) && s.pageNum p 484 4 == crc32 (s.pstBytes (512 * p) len) && !s.pageUe p (s.bodyGroups p)

/-- Group g reads erased: 0xFF in each byte and no error (R511). -/
def State.readsErased (s : State) (g : Nat) : Bool := (s.pstGroup g).data == erasedData && (s.pstGroup g).ecc == 0

/-- SUPERSEDE of page p reads erased. -/
def State.notSuperseded (s : State) (p : Nat) : Bool := s.readsErased (64 * p + 63)

/-- Every group of page p reads erased. -/
def State.pageErased (s : State) (p : Nat) : Bool :=
  s.pst.all fun g => g.1 / 64 != p || (g.2.data == erasedData && g.2.ecc == 0)

/-- The class of page p (R519). SUPERSEDED asks for COMMIT, HCRC and BCRC alone. -/
def State.pageClass (s : State) (p : Nat) : Nat :=
  if s.pageErased p then 0
  else if s.commitOk p && s.pageHcrc p && s.bodyOk p && !s.notSuperseded p then 2
  else if s.commitOk p && s.headerOk p && s.bodyOk p && s.notSuperseded p then 1
  else 3

/-- The mount reads the body of page p: its header passes, as a VALID or as a SUPERSEDED page (R519, R527). -/
def State.bodyRead (s : State) (p : Nat) : Bool :=
  s.headerOk p || (s.pageHcrc p && s.commitOk p && !s.notSuperseded p && decide (s.pageNum p 478 2 ≤ 472))

/-! ### Index and wear (R522, R524, R529) -/

/-- What the index holds of page p. -/
def State.page (s : State) (p : Nat) : PstPage := tabGet (fun _ => {}) s.pstPages p

/-- Page p of the index set. -/
def State.setPage (s : State) (p : Nat) (x : PstPage) : State :=
  { s with pstPages := tabSet (fun _ => {}) s.pstPages p x }

/-- The VALID page of a key. -/
def State.findKey (s : State) (type inst : Nat) : Option Nat :=
  (List.range 256).find? fun p => let x := s.page p; x.cls == 1 && x.type == type && x.inst == inst

/-- A spare candidate (R522). -/
def State.candidate (s : State) (p : Nat) : Bool := let x := s.page p; x.cls != 1 && !x.retired

/-- Spare candidates. -/
def State.candidates (s : State) : List Nat := (List.range 256).filter s.candidate

/-- The spare page: lowest wear, then lowest number. -/
def State.sparePage (s : State) : Option Nat :=
  s.candidates.foldl (fun b p => match b with
    | some q => if (s.page p).wear < (s.page q).wear then some p else b
    | none => some p) none

/-- Keys that have a VALID page. -/
def State.pstRecords (s : State) : Nat := ((List.range 256).filter fun p => (s.page p).cls == 1).length

/-- Retired pages. -/
def State.pstRetired (s : State) : Nat := ((List.range 256).filter fun p => (s.page p).retired).length

/-- Greatest page wear. -/
def State.pstWear (s : State) : Nat := (List.range 256).foldl (fun m p => max m (s.page p).wear) 0

/-- A page whose wear has reached 100,000 is retired (R522). -/
def wornOut (wear : Nat) : Bool := decide (100000 ≤ wear)

/-! ### Mount (R527) -/

/-- The WEAR field of page p if its header passes HCRC (R529). -/
def State.wearField (s : State) (p : Nat) : Option Nat := if s.pageHcrc p then some (s.pageNum p 488 3) else none

/-- Greatest known wear of a bank. -/
def State.bankWear (s : State) (bank : Nat) : Nat :=
  (List.range 128).foldl (fun m i => max m ((s.wearField (128 * bank + i)).getD 0)) 0

/-- One page classed by the mount. -/
def State.mountPage (w0 w1 : Nat) (s : State) (p : Nat) : State :=
  let s1 := s.eccReads ((List.range 5).map fun i => 64 * p + 59 + i)
  let s2 := if s.bodyRead p then s1.eccReads ((s.bodyGroups p).map fun i => 64 * p + i) else s1
  let wear := (s.wearField p).getD (if p < 128 then w0 else w1)
  s2.setPage p { cls := s.pageClass p, wear := wear, known := (s.wearField p).isSome, retired := wornOut wear,
                 type := s.pageNum p 474 2, inst := s.pageNum p 476 2, len := s.pageNum p 478 2, seq := s.pageNum p 480 4 }

/-- The page kept so far and page q of the same key: the greater SEQ in serial order within 2^31, or the lower page at
equal SEQ. Two SEQs 2^31 apart have no serial order: which page is kept is open (log entry 87). -/
def State.keeper (a : State × Nat) (q : Nat) : State × Nat :=
  let s := a.1
  let d := ((s.page q).seq + 2 ^ 32 - (s.page a.2).seq) % 2 ^ 32
  if d = 2 ^ 31 then (s.drawn, if s.open_ 2 = 1 then q else a.2)
  else (s, if d ≠ 0 ∧ d < 2 ^ 31 then q else a.2)

/-- The VALID pages of a list that hold the key of page p. -/
def State.sameKey (s : State) (p : Nat) (l : List Nat) : List Nat :=
  l.filter fun q => (s.page q).type == (s.page p).type && (s.page q).inst == (s.page p).inst

/-- Step 2 of the mount: the pages of `l`, all VALID, that a page of their own key outdoes. A key is settled at the
first of its pages. -/
def State.mountFixes : List Nat → List Nat → State → State × List Nat
  | [], _, s => (s, [])
  | p :: l, seen, s =>
    if seen.contains p then State.mountFixes l seen s
    else
      let same := s.sameKey p l
      let k := same.foldl State.keeper (s, p)
      let r := State.mountFixes l (same ++ seen) k.1
      (r.1, (p :: same).filter (· != k.2) ++ r.2)

/-- A page that was committed, is not superseded, and is DIRTY because a bit error lies in its COMMIT, or a double-bit
error in its header or body: its key may be lost (R527, R536). -/
def State.lostPage (s : State) (p : Nat) : Bool :=
  let c := s.pstGroup (64 * p + 62)
  (s.page p).cls == 3 && s.notSuperseded p &&
  (decide (2 ≤ c.ecc) || (c.data == commitData && (c.ecc == 1 || s.pageUe p [59, 60, 61] || s.pageUe p (s.bodyGroups p))))

/-- Keys left with no record. -/
def State.lostKeys (s : State) : List (Nat × Nat) :=
  (((List.range 256).filter s.lostPage).map fun p => ((s.page p).type, (s.page p).inst)).eraseDups.filter fun k =>
    (s.findKey k.1 k.2).isNone

/-- The result of a command. -/
def State.pstEnd (s : State) (cmd code : Nat) : State := (s.setFld F.PST_RESULT_CODE code).setFld F.PST_RESULT_CMD cmd

/-- The mount ends with DONE: PST_MOUNTINFO, and MOUNTED (R527 step 3). -/
def State.mountFinish (s : State) (fixes : List Nat) : State :=
  let dirty := ((List.range 256).filter fun p => (s.page p).cls == 3).length
  let lost := s.lostKeys.length
  let s1 := ((s.setFld F.PST_MOUNTINFO_DIRTY (min 255 dirty)).setFld F.PST_MOUNTINFO_LOST (min 255 lost)).setFld
    F.PST_MOUNTINFO_REPAIR (b2n (decide (fixes ≠ [])))
  let s2 := if lost = 0 then s1 else s1.fault 0x0A 63 lost false
  (({ s2 with pstOp := none }).setFld F.PST_STATUS_MOUNTED 1).pstEnd 1 1

/-! ### Record writes (R520-R523) and deletes (R524) -/

/-- PST_CMD.CMD of a command in progress. -/
def PstOp.cmd (o : PstOp) : Nat := if o.fixes.isSome then 1 else if o.del then 3 else 2

/-- Unit 0 of a record write is the erase. -/
def PstOp.erasing (o : PstOp) : Bool := o.fixes.isNone && !o.del && o.unit == 0

/-- Erases and programs of a command: erase, body, three header groups, COMMIT, SUPERSEDE of an old page; the one
SUPERSEDE of a delete; those of a mount. -/
def PstOp.units (o : PstOp) : Nat :=
  match o.fixes with
  | some l => l.length
  | none => if o.del then 1 else 5 + o.len / 8 + b2n o.old.isSome

/-- The page whose SUPERSEDE the unit at hand programs. -/
def PstOp.superseding (o : PstOp) : Option Nat :=
  match o.fixes with
  | some l => l[o.unit]?
  | none => if o.del || o.unit == o.len / 8 + 5 then o.old else none

/-- The page under operation (R515). -/
def PstOp.page (o : PstOp) : Nat := o.superseding.getD o.spare

/-- The group and the data that the program at hand of a command stores. -/
def State.pstUnit (s : State) (o : PstOp) : Nat × Nat :=
  let i := o.unit
  let n := o.len / 8
  let p := o.spare
  if o.superseding.isSome then (64 * o.page + 63, 0)
  else if i ≤ n then
    let g := i - 1
    (64 * p + g, ofBytes (((s.unitRow o.cluster (o.row + 8 * g / 384)).drop (8 * g % 384)).take 8))
  else
    let seq := match o.old with | some q => ((s.page q).seq + 1) % 2 ^ 32 | none => 0
    let h := 0x5253 + o.type * 2 ^ 16 + o.inst * 2 ^ 32 + o.len * 2 ^ 48 + seq * 2 ^ 64
      + crc32 (s.pstBytes (512 * p) o.len) * 2 ^ 96 + (s.page p).wear % 2 ^ 24 * 2 ^ 128
    let hc := h + crc16 (toBytes 20 h) * 2 ^ 160
    if i = n + 1 then (64 * p + 59, bitsOf hc 0 64)
    else if i = n + 2 then (64 * p + 60, bitsOf hc 64 64)
    else if i = n + 3 then (64 * p + 61, bitsOf hc 128 64)
    else (64 * p + 62, commitData)

/-- The step PST_STATUS shows (R521). -/
def PstOp.step (o : PstOp) : Nat :=
  let n := o.len / 8
  if o.fixes.isSome then 7
  else if o.del then 6
  else if o.unit = 0 then 2
  else if o.unit ≤ n then 3
  else if o.unit ≤ n + 3 then 4
  else if o.unit = n + 4 then 5
  else 6

/-- The index after a write, or after a delete. -/
def State.pstIndex (s : State) (o : PstOp) : State :=
  let s1 := match o.old with
    | some q => s.setPage q { s.page q with cls := 2 }
    | none => s
  if o.del then s1
  else
    let seq := match o.old with | some q => ((s.page q).seq + 1) % 2 ^ 32 | none => 0
    s1.setPage o.spare { s1.page o.spare with
      cls := 1, known := true, type := o.type, inst := o.inst, len := o.len, seq := seq }

/-- A command ends with DONE. -/
def State.pstFinish (s : State) (o : PstOp) : State :=
  match o.fixes with
  | some l => s.mountFinish l
  | none => ({ s.pstIndex o with pstOp := none }).pstEnd o.cmd 1

/-- A command ends early with a status. -/
def State.pstStop (s : State) (o : PstOp) (code : Nat) : State := ({ s with pstOp := none }).pstEnd o.cmd code

/-- The erase of the spare page: one more in its wear (R521, R529). -/
def State.pstErase (s : State) (o : PstOp) : State :=
  let x := s.page o.spare
  (s.erasePage o.spare).setPage o.spare { cls := 0, wear := x.wear + 1, known := false, retired := wornOut (x.wear + 1) }

/-- A program of group g of a command has failed its verify: VERIFY, the page retired (R517, R538). Whether the index
takes a write or a delete whose SUPERSEDE is the group that failed is open (log entry 87). -/
def State.pstFail (s : State) (o : PstOp) (p : Nat) : State :=
  let retire (s : State) : State := (s.setPage p { s.page p with retired := true }).pstStop o 9
  if o.fixes.isNone && o.superseding.isSome then retire (if s.open_ 2 = 1 then s.drawn.pstIndex o else s.drawn)
  else retire s

/-- The class the index shows of the page just programmed, before its record is whole. -/
def State.pstMark (s : State) (o : PstOp) (p : Nat) : State :=
  if o.superseding.isNone then s.setPage p { s.page p with cls := 3 }
  else if o.fixes.isSome then s.setPage p { s.page p with cls := 2 }
  else s

/-- One erase or program; `fail` makes its verify fail (R517, R523). -/
def State.pstDo (s : State) (o : PstOp) (fail : Bool) : State :=
  if o.erasing then { s.pstErase o with pstOp := some { o with unit := 1 } }
  else if o.superseding.isNone && decide (o.unit ≤ o.len / 8) && s.unitTag o.cluster (o.row + 8 * (o.unit - 1) / 384) then
    (s.pstStop o 5).refuseEgress F.SEAL_EGRCNT2_PST
  else
    let u := s.pstUnit o
    let p := u.1 / 64
    let s1 := (s.program u.1 u.2 fail).pstMark o p
    if fail && u.2 != erasedData then s1.pstFail o p
    else if o.unit + 1 = o.units then s1.pstFinish o
    else { s1 with pstOp := some { o with unit := o.unit + 1 } }

/-- The next erase or program of the command in progress, its verify open. -/
def State.pstChance (s : State) : State :=
  match s.pstOp with
  | some o => s.drawn.pstDo o (s.open_ 2 == 1)
  | none => s

/-- The command in progress runs on as `r` says; the count is fuel, more than the units of any command. -/
def State.pstAdvance (r : PstRun) : Nat → State → State
  | 0, s => s
  | n + 1, s =>
    match s.pstOp with
    | none => s
    | some o =>
      match r with
      | .whole => State.pstAdvance r n (s.pstDo o false)
      | .fails k => State.pstAdvance r n (s.pstDo o (k == o.unit))
      | .stops k => if k = o.unit then s else State.pstAdvance r n (s.pstDo o false)
      | .chance => State.pstAdvance r n s.pstChance

/-- A command begins and runs as far as its operand says. -/
def State.pstRun (s : State) (o : PstOp) (r : PstRun) : State := { s with pstOp := some o }.pstAdvance r 300

/-- The background of the store: a command in progress runs to its end. -/
def State.pstTick (s : State) : State := s.pstAdvance .chance 300

/-- MOUNT (R527): the pages are classed and the index is built; then the SUPERSEDE of each page outdone is programmed.
MOUNTED is 0 meanwhile. -/
def State.pstMount (s : State) (r : PstRun) : State :=
  let s0 := ({ s with pstPages := [] }).setFld F.PST_STATUS_MOUNTED 0
  let s1 := (List.range 256).foldl (State.mountPage (s.bankWear 0) (s.bankWear 1)) s0
  let v := State.mountFixes ((List.range 256).filter fun p => (s1.page p).cls == 1) [] s1
  if v.2 = [] then v.1.mountFinish []
  else v.1.pstRun { del := false, type := 0, inst := 0, len := 0, cluster := 0, row := 0, spare := 0, old := none, unit := 0,
                    fixes := some v.2 } r

/-- The pre-scan meets a sealed row (R520 step 4). -/
def State.prescanSealed (s : State) (c row len : Nat) : Bool := (List.range ((len + 383) / 384)).any fun i => s.tag c (row + i)

/-- WRITE (R520). -/
def State.pstWrite (s : State) (r : PstRun) : State :=
  let type := s.fld F.PST_KEY0_TYPE
  let inst := s.fld F.PST_KEY1_INST
  let len := s.fld F.PST_LEN_LEN
  let c := s.fld F.PST_SRC_CLUSTER
  let row := s.fld F.PST_SRC_ROW
  let old := s.findKey type inst
  if !s.flag F.PST_STATUS_MOUNTED then s.pstEnd 2 2
  else if type = 0 ∨ type = 0xFFFF ∨ len < 8 ∨ 472 < len ∨ len % 8 ≠ 0 ∨ 4096 < row + (len + 383) / 384 then s.pstEnd 2 3
  else if !s.spOn c then s.pstEnd 2 4
  else if s.prescanSealed c row len then (s.pstEnd 2 5).refuseEgress F.SEAL_EGRCNT2_PST
  else match s.sparePage with
  | none => s.pstEnd 2 6
  | some p =>
    if old.isNone && decide (240 ≤ s.pstRecords) then s.pstEnd 2 7
    else s.pstRun { del := false, type := type, inst := inst, len := len, cluster := c, row := row, spare := p, old := old,
                    unit := 0 } r

/-- DELETE (R524). -/
def State.pstDelete (s : State) (r : PstRun) : State :=
  let type := s.fld F.PST_KEY0_TYPE
  let inst := s.fld F.PST_KEY1_INST
  if !s.flag F.PST_STATUS_MOUNTED then s.pstEnd 3 2
  else match s.findKey type inst with
  | none => s.pstEnd 3 8
  | some p => s.pstRun { del := true, type := type, inst := inst, len := 0, cluster := 0, row := 0, spare := p,
                         old := some p, unit := 0 } r

/-- FIND (R524). -/
def State.pstFind (s : State) : State :=
  if !s.flag F.PST_STATUS_MOUNTED then s.pstEnd 4 2
  else match s.findKey (s.fld F.PST_KEY0_TYPE) (s.fld F.PST_KEY1_INST) with
  | none => (s.setFld F.PST_FOUND_FOUND 0).pstEnd 4 8
  | some p =>
    let x := s.page p
    (((((s.setFld F.PST_FOUND_PAGE p).setFld F.PST_FOUND_FOUND 1).setFld F.PST_FOUND_LEN x.len).setFld F.PST_FSEQ0_SEQ
      x.seq).setFld F.PST_FSEQ1_SEQ (x.seq / 2 ^ 24)).pstEnd 4 1

/-- A write of PST_CMD (R516, R531). -/
def State.pstCmd (s : State) (cmd : Nat) (r : PstRun) : State :=
  if s.pstOp.isSome then s.setFld F.PST_STATUS_REFUSED 1
  else match cmd with
  | 1 => s.pstMount r
  | 2 => s.pstWrite r
  | 3 => s.pstDelete r
  | 4 => s.pstFind
  | _ => s

/-- Group g torn: its bits, its errors and its margin are open. -/
def State.tearGroup (s : State) (g : Nat) : State :=
  s.drawn.drawn.drawn.setGroup g { data := s.open_ (2 ^ 64), ecc := s.drawn.open_ 3, weak := s.drawn.drawn.open_ 2 == 1 }

/-- What Table PST-4 rules out of a torn group: after an erase, a COMMIT that passes at the margin; after a program of
the body or the header, a group that reads erased. -/
def State.tornFit (s : State) (o : PstOp) (g : Nat) : State :=
  let x := s.pstGroup g
  if o.erasing then s.setGroup g { x with weak := x.weak || x.data == commitData }
  else if o.superseding.isNone && s.readsErased g then s.setGroup g { x with ecc := 1 }
  else s

/-- An abort leaves the page under erase erased or in any mixture, or tears the group being programmed (R525, Table
PST-4). A group whose data are all ones is never programmed (R511), so nothing of it is torn. -/
def State.pstAbort (s : State) : State :=
  match s.pstOp with
  | none => s
  | some o =>
    let s1 := { s with pstOp := none }
    if o.erasing then
      ((List.range 64).foldl (fun s i => s.tearGroup (64 * o.spare + i)) s1).tornFit o (64 * o.spare + 62)
    else
      let u := s1.pstUnit o
      if u.2 = erasedData then s1 else (s1.tearGroup u.1).tornFit o u.1

/-- A read of page p waits for the erase or program of that page to end (R515, R534). -/
def State.pstWait (s : State) (p : Nat) : State :=
  if s.pstOp.any fun o => o.page == p then s.pstChance else s

/-- A read of n bytes through the window (R513, R514, R515). -/
def State.pstWindow (s : State) (o n : Nat) : State × List Byte :=
  let k := min n (131072 - o)
  let s1 := ((groupsOf o k).map (· / 64)).eraseDups.foldl State.pstWait s
  (s1.eccReads (groupsOf o k), s1.pstBytes o k ++ List.replicate (n - k) 0)

/-! ### Commands -/

/-- A write of PST_CMD as a command. -/
def State.pstIssue (s : State) (ini : Initiator) (cmd : Nat) (r : PstRun) : State :=
  s.cmdWrite ini Reg.PST_CMD fun s => s.pstCmd cmd r

/-- MOUNT (R527). -/
def execMount (c : PstCall) (s : State) : Host.Outcome State Fault Refusal := ok (s.pstIssue c.ini 1 c.run)

/-- PST_WRITE (R520). -/
def execPstWrite (ini : Initiator) (r : PstRun) (s : State) : Host.Outcome State Fault Refusal := ok (s.pstIssue ini 2 r)

/-- PST_DELETE (R524). -/
def execPstDelete (ini : Initiator) (r : PstRun) (s : State) : Host.Outcome State Fault Refusal := ok (s.pstIssue ini 3 r)

/-- PST_FIND (R524). -/
def execPstFind (ini : Initiator) (s : State) : Host.Outcome State Fault Refusal := ok (s.pstIssue ini 4 .whole)

/-- PST_WINDOW_READ: a read of the aligned 4-byte unit u of the window (R514). -/
def execPstWindowRead (ini : Initiator) (u : Fin 32768) (s : State) : Host.Outcome State Fault Refusal :=
  ok (if s.stopped then { s with readData := List.replicate 4 0 }
    else match s.verdict ini (0x04000000 + 4 * u) false with
    | .pass => let q := s.pstWindow (4 * u) 4; { q.1 with readData := q.2 }
    | .dark => { s.dark ini (0x04000000 + 4 * u) false with readData := List.replicate 4 0 }
    | _ => { s.addrErr ini (0x04000000 + 4 * u) false with readData := List.replicate 4 0 })

/-- BROWN_OUT_ABORT (R525). -/
def execBrownOutAbort (s : State) : Host.Outcome State Fault Refusal := ok s.pstAbort

end Sys2Proof.Machine
end

