-- ==== Sys2Proof/Machine/Mover.lean ====
section
/-! DEFINITION. The movers: job words, rows between scratchpads, host memory and the parameter store, and the F16
conversions (08_tile_operations.md, R272-R276). -/

namespace Sys2Proof.Machine

open Sys2Proof

/-- The mover of a cluster. -/
def State.mover (s : State) (c : Nat) : Mover := tabGet (fun _ => {}) s.movers c

/-- The mover of a cluster set. -/
def State.setMover (s : State) (c : Nat) (m : Mover) : State := { s with movers := tabSet (fun _ => {}) s.movers c m }

/-! ### Job words (Table TOP-11, R273) -/

/-- Source address. -/
def jobSrc (j : JobWords) : Nat := j.j0.toNat + bitsOf j.j1.toNat 0 8 * 2 ^ 24
/-- Destination address. -/
def jobDst (j : JobWords) : Nat := j.j2.toNat + bitsOf j.j1.toNat 8 8 * 2 ^ 24
/-- NROWS. -/
def jobRows (j : JobWords) : Nat := bitsOf j.j3.toNat 0 13
/-- CONV. -/
def jobConv (j : JobWords) : Nat := bitsOf j.j3.toNat 13 3
/-- SCALE. -/
def jobScale (j : JobWords) : Int := signed 6 (bitsOf j.j3.toNat 16 6)

/-- The sides of a job. -/
inductive Side where
  | sp
  | host
  | pst
  /-- An address R95 treats as unmapped or out of reach of a mover. -/
  | bad
  deriving DecidableEq, Repr

/-- The side an address lies on; the parameter store is a source only (R275). -/
def sideOf (a : Nat) (dst : Bool) : Side :=
  if a < 0x00800000 then .sp
  else if 0x10000000 ≤ a then .host
  else if 0x04000000 ≤ a ∧ a < 0x04020000 ∧ !dst then .pst
  else .bad

/-- Host bytes of a row under a conversion (Table TOP-12). -/
def hostRow (conv : Nat) : Nat :=
  match conv with
  | 0 => 384
  | 5 | 6 => 256
  | _ => 768

/-- A side's address meets its rule (R273). -/
def sideOk (k : Side) (a n : Nat) : Bool :=
  match k with
  | .sp => a % 0x200 == 0 && decide (a % 0x200000 / 0x200 + n ≤ 4096)
  | .host => a % 4 == 0
  | .pst => a % 8 == 0
  | .bad => true

/-- The checks of R273 (log entry 17). -/
def jobOk (j : JobWords) : Bool :=
  let n := jobRows j
  let conv := jobConv j
  let sk := sideOf (jobSrc j) false
  let dk := sideOf (jobDst j) true
  bitsOf j.j1.toNat 23 1 == 0 && bitsOf j.j3.toNat 22 2 == 0 && n != 0 && decide (n ≤ 4096) && conv != 7 &&
  (conv != 0 || jobScale j == 0) && sideOk sk (jobSrc j) n && sideOk dk (jobDst j) n &&
  (sk == .bad || dk == .bad || (sk == .sp && dk == .sp) || (sk == .host && dk == .sp) || (sk == .sp && dk == .host) ||
    (sk == .pst && dk == .sp)) &&
  (conv == 0 || (if sk == .host then conv == 1 || conv == 2 || conv == 5
    else dk == .host && (conv == 3 || conv == 4 || conv == 6)))

/-! ### F16 (R274) -/

/-- A binary16 pattern times 2^scale as an integer of a range: value, and whether it counts (NaN or saturated). -/
def f16ToInt (h : Nat) (scale lo hi : Int) : Int × Bool :=
  let e := bitsOf h 10 5
  let m := bitsOf h 0 10
  let neg := bitOf h 15
  if e = 31 then (if m ≠ 0 then (0, true) else (if neg then lo else hi, true))
  else
    let mant : Int := if e = 0 then m else 1024 + m
    let sm := if neg then -mant else mant
    let x : Int := (if e = 0 then -24 else (e : Int) - 25) + scale
    let v := if 0 ≤ x then sm * (2 : Int) ^ x.toNat else rhe sm (2 ^ (-x).toNat)
    if v < lo ∨ hi < v then (clampI lo hi v, true) else (v, false)

/-- v times 2^scale as the nearest binary16 pattern, and whether its magnitude passed 65,504. -/
def intToF16 (v scale : Int) : Nat × Bool :=
  let n := v.natAbs * 2 ^ scale.toNat
  let d := 2 ^ (-scale).toNat
  let sgn := if v < 0 then 0x8000 else 0
  if 65504 * d < n then (sgn + 0x7BFF, true)
  else
    -- the least exponent k, from -24 on, at which the magnitude is below 2^(k + 11)
    let k := ((List.range 30).find? fun i => decide (n * 2 ^ 13 < d * 2 ^ i)).getD 29
    (sgn + k * 1024 + (rhe ((n : Int) * 2 ^ 24) (d * 2 ^ k)).toNat, false)

/-- A row of host F16 data converted (CONV 1, 2, 5): the row, and elements that count. -/
def convIn (conv : Nat) (scale : Int) (bs : List Byte) : List Byte × Nat :=
  if conv = 0 then (bs, 0)
  else
    let w := if conv = 5 then 3 else 1
    let r : Int × Int := if conv = 1 then (-128, 127) else if conv = 2 then (0, 255) else (-8388608, 8388607)
    let xs := (List.range (if conv = 5 then 128 else 384)).map fun i => f16ToInt (laneAt bs 2 i) scale r.1 r.2
    (xs.flatMap fun x => toBytes w (unsigned (8 * w) x.1), (xs.filter (·.2)).length)

/-- A row converted to host F16 data (CONV 3, 4, 6). -/
def convOut (conv : Nat) (scale : Int) (bs : List Byte) : List Byte × Nat :=
  if conv = 0 then (bs, 0)
  else
    let xs := (List.range (if conv = 6 then 128 else 384)).map fun i =>
      let v : Int := if conv = 3 then signed 8 (laneAt bs 1 i) else if conv = 4 then laneAt bs 1 i else signed 24 (laneAt bs 3 i)
      intToF16 v scale
    (xs.flatMap fun x => toBytes 2 x.1, (xs.filter (·.2)).length)

/-! ### Host memory (R432) -/

/-- A window of host memory is open to the mover of cluster c. -/
def State.hwinOpen (s : State) (c w : Nat) : Bool :=
  s.domOn 5 && s.flag (F.HST_HWIN2_EN w) && s.fld (F.HST_HWIN2_CTX w) == s.ownerCtx c

/-- The host address of a device address. -/
def State.hostAddr (s : State) (a : Nat) : Nat :=
  let w := a / 2 ^ 28
  s.fld (F.HST_HWIN0_BASE w) * 2 ^ 12 + s.fld (F.HST_HWIN1_BASE w) * 2 ^ 36 + s.fld (F.HST_HWIN2_BASE w) * 2 ^ 60 + a % 2 ^ 28

/-- The parts of a span that lie in one window each: device address and length. -/
def hostParts (a n : Nat) : List (Nat × Nat) :=
  let k := 2 ^ 28 - a % 2 ^ 28
  if n ≤ k then [(a, n)] else [(a, k), (a + k, n - k)]

/-- The first address of a span that R432 does not let the mover reach. -/
def State.hostBad (s : State) (c a n : Nat) : Option Nat :=
  if 2 ^ 32 < a + n then some a
  else ((hostParts a n).find? fun p => !s.hwinOpen c (p.1 / 2 ^ 28)).map (·.1)

/-- A posted write to host memory (R189). -/
def State.hostWrite (s : State) (a : Nat) (bs : List Byte) : State :=
  if s.flag F.HST_LINK_UP then
    { s with hostWrites := s.hostWrites ++ (hostParts a bs.length).map fun p =>
        (s.hostAddr p.1, (bs.drop (p.1 - a)).take p.2) }
  else s

/-! ### Issue and completion (R272, R245, R247, R269 as R272 takes them) -/

/-- A completion of a job. -/
def State.moverReport (s : State) (c : Nat) (port : Nat) (j : JobWords) (status rows : Nat) (id : Nat := 0) : State :=
  let k : MovCpl := { tag := bitsOf j.j1.toNat 16 6, status := status, port := port, rows := rows }
  let s1 := if bitOf j.j1.toNat 22 then s.fire (36 + c) else s
  let m := s1.mover c
  if port = 2 then s1.unitDone id 2 status false
  else if m.cpl.length < 8 then s1.setMover c { m with cpl := m.cpl ++ [k] }
  else (s1.incFld (F.MOV_CPLCNT_OVF c) 1).setFld (F.MOV_STATUS_CPLOVF c) 1

/-- A job enters the queue; a full queue makes its writer wait (log entry 14). -/
def State.moverPush (s : State) (c port : Nat) (iseal : Bool) (j : JobWords) (id : Nat := 0) : State :=
  let m := s.mover c
  if s.flag (F.CLU_OWNER_PEND c) then s.setFld (F.MOV_STATUS_OWNPEND c) 1
  else if 8 ≤ m.jobs.length then s
  else if jobOk j then
    s.setMover c { m with jobs := m.jobs ++ [{ port := port, jw := j, iseal := iseal, running := false, done := 0, got := [],
                                               asked := 0, status := 0, ended := false, id := id }] }
  else s.moverReport c port j 1 0 id

/-- The mover's queue is full. -/
def State.moverFull (s : State) (c : Nat) : Bool := decide (8 ≤ (s.mover c).jobs.length)

/-- The job words in the registers of a port. -/
def State.portJob (s : State) (c p : Nat) : JobWords :=
  { j0 := s.reg (Reg.MOV_JOB_J c p 0), j1 := s.reg (Reg.MOV_JOB_J c p 1), j2 := s.reg (Reg.MOV_JOB_J c p 2),
    j3 := s.reg (Reg.MOV_JOB_J c p 3) }

/-- The job registers of a port take job words (R272). -/
def State.setPortJob (s : State) (c p : Nat) (j : JobWords) : State :=
  (((s.setReg (Reg.MOV_JOB_J c p 0) j.j0).setReg (Reg.MOV_JOB_J c p 1) j.j1).setReg (Reg.MOV_JOB_J c p 2) j.j2).setReg
    (Reg.MOV_JOB_J c p 3) j.j3

/-- A write of J3 of cluster c must wait: the queue is full, and no change of owner discards the write (R272). -/
def State.moverWaits (s : State) (c : Nat) : Bool := s.moverFull c && !s.flag (F.CLU_OWNER_PEND c)

/-- The writes of J0-J3 of a port as one command; a J3 write that must wait leaves J3 as it stands (log entry 14). -/
def State.moverIssue (s : State) (c p : Nat) (iseal : Bool) (j : JobWords) (id : Nat := 0) : State :=
  if s.moverWaits c then s.setPortJob c p { j with j3 := (s.portJob c p).j3 }
  else (s.setPortJob c p j).moverPush c p iseal j id

/-- MOVER_JOB_START: the oldest job begins; the sealed flag follows its inputs (R45, R272). -/
def State.moverStart (s : State) (c : Nat) : State :=
  let m := s.mover c
  if !s.unitsAct c then s
  else match m.jobs with
  | j :: rest => if j.running then s
      else s.setMover c { m with jobs := { j with running := true } :: rest, sealedFlag := j.iseal }
  | [] => s

/-! ### Rows (R275) -/

/-- What becomes of the next row of the job that runs. -/
inductive RowEnd where
  /-- The row has been delivered. -/
  | moved (s : State) (j : MovJob)
  /-- The row waits for data or for a slot of the Round. -/
  | waits (s : State) (j : MovJob)
  /-- The row fails, and the job ends with a status. -/
  | failed (s : State) (status : Nat)
  deriving DecidableEq, Repr

/-- Bytes between rows of a side. -/
def sideStride (k : Side) (conv : Nat) : Nat :=
  match k with
  | .sp => 0x200
  | .host => hostRow conv
  | _ => 384

/-- A wide packet of the mover of cluster c for the row at an address (R176). -/
def State.rowPacket (s : State) (c a : Nat) (read : Bool) (bs : List Byte) (t iseal : Bool) : Packet :=
  { src := c, tgt := (rowAt a).1, read := read, wide := true, addr := a, data := bs, tag := t, ctx := s.ownerCtx c,
    sealedIssue := iseal, cw := true, stage := .flying }

/-- A row of data goes to its destination. -/
def State.moverPut (s : State) (c : Nat) (j : MovJob) (bs : List Byte) (t : Bool) : RowEnd :=
  let a := jobDst j.jw + j.done * sideStride (sideOf (jobDst j.jw) true) (jobConv j.jw)
  let m := s.mover c
  let s1 := if t then s.setMover c { m with sealedFlag := true } else s
  let j1 := { j with done := j.done + 1, got := j.got.drop 1 }
  match sideOf (jobDst j.jw) true with
  | .host =>
    if t then .failed (s1.refuseEgress F.SEAL_EGRCNT_HOST) 3
    else match s1.hostBad c a (hostRow (jobConv j.jw)) with
    | some b => .failed (s1.addrErrN (some (8 + c)) b true) 2
    | none =>
      let o := convOut (jobConv j.jw) (jobScale j.jw) bs
      .moved ((s1.incFld (F.MOV_DSTAT_COUNT c) o.2).hostWrite a o.1) j1
  | _ =>
    let tgt := (rowAt a).1
    if tgt = c then
      .moved (if s1.spOn c then s1.writeWide c (rowAt a).2 bs t
        else (s1.addrErrN (some (8 + c)) a true).setFld F.PWR_STATUS_DARK 1) j1
    else match s1.send (.mover (Fin.ofNat 4 c)) (s1.rowPacket c a false bs t j.iseal) with
    | .done s2 => .moved s2 j1
    | .zero s2 => .moved s2 j1
    | .stall => .waits s j

/-- The data of the next row, or what keeps it from its destination. -/
def State.moverRow (s : State) (c : Nat) (j : MovJob) : RowEnd :=
  let sk := sideOf (jobSrc j.jw) false
  let a := jobSrc j.jw + j.done * sideStride sk (jobConv j.jw)
  let d := jobDst j.jw + j.done * sideStride (sideOf (jobDst j.jw) true) (jobConv j.jw)
  match sk with
  | .bad => .failed (s.addrErrN (some (8 + c)) a false) 2
  | _ =>
    if sideOf (jobDst j.jw) true = .bad then .failed (s.addrErrN (some (8 + c)) d true) 2
    else match sk with
    | .sp =>
      let src := (rowAt a).1
      if src = c then
        if s.spOn c then s.moverPut c j (s.rowBytes c (rowAt a).2) (s.tag c (rowAt a).2 || j.iseal)
        else ((s.addrErrN (some (8 + c)) a false).setFld F.PWR_STATUS_DARK 1).moverPut c j (List.replicate 384 0) j.iseal
      else match j.got with
      | g :: _ => s.moverPut c j g.1 (g.2 || j.iseal)
      | [] =>
        if j.done < j.asked then .waits s j
        else match s.send (.mover (Fin.ofNat 4 c)) (s.rowPacket c a true [] false j.iseal) with
        | .done s1 => .waits s1 { j with asked := j.done + 1 }
        | .zero s1 => s1.moverPut c j (List.replicate 384 0) j.iseal
        | .stall => .waits s j
    | .host =>
      (match j.got with
      | g :: _ =>
        let o := convIn (jobConv j.jw) (jobScale j.jw) g.1
        match s.moverPut c j o.1 j.iseal with
        | .moved s1 j1 => .moved (s1.incFld (F.MOV_DSTAT_COUNT c) o.2) j1
        | r => r
      | [] =>
        match s.hostBad c a (hostRow (jobConv j.jw)) with
        | some b => .failed (s.addrErrN (some (8 + c)) b false) 2
        | none => .waits s { j with asked := j.done + 1 })
    | .pst =>
      if 0x04020000 < a + 384 then .failed (s.addrErrN (some (8 + c)) 0x04020000 false) 2
      else if s.domOn 7 then
        let q := s.pstWindow (a - 0x04000000) 384
        q.1.moverPut c j q.2 j.iseal
      else ((s.addrErrN (some (8 + c)) a false).setFld F.PWR_STATUS_DARK 1).moverPut c j (List.replicate 384 0) j.iseal
    | .bad => .failed s 2

/-- Rows of the job until it ends or waits. -/
def State.moverRows (c : Nat) : Nat → MovJob → State → State × MovJob
  | 0, j, s => (s, j)
  | n + 1, j, s =>
    if j.ended ∨ j.done = jobRows j.jw then (s, { j with ended := true })
    else match s.moverRow c j with
    | .moved s1 j1 => State.moverRows c n j1 s1
    | .waits s1 j1 => (s1, j1)
    | .failed s1 st => (s1, { j with status := st, ended := true })

/-- MOVER_JOB_COMPLETE: the rows the job can move, and its completion once it has ended (R275). -/
def State.moverComplete (s : State) (c : Nat) : State :=
  if !s.unitsAct c then s
  else match (s.mover c).jobs with
  | j :: _ =>
    if j.running then
      let q := State.moverRows c (jobRows j.jw - j.done + 1) j s
      let m := q.1.mover c
      if q.2.ended then (q.1.setMover c { m with jobs := m.jobs.drop 1 }).moverReport c j.port j.jw q.2.status q.2.done j.id
      else q.1.setMover c { m with jobs := q.2 :: m.jobs.drop 1 }
    else s
  | [] => s

/-- MOVER_HOST_READ_DONE: the data of the row that waits, or its failure (R433). -/
def State.hostReadDone (s : State) (c : Nat) (good : Bool) (bs : List Byte) : State :=
  let m := s.mover c
  match m.jobs with
  | j :: rest =>
    if j.running && sideOf (jobSrc j.jw) false == .host && decide (j.done < j.asked) && j.got.isEmpty && !j.ended then
      if good then
        let n := hostRow (jobConv j.jw)
        s.setMover c { m with jobs := { j with got := [((bs ++ List.replicate n 0).take n, false)] } :: rest }
      else
        ((s.setMover c { m with jobs := { j with status := 2, ended := true } :: rest }).setFld F.HST_ERR_RDFAIL 1).fault
          0x0F 42 0 true
    else s
  | [] => s

/-- Jobs that `p` takes complete ABORTED; one that runs stops where it stands, its rows delivered (R285). -/
def State.moverAbort (s : State) (c : Nat) (p : MovJob → Bool) : State :=
  let m := s.mover c
  let gone := m.jobs.filter p
  let s1 := s.setMover c { m with jobs := m.jobs.filter fun j => !p j }
  let s2 := if gone.any (·.running) then
      { s1 with flight := s1.flight.filter fun k => !(k.src == c && k.read && k.wide) } else s1
  gone.foldl (fun s j => s.moverReport c j.port j.jw 4 j.done j.id) s2

/-! ### Commands -/

/-- MOVER_JOB (R272). -/
def execMoverJob (ini : Initiator) (c : Fin 4) (p : Fin 3) (j : JobWords) (s : State) : Host.Outcome State Fault Refusal :=
  ok (s.cmdWrite ini (Reg.MOV_JOB_J c p 3) fun s => s.moverIssue c p (s.sealedIni ini) j)

/-- MOVER_JOB_START (R272). -/
def execMoverJobStart (c : Fin 4) (s : State) : Host.Outcome State Fault Refusal := ok (s.moverStart c)

/-- MOVER_HOST_READ_DONE (R433). -/
def execMoverHostReadDone (c : Fin 4) (good : Bool) (data : List Byte) (s : State) : Host.Outcome State Fault Refusal :=
  ok (s.hostReadDone c good data)

/-- MOVER_JOB_COMPLETE (R275). -/
def execMoverJobComplete (c : Fin 4) (s : State) : Host.Outcome State Fault Refusal := ok (s.moverComplete c)

/-- The oldest completion removed. -/
def State.moverPop (s : State) (c : Nat) : State := s.setMover c { s.mover c with cpl := (s.mover c).cpl.drop 1 }

/-- MOV_CPLPOP. -/
def execMovCplpop (ini : Initiator) (c : Fin 4) (s : State) : Host.Outcome State Fault Refusal :=
  ok (s.cmdWrite ini (Reg.MOV_CPLPOP c) fun s => s.moverPop c)

end Sys2Proof.Machine
end

