-- ==== Sys2Proof/Machine/Queue.lean ====
section
/-! DEFINITION. Queues, commands and fences (13_host_queues_fences.md, R412-R414). -/

namespace Sys2Proof.Machine

open Sys2Proof

/-! ### Fences (R451-R453) -/

/-- The index of a handle. -/
def handleIdx (h : Nat) : Nat := bitsOf h 0 12
/-- The generation of a handle. -/
def handleGen (h : Nat) : Nat := bitsOf h 12 8

/-- State of a fence: 0 FREE, 1 ALLOCATED-UNSIGNALLED, 2 SIGNALLED. -/
def State.fenceState (s : State) (i : Nat) : Nat := s.fld (F.QUE_FSTATE_STATE i)

/-- A handle's generation is the fence's. -/
def State.genOk (s : State) (h : Nat) : Bool := s.fld (F.QUE_FSTATE_GEN (handleIdx h)) == handleGen h

/-- A handle of a fence that is not FREE (R446; log entry 41). -/
def State.handleOk (s : State) (h : Nat) : Bool := s.genOk h && s.fenceState (handleIdx h) != 0

/-- How a WAIT ends whose fence is signalled with a status: DONE, or DEPFAIL under DEPCHK when that is not DONE (R453). -/
def QCmd.waitStatus (x : QCmd) (status : Nat) : Nat := if x.flagAt 4 && status != 1 then 13 else 1

/-- A WAIT in flight on fence i, ended by its signal (some status) or by its FREE (none): BADFENCE (R453). -/
def QCmd.release (x : QCmd) (i : Nat) (signal : Option Nat) : QCmd :=
  if x.phase = 2 ∧ x.opc = 8 ∧ handleIdx x.waitOn = i then
    { x with phase := 3, status := match signal with | some st => x.waitStatus st | none => 11 }
  else x

/-- A signal: an unsignalled fence takes status and DETAIL, sends its vector and releases its waiters (R434, R451). -/
def State.signalFence (s : State) (i status detail : Nat) : State :=
  if s.fenceState i = 1 then
    let s1 := ((s.setFld (F.QUE_FSTATE_STATE i) 2).setFld (F.QUE_FSTATE_STATUS i) status).setFld (F.QUE_FSTATE_DETAIL i) detail
    let s2 := s1.mapCmds (·.release i (some status))
    if s2.flag (F.QUE_FOWNER_IRQ i) then s2.sendVec (s2.fld (F.QUE_FOWNER_VEC i)) else s2
  else s.setFld F.QUE_FCTLSTAT_RESIGNAL 1

/-- A fence operation that its table row does not allow. -/
def State.fenceRefuse (s : State) : State := s.setFld F.QUE_FCTLSTAT_REFUSED 1

/-- The next generation of a fence. -/
def State.nextGen (s : State) (i : Nat) : State := s.setFld (F.QUE_FSTATE_GEN i) (s.fld (F.QUE_FSTATE_GEN i) + 1)

/-- ALLOC. -/
def State.fenceAlloc (s : State) (i : Nat) : State :=
  if s.fenceState i = 0 then
    (((((s.nextGen i).setFld (F.QUE_FSTATE_STATE i) 1).setFld (F.QUE_FSTATE_STATUS i) 0).setFld (F.QUE_FOWNER_CTX i)
      (s.fld F.QUE_FCTLARG_CTX)).setFld (F.QUE_FOWNER_VEC i) (s.fld F.QUE_FCTLARG_VEC)).setFld (F.QUE_FOWNER_IRQ i)
      (s.fld F.QUE_FCTLARG_IRQ)
  else s.fenceRefuse

/-- FREE: a WAIT in flight on the fence completes BADFENCE (R453). -/
def State.fenceFree (s : State) (i : Nat) : State :=
  ((s.nextGen i).setFld (F.QUE_FSTATE_STATE i) 0).mapCmds (·.release i none)

/-- RESET. -/
def State.fenceReset (s : State) (i : Nat) : State :=
  if s.fenceState i = 2 then (s.setFld (F.QUE_FSTATE_STATE i) 1).setFld (F.QUE_FSTATE_STATUS i) 0 else s.fenceRefuse

/-- ABANDON begins. -/
def State.abandonStart (s : State) : State :=
  { s.setFld F.QUE_FCTLSTAT_BUSY 1 with front := { s.front with abandon := s.fld F.QUE_FCTLARG_CTX } }

/-- Fences that are unsignalled and belong to a context. -/
def State.unsignalled (s : State) (ctx : Nat) : List Nat :=
  (s.regs.filterMap fun e =>
    if Reg.QUE_FSTATE 0 ≤ e.1 ∧ e.1 < Reg.QUE_FSTATE 4096 ∧ e.1 % 4 = 0 ∧ bitsOf e.2.toNat 8 2 = 1 then
      some ((e.1 - Reg.QUE_FSTATE 0) / 4) else none).filter fun i => s.fld (F.QUE_FOWNER_CTX i) == ctx

/-- ABANDON ends: the dead letters are signalled (R452). -/
def State.abandonEnd (s : State) : State :=
  if s.flag F.QUE_FCTLSTAT_BUSY then
    let l := s.unsignalled s.front.abandon
    ((l.foldl (fun s i => s.signalFence i 5 0) s).setFld F.QUE_FCTLSTAT_COUNT l.length).setFld F.QUE_FCTLSTAT_BUSY 0
  else s

/-- An operation written to QUE_FCTL (Table HOST-10); discarded while an ABANDON runs. -/
def State.fenceOp (s : State) (op i : Nat) : State :=
  if s.flag F.QUE_FCTLSTAT_BUSY then s.fenceRefuse
  else match op with
  | 1 => s.fenceAlloc i
  | 2 => s.fenceFree i
  | 3 => s.fenceReset i
  | 4 => s.signalFence i (s.fld F.QUE_FCTLARG_STATUS) 0
  | 5 => s.abandonStart
  | _ => s

/-! ### Queue states (R457) -/

/-- State of a queue: 0 DISABLED, 1 ACTIVE, 2 STOPPED, 3 DRAINING, 4 DRAINED, 5 REVOKED. -/
def State.qstate (s : State) (q : Nat) : Nat := s.fld (F.QUE_QSTATE_STATE q)

/-- A queue enters a state, with its vector where R434 sends one. -/
def State.enterQueue (s : State) (q v : Nat) : State :=
  let s1 := s.setFld (F.QUE_QSTATE_STATE q) v
  if (v = 2 ∨ v = 4 ∨ v = 5) ∧ s1.flag (F.QUE_QRING2_VECEN q) then s1.sendVec (s1.fld (F.QUE_QRING2_VEC q)) else s1

/-- A queue enters STOPPED with an error (HST_IRQSTAT.QERR). -/
def State.stopQueue (s : State) (q : Nat) : State := (s.enterQueue q 2).hostEvent 1

/-- Entries of a ring (R441). -/
def State.ringSize (s : State) (q : Nat) : Nat :=
  if s.flag (F.QUE_QCFG_RINGLOC q) then (if s.flag (F.QUE_QCFG_FMT q) then 48 else 96) else 2 ^ s.fld (F.QUE_QCFG_RINGLOG2 q)

/-- Bytes of a descriptor. -/
def State.descLen (s : State) (q : Nat) : Nat := if s.flag (F.QUE_QCFG_FMT q) then 64 else 32

/-- A write of DB_TAIL (R443, R457, R468). -/
def State.writeTail (s : State) (q v : Nat) : State :=
  if s.qstate q = 1 ∨ s.qstate q = 2 then
    if v % 4096 < s.ringSize q then s.setFld (F.QUE_QPTR_TAIL q) v else s.setFld (F.QUE_QERR_BADTAIL q) 1
  else s

/-- The address of a queue's ring memory. -/
def ringBase (q : Nat) : Nat := 0x08000400 + 0x1000 * q

/-- The host address of entry i of a ring in host memory (R441). -/
def State.ringHost (s : State) (q i : Nat) : Nat :=
  s.fld (F.QUE_QRING0_BASE q) * 2 ^ 12 + s.fld (F.QUE_QRING1_BASE q) * 2 ^ 36 + s.fld (F.QUE_QRING2_BASE q) * 2 ^ 60 +
    s.descLen q * i

/-- A fetch from host memory leaves the part as one read request for the entry's bytes (R443). -/
def State.askEntry (s : State) (q : Nat) : State :=
  if s.flag (F.QUE_QCFG_RINGLOC q) then s
  else { s with hostReads := s.hostReads ++ [(s.ringHost q (s.fld (F.QUE_QPTR_HEAD q)), s.descLen q)] }

/-- Commands in flight of a queue (R447). -/
def State.flyQ (s : State) (q : Nat) : Nat := ((s.queue q).cmds.filter (·.flies)).length

/-- Commands in flight chip-wide. -/
def State.flyAll (s : State) : Nat := s.queues.foldl (fun n e => n + (e.2.cmds.filter (·.flies)).length) 0

/-- Commands in flight on a cluster. -/
def State.flyCl (s : State) (c : Nat) : Nat :=
  s.queues.foldl (fun n e => n + (e.2.cmds.filter fun x => x.flies && x.hasUnit && x.cl == c).length) 0

/-! ### Fetch and check (R443-R446) -/

/-- DESCRIPTOR_FETCH: the entry at HEAD; from host memory as the host answers, `good` or not. -/
def State.fetch (s0 : State) (q : Nat) (good : Bool) (bs : List Byte) : State :=
  let head := s0.fld (F.QUE_QPTR_HEAD q)
  let u := s0.queue q
  if s0.qstate q ≠ 1 ∨ head = s0.fld (F.QUE_QPTR_TAIL q) ∨ 2 ≤ (u.cmds.filter fun x => decide (x.phase < 2)).length then s0
  else
    let s := s0.askEntry q
    let mem := s.flag (F.QUE_QCFG_RINGLOC q)
    if !mem && !good then
      ((s.setFld (F.QUE_QERR_FETCHERR q) 1).fault 0x0F 42 (0x100 + q) true).stopQueue q
    else
      let n := s.descLen q
      let raw := if mem then s.bytes (ringBase q + n * head) n else (bs ++ List.replicate n 0).take n
      let x : QCmd := { uid := s.front.ids, raw := raw, qf2 := s.flag (F.QUE_QCFG_FMT q) }
      let s1 := { s with front := { s.front with ids := s.front.ids + 1 } }
      (s1.setFld (F.QUE_QPTR_HEAD q) ((head + 1) % s.ringSize q)).setQueue q { u with cmds := u.cmds ++ [x] }

/-- Payload bytes of an opcode (Table HOST-6). -/
def payLen : Nat → Nat
  | 1 => 15
  | 2 => 4
  | 3 => 12
  | 4 => 2
  | 5 => 11
  | 6 => 1
  | 7 => 7
  | 8 => 3
  | _ => 0

/-- The payload is in range, and a TILE lies in cluster CL (R445, R446 check 1; log entry 43). -/
def QCmd.payOk (x : QCmd) : Bool :=
  match x.opc with
  | 2 => decide (x.pay 0 2 < 4096) && decide (1 ≤ x.pay 2 2) && decide (x.pay 2 2 ≤ 4096) &&
      decide (x.pay 0 2 + (x.pay 2 2 - 1) / 25 ≤ 4095)
  | 4 => decide (x.pay 0 1 < 4) && decide (x.pay 1 1 < 128)
  | 5 => decide (x.pay 0 1 < 32) && x.pay 0 1 / 8 == x.cl && decide (x.pay 1 2 < 4096) && decide (x.pay 3 2 < 1024) &&
      decide (x.pay 5 2 < 1024) && decide (x.pay 7 1 < 64) && decide (x.pay 8 1 < 8)
  | 6 => decide (x.pay 0 1 < 32) && x.pay 0 1 / 8 == x.cl
  | 7 => decide (x.pay 0 1 < 32) && x.pay 0 1 / 8 == x.cl && decide (x.pay 1 2 < 1024) && decide (x.pay 3 2 < 1024) &&
      decide (x.pay 5 1 < 64) && decide (x.pay 6 1 < 2)
  | 8 => decide (x.pay 0 3 < 2 ^ 20)
  | _ => true

/-- Check 1 of R446. -/
def QCmd.formOk (x : QCmd) : Bool :=
  decide (x.num 0 1 < 32) && decide (x.num 1 1 < 32) && decide (x.num 2 2 < 2 ^ 14) && decide (x.sig < 2 ^ 20) &&
  decide (x.opc ≤ 8) && (x.qf2 || (!x.flagAt 2 && !x.flagAt 4)) &&
  (!x.qf2 || (decide (x.num 9 3 < 2 ^ 20) && x.num 12 4 == 0)) && x.pay (payLen x.opc) 48 == 0 && x.payOk

/-- A command fails a check and completes with a status. -/
def QCmd.fail (x : QCmd) (status : Nat) : QCmd := { x with phase := 3, status := status }

/-- The n-th command of a queue replaced. -/
def State.setCmd (s : State) (q n : Nat) (x : QCmd) : State :=
  s.setQueue q { s.queue q with cmds := (s.queue q).cmds.set n (x.noted s.posted) }

/-- Check 5 of R446: the cluster is owned by the command's context and keeps that owner. -/
def State.ownsCl (s : State) (x : QCmd) : Bool := s.ownerCtx x.cl == x.ctx && !s.flag (F.CLU_OWNER_PEND x.cl)

/-- A SIGFENCE the command may signal (check 3 of R446). -/
def State.sigOk (s : State) (q : Nat) (x : QCmd) : Bool :=
  s.handleOk x.sig && s.fld (F.QUE_FOWNER_CTX (handleIdx x.sig)) == s.fld (F.QUE_QCFG_CTX q)

/-- Checks 1-6 of R446 and the tickets of R455 on the n-th command of queue q. -/
def State.checkCmd (s : State) (q n : Nat) (x : QCmd) : State :=
  if !x.formOk then s.setCmd q n (x.fail 9)
  else if x.ctx ≠ s.fld (F.QUE_QCFG_CTX q) then s.setCmd q n (x.fail 10)
  else if x.flagAt 1 && !s.sigOk q x then (s.setFld (F.QUE_QERR_BADFENCE q) 1).setCmd q n { x.fail 11 with nosig := true }
  else if x.flagAt 2 && !s.handleOk x.waitOn && x.opc != 8 then s.setCmd q n (x.fail 11)
  else if x.flagAt 2 && !s.handleOk (x.num 9 3) && x.opc == 8 then s.setCmd q n (x.fail 11)
  else if x.flagAt 0 && (s.queue q).window.contains x.ticket then
    (s.incFld (F.QUE_QDUP_COUNT q) 1).setCmd q n { x with phase := 3, dup := true }
  else
    let s1 := if x.flagAt 0 then s.setQueue q { s.queue q with window := (x.ticket :: (s.queue q).window).take 64 } else s
    if x.hasUnit && !s.ownsCl x then s1.setCmd q n (x.fail 10)
    else if x.opc = 7 ∧ s.fld (F.QUE_QCFG_CTX q) ≠ 0 then s1.setCmd q n (x.fail 10)
    else s1.setCmd q n { x with phase := 1 }

/-- DESCRIPTOR_CHECK: the oldest fetched command of an ACTIVE queue that is not yet checked. -/
def State.descCheck (s : State) (q : Nat) : State :=
  match (s.queue q).cmds.findIdx? fun x => x.phase == 0 with
  | some n => match (s.queue q).cmds[n]? with
    | some x => if s.qstate q = 1 then s.checkCmd q n x else s
    | none => s
  | none => s

/-! ### Unit operations (R445, R448) -/

/-- A write of the front end to a register of cluster c: dark while its logic is not ON, discarded in cluster reset
(R91, R114). -/
def State.frontWrite (s : State) (c a : Nat) (f : State → State) : State :=
  if !s.domOn (domCL c) then (s.addrErrN none a true).setFld F.PWR_STATUS_DARK 1
  else if s.inClReset c then s
  else f s

/-- The word set in 15 bytes (Table HOST-6). -/
def wordSetOf (bs : List Byte) : WordSet :=
  let w (k : Nat) : Word := BitVec.ofNat 24 (ofBytes ((bs.drop (3 * k)).take 3))
  { d0 := w 0, d1 := w 1, d2 := w 2, d3 := w 3, d4 := w 4 }

/-- The job words of a MOVE. -/
def QCmd.job (x : QCmd) : JobWords :=
  let w (k : Nat) : Word := BitVec.ofNat 24 (x.pay (3 * k) 3)
  { j0 := w 0, j1 := w 1, j2 := w 2, j3 := w 3 }

/-- The k-th job of 256 rows of a MOVE (R445): both addresses moved on by the rows before it. -/
def QCmd.jobAt (x : QCmd) (k : Nat) : JobWords :=
  let j := x.job
  if x.total = 1 then j
  else
    let src := jobSrc j + 256 * k * sideStride (sideOf (jobSrc j) false) (jobConv j)
    let dst := jobDst j + 256 * k * sideStride (sideOf (jobDst j) true) (jobConv j)
    { j0 := BitVec.ofNat 24 src
      j1 := BitVec.ofNat 24 (putBits (putBits j.j1.toNat 0 8 (src / 2 ^ 24)) 8 8 (dst / 2 ^ 24))
      j2 := BitVec.ofNat 24 dst
      j3 := BitVec.ofNat 24 (putBits j.j3.toNat 0 13 (min 256 (x.moveRows - 256 * k))) }

/-- The tile of a TPGM, TWIPE or TREFRESH. -/
def QCmd.tile (x : QCmd) : Nat := x.pay 0 1

/-- The queue of the unit that takes the command's operations has room (R245, R381). -/
def State.unitRoom (s : State) (x : QCmd) : Bool :=
  match x.kind with
  | 1 => !s.tallyFull x.cl
  | 2 => !s.moverFull x.cl
  | 3 => decide (s.dfaDepth x.cl < 4)
  | _ => true

/-- The parameter registers of a tile take a TPGM. -/
def State.pgmRegs (s : State) (x : QCmd) : State :=
  let t := x.tile
  (((((s.setFld (F.TILE_PGMSRC_SRCROW t) (x.pay 1 2)).setFld (F.TILE_PGMROWS_FIRST t) (x.pay 3 2)).setFld
    (F.TILE_PGMROWS_COUNT t) (x.pay 5 2)).setFld (F.TILE_PGMCFG_GRPMASK t) (x.pay 7 1)).setFld
    (F.TILE_PGMCFG_STUCKOK t) (x.pay 8 1)).setFld (F.TILE_PGMGEN_GEN t) (x.pay 9 2)

/-- A write of the front end to a register of a tile. -/
def State.frontTileWrite (s : State) (t : Nat) (f : State → State) : State :=
  if s.domOn (domTQ t) then f s else (s.addrErrN none (Reg.TILE_CMD t) true).setFld F.PWR_STATUS_DARK 1

/-- The front end asks tile t for a long operation under a number of its own. -/
def State.askTile (s : State) (t id : Nat) : State := s.setTile t { s.tile t with front := some id }

/-- A TREFRESH handed to SV (R459). -/
def State.askSv (s : State) (q : Nat) (x : QCmd) (id : Nat) : State :=
  let s1 := (((s.setFld F.QUE_SVREQ0_QUEUE q).setFld F.QUE_SVREQ0_TILE x.tile).setFld F.QUE_SVREQ0_VALID 1).setFld
    F.QUE_SVREQ0_ABORT 0
  let s2 := ((s1.setFld F.QUE_SVREQ1_FIRST (x.pay 1 2)).setFld F.QUE_SVREQ1_COUNT (x.pay 3 2)).setFld
    F.QUE_SVREQ2_GRPMASK (x.pay 5 1)
  { (s2.setFld F.QUE_SVREQ2_BARO (x.pay 6 1)).fire 63 with front := { s2.front with sv := some id } }

/-- Unit operation k of a command goes to its unit under a number. -/
def State.issueUnit (s : State) (q : Nat) (x : QCmd) (k id : Nat) : State :=
  match x.opc with
  | 1 => s.frontWrite x.cl (Reg.TAL_OP_D x.cl 2 4) fun s => s.tallyIssue x.cl 2 false (wordSetOf (x.raw.drop (if x.qf2 then 16 else 9))) id
  | 2 =>
    let row := s.unitRow x.cl (x.pay 0 2 + k / 25)
    s.frontWrite x.cl (Reg.TAL_OP_D x.cl 2 4) fun s => s.tallyIssue x.cl 2 false (wordSetOf (row.drop (15 * (k % 25)))) id
  | 3 => s.frontWrite x.cl (Reg.MOV_JOB_J x.cl 2 3) fun s => s.moverIssue x.cl 2 false (x.jobAt k) id
  | 4 => s.frontWrite x.cl (Reg.DFA_START x.cl 2) fun s =>
      s.dfaStart x.cl 2 false (x.pay 0 1 + 4 * bitsOf (x.pay 1 1) 0 6 + 256 * bitsOf (x.pay 1 1) 6 1) id
  | 5 => s.frontTileWrite x.tile fun s => ((s.pgmRegs x).askTile x.tile id).tileProgram x.tile false
  | 6 => s.frontTileWrite x.tile fun s => (s.askTile x.tile id).tileWipe x.tile false
  | 7 => s.askSv q x id
  | _ => s

/-- The n-th command of queue q issues unit operations of its current step while its unit has room; a sealed row of
a WSLIST ends it SEAL_REFUSED (R448, Table HOST-7). -/
def State.pump : Nat → Nat → Nat → State → State
  | 0, _, _, s => s
  | fuel + 1, q, n, s =>
    match (s.queue q).cmds[n]? with
    | some x =>
      if x.phase = 2 ∧ x.status = 1 ∧ x.issued < x.limit ∧ x.issued < x.total then
        if x.opc = 2 && s.unitTag x.cl (x.pay 0 2 + x.issued / 25) then s.setCmd q n ({ x with status := 3 } : QCmd).settle
        else if s.unitRoom x then
          let id := s.front.ids
          let s1 := { s with front := { s.front with ids := id + 1 } }
          State.pump fuel q n
            ((s1.setCmd q n { x with issued := x.issued + 1, ids := x.ids ++ [id] }).issueUnit q x x.issued id)
        else s
      else s
    | none => s

/-! ### Dispatch (R447) -/

/-- Index of the next command of a queue to be dispatched. -/
def State.nextCmd (s : State) (q : Nat) : Option Nat := (s.queue q).cmds.findIdx? fun x => decide (x.phase < 2)

/-- The handle a command waits for before its dispatch. -/
def QCmd.waitf (x : QCmd) : Option Nat := if x.flagAt 2 then some (x.num 9 3) else none

/-- The WAITF fence, if any, is SIGNALLED, or its handle has become stale, which ends the command (R453). -/
def State.waitDone (s : State) (x : QCmd) : Bool :=
  match x.waitf with
  | some h => !s.handleOk h || s.fenceState (handleIdx h) == 2
  | none => true

/-- The next command of a queue is dispatchable. -/
def State.dispatchable (s : State) (q : Nat) : Bool :=
  match s.nextCmd q with
  | some n => match (s.queue q).cmds[n]? with
    | some x =>
      s.qstate q == 1 && x.phase == 1 && decide (s.flyAll < 64) && (!x.hasUnit || decide (s.flyCl x.cl < 16)) &&
      decide (s.flyQ q < s.fld (F.QUE_QCFG_MAXFLY q) + 1) && s.waitDone x && (!x.flagAt 3 || s.flyQ q == 0) &&
      !((s.queue q).cmds.any fun y => y.phase == 2 && y.opc == 8) &&
      (decide (x.opc < 5 ∨ 7 < x.opc) || (s.tile x.tile).long.isNone) && (x.opc != 7 || !s.flag F.QUE_SVREQ0_VALID)
    | none => false
  | none => false

/-- The queue that is served next: in round-robin order after the last one served (R447, R476). -/
def State.nextQueue (s : State) : Option Nat :=
  ((List.range 64).map fun i => (s.front.rr + 1 + i) % 64).find? s.dispatchable

/-- Row reads and writes of a timetable's ports, and iterations times length, over its entries (R413). -/
def State.timetableSize (s : State) (c slot : Nat) : Nat × Nat :=
  let r := (s.timetable c slot).foldl (fun (a : Nat × Nat × List (Nat × Nat) × List Bool) e =>
    let ports := s.checkPorts c e.1 a.2.2.1
    -- a port that goes on keeps its stream, whose rows count once
    let old := (List.range 32).map fun k => bitOf (s.portDesc c e.1 k 1) 5 && a.2.2.2.getD k false
    let rows := (List.range 32).map fun k =>
      let pd := ports.getD k (0, 0)
      if bitOf pd.2 4 && !old.getD k false then bitsOf pd.1 12 12 + 1 else 0
    (a.1 + rows.sum, a.2.1 + e.2.1 * s.roundLen c e.1, ports, (List.range 32).map fun k => old.getD k false || rows.getD k 0 != 0))
    (0, 0, [], [])
  (r.1, r.2.1)

/-- The cost bound C of R413. -/
def State.costBound (s : State) (c slot : Nat) : Nat :=
  let z := s.timetableSize c slot
  2 + 2 * (s.timetable c slot).length + z.2 + 260 * z.1

/-- A timetable is admitted: C does not exceed 1.5 ms of clk_core (R413). -/
def State.admitted (s : State) (c slot : Nat) : Bool :=
  if s.coreOnPll then decide (s.costBound c slot * s.fld F.CLK_PLLA_POSTDIV ≤ 12000 * s.fld F.CLK_PLLA_FBDIV)
  else decide (s.costBound c slot ≤ 48000)

/-- Steps done of a long command, and its steps; ROWSDONE counts a program's spare-row steps too (Table RUN-5). -/
def State.progress (s : State) (x : QCmd) : Nat × Nat :=
  let done := match x.opc with
    | 2 => if x.ended = x.total then x.steps else x.ended / 8
    | 3 => x.ended
    | 4 => x.ended
    | _ =>
      let rows := s.fld (F.TILE_LSTAT_ROWSDONE x.tile)
      if x.phase = 3 then (rows + x.stepRows - 1) / x.stepRows else rows / x.stepRows
  (done, max x.steps done)

/-- The progress word shows a long command of the queue (R412, R414, Table RUN-5). -/
def State.showProgress (s : State) (q : Nat) (x : QCmd) (running late : Bool) : State :=
  if (s.queue q).long = some x.uid then
    let p := s.progress x
    let old := s.fld (F.QUE_QPROG_ALL q)
    s.setFld (F.QUE_QPROG_ALL q) (p.1 % 2048 + 2048 * (p.2 % 2048) + 2 ^ 22 * b2n (late || bitOf old 22) + 2 ^ 23 * b2n running)
  else s

/-- The long command a queue's progress word shows from now on. -/
def State.startLong (s : State) (q : Nat) (x : QCmd) : State :=
  if x.isLong then
    (s.setQueue q { s.queue q with long := some x.uid }).setFld (F.QUE_QPROG_ALL q) (2048 * (x.steps % 2048) + 2 ^ 23)
  else s

/-- A command of opcode OPC runs: NOP and a WAIT on a signalled fence end at once; the others issue their first step
(R445, R453). -/
def State.runCmd (s : State) (q n : Nat) (x : QCmd) : State :=
  let y : QCmd := { x with phase := 2, sent := true, limit := x.perStep }
  match x.opc with
  | 0 => s.setCmd q n { y with phase := 3 }
  | 8 =>
    if !s.handleOk x.waitOn then s.setCmd q n (y.fail 11)
    else if s.fenceState (handleIdx x.waitOn) = 2 then
      s.setCmd q n { y with phase := 3, status := x.waitStatus (s.fld (F.QUE_FSTATE_STATUS (handleIdx x.waitOn))) }
    else s.setCmd q n y
  | _ =>
    if x.opc = 4 && !s.admitted x.cl (x.pay 0 1) then s.setCmd q n (y.fail 12)
    else
      let u := s.queue q
      let s1 := s.setQueue q { u with cmds := u.cmds.set n y, ran := if u.ran.contains x.cl then u.ran else u.ran ++ [x.cl] }
      State.pump 8 q n (s1.startLong q x)

/-- The next command of queue q is dispatched, when it is one of opcode `opc` and the queue's turn has come: WAITF,
DEPCHK, the owner and the cluster's health come first (R453, R469, R725). -/
def State.dispatch (s : State) (q opc : Nat) : State :=
  if s.nextQueue = some q then
    match s.nextCmd q with
    | some n => match (s.queue q).cmds[n]? with
      | some x =>
        if x.opc = opc then
          let s1 := { s with front := { s.front with rr := q } }
          let stale := match x.waitf with | some h => !s.handleOk h | none => false
          let dep := match x.waitf with
            | some h => x.flagAt 4 && s.fld (F.QUE_FSTATE_STATUS (handleIdx h)) != 1 | none => false
          let y := { x with sent := true }
          if stale then s1.setCmd q n (y.fail 11)
          else if dep then s1.setCmd q n (y.fail 13)
          else if x.hasUnit && !s.ownsCl x then s1.setCmd q n (y.fail 10)
          else if x.hasUnit && s.fenced (32 + x.cl) then s1.setCmd q n { y.fail 8 with detail := 0x14 }
          else s1.runCmd q n x
        else s
      | none => s
    | none => s
  else s

/-! ### Steps, aborts and completion (R412, R448-R450, R456) -/

/-- A queue other than q waits to dispatch a command with unit work on cluster c. -/
def State.othersWait (s : State) (q c : Nat) : Bool :=
  (List.range 64).any fun p => p != q && s.dispatchable p &&
    (match s.nextCmd p with
     | some n => match (s.queue p).cmds[n]? with | some x => x.hasUnit && x.cl == c | none => false
     | none => false)

/-- LONG_COMMAND_STEP: what the current step still has to issue, the progress word, and the next step once this one
is complete and no other queue waits for the cluster (R412, R414). `late`: the step exceeded its bound. -/
def State.longStep (s : State) (q n : Nat) (late : Bool) : State :=
  let s0 := State.pump 8 q n s
  match (s0.queue q).cmds[n]? with
  | some x =>
    if x.phase = 2 ∧ x.opc ≠ 8 then
      let s1 := s0.showProgress q x true late
      if x.ids.isEmpty ∧ x.status = 1 ∧ x.issued = x.limit ∧ x.issued < x.total ∧ s1.othersWait q x.cl = false then
        State.pump 8 q n (s1.setCmd q n { x with limit := x.limit + x.perStep })
      else s1
    else s0
  | none => s0

/-- Numbers of the unit operations that cluster c still holds for the front end. -/
def State.unitIds (s : State) (c : Nat) : List Nat :=
  (s.tally c).entries.map (·.id) ++ (s.mover c).jobs.map (·.id) ++ (s.dfa c).queue.map (·.id) ++
  (match (s.dfa c).run with | some r => [r.start.id] | none => []) ++
  ((List.range 8).filterMap fun i => (s.tile (8 * c + i)).front) ++ s.front.sv.toList

/-- Unit operations of an aborted command: those queued are removed, a tile is told to stop, a timetable is aborted, a
TREFRESH is marked (R456, R459). -/
def State.abortUnits (s : State) (x : QCmd) : State :=
  match x.opc with
  | 1 | 2 => s.tallyAbort x.cl fun e => e.port == 2 && x.ids.contains e.id
  | 3 => s.moverAbort x.cl fun j => j.port == 2 && x.ids.contains j.id && !j.running
  | 4 => s.dfaAbort x.cl fun t => t.src == 2 && x.ids.contains t.id
  | 5 | 6 => if (s.tile x.tile).front.any x.ids.contains then s.tileAbort x.tile else s
  | 7 => if s.front.sv.any x.ids.contains then s.setFld F.QUE_SVREQ0_ABORT 1 else s
  | _ => s

/-- A running command is aborted for a cause; it ends when the last of its unit operations has (R456, R458). -/
def State.abortCmd (s : State) (cause q n : Nat) : State :=
  match (s.queue q).cmds[n]? with
  | some x =>
    if x.phase = 2 ∧ x.cause = 0 then
      let y : QCmd := if x.status = 1 then
          { x with cause := cause, status := causeStatus cause, detail := abortCode x.kind + 16 * x.kind }
        else { x with cause := cause }
      if x.opc = 8 then s.setCmd q n { y with phase := 3 }
      else
        let s1 := (s.setCmd q n y).abortUnits x
        match (s1.queue q).cmds[n]? with
        | some z => s1.setCmd q n ({ z with ids := z.ids.filter (s1.unitIds x.cl).contains } : QCmd).settle
        | none => s1
    else s
  | none => s

/-- COMMAND_TIMEOUT: a limit has passed for the n-th command of queue q, the global one or the queue's (R456, R466). -/
def State.cmdTimeout (s : State) (q n : Nat) (global : Bool) : State :=
  match (s.queue q).cmds[n]? with
  | some x =>
    if x.phase = 2 ∧ x.cause = 0 ∧ (global ∨ s.flag (F.QUE_QTIMEOUT_T64 q)) then
      let s1 := s.setFld (F.QUE_QERR_TIMEOUT q) 1
      (if global then s1.setFld (F.QUE_QERR_GLOBAL q) 1 else s1).abortCmd 1 q n
    else s
  | none => s

/-- Commands dispatched to cluster c end in its reset with UNIT_RESET (R91, R471); one that is only fetched or checked goes
on (log entry 66). -/
def State.frontReset (s : State) (c : Nat) : State :=
  s.mapCmds fun x =>
    if x.phase = 2 ∧ x.hasUnit ∧ x.cl = c then
      if x.status = 1 then { x with phase := 3, ids := [], cause := 3, status := 4, detail := abortCode x.kind + 16 * x.kind }
      else { x with phase := 3, ids := [] }
    else x

/-- The command ran unit work on its cluster (R449). -/
def QCmd.ranUnits (x : QCmd) : Bool := x.sent && x.hasUnit && x.issued != 0

/-- A posted write was issued before the command completed (R185). -/
def QCmd.coversSeq (x : QCmd) (n : Nat) : Bool := match x.covers with | some k => decide (n < k) | none => false

/-- A posted write that the command's fence covers is still unacknowledged, or its notice has not reached the mark (R185). -/
def State.writesOut (s : State) (x : QCmd) : Bool :=
  s.flight.any fun p => p.src == x.cl && !p.read && p.ctx == x.ctx && x.coversSeq p.seq

/-- R185: the mark of a lost posted write turns DONE into POSTED_LOST and is cleared; a loss of a write issued later leaves
it for the next fence (R196). -/
def State.applyMark (s : State) (x : QCmd) : State × Nat :=
  if x.ranUnits && x.status == 1 && s.flag (F.RND_PMARK_PEND x.cl) && s.fld (F.RND_PMARK_CTX x.cl) == x.ctx &&
      (s.lostOf x.cl).any x.coversSeq then
    let l := (s.lostOf x.cl).filter fun n => !x.coversSeq n
    ({ s.setFld (F.RND_PMARK_PEND x.cl) (b2n !l.isEmpty) with lostPosted := tabSet (fun _ => []) s.lostPosted x.cl l }, 2)
  else (s, x.status)

/-- A command's SIGFENCE at its completion: a handle that has become stale or foreign signals nothing (R446, R449,
R453; log entry 44). -/
def State.signalOf (s : State) (q : Nat) (x : QCmd) (status : Nat) : State :=
  if !x.flagAt 1 || x.nosig then s
  else if s.fenceState (handleIdx x.sig) = 1 ∧ s.sigOk q x = false then s.setFld (F.QUE_QERR_BADFENCE q) 1
  else s.signalFence (handleIdx x.sig) status (x.detail + 128 * b2n x.mixed)

/-- COMMAND_COMPLETE: the oldest command of a queue, once it has ended and the posted writes its fence covers are
acknowledged (R185, R449, R450, R455). -/
def State.retire (s : State) (q : Nat) : State :=
  match (s.queue q).cmds with
  | x :: rest =>
    if x.phase ≠ 3 ∨ (x.ranUnits && s.writesOut x) then s
    else
      let s0 := (s.showProgress q x false false).setQueue q { s.queue q with cmds := rest }
      let count (s : State) : State := s.setFld (F.QUE_QDONE_COUNT q) (s.fld (F.QUE_QDONE_COUNT q) + 1)
      if x.dup then count s0
      else
        let m := s0.applyMark x
        let s1 := count ((m.1.signalOf q x m.2).setFld (F.QUE_QSTATE_LASTSTAT q) m.2)
        if m.2 ≠ 1 ∧ m.2 ≠ 2 ∧ s1.flag (F.QUE_QCFG_STOPERR q) ∧ s1.qstate q = 1 then s1.stopQueue q else s1
  | [] => s

/-- QUE_SVDONE (R459). -/
def State.svDone (s : State) (status : Nat) : State :=
  match s.front.sv with
  | some id =>
    (({ s with front := { s.front with sv := none } }.setFld F.QUE_SVREQ0_VALID 0).setFld F.QUE_SVREQ0_ABORT 0).unitDone
      id 4 (status % 16) false
  | none => s

/-! ### Control (R457-R460) -/

/-- DRAIN_ABORT (R458). -/
def State.drain (s : State) (q : Nat) : State :=
  let s1 := s.enterQueue q 3
  let u := s1.queue q
  let s2 := s1.setQueue q { u with cmds := u.cmds.map fun x => if x.phase < 2 then (x.fail 5).noted s.posted else x }
  (List.range u.cmds.length).foldl (fun s n => s.abortCmd 2 q n) s2

/-- QUEUE_DRAINED: the last command is completed and the posted writes of the clusters it used are acknowledged. -/
def State.drained (s : State) (q : Nat) : State :=
  if s.qstate q = 3 ∧ (s.queue q).cmds.isEmpty ∧ ((s.queue q).ran.all fun c => s.outWrites c == 0) then s.enterQueue q 4 else s

/-- REVOKE (R460). -/
def State.revoke (s : State) (q : Nat) : State :=
  ({ s with mem := tabClear (fun a => decide (ringBase q ≤ a) && decide (a < ringBase q + 0xC00)) s.mem }).enterQueue q 5

/-- RESET of a queue. -/
def State.resetQueue (s : State) (q : Nat) : State :=
  ((((s.setQueue q {}).setReg (Reg.QUE_QPTR q) 0).setReg (Reg.QUE_QPROG q) 0).setReg (Reg.QUE_QERR q) 0).enterQueue q 0

/-- A command written to QUE_QqCTL.CMD (Table HOST-9). -/
def State.queueCtl (s : State) (q cmd : Nat) : State :=
  let st := s.qstate q
  match cmd with
  | 1 => if st = 0 then s.enterQueue q 1 else bad
  | 2 => if st = 1 then s.enterQueue q 2 else bad
  | 3 => if st = 2 then s.enterQueue q 1 else bad
  | 4 => if st = 1 ∨ st = 2 then s.drain q else bad
  | 5 => if st = 4 then s.revoke q else bad
  | 6 => if st = 0 ∨ (st = 2 ∧ s.flyQ q = 0) ∨ st = 4 ∨ st = 5 then s.resetQueue q else bad
  | _ => bad
where
  /-- A command the table does not list for the state. -/
  bad : State := s.setFld (F.QUE_QERR_BADCMD q) 1

/-- A write of QUE_QqCFG or a ring register: only while the queue is DISABLED (R441). -/
def State.writeQcfg (s : State) (q a : Nat) (w : Word) : State :=
  if s.qstate q = 0 then s.setReg a w else s.setFld (F.QUE_QERR_BADCMD q) 1

/-- A write of QUE_CLASSIGNc.CTX: the front end writes CLU_OWNER.CTX (R462). -/
def State.classign (s : State) (c v : Nat) : State :=
  (s.setFld (F.QUE_CLASSIGN_CTX c) v).frontWrite c (Reg.CLU_OWNER c) fun s => s.writeOwner c (v % 4096)

/-- The front end has no command in flight and no operation under way: HST may leave ON (R112). -/
def State.frontIdle (s : State) : Bool := s.queues.all fun e => e.2.cmds.isEmpty

/-! ### Commands -/

/-- A write of QUE_QqCTL. -/
def State.ctlWrite (s : State) (ini : Initiator) (q cmd : Nat) : State :=
  s.cmdWrite ini (Reg.QUE_QCTL q) fun s => s.queueCtl q cmd

/-- A write of QUE_FCTL. -/
def State.fctlWrite (s : State) (ini : Initiator) (op i : Nat) : State := s.cmdWrite ini Reg.QUE_FCTL fun s => s.fenceOp op i

/-- DB_TAIL_WRITE (R443). -/
def execDbTailWrite (ini : Initiator) (q : Fin 64) (v : Word) (s : State) : Host.Outcome State Fault Refusal :=
  ok (s.cmdWrite ini (Reg.DB_TAIL q) fun s => s.writeTail q v.toNat)

/-- DESCRIPTOR_FETCH (R443). -/
def execDescriptorFetch (q : Fin 64) (good : Bool) (data : List Byte) (s : State) : Host.Outcome State Fault Refusal :=
  ok (s.fetch q good data)

/-- DESCRIPTOR_CHECK (R446). -/
def execDescriptorCheck (q : Fin 64) (s : State) : Host.Outcome State Fault Refusal := ok (s.descCheck q)

/-- NOP of a queue (R445). -/
def execQueNop (q : Fin 64) (s : State) : Host.Outcome State Fault Refusal := ok (s.dispatch q 0)

/-- WSET (R445). -/
def execWset (q : Fin 64) (s : State) : Host.Outcome State Fault Refusal := ok (s.dispatch q 1)

/-- WSLIST (R445). -/
def execWslist (q : Fin 64) (s : State) : Host.Outcome State Fault Refusal := ok (s.dispatch q 2)

/-- MOVE (R445). -/
def execMove (q : Fin 64) (s : State) : Host.Outcome State Fault Refusal := ok (s.dispatch q 3)

/-- TIMETABLE (R413, R445). -/
def execTimetable (q : Fin 64) (s : State) : Host.Outcome State Fault Refusal := ok (s.dispatch q 4)

/-- TPGM (R445). -/
def execTpgm (q : Fin 64) (s : State) : Host.Outcome State Fault Refusal := ok (s.dispatch q 5)

/-- TWIPE (R445). -/
def execTwipe (q : Fin 64) (s : State) : Host.Outcome State Fault Refusal := ok (s.dispatch q 6)

/-- TREFRESH (R445, R459). -/
def execTrefresh (q : Fin 64) (s : State) : Host.Outcome State Fault Refusal := ok (s.dispatch q 7)

/-- WAIT (R445, R453). -/
def execWait (q : Fin 64) (s : State) : Host.Outcome State Fault Refusal := ok (s.dispatch q 8)

/-- The next step of the front end's long operation in tile t waits: a command of another queue that wants the tile's cluster
goes first (R412). -/
def State.stepHeld (s : State) (t : Nat) : Bool :=
  match (s.tile t).long with
  | some l => l.atStep && (List.range 64).any fun q =>
      s.othersWait q (t / 8) && (s.queue q).cmds.any fun x => x.phase == 2 && decide (5 ≤ x.opc ∧ x.opc ≤ 7) && x.tile == t
  | none => false

/-- ROW_STEP_END (R217, R412). -/
def execRowStepEnd (t : Fin 32) (s : State) : Host.Outcome State Fault Refusal :=
  ok (if s.stepHeld t then s else s.rowStepEnd t)

/-- LONG_COMMAND_STEP (R412). -/
def execLongCommandStep (q : Fin 64) (n : Nat) (late : Bool) (s : State) : Host.Outcome State Fault Refusal :=
  ok (s.longStep q n late)

/-- COMMAND_COMPLETE (R449). -/
def execCommandComplete (q : Fin 64) (s : State) : Host.Outcome State Fault Refusal := ok (s.retire q)

/-- COMMAND_TIMEOUT (R456). -/
def execCommandTimeout (q : Fin 64) (n : Nat) (global : Bool) (s : State) : Host.Outcome State Fault Refusal :=
  ok (s.cmdTimeout q n global)

/-- QUEUE_ENABLE (R457). -/
def execQueueEnable (ini : Initiator) (q : Fin 64) (s : State) : Host.Outcome State Fault Refusal := ok (s.ctlWrite ini q 1)

/-- QUEUE_STOP (R457). -/
def execQueueStop (ini : Initiator) (q : Fin 64) (s : State) : Host.Outcome State Fault Refusal := ok (s.ctlWrite ini q 2)

/-- QUEUE_RESUME (R457). -/
def execQueueResume (ini : Initiator) (q : Fin 64) (s : State) : Host.Outcome State Fault Refusal := ok (s.ctlWrite ini q 3)

/-- DRAIN_ABORT (R458). -/
def execDrainAbort (ini : Initiator) (q : Fin 64) (s : State) : Host.Outcome State Fault Refusal := ok (s.ctlWrite ini q 4)

/-- QUEUE_DRAINED (R457). -/
def execQueueDrained (q : Fin 64) (s : State) : Host.Outcome State Fault Refusal := ok (s.drained q)

/-- QUEUE_REVOKE (R460). -/
def execQueueRevoke (ini : Initiator) (q : Fin 64) (s : State) : Host.Outcome State Fault Refusal := ok (s.ctlWrite ini q 5)

/-- QUEUE_RESET (R457). -/
def execQueueReset (ini : Initiator) (q : Fin 64) (s : State) : Host.Outcome State Fault Refusal := ok (s.ctlWrite ini q 6)

/-- FENCE_ALLOC (Table HOST-10). -/
def execFenceAlloc (ini : Initiator) (idx : Fin 4096) (s : State) : Host.Outcome State Fault Refusal := ok (s.fctlWrite ini 1 idx)

/-- FENCE_FREE. -/
def execFenceFree (ini : Initiator) (idx : Fin 4096) (s : State) : Host.Outcome State Fault Refusal := ok (s.fctlWrite ini 2 idx)

/-- FENCE_RESET. -/
def execFenceReset (ini : Initiator) (idx : Fin 4096) (s : State) : Host.Outcome State Fault Refusal := ok (s.fctlWrite ini 3 idx)

/-- FENCE_SIGNAL. -/
def execFenceSignal (ini : Initiator) (idx : Fin 4096) (s : State) : Host.Outcome State Fault Refusal := ok (s.fctlWrite ini 4 idx)

/-- ABANDON. -/
def execAbandon (ini : Initiator) (s : State) : Host.Outcome State Fault Refusal := ok (s.fctlWrite ini 5 0)

/-- ABANDON_END (R452). -/
def execAbandonEnd (s : State) : Host.Outcome State Fault Refusal := ok s.abandonEnd

/-- CLUSTER_ASSIGN (R462). -/
def execClusterAssign (ini : Initiator) (c : Fin 4) (v : Word) (s : State) : Host.Outcome State Fault Refusal :=
  ok (s.cmdWrite ini (Reg.QUE_CLASSIGN c) fun s => s.classign c (bitsOf v.toNat 0 12))

/-- SV_DONE (R459). -/
def execSvDone (ini : Initiator) (v : Word) (s : State) : Host.Outcome State Fault Refusal :=
  ok (s.cmdWrite ini Reg.QUE_SVDONE fun s => s.svDone v.toNat)

end Sys2Proof.Machine
end

