-- ==== Sys2Proof/Machine/LinkFrame.lean ====
section
/-! DEFINITION. IEEE 802.15.4 MAC frames as the slot engine reads them (R575, R576, log entry 30): frame control,
addressing, auxiliary security header, header IEs, FCS, and the places of what assembly writes. -/

namespace Sys2Proof.Machine

open Sys2Proof

/-- A MAC header read from bytes; a byte past the end reads as 0. -/
structure Mhr where
  type : Nat
  sec : Bool
  ackReq : Bool
  ver : Nat
  dsnPos : Option Nat
  dstPan : Option Nat
  dstMode : Nat
  dst : Nat
  srcMode : Nat
  src : Nat
  level : Nat
  keyMode : Nat
  /-- Frame counter suppression (bit 5 of the security control field). -/
  fcSup : Bool
  fcPos : Option Nat
  keyIdx : Nat
  /-- Length of the header with its header IEs. -/
  len : Nat
  deriving DecidableEq, Repr

/-- Byte i of a frame. -/
def frameByte (bs : List Byte) (i : Nat) : Nat := (bs.getD i 0).toNat

/-- `n` little-endian bytes of a frame. -/
def frameWord (bs : List Byte) (i n : Nat) : Nat := ofBytes ((List.range n).map fun k => bs.getD (i + k) 0)

/-- Bytes of an address of an addressing mode: 2 short, 3 extended. -/
def addrLen (m : Nat) : Nat := if m = 2 then 2 else if m = 3 then 8 else 0

/-- Whether the destination and the source PAN identifier are present. -/
def pansOf (ver dm sm : Nat) (comp : Bool) : Bool × Bool :=
  if ver < 2 then (dm != 0, sm != 0 && !comp)
  else if dm = 0 ∧ sm = 0 then (comp, false)
  else if sm = 0 then (!comp, false)
  else if dm = 0 then (false, !comp)
  else if dm = 3 ∧ sm = 3 then (!comp, false)
  else (true, !comp)

/-- The end of the header IEs that begin at a byte: at a termination IE (0x7E, 0x7F) or at the end of the frame. -/
def iesEnd (bs : List Byte) : Nat → Nat → Nat
  | 0, i => i
  | n + 1, i =>
    if bs.length < i + 2 then i
    else
      let h := frameWord bs i 2
      let next := i + 2 + bitsOf h 0 7
      if bitsOf h 7 8 = 0x7E ∨ bitsOf h 7 8 = 0x7F then next else iesEnd bs n next

/-- The header of a frame. -/
def mhrOf (bs : List Byte) : Mhr :=
  let fcf := frameWord bs 0 2
  let ver := bitsOf fcf 12 2
  let dm := bitsOf fcf 10 2
  let sm := bitsOf fcf 14 2
  let noDsn := ver == 2 && bitOf fcf 8
  let p0 := if noDsn then 2 else 3
  let pans := pansOf ver dm sm (bitOf fcf 6)
  let p1 := p0 + (if pans.1 then 2 else 0)
  let p2 := p1 + addrLen dm
  let p3 := p2 + (if pans.2 then 2 else 0)
  let p4 := p3 + addrLen sm
  let sec := bitOf fcf 3
  let sc := frameByte bs p4
  let sup := sec && ver == 2 && bitOf sc 5
  let km := if sec then bitsOf sc 3 2 else 0
  let p5 := if sec then p4 + 1 + (if sup then 0 else 4) else p4
  let p6 := p5 + (if km = 1 then 1 else if km = 2 then 5 else if km = 3 then 9 else 0)
  { type := bitsOf fcf 0 3, sec := sec, ackReq := bitOf fcf 5, ver := ver
    dsnPos := if noDsn then none else some 2
    dstPan := if pans.1 then some (frameWord bs p0 2) else none
    dstMode := dm, dst := frameWord bs p1 (addrLen dm), srcMode := sm, src := frameWord bs p3 (addrLen sm)
    level := if sec then bitsOf sc 0 3 else 0, keyMode := km, fcSup := sup
    fcPos := if sec && !sup then some (p4 + 1) else none
    keyIdx := if km = 1 then frameByte bs p5 else 0
    len := min bs.length (if ver == 2 && bitOf fcf 9 then iesEnd bs 64 p6 else p6) }

/-- MIC bytes of a security level. -/
def micLen (level : Nat) : Nat :=
  match level % 4 with
  | 0 => 0
  | 1 => 4
  | 2 => 8
  | _ => 16

/-- The FCS: CRC-16 with x^16 + x^12 + x^5 + 1, reflected, initial value 0. -/
def fcs (bs : List Byte) : Nat := bs.foldl (fun x b => iter (crcBitR 0x8408) 8 (x ^^^ b.toNat)) 0

/-- A frame with its FCS. -/
def withFcs (bs : List Byte) : List Byte := bs ++ toBytes 2 (fcs bs)

/-- Bytes of a frame replaced from byte i on. -/
def putAt (bs : List Byte) (i : Nat) (v : List Byte) : List Byte := bs.take i ++ v ++ bs.drop (i + v.length)

/-- The CCM* nonce of a frame: the 8-byte source address and either the frame counter and security level or the
5-byte ASN, each most significant byte first. -/
def frameNonce (src counter level asn : Nat) (useAsn : Bool) : List Byte :=
  (toBytes 8 src).reverse ++ (if useAsn then (toBytes 5 asn).reverse else (toBytes 4 counter).reverse ++ toBytes 1 level)

/-- An Imm-Ack, without FCS. -/
def immAck (dsn : Nat) : List Byte := [0x02, 0x00] ++ toBytes 1 dsn

/-- The header of an Enh-Ack, without FCS: version 2015, destination the frame's source with PAN identifiers
compressed, the frame's DSN, its security level and key index, and a Time Correction IE (R605). -/
def enhAck (m : Mhr) (dsn : Option Nat) (counter : Option Nat) (corrUs : Int) : List Byte :=
  let fcf := 2 + (if m.sec then 8 else 0) + 64 + (if dsn.isNone then 256 else 0) + 512 + m.srcMode * 1024 + 2 * 4096
  let aux := if m.sec then
      [BitVec.ofNat 8 (m.level + 8 * m.keyMode + (if counter.isNone then 0x60 else 0))] ++
      (match counter with | some n => toBytes 4 n | none => []) ++ (if m.keyMode = 1 then toBytes 1 m.keyIdx else [])
    else []
  toBytes 2 fcf ++ (match dsn with | some d => toBytes 1 d | none => []) ++ toBytes (addrLen m.srcMode) m.src ++ aux ++
    toBytes 2 (2 + 0x1E * 128) ++ toBytes 2 (unsigned 12 corrUs)

end Sys2Proof.Machine
end

