-- ==== Sys2Proof/Machine/Link.lean ====
section
/-! DEFINITION. The radio and the slot engine (17_radio_link.md). -/

namespace Sys2Proof.Machine

open Sys2Proof

/-! ### Parts of the engine -/

/-- A transmit buffer. -/
def State.tx (s : State) (b : Nat) : TxBuf := tabGet (fun _ => {}) s.lnk.txs b

/-- A transmit buffer set. -/
def State.setTx (s : State) (b : Nat) (v : TxBuf) : State :=
  { s with lnk := { s.lnk with txs := tabSet (fun _ => {}) s.lnk.txs b v } }

/-- A neighbour entry. -/
def State.nbr (s : State) (n : Nat) : Nbr := tabGet (fun _ => {}) s.lnk.nbrs n

/-- A neighbour entry set. -/
def State.setNbr (s : State) (n : Nat) (v : Nbr) : State :=
  { s with lnk := { s.lnk with nbrs := tabSet (fun _ => {}) s.lnk.nbrs n v } }

/-- A neighbour entry as the slot in progress sees it: a write takes effect at the next slot start (R608). -/
def State.nbrNow (s : State) (n : Nat) : Nbr :=
  match s.lnk.latched with
  | some v => tabGet (fun _ => {}) v.1 n
  | none => s.nbr n

/-- What a delivery changes in a neighbour entry, as it stands and as the slot in progress sees it (R604). -/
def State.delivered (s : State) (n : Nat) (f : Nbr → Nbr) : State :=
  let s1 := s.setNbr n (f (s.nbr n))
  { s1 with lnk := { s1.lnk with latched := s1.lnk.latched.map fun v =>
      (tabSet (fun _ => {}) v.1 n (f (tabGet (fun _ => {}) v.1 n)), v.2) } }

/-- Word i of a neighbour entry (Table RAD-9). -/
def Nbr.word (n : Nbr) (i : Nat) : Nat := (n.w.getD i 0).toNat
/-- The 64-bit address of a neighbour. -/
def Nbr.addr (n : Nbr) : Nat := n.word 0 + 2 ^ 24 * n.word 1 + 2 ^ 48 * bitsOf (n.word 2) 0 16
/-- KSLOT of a neighbour. -/
def Nbr.kslot (n : Nbr) : Nat := bitsOf (n.word 2) 16 4
/-- A neighbour is a time source. -/
def Nbr.tsrc (n : Nbr) : Bool := bitOf (n.word 2) 20
/-- A neighbour entry is enabled. -/
def Nbr.en (n : Nbr) : Bool := bitOf (n.word 2) 21
/-- Short address of a neighbour. -/
def Nbr.saddr (n : Nbr) : Nat := bitsOf (n.word 3) 0 16
/-- Last frame counter delivered. -/
def Nbr.rxfc (n : Nbr) : Nat := n.word 4 + 2 ^ 24 * bitsOf (n.word 5) 0 8
/-- RXFC set. -/
def Nbr.setRxfc (n : Nbr) (v : Nat) : Nbr :=
  { n with w := [n.w.getD 0 0, n.w.getD 1 0, n.w.getD 2 0, n.w.getD 3 0, BitVec.ofNat 24 v, BitVec.ofNat 24 (v / 2 ^ 24 % 256)] }

/-- LNK_LINK0 and LNK_LINK1 of a link. -/
def State.link (s : State) (l : Nat) : Nat × Nat :=
  let e := tabGet (fun _ => (0, 0)) s.lnk.links l
  (e.1.toNat, e.2.toNat)

/-- A link sends: the TX option, or ADV, which sends as an advertising link does (R589, Table RAD-9). -/
def linkTx (l : Nat × Nat) : Bool := bitOf l.2 0 || bitOf l.2 4
/-- The RX option. -/
def linkRx (l : Nat × Nat) : Bool := bitOf l.2 1
/-- The SHARED option. -/
def linkShared (l : Nat × Nat) : Bool := bitOf l.2 2
/-- The neighbour of a link; 127 any. -/
def linkNbr (l : Nat × Nat) : Nat := bitsOf l.2 5 7
/-- The TX queue of a link. -/
def linkQueue (l : Nat × Nat) : Nat := bitsOf l.2 12 3

/-- Fields of a descriptor (Table RAD-10). -/
def TxBuf.tlen (b : TxBuf) : Nat := bitsOf b.d0.toNat 0 7
/-- HLEN. -/
def TxBuf.hlen (b : TxBuf) : Nat := bitsOf b.d0.toNat 7 7
/-- SRC. -/
def TxBuf.src (b : TxBuf) : Nat := bitsOf b.d0.toNat 14 2
/-- CLUSTER. -/
def TxBuf.cluster (b : TxBuf) : Nat := bitsOf b.d0.toNat 16 2
/-- COMPACT. -/
def TxBuf.compact (b : TxBuf) : Bool := bitOf b.d0.toNat 18
/-- QUEUE. -/
def TxBuf.queue (b : TxBuf) : Nat := bitsOf b.d0.toNat 19 3
/-- SEC. -/
def TxBuf.secure (b : TxBuf) : Bool := bitOf b.d0.toNat 22
/-- ROW. -/
def TxBuf.row (b : TxBuf) : Nat := bitsOf b.d1.toNat 0 12
/-- APLEN. -/
def TxBuf.aplen (b : TxBuf) : Nat := bitsOf b.d1.toNat 12 7
/-- MAXRETRY. -/
def TxBuf.maxRetry (b : TxBuf) : Nat := bitsOf b.d1.toNat 19 3
/-- KSLOT. -/
def TxBuf.kslot (b : TxBuf) : Nat := bitsOf b.d2.toNat 0 4
/-- ASNPOS. -/
def TxBuf.asnPos (b : TxBuf) : Nat := bitsOf b.d2.toNat 4 7
/-- OFF. -/
def TxBuf.off (b : TxBuf) : Nat := bitsOf b.d2.toNat 11 9
/-- Bytes of the buffer. -/
def TxBuf.bytes (b : TxBuf) (n : Nat) : List Byte := tabGetList (fun _ => 0) b.mem 0 n

/-- The 40-bit ASN. -/
def State.asn (s : State) : Nat := s.fld F.LNK_ASN0_ASN + 2 ^ 24 * s.fld F.LNK_ASN1_ASN

/-- The ASN set. -/
def State.setAsn (s : State) (n : Nat) : State :=
  (s.setFld F.LNK_ASN0_ASN (n % 2 ^ 24)).setFld F.LNK_ASN1_ASN (n / 2 ^ 24 % 2 ^ 16)

/-- The frame counter LNK_FC. -/
def State.lnkFc (s : State) : Nat := s.fld F.LNK_FC0_FC + 2 ^ 24 * s.fld F.LNK_FC1_FC

/-- The frame counter set. -/
def State.setLnkFc (s : State) (n : Nat) : State :=
  (s.setFld F.LNK_FC0_FC (n % 2 ^ 24)).setFld F.LNK_FC1_FC (n / 2 ^ 24 % 2 ^ 8)

/-- TIME: clk_xo cycles since LNK came ON from OFF, modulo 2^32. -/
def State.lnkTime (s : State) : Nat := (s.evtCycles / 2 - s.lnk.timeBase) % 2 ^ 32

/-- State of the engine (Table RAD-3). -/
def State.lnkState (s : State) : Nat := s.fld F.LNK_STATUS_STATE

/-- The engine keeps TSCH time: SYNCED or RESYNC, not held (R588, R592). -/
def State.tsch (s : State) : Bool := (s.lnkState == 2 || s.lnkState == 3) && !s.flag F.LNK_STATUS_HELD

/-- The engine uses CSMA-CA: CSMA or DESYNC. -/
def State.csmaMode (s : State) : Bool := s.lnkState == 1 || s.lnkState == 4

/-- Field of a slot template word: `h` false the first, true the second (Table RAD-4). -/
def State.tmpl (s : State) (k : Nat) (h : Bool) : Nat := bitsOf (s.fld (F.LNK_TMPL_ALL k)) (if h then 12 else 0) 12
/-- TsTxOffset. -/
def State.tsTxOffset (s : State) : Nat := s.tmpl 1 false
/-- TsRxWait. -/
def State.tsRxWait (s : State) : Nat := s.tmpl 3 false
/-- TsRxWait as the slot in progress sees it (R591). -/
def State.rxWaitNow (s : State) : Nat := match s.lnk.latched with | some v => v.2 | none => s.tsRxWait
/-- TMPL4.SLOTLEN in clk_xo cycles. -/
def State.slotCycles (s : State) : Nat := bitsOf (s.fld (F.LNK_TMPL_ALL 4)) 0 16 * 32

/-- One of the three 8-bit counters of a LNK_CNT register raised. -/
def State.lnkCount (s : State) (r i : Nat) : State := s.incFld ⟨r, 8 * i, 8⟩ 1

/-- RF is ON. -/
def State.rfOn (s : State) : Bool := s.domOn 2

/-- The part's 8-byte address. -/
def State.uid (s : State) : Nat := s.shadow.uid.toNat

/-- A buffer ends with a status of Table RAD-6; its completion fires EVP_LNK_TXDONE (R594). -/
def State.txEnd (s : State) (b status : Nat) : State :=
  (s.setTx b { s.tx b with st := 3, status := status, cancel := false, csma := false, backoff := 0, be := 0, nb := 0 }).fire 124

/-! ### Idle, wakes and their return (R593) -/

/-- No slot is in progress, no buffer is INFLIGHT, and the RX ring is empty. -/
def State.lnkIdle (s : State) : Bool :=
  s.lnk.onAir.isNone && s.lnk.rxLink.isNone && s.lnk.rx.isEmpty && !((List.range 16).any fun b => (s.tx b).st == 2)

/-- With AUTORET an idle engine requests RET for LNK. -/
def State.autoRet (s : State) : State :=
  if s.flag F.LNK_CFG_AUTORET && s.lnkIdle && s.domOn 3 then s.requestLeave [(3, 1)] else s

/-- The slot's work has ended: the domains it woke return to the states they held. -/
def State.slotEnd (s : State) : State :=
  ({ s with lnk := { s.lnk with woke := [] } }.requestLeave (s.lnk.woke.filter fun e => e.2 != 2)).autoRet

/-! ### Corrections (R585) -/

/-- A correction of c clk_xo cycles from a time source. -/
def State.correct (s : State) (c : Int) : State :=
  if s.tsch && decide (c.natAbs ≤ s.rxWaitNow * 16) then
    let s1 := (s.setFld F.LNK_CORR_CORR (unsigned 24 c)).setFld F.LNK_SINCE_SLOTS 0
    let s2 := if s1.lnkState = 3 then s1.setFld F.LNK_STATUS_STATE 2 else s1
    { s2 with lnk := { s2.lnk with corr := c, resync := 0, guard := 0 } }
  else s

/-- DESYNC is entered: DESYNCEV, one EVP_LNK_TXDONE, the event of Table FLT-3 (R587). -/
def State.enterDesync (s : State) : State :=
  let s1 := (((s.setFld F.LNK_STATUS_STATE 4).setFld F.LNK_STATUS_DESYNCEV 1).setFld F.LNK_STATUS_HELD 0).fire 124
  { s1 with lnk := { s1.lnk with resync := 0, guard := 0, rxLink := none, latched := none } }.fault 0x0D 40 0 true

/-- The slots without a correction have reached LNK_DESYNC.SLOTS (R587, Table RAD-3). -/
def State.desyncDue (s : State) : Bool :=
  s.tsch && decide (s.fld F.LNK_DESYNC_SLOTS ≤ if s.lnkState = 2 then s.fld F.LNK_SINCE_SLOTS else s.lnk.resync)

/-- A 32,768 Hz count of a number of clk_xo cycles, rounded down. -/
def aonOf (n : Nat) : Nat := n * 32768 / 32000000

/-- The RTC time in 32,768 Hz units. -/
def State.rtcNow (s : State) : Nat := s.rtc.sec * 32768 + s.rtc.sub

/-- LNK reaches RET in SYNCED by Calm entry: the reference is taken (R588); the boundary may fall in either of two RTC
cycles. -/
def State.lnkHold (s : State) : State :=
  if s.lnkState = 2 then
    let len := (((s.lnk.phase + 2 ^ 32 - s.lnkTime) % 2 ^ 32 : Nat) : Int) + s.lnk.corr
    let t := s.rtcNow + aonOf len.toNat + s.open_ 2
    ({ s with lnk := { s.lnk with refSec := t / 32768, refSub := t % 32768, corr := 0, latched := none } }.drawn).setFld F.LNK_STATUS_HELD 1
  else s

/-- LNK is ON again after Calm: the ASN and the phase follow from the elapsed time (R588). -/
def State.lnkResume (s : State) : State :=
  if s.flag F.LNK_STATUS_HELD then
    let ref := s.lnk.refSec * 32768 + s.lnk.refSub
    let e := (s.rtcNow - ref) * 1000000 / 32768
    let len := s.slotCycles / 32
    let n := if len = 0 then 0 else e / len
    let guard := s.tsRxWait / 2 + 50 * e / 1000000 + 31
    let s1 := (s.setAsn (s.asn + 1 + n)).setFld F.LNK_STATUS_HELD 0
    let s2 := { s1 with lnk := { s1.lnk with phase := (s.lnkTime + (len - (e - n * len)) * 32) % 2 ^ 32, resync := 0, guard := guard } }
    if 4000 < guard then s2.enterDesync else s2.setFld F.LNK_STATUS_STATE 3
  else s

/-! ### Assembly (R595-R597) -/

/-- The checks of R595 on a descriptor. -/
def TxBuf.bad (b : TxBuf) : Bool :=
  b.tlen == 0 || b.hlen == 0 || decide (b.tlen < b.hlen) || (b.src == 1 && decide (384 < b.off + b.aplen)) || b.src == 3 ||
    decide (b.asnPos ≠ 0 ∧ b.tlen < b.asnPos + 5)

/-- A refusal of a sealed row at the radio (R46, R597). -/
def State.refuseRadio (s : State) : State := s.refuseEgress F.SEAL_EGRCNT_RADIO

/-- Payload bytes of a franked row: ceil(BITS / 8). -/
def frankedLen (bs : List Byte) : Nat := (bitsOf (ofBytes (bs.take 8)) 24 9 + 7) / 8

/-- What a ring row contributes after `prev`, the first and the last row taken (Table RAD-5); none where it cannot be
packed. -/
def ringPack (compact : Bool) (prev : Option (Nat × Nat)) (bs : List Byte) : Option (List Byte) :=
  let h := ofBytes (bs.take 8)
  let pay := (bs.drop 8).take (frankedLen bs)
  match compact, prev with
  | true, some (first, last) =>
    let diff := (bitsOf h 8 16 + 65536 - bitsOf last 8 16) % 65536
    if bitsOf h 0 8 = bitsOf first 0 8 ∧ bitsOf h 24 9 = bitsOf first 24 9 ∧ diff ≤ 15 then
      some (BitVec.ofNat 8 (diff * 16 + bitsOf h 33 4) :: pay)
    else none
  | _, _ => some (bs.take 8 ++ pay)

/-- Where the taking of ring rows stopped: the bytes taken, the rows, and whether a sealed row stopped it. -/
structure RingTake where
  bytes : List Byte := []
  rows : Nat := 0
  isSealed : Bool := false
  deriving DecidableEq, Repr

/-- Ring rows taken from RP, at most `n` of them, within a limit of bytes (R596, R597); a dark row counts as read. -/
def State.ringTake (c limit : Nat) (compact : Bool) : Nat → Option (Nat × Nat) → RingTake → State → State × RingTake
  | 0, _, t, s => (s, t)
  | n + 1, prev, t, s =>
    let r := s.ringRow c (s.fld (F.SEAL_RINGRP_RP c) + t.rows)
    let s1 := s.unitDark c r false
    if s.unitTag c r then (s1, { t with isSealed := true })
    else
      let bs := s.unitRow c r
      match ringPack compact prev bs with
      | none => (s1, t)
      | some add =>
        if limit < t.bytes.length + add.length then (s1, t)
        else
          let h := ofBytes (bs.take 8)
          State.ringTake c limit compact n (some ((match prev with | some p => p.1 | none => h), h))
            { t with bytes := t.bytes ++ add, rows := t.rows + 1 } s1

/-- Bytes of MIC and FCS a frame takes beside its own. -/
def TxBuf.tail (b : TxBuf) : Nat := (if b.secure then micLen (mhrOf (b.bytes b.tlen)).level else 0) + 2

/-- The source of a frame: bytes appended to the template, or the status that ends the buffer, or none where a ring
holds no row to take (R595, R596). -/
def State.txSource (s : State) (b : TxBuf) : State × Option (List Byte ⊕ Nat) :=
  match b.src with
  | 0 => (s, some (.inl []))
  | 1 =>
    let s1 := s.unitDark b.cluster b.row false
    if s.unitTag b.cluster b.row then (s1.refuseRadio, some (.inr 4))
    else (s1, some (.inl (((s.unitRow b.cluster b.row).drop b.off).take b.aplen)))
  | _ =>
    let r := State.ringTake b.cluster (min b.aplen (127 - b.tlen - b.tail)) b.compact (s.ringHeld b.cluster) none {} s
    let s1 := if r.2.rows = 0 then r.1 else r.1.takeRing b.cluster r.2.rows
    if r.2.isSealed then (s1.refuseRadio, some (.inr 4))
    else if r.2.rows = 0 then (s1, none)
    else (s1, some (.inl r.2.bytes))

/-- The frame secured under KSLOT with bytes 0 to HLEN - 1 as a-data (R595): the PSDU without FCS, or none for NOKEY. -/
def State.secureFrame (s : State) (kslot hlen counter asn : Nat) (useAsn : Bool) (bs : List Byte) : Option (List Byte) :=
  let lvl := (mhrOf bs).level
  let r := s.slotCcm kslot (frameNonce s.uid counter lvl asn useAsn) (bs.take hlen) (bs.drop hlen) (micLen lvl)
    (decide (4 ≤ lvl)) false []
  if r.1 = 4 then none else some (bs.take hlen ++ r.2.1 ++ r.2.2)

/-- The frame uses the ASN nonce (R595). -/
def State.asnNonce (s : State) (b : TxBuf) (tsch : Bool) : Bool :=
  b.secure && (mhrOf (b.bytes b.tlen)).ver == 2 && tsch && s.flag F.LNK_CFG_FCSUP

/-- A frame kept in `plain` made ready for the air again or for the first time: the ASN at ASNPOS, security, FCS
(R595, R598). -/
def State.txSeal (s : State) (b : Nat) (tsch : Bool) : State :=
  let t := s.tx b
  let bs := if t.asnPos = 0 then t.plain else putAt t.plain t.asnPos (toBytes 5 s.asn)
  let m := mhrOf bs
  let counter := match m.fcPos with | some p => frameWord bs p 4 | none => 0
  if t.secure then
    match s.secureFrame t.kslot t.hlen counter s.asn (s.asnNonce t tsch) bs with
    | none => s.txEnd b 5
    | some out => s.countJob.lendWait.setTx b { t with plain := bs, psdu := withFcs out, len := out.length + 2 }
  else s.setTx b { t with plain := bs, psdu := withFcs bs, len := bs.length + 2 }

/-- DSN and frame counter written into a frame whose bytes are all there (R595). -/
def State.txNumber (s : State) (b : Nat) (tsch : Bool) (bs : List Byte) : State :=
  let t := s.tx b
  let m := mhrOf bs
  let d := s.fld F.LNK_DSN_DSN
  let (s1, bs1) := match m.dsnPos with
    | some p => (s.setFld F.LNK_DSN_DSN ((d + 1) % 256), putAt bs p (toBytes 1 d))
    | none => (s, bs)
  if t.secure && !s.asnNonce t tsch then
    if s.lnkFc = 2 ^ 32 - 1 then s1.txEnd b 9
    else
      let bs2 := match m.fcPos with | some p => putAt bs1 p (toBytes 4 s.lnkFc) | none => bs1
      ((s1.setLnkFc (s.lnkFc + 1)).setTx b { t with st := 2, tries := 0, plain := bs2 }).txSeal b tsch
  else (s1.setTx b { t with st := 2, tries := 0, plain := bs1 }).txSeal b tsch

/-- Assembly of a READY buffer (R595-R597): INFLIGHT with its PSDU, DONE with a status, or READY where a ring is empty. -/
def State.assemble (s : State) (b : Nat) (tsch : Bool) : State :=
  let t := s.tx b
  let r := s.txSource t
  match r.2 with
  | none => r.1
  | some (.inr code) => r.1.txEnd b code
  | some (.inl add) =>
    let bs := t.bytes t.tlen ++ add
    if 127 < bs.length + t.tail then r.1.txEnd b 6 else r.1.txNumber b tsch bs

/-- The buffer goes on the air on a channel. -/
def State.transmit (s : State) (b : Nat) (shared : Option Bool) (chan : Nat) : State :=
  { s with lnk := { s.lnk with onAir := some (b, shared) }, air := s.air ++ [(chan, (s.tx b).psdu)] }

/-- CCA finds the channel busy: by energy, by a signal, or by both; MODE 0 is taken as 1 (R580). -/
def State.ccaBusy (s : State) (c : Cca) : Bool :=
  let above := decide (signed 8 (s.fld F.RAD_CCA_THR) < c.energy)
  match s.fld F.RAD_CCA_MODE with
  | 2 => c.signal
  | 3 => above && c.signal
  | _ => above

/-! ### Slots (R589-R593) -/

/-- The channel of a slot (R590). -/
def State.hop (s : State) (choff : Nat) : Nat :=
  let i := (s.asn + choff) % (s.fld F.LNK_HOPCFG_LEN + 1)
  11 + bitsOf (s.fld (F.LNK_HOP_HOP (i / 6))) (4 * (i % 6)) 4

/-- A buffer of a queue waits for a link: READY, or INFLIGHT between attempts. -/
def State.txWaits (s : State) (b : Nat) : Bool :=
  (s.tx b).st == 1 || ((s.tx b).st == 2 && s.lnk.onAir.map (·.1) != some b)

/-- The oldest waiting buffer among those of some queues. -/
def State.oldest (s : State) (q : Nat → Bool) : Option Nat :=
  ((List.range 16).filter fun b => s.txWaits b && q (s.tx b).queue).foldl
    (fun o b => match o with
      | none => some b
      | some a => if (s.tx b).order < (s.tx a).order then some b else some a) none

/-- A link is active in the slot of an ASN (R589). -/
def State.linkActive (s : State) (asn l : Nat) : Bool :=
  let e := s.link l
  let sf := bitsOf e.1 0 2
  bitOf e.2 15 && s.flag (F.LNK_SF_EN sf) && s.fld (F.LNK_SF_LEN sf) != 0 &&
    asn % s.fld (F.LNK_SF_LEN sf) == bitsOf e.1 2 16 && (linkTx e || linkRx e) &&
    (s.lnkState != 3 || (linkRx e && linkNbr e != 127 && (s.nbr (linkNbr e)).tsrc))

/-- The buffer a link would send: none in RESYNC (R588). -/
def State.linkBuf (s : State) (l : Nat) : Option Nat :=
  if linkTx (s.link l) && s.lnkState == 2 then s.oldest (· == linkQueue (s.link l)) else none

/-- Rank of a link among those active (R589): slotframe, then a link with a frame to send, then one that receives. -/
def State.linkRank (s : State) (l : Nat) : Nat :=
  bitsOf (s.link l).1 0 2 * 3 + (if (s.linkBuf l).isSome then 0 else if linkRx (s.link l) then 1 else 2)

/-- The link served in the slot of an ASN. -/
def State.chooseLink (s : State) (asn : Nat) : Option Nat :=
  ((List.range 128).filter (s.linkActive asn)).foldl
    (fun o l => match o with
      | none => some l
      | some a => if s.linkRank l < s.linkRank a then some l else some a) none

/-- The producers of a slot start (R592). -/
def State.slotEvents (s : State) : State :=
  let s1 := if s.flag F.LNK_CFG_SLOTEV then s.fire 119 else s
  (List.range 4).foldl (fun s n =>
    let p := s.fld (F.LNK_ASNMAT0_PERIOD n)
    let o := s.fld (F.LNK_ASNMAT1_OFF n)
    if p != 0 && ((s.asn : Int) - (o : Int)) % (p : Int) == 0 then s.fire (120 + n) else s) s1

/-- A slot whose activity cannot take place. -/
def State.slotLate (s : State) : State := (s.lnkCount Reg.LNK_CNT2 0).slotEnd

/-- An attempt of a TX link (R595, R598): CCA on a dedicated link, backoff on a shared one. -/
def State.slotTx (s : State) (l b : Nat) (cca : Cca) : State :=
  let t := s.tx b
  if t.secure && !s.domOn 7 then s.slotLate
  else if linkShared (s.link l) ∧ t.backoff ≠ 0 then (s.setTx b { t with backoff := t.backoff - 1 }).slotEnd
  else
    let s1 := if t.st = 1 then s.assemble b true
      else
        let s2 := s.setTx b { t with tries := t.tries + 1 }
        if t.asnPos ≠ 0 ∨ s.asnNonce t true = true then s2.txSeal b true else s2
    if (s1.tx b).st ≠ 2 then s1.slotEnd
    else if s.ccaBusy cca && s.flag F.LNK_CFG_TSCHCCA && !linkShared (s.link l) then
      ((s1.setTx b { s1.tx b with tries := t.tries }).lnkCount Reg.LNK_CNT2 2).slotEnd
    else s1.transmit b (some (linkShared (s.link l))) (s1.hop (bitsOf (s.link l).1 18 4))

/-- The activity of the slot that has begun (R589, R593, R614). -/
def State.slotWork (s : State) (cca : Cca) : State :=
  match s.chooseLink s.asn with
  | none => if s.lnk.onAir.isNone && s.lnk.rxLink.isNone then s.slotEnd else s
  | some l =>
    if s.lnk.onAir.isSome || s.lnk.rxLink.isSome then s.lnkCount Reg.LNK_CNT2 0
    else match s.linkBuf l with
    | some b => if s.rfOn then s.slotTx l b cca else s.slotLate
    | none =>
      if linkRx (s.link l) then
        if s.rfOn then
          { s with lnk := { s.lnk with rxLink := some { chan := s.hop (bitsOf (s.link l).1 18 4), asn := s.asn } } }
        else s.slotLate
      else s.slotEnd

/-- A slot may start: the engine keeps TSCH time in Run, and no DESYNC is due. -/
def State.slotDue (s : State) : Bool := s.tsch && decide (1 ≤ s.dom 3) && s.weather == .run && !s.desyncDue

/-- SLOT_START: a slot starts (R592). -/
def State.slotStart (s : State) (cca : Cca) : State :=
  if s.slotDue then
    let s1 := s.setAsn ((s.asn + 1) % 2 ^ 40)
    let s2 := if s.lnkState = 2 then s1.incFld F.LNK_SINCE_SLOTS 1
      else { s1 with lnk := { s1.lnk with resync := s1.lnk.resync + 1 } }
    let next := (((s.lnk.phase + s.slotCycles : Nat) : Int) + s.lnk.corr) % (2 : Int) ^ 32
    ({ s2 with lnk := { s2.lnk with phase := next.toNat, corr := 0, latched := some (s.lnk.nbrs, s.tsRxWait) } }.slotEvents).slotWork
      cca
  else s

/-- The domains a slot needs beside LNK: RF, and SEC where it can carry a secured frame (R593). -/
def State.slotNeeds (s : State) (l : Nat) : List Nat :=
  match s.linkBuf l with
  | some b => if (s.tx b).secure then [2, 7] else [2]
  | none => [2, 7]

/-- SLOT_WAKE: LEAD before a slot with an active TX or RX link, what it needs is requested ON (R593). -/
def State.slotWake (s : State) : State :=
  if s.tsch && decide (1 ≤ s.dom 3) && s.weather == .run then
    match s.chooseLink ((s.asn + 1) % 2 ^ 40) with
    | none => s
    | some l =>
      let ds := s.slotNeeds l
      let all := (List.range domains).filter fun d => d != 0 && d != 3 && (ds.flatMap withNeeds).contains d && !s.lit d
      let r := s.requestOn ds false
      if r.2 then
        { r.1 with lnk := { r.1.lnk with woke := r.1.lnk.woke ++ all.map fun d => (d, s.dom d) } }
      else r.1
  else s

/-! ### Ends of attempts (R594, R598, R601) -/

/-- The neighbour a frame's address names, among enabled entries. -/
def State.nbrOf (s : State) (mode a : Nat) : Option Nat :=
  (List.range 96).find? fun n =>
    let x := s.nbrNow n
    x.en && ((mode == 3 && x.addr == a) || (mode == 2 && x.saddr == a))

/-- An attempt was acknowledged. -/
def State.txAcked (s : State) (b : Nat) (corr : Option Int) : State :=
  let m := mhrOf (s.tx b).plain
  let s1 := match corr, s.nbrOf m.dstMode m.dst with
    | some c, some n => if (s.nbrNow n).tsrc then s.correct (c * 32) else s
    | _, _ => s
  s1.txEnd b 1

/-- An attempt saw no acknowledgement: a frame that asks for none is sent; another is retried (R598, R611). -/
def State.txSilent (s : State) (b : Nat) (shared : Bool) : State :=
  let t := s.tx b
  if !(mhrOf t.plain).ackReq then s.txEnd b 1
  else
    let s1 := s.lnkCount Reg.LNK_CNT2 1
    if t.cancel = true ∨ t.maxRetry ≤ t.tries then s1.txEnd b 2
    else if t.csma then s1.setTx b { t with tries := t.tries + 1, nb := 0, be := s.fld F.LNK_CSMA_MINBE }
    else if shared then
      let be := min (s.fld F.LNK_CSMA_MAXBE) (max (s.fld F.LNK_CSMA_MINBE) (t.be + 1))
      (s1.setTx b { t with be := be, backoff := s.open_ (2 ^ be) }).drawn
    else s1

/-- TX_DONE: the attempt on the air ends. -/
def State.txDone (s : State) (r : TxResult) : State :=
  match s.lnk.onAir with
  | none => s
  | some (b, l) =>
    let s1 := { s with lnk := { s.lnk with onAir := none } }
    let s2 := match r with
      | .acked c => if (mhrOf (s.tx b).plain).ackReq then s1.txAcked b c else s1.txEnd b 1
      | .silent => s1.txSilent b (l.getD false)
    s2.slotEnd

/-- CSMA_ACCESS: a backoff of a CSMA access ends and a CCA follows (R601). A secured frame waits for SEC ON (log entry
88). -/
def State.csmaAccess (s : State) (cca : Cca) : State :=
  if s.csmaMode && s.domOn 3 && s.rfOn && s.lnk.onAir.isNone then
    match s.oldest (s.fbit F.LNK_CSMA_QMASK ·) with
    | none => s
    | some b =>
      let s1 := if (s.tx b).st = 1 then s.assemble b false else s
      if (s.tx b).secure && !s.domOn 7 then s
      else if (s1.tx b).st ≠ 2 then s1
      else
        let t := s1.tx b
        let s2 := if t.csma then s1 else s1.setTx b { t with csma := true, nb := 0, be := s.fld F.LNK_CSMA_MINBE }
        let t := s2.tx b
        if s.ccaBusy cca then
          if s.fld F.LNK_CSMA_MAXBO < t.nb + 1 then (s2.lnkCount Reg.LNK_CNT2 2).txEnd b 3
          else s2.setTx b { t with nb := t.nb + 1, be := min (t.be + 1) (s.fld F.LNK_CSMA_MAXBE) }
        else s2.transmit b none (s.fld F.RAD_CHAN_CHAN)
  else s

/-! ### Reception (R579, R603-R607) -/

/-- RAD_LAST for a frame: RSSI within -110 to -10 and LQI from the matching chips of 8 symbols (R579). -/
def lastWord (power : Int) (chips : Nat) : Nat :=
  unsigned 8 (max (-110) (min (-10) power)) + 256 * min 255 (2 * chips - 256) + 65536 * b2n (decide (power < -110) || decide (-10 < power))

/-- The destination names this part, or everybody, or nobody in particular (step 3 of Table RAD-7). -/
def State.forMe (s : State) (m : Mhr) : Bool :=
  s.flag F.LNK_CFG_PROMISC ||
    ((match m.dstPan with | some p => p == s.fld F.LNK_PAN_PANID || p == 0xFFFF | none => true) &&
     (m.dstMode == 0 || (m.dstMode == 2 && (m.dst == s.fld F.LNK_SADDR_SADDR || m.dst == 0xFFFF)) ||
      (m.dstMode == 3 && m.dst == s.uid)))

/-- Version and type of a frame are among Table RAD-1 (step 2). -/
def Mhr.supported (m : Mhr) : Bool :=
  m.ver != 3 && decide (m.type ≤ 3) && m.dstMode != 1 && m.srcMode != 1 && !(m.sec && m.ver == 0) && decide (m.keyMode ≤ 1)

/-- The key slot of a received frame (step 4). -/
def State.rxKey (s : State) (m : Mhr) (n : Option Nat) : Option Nat :=
  if m.keyMode = 0 then n.map fun n => (s.nbrNow n).kslot
  else ((List.range 8).find? fun k => s.flag (F.LNK_KEY_EN k) && s.fld (F.LNK_KEY_KEYIDX k) == m.keyIdx).map
    fun k => s.fld (F.LNK_KEY_KSLOT k)

/-- Step 4: the frame without MIC and FCS, decrypted, or none where it does not verify. -/
def State.rxVerify (s : State) (m : Mhr) (n : Option Nat) (asn : Nat) (bs : List Byte) : Option (List Byte) :=
  if m.level = 0 then some bs
  else
    let src := if m.srcMode = 3 then some m.src else n.map fun n => (s.nbrNow n).addr
    match s.rxKey m n, src with
    | some k, some a =>
      let mic := micLen m.level
      let counter := match m.fcPos with | some p => frameWord bs p 4 | none => 0
      let body := (bs.take (bs.length - mic)).drop m.len
      if bs.length < m.len + mic ∨ s.domOn 7 = false then none
      else
        let r := s.slotCcm k (frameNonce a counter m.level asn m.fcSup) (bs.take m.len) body mic (decide (4 ≤ m.level)) true
          (bs.drop (bs.length - mic))
        if r.1 = 1 then some (bs.take m.len ++ r.2.1) else none
    | _, _ => none

/-- The acknowledgement of a frame (R605), sent on the channel and in the slot of the frame. -/
def State.sendAck (s : State) (m : Mhr) (key : Option Nat) (dsn : Option Nat) (corr : Int) (w : RxSlot) : State :=
  if m.ver ≠ 2 then { s with air := s.air ++ [(w.chan, withFcs (immAck (dsn.getD 0)))] }
  else
    let us := max (-2048) (min 2047 (corr / 32 + (s.open_ 2 : Int) * b2n (decide (corr % 32 ≠ 0))))
    let s0 := s.drawn
    if m.level = 0 then { s0 with air := s0.air ++ [(w.chan, withFcs (enhAck { m with sec := false } dsn none us))] }
    else
      let sup := s.tsch && s.flag F.LNK_CFG_FCSUP
      if !sup && s.lnkFc == 2 ^ 32 - 1 then s0
      else
        let h := enhAck m dsn (if sup then none else some s.lnkFc) us
        match key.bind fun k => s.secureFrame k h.length s.lnkFc w.asn sup h with
        | none => s0
        | some out =>
          let s1 := s0.countJob.lendWait
          { (if sup then s1 else s1.setLnkFc (s.lnkFc + 1)) with air := s1.air ++ [(w.chan, withFcs out)] }

/-- Steps 5 to 7 of Table RAD-7 for a frame whose MIC holds; `bs` its delivered bytes. -/
def State.rxDeliver (s : State) (m : Mhr) (n : Option Nat) (orig bs : List Byte) (stamp : Nat) (corr : Int) (w : RxSlot) :
    State :=
  let dsn := m.dsnPos.map fun p => frameByte orig p
  let counter := match m.fcPos with | some p => frameWord orig p 4 | none => 0
  let nb := match n with | some n => s.nbrNow n | none => {}
  let secok := m.level != 0
  let ack := fun s : State => if m.ackReq then s.sendAck m (s.rxKey m n) dsn corr w else s
  let time := fun s : State => if n.isSome && nb.tsrc then s.correct corr else s
  if 16 ≤ s.lnk.rx.length then s.lnkCount Reg.LNK_CNT1 2
  else if n.isSome && (match dsn with | some d => nb.window.contains d | none => false) then
    time (ack (s.lnkCount Reg.LNK_CNT0 0))
  else if n.isSome && secok && m.fcPos.isSome && decide (counter ≤ nb.rxfc) then s.lnkCount Reg.LNK_CNT0 2
  else
    let s1 := match n with
      | none => s
      | some k =>
        s.delivered k fun nb =>
          let nb1 := match dsn with | some d => { nb with window := (d :: nb.window).take 8 } | none => nb
          if secok && m.fcPos.isSome then nb1.setRxfc counter else nb1
    let last := (s.reg Reg.RAD_LAST).toNat
    let e : RxEntry := { psdu := bs, rssi := bitsOf last 0 8, lqi := bitsOf last 8 8, clip := bitOf last 16,
                         stamp := stamp % 2 ^ 32, asn := w.asn, nbr := n.getD 127, ver := m.ver, chan := w.chan,
                         secok := secok, nonbr := n.isNone }
    time (ack ({ s1 with lnk := { s1.lnk with rx := s1.lnk.rx ++ [e] } }.fire 125))

/-- The checks of Table RAD-7 on a PSDU with its FCS. -/
def State.rxCheck (s : State) (psdu : List Byte) (stamp : Nat) (corr : Int) (w : RxSlot) : State :=
  let bs := psdu.take (psdu.length - 2)
  let m := mhrOf bs
  if psdu.length < 3 ∨ 127 < psdu.length ∨ withFcs bs ≠ psdu then s.lnkCount Reg.LNK_CNT1 0
  else if !m.supported then s.lnkCount Reg.LNK_CNT1 1
  else if !s.forMe m then s.lnkCount Reg.LNK_CNT1 1
  else
    let n := s.nbrOf m.srcMode m.src
    match s.rxVerify m n w.asn bs with
    | none => s.lnkCount Reg.LNK_CNT0 1
    | some out => (if m.level = 0 then s else s.countJob.lendWait).rxDeliver m n bs out stamp corr w

/-- RX_FRAME: a frame reaches the receiver. -/
def State.rxFrame (s : State) (psdu : List Byte) (power : Int) (chips stamp : Nat) (corr : Int) : State :=
  if !s.domOn 3 || !s.rfOn || s.lnk.onAir.isSome then s
  else
    let s1 := s.setReg Reg.RAD_LAST (BitVec.ofNat 24 (lastWord power chips))
    match s.lnk.rxLink with
    | some l =>
      ({ s1 with lnk := { s1.lnk with rxLink := none } }.rxCheck psdu stamp corr l).slotEnd
    | none => if s.csmaMode then (s1.rxCheck psdu stamp corr { chan := s.fld F.RAD_CHAN_CHAN, asn := s.asn }).slotEnd else s

/-! ### Buffer commands (R594, R599, R602, R611) -/

/-- READY of a buffer: EMPTY to READY, or DONE with BADARG. -/
def State.txReady (s : State) (b : Nat) : State :=
  let t := s.tx b
  if t.st ≠ 0 then s
  else if t.bad then s.txEnd b 7
  else
    let s1 := s.setTx b { t with st := 1, status := 0, tries := 0, len := 0, order := s.lnk.readies }
    { s1 with lnk := { s1.lnk with readies := s.lnk.readies + 1 } }

/-- CANCEL of a buffer: an attempt in progress completes first; between attempts the last one's status stands (R611). -/
def State.txCancel (s : State) (b : Nat) : State :=
  if (s.tx b).st = 1 then s.txEnd b 8
  else if (s.tx b).st = 2 then
    if s.txWaits b && !(s.tx b).csma then s.txEnd b 2 else s.setTx b { s.tx b with cancel := true }
  else s

/-- LOAD of a buffer (R599); a transfer that leaves the row or the buffer changes nothing (log entry 31). -/
def State.txLoad (s : State) (b : Nat) : State :=
  let t := s.tx b
  if t.st ≠ 0 ∨ 384 < t.off + t.aplen ∨ 127 < t.tlen + t.aplen then s
  else
    let s1 := s.unitDark t.cluster t.row false
    if s.unitTag t.cluster t.row then (s1.setTx b { t with mem := [] }).refuseRadio
    else s1.setTx b { t with mem := tabSetList (fun _ => 0) t.mem t.tlen (((s.unitRow t.cluster t.row).drop t.off).take t.aplen),
                             d0 := BitVec.ofNat 24 (putBits t.d0.toNat 0 7 (t.tlen + t.aplen)) }

/-- FREE of a buffer. -/
def State.txFree (s : State) (b : Nat) : State :=
  if (s.tx b).st = 3 then s.setTx b { s.tx b with st := 0, status := 0, tries := 0, len := 0, plain := [], psdu := [] } else s

/-- An energy-detect measurement starts (R602). -/
def State.startEd (s : State) : State := { s with lnk := { s.lnk with ed := true } }

/-! ### Engine commands (R583, R584) -/

/-- START_TSCH (R584): from STOPPED, CSMA and DESYNC. -/
def State.startTsch (s : State) : State :=
  if s.lnkState = 0 ∨ s.csmaMode = true then
    let now := s.lnkTime
    let back := (now + 2 ^ 24 - s.fld F.LNK_SYNCREF_REF) % 2 ^ 24 + (s.tsTxOffset + 160) * 32
    let k := if s.slotCycles = 0 then 0 else back / s.slotCycles
    let s1 := ((s.setFld F.LNK_STATUS_STATE 2).setFld F.LNK_SINCE_SLOTS 0).setAsn ((s.asn + k) % 2 ^ 40)
    { s1 with lnk := { s1.lnk with phase := (now + 2 ^ 32 + (k + 1) * s.slotCycles - back) % 2 ^ 32, corr := 0, resync := 0, guard := 0, latched := none } }
  else s

/-- STOP: INFLIGHT buffers return to READY; a CSMA access ends with status DESYNC (Table RAD-3, Table RAD-6). -/
def State.lnkStop (s : State) : State :=
  let s1 := (List.range 16).foldl (fun s b =>
    let t := s.tx b
    if t.st = 2 then if t.csma then s.txEnd b 10 else s.setTx b { t with st := 1, cancel := false, backoff := 0 } else s) s
  let s2 := (s1.setFld F.LNK_STATUS_STATE 0).setFld F.LNK_STATUS_HELD 0
  { s2 with lnk := { s2.lnk with onAir := none, rxLink := none, resync := 0, guard := 0, corr := 0, latched := none } }.slotEnd

/-- A write of LNK_CMD (Table RAD-12). -/
def State.lnkCmd (s : State) (v : Nat) : State :=
  match bitsOf v 0 3 with
  | 1 => s.startTsch
  | 2 => if s.lnkState = 0 then s.setFld F.LNK_STATUS_STATE 1 else s
  | 3 => s.lnkStop
  | _ => s

/-- A write of LNK_FC0 or LNK_FC1: taken when the value it forms exceeds the current one (R600). -/
def State.writeFc (s : State) (hi : Bool) (v : Nat) : State :=
  let n := if hi then s.lnkFc % 2 ^ 24 + v % 2 ^ 8 * 2 ^ 24 else s.lnkFc / 2 ^ 24 * 2 ^ 24 + v % 2 ^ 24
  if s.lnkFc < n then s.setLnkFc n else s

/-- A write of RAD_CHAN (R578). -/
def State.writeChan (s : State) (v : Nat) : State :=
  if 11 ≤ v % 32 ∧ v % 32 ≤ 26 then s.setFld F.RAD_CHAN_CHAN (v % 32) else s.setFld F.RAD_ERR_BADCHAN 1

/-- A write of RAD_TXPWR (R578). -/
def State.writeTxpwr (s : State) (v : Nat) : State :=
  let p := signed 6 v
  let q := max (-20) (min 10 p)
  let s1 := s.setFld F.RAD_TXPWR_PWR (unsigned 6 q)
  if p = q then s1 else s1.setFld F.RAD_ERR_PWRCLAMP 1

/-- The buffer that LNK_TXSEL selects. -/
def State.txSel (s : State) : Nat := s.fld F.LNK_TXSEL_BUF

/-! ### Commands -/

/-- START_TSCH (R584). -/
def execStartTsch (ini : Initiator) (s : State) : Host.Outcome State Fault Refusal :=
  ok (s.cmdWrite ini Reg.LNK_CMD fun s => s.lnkCmd 1)

/-- START_CSMA (R583). -/
def execStartCsma (ini : Initiator) (s : State) : Host.Outcome State Fault Refusal :=
  ok (s.cmdWrite ini Reg.LNK_CMD fun s => s.lnkCmd 2)

/-- LNK_STOP (R583). -/
def execLnkStop (ini : Initiator) (s : State) : Host.Outcome State Fault Refusal :=
  ok (s.cmdWrite ini Reg.LNK_CMD fun s => s.lnkCmd 3)

/-- SLOT_WAKE (R593). -/
def execSlotWake (s : State) : Host.Outcome State Fault Refusal := ok s.slotWake

/-- CSMA_ACCESS (R601), with what the CCA finds. -/
def execCsmaAccess (cca : Cca) (s : State) : Host.Outcome State Fault Refusal := ok (s.csmaAccess cca)

/-- TX_DONE (R594). -/
def execTxDone (r : TxResult) (s : State) : Host.Outcome State Fault Refusal := ok (s.txDone r)

/-- LNK_DESYNC (R587). -/
def execLnkDesync (s : State) : Host.Outcome State Fault Refusal := ok (if s.desyncDue then s.enterDesync else s)

/-- ED_DONE (R602). -/
def execEdDone (power : Int) (s : State) : Host.Outcome State Fault Refusal :=
  ok (if s.lnk.ed then
    ({ s with lnk := { s.lnk with ed := false } }.setFld F.RAD_ED_ED (unsigned 8 (max (-128) (min 127 power)))).setFld F.RAD_ED_VALID 1
  else s)

/-- TX_READY (R594). -/
def execTxReady (ini : Initiator) (s : State) : Host.Outcome State Fault Refusal :=
  ok (s.cmdWrite ini Reg.LNK_TXCMD fun s => s.txReady s.txSel)

/-- TX_CANCEL (R611). -/
def execTxCancel (ini : Initiator) (s : State) : Host.Outcome State Fault Refusal :=
  ok (s.cmdWrite ini Reg.LNK_TXCMD fun s => s.txCancel s.txSel)

/-- TX_LOAD (R599). -/
def execTxLoad (ini : Initiator) (s : State) : Host.Outcome State Fault Refusal :=
  ok (s.cmdWrite ini Reg.LNK_TXCMD fun s => s.txLoad s.txSel)

/-- TX_FREE (R594). -/
def execTxFree (ini : Initiator) (s : State) : Host.Outcome State Fault Refusal :=
  ok (s.cmdWrite ini Reg.LNK_TXCMD fun s => s.txFree s.txSel)

/-- The oldest received frame removed (R607). -/
def State.rxPop (s : State) : State := { s with lnk := { s.lnk with rx := s.lnk.rx.drop 1 } }.autoRet

/-- LNK_RXPOP (R607). -/
def execLnkRxpop (ini : Initiator) (s : State) : Host.Outcome State Fault Refusal :=
  ok (s.cmdWrite ini Reg.LNK_RXPOP fun s => s.rxPop)

/-- LNK_FC_WRITE (R600): a write of LNK_FC0, or of LNK_FC1 with `hi`. -/
def execLnkFcWrite (ini : Initiator) (hi : Bool) (v : Word) (s : State) : Host.Outcome State Fault Refusal :=
  ok (s.cmdWrite ini (if hi then Reg.LNK_FC1 else Reg.LNK_FC0) fun s => s.writeFc hi v.toNat)

/-- RAD_CHAN_WRITE (R578). -/
def execRadChanWrite (ini : Initiator) (v : Word) (s : State) : Host.Outcome State Fault Refusal :=
  ok (s.cmdWrite ini Reg.RAD_CHAN fun s => s.writeChan v.toNat)

/-- RAD_TXPWR_WRITE (R578). -/
def execRadTxpwrWrite (ini : Initiator) (v : Word) (s : State) : Host.Outcome State Fault Refusal :=
  ok (s.cmdWrite ini Reg.RAD_TXPWR fun s => s.writeTxpwr v.toNat)

/-- TS_RX_WAIT_END (R593). -/
def execTsRxWaitEnd (s : State) : Host.Outcome State Fault Refusal :=
  ok (match s.lnk.rxLink with
    | some _ => { s with lnk := { s.lnk with rxLink := none } }.slotEnd
    | none => s)

end Sys2Proof.Machine
end

