-- ==== Sys2Proof/Machine/Wired.lean ====
section
/-! DEFINITION. The wired link: bring-up, the MAC, the Wired Relay Header, assembly, reception and duplicate removal
(19_wired_link.md). -/

namespace Sys2Proof.Machine

open Sys2Proof

/-! ### Parts -/

/-- A transmit buffer of the wired MAC. -/
def State.wbuf (s : State) (b : Nat) : WirBuf := tabGet (fun _ => {}) s.wir.bufs b

/-- A transmit buffer set. -/
def State.setWbuf (s : State) (b : Nat) (v : WirBuf) : State :=
  { s with wir := { s.wir with bufs := tabSet (fun _ => {}) s.wir.bufs b v } }

/-- TLEN. -/
def WirBuf.tlen (b : WirBuf) : Nat := bitsOf b.d0.toNat 0 11
/-- SRC. -/
def WirBuf.src (b : WirBuf) : Nat := bitsOf b.d0.toNat 11 2
/-- CLUSTER. -/
def WirBuf.cluster (b : WirBuf) : Nat := bitsOf b.d0.toNat 13 2
/-- COMPACT. -/
def WirBuf.compact (b : WirBuf) : Bool := bitOf b.d0.toNat 15
/-- SEC. -/
def WirBuf.secure (b : WirBuf) : Bool := bitOf b.d0.toNat 16
/-- WRHAUTO. -/
def WirBuf.auto (b : WirBuf) : Bool := bitOf b.d0.toNat 17
/-- WRHPOS. -/
def WirBuf.pos (b : WirBuf) : Nat := bitsOf b.d0.toNat 18 6
/-- ROW. -/
def WirBuf.row (b : WirBuf) : Nat := bitsOf b.d1.toNat 0 12
/-- OFF. -/
def WirBuf.off (b : WirBuf) : Nat := bitsOf b.d1.toNat 12 9
/-- APLEN. -/
def WirBuf.aplen (b : WirBuf) : Nat := bitsOf b.d2.toNat 0 11
/-- Bytes of the buffer. -/
def WirBuf.bytes (b : WirBuf) (n : Nat) : List Byte := tabGetList (fun _ => 0) b.mem 0 n

/-- WIR_SEQ. -/
def State.wirSeq (s : State) : Nat := s.fld F.WIR_SEQ0_SEQ + 2 ^ 24 * s.fld F.WIR_SEQ1_SEQ

/-- WIR_SEQ set. -/
def State.setWirSeq (s : State) (n : Nat) : State :=
  (s.setFld F.WIR_SEQ0_SEQ (n % 2 ^ 24)).setFld F.WIR_SEQ1_SEQ (n / 2 ^ 24 % 2 ^ 8)

/-- WIR_LINKST.STATE (Table WIR-4). -/
def State.linkState (s : State) : Nat := s.fld F.WIR_LINKST_STATE

/-- The link is UP. -/
def State.wirUp (s : State) : Bool := s.flag F.WIR_LINKST_UP

/-- The buffer on the line. -/
def State.wirLine (s : State) : Option Nat := (List.range 4).find? fun b => (s.wbuf b).st == 2

/-! ### Completions -/

/-- A buffer ends with a status of Table WIR-8 (R667, R676): TXOK or TXFAIL, and EVP_WIR_RX when TXDONEEV is 1. -/
def State.wtxEnd (s : State) (b status : Nat) : State :=
  let s1 := (s.setWbuf b { s.wbuf b with st := 3, status := status, waiting := false }).incFld
    ⟨Reg.WIR_CNT2, if status = 1 then 8 else 16, 8⟩ 1
  if s1.flag F.WIR_CFG_TXDONEEV then s1.fire 126 else s1

/-! ### The link (R657-R660) -/

/-- Entry to AN or TRAIN, with the configuration it takes; a forced link has its role and amplitude at once (R658,
R659, R677). -/
def State.linkBegin (s : State) : State :=
  let cfg := s.reg Reg.WIR_LINKCFG
  let s1 := { s with wir := { s.wir with cfg := cfg } }
  let c := cfg.toNat
  if bitOf c 0 then s1.setFld F.WIR_LINKST_STATE 1
  else ((s1.setFld F.WIR_LINKST_STATE 2).setFld F.WIR_LINKST_LEADER (1 - bitsOf c 1 1)).setFld F.WIR_LINKST_HIAMP (bitsOf c 5 1)

/-- UP falls: DOWNEV, EVP_WIR_LINK, an INFLIGHT buffer ends LINKDOWN (R659, R678), and the event of Table FLT-3 while
WIR_CTRL.EN is 1. -/
def State.linkDown (s : State) : State :=
  if s.wirUp then
    let sqi := s.fld F.WIR_LINKST_SQI
    let s1 := ((((s.setFld F.WIR_LINKST_UP 0).setFld F.WIR_LINKST_DOWNEV 1).setFld F.WIR_LINKST_SQI 0)).fire 127
    let s2 := match s1.wirLine with | some b => s1.wtxEnd b 7 | none => s1
    if s2.flag F.WIR_CTRL_EN then s2.fault 0x0E 41 sqi true else s2
  else s

/-- A write of WIR_CTRL.EN. -/
def State.wirEnable (s : State) (on : Bool) : State :=
  if on then
    if s.linkState = 0 ∧ s.flag F.WIR_CTRL_EN = false then (s.setFld F.WIR_CTRL_EN 1).linkBegin else s
  else ((s.setFld F.WIR_CTRL_EN 0).linkDown).setFld F.WIR_LINKST_STATE 0

/-- A write of WIR_CTRL.RESTART. -/
def State.wirRestart (s : State) : State := if s.linkState = 0 then s else s.linkDown.linkBegin

/-- A write of WIR_CTRL. -/
def State.writeWirCtrl (s : State) (v : Nat) : State :=
  let s1 := s.wirEnable (bitOf v 0)
  if bitOf v 1 then s1.wirRestart else s1

/-- The role under auto-negotiation (Table WIR-3): none for ANFAIL; `seed` 0 decides for the local end as leader, 1 as
follower. Roles: 0 FORCE_LEADER, 1 FORCE_FOLLOWER, 2 PREFER_LEADER, 3 PREFER_FOLLOWER. -/
def anRole (loc rem seed : Nat) : Option Bool :=
  if loc = 0 then (if rem = 0 then none else some true)
  else if loc = 1 then (if rem = 1 then none else some false)
  else if rem = 0 then some false
  else if rem = 1 then some true
  else if loc ≠ rem then some (loc == 2)
  else some (seed == 0)

/-- AN_RESOLVED: the partner's role setting, high-amplitude ability and request, whether a technology is common, and
the seed comparison (0 local leader, 1 local follower, 2 equal). -/
def State.anResolved (s : State) (role : Nat) (hiable hireq common : Bool) (seed : Nat) : State :=
  if s.linkState = 1 then
    let c := s.wir.cfg.toNat
    let loc := bitsOf c 1 2
    if decide (2 ≤ loc) && loc == role && seed == 2 then s
    else match (if common then anRole loc role seed else none) with
      | none => s.setFld F.WIR_LINKST_ANFAIL 1
      | some lead =>
        let hi := bitOf c 3 && hiable && (bitOf c 4 || hireq)
        ((s.setFld F.WIR_LINKST_STATE 2).setFld F.WIR_LINKST_LEADER (b2n lead)).setFld F.WIR_LINKST_HIAMP (b2n hi)
  else s

/-- Training has converged. -/
def State.trained (s : State) : State :=
  if s.linkState = 2 then ((s.setFld F.WIR_LINKST_STATE 3).setFld F.WIR_LINKST_UP 1).fire 127 else s

/-- SQI of a signal-to-noise ratio in tenths of a decibel, rounded down (Table WIR-6). -/
def sqiOf (snr : Int) : Nat := if snr < 180 then 0 else min 7 (((snr - 180) / 15).toNat + 1)

/-! ### AES-128-GCM on one frame (R664, R665) -/

/-- One whole GCM operation: payload after it, and the 8-byte tag. -/
def gcmFrame (key iv adata data : List Byte) (dec : Bool) : List Byte × List Byte :=
  let h := aesEnc key 0
  let j0 := beOf (iv.take 12) * 2 ^ 32 + 1
  let out := xorBytes data (keyStream key 32 (ctrAdd 32 1 j0) data.length)
  let y := ghash h 0 (blocksOf adata ++ blocksOf (if dec then data else out) ++ [gcmLen adata.length data.length])
  (out, (beBytes 16 (y ^^^ aesEnc key j0)).take 8)

/-- The 16 WRH bytes with HOPS taken as zero. -/
def wrhAdata (w : List Byte) : List Byte := w.take 15 ++ toBytes 1 (frameByte w 15 % 16)

/-- PLEN of a WRH. -/
def wrhPlen (w : List Byte) : Nat := frameByte w 14 + 256 * (frameByte w 15 % 8)

/-- The key of the wired MAC, when owner 7 may use it. -/
def State.wirKey (s : State) : Option (List Byte) :=
  let k := s.fld F.WIR_SECCFG_KSLOT
  if s.keyOk 7 k then some (s.cipKey k).key else none

/-- The jobs of one wired frame counted: one of a-data, and one for each 960 bytes of payload (R665). -/
def State.countWired (s : State) (plen : Nat) : State :=
  (List.range (1 + (plen + 959) / 960)).foldl (fun s _ => s.countJob) s

/-- Padding and FCS (R662). -/
def macFrame (bs : List Byte) : List Byte :=
  let p := bs ++ List.replicate (60 - bs.length) 0
  p ++ toBytes 4 (crc32 p)

/-! ### Assembly (R667-R672) -/

/-- A frame's template begins with an Ethernet header that holds a VLAN tag. -/
def vlan (bs : List Byte) : Bool := frameByte bs 12 == 0x81 && frameByte bs 13 == 0x00

/-- The checks of R669. -/
def WirBuf.bad (b : WirBuf) : Bool :=
  decide (b.tlen < 14) || b.src == 3 || (b.src == 1 && decide (383 < b.off)) ||
    ((b.auto || b.secure) && decide (b.tlen < b.pos + 16))

/-- A refusal of a sealed row at the wired link (R46, R670). -/
def State.refuseWired (s : State) : State := s.refuseEgress F.SEAL_EGRCNT_WIRED

/-- The greatest length of a frame before its FCS. -/
def wirLimit (bs : List Byte) : Nat := if vlan bs then 1518 else 1514

/-- The tag that security adds. -/
def WirBuf.tail (b : WirBuf) : Nat := if b.secure then 8 else 0

/-- The source of a frame: bytes appended, or the status that ends the buffer, or none where a ring holds no row. -/
def State.wirSource (s : State) (b : WirBuf) : State × Option (List Byte ⊕ Nat) :=
  match b.src with
  | 0 => (s, some (.inl []))
  | 1 =>
    let rows := (List.range ((b.off + b.aplen + 383) / 384)).map (b.row + ·)
    let s1 := rows.foldl (fun s r => s.unitDark b.cluster r false) s
    if rows.any (s.unitTag b.cluster) then (s1.refuseWired, some (.inr 2))
    else (s1, some (.inl (((rows.flatMap (s.unitRow b.cluster)).drop b.off).take b.aplen)))
  | _ =>
    let room := wirLimit (b.bytes b.tlen) - b.tlen - b.tail
    let r := State.ringTake b.cluster (min b.aplen room) b.compact (s.ringHeld b.cluster) none {} s
    let s1 := if r.2.rows = 0 then r.1 else r.1.takeRing b.cluster r.2.rows
    if r.2.isSealed then (s1.refuseWired, some (.inr 2))
    else if r.2.rows = 0 then (s1, none)
    else (s1, some (.inl r.2.bytes))

/-- A frame whose bytes are complete goes on the line. -/
def State.wirSend (s : State) (b : Nat) (bs : List Byte) : State :=
  let f := macFrame bs
  { s.setWbuf b { s.wbuf b with st := 2, waiting := false, frame := f, len := f.length } with line := s.line ++ [f] }

/-- ORIGIN, SEQ and PLEN written into a WRH (R667). -/
def State.wrhFill (s : State) (pos : Nat) (bs : List Byte) : List Byte :=
  let plen := bs.length - (pos + 16)
  putAt (putAt bs (pos + 2) (toBytes 8 s.uid ++ toBytes 4 s.wirSeq)) (pos + 14)
    [BitVec.ofNat 8 plen, BitVec.ofNat 8 (frameByte bs (pos + 15) / 8 * 8 + plen / 256 % 8)]

/-- Numbering and security of an assembled frame: a secured one waits for the lock as owner 7 (R664, R665). -/
def State.wirFinish (s : State) (b : Nat) (bs : List Byte) : State :=
  let t := s.wbuf b
  if t.auto && s.wirSeq == 2 ^ 32 - 1 then s.wtxEnd b 8
  else
    let bs1 := if t.auto then s.wrhFill t.pos bs else bs
    let s1 := if t.auto then s.setWirSeq (s.wirSeq + 1) else s
    if !t.secure then s1.wirSend b bs1
    else if !s1.domOn 7 then s1.wtxEnd b 3
    else (s1.setWbuf b { t with st := 2, plain := bs1, waiting := true }).lockRequest 7

/-- Assembly of a READY buffer; a buffer sent again keeps its bytes (R667, R678). -/
def State.wirAssemble (s : State) (b : Nat) : State :=
  let t := s.wbuf b
  if !t.frame.isEmpty then { s.setWbuf b { t with st := 2 } with line := s.line ++ [t.frame] }
  else if !t.plain.isEmpty then
    if s.domOn 7 then (s.setWbuf b { t with st := 2, waiting := true }).lockRequest 7 else s.wtxEnd b 3
  else
    let r := s.wirSource t
    match r.2 with
    | none => r.1
    | some (.inr code) => r.1.wtxEnd b code
    | some (.inl add) =>
      let bs := t.bytes t.tlen ++ add
      if wirLimit bs < bs.length + t.tail then r.1.wtxEnd b 4 else r.1.wirFinish b bs

/-- The READY buffers, oldest first. -/
def State.wirReady (s : State) : Option Nat :=
  ((List.range 4).filter fun b => (s.wbuf b).st == 1).foldl
    (fun o b => match o with
      | none => some b
      | some a => if (s.wbuf b).order < (s.wbuf a).order then some b else some a) none

/-- The MAC is free to send: the link is UP and no buffer is INFLIGHT. -/
def State.wirStart (s : State) : State :=
  if s.wirUp && s.wirLine.isNone && s.domOn 4 then
    match s.wirReady with
    | some b => s.wirAssemble b
    | none => s
  else s

/-! ### Reception (R662, R674-R676) -/

/-- A destination the MAC accepts (R662). -/
def State.wirForMe (s : State) (bs : List Byte) : Bool :=
  let d := frameWord bs 0 6
  s.flag F.WIR_RXCFG_PROMISC || d == s.fld F.WIR_MAC0_ADDR + 2 ^ 24 * s.fld F.WIR_MAC1_ADDR ||
    (d == 2 ^ 48 - 1 && s.flag F.WIR_RXCFG_BCAST) ||
    (bitOf d 0 && (List.range 8).any fun k =>
      s.fbit F.WIR_RXCFG_MCEN k && d == s.fld (F.WIR_MC0_ADDR k) + 2 ^ 24 * s.fld (F.WIR_MC1_ADDR k))

/-- An entry enters the RX ring (R676). -/
def State.wirEnter (s : State) (e : WirEntry) : State := { s with wir := { s.wir with rx := s.wir.rx ++ [e] } }.fire 126

/-- One of the three 8-bit counters of a WIR_CNT register raised. -/
def State.wirCount (s : State) (r i : Nat) : State := s.incFld ⟨r, 8 * i, 8⟩ 1

/-- What R675 finds for a DATA frame. -/
inductive Judged where
  | fresh
  | duplicate
  | stale
  deriving DecidableEq, Repr

/-- The table of neighbour hubs judges a SEQ of an ORIGIN (R675). -/
def judge (hubs : List WirHub) (origin seq : Nat) : List WirHub × Judged :=
  match hubs.find? (·.origin == origin) with
  | none => ({ origin := origin, hi := seq, mask := 1 } :: hubs.take 15, .fresh)
  | some h =>
    let rest := hubs.filter (·.origin != origin)
    let d := (seq + 2 ^ 32 - h.hi) % 2 ^ 32
    let back := (h.hi + 2 ^ 32 - seq) % 2 ^ 32
    if 1 ≤ d ∧ d < 2 ^ 31 then
      ({ h with hi := seq, mask := (if d < 8 then h.mask * 2 ^ d % 256 else 0) + 1 } :: rest, .fresh)
    else if back ≤ 7 then
      if bitOf h.mask back then (h :: rest, .duplicate) else ({ h with mask := h.mask + 2 ^ back } :: rest, .fresh)
    else (h :: rest, .stale)

/-- Step 7 and delivery of a frame with a WRH at `pos` and an open payload. -/
def State.wirDeliver (s : State) (p : WirPend) (payload : List Byte) (secok : Bool) : State :=
  let w := p.bytes.drop p.pos
  let e : WirEntry := { bytes := p.bytes.take (p.pos + 16) ++ payload, dup := false, secok := secok, wrh := true,
                        amp := p.amp, sqi := p.sqi }
  if frameByte w 0 / 16 ≠ 1 then s.wirEnter e
  else
    let j := judge s.wir.hubs (frameWord w 2 8) (frameWord w 10 4)
    let s1 := { s with wir := { s.wir with hubs := j.1 } }
    match j.2 with
    | .fresh => s1.wirEnter e
    | .duplicate => (s1.wirCount Reg.WIR_CNT1 2).wirEnter { e with bytes := p.bytes.take (p.pos + 16), dup := true }
    | .stale => s1.wirCount Reg.WIR_CNT2 0

/-- A received WRH is well formed within its frame (step 5 of Table WIR-9). -/
def wrhGood (w : List Byte) : Bool :=
  frameByte w 0 % 16 == 1 && (frameByte w 0 / 16 == 1 || frameByte w 0 / 16 == 2 || frameByte w 0 / 16 == 3) &&
    decide (frameByte w 1 < 4) && !bitOf (frameByte w 15) 3 && decide (wrhPlen w ≤ 1476) &&
    decide (16 + wrhPlen w + (if bitOf (frameByte w 1) 0 then 8 else 0) ≤ w.length)

/-- The frame must be verified: it carries a WRH with SEC 1. -/
def WirPend.secured (p : WirPend) : Bool := p.wrh && bitOf (frameByte p.bytes (p.pos + 1)) 0

/-- A frame that needs no verification, at its turn: steps 6 and 7 of Table WIR-9. -/
def State.wirTurn (s : State) (p : WirPend) : State :=
  let w := p.bytes.drop p.pos
  if !p.wrh then s.wirEnter { bytes := p.bytes, dup := false, secok := false, wrh := false, amp := p.amp, sqi := p.sqi }
  else if frameByte w 0 / 16 = 1 ∧ s.flag F.WIR_RXCFG_RXSECREQ = true then s.wirCount Reg.WIR_CNT1 1
  else s.wirDeliver p ((w.drop 16).take (wrhPlen w)) false

/-- Frames that wait, up to the first that must be verified itself, enter in the order in which they ended (R676). -/
def State.wirDrain (s : State) : List WirPend → State
  | [] => { s with wir := { s.wir with checks := [] } }
  | p :: l => if p.secured then { s with wir := { s.wir with checks := p :: l } } else (s.wirTurn p).wirDrain l

/-- A frame that passed steps 1 to 5: a secured one waits for the lock as owner 7, any other only for the frames before
it (R665, R676). -/
def State.wirAdmit (s : State) (p : WirPend) : State :=
  if p.secured then
    if s.domOn 7 then { s with wir := { s.wir with checks := s.wir.checks ++ [p] } }.lockRequest 7
    else s.wirCount Reg.WIR_CNT1 1
  else if s.wir.checks.isEmpty then s.wirTurn p
  else { s with wir := { s.wir with checks := s.wir.checks ++ [p] } }

/-- A frame whose length is within R662. -/
def wirLenOk (f : List Byte) : Bool :=
  decide (64 ≤ f.length) && decide (f.length ≤ if vlan f then 1522 else 1518)

/-- WIR_RX_FRAME: the checks of Table WIR-9 on a frame with its FCS; `amp` the received amplitude in mV p-p (R661). -/
def State.wirRx (s : State) (f : List Byte) (amp : Nat) : State :=
  if !s.wirUp then s
  else
    let a := min 1023 (amp / 4)
    let s := (s.setFld F.WIR_LINKST_AMP a).setFld F.WIR_LINKST_AMPVALID 1
    let sqi := s.fld F.WIR_LINKST_SQI
    let bs := f.take (f.length - 4)
    let tp := if vlan bs then 16 else 12
    let et := frameByte bs tp * 256 + frameByte bs (tp + 1)
    if bs ++ toBytes 4 (crc32 bs) ≠ f then s.wirCount Reg.WIR_CNT0 0
    else if !wirLenOk f then s.wirCount Reg.WIR_CNT0 1
    else if !s.wirForMe bs || et == 0x8808 then s.wirCount Reg.WIR_CNT0 2
    else if 4 ≤ s.wir.rx.length + s.wir.checks.length then s.wirCount Reg.WIR_CNT1 0
    else if et = 0x88B5 then
      if wrhGood (bs.drop (tp + 2)) then s.wirAdmit { bytes := bs, pos := tp + 2, amp := a, sqi := sqi }
      else s.wirCount Reg.WIR_CNT0 2
    else if s.flag F.WIR_RXCFG_PLAIN then s.wirAdmit { bytes := bs, pos := 0, amp := a, sqi := sqi, wrh := false }
    else s.wirCount Reg.WIR_CNT0 2

/-! ### The lock as owner 7 (R561, R665) -/

/-- A waiting received frame verified. -/
def State.wirVerify (s : State) (p : WirPend) : State :=
  let w := p.bytes.drop p.pos
  let n := wrhPlen w
  match s.wirKey with
  | none => s.wirCount Reg.WIR_CNT1 1
  | some k =>
    let r := gcmFrame k ((w.drop 2).take 12) (wrhAdata (w.take 16)) ((w.drop 16).take n) true
    let s1 := s.countWired n
    if r.2 = (w.drop (16 + n)).take 8 then s1.wirDeliver p r.1 true else s1.wirCount Reg.WIR_CNT1 1

/-- A waiting frame to send secured. -/
def State.wirSecure (s : State) (b : Nat) : State :=
  let t := s.wbuf b
  let w := t.plain.drop t.pos
  let n := wrhPlen w
  match s.wirKey with
  | none => s.wtxEnd b 3
  | some k =>
    let r := gcmFrame k ((w.drop 2).take 12) (wrhAdata (w.take 16)) ((w.drop 16).take n) false
    (s.countWired n).wirSend b (t.plain.take (t.pos + 16) ++ r.1 ++ r.2 ++ w.drop (16 + n))

/-- The buffer that waits for the AES engine. -/
def State.wirWaiting (s : State) : Option Nat := (List.range 4).find? fun b => (s.wbuf b).st == 2 && (s.wbuf b).waiting

/-- The frame that waits longest: received frames in their order, then the frame to send. -/
def State.wirServe (s : State) : State :=
  match s.wir.checks with
  | p :: rest => (s.wirVerify p).wirDrain rest
  | [] => match s.wirWaiting with
    | some b => s.wirSecure b
    | none => s

/-- The last job of owner 7's frame ends: the lock is released, and asked for again while a frame waits (R561). -/
def State.wirJobsEnd (s : State) : State :=
  let s1 := s.wirServe.releaseLock
  if s1.wir.checks.isEmpty && s1.wirWaiting.isNone then s1 else s1.lockRequest 7

/-- SEC leaves ON: frames that wait for the AES engine end NOKEY or MICFAIL (R665). -/
def State.wirSecLost (s : State) : State :=
  let s1 := s.wir.checks.foldl (fun s p => if p.secured then s.wirCount Reg.WIR_CNT1 1 else s.wirTurn p)
    { s with wir := { s.wir with checks := [] } }
  match s1.wirWaiting with
  | some b => s1.wtxEnd b 3
  | none => s1

/-- WIR is idle (R656). -/
def State.wirIdle (s : State) : Bool := s.wirLine.isNone && s.wir.checks.isEmpty

/-! ### Buffer commands -/

/-- READY of a buffer (R669). -/
def State.wirTxReady (s : State) (b : Nat) : State :=
  let t := s.wbuf b
  if t.st ≠ 0 then s
  else if t.bad then s.wtxEnd b 5
  else
    let s1 := s.setWbuf b { t with st := 1, status := 0, order := s.wir.readies, frame := [], plain := [], len := 0 }
    { s1 with wir := { s1.wir with readies := s.wir.readies + 1 } }

/-- RESEND of a buffer (R678). -/
def State.wirResend (s : State) (b : Nat) : State :=
  let t := s.wbuf b
  if t.st = 3 ∧ (t.status = 1 ∨ t.status = 7) then
    let s1 := s.setWbuf b { t with st := 1, status := 0, order := s.wir.readies }
    { s1 with wir := { s1.wir with readies := s.wir.readies + 1 } }
  else s

/-- The buffer that WIR_TXSEL selects. -/
def State.wirSel (s : State) : Nat := s.fld F.WIR_TXSEL_BUF

/-- A write of WIR_SEQ0 or WIR_SEQ1 (R672). -/
def State.writeWirSeq (s : State) (hi : Bool) (v : Nat) : State :=
  let n := if hi then s.wirSeq % 2 ^ 24 + v % 2 ^ 8 * 2 ^ 24 else s.wirSeq / 2 ^ 24 * 2 ^ 24 + v % 2 ^ 24
  if s.wirSeq < n then s.setWirSeq n else s

/-- Firmware fills an EMPTY buffer with a whole frame and readies it. -/
def State.wirPut (s : State) (b : Nat) (bs : List Byte) (pos : Nat) (secure : Bool) : State :=
  if (s.wbuf b).st = 0 then
    (s.setWbuf b { s.wbuf b with mem := tabSetList (fun _ => 0) [] 0 bs,
                                 d0 := BitVec.ofNat 24 (bs.length + (if secure then 2 ^ 16 else 0) + pos * 2 ^ 18),
                                 d1 := 0, d2 := 0 }).wirTxReady b
  else s

/-- WRH_RELAY: relay firmware handles the oldest RX entry (R666): a DATA frame that is no duplicate and has hops left
goes into buffer `fwd` for the next hop; one that asks for it is answered from buffer `ackBuf`. -/
def State.wrhRelay (s : State) (fwd ackBuf next : Nat) : State :=
  match s.wir.rx with
  | [] => s
  | e :: _ =>
    let pos := if vlan e.bytes then 18 else 14
    let w := e.bytes.drop pos
    let hops := frameByte w 15 / 16
    let own := toBytes 6 (s.fld F.WIR_MAC0_ADDR + 2 ^ 24 * s.fld F.WIR_MAC1_ADDR)
    let sec := bitOf (frameByte w 1) 0
    if !s.domOn 4 || !e.wrh || frameByte w 0 / 16 ≠ 1 then s
    else
      let s1 := if e.dup || hops == 0 then s
        else s.wirPut fwd (toBytes 6 next ++ own ++ (e.bytes.take (pos + 15)).drop 12 ++
          toBytes 1 (frameByte w 15 % 16 + (hops - 1) * 16) ++ w.drop 16) pos sec
      if bitOf (frameByte w 1) 1 then
        s1.wirPut ackBuf ((e.bytes.take 12).drop 6 ++ own ++ (e.bytes.take pos).drop 12 ++ [0x21, BitVec.ofNat 8 (b2n sec)] ++
          (w.take 14).drop 2 ++ [0, 0]) pos sec
      else s1

/-! ### Commands -/

/-- CIP_OP_COMPLETE (R547, R561): the command in progress ends, or owner 7's jobs end. -/
def execCipOpComplete (s : State) : Host.Outcome State Fault Refusal :=
  ok (if s.cipHolder = 7 ∧ s.lent = false then s.wirJobsEnd else s.cipComplete)

/-- WIR_ENABLE: a write of WIR_CTRL.EN (R659). -/
def execWirEnable (ini : Initiator) (on : Bool) (s : State) : Host.Outcome State Fault Refusal :=
  ok (s.cmdWrite ini Reg.WIR_CTRL fun s => s.wirEnable on)

/-- WIR_RESTART (R659). -/
def execWirRestart (ini : Initiator) (s : State) : Host.Outcome State Fault Refusal :=
  ok (s.cmdWrite ini Reg.WIR_CTRL fun s => s.wirRestart)

/-- AN_RESOLVED (R657, R658). -/
def execAnResolved (role : Fin 4) (hiable hireq common : Bool) (seed : Fin 3) (s : State) :
    Host.Outcome State Fault Refusal := ok (s.anResolved role hiable hireq common seed)

/-- AN_RESTART: one second after ANFAIL (R659). -/
def execAnRestart (s : State) : Host.Outcome State Fault Refusal :=
  ok (if s.linkState = 1 then s.linkBegin else s)

/-- TRAIN_CONVERGED (R659). -/
def execTrainConverged (s : State) : Host.Outcome State Fault Refusal := ok s.trained

/-- TRAIN_TIMEOUT (R659). -/
def execTrainTimeout (s : State) : Host.Outcome State Fault Refusal :=
  ok (if s.linkState = 2 then s.linkBegin else s)

/-- WIR_LINK_LOSS (R659). -/
def execWirLinkLoss (s : State) : Host.Outcome State Fault Refusal :=
  ok (if s.linkState = 3 then s.linkDown.linkBegin else s)

/-- SQI_WINDOW_END (R660): the signal-to-noise ratio of the window in tenths of a decibel. -/
def execSqiWindowEnd (snr : Int) (s : State) : Host.Outcome State Fault Refusal :=
  ok (if s.wirUp then s.setFld F.WIR_LINKST_SQI (sqiOf snr) else s)

/-- WIR_ASSEMBLY (R667). -/
def execWirAssembly (s : State) : Host.Outcome State Fault Refusal := ok s.wirStart

/-- WIR_TX_DONE (R667). -/
def execWirTxDone (s : State) : Host.Outcome State Fault Refusal :=
  ok (match s.wirLine with
    | some b => if (s.wbuf b).waiting then s else s.wtxEnd b 1
    | none => s)

/-- WIR_RX_FRAME (R674). -/
def execWirRxFrame (frame : List Byte) (amp : Nat) (s : State) : Host.Outcome State Fault Refusal := ok (s.wirRx frame amp)

/-- WIR_TX_READY (R669). -/
def execWirTxReady (ini : Initiator) (s : State) : Host.Outcome State Fault Refusal :=
  ok (s.cmdWrite ini Reg.WIR_TXCMD fun s => s.wirTxReady s.wirSel)

/-- CANCEL of a buffer (R681). -/
def State.wirCancel (s : State) (b : Nat) : State := if (s.wbuf b).st = 1 then s.wtxEnd b 6 else s

/-- FREE of a buffer (R667). -/
def State.wirFree (s : State) (b : Nat) : State :=
  if (s.wbuf b).st = 3 then s.setWbuf b { s.wbuf b with st := 0, status := 0, frame := [], plain := [], len := 0 } else s

/-- WIR_TX_CANCEL (R681). -/
def execWirTxCancel (ini : Initiator) (s : State) : Host.Outcome State Fault Refusal :=
  ok (s.cmdWrite ini Reg.WIR_TXCMD fun s => s.wirCancel s.wirSel)

/-- RESEND (R678). -/
def execResend (ini : Initiator) (s : State) : Host.Outcome State Fault Refusal :=
  ok (s.cmdWrite ini Reg.WIR_TXCMD fun s => s.wirResend s.wirSel)

/-- WIR_TX_FREE (R667). -/
def execWirTxFree (ini : Initiator) (s : State) : Host.Outcome State Fault Refusal :=
  ok (s.cmdWrite ini Reg.WIR_TXCMD fun s => s.wirFree s.wirSel)

/-- The oldest wired entry removed (R676). -/
def State.wirPop (s : State) : State := { s with wir := { s.wir with rx := s.wir.rx.drop 1 } }

/-- WIR_RXPOP (R676). -/
def execWirRxpop (ini : Initiator) (s : State) : Host.Outcome State Fault Refusal :=
  ok (s.cmdWrite ini Reg.WIR_RXPOP fun s => s.wirPop)

/-- The neighbour table emptied (R675). -/
def State.dupClear (s : State) : State := { s with wir := { s.wir with hubs := [] } }

/-- DUPCLR (R675). -/
def execDupclr (ini : Initiator) (s : State) : Host.Outcome State Fault Refusal :=
  ok (s.cmdWrite ini Reg.WIR_CFG fun s => s.dupClear)

/-- WIR_SEQ_WRITE (R672): a write of WIR_SEQ0, or of WIR_SEQ1 with `hi`. -/
def execWirSeqWrite (ini : Initiator) (hi : Bool) (v : Word) (s : State) : Host.Outcome State Fault Refusal :=
  ok (s.cmdWrite ini (if hi then Reg.WIR_SEQ1 else Reg.WIR_SEQ0) fun s => s.writeWirSeq hi v.toNat)

/-- WRH_RELAY (R666). -/
def execWrhRelay (fwd ackBuf : Fin 4) (next : BitVec 48) (s : State) : Host.Outcome State Fault Refusal :=
  ok (s.wrhRelay fwd ackBuf next.toNat)

end Sys2Proof.Machine
end

