-- ==== Sys2Proof/Machine/Power.lean ====
section
/-! DEFINITION. Domain transitions, what each state of a domain keeps, and the weather states
(04_power_states.md). Frost, a power-on reset, stands in Machine/Resets.lean. -/

namespace Sys2Proof.Machine

open Sys2Proof

/-! ### What a domain loses (R109, Table PWR-1) -/

/-- The registers from one address up to another back at their reset values. -/
def State.clearRegs (s : State) (lo hi : Nat) : State :=
  { s with regs := tabClear (fun a => decide (lo ≤ a) && decide (a < hi)) s.regs }

/-- The bytes of memory from one address up to another unlisted. -/
def State.clearMem (s : State) (lo hi : Nat) : State :=
  { s with mem := tabClear (fun a => decide (lo ≤ a) && decide (a < hi)) s.mem }

/-- The local memories of core k, the upper instruction half included (Table CLK-8, R325). -/
def State.clearLocal (s : State) (k : Nat) : State :=
  (s.clearMem (0x03000000 + 0x40000 * k) (0x03040000 + 0x40000 * k)).clearMem (0x43000000 + 0x40000 * k) (0x43040000 + 0x40000 * k)

/-- A core back in RESET; whether the parcel starts it stays known (R347). -/
def State.clearCore (s : State) (k : Nat) : State := s.setCore k { start := (s.core k).start }

/-- The units of cluster c and the registers of its megabyte at reset. -/
def State.clearUnits (s : State) (c : Nat) : State :=
  (((s.setTally c {}).setMover c {}).setDfa c {}).clearRegs (0x06000000 + 0x100000 * c) (0x06100000 + 0x100000 * c)

/-- Tile t loses what its cells do not hold (R109, R219); a row step is cut short, and a refresh ends (R309, R319). -/
def State.clearTile (s : State) (t : Nat) : State :=
  let s0 := s.cutStep t
  let s := match (s.tile t).long with
    | some l => if l.kind = LongKind.refresh then s0.refreshOver t else s0
    | none => s0
  let x := s.tile t
  (s.setTile t { cells := x.cells, gen := x.gen, genValid := x.genValid, spares := x.spares }).clearRegs
    (Reg.TILE_CMD t - 0xC) (Reg.TILE_CMD t - 0xC + 0x8000)

/-- Cluster logic OFF: cores, memories, schedule memory, registers and the fresh list are lost (R48, R109, R389). -/
def State.loseCl (s : State) (c : Nat) : State :=
  (((((s.clearUnits c).clearMem (schedBase c) (schedBase c + 0x80000)).clearLocal c).clearCore c).setFresh c []).flrSettle

/-- Cluster logic in RET: the core, schedule memory, DFA_RBAD and the fresh list are kept (R389). -/
def State.retCl (s : State) (c : Nat) : State :=
  let bad := (s.dfa c).bad
  ((s.clearUnits c).setDfa c { bad := bad }).flrSettle

/-- LNK OFF: every table and the RAD registers are lost (R582). -/
def State.loseLnk (s : State) : State := { s with lnk := {} }.clearRegs 0x05080000 0x050A0000

/-- WIR OFF, and PLL_C with it (R116, R655). -/
def State.loseWir (s : State) : State :=
  ({ s with wir := {} }.clearRegs 0x050A0000 0x050B0000).setFld F.CLK_PLLBC_CLOCK 0

/-- HST and QUE state, the doorbell pages and the PCI Express configuration space at reset (Table CLK-6). -/
def State.loseHst (s : State) : State :=
  let s1 := ((s.clearRegs 0x050B0000 0x050D0000).clearRegs 0x08000000 0x08040000).clearMem 0x08000000 0x08040000
  { s1 with queues := [], front := { ids := s.front.ids }, msix := [], msixPend := [], msixEnable := false, msixMaskAll := false, pcie := {},
            spiLast := [], tiles := s1.tiles.map fun e => (e.1, { e.2 with front := none }) }

/-- SNS OFF; the class is held in AON (R691). -/
def State.loseSns (s : State) : State := { s with sns := {} }.clearRegs 0x050D0004 0x050E0000

/-- SNS in RET keeps port configuration and class (R707; log entry 45). -/
def State.retSns (s : State) : State :=
  let s1 := { s with sns := {} }.clearRegs 0x050D0004 0x050D0014
  (List.range 11).foldl (fun s n => (s.setReg (Reg.SNS_PSTAT n) 0).setReg (Reg.SNS_PFCNT n) 0) s1

/-- SEC OFF: every register, the key slots and the store's index are lost (R116, R528). -/
def State.loseSec (s : State) : State :=
  { s with cip := {}, pstPages := [], pstOp := none }.clearRegs 0x05060000 0x05080000

/-- SEC in RET: key slots 1-15 with their CIP_KINFO and CIP_LOCKTO are kept (R559, R528). -/
def State.retSec (s : State) : State :=
  let lockto := s.reg Reg.CIP_LOCKTO
  ({ s with cip := { keys := tabClear (· == 0) s.cip.keys }, pstPages := [], pstOp := none }.clearRegs 0x05060000
    0x05080000).setReg Reg.CIP_LOCKTO lockto

/-- NET OFF: the registers of the RND block that are not held in AON (R182; log entry 11). -/
def State.loseNet (s : State) : State :=
  { s with flight := [], regs := tabClear (fun a => decide (0x06400000 ≤ a) && decide (a < 0x06410000) && !rndAon a) s.regs }

/-- Tile quad n has been parked; PLL_B stops with the last of them (R116, R135). -/
def State.loseQuad (s : State) (n : Nat) : State :=
  let s1 := (List.range 4).foldl (fun s i => s.clearTile (4 * n + i)) s
  if s1.quadLit then s1 else s1.setFld F.CLK_PLLBC_BLOCK 0

/-- A domain has reached OFF. -/
def State.lose (s : State) (d : Nat) : State :=
  if d = 3 then s.loseLnk
  else if d = 4 then s.loseWir
  else if d = 5 then s.loseHst
  else if d = 6 then s.loseSns
  else if d = 7 then s.loseSec
  else if d = 8 then s.loseNet
  else if 9 ≤ d ∧ d ≤ 12 then s.loseCl (d - 9)
  else if 13 ≤ d ∧ d ≤ 16 then s.zeroRows (d - 13)
  else if 17 ≤ d ∧ d ≤ 24 then s.loseQuad (d - 17)
  else s

/-- A domain has reached RET; the RX ring goes with LNK. -/
def State.retain (s : State) (d : Nat) : State :=
  if d = 3 then { s with lnk := { s.lnk with rx := [] } }
  else if d = 6 then s.retSns
  else if d = 7 then s.retSec
  else if 9 ≤ d ∧ d ≤ 12 then s.retCl (d - 9)
  else s

/-- The key of slot 0 is loaded from the fuses whenever SEC comes ON (R551); with a shadow whose CRC did not match the slot
stays empty (R140). -/
def State.loadDevkey (s : State) : State :=
  s.setCipKey 0 (if s.flag F.BOOT_FUSE_SHADOWOK then { valid := true, size := 1, use := 0, key := s.shadow.devkey } else {})

/-- The fresh marks of cluster c that its lost fresh list leaves behind are cleared (R76). -/
def State.clearMarks (s : State) (c : Nat) : State := { s with marks := tabClear (fun k => k / 4096 == c) s.marks }

/-- The reset of cluster c takes effect: commands, units, tile sequencers and core are cleared, the lock of the AES
engine is given back, and the clearing of SPc begins (Table CLK-6, R91, R285, R347, R559, R572). -/
def State.resetCluster (s : State) (c : Nat) : State :=
  let s1 := ((s.frontReset c).tallyReset c).moverAbort c fun _ => true
  let s2 := (((s1.setTally c {}).setMover c {}).setDfa c { bad := (s1.dfa c).bad }).clearRegs (0x06010000 + 0x100000 * c) (0x06040000 + 0x100000 * c)
  let s3 := (List.range 8).foldl (fun s i => s.clearTile (8 * c + i)) s2
  let s4 := ((s3.clearMem (dataAddr c 0) (dataAddr c 32768)).clearCore c).ownerGone (c + 1)
  s4.beginClearing c

/-- What RET held for CLc is lost: instruction and data memory, registers and CSRs of CCc, schedule memory (R134). -/
def State.loseRetCl (s : State) (c : Nat) : State :=
  let s1 := ((s.clearMem (schedBase c) (schedBase c + 0x80000)).clearLocal c).clearCore c
  s1.setDfa c { s1.dfa c with bad := [] }

/-- A domain has reached ON, from OFF or from RET: clearing of a scratchpad array, a cluster reset that waited, slot 0,
the checks of ONCHK, TSCH after Calm (R37, R76, R134, R306, R551, R588). -/
def State.gain (s : State) (d : Nat) (fromOff : Bool) : State :=
  if d = 3 then
    if fromOff then { s with lnk := { s.lnk with timeBase := s.evtCycles / 2 } } else s.lnkResume
  else if d = 7 then s.loadDevkey
  else if 9 ≤ d ∧ d ≤ 12 then
    let s1 := if fromOff then s.clearMarks (d - 9) else s
    if s1.inClReset (d - 9) then (s1.loseRetCl (d - 9)).resetCluster (d - 9) else s1
  else if 13 ≤ d ∧ d ≤ 16 then (if fromOff then s.clearScratch (d - 13) else s)
  else if 17 ≤ d ∧ d ≤ 24 then
    (List.range 4).foldl (fun s i =>
      if s.flag (F.CAL_CFG_ONCHK (4 * (d - 17) + i)) then s.tileCheck (4 * (d - 17) + i) false else s) s
  else s

/-! ### Transitions (R112, R115, R117) -/

/-- A core neither runs a task nor has one pending (R112); one in RESET, which no rule has started, counts as idle (log
entry 74). -/
def State.coreIdle (s : State) (k : Nat) : Bool :=
  let c := s.core k
  !c.sealedSt && (c.run == .wait || c.run == .reset || (c.run == .idle && s.tpend k % 16 == 0))

/-- A unit of cluster c is in the middle of work that reaches SPc: an operation or job that runs, a timetable or schedule
load, a row step or pre-scan of a tile, a packet of the Round (R112; log entry 74). -/
def State.spInUse (s : State) (c : Nat) : Bool :=
  ((s.tally c).entries.any (·.phase != .queued)) || ((s.mover c).jobs.any (·.running)) ||
  (s.dfa c).run.isSome || (s.dfa c).load.isSome ||
  ((List.range 8).any fun i => match (s.tile (8 * c + i)).long with
    | some l => l.phase != .between
    | none => false) ||
  (s.core c).load.isSome

/-- A domain is idle (R112). -/
def State.domIdle (s : State) (d : Nat) : Bool :=
  if d = 1 then !(s.core 4).sealedSt && (s.core 4).run == .wait
  else if d = 2 then s.lnk.onAir.isNone && s.lnk.rxLink.isNone
  else if d = 3 then s.lnkIdle
  else if d = 4 then s.wirIdle
  else if d = 5 then s.frontIdle
  else if d = 6 then s.snsIdle
  else if d = 7 then s.cip.op.isNone && s.cip.slotJob.isNone && s.pstOp.isNone
  else if d = 8 then s.flight.isEmpty
  else if 9 ≤ d ∧ d ≤ 12 then s.coreIdle (d - 9) && (s.tally (d - 9)).entries.isEmpty && (s.mover (d - 9)).jobs.isEmpty &&
    s.dfaDepth (d - 9) == 0
  else if 13 ≤ d ∧ d ≤ 16 then !s.clearing (d - 13) && !s.spInUse (d - 13)
  else if 17 ≤ d ∧ d ≤ 24 then !(List.range 4).any fun i => s.tileBusy (4 * (d - 17) + i)
  else true

/-- A domain ramps on VDD_CORE (Table PWR-1). -/
def onCore (d : Nat) : Bool := d != 0 && d != 2 && d != 25
/-- A domain ramps on VDD_ANA. -/
def onAna (d : Nat) : Bool := decide (17 ≤ d)

/-- Domains that ramp now. -/
def State.ramping (s : State) : List Nat := (List.range domains).filter fun d => s.domBusy d && s.domTarget d == 2

/-- The in-rush limits let a domain ramp (R117). -/
def State.railFree (s : State) (d : Nat) : Bool :=
  (!onCore d || decide ((s.ramping.filter onCore).length < 2)) && (!onAna d || !s.ramping.any onAna)

/-- A waiting domain could ramp but for the in-rush limits: no transition of it runs and what it needs is ON (log entry
46). -/
def State.wouldRamp (s : State) (d : Nat) : Bool := s.domReq d == 2 && !s.domBusy d && (needs d).all s.domOn

/-- No waiting domain that arrived earlier wants a rail of domain d (R117). -/
def State.inTurn (s : State) (d : Nat) : Bool :=
  !((s.waiting.takeWhile (· != d)).any fun e => s.wouldRamp e && ((onCore e && onCore d) || (onAna e && onAna d)))

/-- What a domain does before it leaves ON: a sliced operation of a quad ends (R238), and frames that wait for the AES
engine end with SEC. -/
def State.beforeLeave (s : State) (d : Nat) : State :=
  if 17 ≤ d ∧ d ≤ 24 then
    (List.range 4).foldl (fun s i =>
      if (s.tile (4 * (d - 17) + i)).long.isSome then s.endLong (4 * (d - 17) + i) 3 else s) s
  else if d = 7 then s.wirSecLost
  else s

/-- The transition of a domain begins. -/
def State.beginMove (s : State) (d : Nat) : State :=
  let s1 := (s.setFld (F.PWR_DOM_PEND d) 0).setFld (F.PWR_DOM_BUSY d) 1
  { s1 with waiting := s1.waiting.filter (· != d), target := tabSet (fun _ => 2) s1.target d (s.domReq d) }

/-- DOMAIN_TRANSITION_START: a pending transition begins, when the domain is idle or the in-rush limits allow. -/
def State.moveStart (s : State) (d : Nat) : State :=
  if !s.waiting.contains d || s.domBusy d || s.weather != .run then s
  else if s.domReq d = 2 then
    if s.wouldRamp d && s.railFree d && s.inTurn d then s.beginMove d else s
  else if (dependents d).all (fun e => s.dom e == 0 && !s.domBusy e) && (s.dom d != 2 || s.domIdle d) then
    (s.beforeLeave d).beginMove d
  else s

/-- Domains of a wake or sleep map: bit d - 2 is domain d (Table PWR-8). -/
def mapDoms (v : Nat) : List Nat := ((List.range 24).filter (bitOf v)).map (· + 2)

/-- Domains that wake task n requests. -/
def State.wakeDoms (s : State) (n : Nat) : List Nat :=
  (if s.fbit F.PWR_SUPEV_WAKESUP n then [1] else []) ++ mapDoms (s.fld (F.PWR_WAKEMAP_DOM n))

/-- EVP_PWR_READY of each wake map whose domains are all ON (R109). -/
def State.fireReady (s : State) : State :=
  let done := s.wakeDue.filter fun n => (s.wakeDoms n).all s.domOn
  done.foldl (fun s n => s.fire (84 + n)) { s with wakeDue := s.wakeDue.filter fun n => !done.contains n }

/-- The PLL whose lock the way to ON takes in is locked: PLL_B for a tile quad, PLL_C for WIR (R81, Table PWR-3). -/
def State.pllReady (s : State) (d : Nat) : Bool :=
  if 17 ≤ d ∧ d ≤ 24 then s.flag F.CLK_PLLBC_BLOCK else if d = 4 then s.flag F.CLK_PLLBC_CLOCK else true

/-- DOMAIN_TRANSITION_DONE: ACT shows the new state, of a tile quad and of WIR not before its PLL is locked; a request
that came meanwhile is pending (R81, R115, R127, R128). -/
def State.moveDone (s : State) (d : Nat) : State :=
  if s.domBusy d && (s.domTarget d != 2 || s.pllReady d) then
    let v := s.domTarget d
    let old := s.dom d
    let s1 := (s.setFld (F.PWR_DOM_BUSY d) 0).setFld (F.PWR_DOM_ACT d) v
    let s2 := { s1 with target := tabSet (fun _ => 2) s1.target d 2 }
    let s3 := if v = 2 then s2.gain d (old == 0) else if v = 1 then s2.retain d else s2.lose d
    (s3.setReq d (s3.domReq d)).fireReady
  else s

/-! ### Requests -/

/-- Domains asked for by software or a wake task no longer return to an earlier state by themselves (R593, R695). -/
def State.forgetWoke (s : State) (ds : List Nat) : State :=
  { s with
    lnk := { s.lnk with woke := s.lnk.woke.filter fun e => !ds.contains e.1 }
    sns := { s.sns with ports := s.sns.ports.map fun e => (e.1, { e.2 with woke := e.2.woke.filter fun w => !ds.contains w.1 }) } }

/-- A write of PWR_DOMd (R107, R110, R111, R119, R153); `own`: the boot loader's own. -/
def State.writeDom (s : State) (d v : Nat) (own : Bool) : State :=
  let s1 := (s.setFld (F.PWR_DOM_SLEEPRET d) (bitsOf v 7 1)).setFld (F.PWR_DOM_KEEPCALM d) (bitsOf v 8 1)
  if d = 0 then s1
  else match v % 4 with
  | 3 => s1.setFld F.PWR_STATUS_DENIED 1
  | 2 =>
    let q := s1.requestOn [d] (own && s.booting)
    if q.2 then q.1.forgetWoke [d] else q.1
  | r => s1.requestLeave [(d, r)]

/-- A write of PWR_CTRL.MODE (R120). -/
def State.writeMode (s : State) (v : Nat) : State :=
  if v % 2 = 0 ∧ outsideBreeze s.lit = true then s.setFld F.PWR_STATUS_DENIED 1
  else s.setFld F.PWR_CTRL_MODE (v % 2)

/-- An arrival at EVT_PWR_WAKE[n] (R109, R119). -/
def State.wakeTask (s : State) (n : Nat) : State :=
  let q := s.requestOn (s.wakeDoms n) false
  if q.2 then { (q.1.forgetWoke (s.wakeDoms n)) with wakeDue := q.1.wakeDue.filter (· != n) ++ [n] }.fireReady else q.1

/-- Domains that sleep task n requests, and the states it requests for them. -/
def State.sleepDoms (s : State) (n : Nat) : List (Nat × Nat) :=
  (if s.fbit F.PWR_SUPEV_SLEEPSUP n then [(1, 1)] else []) ++
  (mapDoms (s.fld (F.PWR_SLEEPMAP_DOM n))).map fun d => (d, s.fld (F.PWR_DOM_SLEEPRET d))

/-- Requests of one cycle that had to join those that wait in `s0` stand behind them in ascending order of domain (R117). -/
def State.inOneCycle (s s0 : State) : State :=
  let kept := s0.waiting.filter fun d => s.waiting.contains d && s0.domReq d == s.domReq d
  { s with waiting := kept ++ (List.range domains).filter fun d => s.waiting.contains d && !kept.contains d }

/-- Arrivals at wake tasks and sleep tasks in one cycle: the wake wins a domain that both name (R117, R126). -/
def State.powerTasks (s : State) (wakes sleeps : List Nat) : State :=
  let s1 := wakes.foldl State.wakeTask s
  let on := wakes.flatMap s.wakeDoms
  let going := sleeps.flatMap s.sleepDoms
  let s2 := if going.any fun g => on.contains g.1 then s1.setFld F.PWR_STATUS_CONFLICT 1 else s1
  (s2.requestLeave (going.filter fun g => !on.contains g.1)).inOneCycle s

/-! ### Calm (R121, R122, R130) -/

/-- PWR_CMD = CALM: the domains are told to leave (R121 step 1). -/
def State.calmBegin (s : State) : State :=
  let s1 := (s.setFld F.PWR_FROSTARM_ARM 0).setFld F.PWR_STATE_CALMPEND 1
  s1.requestLeave (((List.range domains).drop 2).map fun d => (d, b2n (s.flag (F.PWR_DOM_KEEPCALM d) && domTakesRet d)))

/-- Every domain but AON and SUP stands where Calm entry sent it. -/
def State.calmReady (s : State) : Bool :=
  ((List.range domains).drop 2).all fun d => !s.domBusy d && !s.flag (F.PWR_DOM_PEND d) && s.dom d != 2

/-- CALM_ENTRY_DONE: SUP goes to RET, PLL_A and the XO stop (R121 steps 3 and 4); armed stopwatches note it (R491). -/
def State.calmEnter (s : State) : State :=
  if s.flag F.PWR_STATE_CALMPEND && s.weather == .run && s.calmReady && s.domIdle 1 && !s.domBusy 1 then
    let s0 := (List.range 8).foldl (fun s i =>
      if s.fld (F.EVF_SWSTAT_STATE i) = 1 then s.setFld (F.EVF_SWSTAT_CLKSTOP i) 1 else s) s
    let s1 := if s0.dom 3 = 1 then s0.lnkHold else s0
    let s2 := ((((s1.setFld F.PWR_STATE_CALMPEND 0).setFld (F.PWR_DOM_ACT 1) 1).setFld F.CLK_PLLA_EN 0).setFld F.CLK_PLLA_LOCK
      0).setFld F.CLK_STATUS_XOOK 0
    { (s2.setFld F.CLK_CORESEL_SRC 0).setFld F.CLK_CORESEL_BUSY 0 with weather := .calm }
  else s

/-- The bit of a wake source in PWR_WAKEEN and PWR_WAKECAUSE. -/
def wakeBit : WakeSource → Nat
  | .pin => 0
  | .rtc => 1
  | .gpio _ _ => 2
  | .sens => 3

/-- The producer of a wake source (Table PWR-6): WAKE_N, RTC alarm, GPIO, sensor interrupt. -/
def wakeProducer : WakeSource → Nat
  | .pin => 92
  | .rtc => 95
  | .gpio _ _ => 93
  | .sens => 94

/-- PWR_GPIOWAKE selects the ball and the edge; the other sources have nothing to select. -/
def State.wakeSelected (s : State) (src : WakeSource) : Bool :=
  match src with
  | .gpio g rise => s.fbit F.PWR_GPIOWAKE_EN g && s.fbit F.PWR_GPIOWAKE_RISE g == rise
  | _ => true

/-- PWR_WAKEEN lets the source wake the part from Calm; WAKE_N always does. -/
def State.wakeEnabled (s : State) (src : WakeSource) : Bool :=
  s.wakeSelected src && (wakeBit src == 0 || bitOf (s.reg Reg.PWR_WAKEEN).toNat (wakeBit src))

/-- Domains that wait to leave stay where they are (R130). -/
def State.cancelLeaves (s : State) : State :=
  ((List.range domains).drop 2).foldl (fun s d =>
    if s.flag (F.PWR_DOM_PEND d) && s.domReq d != 2 then
      { (s.setFld (F.PWR_DOM_REQ d) (s.dom d)).setFld (F.PWR_DOM_PEND d) 0 with waiting := s.waiting.filter (· != d) }
    else s) s

/-- The board has removed VDD_CORE in Calm and restored it: every domain that Calm kept in RET is OFF, SUP has lost its
memories and registers and the tiles' CAL registers, and SV, parked, has its pc at 0 (R109, R793; log entry 75). -/
def State.loseVddCore (s : State) : State :=
  let s1 := ((List.range domains).drop 2).foldl (fun s d =>
    if s.dom d = 1 then (s.setFld (F.PWR_DOM_ACT d) 0).lose d else s) s
  let s2 := { (List.range 32).foldl (fun s t => s.clearRegs (0x01008000 + 0x10000 * t) (0x01010000 + 0x10000 * t)) s1 with
    trimSets := [] }
  (s2.clearLocal 4).setCore 4 { start := (s2.core 4).start, run := (s2.core 4).run }

/-- An enabled source ends Calm: the XO starts, SUP is ON, SV goes on, the cause is shown and the producer delivered
(R122, R124). -/
def State.calmExit (s : State) (src : WakeSource) : State :=
  let s1 := (({ s with weather := .run }.setFld (F.PWR_DOM_ACT 1) 2).setFld F.CLK_STATUS_XOOK 1).setFld F.PWR_WAKECAUSE_CAUSE
    (2 ^ wakeBit src)
  let c := s1.core 4
  (s1.setCore 4 (if c.run = .wait then { c with run := .run, wake := false } else c)).fire (wakeProducer src)

/-- CALM_WAKE: an enabled source ends Calm, or abandons its entry; in Breeze and Gale its producer fires, the RTC alarm by
its own command (R122, R124, R130, R166, R793). -/
def State.calmWake (s : State) (src : WakeSource) (coreLost : Bool) : State :=
  match s.weather with
  | .calm =>
    let s1 := if coreLost then s.loseVddCore else s
    if s1.wakeEnabled src then s1.calmExit src else s1
  | .run =>
    if s.stopped then s
    else if s.flag F.PWR_STATE_CALMPEND && s.wakeEnabled src then
      ((s.cancelLeaves.setFld F.PWR_STATE_CALMPEND 0).setFld F.PWR_STATUS_CALMABORT 1).fire (wakeProducer src)
    else if src ≠ .rtc ∧ s.wakeSelected src = true then s.fire (wakeProducer src)
    else s
  | .frost => s

/-! ### Commands -/

/-- PWR_DOM_REQUEST (R107). -/
def execPwrDomRequest (ini : Initiator) (d : Fin 26) (v : Word) (s : State) : Host.Outcome State Fault Refusal :=
  ok (s.cmdWrite ini (Reg.PWR_DOM d) fun s => s.writeDom d v.toNat (ini == .boot))

/-- DOMAIN_TRANSITION_START (R112). -/
def execDomainTransitionStart (d : Fin 26) (s : State) : Host.Outcome State Fault Refusal := ok (s.moveStart d)

/-- DOMAIN_TRANSITION_DONE (R115). -/
def execDomainTransitionDone (d : Fin 26) (s : State) : Host.Outcome State Fault Refusal := ok (s.moveDone d)

/-- PWR_MODE_WRITE (R119, R120). -/
def execPwrModeWrite (ini : Initiator) (v : Word) (s : State) : Host.Outcome State Fault Refusal :=
  ok (s.cmdWrite ini Reg.PWR_CTRL fun s => s.writeMode v.toNat)

/-- PWR_CALM (R121). -/
def execPwrCalm (ini : Initiator) (s : State) : Host.Outcome State Fault Refusal :=
  ok (s.cmdWrite ini Reg.PWR_CMD fun s => s.calmBegin)

/-- CALM_ENTRY_DONE (R121). -/
def execCalmEntryDone (s : State) : Host.Outcome State Fault Refusal := ok s.calmEnter

/-- CALM_WAKE (R122). -/
def execCalmWake (w : Waking) (s : State) : Host.Outcome State Fault Refusal := ok (s.calmWake w.source w.coreLost)

end Sys2Proof.Machine
end

