-- ==== Sys2Proof/Machine/Events.lean ====
section
/-! DEFINITION. The Sorting Office and its stopwatches (14_sorting_office.md, R477-R491, R499-R509), task starts and
wakes of the cores (R342-R344). -/

namespace Sys2Proof.Machine

open Sys2Proof

/-! ### Wiring (R477, R478) -/

/-- The bit of EVF_CHENk.EN that enables producer p in channel k; none where p is no candidate. -/
def chenBit (p k : Nat) : Option Nat :=
  let m := (p % 32 + 32 - k) % 32
  if m % 8 = 0 then some (4 * (m / 8) + p / 32) else none

/-- Producer p is enabled in channel k. -/
def State.enabledIn (s : State) (p k : Nat) : Bool :=
  match chenBit p k with
  | some i => s.fbit (F.EVF_CHEN_EN k) i
  | none => false

/-- The i-th channel of task u. -/
def taskChan (u i : Nat) : Nat := (u + 9 * i) % 32

/-- Channels that task u has enabled. -/
def State.taskChans (s : State) (u : Nat) : List Nat :=
  ((List.range 4).filter fun i => s.fbit (F.EVF_TASK_EN u) i).map (taskChan u)

/-! ### Taint (R61, R488) -/

/-- The channels an input code of a sorter selects. -/
def State.sortChans (s : State) (n : Nat) : List Nat :=
  [s.fld (F.EVF_SORT0_SELA n), s.fld (F.EVF_SORT0_SELB n), s.fld (F.EVF_SORT0_SELC n)].filter (· < 32)

/-- A producer is sealed, given the tainted channels. -/
def State.sealedProducer (s : State) (taint : List Nat) (p : Nat) : Bool :=
  if 111 ≤ p ∧ p ≤ 114 then s.portSealed (s.cmpPort (p - 111))
  else if 64 ≤ p ∧ p ≤ 79 then (s.sortChans (p - 64)).any taint.contains
  else false

/-- The tainted channels: those on which a sealed producer is enabled; taint passes through at most 16 sorters. -/
def State.tainted (s : State) : List Nat :=
  iter (fun t => (List.range 32).filter fun k =>
    ((List.range 20).map fun i => if i < 16 then 64 + i else 95 + i).any fun p => s.enabledIn p k && s.sealedProducer t p) 17 []

/-- The restricted tasks of Table EVF-2. -/
def restricted (u : Nat) : Bool :=
  (decide (25 ≤ u) && decide (u ≤ 31)) || (decide (83 ≤ u) && decide (u ≤ 90)) || (decide (104 ≤ u) && decide (u ≤ 119))

/-- A restricted task has a tainted channel enabled. -/
def State.badRoute (s : State) : Bool :=
  let t := s.tainted
  (List.range 160).any fun u => restricted u && (s.taskChans u).any t.contains

/-- A write that R61 and R488 refuse as a whole where it would leave a tainted channel enabled in a restricted task. -/
def State.routeWrite (s t : State) : State :=
  if t.badRoute then (s.violate.setFld F.SEAL_STATUS_ROUTE 1).incFld F.SEAL_EGRCNT2_GPIO 1 else t

/-! ### Busy tasks (R483, R484, Table EVF-2) -/

/-- The tile of an EVT_TILE_BCHK task. -/
def bchkTile (u : Nat) : Nat := if u < 128 then u - 120 else u - 128

/-- A task whose consumer lies in another clock domain: it stays busy until the consumer's acknowledgement has crossed back
(R484, Table CLK-1). -/
def crosses (u : Nat) : Bool :=
  decide (u < 25) || u == 30 || u == 31 || (decide (32 ≤ u) && decide (u < 48)) || (decide (83 ≤ u) && decide (u ≤ 94)) ||
  (decide (120 ≤ u) && decide (u < 128)) || decide (136 ≤ u)

/-- The domain of a task's consumer. -/
def taskDom (u : Nat) : Nat :=
  if u < 20 then coreDom (u / 4)
  else if u < 25 then coreDom (u - 20)
  else if u < 30 then 3
  else if u < 32 then 4
  else if u < 48 then domCL ((u - 32) / 4)
  else if u < 72 then 0
  else if u < 83 then 6
  else if u < 91 then 5
  else if u < 95 then domCL (u - 91)
  else if u < 104 then 0
  else if u < 120 then 6
  else if u < 128 ∨ 136 ≤ u then domTQ (bchkTile u)
  else 0

/-- A core is halted, or a halt waits for it (R754). -/
def State.haltBusy (s : State) (k : Nat) : Bool := (s.core k).run == .halt || (s.core k).haltWait

/-- The buffer of EVT_LNK_CMD[n] (R602). -/
def State.evBuf (s : State) (n : Nat) : Nat := bitsOf (s.fld F.LNK_EVCFG_BUF0_BUF3) (4 * n) 4

/-- The buffer of EVT_WIR_TX[n] (R673). -/
def State.evWir (s : State) (n : Nat) : Nat := if n = 0 then s.fld F.WIR_EVCFG_BUF0 else s.fld F.WIR_EVCFG_BUF1

/-- A task is busy. -/
def State.taskBusy (s : State) (u : Nat) : Bool :=
  !s.domOn (taskDom u) || (crosses u && !(decide (20 ≤ u) && decide (u < 25)) && s.arriving.contains u) ||
  (if u < 20 then (s.core (u / 4)).run != .idle
   else if u < 25 then false
   else if u < 29 then let b := s.tx (s.evBuf (u - 25)); b.st == 1 || b.st == 2
   else if u = 29 then s.lnk.ed
   else if u < 32 then let b := s.wbuf (s.evWir (u - 30)); b.st == 1 || b.st == 2
   else if u < 48 then s.dfaFull ((u - 32) / 4)
   else if u < 72 then false
   else if u < 83 then s.portBusy (u - 72)
   else if u < 91 then false
   else if u < 95 then s.haltBusy (u - 91)
   else if u = 95 then s.flag F.RTC_SNAPST_BUSY
   else if u < 120 then false
   else if u < 128 ∨ 136 ≤ u then s.tileState (bchkTile u) != 0
   else false)

/-- An arrival is discarded (R483). -/
def State.returnArrival (s : State) (u : Nat) : State :=
  ((s.setFld (F.EVF_TASK_RET u) 1).incFld F.EVF_RETCNT_COUNT 1).setFld F.EVF_STATUS_RETANY 1

/-- A task-start arrival at a core in WAIT resumes it, whatever its mode makes of the arrival (Table CORE-10, R343). -/
def State.hailCore (s : State) (u : Nat) : State :=
  if u < 20 ∧ (s.core (u / 4)).run = .wait then s.setCore (u / 4) { s.core (u / 4) with hail := true } else s

/-- An arrival at a busy task: kept in an empty poste restante under HOLD, else discarded (R483). -/
def State.holdArrival (s : State) (u : Nat) : State :=
  let s1 := s.hailCore u
  if s.fld (F.EVF_TASK_DROP u) = 0 ∧ s.fld (F.EVF_TASK_HELD u) = 0 then s1.setFld (F.EVF_TASK_HELD u) 1 else s1.returnArrival u

/-! ### Snapshots of the RTC (R493) -/

/-- A snapshot is requested; one in progress serves the request. -/
def State.snapRequest (s : State) : State :=
  if s.flag F.RTC_SNAPST_BUSY then s
  else { s.setFld F.RTC_SNAPST_BUSY 1 with
         rtc := { s.rtc with snapReq := s.evtCycles, snapStale := s.flag F.RTC_STATUS_WPEND, snapOld := 0 } }

/-! ### Stopwatches (R490, R491) -/

/-- The width of stopwatch i now, at most 2^32 - 1. -/
def State.swWidth (s : State) (i : Nat) : Nat := min (2 ^ 32 - 1) (s.evtCycles - tabGet (fun _ => 0) s.swStart i)

/-- A result of stopwatch i. -/
def State.swResult (s : State) (i w : Nat) : State :=
  ((s.setFld (F.EVF_SWRES0_WIDTH i) w).setFld (F.EVF_SWRES1_WIDTH i) (w / 2 ^ 24)).setFld (F.EVF_SWSTAT_STATE i) 2

/-- Stopwatch i is armed from a start channel that is tainted or not. -/
def State.swArm (s : State) (i : Nat) (taint : Bool) : State :=
  { (s.setFld (F.EVF_SWSTAT_STATE i) 1).setFld (F.EVF_SWSTAT_TAINT i) (b2n taint) with
    swStart := tabSet (fun _ => 0) s.swStart i s.evtCycles }

/-- Start, stop or both reach stopwatch i in one cycle (Table EVF-4); each with the taint of its channel. Both together set
TAINT to the OR of the two, whatever it was (log entry 69). -/
def State.swEvent (s : State) (i : Nat) (start stop : Option Bool) : State :=
  let armed := s.fld (F.EVF_SWSTAT_STATE i) == 1
  match start, stop with
  | some a, some b =>
    let s1 := ((s.swResult i 0).setFld (F.EVF_SWSTAT_SAME i) 1).setFld (F.EVF_SWSTAT_TAINT i) (b2n (a || b))
    if armed then s1.setFld (F.EVF_SWSTAT_DOUBLE i) 1 else s1
  | some a, none =>
    if !armed then s.swArm i a
    else
      let s1 := s.setFld (F.EVF_SWSTAT_DOUBLE i) 1
      if s.flag (F.EVF_SWCFG_DBLRST i) then s1.swArm i a else s1
  | none, some b =>
    if armed then
      let s1 := s.swResult i (s.swWidth i)
      if b then s1.setFld (F.EVF_SWSTAT_TAINT i) 1 else s1
    else s.setFld (F.EVF_SWSTAT_ORDER i) 1
  | none, none => s

/-! ### Delivery (R482) -/

/-- An arrival is delivered at a task that is not busy; stopwatches and the PWR tasks are taken together for a cycle. The
wired MAC, for whose tasks no command stands, acts at the delivery and acknowledges later (log entry 86). -/
def State.deliver (s : State) (u : Nat) : State :=
  if 30 ≤ u ∧ u < 32 then { s.wirTxReady (s.evWir (u - 30)) with arriving := s.arriving ++ [u] }
  else if crosses u then { s with arriving := s.arriving ++ [u] }
  else if 25 ≤ u ∧ u < 29 then s.txReady (s.evBuf (u - 25))
  else if u = 29 then s.startEd
  else if 64 ≤ u ∧ u < 72 then s.sealAdvance (u - 64)
  else if 72 ≤ u ∧ u < 83 then s.portStart (u - 72)
  else if u = 95 then s.snapRequest
  else if 104 ≤ u ∧ u < 120 then s.gpioTask (u - 104)
  else s

/-- An arrival at task u in a cycle (R483, R499). -/
def State.arrive (s : State) (u : Nat) : State :=
  if s.taskBusy u then s.holdArrival u
  else if s.flag (F.EVF_TASK_HELD u) then
    let s1 := s.deliver u
    if s1.flag (F.EVF_TASK_DROP u) then (s1.setFld (F.EVF_TASK_HELD u) 0).returnArrival u else s1
  else s.deliver u

/-- Tasks with a channel enabled, in ascending order. -/
def State.listening (s : State) : List Nat := (List.range 160).filter fun u => s.fld (F.EVF_TASK_EN u) != 0

/-! ### Sorters (R480) -/

/-- An input of sorter n in a cycle in which the channels `on` fire. -/
def State.sortInput (s : State) (n code : Nat) (on : List Nat) : Bool :=
  if code < 32 then on.contains code else if code = 33 then s.flag (F.EVF_SORT1_Q n) else false

/-- A sorter's filtered output takes a value; its producer pulses by EDGE. -/
def State.sortOut (s : State) (n : Nat) (out : Bool) : State :=
  let old := s.flag (F.EVF_SORT1_OUT n)
  let s1 := s.setFld (F.EVF_SORT1_OUT n) (b2n out)
  if out && !(s.flag (F.EVF_SORT0_EDGE n) && old) then s1.fire (64 + n) else s1

/-- clk_evt cycles a filter of sorter n needs its raw output to hold. -/
def State.filterLen (s : State) (n : Nat) : Nat :=
  (s.fld (F.EVF_SORT1_LEN n) + 1) * (if s.fld (F.EVF_SORT1_FLT n) = 2 then 65536 else 1)

/-- Sorter n in one clk_evt cycle (R480); one that is not configured stays at rest. -/
def State.sortCycle (s : State) (on : List Nat) (n : Nat) : State :=
  if s.reg (Reg.EVF_SORT0 n) = regReset (Reg.EVF_SORT0 n) ∧ s.reg (Reg.EVF_SORT1 n) = regReset (Reg.EVF_SORT1 n) then s
  else
    let i := 4 * b2n (s.sortInput n (s.fld (F.EVF_SORT0_SELC n)) on) + 2 * b2n (s.sortInput n (s.fld (F.EVF_SORT0_SELB n)) on) +
      b2n (s.sortInput n (s.fld (F.EVF_SORT0_SELA n)) on)
    let f := s.fbit (F.EVF_SORT1_TRUTH n) i
    let raw := if s.flag (F.EVF_SORT0_REG n) then s.flag (F.EVF_SORT1_Q n) else f
    let s1 := if s.flag (F.EVF_SORT0_REG n) then s.setFld (F.EVF_SORT1_Q n) (b2n f) else s
    let held := if raw == tabGet (fun _ => false) s.sortRaw n then tabGet (fun _ => 0) s.sortHeld n + 1 else 1
    let s2 := { s1 with sortRaw := tabSet (fun _ => false) s1.sortRaw n raw, sortHeld := tabSet (fun _ => 0) s1.sortHeld n held }
    match s.fld (F.EVF_SORT1_FLT n) with
    | 1 => s2.sortOut n (raw && decide (s.filterLen n ≤ held))
    | 2 => s2.sortOut n (if s.filterLen n ≤ held then raw else s.flag (F.EVF_SORT1_OUT n))
    | _ => s2.sortOut n raw

/-- The 16 sorters in one clk_evt cycle in which the channels `on` fire. -/
def State.sortAll (s : State) (on : List Nat) : State := (List.range 16).foldl (fun s n => s.sortCycle on n) s

/-- A sorter is configured. -/
def State.sorting (s : State) : Bool :=
  (List.range 16).any fun n => s.reg (Reg.EVF_SORT0 n) != regReset (Reg.EVF_SORT0 n) || s.reg (Reg.EVF_SORT1 n) != regReset (Reg.EVF_SORT1 n)

/-- n clk_evt cycles in which no channel fires. -/
def State.quiet (s : State) (n : Nat) : State := if s.sorting then iter (fun s => s.sortAll []) n s else s

/-! ### One cycle of the fabric -/

/-- clk_core cycles in n clk_evt cycles (R78, R80, R83): PLL_A's 8 MHz x FBDIV / POSTDIV, or 32 MHz, against 64 MHz. -/
def State.coreCycles (s : State) (n : Nat) : Nat :=
  if s.coreOnPll then n * s.fld F.CLK_PLLA_FBDIV / (8 * s.fld F.CLK_PLLA_POSTDIV) else n / 2

/-- CYCLE of every core that is clocked and out of reset counts (Table CORE-12). -/
def State.countCycles (s : State) (n : Nat) : State :=
  if n = 0 then s
  else (List.range 5).foldl (fun s k =>
    if s.domOn (coreDom k) && (s.core k).run != .reset then s.setCore k ((s.core k).addCycles n) else s) s

/-- Time passes (R490, R493; log entry 8): clk_evt and clk_core cycles while they run, clk_aon cycles while its crystal
runs. The second's last cycle waits for RTC_SECOND_BOUNDARY. -/
def State.pass (s : State) (evt aon : Nat) : State :=
  let s1 := if s.weather = .run then
      { s.countCycles (s.coreCycles (s.evtCycles + evt) - s.coreCycles s.evtCycles) with evtCycles := s.evtCycles + evt }
    else s
  if s.flag F.CLK_STATUS_AONOK ∧ s.weather ≠ .frost then
    { s1 with aonCycles := s1.aonCycles + aon, rtc := { s1.rtc with sub := min 32767 (s1.rtc.sub + aon) } }
  else s1

/-- Of the wired MAC's tasks that wait for an acknowledgement, open ones have had it (R484, log entry 86). -/
def State.wirAcks (s : State) : State :=
  [30, 31].foldl (fun s u =>
    if s.arriving.contains u then
      let s1 := s.drawn
      if s.open_ 2 = 1 then { s1 with arriving := s1.arriving.erase u } else s1
    else s) s

/-- EVENT_FIRE: after time has passed, the sorters working in each of its cycles, producers that have fired reach the fabric
in one cycle, the last; channels, tasks and sorters follow (R477-R484). -/
def State.eventFire (s : State) (evt aon : Nat) (ps : List Nat) : State :=
  let n := max 1 evt
  let s0 := s.pass n aon
  if s0.weather ≠ .run ∨ s0.stopped then s0
  else
    let s0 := (s0.quiet (n - 1)).wirAcks
    let here := (ps.filter s0.pulses.contains)
    let s1 := { s0 with pulses := here.foldl (fun l p => l.erase p) s0.pulses }
    let on := (List.range 32).filter fun k => here.any fun p => s1.enabledIn p k
    let taint := s1.tainted
    let hits := s1.listening.filter fun u => (s1.taskChans u).any on.contains
    let chanTaint (u : Nat) : Bool := (s1.taskChans u).any fun k => on.contains k && taint.contains k
    let watch (u : Nat) : Option Bool := if hits.contains u then some (chanTaint u) else none
    let s2 := hits.foldl State.arrive s1
    let s3 := (List.range 8).foldl (fun s i => s.swEvent i (watch (48 + i)) (watch (56 + i))) s2
    let s4 := s3.powerTasks ((List.range 8).filter fun n => hits.contains (96 + n)) ((List.range 8).filter fun n => hits.contains (128 + n))
    s4.sortAll on

/-- SORTER_FILTER_EXPIRY: no channel fires until the raw output of sorter n has held its value for the filter's length, the
time for which passes (R480; log entry 86). -/
def State.filterExpiry (s : State) (n : Nat) : State :=
  let flt := s.fld (F.EVF_SORT1_FLT n)
  let k := s.filterLen n - tabGet (fun _ => 0) s.sortHeld n
  if (flt = 1 ∨ flt = 2) ∧ tabGet (fun _ => false) s.sortRaw n ≠ s.flag (F.EVF_SORT1_OUT n) then
    (s.pass k (k * 8 / 15625)).quiet k
  else s

/-- HELD_ARRIVAL_DELIVERY: a kept arrival is delivered once its task is not busy (R483, R509). -/
def State.deliverHeld (s : State) (u : Nat) : State :=
  if s.flag (F.EVF_TASK_HELD u) ∧ !s.taskBusy u ∧ s.weather = .run then (s.deliver u).setFld (F.EVF_TASK_HELD u) 0 else s

/-! ### Configuration (R481, R485, R488, R500) -/

/-- A write of EVF_TASKu. -/
def State.writeTask (s : State) (u v : Nat) : State :=
  let s1 := (s.setFld (F.EVF_TASK_EN u) v).setFld (F.EVF_TASK_DROP u) (bitsOf v 4 1)
  let s2 := if bitOf v 6 then s1.setFld (F.EVF_TASK_RET u) 0 else s1
  s.routeWrite (if bitsOf v 0 4 = 0 then s2.setFld (F.EVF_TASK_HELD u) 0 else s2)

/-- A write of EVF_CHENk. -/
def State.writeChen (s : State) (k v : Nat) : State := s.routeWrite (s.setFld (F.EVF_CHEN_EN k) v)

/-- A write of EVF_SORTn0 or EVF_SORTn1: Q, the filter and its output are cleared (R481); R488 is for EVF_SORTn0. -/
def State.writeSort (s : State) (n : Nat) (hi : Bool) (v : Nat) : State :=
  let s1 := if hi then s.setReg (Reg.EVF_SORT1 n) (BitVec.ofNat 24 (bitsOf v 0 16))
    else s.setReg (Reg.EVF_SORT0 n) (BitVec.ofNat 24 (bitsOf v 0 20))
  let s2 := { (s1.setFld (F.EVF_SORT1_Q n) 0).setFld (F.EVF_SORT1_OUT n) 0 with
              sortRaw := tabSet (fun _ => false) s1.sortRaw n false, sortHeld := tabSet (fun _ => 0) s1.sortHeld n 0 }
  if hi then s2 else s.routeWrite s2

/-- A write of EVF_SWFIRE. -/
def State.swFire (s : State) (v : Nat) : State := (List.range 4).foldl (fun s n => if bitOf v n then s.fire (80 + n) else s) s

/-! ### Task starts and wakes (R342-R344, R354) -/

/-- Task-start tasks of core k that have an arrival, crossing or held. -/
def State.startsOf (s : State) (k : Nat) : List Nat :=
  (List.range 4).filter fun j => s.arriving.contains (4 * k + j) || s.flag (F.EVF_TASK_HELD (4 * k + j))

/-- A task-start arrival is consumed: the one that crosses, else the one held. -/
def State.consumeStart (s : State) (u : Nat) : State :=
  if s.arriving.contains u then { s with arriving := s.arriving.erase u } else s.setFld (F.EVF_TASK_HELD u) 0

/-- Arrivals of core k that have crossed and do not start are held or discarded (R343). -/
def State.parkStarts (s : State) (k : Nat) : State :=
  (List.range 4).foldl (fun s j =>
    if s.arriving.contains (4 * k + j) then { s with arriving := s.arriving.erase (4 * k + j) }.holdArrival (4 * k + j) else s) s

/-- A core may act on events now. -/
def State.coreListens (s : State) (k : Nat) : Bool := s.domOn (coreDom k) && s.weather == .run

/-- CORE_TASK_START: an idle core starts the lowest task that has an arrival; the others stay held or are discarded
(R342, R343). A halt that waits for a task takes effect as it starts. -/
def State.taskStart (s : State) (k : Nat) : State :=
  if s.coreListens k then
    match s.startsOf k with
    | j :: _ =>
      let c := s.core k
      if c.run = .idle then
        let c1 := { c with run := .run, pc := BitVec.ofNat 16 (c.csrOf (8 + j)).toNat, task := j, tvalid := true }
        ((s.consumeStart (4 * k + j)).setCore k c1.settle).parkStarts k
      else s.parkStarts k
    | [] => s
  else s

/-- CORE_WAKE: an arrival at the wake task sets TPEND.WAKE; a core in WAIT goes on when TPEND is not 0 or a task-start arrival
has reached it (R342, R344, R345, R354). -/
def State.coreWake (s : State) (k : Nat) : State :=
  if s.coreListens k then
    let c := s.core k
    let s1 := if s.arriving.contains (20 + k) then
        { s with arriving := s.arriving.filter (· != 20 + k) }.setCore k { c with wake := true } else s
    if c.run = .wait ∧ (s1.tpend k ≠ 0 ∨ c.hail = true) then
      s1.setCore k { s1.core k with run := .run, wake := false, hail := false }
    else s1
  else s

/-! ### Commands -/

/-- EVENT_FIRE (R482). -/
def execEventFire (evt : Nat) (aon : Nat) (ps : List (Fin 128)) (s : State) : Host.Outcome State Fault Refusal :=
  ok (s.eventFire evt aon (ps.map (·.val)))

/-- HELD_ARRIVAL_DELIVERY (R483). -/
def execHeldArrivalDelivery (u : Fin 160) (s : State) : Host.Outcome State Fault Refusal := ok (heldOf u s)
where
  /-- The stopwatch and PWR tasks are never busy, so nothing of theirs is held. -/
  heldOf (u : Fin 160) (s : State) : State := s.deliverHeld u

/-- STOPWATCH_SATURATE: the count of an armed stopwatch reaches 2^32 - 1 (R490). -/
def execStopwatchSaturate (i : Fin 8) (s : State) : Host.Outcome State Fault Refusal :=
  ok (if s.fld (F.EVF_SWSTAT_STATE i) = 1 ∧ s.swWidth i = 2 ^ 32 - 1 then s.setFld (F.EVF_SWSTAT_SAT i) 1 else s)

/-- SORTER_FILTER_EXPIRY (R480). -/
def execSorterFilterExpiry (n : Fin 16) (s : State) : Host.Outcome State Fault Refusal :=
  ok (if s.weather = .run then s.filterExpiry n else s)

/-- EVF_SWFIRE (R489). -/
def execEvfSwfire (ini : Initiator) (v : Word) (s : State) : Host.Outcome State Fault Refusal :=
  ok (s.cmdWrite ini Reg.EVF_SWFIRE fun s => s.swFire v.toNat)

/-- EVF_CHEN_WRITE (R477, R488). -/
def execEvfChenWrite (ini : Initiator) (k : Fin 32) (v : Word) (s : State) : Host.Outcome State Fault Refusal :=
  ok (s.cmdWrite ini (Reg.EVF_CHEN k) fun s => s.writeChen k v.toNat)

/-- EVF_TASK_WRITE (R478, R488, R500). -/
def execEvfTaskWrite (ini : Initiator) (u : Fin 160) (v : Word) (s : State) : Host.Outcome State Fault Refusal :=
  ok (s.cmdWrite ini (Reg.EVF_TASK u) fun s => s.writeTask u v.toNat)

/-- EVF_SORT_WRITE (R481, R488). -/
def execEvfSortWrite (ini : Initiator) (n : Fin 16) (hi : Bool) (v : Word) (s : State) : Host.Outcome State Fault Refusal :=
  ok (s.cmdWrite ini (if hi then Reg.EVF_SORT1 n else Reg.EVF_SORT0 n) fun s => s.writeSort n hi v.toNat)

/-- HST_IRQ_TASK: an arrival at EVT_HST_IRQ[n] has crossed (R479). -/
def execHstIrqTask (n : Fin 8) (s : State) : Host.Outcome State Fault Refusal :=
  ok (if s.arriving.contains (83 + n) then
      { s with arriving := s.arriving.erase (83 + n) }.sendVec (s.fld (F.EVF_HIRQ_VEC n))
    else s)

/-- TILE_BCHK_TASK: an arrival at EVT_TILE_BCHK[t] has crossed (R479). -/
def execTileBchkTask (t : Fin 32) (s : State) : Host.Outcome State Fault Refusal :=
  ok (if s.arriving.contains (if (t : Nat) < 8 then 120 + t else 128 + t) then
      let s1 := { s with arriving := s.arriving.erase (if (t : Nat) < 8 then 120 + t else 128 + t) }
      if s1.domOn (domTQ t) then s1.tileCheck t false else s1
    else s)

/-- An event start of slot k, once its arrival has crossed: TAG k, NOTIFY 1, no issue seal. Where a port write has filled the
queue meanwhile, or CLc is no longer ON, the arrival meets a busy task (R381, R393, R484). -/
def State.dfaEventStart (s : State) (c k : Nat) : State :=
  if s.arriving.contains (32 + 4 * c + k) then
    let s1 := { s with arriving := s.arriving.erase (32 + 4 * c + k) }
    if s.domOn (domCL c) && !s.dfaFull c then s1.dfaQueue c { slot := k, tag := k, notify := true, src := 3, iseal := false }
    else s1.holdArrival (32 + 4 * c + k)
  else s

/-- DFA_EVENT_START (R381). -/
def execDfaEventStart (c : Fin 4) (k : Fin 4) (s : State) : Host.Outcome State Fault Refusal := ok (s.dfaEventStart c k)

/-- CORE_TASK_START (R342). -/
def execCoreTaskStart (k : Fin 5) (s : State) : Host.Outcome State Fault Refusal := ok (s.taskStart k)

/-- CORE_WAKE (R344). -/
def execCoreWake (k : Fin 5) (s : State) : Host.Outcome State Fault Refusal := ok (s.coreWake k)

end Sys2Proof.Machine
end

