-- ==== Sys2Proof/Machine/Fault.lean ====
section
/-! DEFINITION. Health, disagreement and the fault log (21_faults_and_fencing.md). The watchdog's expiry, which resets
the part, stands in Machine/Resets.lean. -/

namespace Sys2Proof.Machine

open Sys2Proof

/-- Number of health units (Table FLT-1). -/
def healthUnits : Nat := 43

/-- A write of one management state: M set, and D raised to it when it is SUSPECT or FENCED; 3 changes nothing
(R719). -/
def State.manage (s : State) (u v : Nat) : State :=
  if v = 3 then s
  else
    let s1 := s.setHealthM u v
    if s1.healthD u < v then s1.setHealthD u v else s1

/-- A write of FLT_MGMTk: units 12k to 12k + 11 (R719). -/
def State.writeMgmt (s : State) (k v : Nat) : State :=
  (List.range 12).foldl (fun s i => if 12 * k + i < healthUnits then s.manage (12 * k + i) (bitsOf v (2 * i) 2) else s) s

/-- D := M of one unit (R720). -/
def State.release (s : State) (u : Nat) : State := s.setHealthD u (s.healthM u)

/-- A write of FLT_DPREL (R720): one unit, or every unit with ALL. -/
def State.writeDprel (s : State) (v : Nat) : State :=
  if bitOf v 6 then (List.range healthUnits).foldl State.release s
  else if bitsOf v 0 6 < healthUnits then s.release (bitsOf v 0 6)
  else s

/-- The bit of FLT_DIS0-1 of a unit. -/
def disFld (u : Nat) : Fld := if u < 24 then ⟨Reg.FLT_DIS0, u, 1⟩ else ⟨Reg.FLT_DIS1, u - 24, 1⟩

/-- 64 us ticks the disagreement of unit u has lasted, no more than the 158 at which it is reported (R729). -/
def State.disCount (s : State) (u : Nat) : Nat := tabGet (fun _ => 0) s.disTicks u

/-- The units whose disagreement reaches 158 ticks within n ticks: tick by tick, in ascending order of UNIT on each
(R729, R742). -/
def State.disDue (s : State) (n : Nat) : List Nat :=
  let us := (List.range healthUnits).filter s.disagrees
  (List.range (min n 158)).flatMap fun r => us.filter fun u => s.disCount u + r + 1 == 158

/-- n ticks counted for a unit that disagrees. -/
def State.disAdvance (s : State) (n u : Nat) : State :=
  if s.disagrees u then { s with disTicks := tabSet (fun _ => 0) s.disTicks u (min 158 (s.disCount u + n)) } else s

/-- A disagreement is reported: DIS of the unit and of FLT_STATUS, and MGMTDIS (R729). -/
def State.disReport (s : State) (u : Nat) : State :=
  ((s.setFld (disFld u) 1).setFld F.FLT_STATUS_DIS 1).fault 0x10 u (s.healthM u + 4 * s.healthD u) false

/-- n ticks of 64 us pass: the disagreements that have lasted 158 are reported, and HST_IRQSTAT.MGMT is set once (R729,
R742). The tick stops while clk_xo is stopped. -/
def State.disagreement (s : State) (n : Nat) : State :=
  if s.weather = .run then
    let due := s.disDue n
    let s1 := due.foldl State.disReport ((List.range healthUnits).foldl (fun s u => s.disAdvance n u) s)
    if due.isEmpty then s1 else s1.hostEvent 0
  else s

/-- A write of FLT_LOGPOP.POP (R728). -/
def State.logPop (s : State) : State := { s with log := s.log.drop 1 }

/-- A write of FLT_LOGW1: the entry is entered unless its code lies below 0x80 (R735). -/
def State.logWrite (s : State) (v : Nat) : State :=
  if bitsOf v 0 8 < 0x80 then s else s.logEntry (bitsOf v 0 8) (bitsOf v 8 6) (s.fld F.FLT_LOGW0_DETAIL)

/-- A write of FLT_WDCFG (R731). -/
def State.writeWdcfg (s : State) (v : Nat) : State :=
  if s.flag F.FLT_WDCFG_EN then s
  else (s.setFld F.FLT_WDCFG_TIMEOUT (bitsOf v 1 16)).setFld F.FLT_WDCFG_EN (bitsOf v 0 1)

/-! ### Commands -/

/-- FLT_MGMT_WRITE (R719). -/
def execFltMgmtWrite (ini : Initiator) (k : Fin 4) (v : Word) (s : State) : Host.Outcome State Fault Refusal :=
  ok (s.cmdWrite ini (Reg.FLT_MGMT k) fun s => s.writeMgmt k v.toNat)

/-- FLT_DPREL (R720). -/
def execFltDprel (ini : Initiator) (v : Word) (s : State) : Host.Outcome State Fault Refusal :=
  ok (s.cmdWrite ini Reg.FLT_DPREL fun s => s.writeDprel v.toNat)

/-- DISAGREEMENT_REPORT: ticks of 64 us pass, and disagreements that reach 158 of them are reported (R729). -/
def execDisagreementReport (ticks : Nat) (s : State) : Host.Outcome State Fault Refusal := ok (s.disagreement ticks)

/-- WATCHDOG_ENABLE (R731). -/
def execWatchdogEnable (ini : Initiator) (v : Word) (s : State) : Host.Outcome State Fault Refusal :=
  ok (s.cmdWrite ini Reg.FLT_WDCFG fun s => s.writeWdcfg v.toNat)

/-- LOG_POP (R728). -/
def execLogPop (ini : Initiator) (s : State) : Host.Outcome State Fault Refusal :=
  ok (s.cmdWrite ini Reg.FLT_LOGPOP fun s => s.logPop)

/-- LOG_WRITE (R735). -/
def execLogWrite (ini : Initiator) (v : Word) (s : State) : Host.Outcome State Fault Refusal :=
  ok (s.cmdWrite ini Reg.FLT_LOGW1 fun s => s.logWrite v.toNat)

end Sys2Proof.Machine
end

