-- ==== Sys2Proof/Machine/View.lean ====
section
/-! DEFINITION. What a read of a register shows: the stored word, with the fields that show other state computed where
they are read, and the fields whose value the spec leaves open drawn. -/

namespace Sys2Proof.Machine

open Sys2Proof

/-- Fields with the values they show. -/
abbrev Shown := List (Fld × Nat)

/-- The word of the register at `a` with the fields of a list that lie in it. -/
def overlay (a : Nat) (w : Nat) : Shown → Nat
  | [] => w
  | e :: l => overlay a (if e.1.addr = a then putBits w e.1.lo e.1.w e.2 else w) l

/-- One bit for each of n flags. -/
def flagBits (n : Nat) (p : Nat → Bool) : Nat := (List.range n).foldl (fun v i => v + b2n (p i) * 2 ^ i) 0

/-! ### SEAL, CLK, PWR, BOOT -/

/-- Credit, epoch, budget and interval of the zone each register selects; sealed flags of the units (Table SEAL-7). -/
def State.showSeal (s : State) (c : Nat) : Shown :=
  let z (f : Fld) := s.zone (s.fld f)
  [ (F.SEAL_CREDIT_AVAIL, zoneAvail (z F.SEAL_CREDIT_ZONE)), (F.SEAL_CREDIT_SEQ, (z F.SEAL_CREDIT_ZONE).seq),
    (F.SEAL_EPOCH_EPOCH, (z F.SEAL_EPOCH_ZONE).epoch), (F.SEAL_BUDGET_BUDGET, (z F.SEAL_BUDGET_ZONE).budget),
    (F.SEAL_MINIV_MINIV, (z F.SEAL_MINIV_ZONE).miniv),
    (F.SEAL_UNITST_CORE c, b2n (s.core c).sealedSt), (F.SEAL_UNITST_DFA c, b2n (s.dfa c).sealedSt),
    (F.SEAL_UNITST_TAL c, b2n (s.tally c).sealedFlag), (F.SEAL_UNITST_MOV c, b2n (s.mover c).sealedFlag),
    (F.SEAL_UNITST_TILE c, flagBits 8 fun i => (s.tile (8 * c + i)).sealedFlag),
    (F.SEAL_UNITST_WIPING c, b2n ((s.core c).run == .wipe)), (F.SEAL_UNITST_FRESH c, (s.freshOf c).length),
    (F.SEAL_SVST_SV, b2n (s.core 4).sealedSt), (F.SEAL_SVST_WIPING, b2n ((s.core 4).run == .wipe)) ]

/-- Weather and pending transitions (Table PWR-8). -/
def State.showPower (s : State) : Shown :=
  [ (F.PWR_STATE_WEATHER, 2 + s.fld F.PWR_CTRL_MODE),
    (F.PWR_STATE_ANYBUSY, b2n ((List.range domains).any fun d => s.domBusy d || s.flag (F.PWR_DOM_PEND d))) ]

/-! ### CLU, SPD, RND -/

/-- Registers of cluster c (Table SPD-4). -/
def State.showClu (s : State) (c : Nat) : Shown :=
  [ (F.CLU_ID_CLUSTER c, c), (F.SPD_STATUS_CLEARING c, b2n (s.clearing c)) ]

/-- Traffic of stop c and the oldest entry of its log (Table SPD-6). -/
def State.showRnd (s : State) (c : Nat) : Shown :=
  let log := tabGet (fun _ => []) s.mail c
  [ (F.RND_STATUS_BUSY, flagBits 4 fun i => s.flight.any (·.src == i)),
    (F.RND_OUT_OUT c, s.outWrites c), (F.RND_OUT_RD c, s.outReads c), (F.RND_RMCNT_COUNT c, log.length) ] ++
  match log with
  | e :: _ =>
    [ (F.RND_RMLOG0_ROW c, e.row), (F.RND_RMLOG0_SRC c, e.src), (F.RND_RMLOG0_CAUSE c, e.cause), (F.RND_RMLOG0_VALID c, 1),
      (F.RND_RMLOG0_WIDE c, b2n e.wide), (F.RND_RMLOG0_SEALED c, b2n e.masked), (F.RND_RMLOG1_CTX c, e.ctx) ]
  | [] => []

/-! ### TILE, CAL -/

/-- The selected column accumulator, as 32 bits. -/
def State.colAcc (s : State) (t : Nat) : Nat :=
  if s.fld (F.TILE_COLSEL_COL t) < 384 then unsigned 32 (tabGet (fun _ => 0) (s.tile t).acc (s.fld (F.TILE_COLSEL_COL t))) else 0

/-- Registers of tile t; `n` is the spare row shown (Tables TILE-10, CAL). -/
def State.showTile (s : State) (t n : Nat) : Shown :=
  let x := s.tile t
  let e := tabGet (fun _ => ({} : Spare)) x.spares n
  [ (F.TILE_ID_TILE t, t), (F.TILE_STATE_STATE t, s.tileState t), (F.TILE_STATE_SEALED t, b2n x.sealedFlag),
    (F.TILE_STATE_QDEPTH t, s.tileDepth t), (F.TILE_STATE_LONG t, b2n x.long.isSome),
    (F.TILE_STATE_KIND t, match x.long with | some l => b2n (l.kind == .wipe) | none => 0),
    (F.TILE_GEN_GEN t, x.gen), (F.TILE_GEN_VALID t, b2n x.genValid),
    (F.TILE_COLACC0_ACC t, s.colAcc t), (F.TILE_COLACC1_ACC t, s.colAcc t / 2 ^ 24),
    (F.TILE_SPARE_LROW t n, e.lrow), (F.TILE_SPARE_VALID t n, b2n e.valid), (F.TILE_SPARE_BAD t n, b2n e.bad),
    (F.CAL_STAT_PAIROK t, b2n (s.pairOk t)) ]

/-! ### TAL, MOV, DFA -/

/-- Registers of the tally unit of cluster c (Table TOP-15). -/
def State.showTally (s : State) (c : Nat) : Shown :=
  let u := s.tally c
  [ (F.TAL_STATUS_QDEPTH c, u.entries.length), (F.TAL_STATUS_BUSY c, b2n (u.entries.any (·.phase != .queued))),
    (F.TAL_CPLCNT_COUNT c, u.cpl.length) ] ++
  match u.cpl with
  | e :: _ =>
    [ (F.TAL_CPL_TAG c, e.tag), (F.TAL_CPL_STATUS c, e.status), (F.TAL_CPL_OPC c, e.opc), (F.TAL_CPL_MIXED c, b2n e.mixed),
      (F.TAL_CPL_SEALED c, b2n e.sealedOut), (F.TAL_CPL_PORT c, e.port), (F.TAL_CPL_VALID c, 1) ]
  | [] => []

/-- Registers of the mover of cluster c (Table TOP-16). -/
def State.showMover (s : State) (c : Nat) : Shown :=
  let u := s.mover c
  [ (F.MOV_STATUS_QDEPTH c, u.jobs.length), (F.MOV_STATUS_BUSY c, b2n (u.jobs.any (·.running))),
    (F.MOV_CPLCNT_COUNT c, u.cpl.length) ] ++
  match u.cpl with
  | e :: _ =>
    [ (F.MOV_CPL_TAG c, e.tag), (F.MOV_CPL_STATUS c, e.status), (F.MOV_CPL_PORT c, e.port), (F.MOV_CPL_VALID c, 1),
      (F.MOV_CPL_ROWS c, e.rows) ]
  | [] => []

/-- Registers of the dataflow array of cluster c (Table DFA). -/
def State.showDfa (s : State) (c : Nat) : Shown :=
  let d := s.dfa c
  [ (F.DFA_STATUS_QDEPTH c, s.dfaDepth c), (F.DFA_STATUS_RUN c, b2n d.run.isSome),
    (F.DFA_STATUS_LOADRUN c, b2n d.load.isSome), (F.DFA_CPLCNT_COUNT c, d.cpl.length),
    (F.DFA_RBAD_ROUND c, flagBits 8 d.roundBad) ] ++
  (match d.run with
   | some r =>
     [ (F.DFA_STATUS_SLOT c, r.start.slot), (F.DFA_STATUS_ENTRY c, r.entry), (F.DFA_POS_STEP c, r.step),
       (F.DFA_POS_ITER c, r.iter) ]
   | none => []) ++
  match d.cpl with
  | e :: _ =>
    [ (F.DFA_CPL_TAG c, e.tag), (F.DFA_CPL_STATUS c, e.status), (F.DFA_CPL_SLOT c, e.slot), (F.DFA_CPL_SRC c, e.src),
      (F.DFA_CPL_SEALED c, b2n e.sealedRun), (F.DFA_CPL_EXH c, b2n e.exh), (F.DFA_CPL_VALID c, 1) ]
  | [] => []

/-! ### HST, QUE, doorbell pages -/

/-- Registers of the HST and QUE blocks; `q` is the queue, `c` the cluster shown. -/
def State.showHost (s : State) (q c : Nat) : Shown :=
  [ (F.HST_ID1_VENDOR, Config.vendorId), (F.HST_LINK_HOSTSEL, s.fld F.BOOT_STRAP_HOSTSEL),
    (F.HST_SPISTAT_IRQ, b2n s.hirqLow),
    (F.QUE_QSTATE_INFLY q, s.flyQ q), (F.QUE_FLY_TOTAL, s.flyAll),
    (F.QUE_FLYCL_CL, (List.range 4).foldl (fun v i => v + s.flyCl i % 32 * 32 ^ i) 0),
    (F.QUE_CLASSIGN_PEND c, s.fld (F.CLU_OWNER_PEND c)) ]

/-- The words of the doorbell page of queue q (Table HOST-4). -/
def State.showDoor (s : State) (q : Nat) : Shown :=
  [ (F.DB_TAIL_TAIL q, s.fld (F.QUE_QPTR_TAIL q)), (F.DB_HEAD_HEAD q, s.fld (F.QUE_QPTR_HEAD q)),
    (F.DB_STATE_STATE q, s.fld (F.QUE_QSTATE_STATE q)), (F.DB_STATE_LASTSTAT q, s.fld (F.QUE_QSTATE_LASTSTAT q)),
    (F.DB_PROG_ALL q, s.fld (F.QUE_QPROG_ALL q)),
    (F.DB_FSTATE_ALL q, (s.reg (Reg.QUE_FSTATE (s.fld (F.DB_FSEL_INDEX q)))).toNat),
    (F.DB_DONE_COUNT q, s.fld (F.QUE_QDONE_COUNT q)) ]

/-! ### EVF, RTC, PST, CIP -/

/-- Tainted channels, busy tasks, the live time. -/
def State.showEvents (s : State) (u : Nat) : Shown :=
  [ (F.EVF_TAINT0_CH, flagBits 24 s.tainted.contains), (F.EVF_TAINT1_CH, flagBits 8 fun i => s.tainted.contains (24 + i)),
    (F.EVF_TASK_BUSY u, b2n (s.taskBusy u)),
    (F.RTC_SEC0_SEC, s.rtc.sec), (F.RTC_SEC1_SEC, s.rtc.sec / 2 ^ 24), (F.RTC_SUB_SUB, s.rtc.sub) ]

/-- The store's command and counts, and the selected page. -/
def State.showPst (s : State) : Shown :=
  let p := if s.flag F.PST_STATUS_MOUNTED then s.page (s.fld F.PST_PGSEL_PAGE) else {}
  let m (v : Nat) : Nat := if s.flag F.PST_STATUS_MOUNTED then v else 0
  [ (F.PST_STATUS_BUSY, b2n s.pstOp.isSome), (F.PST_STATUS_STEP, match s.pstOp with | some o => o.step | none => 0),
    (F.PST_COUNT_RECORDS, m s.pstRecords), (F.PST_COUNT_SPARE, m (min 255 s.candidates.length)),
    (F.PST_COUNT_RETIRED, m s.pstRetired), (F.PST_WEAR_MAX, m s.pstWear), (F.PST_PGINFO_STATE, p.cls), (F.PST_PGINFO_WEAR, p.wear),
    (F.PST_PGINFO_KNOWN, b2n p.known), (F.PST_PGINFO_RETIRED, b2n p.retired) ]

/-- The AES engine as an initiator sees it (R557, R558); `k` is the key slot, `w` the buffer word shown. -/
def State.showCip (s : State) (ini : Initiator) (k w : Nat) : Shown :=
  let o := cipOwner ini
  let who := if o = 0 then s.cipHolder else o
  let r := if who = 0 then (0, 0) else s.cipRec who
  let x := s.cipKey k
  [ (F.CIP_LOCK_MINE, b2n (o != 0 && o == s.cipHolder)), (F.CIP_LOCK_LENT, b2n s.lent), (F.CIP_LOCK_WAIT, s.cip.queue.length),
    (F.CIP_STATUS_CODE, r.1), (F.CIP_STATUS_OP, r.2), (F.CIP_STATUS_BUSY, b2n s.cip.op.isSome),
    (F.CIP_STATUS_CTXACT, b2n s.cip.ctx.isSome),
    (F.CIP_KINFO_VALID k, b2n x.valid), (F.CIP_KINFO_SIZE k, x.size), (F.CIP_KINFO_USE k, x.use),
    (F.CIP_KINFO_FUSED k, b2n (k == 0)),
    (F.CIP_BUF_DATA w, ofBytes (tabGetList (fun _ => 0) s.cip.buf (3 * w) 3)) ]

/-- A register that only the holder of the lock reads (R557). -/
def cipSecret (a : Nat) : Bool := (decide (Reg.CIP_IV 0 ≤ a) && decide (a < Reg.CIP_LBL 0)) || decide (Reg.CIP_BUF 0 ≤ a)

/-! ### RAD, LNK, WIR -/

/-- Three bytes of a list as a word. -/
def wordAt (bs : List Byte) (w : Nat) : Nat := ofBytes ((bs.drop (3 * w)).take 3)

/-- The radio's state: switching and settling are not shown (log entry 8). -/
def State.radState (s : State) : Nat :=
  if !s.rfOn then 0 else if s.lnk.onAir.isSome then 3 else if s.lnk.rxLink.isSome || s.csmaMode then 2 else 1

/-- Registers of the radio and the slot engine with the entries they select; `i` is the word of a descriptor or
entry, `w` that of a memory window (Tables RAD-9 to RAD-12). -/
def State.showLink (s : State) (i w : Nat) : Shown :=
  let l := s.link (s.fld F.LNK_LSEL_LINK)
  let b := s.tx s.txSel
  [ (F.RAD_STAT_STATE, s.radState), (F.LNK_TIME0_TIME, s.lnkTime), (F.LNK_TIME1_TIME, s.lnkTime / 2 ^ 24),
    (F.LNK_LINK0_ALL, l.1), (F.LNK_LINK1_ALL, l.2), (F.LNK_NBR_ALL i, (s.nbr (s.fld F.LNK_NSEL_NBR)).word i),
    (F.LNK_TXD_ALL i, (if i = 0 then b.d0 else if i = 1 then b.d1 else b.d2).toNat),
    (F.LNK_TXST_STATE, b.st), (F.LNK_TXST_STATUS, b.status), (F.LNK_TXST_TRIES, b.tries), (F.LNK_TXST_LENGTH, b.len),
    (F.LNK_TXMEM_DATA w, wordAt (b.bytes 129) w), (F.LNK_RXSTAT_COUNT, s.lnk.rx.length),
    (F.LNK_RXSTAT_VALID, b2n !s.lnk.rx.isEmpty) ] ++
  match s.lnk.rx with
  | e :: _ =>
    [ (F.LNK_RXMETA0_LEN, e.psdu.length), (F.LNK_RXMETA0_NBR, e.nbr), (F.LNK_RXMETA0_VER, e.ver),
      (F.LNK_RXMETA0_SECOK, b2n e.secok), (F.LNK_RXMETA0_NONBR, b2n e.nonbr), (F.LNK_RXMETA0_CHAN, e.chan),
      (F.LNK_RXMETA1_RSSI_LQI_RSSICLIP, e.rssi % 256 + 256 * (e.lqi % 256) + 65536 * b2n e.clip),
      (F.LNK_RXMETA2_TSTAMP, e.stamp), (F.LNK_RXMETA3_TSTAMP, e.stamp / 2 ^ 24), (F.LNK_RXMETA3_ASN, e.asn),
      (F.LNK_RXMETA4_ASN, e.asn / 2 ^ 16), (F.LNK_RXMEM_DATA w, wordAt e.psdu w) ]
  | [] => []

/-- Registers of the wired MAC with the buffer they select (Tables WIR-10, WIR-11). -/
def State.showWired (s : State) (i w : Nat) : Shown :=
  let b := s.wbuf s.wirSel
  [ (F.WIR_TXD_ALL i, (if i = 0 then b.d0 else if i = 1 then b.d1 else b.d2).toNat), (F.WIR_TXST_STATE, b.st),
    (F.WIR_TXST_STATUS, b.status), (F.WIR_TXST_LENGTH, b.len),
    (F.WIR_TXMEM_DATA w, ofBytes (tabGetList (fun _ => 0) b.mem (3 * w) 3)), (F.WIR_RXSTAT_COUNT, s.wir.rx.length),
    (F.WIR_RXSTAT_VALID, b2n !s.wir.rx.isEmpty) ] ++
  match s.wir.rx with
  | e :: _ =>
    [ (F.WIR_RXMETA0_LEN, e.bytes.length), (F.WIR_RXMETA0_DUP, b2n e.dup), (F.WIR_RXMETA0_SECOK, b2n e.secok),
      (F.WIR_RXMETA0_WRH, b2n e.wrh), (F.WIR_RXMETA1_AMP, e.amp), (F.WIR_RXMETA1_SQI, e.sqi),
      (F.WIR_RXMEM_DATA w, wordAt e.bytes w) ]
  | [] => []

/-! ### SNS, FLT, DBG -/

/-- Busy ports. -/
def State.showSensors (s : State) : Shown := [ (F.SNS_BUSY_BUSY, flagBits 11 s.portBusy) ]

/-- The fault log's oldest entry, effective states and disagreements; `k` is the word shown. -/
def State.showFault (s : State) (k : Nat) : Shown :=
  [ (F.FLT_LOGCNT_COUNT, s.log.length),
    (F.FLT_EFF_E k, (List.range 12).foldl (fun v i => v + s.healthE (12 * k + i) * 4 ^ i) 0),
    (F.FLT_DISNOW0_UNIT, flagBits 24 s.disagrees), (F.FLT_DISNOW1_UNIT, flagBits 19 fun i => s.disagrees (24 + i)) ] ++
  match s.log with
  | e :: _ =>
    [ (F.FLT_LOG0_CODE, e.code), (F.FLT_LOG0_UNIT, e.unit), (F.FLT_LOG0_VALID, 1), (F.FLT_LOG0_BOOT, e.boot),
      (F.FLT_LOG1_DETAIL, e.detail), (F.FLT_LOG2_SEC, e.sec) ]
  | [] => []

/-- Table DBG-3 for core k: the register an index names. -/
def State.debugReg (s : State) (k r : Nat) : Nat :=
  let c := s.core k
  let a0 := unsigned 56 (c.acc 0)
  let a1 := unsigned 56 (c.acc 1)
  if r < 16 then (c.reg r).toNat
  else if r = 16 then a0 % 2 ^ 24
  else if r = 17 then bitsOf a0 24 24
  else if r = 18 then unsigned 24 (signed 8 (bitsOf a0 48 8))
  else if r = 19 then a1 % 2 ^ 24
  else if r = 20 then bitsOf a1 24 24
  else if r = 21 then unsigned 24 (signed 8 (bitsOf a1 48 8))
  else if r = 22 then c.pc.toNat
  else if 0x400 ≤ r ∧ csrListed (r - 0x400) then (s.csr k (r - 0x400)).toNat
  else 0

/-- The core DBG_CSEL selects. -/
def State.debugCore (s : State) : Nat := s.fld F.DBG_CSEL_CORE

/-- The selected core is halted. -/
def State.debugHalted (s : State) : Bool := decide (s.debugCore < 5) && (s.core s.debugCore).run == .halt

/-- Registers of the DBG block (Table DBG-5). -/
def State.showDebug (s : State) : Shown :=
  [ (F.DBG_STATUS_ENABLED, b2n s.debugOn), (F.DBG_STATUS_FIELDMASK, b2n (s.fld F.BOOT_FUSE_LIFECYCLE == 2)),
    (F.DBG_STATUS_HALTED, flagBits 5 fun k => (s.core k).run == .halt),
    (F.DBG_STATUS_WIPEWAIT, flagBits 5 fun k => (s.core k).haltWait && ((s.core k).run == .wipe || (s.core k).sealedSt)),
    (F.DBG_CDATA_DATA, if s.debugHalted && s.debugOn then s.debugReg s.debugCore (s.fld F.DBG_CSEL_REG) else 0) ]

/-! ### The read -/

/-- The computed fields of the block that holds the address (Table CLK-7). -/
def State.shown (s : State) (ini : Initiator) (a : Nat) : Shown :=
  let o := a % 0x10000
  if a < 0x05000000 then s.showTile ((a - 0x01000000) / 0x10000 % 32) ((o - 0x80) / 4 % 8)
  else if a < 0x05010000 then s.showPower
  else if a < 0x05030000 then s.showEvents ((o - 0x800) / 4 % 160)
  else if a < 0x05040000 then s.showSeal ((o - 0x100) / 0x20 % 4)
  else if a < 0x05050000 then []
  else if a < 0x05060000 then s.showPower
  else if a < 0x05070000 then s.showPst
  else if a < 0x05080000 then s.showCip ini ((o - 0x100) / 4 % 16) ((o - 0x400) / 4 % 342)
  else if a < 0x050A0000 then
    s.showLink (if o < 0x100 then (o - 0x94) / 4 % 6 else (o - 0x104) / 4 % 3)
      (if o < 0x300 then (o - 0x200) / 4 % 43 else (o - 0x400) / 4 % 43)
  else if a < 0x050B0000 then
    s.showWired ((o - 0x104) / 4 % 3) (if o < 0xA00 then (o - 0x200) / 4 % 512 else (o - 0xC00) / 4 % 512)
  else if a < 0x050D0000 then s.showHost (o / 0x40 % 64) ((o - 0x1010) / 4 % 4)
  else if a < 0x050E0000 then s.showSensors
  else if a < 0x050F0000 then s.showFault ((o - 0x60) / 4 % 4)
  else if a < 0x06000000 then s.showDebug
  else if a < 0x06400000 then
    let c := (a - 0x06000000) / 0x100000
    if a % 0x100000 < 0x10000 then s.showClu c
    else if a % 0x100000 < 0x20000 then s.showDfa c
    else if a % 0x100000 < 0x30000 then s.showTally c
    else if a % 0x100000 < 0x40000 then s.showMover c
    else s.showClu c
  else if a < 0x08000000 then s.showRnd ((o - 0x100) / 0x40 % 4)
  else s.showDoor ((a - 0x08000000) / 0x1000 % 64)

/-- A field of the register at `a` whose value the spec leaves open at this moment, and the number of its values: bank
waits and conflicts, packets at an ingress port, KIND of a refresh, the synthesiser's lock, bytes behind a frame. -/
def State.openField (s : State) (a : Nat) : Option (Fld × Nat) :=
  let c := (a - 0x06000000) / 0x100000 % 4
  let behind (len : Option Nat) (base : Nat) : Option (Fld × Nat) :=
    match len with
    | some n =>
      let k := 3 - min 3 (n - 3 * ((a - base) / 4))
      if k = 0 then none else some (⟨a, 24 - 8 * k, 8 * k⟩, 2 ^ (8 * k))
    | none => none
  if a = Reg.SPD_WAITMAX c then some (F.SPD_WAITMAX_MAX c, 9)
  else if a = Reg.SPD_CONFL c then some (F.SPD_CONFL_COUNT c, 2 ^ 24)
  else if a = Reg.SPD_STATUS c ∧ (s.flight.any fun p => p.tgt == c && p.stage == .flying) = true then
    some (F.SPD_STATUS_INGRESS c, 2)
  else if a = Reg.SNS_GPIOIN0 then some (F.SNS_GPIOIN0_LEVEL, 2 ^ 24)
  else if a = Reg.RAD_STAT ∧ s.rfOn = true then some (F.RAD_STAT_PLLLOCK, 2)
  else if Reg.LNK_RXMEM 0 ≤ a ∧ a < Reg.LNK_RXMEM 43 then behind (s.lnk.rx.head?.map fun e => e.psdu.length) (Reg.LNK_RXMEM 0)
  else if Reg.WIR_RXMEM 0 ≤ a ∧ a < Reg.WIR_RXMEM 512 then behind (s.wir.rx.head?.map fun e => e.bytes.length) (Reg.WIR_RXMEM 0)
  else none

/-- What a read of the register at `a` returns to an initiator, before its RC fields are cleared; 0 where no register
stands (R11, R13). -/
def State.viewWord (s : State) (ini : Initiator) (a : Nat) : Nat :=
  match regRow a with
  | none => 0
  | some r =>
    if 0x05070000 ≤ a ∧ a < 0x05080000 ∧ cipSecret a ∧ (cipOwner ini = 0 ∨ cipOwner ini ≠ s.cipHolder) then 0
    else
      let w := overlay a (s.reg a).toNat (s.shown ini a)
      rowRead r.flds (match s.openField a with
        | some o => putBits w o.1.lo o.1.w (if a = Reg.SNS_GPIOIN0 then s.gpioLevels else s.open_ o.2)
        | none => w)

/-- The state after a read of bytes `lo` to `lo + n - 1` of the register at `a`: an open field has been drawn, the RC fields
read are cleared (R11, R14). -/
def State.afterRead (s : State) (a lo n : Nat) : State :=
  let s1 := if (s.openField a).isSome then s.drawn else s
  match regRow a with
  | some r => if rowHasRc r.flds then s1.setReg a (BitVec.ofNat 24 (rowAfterRead lo n r.flds (s1.reg a).toNat)) else s1
  | none => s1

end Sys2Proof.Machine
end

