-- ==== Sys2Proof/Machine/Halt.lean ====
section
/-! DEFINITION. Debug's control of the cores: halt, resume, step, start, and the registers of a halted core (R74, R753-R755,
R759). -/

namespace Sys2Proof.Machine

open Sys2Proof

/-- The cores a mask names. -/
def coresOf (v : Nat) : List Nat := (List.range 5).filter (bitOf v)

/-- Core k halts at its next instruction boundary, after the wipe where it is sealed; one in RESET, FAULT or HALT is not
affected. -/
def State.haltCore (s : State) (k : Nat) : State :=
  let c := s.core k
  match c.run with
  | .reset | .fault | .halt => s
  | _ => s.setCore k { c with haltWait := true, stepping := false }.settle

/-- A halted core returns to RUN at its pc. -/
def State.resumeCore (s : State) (k : Nat) : State :=
  if (s.core k).run = .halt then s.setCore k { s.core k with run := .run } else s

/-- A halted core runs one instruction and halts again. -/
def State.stepCore (s : State) (k : Nat) : State :=
  if (s.core k).run = .halt then s.setCore k { s.core k with run := .run, stepping := true } else s

/-- A core moves from RESET to RUN at DBG_STARTPC, its domain being ON. Before DONE no control core other than SV runs, and SV
runs the boot loader, so nothing is started then (R137); in the production test condition no boot loader runs (R756). -/
def State.debugStart (s : State) (k : Nat) : State :=
  if (s.core k).run = .reset ∧ s.domOn (coreDom k) = true ∧
      (s.flag F.BOOT_STATUS_DONE = true ∨ s.fld F.BOOT_STRAP_EFFSRC = 3) then
    s.setCore k { s.core k with run := .run, pc := BitVec.ofNat 16 (s.fld F.DBG_STARTPC_PC), tvalid := false }
  else s

/-- A write of DBG_HALT. -/
def State.writeHalt (s : State) (v : Nat) : State :=
  if s.debugOn then (coresOf v).foldl State.haltCore s else s

/-- A write of DBG_RESUME: RUN in bits [4:0], STEP in bits [9:5]. -/
def State.writeResume (s : State) (v : Nat) : State :=
  if s.debugOn then (coresOf (v / 32)).foldl State.stepCore ((coresOf v).foldl State.resumeCore s) else s

/-- A write of DBG_START. -/
def State.writeStart (s : State) (v : Nat) : State :=
  if s.debugOn then (coresOf v).foldl State.debugStart s else s

/-- Table DBG-3: a register of a halted core written. -/
def CoreSt.writeDebug (c : CoreSt) (r v : Nat) : CoreSt :=
  let part (x lo w : Nat) : CoreSt := c.setAcc x (putBits (unsigned 56 (c.acc x)) lo w v : Nat)
  if r < 16 then c.setReg r (BitVec.ofNat 24 v)
  else if r = 16 then part 0 0 24
  else if r = 17 then part 0 24 24
  else if r = 18 then part 0 48 8
  else if r = 19 then part 1 0 24
  else if r = 20 then part 1 24 24
  else if r = 21 then part 1 48 8
  else if r = 22 then { c with pc := BitVec.ofNat 16 v }
  else if 0x400 ≤ r then c.writeCsr (r - 0x400) (BitVec.ofNat 24 v)
  else c

/-- A write of DBG_CDATA. -/
def State.writeCdata (s : State) (v : Nat) : State :=
  if !s.debugOn then s
  else if s.debugHalted then s.setCore s.debugCore ((s.core s.debugCore).writeDebug (s.fld F.DBG_CSEL_REG) v)
  else s.setFld F.DBG_STATUS_NOTHALT 1

/-- What a read of DBG_CDATA leaves: NOTHALT where the selected core is not halted. -/
def State.afterCdata (s : State) : State :=
  if !s.debugOn || s.debugHalted then s
  else s.setFld F.DBG_STATUS_NOTHALT 1

/-! ### Commands -/

/-- DBG_HALT (R754). -/
def execDbgHalt (ini : Initiator) (v : Fin 32) (s : State) : Host.Outcome State Fault Refusal :=
  ok (s.cmdWrite ini Reg.DBG_HALT fun s => s.writeHalt v)

/-- DBG_HALT_TASK: an arrival at EVT_DBG_HALT[n] acts; where debug is not enabled it is discarded (R479, R754, R755). -/
def execDbgHaltTask (n : Fin 4) (s : State) : Host.Outcome State Fault Refusal :=
  ok (if s.arriving.contains (91 + n) then
      let s1 := { s with arriving := s.arriving.filter (· != 91 + n) }
      if s1.debugOn then s1.haltCore n else s1.returnArrival (91 + n)
    else s)

/-- DBG_RESUME: RUN for the cores a mask names (R754). -/
def execDbgResume (ini : Initiator) (v : Fin 32) (s : State) : Host.Outcome State Fault Refusal :=
  ok (s.cmdWrite ini Reg.DBG_RESUME fun s => s.writeResume v)

/-- DBG_STEP: STEP of the cores a mask names (R754). -/
def execDbgStep (ini : Initiator) (v : Fin 32) (s : State) : Host.Outcome State Fault Refusal :=
  ok (s.cmdWrite ini Reg.DBG_RESUME fun s => s.writeResume (32 * v))

/-- DBG_START (R754). -/
def execDbgStart (ini : Initiator) (v : Fin 32) (s : State) : Host.Outcome State Fault Refusal :=
  ok (s.cmdWrite ini Reg.DBG_START fun s => s.writeStart v)

end Sys2Proof.Machine
end

