-- ==== Sys2Proof/Machine/Host.lean ====
section
/-! DEFINITION. The PCI Express function: link, MSI-X, configuration space (R427, R434, R435). -/

namespace Sys2Proof.Machine

open Sys2Proof

/-- The pending message of a vector goes out once nothing masks it (R434, R475). -/
def State.flushVec (s : State) (v : Nat) : State :=
  if tabGet (fun _ => false) s.msixPend v && s.msixEnable && !s.msixMaskAll && !(s.msixOf v).masked && s.flag F.HST_LINK_UP then
    { s with
      msixPend := tabSet (fun _ => false) s.msixPend v false
      messages := s.messages ++ [((s.msixOf v).addrLo + 2 ^ 32 * (s.msixOf v).addrHi, (s.msixOf v).data)] }
  else s

/-- Every vector's pending message, in ascending order. -/
def State.flushVecs (s : State) : State := (List.range 64).foldl State.flushVec s

/-- An entry of the MSI-X table written by the host. -/
def State.setMsix (s : State) (v : Nat) (e : MsixEntry) : State :=
  { s with msix := tabSet (fun _ => {}) s.msix v e }.flushVec v

/-- The link trains with a partner that offers a speed and a width (R427, HST_LINKCFG). -/
def State.train (s : State) (speed : Nat) (x2 : Bool) : State :=
  ((s.setFld F.HST_LINK_SPEED (min (max 1 speed) (max 1 (s.fld F.HST_LINKCFG_MAXSPD)))).setFld F.HST_LINK_WIDTH
    (if x2 && !s.flag F.HST_LINKCFG_X1ONLY then 2 else 1)).setFld F.HST_LINK_UP 1

/-- The link goes down (R435). -/
def State.pcieDown (s : State) : State :=
  ((s.setFld F.HST_LINK_SPEED 0).setFld F.HST_LINK_WIDTH 0).setFld F.HST_LINK_UP 0

/-- The link comes up or goes down (R435); it is up only while clk_pcie runs from the reference clock (R78, Table CLK-1). -/
def State.linkChange (s : State) (up : Bool) (speed : Nat) (x2 : Bool) : State :=
  if !s.domOn 5 then s
  else if up then (if s.flag F.CLK_STATUS_PCIEREF then s.train speed x2 else s)
  else s.pcieDown

/-- The reference clock appears or disappears; without it no clock runs the link, which is down (R78, Table CLK-1; log
entry 71). -/
def State.refclkChange (s : State) (on : Bool) : State :=
  let s1 := s.setFld F.CLK_STATUS_PCIEREF (b2n on)
  if on then s1 else s1.pcieDown

/-- The part has reached DONE: its host ports take every access (R137, R439). -/
def State.hostLive (s : State) : Bool := s.fld F.BOOT_STATUS_STAGE == 6

/-- A host access that has no device address and is handled as R95 states, at an offset Table HOST-1 does not list or at the
MSI-X structures before DONE; the address recorded is open. -/
def State.barMiss (s : State) (wr : Bool) : State := s.drawn.addrErr .pcie (s.open_ (2 ^ 32)) wr

/-! ### The configuration space (R427, R429, R430; log entry 82) -/

/-- Bits of a configuration doubleword that the spec fixes: where they stand, and what they read. -/
structure CfgBits where
  dw : Nat
  mask : Nat
  value : Nat

/-- The doubleword of the Power Management, MSI-X or PCI Express capability; the spec gives no place, so each stands at a
free distance from the one before. -/
def capAt : Nat → Nat
  | 0 => 16 + Config.capGap 0 % 8
  | 1 => capAt 0 + 2 + Config.capGap 1 % 8
  | n + 2 => capAt (n + 1) + 3 + Config.capGap (n + 2) % 8

/-- The first doubleword of a capability: its ID and the byte address of the next one. -/
def capHead (id next : Nat) : Nat := id + 2 ^ 8 * (4 * next)

/-- What the header and the capabilities hold: IDs, class, revision, header type 0 of one function; BAR0 of 16 MiB and BAR2
of 8 MiB, both 64-bit and non-prefetchable, and no other BAR; the capabilities Power Management (no D1, no D2), MSI-X (64
vectors, table and pending bits in BAR0 as Table HOST-1 places them), PCI Express (256-byte payloads, 8-bit tags, function-level
reset, 8.0 GT/s, two lanes, ASPM L1 alone) and, in the extended space, Advanced Error Reporting. -/
def State.cfgBits (s : State) : List CfgBits :=
  let pm := capAt 0
  let mx := capAt 1
  let ex := capAt 2
  [ ⟨0, 2 ^ 32 - 1, Config.vendorId % 2 ^ 16 + 2 ^ 16 * 0x3248⟩,
    ⟨1, 2 ^ 20, 2 ^ 20⟩,
    ⟨2, 2 ^ 32 - 1, 0x21 + 2 ^ 8 * 0x120000⟩,
    ⟨3, 0x00FF0000, 0⟩,
    ⟨4, 2 ^ 32 - 1, bitsOf s.pcie.bar0.toNat 24 8 * 2 ^ 24 + 4⟩,
    ⟨5, 2 ^ 32 - 1, bitsOf s.pcie.bar0.toNat 32 32⟩,
    ⟨6, 2 ^ 32 - 1, bitsOf s.pcie.bar2.toNat 23 9 * 2 ^ 23 + 4⟩,
    ⟨7, 2 ^ 32 - 1, bitsOf s.pcie.bar2.toNat 32 32⟩,
    ⟨8, 2 ^ 32 - 1, 0⟩,
    ⟨9, 2 ^ 32 - 1, 0⟩,
    ⟨13, 0xFF, 4 * pm⟩,
    ⟨pm, 0x0600FFFF, capHead 0x01 mx⟩,
    ⟨pm + 1, 3, 3 * s.fld F.HST_LINK_D3⟩,
    ⟨mx, 0xC7FFFFFF, capHead 0x11 ex + 2 ^ 16 * 63 + 2 ^ 30 * b2n s.msixMaskAll + 2 ^ 31 * b2n s.msixEnable⟩,
    ⟨mx + 1, 2 ^ 32 - 1, 0xF00000⟩,
    ⟨mx + 2, 2 ^ 32 - 1, 0xF01000⟩,
    ⟨ex, 0x00F0FFFF, capHead 0x10 0⟩,
    ⟨ex + 1, 0x10000027, 0x10000021⟩,
    ⟨ex + 2, 0x70E0, 2 ^ 5 * b2n s.pcie.mps256 + 2 ^ 12 * s.pcie.mrrs⟩,
    ⟨ex + 3, 0xFFF, 3 + 2 ^ 4 * 2 + 2 ^ 11⟩,
    ⟨ex + 4, 0x03FF0003, 2 * b2n s.pcie.l1 + 2 ^ 16 * s.fld F.HST_LINK_SPEED + 2 ^ 20 * s.fld F.HST_LINK_WIDTH⟩,
    ⟨64, 0xFFF0FFFF, 0x0001⟩ ]

/-- A read of a configuration doubleword: what the spec fixes of it; the rest of it, and a doubleword of which it fixes
nothing, is open. -/
def State.configRead (s : State) (dw : Nat) : State :=
  match s.cfgBits.find? (·.dw == dw) with
  | some b => { s.drawn with readData := toBytes 4 (b.value ||| (s.open_ (2 ^ 32) &&& (2 ^ 32 - 1 - b.mask))) }
  | none => { s.drawn with readData := toBytes 4 (s.open_ (2 ^ 32)) }

/-- A configuration request. -/
def State.config (s : State) (a : PcieConfig) : State :=
  if s.stopped || !s.flag F.HST_LINK_UP then s
  else match a with
  | .read dw => s.configRead dw
  | .d3hot on => s.setFld F.HST_LINK_D3 (b2n on)
  | .msix enable mask => { s with msixEnable := enable, msixMaskAll := mask }.flushVecs
  | .payload mps256 mrrs l1 => { s with pcie := { s.pcie with mps256 := mps256, mrrs := mrrs, l1 := l1 } }
  | .bar bar2 v => { s with pcie := if bar2 then { s.pcie with bar2 := v } else { s.pcie with bar0 := v } }

/-! ### Commands -/

/-- PCIE_LINK_CHANGE (R435). -/
def execPcieLinkChange (up : Bool) (speed : Fin 4) (x2 : Bool) (s : State) : Host.Outcome State Fault Refusal :=
  ok (s.linkChange up speed x2)

/-- LINK_RETRAIN: a write of HST_LINKCFG.RETRAIN (R427). -/
def execLinkRetrain (ini : Initiator) (speed : Fin 4) (x2 : Bool) (s : State) : Host.Outcome State Fault Refusal :=
  ok (s.cmdWrite ini Reg.HST_LINKCFG fun s => if s.flag F.HST_LINK_UP then s.train speed x2 else s)

/-- MSIX_UNMASK: the host clears the mask of a vector (R475). -/
def execMsixUnmask (v : Fin 64) (s : State) : Host.Outcome State Fault Refusal :=
  ok (if !s.barOpen then s
    else if s.hostLive then s.setMsix v { s.msixOf v with masked := false }
    else s.barMiss true)

/-- PCIE_REFCLK_CHANGE: the reference clock appears or disappears (R78). -/
def execPcieRefclkChange (on : Bool) (s : State) : Host.Outcome State Fault Refusal := ok (s.refclkChange on)

/-- PCIE_CONFIG_ACCESS (R427). -/
def execPcieConfigAccess (a : PcieConfig) (s : State) : Host.Outcome State Fault Refusal := ok (s.config a)

end Sys2Proof.Machine
end

