-- ==== Sys2Proof/Machine/Resets.lean ====
section
/-! DEFINITION. The resets of Table CLK-5 with what each clears (Table CLK-6), Frost, and the watchdog (R89-R92, R99-R102,
R120, R123, R463, R732). -/

namespace Sys2Proof.Machine

open Sys2Proof

/-! ### What RESET_N and the watchdog clear (Table CLK-6) -/

/-- A domain at its state after reset: AON and SUP ON, the others OFF (R108). -/
def State.clearPower (s : State) : State :=
  let frost := s.fld F.PWR_STATUS_FROSTEXIT
  { s.clearRegs 0x05000000 0x05010000 with
    weather := .run, waiting := [], target := [], wakeDue := [] }.setFld F.PWR_STATUS_FROSTEXIT frost

/-- CLK registers but CLK_RSTCAUSE at their reset values; what CLK_STATUS shows of crystal and reference clock is no
stored state (R105). -/
def State.clearClk (s : State) : State :=
  let cause := s.reg Reg.CLK_RSTCAUSE
  let aon := s.fld F.CLK_STATUS_AONOK
  let ref := s.fld F.CLK_STATUS_PCIEREF
  let xo := s.fld F.CLK_STATUS_XOOK
  ((((s.clearRegs 0x05050000 0x05060000).setReg Reg.CLK_RSTCAUSE cause).setFld F.CLK_STATUS_AONOK aon).setFld
    F.CLK_STATUS_PCIEREF ref).setFld F.CLK_STATUS_XOOK xo

/-- BOOT registers but the fuse fields and SHADOWOK (Table BOOT-9); the production test condition stays (R756). -/
def State.clearBoot (s : State) : State :=
  let s1 := (s.clearRegs 0x05040000 Reg.BOOT_UID0).setFld F.BOOT_TIME_US 0
  if s.fld F.BOOT_STRAP_EFFSRC = 3 then s1.setFld F.BOOT_STRAP_EFFSRC 3 else s1

/-- Fresh lists, marks and rings of the four clusters; rows and tags zero. -/
def State.clearScratchpads (s : State) : State :=
  (List.range 4).foldl (fun s c => (s.zeroRows c).resetRing c) s

/-- The tile sequencers cleared, before the rows they read are (R319, Table CLK-6). -/
def State.clearTiles (s : State) : State := (List.range 32).foldl State.clearTile s

/-- A reset that clears the part but keeps the meter, the RTC, the logs and non-volatile state: RESET_N and the
watchdog (Table CLK-6, R90, R99, R288, R721). -/
def State.chipReset (s : State) : State :=
  let s1 := ((s.clearTiles.pstAbort.clearPower.clearClk.clearBoot).clearScratchpads)
  let s2 := (List.range 4).foldl State.loseCl s1
  let s4 := (List.range 32).foldl (fun s t => s.clearRegs (0x01008000 + 0x10000 * t) (0x01010000 + 0x10000 * t)) s2
  let s5 := s4.loseLnk.loseWir.loseHst.loseSns.loseSec.loseNet
  let s6 := (s5.clearRegs 0x050D0000 0x050D0004).clearRegs 0x050F0000 0x05100000
  let s7 := ((s6.setReg Reg.FLT_WDCFG (regReset Reg.FLT_WDCFG)).setFld F.FLT_WDCNT_COUNT 0).clearRegs 0x05020000 0x05030000
  let s8 := s7.clearMem (dataAddr 4 0) (dataAddr 4 32768)
  { s8 with
    cores := [], pulses := [], arriving := [], sortRaw := [], sortHeld := [], swStart := [], mesh := {}, nextCtx := [], boot := {}
    trimSets := [], flrWaits := false, flrDue := [] }

/-! ### Power-on reset (R10, R89, R92, R100, R123) -/

/-- The row steps that run when a supply falls are cut short (R239, R315). -/
def State.supplyCut (s : State) : State := (List.range 32).foldl State.cutStep s

/-- What the cells of a tile hold by themselves (R109, R219). -/
def keptTile (e : Nat × Tile) : Option (Nat × Tile) :=
  let t : Tile := { cells := e.2.cells, gen := e.2.gen, genValid := e.2.genValid, spares := e.2.spares }
  if t = {} then none else some (e.1, t)

/-- What a power-on reset leaves: what is not volatile, what lies outside the part, and the commands that wait; every
other piece of state is at its reset value. -/
def State.powerOn (s : State) : State :=
  let s1 := s.pstAbort.supplyCut
  { State.reset with
    pending := s1.pending, free := s1.free, readData := s1.readData, messages := s1.messages
    hostWrites := s1.hostWrites, hostReads := s1.hostReads, air := s1.air, line := s1.line, pst := s1.pst, fuses := s1.fuses
    tiles := s1.tiles.filterMap keptTile }

/-- POWER_ON_RESET: a supply has fallen below its threshold. -/
def State.supplyLost (s : State) : State := { s.powerOn with held := { por := true } }

/-- RESET_N low for long enough (R92, R100). -/
def State.pinReset (s : State) : State :=
  if s.held.por || s.weather == .frost then s
  else { s.chipReset.setFld F.CLK_RSTCAUSE_PIN 1 with held := { s.held with pin := true } }

/-- A pulse on RESET_N: one between the two widths resets the part or does not (Table CLK-5). -/
def State.resetPulse (s : State) (p : Pulse) : State :=
  match p with
  | .short => s
  | .long => s.pinReset
  | .between => if s.open_ 2 = 1 then s.drawn.pinReset else s.drawn

/-- The watchdog reset (R92, R100). -/
def State.wdogReset (s : State) : State :=
  if s.held.por || s.weather == .frost then s
  else { s.chipReset.setFld F.CLK_RSTCAUSE_WDOG 1 with held := { s.held with wdog := true } }

/-- RESET_RELEASE: clk_xo is valid, straps are sampled and the boot loader starts (R89, R137, R138). -/
def State.releaseReset (s : State) (bootsel : Nat) (hostsel : Bool) : State :=
  if s.held.por || s.held.pin || s.held.wdog then
    { (((s.setFld F.BOOT_STRAP_BOOTSEL bootsel).setFld F.BOOT_STRAP_HOSTSEL (b2n hostsel)).setFld F.CLK_STATUS_XOOK 1) with
      held := {}, boot := { base := s.evtCycles } }
  else s

/-! ### Cluster reset and function-level reset (R91, R101, R134, R164, R463) -/

/-- A request to reset cluster c: none while it is in reset, at once where its logic is OFF, and after CLc has come ON
where it is in RET. That ON is the part's own: the Breeze limits of R119, which are on requests, do not refuse it (R134;
log entry 76). -/
def State.requestClReset (s : State) (c : Nat) : State :=
  if s.inClReset c then s
  else
    let s1 := s.setFbit F.CLK_RSTCAUSE_CLRST c true
    if s.dom (domCL c) = 0 then s1
    else if s.dom (domCL c) = 1 then (s1.setFbit F.CLK_CLRST_BUSY c true).setReq (domCL c) 2
    else (s1.setFbit F.CLK_CLRST_BUSY c true).resetCluster c

/-- A write of CLK_CLRST.REQ. -/
def State.writeClrst (s : State) (v : Nat) : State :=
  ((List.range 4).filter (bitOf v)).foldl State.requestClReset s

/-- HOSTWAIT is entered with SP0 clear and BOOT_HOSTLEN 0; the host is now the source in use (Table BOOT-1, R139, R158,
R164). CODE, COPY and FALLBACK stand as the boot that failed left them until the next result (log entry 77). -/
def State.enterHostwait (s : State) : State :=
  let s1 := ((s.clearScratch 0).setFld F.BOOT_HOSTLEN_LEN 0).setFld F.BOOT_STATUS_STAGE 7
  { ((s1.setFld F.BOOT_STATUS_HOLD 0).setFld F.BOOT_STRAP_EFFSRC 2).setFld F.BOOT_CMD_RETRY 0 with
    boot := { s1.boot with frozen := false } }

/-- Host commands that run are aborted (R463). -/
def State.abortHost (s : State) : State :=
  (s.queues.flatMap fun e => e.2.cmds).foldl (fun s x => if x.phase = 2 ∧ x.hasUnit then s.abortUnits x else s) s

/-- A function-level reset takes effect (Table CLK-6, R164, R463): host and queue state at reset, the link as it
stands, every cluster of a context handed to context 0, which clears it. -/
def State.functionReset (s : State) : State :=
  let link := s.reg Reg.HST_LINK
  let s1 := s.abortHost.loseHst.setReg Reg.HST_LINK link
  let s2 := ((s1.setFld F.HST_LINK_D3 0).setFld F.CLK_RSTCAUSE_FLR 1).fire 62
  let due := (List.range 4).filter fun c => s2.ownerCtx c != 0
  let s3 := { due.foldl (fun s c => s.writeOwner c 0) s2 with flrDue := due }
  let s4 := if s3.hostBootOpen && s3.recoveryAllowed then s3.enterHostwait else s3
  if due.isEmpty then s4.hostEvent 5 else s4

/-- FLR: one that arrives between GO and DONE waits (R164). -/
def State.flr (s : State) : State :=
  if s.stopped || !s.domOn 5 || !s.flag F.HST_LINK_UP then s
  else if 3 ≤ s.fld F.BOOT_STATUS_STAGE ∧ s.fld F.BOOT_STATUS_STAGE ≤ 5 then { s with flrWaits := true }
  else s.functionReset

/-- A function-level reset that waited takes effect in DONE or HOLD. -/
def State.flrResume (s : State) : State := if s.flrWaits then { s with flrWaits := false }.functionReset else s

/-! ### Frost (R120, R123, Table PWR-5) -/

/-- PWR_CMD = FROST. -/
def State.frost (s : State) : State :=
  if s.flag F.PWR_FROSTARM_ARM then
    let s1 := { s.powerOn with weather := .frost }
    (List.range domains).foldl (fun s d => (s.setFld (F.PWR_DOM_ACT d) 0).setFld (F.PWR_DOM_REQ d) 0) s1
  else s.setFld F.PWR_STATUS_DENIED 1

/-- FROST_WAKE: WAKE_N low in Frost runs the power-on reset. -/
def State.frostWake (s : State) : State :=
  if s.weather = .frost then
    { s.powerOn.setFld F.PWR_STATUS_FROSTEXIT 1 with held := { por := true } }
  else s

/-! ### The watchdog (R730-R732, R739) -/

/-- The count is held (R731). -/
def State.wdHeld (s : State) : Bool :=
  s.stopped || !s.flag F.FLT_WDCFG_EN || !s.domOn 1 || s.weather != .run || (s.core 4).run == .halt

/-- The watchdog expires. -/
def State.wdExpire (s : State) : State :=
  let detail := if (s.core 4).sealedSt then 0 else (s.core 4).pc.toNat
  ((s.fault 0x01 63 detail false).incFld F.FLT_WDCNT_RESETS 1).wdogReset

/-- Ticks of 64 us are counted; at TIMEOUT the watchdog expires. -/
def State.wdTick (s : State) (ticks : Nat) : State :=
  if s.wdHeld then s
  else
    let n := s.fld F.FLT_WDCNT_COUNT + ticks
    if max 1 (s.fld F.FLT_WDCFG_TIMEOUT) ≤ n then s.wdExpire else s.setFld F.FLT_WDCNT_COUNT n

/-- A write of FLT_WDKICK. -/
def State.wdKick (s : State) (v : Nat) : State :=
  if v = 0x00A5C3 then s.setFld F.FLT_WDCNT_COUNT 0 else s.wdExpire

/-! ### Commands -/

/-- POWER_ON_RESET (R89). -/
def execPowerOnReset (s : State) : Host.Outcome State Fault Refusal := ok s.supplyLost

/-- RESET_N (R89). -/
def execResetN (pulse : Pulse) (s : State) : Host.Outcome State Fault Refusal := ok (s.resetPulse pulse)

/-- RESET_RELEASE (R89, R138). -/
def execResetRelease (bootsel : Fin 4) (hostsel : Bool) (s : State) : Host.Outcome State Fault Refusal :=
  ok (s.releaseReset bootsel hostsel)

/-- CLUSTER_RESET (R91). -/
def execClusterReset (ini : Initiator) (req : Fin 16) (s : State) : Host.Outcome State Fault Refusal :=
  ok (s.cmdWrite ini Reg.CLK_CLRST fun s => s.writeClrst req)

/-- FLR (R463). -/
def execFlr (s : State) : Host.Outcome State Fault Refusal := ok s.flr

/-- FROST_ARM (R120). -/
def execFrostArm (ini : Initiator) (s : State) : Host.Outcome State Fault Refusal :=
  ok (s.cmdWrite ini Reg.PWR_FROSTARM fun s => s.setFld F.PWR_FROSTARM_ARM 1)

/-- FROST_ARM_EXPIRY (R120). -/
def execFrostArmExpiry (s : State) : Host.Outcome State Fault Refusal := ok (s.setFld F.PWR_FROSTARM_ARM 0)

/-- PWR_FROST (R123). -/
def execPwrFrost (ini : Initiator) (s : State) : Host.Outcome State Fault Refusal :=
  ok (s.cmdWrite ini Reg.PWR_CMD fun s => s.frost)

/-- FROST_WAKE (R123). -/
def execFrostWake (s : State) : Host.Outcome State Fault Refusal := ok s.frostWake

/-- WATCHDOG_KICK (R732). -/
def execWatchdogKick (ini : Initiator) (v : Word) (s : State) : Host.Outcome State Fault Refusal :=
  ok (s.cmdWrite ini Reg.FLT_WDKICK fun s => s.wdKick v.toNat)

/-- WATCHDOG_EXPIRY: ticks of 64 us pass (R731, R732). -/
def execWatchdogExpiry (ticks : Nat) (s : State) : Host.Outcome State Fault Refusal := ok (s.wdTick ticks)

end Sys2Proof.Machine
end

