-- ==== Sys2Proof/Machine/Rtc.lean ====
section
/-! DEFINITION. The real-time clock (R492-R497, R503, R504). -/

namespace Sys2Proof.Machine

open Sys2Proof

/-- A pulse of a producer at clk_aon; it is lost while clk_evt is stopped (R487). -/
def State.aonFire (s : State) (p : Nat) : State := if s.weather = .run then s.fire p else s

/-- A time as clk_aon cycles. -/
def aonTime (sec sub : Nat) : Nat := 32768 * sec + sub

/-- The alarm time. -/
def State.alarmTime (s : State) : Nat :=
  aonTime (s.fld F.RTC_ALM0_SEC + 2 ^ 24 * s.fld F.RTC_ALM1_SEC) (s.fld F.RTC_ALMSUB_SUB)

/-- A write of RTC_WCMD.GO: the staged time (R494). -/
def State.rtcStage (s : State) : State :=
  { s.setFld F.RTC_STATUS_WPEND 1 with
    rtc := { s.rtc with wsec := s.fld F.RTC_WSEC0_SEC + 2 ^ 24 * s.fld F.RTC_WSEC1_SEC, wsub := s.fld F.RTC_WSUB_SUB } }

/-- A second boundary: SEC advances, or the staged time is applied (R494-R496, R503). -/
def State.secondBoundary (s : State) : State :=
  if !s.flag F.CLK_STATUS_AONOK || s.weather == .frost || s.rtc.sub != 32767 then s
  else
    let next := (s.rtc.sec + 1) % 2 ^ 32
    let s1 := { s with aonCycles := s.aonCycles + 1 }
    if s.flag F.RTC_STATUS_WPEND then
      let old := aonTime s.rtc.sec 32767
      let new := aonTime s.rtc.wsec s.rtc.wsub
      let delta : Int := (aonTime next 0 : Int) - new
      let s2 := { s1 with rtc := { s.rtc with sec := s.rtc.wsec, sub := s.rtc.wsub, snapOld := delta } }
      let s3 := (s2.setFld F.RTC_STATUS_WPEND 0).setFld F.RTC_STATUS_APPLIED 1
      let s4 := if s.flag F.RTC_ALMSUB_EN ∧ old < s.alarmTime ∧ s.alarmTime < new then s3.setFld F.RTC_STATUS_ASKIP 1 else s3
      s4.aonFire 117
    else { s1 with rtc := { s.rtc with sec := next, sub := 0 } }.aonFire 117

/-- The alarm: SEC and SUB equal the alarm time while it is armed (R496). -/
def State.alarm (s : State) : State :=
  if s.flag F.CLK_STATUS_AONOK ∧ s.weather ≠ .frost ∧ s.flag F.RTC_ALMSUB_EN ∧ aonTime s.rtc.sec s.rtc.sub = s.alarmTime then
    ((s.setFld F.RTC_ALMSUB_EN 0).setFld F.RTC_STATUS_ALMFIRED 1).aonFire 95
  else s

/-- The tick (R496). -/
def State.rtcTick (s : State) : State :=
  if s.flag F.CLK_STATUS_AONOK ∧ s.weather ≠ .frost ∧ s.rtc.sub % 2 ^ s.fld F.RTC_TICK_DIV = 0 then s.aonFire 118 else s

/-- The time a snapshot takes: the old time, where a write was pending at its request (R495). -/
def State.snapTime (s : State) : Nat :=
  if s.rtc.snapStale then (((aonTime s.rtc.sec s.rtc.sub : Int) + s.rtc.snapOld) % (2 : Int) ^ 47).toNat
  else aonTime s.rtc.sec s.rtc.sub

/-- SNAP_CAPTURE: the capture edge is seen in clk_evt, FRAC cycles after the request (R493, R495, Table EVF-5). -/
def State.snapCapture (s : State) : State :=
  let frac := s.evtCycles - s.rtc.snapReq
  if s.flag F.RTC_SNAPST_BUSY ∧ s.flag F.CLK_STATUS_AONOK ∧ s.weather = .run ∧ 3906 ≤ frac ∧ frac ≤ 7816 then
    let t := s.snapTime
    let s1 := ((s.setFld F.RTC_SNAPST_BUSY 0).setFld F.RTC_SNAPST_VALID 1).setFld F.RTC_SNAPST_STALE (b2n s.rtc.snapStale)
    let s2 := (((s1.setFld F.RTC_SNSEC0_SEC (t / 32768)).setFld F.RTC_SNSEC1_SEC (t / 32768 / 2 ^ 24)).setFld
      F.RTC_SNSUB_SUB (t % 32768)).setFld F.RTC_SNFRAC_FRAC frac
    { s2 with rtc := { s2.rtc with snSec := t / 32768 % 2 ^ 32, snSub := t % 32768, snFrac := frac } }
  else s

/-- A write of RTC_WCMD: CANCEL clears a pending write and stages nothing (R494). -/
def State.writeWcmd (s : State) (v : Nat) : State :=
  if bitOf v 1 then s.setFld F.RTC_STATUS_WPEND 0 else if bitOf v 0 then s.rtcStage else s

/-! ### Commands -/

/-- RTC_SNAP: a write of RTC_SNAP.REQ (R493). -/
def execRtcSnap (ini : Initiator) (s : State) : Host.Outcome State Fault Refusal :=
  ok (s.cmdWrite ini Reg.RTC_SNAP fun s => s.snapRequest)

/-- SNAP_CAPTURE (R493). -/
def execSnapCapture (s : State) : Host.Outcome State Fault Refusal := ok s.snapCapture

/-- RTC_WRITE_STAGE (R494). -/
def execRtcWriteStage (ini : Initiator) (s : State) : Host.Outcome State Fault Refusal :=
  ok (s.cmdWrite ini Reg.RTC_WCMD fun s => s.writeWcmd 1)

/-- RTC_WRITE_CANCEL (R494). -/
def execRtcWriteCancel (ini : Initiator) (s : State) : Host.Outcome State Fault Refusal :=
  ok (s.cmdWrite ini Reg.RTC_WCMD fun s => s.writeWcmd 2)

/-- RTC_SECOND_BOUNDARY (R494). -/
def execRtcSecondBoundary (s : State) : Host.Outcome State Fault Refusal := ok s.secondBoundary

/-- RTC_ALARM (R496). -/
def execRtcAlarm (s : State) : Host.Outcome State Fault Refusal := ok s.alarm

/-- RTC_TICK (R496). -/
def execRtcTick (s : State) : Host.Outcome State Fault Refusal := ok s.rtcTick

end Sys2Proof.Machine
end

