-- ==== Sys2Proof/Machine/Bus.lean ====
section
/-! DEFINITION. Reads and writes of device addresses: what a write of each register does, what reads and writes of
scratchpads, local memories, schedule memory, ring memory and the store's window do, and the host's two ports
(R11-R14, R94-R96, R114, R158, R159, R171, R191, R429-R442). -/

namespace Sys2Proof.Machine

open Sys2Proof

/-! ### Data-dependent status (R45, R63, R230, R752) -/

/-- The register at `a` is data-dependent status of a unit whose sealed flag is set, or the result of a tainted
stopwatch. -/
def State.secretReg (s : State) (a : Nat) : Bool :=
  if a < 0x05000000 then
    let t := (a - 0x01000000) / 0x10000 % 32
    (a == Reg.TILE_COLACC0 t || a == Reg.TILE_COLACC1 t || a == Reg.TILE_CLIP t || a == Reg.TILE_BRES0 t ||
      a == Reg.TILE_BRES1 t) && (s.tile t).sealedFlag
  else if a < 0x06000000 then
    (let i := (a - 0x05020300) / 0x10 % 8
     (a == Reg.EVF_SWRES0 i || a == Reg.EVF_SWRES1 i) && s.flag (F.EVF_SWSTAT_TAINT i)) ||
    (a == Reg.DBG_CDATA && decide (s.debugCore < 5) && (s.core s.debugCore).sealedSt)
  else
    let c := (a - 0x06000000) / 0x100000 % 4
    ((a == Reg.TAL_DSTAT c || a == Reg.TAL_REDIDX c || a == Reg.TAL_REDVAL0 c || a == Reg.TAL_REDVAL1 c) &&
      (s.tally c).sealedFlag) ||
    (a == Reg.MOV_DSTAT c && (s.mover c).sealedFlag)

/-- What a read withholds because of what is sealed. -/
inductive Secret where
  /-- A sealed row. -/
  | row
  /-- Data-dependent status of a unit whose sealed flag is set. -/
  | status
  /-- The result of a tainted stopwatch. -/
  | watch
  deriving DecidableEq, Repr

/-- What a read of sealed data by an initiator becomes: a core enters sealed state and reads on; debug reads zero, which is
its refusal of Table SEAL-3; the host reads zero, of a row with the refusal of that table, of a unit's status with its
count alone, of a stopwatch with nothing (R40, R45, R46, R59, R63, R752; log entry 69). Answers whether the data is
given. -/
def State.sealedRead (s : State) (ini : Initiator) (x : Secret) : State × Bool :=
  match coreOf ini with
  | some k => (s.enterSealed k, true)
  | none =>
    match ini with
    | .debug => ((s.setFld F.DBG_STATUS_SEALREAD 1).refuseEgress F.SEAL_EGRCNT2_OTHER, false)
    | .pcie | .spi =>
      (match x with
       | .row => s.refuseEgress F.SEAL_EGRCNT_HOST
       | .status => s.incFld F.SEAL_EGRCNT2_OTHER 1
       | .watch => s, false)
    | _ => (s, true)

/-! ### Reads -/

/-- A register that `secretReg` withholds: a stopwatch of the EVF block, or a unit's status. -/
def secretKind (a : Nat) : Secret := if 0x05020000 ≤ a ∧ a < 0x05030000 then .watch else .status

/-- A read of bytes `lo` to `lo + n - 1` of the register word at `a`: zero where none stands (R11, R13, R14). -/
def State.readReg (s : State) (ini : Initiator) (a lo n : Nat) : State × Nat :=
  let go (s : State) : State × Nat :=
    let s1 := s.afterRead a lo n
    (if a = Reg.DBG_CDATA then s1.afterCdata else s1, s.viewWord ini a)
  if s.secretReg a then
    let q := s.sealedRead ini (secretKind a)
    if q.2 then go q.1 else (if a = Reg.DBG_CDATA then q.1.afterCdata else q.1, 0)
  else go s

/-- A read of bytes of a scratchpad other than over the Round: zero while it clears, sealed rows by R40 and R46. -/
def State.readRows (s : State) (ini : Initiator) (a n : Nat) : State × List Byte :=
  if s.clearing (a / 0x200000) || s.inClReset (a / 0x200000) then (s, List.replicate n 0)
  else if s.spSealed a n then
    let q := s.sealedRead ini .row
    (q.1, if q.2 then s.spBytes a n else List.replicate n 0)
  else (s, s.spBytes a n)

/-- The byte key of a local-memory window's unit: CLK_MEMPAGE selects the half of the instruction memory (R96). -/
def State.localKey (s : State) (k a : Nat) : Nat :=
  let up := if k < 4 then s.fbit F.CLK_MEMPAGE_CC k else s.flag F.CLK_MEMPAGE_SV
  if up && decide ((a - 0x03000000) % 0x40000 < 0x20000) then a + 0x40000000 else a

/-- The address lies in a doorbell page's ring memory (R442). -/
def isRing (a : Nat) : Bool := decide (0x08000000 ≤ a) && decide (a < 0x08040000) && decide (0x400 ≤ a % 0x1000)

/-- The queue of a doorbell-page address. -/
def doorQueue (a : Nat) : Nat := (a - 0x08000000) / 0x1000

/-- The address lies in a doorbell page whose queue is REVOKED (R460). -/
def State.doorShut (s : State) (a : Nat) : Bool :=
  decide (0x08000000 ≤ a) && decide (a < 0x08040000) && s.qstate (doorQueue a) == 5

/-- The address lies in schedule memory. -/
def isSched (a : Nat) : Bool := decide (0x06000000 ≤ a) && decide (a < 0x06400000) && decide (0x80000 ≤ a % 0x100000)

/-- Bytes `lo` to `lo + n - 1` of the aligned unit at `u` as an initiator reads them. -/
def State.readUnit (s : State) (ini : Initiator) (u lo n : Nat) : State × List Byte :=
  if (scratchOf u).isSome then s.readRows ini (u + lo) n
  else if 0x04000000 ≤ u ∧ u < 0x04020000 then s.pstWindow (u - 0x04000000 + lo) n
  else if s.doorShut u then (s, List.replicate n 0)
  else if isRing u then (s, s.bytes (u + lo) n)
  else if isSched u then (s, ((s.bytes u 3 ++ [0]).drop lo).take n)
  else match localOf u with
    | some k => (s, ((s.bytes (s.localKey k u) 3 ++ [0]).drop lo).take n)
    | none =>
      let q := s.readReg ini u lo n
      (q.1, ((toBytes 4 q.2).drop lo).take n)

/-- An access of n bytes from `a` on, cut at 4-byte boundaries: unit, first byte, bytes (log entry 9). -/
def cutUnits (a n : Nat) : List (Nat × Nat × Nat) :=
  let k := min n (4 - a % 4)
  if n = 0 then [] else (a / 4 * 4, a % 4, k) :: (if k < n then [(a / 4 * 4 + 4, 0, n - k)] else [])

/-- Reads of units in order of address. -/
def State.readUnits (s : State) (ini : Initiator) : List (Nat × Nat × Nat) → State × List Byte
  | [] => (s, [])
  | (u, lo, n) :: l =>
    let q := s.readUnit ini u lo n
    let r := q.1.readUnits ini l
    (r.1, q.2 ++ r.2)

/-- A read of n bytes from `a` on by an initiator (R14, R91, R95, R96, R114). -/
def State.busRead (s : State) (ini : Initiator) (a n : Nat) : State × List Byte :=
  if s.stopped then (s, List.replicate n 0)
  else match s.verdict ini a false with
    | .pass => s.readUnits ini (cutUnits a n)
    | .refused => (s.addrErr ini a false, List.replicate n 0)
    | .dark => (s.dark ini a false, List.replicate n 0)
    | .discarded => (s, List.replicate n 0)

/-! ### What a write of a register does -/

/-- The effect of a write by access codes (Table SCOPE-1). -/
def State.writePlain (s : State) (a v : Nat) : State :=
  match regRow a with
  | some r => s.setReg a (BitVec.ofNat 24 (rowWrite r.flds (s.reg a).toNat v))
  | none => s

/-- The word a write by access codes would leave. -/
def State.plainWord (s : State) (a v : Nat) : Word :=
  match regRow a with
  | some r => BitVec.ofNat 24 (rowWrite r.flds (s.reg a).toNat v)
  | none => 0

/-- Steps taken for the bits of a command word that are 1, lowest first. -/
def State.onBits (s : State) (v : Nat) (fs : List (State → State)) : State :=
  ((fs.zipIdx).filter fun e => bitOf v e.2).foldl (fun s e => e.1 s) s

/-- A write of CLK_ADDRERR1: clearing VALID also clears MULTI (Table CLK-10). -/
def State.writeAddrErr (s : State) (v : Nat) : State :=
  let s1 := s.writePlain Reg.CLK_ADDRERR1 v
  if s1.flag F.CLK_ADDRERR1_VALID then s1 else s1.setFld F.CLK_ADDRERR1_MULTI 0

/-- A write of PWR_CMD; whatever its CMD, ARM is cleared (R120, R121, Table PWR-8). -/
def State.writePwrCmd (s : State) (v : Nat) : State :=
  match bitsOf v 0 2 with
  | 1 => s.calmBegin
  | 2 => s.frost
  | _ => s.setFld F.PWR_FROSTARM_ARM 0

/-- A write of SEAL_BUDGET or SEAL_MINIV: the zone selector is taken; a value that is not zero and differs from the
locked one counts (R57, Table SEAL-7; log entry 13). -/
def State.writeSelector (s : State) (a v w : Nat) (held : Zone → Nat) : State :=
  let s1 := s.writePlain a v
  if bitsOf v 6 w ≠ 0 ∧ bitsOf v 6 w ≠ held (s.zone (bitsOf v 0 6)) then s1.lockedWrite else s1

/-- SEAL registers. -/
def State.writeSeal (s : State) (a v : Nat) : State :=
  let c := (a - 0x05030100) / 0x20 % 4
  if a = Reg.SEAL_VLIMIT then s.lockedWrite
  else if a = Reg.SEAL_BUDGET then s.writeSelector a v 10 (·.budget)
  else if a = Reg.SEAL_MINIV then s.writeSelector a v 16 (·.miniv)
  else if Reg.SEAL_ADV 0 ≤ a ∧ a ≤ Reg.SEAL_ADV 7 then s.lockedWrite
  else if a = Reg.SEAL_RINGCFG c then s.writeRingCfg c v
  else if a = Reg.SEAL_RINGRP c then s.writeRp c (bitsOf v 0 7)
  else s.writePlain a v

/-- PWR and CLK registers. -/
def State.writeSystem (s : State) (ini : Initiator) (a v : Nat) : State :=
  if a = Reg.PWR_CTRL then s.writeMode v
  else if a = Reg.PWR_CMD then s.writePwrCmd v
  else if Reg.PWR_DOM 0 ≤ a ∧ a ≤ Reg.PWR_DOM 25 then s.writeDom ((a - Reg.PWR_DOM 0) / 4) v (ini == .boot)
  else if a = Reg.CLK_CORESEL then s.writeCoresel v
  else if a = Reg.CLK_PLLA then s.writePlla v
  else if a = Reg.CLK_CLRST then s.writeClrst v
  else if a = Reg.CLK_ADDRERR1 then s.writeAddrErr v
  else s.writePlain a v

/-- RTC and EVF registers. -/
def State.writeEvents (s : State) (a v : Nat) : State :=
  let o := a % 0x10000
  if a = Reg.RTC_SNAP then (if bitOf v 0 then s.snapRequest else s)
  else if a = Reg.RTC_WCMD then s.writeWcmd v
  else if a = Reg.EVF_SWFIRE then s.swFire v
  else if a < 0x05020000 then s.writePlain a v
  else if 0x100 ≤ o ∧ o < 0x180 then s.writeChen ((o - 0x100) / 4) v
  else if 0x200 ≤ o ∧ o < 0x280 then s.writeSort ((o - 0x200) / 8) (o % 8 == 4) v
  else if 0x800 ≤ o ∧ o < 0xA80 then s.writeTask ((o - 0x800) / 4) v
  else s.writePlain a v

/-- A write of BOOT_CMD (R11, R158, R159): its bits are set; GO in HOSTWAIT freezes SP0 and BOOT_HOSTLEN and asks for the
checks; RETRY in HOLD goes back. Part clears GO as it leaves HOSTWAIT, and RETRY as it enters it (log entry 70). -/
def State.writeBootCmd (s : State) (v : Nat) : State :=
  let s1 := s.writePlain Reg.BOOT_CMD v
  if s.fld F.BOOT_STATUS_STAGE = 7 ∧ bitOf v 0 = true then
    { (s1.setFld F.BOOT_STATUS_STAGE 3).setFld F.BOOT_CMD_GO 0 with boot := { s1.boot with frozen := true } }
  else if s.fld F.BOOT_STATUS_STAGE = 8 ∧ bitOf v 1 = true ∧ s.recoveryAllowed = true then s1.enterHostwait
  else s1

/-- BOOT registers: only the host in HOSTWAIT or HOLD gets here (R158, R159). -/
def State.writeBoot (s : State) (a v : Nat) : State :=
  if a = Reg.BOOT_CMD then s.writeBootCmd v
  else if a = Reg.BOOT_HOSTLEN ∧ s.fld F.BOOT_STATUS_STAGE = 7 then s.writePlain a v
  else s

/-- A register only the holder of the lock writes, CIP_CMD apart (R557). -/
def holderReg (a : Nat) : Bool :=
  [Reg.CIP_MODE, Reg.CIP_ALEN, Reg.CIP_MLEN, Reg.CIP_JOB, Reg.CIP_XFER0, Reg.CIP_XFER1, Reg.CIP_KEYCFG].contains a ||
  (decide (Reg.CIP_IV 0 ≤ a) && decide (a ≤ Reg.CIP_IV 5)) || (decide (Reg.CIP_ETAG 0 ≤ a) && decide (a ≤ Reg.CIP_ETAG 5)) ||
  (decide (Reg.CIP_LBL 0 ≤ a) && decide (a ≤ Reg.CIP_LBL 2)) || (decide (Reg.CIP_BUF 0 ≤ a) && decide (a ≤ Reg.CIP_BUF 341))

/-- CIP registers: most are the holder's (R555-R557). -/
def State.writeCip (s : State) (ini : Initiator) (a v : Nat) : State :=
  let o := cipOwner ini
  if a = Reg.CIP_LOCK then s.onBits v [fun s => s.lockRequest o, fun s => s.lockRel o]
  else if a = Reg.CIP_LOCKTO ∨ a = Reg.CIP_ERR then s.writePlain a v
  else if a = Reg.CIP_CMD then s.cipCmd ini (bitsOf v 0 4)
  else if s.cipHolder ≠ o ∨ o = 0 then (if holderReg a then s.setFld F.CIP_ERR_NOLOCK 1 else s)
  else if Reg.CIP_BUF 0 ≤ a ∧ a ≤ Reg.CIP_BUF 341 then
    let bs := toBytes (if a = Reg.CIP_BUF 341 then 1 else 3) v
    { s with cip := { s.cip with buf := tabSetList (fun _ => 0) s.cip.buf (3 * ((a - Reg.CIP_BUF 0) / 4)) bs,
                                 op := s.cip.op.map fun p => { p with torn := p.torn || p.running } } }
  else s.writePlain a v

/-- Bits of the words of Tables RAD-9, RAD-10 and WIR-10 that are not reserved. -/
def keepBits (w v : Nat) : Word := BitVec.ofNat 24 (v % 2 ^ w)

/-- A descriptor word of a radio buffer. -/
def TxBuf.setD (b : TxBuf) (i v : Nat) : TxBuf :=
  if i = 0 then { b with d0 := keepBits 23 v } else if i = 1 then { b with d1 := keepBits 22 v } else { b with d2 := keepBits 20 v }

/-- A descriptor word of a wired buffer. -/
def WirBuf.setD (b : WirBuf) (i v : Nat) : WirBuf :=
  if i = 0 then { b with d0 := keepBits 24 v } else if i = 1 then { b with d1 := keepBits 21 v } else { b with d2 := keepBits 11 v }

/-- A word of a neighbour entry; a write of LNK_NBR2 empties the window (R604). -/
def Nbr.setWord (n : Nbr) (i v : Nat) : Nbr :=
  let w := if i = 2 then 22 else if i = 3 then 16 else if i = 5 then 8 else 24
  { n with w := n.w.set i (keepBits w v), window := if i = 2 then [] else n.window }

/-- RAD and LNK registers. -/
def State.writeLink (s : State) (a v : Nat) : State :=
  let b := s.txSel
  let n := s.fld F.LNK_NSEL_NBR
  let l := s.fld F.LNK_LSEL_LINK
  let x := tabGet (fun _ => ((0, 0) : Word × Word)) s.lnk.links l
  let putLink (y : Word × Word) : State := { s with lnk := { s.lnk with links := tabSet (fun _ => (0, 0)) s.lnk.links l y } }
  if a = Reg.RAD_CHAN then s.writeChan v
  else if a = Reg.RAD_TXPWR then s.writeTxpwr v
  else if a = Reg.LNK_CMD then s.lnkCmd v
  else if a = Reg.LNK_ASN0 ∨ a = Reg.LNK_ASN1 then
    (if s.lnkState = 0 ∨ s.csmaMode = true then s.writePlain a v else s)
  else if a = Reg.LNK_FC0 ∨ a = Reg.LNK_FC1 then s.writeFc (a == Reg.LNK_FC1) v
  else if a = Reg.LNK_TMPL 4 then s.writePlain a (v % 2 ^ 16)
  else if a = Reg.LNK_LINK0 then putLink (keepBits 22 v, x.2)
  else if a = Reg.LNK_LINK1 then putLink (x.1, keepBits 16 v)
  else if Reg.LNK_NBR 0 ≤ a ∧ a ≤ Reg.LNK_NBR 5 then
    (if n < 96 then s.setNbr n ((s.nbr n).setWord ((a - Reg.LNK_NBR 0) / 4) v) else s)
  else if Reg.LNK_TXD 0 ≤ a ∧ a ≤ Reg.LNK_TXD 2 then s.setTx b ((s.tx b).setD ((a - Reg.LNK_TXD 0) / 4) v)
  else if a = Reg.LNK_TXCMD then s.onBits v [(·.txReady b), (·.txCancel b), (·.txLoad b), (·.txFree b)]
  else if Reg.LNK_TXMEM 0 ≤ a ∧ a ≤ Reg.LNK_TXMEM 42 then
    s.setTx b { s.tx b with mem := tabSetList (fun _ => 0) (s.tx b).mem (3 * ((a - Reg.LNK_TXMEM 0) / 4)) (toBytes 3 v) }
  else if a = Reg.LNK_RXPOP then (if bitOf v 0 then s.rxPop else s)
  else s.writePlain a v

/-- WIR registers. -/
def State.writeWired (s : State) (a v : Nat) : State :=
  let b := s.wirSel
  if a = Reg.WIR_CTRL then s.writeWirCtrl v
  else if a = Reg.WIR_SEQ0 ∨ a = Reg.WIR_SEQ1 then s.writeWirSeq (a == Reg.WIR_SEQ1) v
  else if a = Reg.WIR_CFG then
    (let s1 := s.setFld F.WIR_CFG_TXDONEEV (bitsOf v 0 1)
     if bitOf v 1 then s1.dupClear else s1)
  else if Reg.WIR_TXD 0 ≤ a ∧ a ≤ Reg.WIR_TXD 2 then s.setWbuf b ((s.wbuf b).setD ((a - Reg.WIR_TXD 0) / 4) v)
  else if a = Reg.WIR_TXCMD then s.onBits v [(·.wirTxReady b), (·.wirCancel b), (·.wirResend b), (·.wirFree b)]
  else if Reg.WIR_TXMEM 0 ≤ a ∧ a ≤ Reg.WIR_TXMEM 511 then
    s.setWbuf b { s.wbuf b with mem := tabSetList (fun _ => 0) (s.wbuf b).mem (3 * ((a - Reg.WIR_TXMEM 0) / 4)) (toBytes 3 v) }
  else if a = Reg.WIR_RXPOP then (if bitOf v 0 then s.wirPop else s)
  else s.writePlain a v

/-- A write of HST_LINKCFG: RETRAIN trains a link that is up again, with a partner whose speed and width are open. -/
def State.writeLinkcfg (s : State) (v : Nat) : State :=
  let s1 := (s.setFld F.HST_LINKCFG_MAXSPD (bitsOf v 0 2)).setFld F.HST_LINKCFG_X1ONLY (bitsOf v 2 1)
  if bitOf v 3 && s1.flag F.HST_LINK_UP then s1.drawn.drawn.train (s1.open_ 4) (s1.drawn.open_ 2 == 1) else s1

/-- HST and QUE registers, doorbell words. -/
def State.writeHost (s : State) (a v : Nat) : State :=
  let o := a % 0x10000
  if a = Reg.HST_LINKCFG then s.writeLinkcfg v
  else if a < 0x050C0000 then s.writePlain a v
  else if 0x08000000 ≤ a then
    (if a % 0x1000 = 0 then s.writeTail (doorQueue a) v else s.writePlain a v)
  else if o < 0x1000 then
    (if o % 0x40 = 0x10 then s.queueCtl (o / 0x40) (bitsOf v 0 3)
     else if o % 0x40 < 0x10 then s.writeQcfg (o / 0x40) a (s.plainWord a v)
     else s.writePlain a v)
  else if a = Reg.QUE_GLIMIT then (if v % 2 ^ 24 = 0 then s else s.writePlain a v)
  else if 0x1010 ≤ o ∧ o < 0x1020 then s.classign ((o - 0x1010) / 4) (bitsOf v 0 12)
  else if a = Reg.QUE_FCTL then s.fenceOp (bitsOf v 12 3) (bitsOf v 0 12)
  else if a = Reg.QUE_SVDONE then s.svDone (bitsOf v 0 4)
  else s.writePlain a v

/-- A write of SNS_CMPk0: the source it selects may make an enabled producer sealed (R61, R703; log entry 86). -/
def State.writeCmp (s : State) (a v : Nat) : State := s.routeWrite (s.writePlain a v)

/-- SNS registers. -/
def State.writeSensors (s : State) (a v : Nat) : State :=
  let o := a % 0x10000
  if a = Reg.SNS_TRIG then s.writeTrig v
  else if 0x40 ≤ o ∧ o < 0x60 then s.writeEpoch ((o - 0x40) / 4) v
  else if a = Reg.SNS_PIRCFG then s.writePirCfg v
  else if 0x60 ≤ o ∧ o < 0xA0 ∧ o % 0x10 = 0 then s.writeCmp a v
  else if a = Reg.SNS_GPIOSET then s.gpioSet v
  else if a = Reg.SNS_GPIOCLR then s.gpioClr v
  else if 0x400 ≤ o ∧ o < 0x6C0 ∧ o % 0x40 = 0 then s.writePortCfg ((o - 0x400) / 0x40) v
  else s.writePlain a v

/-- FLT and DBG registers. -/
def State.writeFault (s : State) (a v : Nat) : State :=
  if a = Reg.FLT_WDCFG then s.writeWdcfg v
  else if a = Reg.FLT_WDKICK then s.wdKick v
  else if a = Reg.FLT_DPREL then s.writeDprel v
  else if a = Reg.FLT_LOGPOP then (if bitOf v 0 then s.logPop else s)
  else if a = Reg.FLT_LOGW1 then s.logWrite v
  else if Reg.FLT_MGMT 0 ≤ a ∧ a ≤ Reg.FLT_MGMT 3 then s.writeMgmt ((a - Reg.FLT_MGMT 0) / 4) v
  else if a = Reg.DBG_HALT then s.writeHalt v
  else if a = Reg.DBG_RESUME then s.writeResume v
  else if a = Reg.DBG_START then s.writeStart v
  else if a = Reg.DBG_CDATA then s.writeCdata v
  else s.writePlain a v

/-- CLU, TAL, MOV, DFA and RND registers; an operation written in sealed state carries the issue seal (R39). -/
def State.writeCluster (s : State) (iseal : Bool) (a v : Nat) : State :=
  let c := (a - 0x06000000) / 0x100000 % 4
  let o := a % 0x100000
  let w := BitVec.ofNat 24 v
  if 0x06400000 ≤ a then
    (let c := (a - 0x06400100) / 0x40 % 4
     if a = Reg.RND_RMPOP c then (if bitOf v 0 then s.mailPop c else s) else s.writePlain a v)
  else if a = Reg.CLU_OWNER c then s.writeOwner c (bitsOf v 0 12)
  else if a = Reg.CLU_CLEAR c then (if bitOf v 0 then s.requestClear c else s)
  else if a = Reg.DFA_CPLPOP c then (if bitOf v 0 then s.dfaPop c else s)
  else if a = Reg.DFA_RSTSEED c then s.setFld (F.DFA_RSTSEED_STATE c) (lfsrLoad v)
  else if a = Reg.DFA_ABORT c then (if bitOf v 0 then s.dfaAbort c (fun _ => true) else s)
  else if a = Reg.DFA_LOADCMD c then (if bitOf v 0 then s.dfaLoad c else s)
  else if Reg.DFA_START c 0 ≤ a ∧ a ≤ Reg.DFA_START c 1 then s.dfaStart c ((a - Reg.DFA_START c 0) / 4) iseal v
  else if a = Reg.TAL_CPLPOP c then (if bitOf v 0 then s.tallyPop c else s)
  else if a = Reg.TAL_RSTSEED c then s.writeSeed c v
  else if 0x20100 ≤ o ∧ o < 0x20140 ∧ o % 0x20 = 0x10 then
    s.tallyIssue c ((o - 0x20100) / 0x20) iseal { s.portWords c ((o - 0x20100) / 0x20) with d4 := w }
  else if a = Reg.MOV_CPLPOP c then (if bitOf v 0 then s.moverPop c else s)
  else if 0x30100 ≤ o ∧ o < 0x30140 ∧ o % 0x20 = 0xC then
    s.moverIssue c ((o - 0x30100) / 0x20) iseal { s.portJob c ((o - 0x30100) / 0x20) with j3 := w }
  else s.writePlain a v

/-- TILE and CAL registers. -/
def State.writeTileReg (s : State) (iseal : Bool) (a v : Nat) : State :=
  let t := (a - 0x01000000) / 0x10000 % 32
  if a = Reg.TILE_CMD t then
    s.onBits v [(·.tileProgram t iseal), (·.tileWipe t iseal), (·.tileCheck t iseal), (·.tileAbort t)]
  else if a = Reg.CAL_CMD t then s.onBits v [(·.trimSweep t), (·.tileRefresh t)]
  else s.writePlain a v

/-- PST registers; a command runs as far as the store takes it without a failure. -/
def State.writePst (s : State) (a v : Nat) : State :=
  if a = Reg.PST_CMD then s.pstCmd (bitsOf v 0 3) .chance else s.writePlain a v

/-- A write of the register at `a` that reaches it. -/
def State.writeReg (s : State) (ini : Initiator) (iseal : Bool) (a v : Nat) : State :=
  if a < 0x05000000 then s.writeTileReg iseal a v
  else if a < 0x05010000 then s.writeSystem ini a v
  else if a < 0x05030000 then s.writeEvents a v
  else if a < 0x05040000 then s.writeSeal a v
  else if a < 0x05050000 then s.writeBoot a v
  else if a < 0x05060000 then s.writeSystem ini a v
  else if a < 0x05070000 then s.writePst a v
  else if a < 0x05080000 then s.writeCip ini a v
  else if a < 0x050A0000 then s.writeLink a v
  else if a < 0x050B0000 then s.writeWired a v
  else if a < 0x050D0000 then s.writeHost a v
  else if a < 0x050E0000 then s.writeSensors a v
  else if a < 0x06000000 then s.writeFault a v
  else if a < 0x08000000 then s.writeCluster iseal a v
  else s.writeHost a v

/-! ### Writes -/

/-- A write of ring memory: taken in ACTIVE and STOPPED (R442, R457). -/
def State.writeRing (s : State) (u : Nat) (bs : List Byte) : State :=
  if s.qstate (doorQueue u) = 1 ∨ s.qstate (doorQueue u) = 2 then s.setBytes u bs else s

/-- A write of bytes from byte `lo` of the unit at `u`: rows take any bytes, everything else whole units only (R14, R94,
R171, R442). -/
def State.writeUnit (s : State) (ini : Initiator) (sealedW : Bool) (u lo : Nat) (bs : List Byte) : State :=
  if (scratchOf u).isSome then
    if s.clearing (u / 0x200000) || s.inClReset (u / 0x200000) then s else s.spWrite (u + lo) sealedW bs
  else if lo ≠ 0 ∨ bs.length ≠ 4 ∨ s.doorShut u = true then s
  else if 0x04000000 ≤ u ∧ u < 0x04020000 then s
  else if isRing u then s.writeRing u bs
  else
    let v := ofBytes (bs.take 3)
    if isSched u then
      let c := (u - 0x06000000) / 0x100000
      s.writeSched c (u - schedBase c) v
    else match localOf u with
      | some k => s.setBytes (s.localKey k u) (toBytes 3 v)
      | none => s.writeReg ini sealedW u v

/-- Writes of the units a list of bytes from `a` on covers. -/
def State.writeUnits (s : State) (ini : Initiator) (sealedW : Bool) (bs : List Byte) :
    List (Nat × Nat × Nat) → State
  | [] => s
  | (u, lo, n) :: l => (s.writeUnit ini sealedW u lo (bs.take n)).writeUnits ini sealedW (bs.drop n) l

/-- A write of bytes from `a` on by an initiator; `sealedW`: made in sealed state (R14, R42, R91, R95, R96, R114). -/
def State.busWrite (s : State) (ini : Initiator) (sealedW : Bool) (a : Nat) (bs : List Byte) : State :=
  s.onWrite ini sealedW a fun s => s.writeUnits ini sealedW bs (cutUnits a bs.length)

/-! ### The host's ports (R137, R158, R159, R439) -/

/-- The initiator a host port is. -/
def hostIni (spi : Bool) : Initiator := if spi then .spi else .pcie

/-- A host read of n bytes. -/
def State.hostRead (s : State) (spi : Bool) (a n : Nat) : State × List Byte := s.busRead (hostIni spi) a n

/-- A host write of bytes. -/
def State.hostStore (s : State) (spi : Bool) (a : Nat) (bs : List Byte) : State := s.busWrite (hostIni spi) false a bs

/-- The device address of an offset in BAR0 (Table HOST-1). -/
def bar0 (o : Nat) : Option Nat :=
  if o < 0x200000 then some (0x01000000 + o)
  else if o < 0x340000 then some (0x03000000 + (o - 0x200000))
  else if o < 0x400000 then none
  else if o < 0x500000 then some (0x05000000 + (o - 0x400000))
  else if o < 0x520000 then some (0x04000000 + (o - 0x500000))
  else if o < 0x600000 then none
  else if o < 0xA10000 then some (0x06000000 + (o - 0x600000))
  else if o < 0xC00000 then none
  else if o < 0xC40000 then some (0x08000000 + (o - 0xC00000))
  else none

/-- A doubleword of the MSI-X table or the pending-bit array, as the standard lays them out. -/
def State.msixWord (s : State) (o : Nat) : Nat :=
  if o < 0xF00400 then
    let e := s.msixOf ((o - 0xF00000) / 16)
    match o / 4 % 4 with
    | 0 => e.addrLo
    | 1 => e.addrHi
    | 2 => e.data
    | _ => b2n e.masked
  else flagBits 32 fun i => tabGet (fun _ => false) s.msixPend ((o - 0xF01000) / 4 * 32 + i)

/-- A doubleword of the MSI-X table written. -/
def State.msixWrite (s : State) (o v : Nat) : State :=
  if o < 0xF00400 then
    let n := (o - 0xF00000) / 16
    let e := s.msixOf n
    s.setMsix n (match o / 4 % 4 with
      | 0 => { e with addrLo := v / 4 * 4 }
      | 1 => { e with addrHi := v }
      | 2 => { e with data := v }
      | _ => { e with masked := bitOf v 0 })
  else s

/-- An offset of BAR0 that holds MSI-X structures. -/
def isMsix (o : Nat) : Bool :=
  (decide (0xF00000 ≤ o) && decide (o < 0xF00400)) || (decide (0xF01000 ≤ o) && decide (o < 0xF01008))

/-- A read of n bytes at an offset of a BAR. -/
def State.barRead (s : State) (bar2 : Bool) (o n : Nat) : State × List Byte :=
  if bar2 then (if o < 0x800000 then s.hostRead false o n else (s.barMiss false, List.replicate n 0))
  else if isMsix o then
    (if s.hostLive then (s, ((toBytes 4 (s.msixWord (o / 4 * 4))).drop (o % 4)).take n)
     else (s.barMiss false, List.replicate n 0))
  else match bar0 o with
    | some a => s.hostRead false a n
    | none => (s.barMiss false, List.replicate n 0)

/-- A write of bytes at an offset of a BAR; the MSI-X table takes aligned doublewords (log entry 9). -/
def State.barWrite (s : State) (bar2 : Bool) (o : Nat) (bs : List Byte) : State :=
  if bar2 then (if o < 0x800000 then s.hostStore false o bs else s.barMiss true)
  else if isMsix o then
    (if !s.hostLive then s.barMiss true else if o % 4 = 0 ∧ bs.length = 4 then s.msixWrite o (ofBytes bs) else s)
  else match bar0 o with
    | some a => s.hostStore false a bs
    | none => s.barMiss true

/-! ### The SPI host port (R436-R439) -/

/-- CRC-8 of R437. -/
def crc8 (bs : List Byte) : Nat := bs.foldl (fun x b => iter (crcBitU 8 0x07) 8 (x ^^^ b.toNat)) 0xFF

/-- A transaction begins: its mode is shown (R436). -/
def State.spiBegin (s : State) (mode3 : Bool) : State := s.setFld F.HST_SPISTAT_MODE3 (b2n mode3)

/-- An SPI error counted (Table HOST-12). -/
def State.spiError (s : State) (f : Fld) : State := (s.incFld f 1).hostEvent 4

/-- The port runs protocol v2. -/
def State.spiV2 (s : State) : Bool := s.flag F.HST_SPISTAT_PROTO

/-- The header bytes that HCRC covers. -/
def spiHeader (cmd len : Nat) (addr : BitVec 32) : List Byte := toBytes 1 cmd ++ toBytes 1 len ++ toBytes 4 addr.toNat

/-- HCRC is good, or the protocol has none. -/
def State.hcrcOk (s : State) (cmd len : Nat) (addr : BitVec 32) (hcrc : Byte) : Bool :=
  !s.spiV2 || crc8 (spiHeader cmd len addr) == hcrc.toNat

/-- The commands of the SPI host port (Table HOST-3). -/
inductive SpiCmd where
  | write
  | read
  | replay
  | status
  | enterV2
  | exitV2
  deriving DecidableEq, Repr

/-- The command a CMD byte names under v2 or v1; none where it is unknown or of the other protocol (Table HOST-3, R438). -/
def spiCmd (v2 : Bool) (cmd : Nat) : Option SpiCmd :=
  if cmd = 0x02 then some .write
  else if cmd = 0x0B then some .read
  else if cmd = 0x0C then (if v2 then some .replay else none)
  else if cmd = 0x05 then some .status
  else if cmd = 0x3C then (if v2 then none else some .enterV2)
  else if cmd = 0x3D then (if v2 then some .exitV2 else none)
  else none

/-- Whole units written in order. -/
def State.spiUnits (s : State) (a : Nat) (bs : List Byte) : Nat → State
  | 0 => s
  | n + 1 => (s.hostStore true a (bs.take 4)).spiUnits (a + 4) (bs.drop 4) n

/-- A WRITE: the bytes the host sent, and DCRC under v2 where the transaction got that far. -/
def State.spiWrite (s : State) (len : Nat) (addr : BitVec 32) (hcrc : Byte) (data : List Byte) (dcrc : Option Byte) : State :=
  let a := addr.toNat / 4 * 4
  if s.spiV2 then
    if !s.hcrcOk 0x02 len addr hcrc then { s.spiError F.HST_SPIERR_HCRC with readData := toBytes 1 0xE1 }
    else match dcrc with
      | none => s.spiError F.HST_SPIERR_FRAME
      | some d =>
        if data.length ≠ 4 * (len + 1) then s.spiError F.HST_SPIERR_FRAME
        else if crc8 data ≠ d.toNat then { s.spiError F.HST_SPIERR_DCRC with readData := toBytes 1 0xE2 }
        else { s.spiUnits a data (len + 1) with readData := toBytes 1 0xA0 }
  else
    let n := min (len + 1) (data.length / 4)
    let s1 := s.spiUnits a data n
    if n < len + 1 ∧ data.length % 4 ≠ 0 then s1.spiError F.HST_SPIERR_FRAME else s1

/-- Units read in order. -/
def State.spiReads (s : State) (a : Nat) : Nat → State × List Byte
  | 0 => (s, [])
  | n + 1 =>
    let q := s.hostRead true a 4
    let r := q.1.spiReads (a + 4) n
    (r.1, q.2 ++ r.2)

/-- What the part sends for data: the token, the data, and DCRC under v2. -/
def State.spiAnswer (s : State) (data : List Byte) : State :=
  { s with readData := toBytes 1 0xA5 ++ data ++ (if s.spiV2 then toBytes 1 (crc8 data) else []) }

/-- A READ of len + 1 units. -/
def State.spiRead (s : State) (len : Nat) (addr : BitVec 32) (hcrc : Byte) : State :=
  if s.hcrcOk 0x0B len addr hcrc then
    let q := s.spiReads (addr.toNat / 4 * 4) (len + 1)
    { q.1.spiAnswer q.2 with spiLast := q.2 }
  else { s.spiError F.HST_SPIERR_HCRC with readData := toBytes 1 0xE1 }

/-- A REPLAY: the data of the last READ again; what a LEN that does not match brings is open. -/
def State.spiReplay (s : State) (len : Nat) (addr : BitVec 32) (hcrc : Byte) : State :=
  if !s.hcrcOk 0x0C len addr hcrc then { s.spiError F.HST_SPIERR_HCRC with readData := toBytes 1 0xE1 }
  else if s.spiLast.length = 4 * (len + 1) then s.spiAnswer s.spiLast
  else s.drawn.spiAnswer (toBytes (4 * (len + 1)) (s.open_ (2 ^ (32 * (len + 1)))))

/-- A STATUS: the low byte of HST_SPISTAT; what a bad HCRC brings in its place is open (log entry 83). -/
def State.spiStatus (s : State) (len : Nat) (addr : BitVec 32) (hcrc : Byte) : State :=
  if s.hcrcOk 0x05 len addr hcrc then { s with readData := toBytes 1 (s.viewWord .spi Reg.HST_SPISTAT) }
  else { (s.spiError F.HST_SPIERR_HCRC).drawn with readData := toBytes 1 (s.open_ 256) }

/-- A transaction of the SPI host port: its CMD byte, LEN and ADDR, HCRC under v2, and what the host sends in the data phase
(R436-R438). An unknown CMD, or one of the other protocol, is ignored for the rest of the transaction and counts in FRAME. -/
def State.spiTransact (s : State) (mode3 : Bool) (cmd len : Nat) (addr : BitVec 32) (hcrc : Byte) (data : List Byte)
    (dcrc : Option Byte) : State :=
  if !s.spiOpen then s
  else
    let s1 := s.spiBegin mode3
    match spiCmd s1.spiV2 cmd with
    | some .write => s1.spiWrite len addr hcrc data dcrc
    | some .read => s1.spiRead len addr hcrc
    | some .replay => s1.spiReplay len addr hcrc
    | some .status => s1.spiStatus len addr hcrc
    | some .enterV2 => if addr = 0x56320000 then s1.setFld F.HST_SPISTAT_PROTO 1 else s1
    | some .exitV2 =>
      if s1.hcrcOk 0x3D len addr hcrc then s1.setFld F.HST_SPISTAT_PROTO 0 else s1.spiError F.HST_SPIERR_HCRC
    | none => s1.spiError F.HST_SPIERR_FRAME

/-! ### Commands -/

/-- REGISTER_WRITE: a write of `size` bytes of `v` at a register address (R11, R14). Rows are reached by the commands of
the cores and the host. -/
def execRegisterWrite (ini : Initiator) (addr size v : Nat) (s : State) : Host.Outcome State Fault Refusal :=
  ok (if (scratchOf addr).isSome then s else s.busWrite ini (s.sealedIni ini) addr (toBytes (min size 4) v))

/-- RC_FIELD_READ: a read of `size` bytes at a register address (R11, R14). -/
def execRcFieldRead (ini : Initiator) (addr size : Nat) (s : State) : Host.Outcome State Fault Refusal :=
  ok (if (scratchOf addr).isSome then s
    else if !s.portOpen ini then s
    else let q := s.busRead ini addr (min size 4); { q.1 with readData := q.2 })

/-- HOST_BAR_ACCESS: a read of `size` bytes, or a write of them, at an offset of BAR0 or BAR2 (R429-R431). -/
def execHostBarAccess (bar2 : Bool) (off : BitVec 24) (size : Fin 5) (v : Option (BitVec 32)) (s : State) :
    Host.Outcome State Fault Refusal :=
  ok (if !s.barOpen then s
    else match v with
      | some v => s.barWrite bar2 off.toNat (toBytes size v.toNat)
      | none => let q := s.barRead bar2 off.toNat size; { q.1 with readData := q.2 })

/-- SPI_WRITE (R437, R438). -/
def execSpiWrite (mode3 : Bool) (len : Fin 64) (addr : BitVec 32) (hcrc : Byte) (data : List Byte) (dcrc : Option Byte)
    (s : State) : Host.Outcome State Fault Refusal := ok (s.spiTransact mode3 0x02 len addr hcrc data dcrc)

/-- SPI_READ (R437, R438). -/
def execSpiRead (mode3 : Bool) (len : Fin 64) (addr : BitVec 32) (hcrc : Byte) (s : State) :
    Host.Outcome State Fault Refusal := ok (s.spiTransact mode3 0x0B len addr hcrc [] none)

/-- SPI_REPLAY (R436). -/
def execSpiReplay (mode3 : Bool) (len : Fin 64) (addr : BitVec 32) (hcrc : Byte) (s : State) :
    Host.Outcome State Fault Refusal := ok (s.spiTransact mode3 0x0C len addr hcrc [] none)

/-- SPI_STATUS: a transaction without data of the host, with the CMD byte it begins with; 0x05 is STATUS, and a byte that Table
HOST-3 does not list is an unknown CMD (R436, R438). -/
def execSpiStatus (h : SpiHead) (s : State) : Host.Outcome State Fault Refusal :=
  ok (s.spiTransact h.mode3 h.cmd.toNat h.len h.addr h.hcrc [] none)

/-- ENTER_V2: known to v1 alone; another ADDR leaves the protocol as it is (R436, R438). -/
def execEnterV2 (mode3 : Bool) (addr : BitVec 32) (s : State) : Host.Outcome State Fault Refusal :=
  ok (s.spiTransact mode3 0x3C 0 addr 0 [] none)

/-- EXIT_V2: known to v2 alone (R436, R438). -/
def execExitV2 (mode3 : Bool) (len : Fin 64) (addr : BitVec 32) (hcrc : Byte) (s : State) :
    Host.Outcome State Fault Refusal := ok (s.spiTransact mode3 0x3D len addr hcrc [] none)

/-- DBG_CDATA_ACCESS: a write of DBG_CDATA, or a read of it (R754). -/
def execDbgCdataAccess (ini : Initiator) (w : Option Word) (s : State) : Host.Outcome State Fault Refusal :=
  ok (match w with
    | some v => s.busWrite ini (s.sealedIni ini) Reg.DBG_CDATA (toBytes 4 v.toNat)
    | none =>
      if !s.portOpen ini then s
      else let q := s.busRead ini Reg.DBG_CDATA 4; { q.1 with readData := q.2 })

end Sys2Proof.Machine
end

