-- ==== Sys2Proof/Machine/Boot.lean ====
section
/-! DEFINITION. The boot loader: fuses, flash discovery and staging, the configuration parcel with its checks, its
application, the release of the flash, host boot and recovery (05_boot_parcel.md). -/

namespace Sys2Proof.Machine

open Sys2Proof

/-! ### Fields of a parcel (R144, Table BOOT-4, Table BOOT-5) -/

/-- The little-endian number of n bytes at byte o. -/
def numAt (p : List Byte) (o n : Nat) : Nat := ofBytes ((p.drop o).take n)

/-- Bytes of a parcel are zero from byte o on, n of them. -/
def zeroAt (p : List Byte) (o n : Nat) : Bool := ((p.drop o).take n).all (· == 0)

/-- HDRLEN of a format. -/
def hdrLen (fmt : Nat) : Nat := if fmt = 1 then 32 else 64

/-- FORMAT, NSECT, TOTLEN of a parcel. -/
def fmtOf (p : List Byte) : Nat := numAt p 4 1
/-- NSECT. -/
def nsectOf (p : List Byte) : Nat := numAt p 6 2
/-- TOTLEN. -/
def totLen (p : List Byte) : Nat := numAt p 8 4

/-- Steps 1 to 3 of R150 on a header, HDRLEN and the host's length aside: the code, 0 when they pass. -/
def headCode (p : List Byte) (fmt1dis : Bool) : Nat :=
  if numAt p 0 4 ≠ 0x4C435048 then 4
  else if !(fmtOf p == 2 || (fmtOf p == 1 && !fmt1dis)) then 5
  else if totLen p % 16 ≠ 0 ∨ 524288 < totLen p ∨ totLen p < hdrLen (fmtOf p) + 16 * nsectOf p + 16 then 6
  else 0

/-- A section table entry. -/
structure Sect where
  type : Nat
  sflags : Nat
  off : Nat
  len : Nat
  arg : Nat
  deriving DecidableEq, Repr

/-- The section table. -/
def sectsOf (p : List Byte) : List Sect :=
  (List.range (nsectOf p)).map fun i =>
    let o := hdrLen (fmtOf p) + 16 * i
    { type := numAt p o 2, sflags := numAt p (o + 2) 2, off := numAt p (o + 4) 4, len := numAt p (o + 8) 4, arg := numAt p (o + 12) 4 }

/-- A section's payload. -/
def Sect.payload (x : Sect) (p : List Byte) : List Byte := (p.drop x.off).take x.len

/-- A type of Table BOOT-6 that the format knows. -/
def Sect.known (x : Sect) (fmt : Nat) : Bool := (decide (1 ≤ x.type) && decide (x.type ≤ 7)) || (x.type == 8 && fmt == 2)

/-- The sections that count: those of known types (R147). -/
def knownSects (p : List Byte) : List Sect := (sectsOf p).filter fun x => x.known (fmtOf p)

/-- Known sections of a type. -/
def sectsOfType (p : List Byte) (ty : Nat) : List Sect := (knownSects p).filter fun x => x.type == ty

/-! ### The section table (R145, R147, step 7 of R150) -/

/-- Two payloads overlap. -/
def Sect.meets (x y : Sect) : Bool := decide (0 < x.len) && decide (0 < y.len) && decide (x.off < y.off + y.len) && decide (y.off < x.off + x.len)

/-- No two payloads overlap. -/
def apart : List Sect → Bool
  | [] => true
  | x :: l => l.all (fun y => !x.meets y) && apart l

/-- An entry that R145 or R147 refuses. -/
def Sect.bad (x : Sect) (fmt lo hi : Nat) : Bool :=
  decide (2 ≤ x.sflags) || x.off % 4 != 0 || decide (x.off < lo) || decide (hi < x.off + x.len) ||
    (!x.known fmt && x.sflags != 1)

/-- A byte between the table and the tag that no section covers is not zero (R144). -/
def padded (p : List Byte) (lo hi : Nat) (l : List Sect) : Bool :=
  ((p.take hi).zipIdx.drop lo).any fun e => e.1 != 0 && !l.any fun x => decide (x.off ≤ e.2) && decide (e.2 < x.off + x.len)

/-- Header bytes that R144 requires to be zero are not, or a header value is out of its range (log entry 19). -/
def headBad (p : List Byte) : Bool :=
  decide (nsectOf p < 2) || decide (64 < nsectOf p) || decide (32 < numAt p 12 1) ||
    (if fmtOf p = 1 then decide (2 ≤ numAt p 13 1) || !zeroAt p 14 18 else decide (4 ≤ numAt p 13 1) || !zeroAt p 36 28)

/-- Step 7 of R150 fails. -/
def tableBad (p : List Byte) : Bool :=
  let lo := hdrLen (fmtOf p) + 16 * nsectOf p
  let hi := totLen p - 16
  let l := sectsOf p
  headBad p || l.any (·.bad (fmtOf p) lo hi) || !apart l || (sectsOfType p 1).length != 1 || (sectsOfType p 7).length != 1 ||
    decide (1 < (sectsOfType p 2).length) || decide (1 < (sectsOfType p 3).length) || padded p lo hi l

/-! ### Section contents (R146, step 8 of R150) -/

/-- A record of the SEAL section: zone, budget, minimum interval. -/
structure SealRec where
  zone : Nat
  budget : Nat
  miniv : Nat
  deriving DecidableEq, Repr

/-- The records of a SEAL payload. -/
def sealRecs (b : List Byte) : List SealRec :=
  (List.range (numAt b 10 1)).map fun i =>
    { zone := numAt b (11 + 5 * i) 1, budget := numAt b (12 + 5 * i) 2, miniv := numAt b (14 + 5 * i) 2 }

/-- A record outside R58. -/
def SealRec.bad (r : SealRec) : Bool :=
  decide (63 < r.zone) || decide (r.budget < 8) || decide (512 < r.budget) || decide (r.miniv < 33)

/-- A zone stands twice. -/
def zoneTwice : List SealRec → Bool
  | [] => false
  | r :: l => l.any (fun x => x.zone == r.zone) || zoneTwice l

/-- Entries of a REG payload: address and value, and whether OP is zero. -/
def regEntries (b : List Byte) : List (Nat × Nat × Bool) :=
  (List.range (b.length / 8)).map fun i => (numAt b (8 * i) 4, numAt b (8 * i + 4) 3, numAt b (8 * i + 7) 1 == 0)

/-- An address a REG entry may target (R146). -/
def regTarget (a : Nat) : Bool :=
  [0x0500, 0x0501, 0x0502, 0x0507, 0x0508, 0x0509, 0x050A, 0x050C, 0x050D, 0x050E].contains (a / 0x10000) ||
    ((clusterOf a).isSome && clusterMapped a) || a / 0x10000 == 0x0640 || (tileOf a).isSome

/-- Words of a CODE or DATA section run past the end of its memory. -/
def Sect.tooLong (x : Sect) : Bool :=
  decide (0 < x.len) && decide ((if x.type = 5 then 65536 else 32768) < x.arg / 256 + x.len / 3)

/-- The start mask with an entry address that is no instruction address. -/
def entryBad (mask : Nat) (b : List Byte) : Bool := (List.range 5).any fun k => bitOf mask k && decide (65535 < numAt b (3 * k) 3)

/-- A KEY payload is malformed, or its key does not unwrap. -/
def keyBad (kek b : List Byte) : Bool :=
  let size := numAt b 1 1
  numAt b 0 1 == 0 || decide (15 < numAt b 0 1) || !(size == 16 || size == 32) || !zeroAt b 2 2 || b.length != size + 12 ||
    (keyUnwrap kek (b.drop 4)).isNone

/-- The code of one section's contents, 0 when they pass; a LENGTH or ARG that its type does not allow is BADSECT (log
entry 19). -/
def Sect.code (x : Sect) (kek p : List Byte) : Nat :=
  let b := x.payload p
  let sect (bad : Bool) : Nat := if bad then 12 else 0
  match x.type with
  | 1 =>
    if x.arg ≠ 0 ∨ x.len < 11 ∨ 64 < numAt b 10 1 ∨ x.len ≠ 11 + 5 * numAt b 10 1 then 12
    else if (sealRecs b).any SealRec.bad || zoneTwice (sealRecs b) then 11
    else 0
  | 2 => sect (x.arg != 0 || x.len != 4 || numAt b 3 1 != 0 || decide (1 < numAt b 2 1) || !pllaOk (numAt b 0 1) (numAt b 1 1))
  | 3 => sect (x.arg != 0 || x.len != 4 || decide (2 ^ 11 ≤ numAt b 0 4) || !bitOf (numAt b 0 4) 6)
  | 4 => sect (x.arg != 0 || x.len % 8 != 0 || (regEntries b).any fun e => !e.2.2 || e.1 % 4 != 0 || !regTarget e.1)
  | 5 | 6 => sect (x.len % 3 != 0 || decide (4 < x.arg % 256) || x.tooLong)
  | 7 => sect (x.len != 15 || decide (32 ≤ x.arg) || !bitOf x.arg 4 || entryBad x.arg b)
  | _ => sect (x.arg != 0 || keyBad kek b)

/-- Slots of KEY sections. -/
def keySlots (p : List Byte) : List Nat := (sectsOfType p 8).map fun x => numAt (x.payload p) 0 1

/-- Step 8 of R150 over the sections in table order; a key slot given twice is BADSECT. -/
def contentCode (kek p : List Byte) : Nat :=
  match (((knownSects p).map fun x => x.code kek p).filter (· != 0)).head? with
  | some n => n
  | none => if (keySlots p).eraseDups.length = (keySlots p).length then 0 else 12

/-! ### Authentication (R148, R149) -/

/-- The label HLPARCEL. -/
def labelParcel : List Byte := [0x48, 0x4C, 0x50, 0x41, 0x52, 0x43, 0x45, 0x4C]
/-- The label HLKEYWRP. -/
def labelKeywrap : List Byte := [0x48, 0x4C, 0x4B, 0x45, 0x59, 0x57, 0x52, 0x50]

/-- The context of the parcel key. -/
def parcelContext (p : List Byte) : List Byte :=
  if fmtOf p = 1 then List.replicate 17 0 else (p.drop 14).take 1 ++ (p.drop 20).take 16

/-- The parcel key under slot 0. -/
def parcelKey (devkey p : List Byte) : List Byte := kdf devkey labelParcel (parcelContext p) 2

/-- The key-wrap key under slot 0. -/
def wrapKey (devkey : List Byte) : List Byte := kdf devkey labelKeywrap (List.replicate 17 0) 2

/-- The tag matches. -/
def tagOk (key p : List Byte) : Bool := beBytes 16 (cmac key (p.take (totLen p - 16))) == (p.drop (totLen p - 16)).take 16

/-! ### The staged copy (R143) -/

/-- The first n bytes of the copy staged in SP0. -/
def State.staged (s : State) (n : Nat) : List Byte := (List.range n).map fun i => s.byte (rowAddr 0 (i / 384) + i % 384)

/-- Bytes written into the rows of SP0 from row 0 on. -/
def State.stage (s : State) (bs : List Byte) : State :=
  (List.range ((bs.length + 383) / 384)).foldl (fun s r => s.writePart 0 r 0 ((bs.drop (384 * r)).take 384) false) s

/-- The whole staged parcel. -/
def State.parcel (s : State) : List Byte := s.staged (totLen (s.staged 64))

/-- The device key in slot 0. -/
def State.devkey (s : State) : List Byte := (s.cipKey 0).key

/-- Steps 1 to 3 of R150. -/
def State.headerCode (s : State) : Nat :=
  let h := s.staged 64
  let c := headCode h (s.flag F.BOOT_FUSE_FMT1DIS)
  if c ≠ 0 ∧ c ≠ 6 then c
  else if c = 6 ∨ numAt h 5 1 ≠ hdrLen (fmtOf h) ∨
      (s.fld F.BOOT_STRAP_EFFSRC = 2 ∧ s.fld F.BOOT_HOSTLEN_LEN ≠ totLen h) then 6
  else 0

/-- Steps 4 to 8 of R150 on the parcel under its derived key. -/
def State.bodyCode (s : State) (key p : List Byte) : Nat :=
  if !tagOk key p then 7
  else if 0x21 < numAt p 15 1 then 8
  else if numAt p 12 1 < s.shadow.rollback then 9
  else if tableBad p then 10
  else contentCode (wrapKey s.devkey) p

/-! ### States of the boot loader (Table BOOT-1) -/

/-- BOOT_TIME at DONE or HOLD. -/
def State.bootTime (s : State) : State := s.setFld F.BOOT_TIME_US (min (2 ^ 24 - 1) ((s.evtCycles - s.boot.base) / 64))

/-- The derived key is taken into the boot register under the lock of owner 8 (R148, R149). -/
def State.takeBootKey (s : State) (key : List Byte) : State :=
  { s with cip := { s.cip with boot := key } }.setFld F.CIP_LOCK_OWNER 8

/-- The derived key goes, and the lock with it. -/
def State.dropBootKey (s : State) : State :=
  let s1 := if s.cipHolder = 8 then s.dropLock false else s
  { s1 with cip := { s1.cip with boot := [] } }

/-- What the boot loader does at the flash port. -/
def State.flashDo (s : State) (l : List FlashOp) : State := { s with boot := { s.boot with flash := s.boot.flash ++ l } }

/-- Step 2 of R155: FLASH_CS_N high, then the six flash balls high-impedance with no pull. -/
def State.floatFlash (s : State) : State :=
  let s1 := s.flashDo [.csHigh, .floating]
  { s1 with boot := { s1.boot with floating := true } }

/-- HOLD is entered with a code (R159). -/
def State.enterHold (s : State) (code : Nat) : State :=
  let s1 := (((s.setFld F.BOOT_STATUS_CODE code).setFld F.BOOT_STATUS_STAGE 8).setFld F.BOOT_STATUS_HOLD
    1).bootTime.floatFlash.dropBootKey
  let s2 := if s1.domOn 13 then s1.clearScratch 0 else s1
  let s3 := if s2.recoveryAllowed then (s2.requestOn [5] true).1 else s2
  s3.flrResume

/-- A command of the boot loader in one of its states. -/
def State.bootStep (s : State) (stage : Nat) (go : State → State) : State :=
  if s.stopped || s.fld F.BOOT_STATUS_STAGE != stage then s else go s

/-- The bytes of the fuse array that its CRC covers: the fields of Table BOOT-3 in its order, without ROLLBACK, whose bits
the boot loader blows under a CRC that stays (R156, R161; log entry 78). -/
def Fuses.bytes (f : Fuses) : List Byte :=
  f.devkey ++ toBytes 8 f.uid.toNat ++
    toBytes 1 (f.lifecycle.toNat + 4 * b2n f.dbgdis + 8 * b2n f.fmt1dis + 16 * b2n f.hostbootdis) ++ toBytes 6 f.anatrim.toNat

/-- The CRC of the array matches (R140). -/
def Fuses.crcOk (f : Fuses) : Bool := crc16 f.bytes == f.crc.toNat

/-- The fuse shadow loaded after a power-on reset, and kept across every other reset (R140, Table BOOT-3). -/
def State.loadShadow (s : State) : State :=
  if s.flag F.BOOT_FUSE_SHADOWOK then s
  else
    let f := s.fuses
    let u := f.uid.toNat
    let s1 := { s with shadow := f }
    let s2 := ((s1.setReg Reg.BOOT_UID0 (BitVec.ofNat 24 u)).setReg Reg.BOOT_UID1 (BitVec.ofNat 24 (u / 2 ^ 24))).setFld
      F.BOOT_UID2_UID (u / 2 ^ 48)
    let s3 := ((s2.setFld F.BOOT_FUSE_DBGDIS (b2n f.dbgdis)).setFld F.BOOT_FUSE_FMT1DIS (b2n f.fmt1dis)).setFld
      F.BOOT_FUSE_HOSTBOOTDIS (b2n f.hostbootdis)
    ((s3.setFld F.BOOT_FUSE_LIFECYCLE f.lifecycle.toNat).setFld F.BOOT_FUSE_SHADOWOK (b2n f.crcOk)).setFld
      F.BOOT_ROLLBACK_LEVEL f.rollback

/-- The boot source in use, and whether a test strap was refused (Table BOOT-2). -/
def State.bootSource (s : State) : Nat × Bool :=
  match s.fld F.BOOT_STRAP_BOOTSEL with
  | 2 => (if s.flag F.BOOT_FUSE_HOSTBOOTDIS then 0 else 2, false)
  | 3 => if s.fld F.BOOT_FUSE_LIFECYCLE = 2 then (0, true) else (3, false)
  | n => (n, false)

/-- A run of the boot loader counted (R732, Table FLT-1). -/
def State.countBoot (s : State) : State := s.setFld F.FLT_BOOTCNT_COUNT (s.fld F.FLT_BOOTCNT_COUNT + 1)

/-- FUSE (R139, R140, R756). In the production test condition the boot loader does not run, so it makes no HOLD of a bad
CRC either (log entry 78). -/
def State.bootFuse (s : State) : State :=
  if s.fld F.BOOT_STRAP_EFFSRC = 3 then (s.requestOn [7] true).1
  else
    let s1 := s.loadShadow
    if s1.fld F.BOOT_STRAP_BOOTSEL = 3 ∧ s1.fld F.BOOT_FUSE_LIFECYCLE < 2 then
      ((s1.setFld F.BOOT_STRAP_EFFSRC 3).requestOn [7] true).1
    else if !s1.flag F.BOOT_FUSE_SHADOWOK || s1.fld F.BOOT_FUSE_LIFECYCLE == 3 then s1.countBoot.enterHold 1
    else
      let q := s1.bootSource
      let s2 := ((s1.setFld F.BOOT_STRAP_EFFSRC q.1).setFld F.BOOT_STATUS_TESTSTRAP (b2n q.2)).countBoot
      match q.1 with
      | 2 => ((s2.setFld F.BOOT_STATUS_STAGE 7).requestOn [7, 13, 5] true).1
      | _ => ((s2.setFld F.BOOT_STATUS_STAGE 1).requestOn [7, 13] true).1

/-! ### The flash's own tables (R141, R142) -/

/-- Byte address of the Basic Flash Parameter Table, from the first parameter header of the SFDP header (JESD216; log entry
79). -/
def bfptAt (x : Sfdp) : Nat := numAt x.head 12 3

/-- Length of the BFPT in doublewords, from the same header. -/
def bfptLen (x : Sfdp) : Nat := numAt x.head 11 1

/-- Doubleword n of the BFPT, counted from 1, of those that discovery uses; one past its length counts as zero. -/
def bfptWord (x : Sfdp) (n : Nat) : Nat :=
  if bfptLen x < n then 0
  else match n with
    | 1 => x.dw1.toNat
    | 2 => x.dw2.toNat
    | 3 => x.dw3.toNat
    | 15 => x.dw15.toNat
    | _ => 0

/-- The SFDP signature. -/
def sfdpSigned (x : Sfdp) : Bool := numAt x.head 0 4 == 0x50444653

/-- log2 of the density in bytes: the table gives bits, less one, or their logarithm. -/
def flashDensity (x : Sfdp) : Nat :=
  let d := bfptWord x 2
  if bitOf d 31 then d % 2 ^ 31 - 3 else Nat.log2 ((d + 1) / 8)

/-- The table gives 4-byte addressing only. -/
def flashOnly4 (x : Sfdp) : Bool := bitsOf (bfptWord x 1) 17 2 == 2

/-- The table reports 1-1-4 Fast Read. -/
def flashFast114 (x : Sfdp) : Bool := bitOf (bfptWord x 1) 22

/-- The quad-enable requirement, where it is one that R142 takes: none, or the status register and its bit. -/
def flashQuadEnable (x : Sfdp) : Option (List FlashOp) :=
  if bfptLen x < 15 then none
  else match bitsOf (bfptWord x 15) 20 3 with
    | 0 => some []
    | 1 | 4 | 5 | 6 => some [.setQuad 2 1]
    | 2 => some [.setQuad 1 6]
    | _ => none

/-- Reads use Read (0x03) on a single lane. -/
def State.singleRead (s : State) : State :=
  { (s.setFld F.BOOT_FLASH_QUAD 0).setFld F.BOOT_STATUS_SINGLE 1 with boot := { s.boot with readOp := 3, waits := 0 } }

/-- DISCOVER on what the flash answers (R141, R142). With BOOTSEL 0b00 and no quad read the source in use stays
the flash, EFFSRC 0, and SINGLE is set; QUAD is 1 for every quad read, one whose flash needs no bit set included (log
entry 79). -/
def State.discover (s : State) (sfdp : Sfdp) : State :=
  let s0 := s.flashDo [.cmd 0x66, .cmd 0x99, .cmd 0xAB, .read 0x5A 8 0]
  if !sfdpSigned sfdp then s0.enterHold 2
  else
    let s1 := (s0.flashDo [.read 0x5A 8 (bfptAt sfdp)]).setFld F.BOOT_FLASH_DENSITY (min 255 (flashDensity sfdp))
    if flashDensity sfdp < 20 ∨ flashOnly4 sfdp = true then s1.enterHold 3
    else
      let s2 := s1.setFld F.BOOT_STATUS_STAGE 2
      match flashQuadEnable sfdp with
      | some ops =>
        if s.fld F.BOOT_STRAP_EFFSRC = 0 ∧ flashFast114 sfdp = true then
          let w := bfptWord sfdp 3
          let s3 := ((s2.flashDo ops).setFld F.BOOT_FLASH_QUAD 1).setFld F.BOOT_STATUS_SINGLE 0
          { s3 with boot := { s3.boot with readOp := bitsOf w 24 8, waits := bitsOf w 16 5 } }
        else s2.singleRead
      | none => s2.singleRead

/-- STAGE: the copy as the flash answers one read command, erased bytes after it (R143, R167). -/
def State.stageCopy (s : State) (data : List Byte) : State :=
  if !s.domOn 13 then s
  else
    let h := (data ++ List.replicate 64 0xFF).take 64
    let n := if headCode h (s.flag F.BOOT_FUSE_FMT1DIS) = 0 then totLen h else hdrLen (if fmtOf h = 2 then 2 else 1)
    let s1 := s.flashDo [.read s.boot.readOp s.boot.waits (0x80000 * s.fld F.BOOT_STATUS_COPY)]
    (s1.stage ((data ++ List.replicate n 0xFF).take n)).setFld F.BOOT_STATUS_STAGE 3

/-- A parcel that fails: the backup copy is tried once, else HOLD (Table BOOT-1, R163). -/
def State.checkFailed (s : State) (code : Nat) : State :=
  if s.fld F.BOOT_STRAP_EFFSRC ≠ 2 ∧ s.fld F.BOOT_STATUS_COPY = 0 then
    ((s.setFld F.BOOT_STATUS_FALLBACK 1).setFld F.BOOT_STATUS_COPY 1).setFld F.BOOT_STATUS_STAGE 2
  else s.enterHold code

/-- A parcel that passes (Table BOOT-9). -/
def State.checkPassed (s : State) (p : List Byte) : State :=
  let two := fmtOf p == 2
  let s1 := ((s.setFld F.BOOT_FMT_FORMAT (fmtOf p)).setFld F.BOOT_FMT_ROLLLVL (numAt p 12 1)).setFld F.BOOT_FMT_KEYGEN
    (if two then numAt p 14 1 else 0)
  let s2 := (s1.setFld F.BOOT_BUILDLO_BUILD (if two then numAt p 16 3 else 0)).setFld F.BOOT_BUILDHI_BUILD
    (if two then numAt p 19 1 else 0)
  { s2.setFld F.BOOT_STATUS_STAGE 4 with
    boot := { s2.boot with apply := 0, sp0 := 0, dpd := bitOf (numAt p 13 1) 0, advroll := two && bitOf (numAt p 13 1) 1,
                           level := numAt p 12 1 } }

/-- CHECK (R150). -/
def State.check (s : State) : State :=
  if !s.domOn 7 || !s.domOn 13 then s
  else if s.headerCode ≠ 0 then s.checkFailed s.headerCode
  else
    let p := s.parcel
    let key := parcelKey s.devkey p
    let s1 := s.takeBootKey key
    let c := s1.bodyCode key p
    if c = 0 then s1.checkPassed p else s1.checkFailed c

/-! ### APPLY (R151) -/

/-- A noise card is valid for tile t (R295, R296). -/
def cardOk (t : Nat) (b : List Byte) : Bool :=
  numAt b 0 1 == 1 && numAt b 1 1 == t && zeroAt b 8 8 && zeroAt b 40 8 && zeroAt b 440 6 && numAt b 446 2 == crc16 (b.take 446)

/-- The trims of tile t from bytes 48-439 of its card, the model parameters from bytes 16-39; the static terms are drawn
(R291, R294, R296). -/
def State.setTrims (s : State) (t : Nat) (b : List Byte) : State :=
  let s1 := (List.range 131).foldl (fun s k =>
    s.setReg (Reg.CAL_TRIM t k) (BitVec.ofNat 24 (numAt b (48 + 3 * k) (if k = 130 then 2 else 3)))) s
  ((s1.setTrimSet t { seed := s1.free, ref := s1.trimBytes t, card := (List.range 12).map fun i => numAt b (16 + 2 * i) 2 }).drawn).setFld
    (F.CAL_STAT_TRIMOK t) 1

/-- The card of tile t read at boot (R296). -/
def State.loadCard (s : State) (t : Nat) : State :=
  let lost (s : State) : State := (s.setFld (F.CAL_STAT_CARDBAD t) 1).fault 0x05 t 0 true
  match s.findKey 1 t with
  | some p =>
    let s1 := s.eccReads (groupsOf (512 * p) 448)
    let b := s.pstBytes (512 * p) 448
    if (s.page p).len = 448 ∧ cardOk t b = true then s1.setTrims t b else lost s1
  | none => lost s

/-- Step 3: classes of the sensor ports set and locked; the PDM bit is wired to 1 (R691). -/
def State.applyClass (s : State) (p : List Byte) : State :=
  let v := match sectsOfType p 3 with
    | x :: _ => numAt (x.payload p) 0 4
    | [] => 0x7FF
  (s.setFld F.SNS_CLASS_CLASS (v ||| 64)).setFld F.SNS_CLASS_LOCKED 1

/-- Budget and minimum interval the SEAL section gives a zone (R58). -/
def zoneTerms (b : List Byte) (z : Nat) : Nat × Nat :=
  match (sealRecs b).find? fun r => r.zone == z with
  | some r => (r.budget, r.miniv)
  | none => (64, 1638)

/-- Step 4 on a meter that is not locked (R57). -/
def State.lockMeter (s : State) (b : List Byte) : State :=
  let s1 := s.setFld F.SEAL_VLIMIT_LIMIT (numAt b 0 2)
  let s2 := (List.range 8).foldl (fun s n =>
    (s.setFld (F.SEAL_ADV_ZONE n) (bitsOf (numAt b (2 + n) 1) 0 6)).setFld (F.SEAL_ADV_EN n) (bitsOf (numAt b (2 + n) 1) 7 1)) s1
  let s3 := (List.range 64).foldl (fun s z =>
    let q := zoneTerms b z
    s.setZone z { epoch := 0, seq := 0, b0 := q.1, b1 := 0, b2 := 0, b3 := 0, b4 := 0, budget := q.1, miniv := q.2, last := s.aonCycles }) s2
  s3.setFld F.SEAL_CTRL_LOCK 1

/-- A locked meter's values are those of the SEAL section (R154). -/
def State.meterSame (s : State) (b : List Byte) : Bool :=
  s.fld F.SEAL_VLIMIT_LIMIT == numAt b 0 2 &&
    ((List.range 8).all fun n => s.fld (F.SEAL_ADV_ZONE n) == bitsOf (numAt b (2 + n) 1) 0 6 &&
      s.fld (F.SEAL_ADV_EN n) == bitsOf (numAt b (2 + n) 1) 7 1) &&
    ((List.range 64).all fun z => ((s.zone z).budget, (s.zone z).miniv) == zoneTerms b z)

/-- Step 4 (R57, R154). -/
def State.applySeal (s : State) (p : List Byte) : State :=
  match sectsOfType p 1 with
  | x :: _ =>
    if s.flag F.SEAL_CTRL_LOCK then (if s.meterSame (x.payload p) then s else s.setFld F.BOOT_STATUS_SEALDIFF 1)
    else s.lockMeter (x.payload p)
  | [] => s

/-- Step 5: one KEY section into its slot, with USE 0x7F (R552). -/
def State.applyKey (s : State) (b : List Byte) : State :=
  match keyUnwrap (wrapKey s.devkey) (b.drop 4) with
  | some k => s.setCipKey (numAt b 0 1) { valid := true, size := b2n (numAt b 1 1 == 32), use := 0x7F, key := k }
  | none => s

/-- Step 6: one REG entry; a request for SP0 waits for RELEASE (R152, R155). -/
def State.applyReg (s : State) (a v : Nat) : State :=
  if s.stopped then s
  else if a = Reg.PWR_DOM 13 then { s with boot := { s.boot with sp0 := v } }
  else
    let s1 := if s.verdict .boot a true = .dark then s.incFld F.BOOT_DARKWR_COUNT 1 else s
    s1.busWrite .boot false a (toBytes 4 v)

/-- Cores a parcel names. -/
def namedCores (p : List Byte) : List Nat :=
  let mask := match sectsOfType p 7 with
    | x :: _ => x.arg
    | [] => 0
  (List.range 5).filter fun k => bitOf mask k || (sectsOfType p 5 ++ sectsOfType p 6).any fun x => x.arg % 8 == k

/-- The clusters that step 7 brings ON. -/
def namedDoms (p : List Byte) : List Nat := ((namedCores p).filter (· < 4)).map domCL

/-- Steps 2 to 6, and the requests of step 7. -/
def State.applyBody (s : State) (p : List Byte) : State :=
  let s1 := (List.range 32).foldl State.loadCard (s.pstMount .chance)
  let s2 := (s1.applyClass p).applySeal p
  let s3 := (sectsOfType p 8).foldl (fun s x => s.applyKey (x.payload p)) s2
  let s4 := ((sectsOfType p 4).flatMap fun x => regEntries (x.payload p)).foldl (fun s e => s.applyReg e.1 e.2.1) s3
  if s4.stopped then s4
  else { (s4.requestOn (namedDoms p) true).1 with boot := { s4.boot with apply := 4 } }

/-- One instruction word or data word of core k loaded (Table CLK-8). -/
def loadAddr (k : Nat) (code : Bool) (i : Nat) : Nat :=
  if code then 0x03000000 + 0x40000 * k + 4 * (i % 32768) + (if 32768 ≤ i then 0x40000000 else 0) else dataAddr k i

/-- A CODE or DATA section copied. -/
def State.copySect (s : State) (x : Sect) (p : List Byte) : State :=
  (List.range (x.len / 3)).foldl (fun s i =>
    s.setBytes (loadAddr (x.arg % 8) (x.type == 5) (x.arg / 256 + i)) (((x.payload p).drop (3 * i)).take 3)) s

/-- The START section: where each core runs from (R157, R347). -/
def State.setStarts (s : State) (p : List Byte) : State :=
  match sectsOfType p 7 with
  | x :: _ => (List.range 5).foldl (fun s k =>
      s.setCore k { s.core k with
        start := if bitOf x.arg k then some (BitVec.ofNat 16 (numAt (x.payload p) (3 * k) 3)) else none }) s
  | [] => s

/-- APPLY as far as it gets: step 1 by the sequence of R84 with its waits, steps 2 to 6, and step 7 once its clusters
are ON. -/
def State.applyParcel (s : State) : State :=
  let p := s.parcel
  let at_ (s : State) (n : Nat) : State := { s with boot := { s.boot with apply := n } }
  let clk := (sectsOfType p 2).head?.map fun x => x.payload p
  match s.boot.apply, clk with
  | 0, some _ => at_ (s.writeCoresel 0) 1
  | 0, none => at_ s 3
  | 1, some b =>
    if s.flag F.CLK_CORESEL_BUSY then s else at_ (s.writePlla (numAt b 0 1 + 2 ^ 8 * numAt b 1 1 + 2 ^ 12)) 2
  | 2, some b => if s.flag F.CLK_PLLA_LOCK then at_ (s.writeCoresel (numAt b 2 1)) 3 else s
  | 3, _ => if s.flag F.CLK_CORESEL_BUSY || !s.domOn 7 then s else s.applyBody p
  | _, _ =>
    if (namedDoms p).all s.domOn then
      let s1 := (sectsOfType p 5 ++ sectsOfType p 6).foldl (fun s x => s.copySect x p) s
      at_ ((s1.setStarts p).dropBootKey.setFld F.BOOT_STATUS_STAGE 5) 0
    else s

/-! ### RELEASE and DONE (R153, R155-R157) -/

/-- RELEASE: the flash is released; ROLLBACK bits are blown, one in each step; SP0 is cleared and takes its state. -/
def State.releaseFlash (s : State) : State :=
  let b := s.boot
  match b.apply with
  | 0 =>
    let s1 := (if b.dpd then (s.flashDo [.cmd 0xB9]).setFld F.BOOT_FLASH_DPD 1 else s).floatFlash
    { s1.setFld F.BOOT_FLASH_RELEASED 1 with boot := { s1.boot with apply := 1 } }
  | 1 =>
    if b.advroll = true ∧ s.fuses.rollback < b.level then
      { s with
        fuses := { s.fuses with rollback := s.fuses.rollback + 1 }
        shadow := { s.shadow with rollback := s.fuses.rollback + 1 } }.setFld F.BOOT_ROLLBACK_LEVEL (s.fuses.rollback + 1)
    else
      let s1 := (if s.domOn 13 then s.clearScratch 0 else s).writeDom 13 b.sp0 true
      { s1 with boot := { s1.boot with apply := 2 } }
  | _ => s

/-- DONE (R153, R157). -/
def State.bootDone (s : State) : State :=
  if s.boot.apply ≠ 2 then s
  else
    let s1 := (((s.setFld F.BOOT_STATUS_STAGE 6).setFld F.BOOT_STATUS_CODE 0).setFld F.BOOT_STATUS_DONE 1).bootTime
    let s2 := if s1.fld F.PWR_CTRL_MODE = 0 ∧ outsideBreeze s1.lit = true then
        (s1.setFld F.PWR_CTRL_MODE 1).setFld F.BOOT_STATUS_FORCEGALE 1
      else s1
    ((List.range 5).foldl State.startCore s2).flrResume

/-- A write of BOOT_CMD by the host. -/
def State.hostBootCmd (s : State) (spi : Bool) (v : Nat) : State :=
  if (if spi then s.spiOpen else s.barOpen) then s.hostStore spi Reg.BOOT_CMD (toBytes 4 v) else s

/-! ### Commands -/

/-- BOOT_FUSE (R140). -/
def execBootFuse (s : State) : Host.Outcome State Fault Refusal := ok (s.bootStep 0 State.bootFuse)

/-- BOOT_DISCOVER (R141, R142). -/
def execBootDiscover (head : List Byte) (dw1 dw2 dw3 dw15 : BitVec 32) (s : State) : Host.Outcome State Fault Refusal :=
  ok (s.bootStep 1 fun s => s.discover ⟨head, dw1, dw2, dw3, dw15⟩)

/-- BOOT_STAGE (R143). -/
def execBootStage (data : List Byte) (s : State) : Host.Outcome State Fault Refusal :=
  ok (s.bootStep 2 fun s => s.stageCopy data)

/-- BOOT_CHECK (R150). -/
def execBootCheck (s : State) : Host.Outcome State Fault Refusal := ok (s.bootStep 3 State.check)

/-- BOOT_APPLY: as far as the part's clocks and domains allow (R151). -/
def execBootApply (s : State) : Host.Outcome State Fault Refusal := ok (s.bootStep 4 State.applyParcel)

/-- BOOT_RELEASE (R155, R156). -/
def execBootRelease (s : State) : Host.Outcome State Fault Refusal := ok (s.bootStep 5 State.releaseFlash)

/-- BOOT_DONE (R157). -/
def execBootDone (s : State) : Host.Outcome State Fault Refusal := ok (s.bootStep 5 State.bootDone)

/-- BOOT_GO (R158). -/
def execBootGo (spi : Bool) (s : State) : Host.Outcome State Fault Refusal := ok (s.hostBootCmd spi 1)

/-- BOOT_RETRY (R159). -/
def execBootRetry (spi : Bool) (s : State) : Host.Outcome State Fault Refusal := ok (s.hostBootCmd spi 2)

end Sys2Proof.Machine
end

