-- ==== Sys2Proof/Machine/CoreMem.lean ====
section
/-! DEFINITION. Loads and stores of the control cores: windows, the store buffer, and the acceptance of its oldest store
(R97, R98, R330, R331, R357, R358). -/

namespace Sys2Proof.Machine

open Sys2Proof

/-- Where a data address leads. -/
inductive Reach where
  /-- Word i of the core's own data memory. -/
  | own (i : Nat)
  /-- A unit of the device map: its byte address and its width, 3 or 4 bytes. -/
  | unit (a width : Nat)
  deriving DecidableEq, Repr

/-- What a word address leads to through its window, or none for the window fault (R97, R98, Table CLK-9). A REG or PACK
address wraps at 32 bits (log entry 19). -/
def CoreSt.reach (c : CoreSt) (wa : Nat) : Option Reach :=
  let k := wa % 0x100000
  let csr := (c.csrOf (0x020 + wa / 0x100000)).toNat
  let base := bitsOf csr 2 20 * 0x1000
  if wa / 0x100000 = 0 then (if k < 32768 then some (.own k) else none)
  else match bitsOf csr 0 2 with
  | 0 => none
  | 1 => some (.unit ((base + 4 * k) % 2 ^ 32) 4)
  | 2 => if base < 0x00800000 then some (.unit (base + k / 128 * 0x200 + 3 * (k % 128)) 3) else none
  | _ => some (.unit ((base + 3 * k) % 2 ^ 32) 3)

/-- The word address of an LD or ST (R330). -/
def CoreSt.wordAddr (c : CoreSt) (rs1 : Nat) (imm : BitVec 10) : Nat := (c.reg rs1 + imm.signExtend 24).toNat

/-- The initiator core k is. -/
def coreIni (k : Nat) : Initiator := if h : k < 4 then .cc ⟨k, h⟩ else .sv

/-- How core k reaches a byte address: over the Round, in its own cluster, or through the map (R171, R176). -/
inductive Route where
  | round (tgt : Nat)
  | cluster
  | map
  deriving DecidableEq, Repr

/-- The route of an access of core k. -/
def route (k a : Nat) : Route :=
  match scratchOf a with
  | some c => if k = 4 then .map else if c = k then .cluster else .round c
  | none => .map

/-- A packet of core k's narrow access. -/
def State.corePacket (s : State) (k tgt a : Nat) (read : Bool) (data : List Byte) (t : Bool) : Packet :=
  { src := k, tgt := tgt, read := read, wide := false, addr := a, data := data, tag := t, ctx := s.ownerCtx k,
    sealedIssue := t, cw := true, stage := .flying }

/-- A load's instruction completed with its word. -/
def State.loaded (s : State) (k rd : Nat) (v : Nat) : State :=
  s.setCore k ((s.core k).setReg rd (BitVec.ofNat 24 v)).next.retired

/-- The low three bytes of a unit read. -/
def State.unitLoad (s : State) (k rd a width : Nat) : State :=
  let q := s.busRead (coreIni k) a width
  q.1.loaded k rd (ofBytes (q.2.take 3))

/-- A load of core k through its windows. -/
def State.load (s : State) (k rd : Nat) (r : Reach) : State :=
  match r with
  | .own i => s.loaded k rd (ofBytes (s.bytes (dataAddr k i) 3))
  | .unit a width =>
    match route k a with
    | .map => s.unitLoad k rd a width
    | .cluster => if s.clearing k then s else s.unitLoad k rd a (min width 3)
    | .round tgt =>
      match s.send (coreIni k) (s.corePacket k tgt a true [] (s.core k).sealedSt) with
      | .done s1 => s1.setCore k { (s1.core k).next with load := some rd }.retired
      | .zero s1 => s1.loaded k rd 0
      | .stall => s

/-- A store that reaches a full queue of a unit waits (R245, R381). -/
def State.queueFull (s : State) (k a : Nat) : Bool :=
  match clusterOf a with
  | some c =>
    let p := if k < 4 then 0 else 1
    s.verdict (coreIni k) a true == .pass && !s.flag (F.CLU_OWNER_PEND c) &&
      ((a == Reg.TAL_OP_D c p 4 && s.tallyFull c) || (a == Reg.MOV_JOB_J c p 3 && s.moverFull c) ||
        (a == Reg.DFA_START c p && decide (4 ≤ s.dfaDepth c)))
  | none => false

/-- The 64-word block of an own data word marked dirty in sealed state (R42, R43). -/
def CoreSt.dirtied (c : CoreSt) (i : Nat) : CoreSt := { c with dirty := tabSet (fun _ => false) c.dirty (i / 64) true }

/-- A store performed at its target; none while the target does not take it. -/
def State.performStore (s : State) (k : Nat) (st : Store) : Option State :=
  let bs := toBytes 3 st.v.toNat
  if st.own then
    let s1 := s.setBytes (dataAddr k st.addr) bs
    some (if st.sealedSt then s1.setCore k ((s1.core k).dirtied st.addr) else s1)
  else match route k st.addr with
  | .round tgt =>
    match s.send (coreIni k) (s.corePacket k tgt st.addr false bs st.sealedSt) with
    | .done s1 | .zero s1 => some s1
    | .stall => none
  | .cluster => if s.clearing k then none else some (s.busWrite (coreIni k) st.sealedSt st.addr bs)
  | .map =>
    if s.queueFull k st.addr then none
    else some (s.busWrite (coreIni k) st.sealedSt st.addr
      (if (scratchOf st.addr).isSome then bs else toBytes st.width st.v.toNat))

/-- The oldest store of core k accepted (R331). -/
def State.storeAccept (s : State) (k : Nat) : State :=
  match (s.core k).stores with
  | [] => s
  | st :: rest =>
    if s.stopped || !s.domOn (coreDom k) then s
    else match (s.setCore k { s.core k with stores := rest }).performStore k st with
      | some s1 => s1.setCore k (s1.core k).settle
      | none => s

/-! ### Commands -/

/-- LD (R330, R331). -/
def execLd (k : Fin 5) (rd rs1 : Fin 16) (imm : BitVec 10) (s : State) : Host.Outcome State Fault Refusal :=
  ok (if s.coreRuns k then
      let c := s.core k
      match c.reach (c.wordAddr rs1 imm) with
      | none => s.raise k 2 (c.wordAddr rs1 imm)
      | some r => if c.stores.isEmpty then s.load k rd r else s
    else s)

/-- ST (R330, R331): rd is the register stored. -/
def execSt (k : Fin 5) (rd rs1 : Fin 16) (imm : BitVec 10) (s : State) : Host.Outcome State Fault Refusal :=
  ok (if s.coreRuns k then
      let c := s.core k
      let put (own : Bool) (a width : Nat) : State :=
        if 4 ≤ c.stores.length then s
        else
          let st : Store := { own := own, addr := a, width := width, v := c.reg rd, sealedSt := c.sealedSt }
          s.setCore k { c with stores := c.stores ++ [st] }.next.retired
      match c.reach (c.wordAddr rs1 imm) with
      | none => s.raise k 2 (c.wordAddr rs1 imm)
      | some (.own i) => put true i 3
      | some (.unit a width) => put false a width
    else s)

/-- CORE_STORE_ACCEPT (R331, R42). -/
def execCoreStoreAccept (k : Fin 5) (s : State) : Host.Outcome State Fault Refusal := ok (s.storeAccept k)

end Sys2Proof.Machine
end

