-- ==== Sys2Proof/Machine/Debug.lean ====
section
/-! DEFINITION. The TAP: boundary scan, debug accesses, and the production test modes (R746-R752, R755-R758, R763, R765,
R786). -/

namespace Sys2Proof.Machine

open Sys2Proof

/-- The TAP is powered and not held in reset (R746). -/
def State.tapOn (s : State) : Bool := !s.held.por && s.weather != .frost

/-- A TAP command. -/
def State.tapDo (s : State) (go : Tap → Tap) : State := if s.tapOn then { s with tap := go s.tap } else s

/-! ### Boundary scan (R749, R786) -/

/-- What the cells capture of the levels at balls and core. -/
def State.capture (s : State) (cap : List Bool) : List Bool :=
  (List.range boundaryCells).map fun i => cap.getD i false && !s.cellMasked i

/-- The boundary register updated. -/
def updateCells (upd : List Bool) : List Bool := (List.range boundaryCells).map fun i => upd.getD i false

/-- A pass through Capture-DR and Update-DR of the boundary register. -/
def State.boundaryScan (s : State) (ir : Nat) (cap upd : List Bool) : State :=
  s.tapDo fun t => { t with ir := ir, captured := s.capture cap, boundary := updateCells upd }

/-! ### Debug accesses (R750, R752, R755) -/

/-- An Update-DR of DAPACC: it starts an access, is denied, or starts nothing while the last one is BUSY. -/
def State.dapUpdate (s : State) (a : Nat) (v : Word) (write : Bool) : State :=
  if !s.tapOn then s
  else if s.tap.status = 1 then { s with tap := { s.tap with ir := 8 } }
  else if s.debugOn then { s with tap := { s.tap with ir := 8, addr := a / 4 * 4, data := v, write := write, status := 1, lost := false } }
  else
    { s.drawn with tap := { s.tap with ir := 8, addr := a / 4 * 4, data := BitVec.ofNat 24 (s.open_ (2 ^ 24)), write := write, status := 2 } }

/-- A debug read of `a` returns zero under the seal (R752). -/
def State.debugSealed (s : State) (a : Nat) : Bool :=
  s.verdict .debug a false == .pass &&
    (match scratchOf a with
     | some c => !s.clearing c && !s.inClReset c && s.spSealed a 4
     | none => s.secretReg a)

/-- The outcome of a debug access: its status and the word read; the access itself is done, even where a TAP reset has
lost its result (R763). -/
def State.dapEnd (s : State) (status : Nat) (v : Word) : State :=
  if s.tap.lost then { s.drawn with tap := { s.tap with status := 0, data := BitVec.ofNat 24 (s.open_ (2 ^ 24)), lost := false } }
  else { s with tap := { s.tap with status := status, data := v } }

/-- clk_core runs: SUP or a cluster domain is ON (Table CLK-1). -/
def State.coreClock (s : State) : Bool :=
  !s.stopped && s.weather == .run && [1, domCL 0, domCL 1, domCL 2, domCL 3].any fun d => s.dom d == 2

/-- The access that is BUSY completes (R750, Table DBG-2). -/
def State.dapDone (s : State) : State :=
  let a := s.tap.addr
  if s.tap.status ≠ 1 then s
  else if !s.coreClock then s.dapEnd 4 0
  else if s.tap.write then
    let s1 := s.busWrite .debug false a (toBytes (if (scratchOf a).isSome then 3 else 4) s.tap.data.toNat)
    s1.drawn.dapEnd 0 (BitVec.ofNat 24 (s1.open_ (2 ^ 24)))
  else
    let q := s.busRead .debug a 4
    q.1.dapEnd (if s.debugSealed a then 3 else 0) (BitVec.ofNat 24 (ofBytes (q.2.take 3)))

/-! ### Production test (R756-R758, R765) -/

/-- What entering any test mode clears. -/
def State.testClear (s : State) : State :=
  let s1 := (List.range 4).foldl State.clearScratch s
  let s2 := ((List.range 5).foldl State.clearLocal s1).cipClear
  { s2 with cip := { s2.cip with keys := tabClear (· != 0) s2.cip.keys } }

/-- Domains a test mode works in (log entry 20). -/
def testDoms (mode : Nat) : List Nat :=
  if mode = 2 then [7, 9, 10, 11, 12, 13, 14, 15, 16]
  else if mode = 3 then [17, 18, 19, 20, 21, 22, 23, 24]
  else []

/-- An Update-DR of TESTMODE: BYPASS outside the production test condition. -/
def State.testMode (s : State) (mode : Nat) (go : Bool) : State :=
  if !s.tapOn || s.tap.mode == 1 then s
  else if s.fld F.BOOT_STRAP_EFFSRC ≠ 3 then { s with tap := { s.tap with ir := 31 } }
  else if go = true ∧ 1 ≤ mode ∧ mode ≤ 5 then
    let s1 := (s.testClear.requestOn (testDoms mode) true).1
    { s1 with tap := { s1.tap with ir := 16, mode := mode, result := 0 } }
  else { s with tap := { s.tap with ir := 16 } }

/-- The result of a test. -/
def State.testResult (s : State) (pass : Bool) : State := { s with tap := { s.tap with result := if pass then 1 else 2 } }

/-- A test mode is in force and works. -/
def State.inTest (s : State) (mode : Nat) (go : State → State) : State := if s.tapOn && s.tap.mode == mode then go s else s

/-- SCAN: all state is lost; the part does nothing more until a power-on reset. -/
def State.scan (s : State) : State := { s.powerOn with tap := s.tap }

/-- Bytes left open at each address of a list, as many as its length says. -/
def State.openMem (s : State) (l : List (Nat × Nat)) : State :=
  l.foldl (fun s e =>
    { s.setBytes e.1 ((List.range e.2).map fun i => BitVec.ofNat 8 (Config.freeNat (s.free + i))) with free := s.free + e.2 }) s

/-- The rows of scratchpad SPc and their seal tags left open. -/
def State.openRows (s : State) (c : Nat) : State :=
  let s1 := s.openMem ((List.range 4096).map fun r => (rowAddr c r, 384))
  (List.range 4096).foldl (fun s r => (s.setTag c r (s.open_ 2 == 1)).drawn) s1

/-- The words of core k's local memories left open (Table CLK-8). -/
def State.openLocal (s : State) (k : Nat) : State :=
  let code (i : Nat) : Nat := 0x03000000 + 0x40000 * k + 4 * i
  ((s.openMem ((List.range 32768).map fun i => (code i, 3))).openMem
    ((List.range 32768).map fun i => (0x40000000 + code i, 3))).openMem ((List.range 32768).map fun i => (dataAddr k i, 3))

/-- The words of cluster c's schedule memory left open. -/
def State.openSched (s : State) (c : Nat) : State :=
  ((List.range 131072).filter fun i => schedPlace (4 * i) != .none).foldl
    (fun s i => (s.putSched c (4 * i) (s.open_ (2 ^ 24))).drawn) s

/-- The groups of the parameter store left open. -/
def State.openStore (s : State) : State :=
  (List.range 16384).foldl (fun s g => (s.setGroup g { data := s.open_ (2 ^ 64) }).drawn) s

/-- MBIST: the memories it tests, where they are ON, hold what its patterns leave, which the spec does not state
(log entry 20). -/
def State.memTest (s : State) : State :=
  let s1 := (List.range 4).foldl (fun s c => if s.domOn (domSP c) then s.openRows c else s) s
  let s2 := (List.range 5).foldl (fun s k => if s.domOn (coreDom k) then s.openLocal k else s) s1
  let s3 := (List.range 4).foldl (fun s c => if s.domOn (domCL c) then s.openSched c else s) s2
  if s3.domOn 7 then s3.openStore else s3

/-- Cells of a tile: 776 rows of 392 columns of two cells. -/
def cellCount : Nat := 776 * 392 * 2

/-- TILETEST on a tile whose quad is ON: its cells hold what the test patterns leave, which the spec does not state;
rows found bad get spares. -/
def State.tileTest (s : State) (t : Nat) (bad : List Nat) : State :=
  if !s.domOn (domTQ t) then s
  else
    let cells := tabSetList (fun _ => {}) [] 0 ((List.range cellCount).map fun i =>
      ({ level := Config.freeNat (s.free + i) % 8, g := max 0 (Config.deviation [7, t, i, s.free]), pulse := s.free } : Cell))
    let s1 := { s.setTile t { s.tile t with cells := cells } with free := s.free + cellCount }
    let q := bad.foldl (fun (q : State × Bool) r => let m := q.1.retireRow t r; (m.1, q.2 && m.2)) (s1, true)
    q.1.testResult q.2

/-- FUSE: bits blown; they take effect at the next power-on reset. -/
def Fuses.blow (f : Fuses) (b : FuseBlow) : Fuses :=
  { devkey := List.zipWith (fun x y => x ||| y) f.devkey (toBytes 32 b.devkey.toNat)
    uid := f.uid ||| b.uid
    lifecycle := f.lifecycle ||| b.lifecycle
    dbgdis := f.dbgdis || b.dbgdis
    fmt1dis := f.fmt1dis || b.fmt1dis
    hostbootdis := f.hostbootdis || b.hostbootdis
    rollback := max f.rollback b.rollback
    anatrim := f.anatrim ||| b.anatrim
    crc := f.crc ||| b.crc }

/-! ### Commands -/

/-- TAP_RESET (R746, R763). -/
def execTapReset (s : State) : Host.Outcome State Fault Refusal :=
  ok (s.tapDo fun t => { t with ir := 1, lost := t.lost || t.status == 1 })

/-- IDCODE: the identification code is shifted out (R748). -/
def execIdcode (s : State) : Host.Outcome State Fault Refusal :=
  ok (if s.tapOn then { s with tap := { s.tap with ir := 1 }, readData := toBytes 4 0x23248B47 } else s)

/-- SAMPLE/PRELOAD (R747). -/
def execSamplePreload (cap upd : List Bool) (s : State) : Host.Outcome State Fault Refusal := ok (s.boundaryScan 2 cap upd)

/-- EXTEST (R749). -/
def execExtest (cap upd : List Bool) (s : State) : Host.Outcome State Fault Refusal := ok (s.boundaryScan 3 cap upd)

/-- CLAMP (R747). -/
def execClamp (s : State) : Host.Outcome State Fault Refusal := ok (s.tapDo fun t => { t with ir := 4 })

/-- HIGHZ (R747). -/
def execHighz (s : State) : Host.Outcome State Fault Refusal := ok (s.tapDo fun t => { t with ir := 5 })

/-- BYPASS (R747). -/
def execBypass (s : State) : Host.Outcome State Fault Refusal := ok (s.tapDo fun t => { t with ir := 31 })

/-- DAPACC (R750). -/
def execDapacc (addr : BitVec 32) (data : Word) (write : Bool) (s : State) : Host.Outcome State Fault Refusal :=
  ok (s.dapUpdate addr.toNat data write)

/-- DAPACC_DONE (R752). -/
def execDapaccDone (s : State) : Host.Outcome State Fault Refusal := ok s.dapDone

/-- TESTMODE (R757). -/
def execTestmode (mode : Fin 16) (go : Bool) (s : State) : Host.Outcome State Fault Refusal := ok (s.testMode mode go)

/-- TEST_SCAN (R757). -/
def execTestScan (s : State) : Host.Outcome State Fault Refusal := ok (s.inTest 1 State.scan)

/-- TEST_MBIST: the test ends (R757). -/
def execTestMbist (pass : Bool) (s : State) : Host.Outcome State Fault Refusal := ok (s.inTest 2 fun s => s.memTest.testResult pass)

/-- TEST_TILETEST: one tile, with the rows its patterns find bad (R757). -/
def execTestTiletest (t : Fin 32) (bad : List (Fin 768)) (s : State) : Host.Outcome State Fault Refusal :=
  ok (s.inTest 3 fun s => s.tileTest t (bad.map fun r => r))

/-- TEST_FUSE (R757, R758, R765). -/
def execTestFuse (blow : FuseBlow) (s : State) : Host.Outcome State Fault Refusal :=
  ok (s.inTest 4 fun s => { s with fuses := s.fuses.blow blow }.testResult true)

/-- TEST_ANATRIM: the measurement of the ABIAS references ends (R757). -/
def execTestAnatrim (pass : Bool) (s : State) : Host.Outcome State Fault Refusal := ok (s.inTest 5 fun s => s.testResult pass)

end Sys2Proof.Machine
end

