-- ==== Sys2Proof/Machine/Mesh.lean ====
section
/-! DEFINITION. The Mirotan Mesh Profile as SV firmware runs it on this node (18_mesh_formation.md). -/

namespace Sys2Proof.Machine

open Sys2Proof

/-- The mesh state set. -/
def State.setMesh (s : State) (m : Mesh) : State := { s with mesh := m }

/-- What a mesh node sends: on a cell, to address `dest` (0 broadcast), bytes. -/
def State.mmpSend (s : State) (via : MmpVia) (dest : Nat) (bs : List Byte) : State :=
  s.setMesh { s.mesh with out := s.mesh.out ++ [{ via := via, dest := dest, bytes := bs }] }

/-! ### Cells (R624) -/

/-- A cell of a node (Table MESH-2): slotframe and its length, timeslot, channel offset, options, and the node at the
other end (0 any). -/
structure MmpCell where
  sf : Nat
  len : Nat
  ts : Nat
  choff : Nat
  tx : Bool := false
  rx : Bool := false
  isShared : Bool := false
  adv : Bool := false
  tsrc : Bool := false
  peer : Nat := 0
  deriving DecidableEq, Repr

/-- The node is a parent: the root, or a router that has joined. -/
def Mesh.parenting (m : Mesh) : Bool := m.phase == .root || (m.phase == .joined && m.hub)

/-- The cells a node uses (Table MESH-2, R632, R633): RX from each child, TX to the parent, the advertising and the shared
cell, the downlink. `advOff` is ADVOFF. -/
def Mesh.cells (m : Mesh) (advOff : Nat) : List MmpCell :=
  (if m.parenting then m.children.map fun c => { sf := 0, len := 100, ts := c.ts, choff := c.choff, rx := true, peer := c.addr } else []) ++
  (if m.phase = .joined then [{ sf := 0, len := 100, ts := m.ts, choff := m.choff, tx := true, tsrc := true, peer := m.parent }] else []) ++
  (if m.parenting then [{ sf := 1, len := 17, ts := 0, choff := advOff, tx := true, adv := true }] else []) ++
  (if m.parenting || m.phase == .joining then
    [{ sf := 1, len := 17, ts := 1, choff := 8, tx := true, rx := true, isShared := true }] else []) ++
  (if m.parenting then [{ sf := 2, len := 1000, ts := 0, choff := 3, tx := true }] else []) ++
  (if m.phase = .joined then [{ sf := 2, len := 1000, ts := 0, choff := 3, rx := true, peer := m.parent }] else [])

/-- ADVOFF: the hopping index whose channel is CLAIMCH (R624). -/
def State.advOff (s : State) : Nat :=
  ((List.range 16).find? fun i => 11 + bitsOf (s.fld (F.LNK_HOP_HOP (i / 6))) (4 * (i % 6)) 4 == s.mesh.claimCh).getD 0

/-! ### Beacons and headers (R625, R635) -/

/-- The MMP IE content (Table MESH-3). -/
def mmpIe (kind claim root gen rank : Nat) (joinOpen start : Bool) (depth : Nat) : List Byte :=
  [0x48, 0x4D, 0x2A, BitVec.ofNat 8 (1 + 16 * kind)] ++ toBytes 2 claim ++ toBytes 8 root ++ toBytes 2 gen ++ toBytes 2 rank ++
    [BitVec.ofNat 8 (b2n joinOpen + 2 * b2n start), BitVec.ofNat 8 depth]

/-- The MMP header of a frame (Table MESH-4) and its payload. -/
def mmpBytes (f : MmpFrame) : List Byte :=
  [BitVec.ofNat 8 (1 + 16 * f.type), BitVec.ofNat 8 (f.ttl % 16 + 16 * b2n f.up + 32 * b2n f.compact)] ++ toBytes 8 f.origin ++
    toBytes 2 f.mseq ++ toBytes 2 f.rootGen ++ f.payload

/-- The beacon a node takes from what it heard: one that passed security and holds an MMP IE of Halurn's OUI, VER 1 and a
KIND of Table MESH-3 (R622, R625). -/
def heardBeacon (h : Heard) : Option Beacon :=
  let b := frameWord h.ie
  let kind := b 3 1 / 16
  if h.secok ∧ 20 ≤ h.ie.length ∧ b 0 3 = 0x2A4D48 ∧ b 3 1 % 16 = 1 ∧ 1 ≤ kind ∧ kind ≤ 3 then
    some { kind := kind, claim := b 4 2, rootAddr := b 6 8, rootGen := b 14 2, rank := b 16 2, joinOpen := bitOf (b 18 1) 0,
           start := bitOf (b 18 1) 1, depth := b 19 1, src := h.src, rssi := h.rssi, stamp := h.stamp, asn := h.asn }
  else none

/-- MAXTTL (Table MESH-1). -/
def maxTtl : Nat := 4

/-- A message of this node to a next hop; MSEQ advances. -/
def State.mmpMake (s : State) (via : MmpVia) (dest type : Nat) (up : Bool) (payload : List Byte) : State :=
  let m := s.mesh
  (s.setMesh { m with mseq := (m.mseq + 1) % 65536 }).mmpSend via dest
    (mmpBytes { type := type, ttl := maxTtl, up := up, compact := false, origin := s.uid, mseq := m.mseq, rootGen := m.rootGen,
                payload := payload, secok := true })

/-- The channel of a place in the scan order (R627). -/
def scanChannel (claimCh pos : Nat) : Nat :=
  if pos = 0 then claimCh else (((List.range 16).map (11 + ·)).filter (· != claimCh)).getD (pos - 1) claimCh

/-- The node listens in CSMA on a channel, when LNK is ON (R627). -/
def State.mmpListen (s : State) (ch : Nat) : State :=
  if s.domOn 3 then (if s.lnkState = 0 then s.setFld F.LNK_STATUS_STATE 1 else s).setFld F.RAD_CHAN_CHAN ch else s

/-- The node scans from CLAIMCH on. -/
def State.mmpScan (s : State) : State :=
  (s.setMesh { s.mesh with phase := .scan, scanPos := 0, kept := [], cand := none, tries := 0 }).mmpListen s.mesh.claimCh

/-! ### Candidates and joining (R632) -/

/-- A beacon a joining node may choose. -/
def Mesh.eligible (m : Mesh) (b : Beacon) : Bool :=
  (b.kind == 2 || b.kind == 3) && b.joinOpen && decide (-90 ≤ b.rssi) && decide (b.depth ≤ if m.hub then 1 else 2)

/-- Order of two candidates: the root tuple (CLAIM, address), then RANK, then RSSI, then address. -/
def betterBeacon (a b : Beacon) : Bool :=
  if a.claim ≠ b.claim then decide (a.claim < b.claim)
  else if a.rootAddr ≠ b.rootAddr then decide (a.rootAddr < b.rootAddr)
  else if a.rank ≠ b.rank then decide (a.rank < b.rank)
  else if a.rssi ≠ b.rssi then decide (b.rssi < a.rssi)
  else decide (a.src < b.src)

/-- The best candidate kept. -/
def bestBeacon (bs : List Beacon) : Option Beacon :=
  bs.foldl (fun o b => match o with | none => some b | some a => if betterBeacon b a then some b else some a) none

/-- The node synchronises on a beacon (R584, R632): its ASN and SFD timestamp, and START_TSCH, while LNK is ON. -/
def State.mmpSync (s : State) (b : Beacon) : State :=
  if s.domOn 3 then
    (((s.setFld F.LNK_STATUS_STATE 4).setAsn b.asn).setFld F.LNK_SYNCREF_REF (b.stamp % 2 ^ 24)).startTsch
  else s

/-- A JOINREQ to the current candidate; the zones it declares are the firmware's (log entry 21). -/
def State.mmpJoinReq (s : State) (b : Beacon) : State :=
  s.drawn.mmpMake .shared b.src 2 false [BitVec.ofNat 8 (b2n s.mesh.hub), BitVec.ofNat 8 (s.open_ 9)]

/-- The next candidate, or SCAN when none remains (R632). -/
def State.mmpNext (s : State) : State :=
  let m := s.mesh
  match bestBeacon m.kept with
  | none => s.mmpScan
  | some b =>
    ((s.setMesh { m with phase := .joining, cand := some b, tries := 1, kept := m.kept.filter (· != b), rootClaim := b.claim,
                         rootAddr := b.rootAddr, rootGen := b.rootGen }).mmpSync b).mmpJoinReq b

/-- The candidates among the beacons kept: those that name the lowest root tuple heard (R632). -/
def Mesh.candidates (m : Mesh) : List Beacon :=
  let low := bestBeacon (m.kept.filter fun b => b.kind == 2 || b.kind == 3)
  (m.kept.filter m.eligible).filter fun b => match low with | some l => b.claim == l.claim && b.rootAddr == l.rootAddr | none => true

/-- The node enters JOINING: its candidates, the best of them first. -/
def State.mmpJoin (s : State) : State := (s.setMesh { s.mesh with kept := s.mesh.candidates }).mmpNext

/-- The lost root's generation plus 1, or 0 after a power-on reset (R634). -/
def Mesh.claimGen (m : Mesh) : Nat := match m.lostGen with | some g => (g + 1) % 65536 | none => 0

/-- The key of the claim numbers, derived once per boot under the label MMPCLAIM; its context and size are open (log
entry 21). -/
def State.claimKeyed (s : State) : State :=
  if s.mesh.claimKey.isEmpty then
    let k := kdf (s.cipKey 0).key [0x4D, 0x4D, 0x50, 0x43, 0x4C, 0x41, 0x49, 0x4D] (toBytes 17 (s.open_ (2 ^ 136)))
      (s.drawn.open_ 2 + 1)
    s.drawn.drawn.setMesh { s.mesh with claimKey := k }
  else s

/-- A claim number: CMAC of an RTC snapshot and the count of claims (R626); the snapshot's FRAC is open. -/
def State.claimNumber (s : State) : Nat :=
  let v := cmac s.mesh.claimKey
    (toBytes 4 s.rtc.sec ++ toBytes 2 s.rtc.sub ++ toBytes 2 (3906 + s.open_ 3911) ++ toBytes 4 s.mesh.claims ++ toBytes 4 0)
  frameWord (beBytes 16 v) 0 2

/-- A hub claims with a fresh claim number (R626). -/
def State.mmpClaim (s : State) : State :=
  let s1 := s.claimKeyed
  s1.drawn.setMesh { s1.mesh with phase := .claiming, claim := s1.claimNumber, claims := s1.mesh.claims + 1, sent := 0,
                                  rootGen := s1.mesh.claimGen }

/-- SCAN_DWELL_END (R627): the beacons of the dwell, and the role this firmware has. -/
def State.dwellEnd (s : State) (hub : Bool) (heard : List Heard) : State :=
  if s.mesh.phase ≠ .scan then s
  else
    let kept := s.mesh.kept ++ heard.filterMap heardBeacon
    let s1 := s.setMesh { s.mesh with hub := hub, kept := kept }
    if kept.any fun b => (b.kind == 2 || b.kind == 3) && b.joinOpen then s1.mmpJoin
    else if kept.any (·.kind == 1) then (s1.setMesh { s1.mesh with phase := .waiting }).mmpListen s1.mesh.claimCh
    else if hub then
      if kept.isEmpty then s1.mmpClaim else (s1.setMesh { s1.mesh with kept := [] }).mmpListen s1.mesh.claimCh
    else
      let p := (s1.mesh.scanPos + 1) % 16
      (s1.setMesh { s1.mesh with scanPos := p }).mmpListen (scanChannel s1.mesh.claimCh p)

/-! ### Claims (R628-R631) -/

/-- CLAIM_BEACON (R628). -/
def State.claimBeacon (s : State) : State :=
  let m := s.mesh
  if m.phase = .claiming then
    (s.setMesh { m with sent := m.sent + 1 }).mmpSend .csma 0 (mmpIe 1 m.claim s.uid m.rootGen 256 false false 0)
  else s

/-- A tuple is lower than this node's own (R629). -/
def State.lowerClaim (s : State) (b : Beacon) : Bool :=
  decide (b.claim < s.mesh.claim ∨ (b.claim = s.mesh.claim ∧ b.rootAddr < s.uid))

/-- CLAIM_HEARD (R629, R643): a claimant hears a lower claim or a running mesh; a node that scans and hears a claim
waits on CLAIMCH (R627). -/
def State.claimHeard (s : State) (h : Heard) : State :=
  let m := s.mesh
  match heardBeacon h with
  | none => s
  | some b =>
    if m.phase = .claiming ∧ b.kind = 1 then
      if s.lowerClaim b then (s.setMesh { m with phase := .withdrawn }).mmpListen m.claimCh else s
    else if (m.phase = .claiming ∨ m.phase = .withdrawn) ∧ b.kind ≠ 1 then (s.setMesh { m with kept := [b] }).mmpJoin
    else if m.phase = .scan ∧ b.kind = 1 then (s.setMesh { m with phase := .waiting, kept := m.kept ++ [b] }).mmpListen m.claimCh
    else s

/-- CLAIMHOLD_END (R630): the claimant becomes root, with its START beacon in slot ASN 0. -/
def State.claimHoldEnd (s : State) : State :=
  let m := s.mesh
  if m.phase = .claiming ∧ m.sent ≠ 0 then
    let s1 := (s.setMesh { m with phase := .root, rootClaim := m.claim, rootAddr := s.uid, rank := 256, depth := 0, children := [],
                                  routes := [], streams := [], lostGen := none, parent := 0, kept := [], cand := none }).mmpSend .advert 0
      (mmpIe 2 m.claim s.uid m.rootGen 256 true true 0)
    if s1.domOn 3 then
      let ref := (s1.lnkTime + 2 ^ 32 - (s1.tsTxOffset + 160) * 32) % 2 ^ 24
      (((s1.setFld F.LNK_STATUS_STATE 4).setAsn 0).setFld F.LNK_SYNCREF_REF ref).startTsch
    else s1
  else s

/-- START_BEACON_HEARD (R631). -/
def State.startHeard (s : State) (h : Heard) : State :=
  match heardBeacon h with
  | none => s
  | some b =>
    if (s.mesh.phase = .withdrawn ∨ s.mesh.phase = .waiting) ∧ b.start = true ∧ b.kind = 2 then
      (s.setMesh { s.mesh with kept := [b] }).mmpJoin
    else s

/-! ### JOINREQ and JOINACK (R633) -/

/-- The lowest free SF0 timeslot of a parent. -/
def Mesh.freeSlot (m : Mesh) : Option Nat :=
  ((List.range 98).map (2 + ·)).find? fun t => !(m.phase == .joined && t == m.ts) && !m.children.any (·.ts == t)

/-- JOINREQ (R633): the parent's answer, and its own tables when it is OK; refusals in the order FULL, DEPTH, ZONES. -/
def State.joinReq (s : State) (f : MmpFrame) : State :=
  let m := s.mesh
  if !f.secok || !m.parenting then s
  else
    let hub := frameByte f.payload 0 == 1
    let zones := frameByte f.payload 1
    let answer := fun (s : State) (status saddr ts choff : Nat) =>
      s.mmpMake .shared f.origin 3 false (toBytes 1 status ++ toBytes 2 saddr ++ toBytes 1 ts ++ toBytes 1 choff)
    match m.children.find? (·.addr == f.origin) with
    | some c => answer s 0 c.saddr c.ts c.choff
    | none => match m.freeSlot with
      | none => answer s 1 0 0 0
      | some ts =>
        if (if hub then 1 else 2) < m.depth then answer s 2 0 0 0
        else if m.phase = .root ∧ 64 ≤ m.streams.length ∧ zones ≠ 0 then answer s 3 0 0 0
        else
          let saddr := s.open_ 65534
          let choff := m.children.length % 16
          let s1 := answer ((s.setMesh { m with children := m.children ++ [{ addr := f.origin, ts := ts, choff := choff, saddr := saddr }] }).drawn)
            0 saddr ts choff
          if m.phase = .joined then s1.mmpMake .data m.parent 4 true (toBytes 8 f.origin ++ [0] ++ toBytes 1 zones) else s1

/-- JOINACK (R632, R633, R647). -/
def State.joinAck (s : State) (f : MmpFrame) : State :=
  let m := s.mesh
  match m.cand with
  | none => s
  | some b =>
    if !f.secok || m.phase != .joining || f.origin != b.src then s
    else if frameByte f.payload 0 = 0 then
      let s1 := s.setMesh { m with phase := .joined, parent := b.src, rank := b.rank + 256, depth := b.depth + 1, cand := none,
                                   kept := [], saddr := frameWord f.payload 1 2, ts := frameByte f.payload 3,
                                   choff := frameByte f.payload 4, children := [], tries := 0 }
      if m.hub then s1.mmpSend .advert 0 (mmpIe 3 b.claim b.rootAddr b.rootGen (b.rank + 256) true false (b.depth + 1)) else s1
    else s.mmpNext

/-- JOINWAIT_END (R632). -/
def State.joinWaitEnd (s : State) : State :=
  let m := s.mesh
  match m.phase, m.cand with
  | .joining, some b =>
    if m.tries < 4 then (s.setMesh { m with tries := m.tries + 1 }).mmpJoinReq b else s.mmpNext
  | _, _ => s

/-! ### Routes and forwarding (R636) -/

/-- ROUTE: the root adds or removes a route. -/
def State.route (s : State) (f : MmpFrame) : State :=
  let m := s.mesh
  if !f.secok || m.phase != .root then s
  else
    let child := frameWord f.payload 0 8
    let rest := m.routes.filter (·.1 != child)
    if frameByte f.payload 8 = 0 then s.setMesh { m with routes := rest ++ [(child, f.origin)] } else s.setMesh { m with routes := rest }

/-- The child through which the routes lead to a target; the count is fuel, more than the depth of any tree. -/
def Mesh.through (m : Mesh) : Nat → Nat → Option Nat
  | 0, _ => none
  | n + 1, target =>
    if m.children.any (·.addr == target) then some target
    else match m.routes.find? (·.1 == target) with
    | some r => m.through n r.2
    | none => none

/-- The next hop of a frame that is not for this node: up to the parent; down through a child, by the routes at the root;
otherwise up, toward the root. -/
def State.mmpHop (s : State) (f : MmpFrame) : Option Nat :=
  let m := s.mesh
  let above := if m.phase = .joined then some m.parent else none
  if f.up then above else (m.through 4 (frameWord f.payload 0 8)).or above

/-- The cell on which a next hop is reached. -/
def State.mmpVia (s : State) (dest : Nat) : MmpVia := if s.mesh.phase = .joined ∧ dest = s.mesh.parent then .data else .downlink

/-- A frame is consumed here: UP at the root, or its target is this node. -/
def State.mmpMine (s : State) (f : MmpFrame) : Bool :=
  (f.up && s.mesh.phase == .root) || (!f.up && frameWord f.payload 0 8 == s.uid)

/-- MMP_FRAME_FORWARD (R636): TTL lowered, or the frame discarded where it would fall to 0. -/
def State.mmpForward (s : State) (f : MmpFrame) : State :=
  if !f.secok || !s.mesh.parenting || s.mmpMine f || decide (f.ttl ≤ 1) || !(f.up || f.type == 6 || f.type == 7) then s
  else match s.mmpHop f with
  | some dest => s.mmpSend (s.mmpVia dest) dest (mmpBytes { f with ttl := f.ttl - 1 })
  | none => s

/-! ### Zone reports (R637, R638) -/

/-- The records of a zone report's payload, whose rows lie in full (Table SEAL-6) or under COMPACT as Table RAD-5 packs
them; `prev` the header of the row before. -/
def zoneRecords (origin : Nat) (compact : Bool) : Nat → Option Nat → List Byte → List ZoneRecord
  | 0, _, _ => []
  | n + 1, prev, bs =>
    if bs.isEmpty then []
    else match compact, prev with
    | true, some h =>
      let b := frameByte bs 0
      let h1 := putBits (putBits h 8 16 ((bitsOf h 8 16 + b / 16) % 65536)) 33 4 (b % 16)
      let k := (bitsOf h 24 9 + 7) / 8
      { origin := origin, zone := bitsOf h1 0 6, cluster := bitsOf h1 6 2, epoch := bitsOf h1 8 16, seq := bitsOf h1 33 4,
        data := (bs.drop 1).take k } :: zoneRecords origin compact n (some h1) (bs.drop (1 + k))
    | _, _ =>
      let h := frameWord bs 0 8
      let k := frankedLen bs
      { origin := origin, zone := bitsOf h 0 6, cluster := bitsOf h 6 2, epoch := bitsOf h 8 16, seq := bitsOf h 33 4,
        data := (bs.drop 8).take k } :: zoneRecords origin compact n (some h) (bs.drop (8 + k))

/-- The mask bit of a record set in the masks of 64 epochs down from E_hi. -/
def setMask (ms : List Nat) (i seq : Nat) : List Nat := ms.set i (putBits (ms.getD i 0) seq 1 1)

/-- One record judged against its stream (R637). -/
def State.zoneRecord (s : State) (r : ZoneRecord) : State :=
  let m := s.mesh
  let same := fun t : Stream => t.origin == r.origin && t.zone == r.zone && t.cluster == r.cluster
  let accept := fun t : Stream => s.setMesh { m with streams := m.streams.map (fun u => if same u then t else u), records := m.records ++ [r] }
  match m.streams.find? same with
  | none =>
    if 64 ≤ m.streams.length then s.setMesh { m with overflow := m.overflow + 1 }
    else s.setMesh { m with
      streams := m.streams ++ [{ origin := r.origin, zone := r.zone, cluster := r.cluster, hi := r.epoch,
                                 masks := setMask (List.replicate 64 0) 0 r.seq }]
      records := m.records ++ [r] }
  | some t =>
    let d := (r.epoch + 65536 - t.hi) % 65536
    if 1 ≤ d ∧ d ≤ 32767 then
      accept { t with hi := r.epoch, masks := setMask ((List.replicate (min d 64) 0 ++ t.masks).take 64) 0 r.seq }
    else if d = 0 ∨ 65473 ≤ d then
      let i := (65536 - d) % 65536
      if bitOf (t.masks.getD i 0) r.seq then s else accept { t with masks := setMask t.masks i r.seq }
    else s

/-- ZREPORT: the root judges each record alone (R637, R648). -/
def State.zreport (s : State) (f : MmpFrame) : State :=
  if !f.secok || s.mesh.phase != .root then s
  else (zoneRecords f.origin f.compact f.payload.length none f.payload).foldl State.zoneRecord s

/-- STREAM_TIMEOUT (R637). -/
def State.streamTimeout (s : State) (origin zone cluster : Nat) : State :=
  s.setMesh { s.mesh with streams := s.mesh.streams.filter fun t => !(t.origin == origin && t.zone == zone && t.cluster == cluster) }

/-! ### Loss, and cells that fall silent (R639, R647) -/

/-- A node leaves JOINED for SCAN: its children's routes are removed at the root as far as the frames get there, LEAVE
goes to each child, STOP follows. -/
def State.mmpLeave (s : State) : State :=
  if s.mesh.phase = .joined then
    let s0 := s.mesh.children.foldl (fun s c => s.mmpMake .data s.mesh.parent 4 true (toBytes 8 c.addr ++ [1, 0])) s
    let s1 := s.mesh.children.foldl (fun s c => s.mmpMake .downlink c.addr 5 false []) s0
    let s2 := if s1.domOn 3 then s1.lnkStop else s1
    (s2.setMesh { s2.mesh with lostGen := some s2.mesh.rootGen, children := [], routes := [], parent := 0 }).mmpScan
  else s

/-- An SF0 cell of the node falls into the slot of the current ASN. -/
def State.sf0Busy (s : State) : Bool :=
  (s.mesh.cells s.advOff).any fun c => c.sf == 0 && s.asn % c.len == c.ts

/-- A slot starts at a parent: a child's cell that stayed silent for 10 slotframes is freed (R647), and the enhanced beacon
goes out on the advertising cell, with START 0, unless an SF0 cell falls on it (R624, R630). -/
def State.mmpSlot (s : State) : State :=
  let m := s.mesh
  if m.parenting then
    let here := fun c : Child => s.asn % 100 == c.ts
    let kept := m.children.filter fun c => !(here c && decide (10 ≤ c.idle))
    let s1 := s.setMesh { m with children := kept.map fun c => if here c then { c with idle := c.idle + 1 } else c }
    if s.asn % 17 = 0 ∧ s.sf0Busy = false then
      s1.mmpSend .advert 0 (mmpIe (if m.phase = .root then 2 else 3) m.rootClaim m.rootAddr m.rootGen m.rank true false m.depth)
    else s1
  else s

/-- A frame arrives in the slot of an ASN: the child whose cell it is, is not silent. -/
def State.mmpArrival (s : State) (asn : Nat) : State :=
  s.setMesh { s.mesh with children := s.mesh.children.map fun c => if asn % 100 = c.ts then { c with idle := 0 } else c }

/-! ### Hand-over (R416, R642) -/

/-- A HANDOVER's sequence is higher than the last accepted for the sender's zone (R416). -/
def State.handFresh (s : State) (from_ zone hseq : Nat) : Bool :=
  match s.mesh.accepted.find? fun e => e.1 == from_ && e.2.1 == zone with
  | some e => decide (1 ≤ (hseq + 65536 - e.2.2) % 65536 ∧ (hseq + 65536 - e.2.2) % 65536 < 32768)
  | none => true

/-- HANDOVER: answered with a HANDACK; a repeat with the STATUS first given; `place` and `sensor` say what R405 and the
ports find. -/
def State.handover (s : State) (f : MmpFrame) (place sensor : Bool) : State :=
  let hseq := frameWord f.payload 8 2
  let zone := frameByte f.payload 14 % 64
  let answer := fun (s : State) (st : Nat) =>
    let dest := (s.mmpHop { f with payload := toBytes 8 f.origin, up := false }).getD f.origin
    s.mmpMake (s.mmpVia dest) dest 7 false (toBytes 8 f.origin ++ toBytes 2 hseq ++ toBytes 1 st)
  if !f.secok || frameWord f.payload 0 8 != s.uid then s
  else match s.mesh.answers.find? fun e => e.1 == f.origin && e.2.1 == zone && e.2.2.1 == hseq with
  | some e => answer s e.2.2.2
  | none =>
    let st := if !s.handFresh f.origin zone hseq then 1 else if !place then 2 else if !sensor then 3 else 0
    let m := s.mesh
    let m1 := { m with answers := m.answers ++ [(f.origin, zone, hseq, st)] }
    let m2 := if st = 0 then
        { m1 with accepted := m1.accepted.filter (fun e => !(e.1 == f.origin && e.2.1 == zone)) ++ [(f.origin, zone, hseq)],
                  jobs := m1.jobs ++ [f.payload] }
      else m1
    answer (s.setMesh m2) st

/-- HANDACK: the sender stops repeating. -/
def State.handack (s : State) (f : MmpFrame) : State :=
  if !f.secok || frameWord f.payload 0 8 != s.uid then s
  else match s.mesh.handOut with
  | some (_, hseq, _) => if frameWord f.payload 8 2 = hseq then s.setMesh { s.mesh with handOut := none } else s
  | none => s

/-- HANDOVER_REPEAT: a hand-over is sent, first of all and then at most 8 times more; the sender without HANDACK keeps
the job. -/
def State.handoverRepeat (s : State) (payload : List Byte) : State :=
  let hseq := frameWord payload 8 2
  let f : MmpFrame := { type := 6, ttl := maxTtl, up := false, compact := false, origin := s.uid, mseq := 0, rootGen := 0,
                        payload := payload, secok := true }
  let dest := match s.mmpHop f with | some h => h | none => frameWord payload 0 8
  match s.mesh.handOut with
  | none => (s.setMesh { s.mesh with handOut := some (payload, hseq, 0) }).mmpMake (s.mmpVia dest) dest 6 false payload
  | some (p, h, n) =>
    if h = hseq then
      if n < 8 then (s.setMesh { s.mesh with handOut := some (p, h, n + 1) }).mmpMake (s.mmpVia dest) dest 6 false p
      else s.setMesh { s.mesh with handOut := none }
    else s

/-! ### Commands -/

/-- SLOT_START (R592), with what a CCA of the slot would find; MMP follows the slots (R630, R647). -/
def execSlotStart (cca : Cca) (s : State) : Host.Outcome State Fault Refusal :=
  ok (if s.slotDue then (s.slotStart cca).mmpSlot else s)

/-- RX_FRAME (R603): the PSDU with its FCS, the received power in dBm, the chips that matched over the 8 symbols after
the SFD (0-256), the SFD timestamp and the correction in clk_xo cycles. -/
def execRxFrame (psdu : List Byte) (power : Int) (chips : Fin 257) (stamp : BitVec 32) (corr : Int) (s : State) :
    Host.Outcome State Fault Refusal :=
  let t := s.rxFrame psdu power chips stamp.toNat corr
  ok (match s.lnk.rxLink with | some w => if t.lnk.rxLink.isNone then t.mmpArrival w.asn else t | none => t)

/-- SCAN_DWELL_END (R627). -/
def execScanDwellEnd (hub : Bool) (heard : List Heard) (s : State) : Host.Outcome State Fault Refusal := ok (s.dwellEnd hub heard)

/-- CLAIM_BEACON (R628). -/
def execClaimBeacon (s : State) : Host.Outcome State Fault Refusal := ok s.claimBeacon

/-- CLAIM_HEARD (R629). -/
def execClaimHeard (b : Heard) (s : State) : Host.Outcome State Fault Refusal := ok (s.claimHeard b)

/-- CLAIMHOLD_END (R630). -/
def execClaimholdEnd (s : State) : Host.Outcome State Fault Refusal := ok s.claimHoldEnd

/-- START_BEACON_HEARD (R631). -/
def execStartBeaconHeard (b : Heard) (s : State) : Host.Outcome State Fault Refusal := ok (s.startHeard b)

/-- WDRAWWAIT_END (R631). -/
def execWdrawwaitEnd (s : State) : Host.Outcome State Fault Refusal :=
  ok (if s.mesh.phase = .withdrawn then s.mmpScan else s)

/-- JOINREQ (R633). -/
def execJoinreq (f : MmpFrame) (s : State) : Host.Outcome State Fault Refusal := ok (s.joinReq f)

/-- JOINACK (R633). -/
def execJoinack (f : MmpFrame) (s : State) : Host.Outcome State Fault Refusal := ok (s.joinAck f)

/-- JOINWAIT_END (R632). -/
def execJoinwaitEnd (s : State) : Host.Outcome State Fault Refusal := ok s.joinWaitEnd

/-- ROUTE (R636). -/
def execRoute (f : MmpFrame) (s : State) : Host.Outcome State Fault Refusal := ok (s.route f)

/-- ZREPORT (R637). -/
def execZreport (f : MmpFrame) (s : State) : Host.Outcome State Fault Refusal := ok (s.zreport f)

/-- STREAM_TIMEOUT (R637). -/
def execStreamTimeout (origin : BitVec 64) (zone : Fin 64) (cluster : Fin 4) (s : State) : Host.Outcome State Fault Refusal :=
  ok (s.streamTimeout origin.toNat zone cluster)

/-- PARENT_LOSS (R639). -/
def execParentLoss (s : State) : Host.Outcome State Fault Refusal := ok s.mmpLeave

/-- LEAVE (R639). -/
def execLeave (f : MmpFrame) (s : State) : Host.Outcome State Fault Refusal :=
  ok (if f.secok = true ∧ f.origin = s.mesh.parent then s.mmpLeave else s)

/-- HANDOVER (R642). -/
def execHandover (f : MmpFrame) (place sensor : Bool) (s : State) : Host.Outcome State Fault Refusal :=
  ok (s.handover f place sensor)

/-- HANDACK (R642). -/
def execHandack (f : MmpFrame) (s : State) : Host.Outcome State Fault Refusal := ok (s.handack f)

/-- HANDOVER_REPEAT (R642). -/
def execHandoverRepeat (payload : List Byte) (s : State) : Host.Outcome State Fault Refusal := ok (s.handoverRepeat payload)

/-- MMP_FRAME_FORWARD (R636). -/
def execMmpFrameForward (f : MmpFrame) (s : State) : Host.Outcome State Fault Refusal := ok (s.mmpForward f)

end Sys2Proof.Machine
end

