-- ==== Sys2Proof/Machine/Dispatch.lean ====
section
/-! DEFINITION. exec: one arm per command, each a direct call of its meaning. -/

namespace Sys2Proof.Machine

/-- The effect of a command on everything but the queue. -/
def exec (i : Instr) (s : State) : Host.Outcome State Fault Refusal :=
  match i with
  | .registerWrite ini addr size v => Sys2Proof.Machine.execRegisterWrite ini addr size v s
  | .rcFieldRead ini addr size => Sys2Proof.Machine.execRcFieldRead ini addr size s
  | .powerOnReset => Sys2Proof.Machine.execPowerOnReset s
  | .resetN pulse => Sys2Proof.Machine.execResetN pulse s
  | .resetRelease bootsel hostsel => Sys2Proof.Machine.execResetRelease bootsel hostsel s
  | .clusterReset ini req => Sys2Proof.Machine.execClusterReset ini req s
  | .flr => Sys2Proof.Machine.execFlr s
  | .clkCoreselWrite ini v => Sys2Proof.Machine.execClkCoreselWrite ini v s
  | .clockSwitch => Sys2Proof.Machine.execClockSwitch s
  | .clkPllaWrite ini v => Sys2Proof.Machine.execClkPllaWrite ini v s
  | .pllLock pll => Sys2Proof.Machine.execPllLock pll s
  | .pllLoss => Sys2Proof.Machine.execPllLoss s
  | .pwrDomRequest ini d v => Sys2Proof.Machine.execPwrDomRequest ini d v s
  | .domainTransitionStart d => Sys2Proof.Machine.execDomainTransitionStart d s
  | .domainTransitionDone d => Sys2Proof.Machine.execDomainTransitionDone d s
  | .pwrModeWrite ini v => Sys2Proof.Machine.execPwrModeWrite ini v s
  | .pwrCalm ini => Sys2Proof.Machine.execPwrCalm ini s
  | .calmEntryDone => Sys2Proof.Machine.execCalmEntryDone s
  | .calmWake src => Sys2Proof.Machine.execCalmWake src s
  | .frostArm ini => Sys2Proof.Machine.execFrostArm ini s
  | .frostArmExpiry => Sys2Proof.Machine.execFrostArmExpiry s
  | .pwrFrost ini => Sys2Proof.Machine.execPwrFrost ini s
  | .frostWake => Sys2Proof.Machine.execFrostWake s
  | .bootFuse => Sys2Proof.Machine.execBootFuse s
  | .bootDiscover head dw1 dw2 dw3 dw15 => Sys2Proof.Machine.execBootDiscover head dw1 dw2 dw3 dw15 s
  | .bootStage data => Sys2Proof.Machine.execBootStage data s
  | .bootCheck => Sys2Proof.Machine.execBootCheck s
  | .bootApply => Sys2Proof.Machine.execBootApply s
  | .bootRelease => Sys2Proof.Machine.execBootRelease s
  | .bootDone => Sys2Proof.Machine.execBootDone s
  | .bootGo spi => Sys2Proof.Machine.execBootGo spi s
  | .bootRetry spi => Sys2Proof.Machine.execBootRetry spi s
  | .frank c p ini ws => Sys2Proof.Machine.execFrank c p ini ws s
  | .frankDebit c => Sys2Proof.Machine.execFrankDebit c s
  | .ringRpWrite ini c v => Sys2Proof.Machine.execRingRpWrite ini c v s
  | .ringCfgWrite ini c v => Sys2Proof.Machine.execRingCfgWrite ini c v s
  | .ownerWrite ini c v => Sys2Proof.Machine.execOwnerWrite ini c v s
  | .ownerChangeStart c => Sys2Proof.Machine.execOwnerChangeStart c s
  | .cluClear ini c => Sys2Proof.Machine.execCluClear ini c s
  | .clearingEnd c => Sys2Proof.Machine.execClearingEnd c s
  | .roundWriteArrival src tgt link repeats => Sys2Proof.Machine.execRoundWriteArrival src tgt link repeats s
  | .roundReturnNotice src => Sys2Proof.Machine.execRoundReturnNotice src s
  | .roundWriteAck src => Sys2Proof.Machine.execRoundWriteAck src s
  | .roundRead src tgt link repeats => Sys2Proof.Machine.execRoundRead src tgt link repeats s
  | .rndRmpop ini c => Sys2Proof.Machine.execRndRmpop ini c s
  | .top c p ini ws => Sys2Proof.Machine.execTop c p ini ws s
  | .maxr c p ini ws => Sys2Proof.Machine.execMaxr c p ini ws s
  | .minr c p ini ws => Sys2Proof.Machine.execMinr c p ini ws s
  | .ins c p ini ws => Sys2Proof.Machine.execIns c p ini ws s
  | .finr c p ini ws => Sys2Proof.Machine.execFinr c p ini ws s
  | .sync c p ini ws => Sys2Proof.Machine.execSync c p ini ws s
  | .talEntryStart c => Sys2Proof.Machine.execTalEntryStart c s
  | .tileComputeStart t => Sys2Proof.Machine.execTileComputeStart t s
  | .tileComputeDone t => Sys2Proof.Machine.execTileComputeDone t s
  | .talEntryComplete c n => Sys2Proof.Machine.execTalEntryComplete c n s
  | .talCplpop ini c => Sys2Proof.Machine.execTalCplpop ini c s
  | .talRstseedWrite ini c v => Sys2Proof.Machine.execTalRstseedWrite ini c v s
  | .moverJob ini c p j => Sys2Proof.Machine.execMoverJob ini c p j s
  | .moverJobStart c => Sys2Proof.Machine.execMoverJobStart c s
  | .moverHostReadDone c good data => Sys2Proof.Machine.execMoverHostReadDone c good data s
  | .moverJobComplete c => Sys2Proof.Machine.execMoverJobComplete c s
  | .movCplpop ini c => Sys2Proof.Machine.execMovCplpop ini c s
  | .tileProgram ini t => Sys2Proof.Machine.execTileProgram ini t s
  | .prescanEnd t => Sys2Proof.Machine.execPrescanEnd t s
  | .tileWipe ini t => Sys2Proof.Machine.execTileWipe ini t s
  | .rowStepEnd t => Sys2Proof.Machine.execRowStepEnd t s
  | .barometerCheck ini t => Sys2Proof.Machine.execBarometerCheck ini t s
  | .barometerCheckEnd t => Sys2Proof.Machine.execBarometerCheckEnd t s
  | .tileAbort ini t => Sys2Proof.Machine.execTileAbort ini t s
  | .trimSweep ini t => Sys2Proof.Machine.execTrimSweep ini t s
  | .trimSweepEnd t => Sys2Proof.Machine.execTrimSweepEnd t s
  | .tileRefresh ini t => Sys2Proof.Machine.execTileRefresh ini t s
  | .alu k fn rd rs1 rs2 => Sys2Proof.Machine.execAlu k fn rd rs1 rs2 s
  | .addi k rd rs1 imm => Sys2Proof.Machine.execAddi k rd rs1 imm s
  | .andi k rd rs1 imm => Sys2Proof.Machine.execAndi k rd rs1 imm s
  | .ori k rd rs1 imm => Sys2Proof.Machine.execOri k rd rs1 imm s
  | .xori k rd rs1 imm => Sys2Proof.Machine.execXori k rd rs1 imm s
  | .tlti k rd rs1 imm => Sys2Proof.Machine.execTlti k rd rs1 imm s
  | .shi k rd rs1 imm => Sys2Proof.Machine.execShi k rd rs1 imm s
  | .lih k rd imm => Sys2Proof.Machine.execLih k rd imm s
  | .ld k rd rs1 imm => Sys2Proof.Machine.execLd k rd rs1 imm s
  | .st k rd rs1 imm => Sys2Proof.Machine.execSt k rd rs1 imm s
  | .coreStoreAccept k => Sys2Proof.Machine.execCoreStoreAccept k s
  | .cbBranch k cond rs1 rs2 off => Sys2Proof.Machine.execCbBranch k cond rs1 rs2 off s
  | .czBranch k cond rs1 imm off => Sys2Proof.Machine.execCzBranch k cond rs1 imm off s
  | .call k rd off => Sys2Proof.Machine.execCall k rd off s
  | .callr k rd rs1 imm => Sys2Proof.Machine.execCallr k rd rs1 imm s
  | .qmul k rd rs1 rs2 rm sat sub => Sys2Proof.Machine.execQmul k rd rs1 rs2 rm sat sub s
  | .qadd k rd rs1 rs2 rm sat sub => Sys2Proof.Machine.execQadd k rd rs1 rs2 rm sat sub s
  | .qsh k rd rs1 rs2 rm sat sub => Sys2Proof.Machine.execQsh k rd rs1 rs2 rm sat sub s
  | .mac k rd rs1 rs2 rm sat sub => Sys2Proof.Machine.execMac k rd rs1 rs2 rm sat sub s
  | .accx k rd rs1 rs2 rm sat sub => Sys2Proof.Machine.execAccx k rd rs1 rs2 rm sat sub s
  | .acc k rd rs1 rs2 fn => Sys2Proof.Machine.execAcc k rd rs1 rs2 fn s
  | .hop k rd rs1 rs2 rm sat sub => Sys2Proof.Machine.execHop k rd rs1 rs2 rm sat sub s
  | .csrr k rd rs1 imm => Sys2Proof.Machine.execCsrr k rd rs1 imm s
  | .csrw k rd rs1 imm => Sys2Proof.Machine.execCsrw k rd rs1 imm s
  | .csrset k rd rs1 imm => Sys2Proof.Machine.execCsrset k rd rs1 imm s
  | .csrclr k rd rs1 imm => Sys2Proof.Machine.execCsrclr k rd rs1 imm s
  | .sysNop k => Sys2Proof.Machine.execSysNop k s
  | .tend k => Sys2Proof.Machine.execTend k s
  | .park k => Sys2Proof.Machine.execPark k s
  | .xback k => Sys2Proof.Machine.execXback k s
  | .brk k => Sys2Proof.Machine.execBrk k s
  | .drain k => Sys2Proof.Machine.execDrain k s
  | .sealedWipeEnd k => Sys2Proof.Machine.execSealedWipeEnd k s
  | .coreTaskStart k => Sys2Proof.Machine.execCoreTaskStart k s
  | .coreWake k => Sys2Proof.Machine.execCoreWake k s
  | .dfaStart ini c p v => Sys2Proof.Machine.execDfaStart ini c p v s
  | .dfaEventStart c k => Sys2Proof.Machine.execDfaEventStart c k s
  | .dfaTimetableStart c => Sys2Proof.Machine.execDfaTimetableStart c s
  | .dfaStep c => Sys2Proof.Machine.execDfaStep c s
  | .dfaRowArrival c cell p => Sys2Proof.Machine.execDfaRowArrival c cell p s
  | .dfaTimetableComplete c => Sys2Proof.Machine.execDfaTimetableComplete c s
  | .dfaAbort ini c => Sys2Proof.Machine.execDfaAbort ini c s
  | .dfaLoad ini c => Sys2Proof.Machine.execDfaLoad ini c s
  | .dfaLoadEnd c => Sys2Proof.Machine.execDfaLoadEnd c s
  | .scheduleWrite ini c idx v => Sys2Proof.Machine.execScheduleWrite ini c idx v s
  | .dfaCplpop ini c => Sys2Proof.Machine.execDfaCplpop ini c s
  | .dfaRstseedWrite ini c v => Sys2Proof.Machine.execDfaRstseedWrite ini c v s
  | .hostBarAccess bar2 off size v => Sys2Proof.Machine.execHostBarAccess bar2 off size v s
  | .spiWrite mode3 len addr hcrc data dcrc => Sys2Proof.Machine.execSpiWrite mode3 len addr hcrc data dcrc s
  | .spiRead mode3 len addr hcrc => Sys2Proof.Machine.execSpiRead mode3 len addr hcrc s
  | .spiReplay mode3 len addr hcrc => Sys2Proof.Machine.execSpiReplay mode3 len addr hcrc s
  | .spiStatus h => Sys2Proof.Machine.execSpiStatus h s
  | .enterV2 mode3 addr => Sys2Proof.Machine.execEnterV2 mode3 addr s
  | .exitV2 mode3 len addr hcrc => Sys2Proof.Machine.execExitV2 mode3 len addr hcrc s
  | .linkRetrain ini speed x2 => Sys2Proof.Machine.execLinkRetrain ini speed x2 s
  | .msixUnmask v => Sys2Proof.Machine.execMsixUnmask v s
  | .dbTailWrite ini q v => Sys2Proof.Machine.execDbTailWrite ini q v s
  | .descriptorFetch q good data => Sys2Proof.Machine.execDescriptorFetch q good data s
  | .descriptorCheck q => Sys2Proof.Machine.execDescriptorCheck q s
  | .queNop q => Sys2Proof.Machine.execQueNop q s
  | .wset q => Sys2Proof.Machine.execWset q s
  | .wslist q => Sys2Proof.Machine.execWslist q s
  | .move q => Sys2Proof.Machine.execMove q s
  | .timetable q => Sys2Proof.Machine.execTimetable q s
  | .tpgm q => Sys2Proof.Machine.execTpgm q s
  | .twipe q => Sys2Proof.Machine.execTwipe q s
  | .trefresh q => Sys2Proof.Machine.execTrefresh q s
  | .wait q => Sys2Proof.Machine.execWait q s
  | .longCommandStep q n late => Sys2Proof.Machine.execLongCommandStep q n late s
  | .commandComplete q => Sys2Proof.Machine.execCommandComplete q s
  | .commandTimeout q n global => Sys2Proof.Machine.execCommandTimeout q n global s
  | .queueEnable ini q => Sys2Proof.Machine.execQueueEnable ini q s
  | .queueStop ini q => Sys2Proof.Machine.execQueueStop ini q s
  | .queueResume ini q => Sys2Proof.Machine.execQueueResume ini q s
  | .drainAbort ini q => Sys2Proof.Machine.execDrainAbort ini q s
  | .queueDrained q => Sys2Proof.Machine.execQueueDrained q s
  | .queueRevoke ini q => Sys2Proof.Machine.execQueueRevoke ini q s
  | .queueReset ini q => Sys2Proof.Machine.execQueueReset ini q s
  | .fenceAlloc ini idx => Sys2Proof.Machine.execFenceAlloc ini idx s
  | .fenceFree ini idx => Sys2Proof.Machine.execFenceFree ini idx s
  | .fenceReset ini idx => Sys2Proof.Machine.execFenceReset ini idx s
  | .fenceSignal ini idx => Sys2Proof.Machine.execFenceSignal ini idx s
  | .abandon ini => Sys2Proof.Machine.execAbandon ini s
  | .abandonEnd => Sys2Proof.Machine.execAbandonEnd s
  | .clusterAssign ini c v => Sys2Proof.Machine.execClusterAssign ini c v s
  | .svDone ini v => Sys2Proof.Machine.execSvDone ini v s
  | .eventFire evt aon ps => Sys2Proof.Machine.execEventFire evt aon ps s
  | .heldArrivalDelivery u => Sys2Proof.Machine.execHeldArrivalDelivery u s
  | .stopwatchSaturate n => Sys2Proof.Machine.execStopwatchSaturate n s
  | .sorterFilterExpiry n => Sys2Proof.Machine.execSorterFilterExpiry n s
  | .evfSwfire ini v => Sys2Proof.Machine.execEvfSwfire ini v s
  | .evfChenWrite ini k v => Sys2Proof.Machine.execEvfChenWrite ini k v s
  | .evfTaskWrite ini u v => Sys2Proof.Machine.execEvfTaskWrite ini u v s
  | .evfSortWrite ini n hi v => Sys2Proof.Machine.execEvfSortWrite ini n hi v s
  | .hstIrqTask n => Sys2Proof.Machine.execHstIrqTask n s
  | .tileBchkTask t => Sys2Proof.Machine.execTileBchkTask t s
  | .rtcSnap ini => Sys2Proof.Machine.execRtcSnap ini s
  | .snapCapture => Sys2Proof.Machine.execSnapCapture s
  | .rtcWriteStage ini => Sys2Proof.Machine.execRtcWriteStage ini s
  | .rtcWriteCancel ini => Sys2Proof.Machine.execRtcWriteCancel ini s
  | .rtcSecondBoundary => Sys2Proof.Machine.execRtcSecondBoundary s
  | .rtcAlarm => Sys2Proof.Machine.execRtcAlarm s
  | .rtcTick => Sys2Proof.Machine.execRtcTick s
  | .mount c => Sys2Proof.Machine.execMount c s
  | .pstWrite ini r => Sys2Proof.Machine.execPstWrite ini r s
  | .pstDelete ini r => Sys2Proof.Machine.execPstDelete ini r s
  | .pstFind ini => Sys2Proof.Machine.execPstFind ini s
  | .pstWindowRead ini u => Sys2Proof.Machine.execPstWindowRead ini u s
  | .brownOutAbort => Sys2Proof.Machine.execBrownOutAbort s
  | .cipJob ini => Sys2Proof.Machine.execCipJob ini s
  | .cipLoad ini => Sys2Proof.Machine.execCipLoad ini s
  | .cipStore ini => Sys2Proof.Machine.execCipStore ini s
  | .keyset ini => Sys2Proof.Machine.execKeyset ini s
  | .keyclr ini => Sys2Proof.Machine.execKeyclr ini s
  | .keyuse ini => Sys2Proof.Machine.execKeyuse ini s
  | .derive ini => Sys2Proof.Machine.execDerive ini s
  | .unwrap ini => Sys2Proof.Machine.execUnwrap ini s
  | .cipClear ini => Sys2Proof.Machine.execCipClear ini s
  | .cipOpComplete => Sys2Proof.Machine.execCipOpComplete s
  | .cipLockRequest ini => Sys2Proof.Machine.execCipLockRequest ini s
  | .cipLockRelease ini => Sys2Proof.Machine.execCipLockRelease ini s
  | .cipLockGrant => Sys2Proof.Machine.execCipLockGrant s
  | .lockTimeout => Sys2Proof.Machine.execLockTimeout s
  | .slotEngineRequest slot nonce enc dec tagLen adata data tag => Sys2Proof.Machine.execSlotEngineRequest slot nonce enc dec tagLen adata data tag s
  | .slotEngineJob => Sys2Proof.Machine.execSlotEngineJob s
  | .startTsch ini => Sys2Proof.Machine.execStartTsch ini s
  | .startCsma ini => Sys2Proof.Machine.execStartCsma ini s
  | .lnkStop ini => Sys2Proof.Machine.execLnkStop ini s
  | .slotWake => Sys2Proof.Machine.execSlotWake s
  | .slotStart cca => Sys2Proof.Machine.execSlotStart cca s
  | .csmaAccess cca => Sys2Proof.Machine.execCsmaAccess cca s
  | .txDone r => Sys2Proof.Machine.execTxDone r s
  | .rxFrame psdu power chips stamp corr => Sys2Proof.Machine.execRxFrame psdu power chips stamp corr s
  | .lnkDesync => Sys2Proof.Machine.execLnkDesync s
  | .edDone power => Sys2Proof.Machine.execEdDone power s
  | .txReady ini => Sys2Proof.Machine.execTxReady ini s
  | .txCancel ini => Sys2Proof.Machine.execTxCancel ini s
  | .txLoad ini => Sys2Proof.Machine.execTxLoad ini s
  | .txFree ini => Sys2Proof.Machine.execTxFree ini s
  | .lnkRxpop ini => Sys2Proof.Machine.execLnkRxpop ini s
  | .lnkFcWrite ini hi v => Sys2Proof.Machine.execLnkFcWrite ini hi v s
  | .radChanWrite ini v => Sys2Proof.Machine.execRadChanWrite ini v s
  | .radTxpwrWrite ini v => Sys2Proof.Machine.execRadTxpwrWrite ini v s
  | .scanDwellEnd hub heard => Sys2Proof.Machine.execScanDwellEnd hub heard s
  | .claimBeacon => Sys2Proof.Machine.execClaimBeacon s
  | .claimHeard b => Sys2Proof.Machine.execClaimHeard b s
  | .claimholdEnd => Sys2Proof.Machine.execClaimholdEnd s
  | .startBeaconHeard b => Sys2Proof.Machine.execStartBeaconHeard b s
  | .wdrawwaitEnd => Sys2Proof.Machine.execWdrawwaitEnd s
  | .joinreq f => Sys2Proof.Machine.execJoinreq f s
  | .joinack f => Sys2Proof.Machine.execJoinack f s
  | .joinwaitEnd => Sys2Proof.Machine.execJoinwaitEnd s
  | .route f => Sys2Proof.Machine.execRoute f s
  | .zreport f => Sys2Proof.Machine.execZreport f s
  | .streamTimeout origin zone cluster => Sys2Proof.Machine.execStreamTimeout origin zone cluster s
  | .parentLoss => Sys2Proof.Machine.execParentLoss s
  | .leave f => Sys2Proof.Machine.execLeave f s
  | .handover f place sensor => Sys2Proof.Machine.execHandover f place sensor s
  | .handack f => Sys2Proof.Machine.execHandack f s
  | .handoverRepeat payload => Sys2Proof.Machine.execHandoverRepeat payload s
  | .wirEnable ini on => Sys2Proof.Machine.execWirEnable ini on s
  | .wirRestart ini => Sys2Proof.Machine.execWirRestart ini s
  | .anResolved role hiable hireq common seed => Sys2Proof.Machine.execAnResolved role hiable hireq common seed s
  | .anRestart => Sys2Proof.Machine.execAnRestart s
  | .trainConverged => Sys2Proof.Machine.execTrainConverged s
  | .trainTimeout => Sys2Proof.Machine.execTrainTimeout s
  | .wirLinkLoss => Sys2Proof.Machine.execWirLinkLoss s
  | .sqiWindowEnd snr => Sys2Proof.Machine.execSqiWindowEnd snr s
  | .wirAssembly => Sys2Proof.Machine.execWirAssembly s
  | .wirTxDone => Sys2Proof.Machine.execWirTxDone s
  | .wirRxFrame frame amp => Sys2Proof.Machine.execWirRxFrame frame amp s
  | .wirTxReady ini => Sys2Proof.Machine.execWirTxReady ini s
  | .wirTxCancel ini => Sys2Proof.Machine.execWirTxCancel ini s
  | .resend ini => Sys2Proof.Machine.execResend ini s
  | .wirTxFree ini => Sys2Proof.Machine.execWirTxFree ini s
  | .wirRxpop ini => Sys2Proof.Machine.execWirRxpop ini s
  | .dupclr ini => Sys2Proof.Machine.execDupclr ini s
  | .wirSeqWrite ini hi v => Sys2Proof.Machine.execWirSeqWrite ini hi v s
  | .wrhRelay fwd ackBuf next => Sys2Proof.Machine.execWrhRelay fwd ackBuf next s
  | .snsTrig ini v => Sys2Proof.Machine.execSnsTrig ini v s
  | .captureStart n => Sys2Proof.Machine.execCaptureStart n s
  | .captureDone n r => Sys2Proof.Machine.execCaptureDone n r s
  | .flushDone n => Sys2Proof.Machine.execFlushDone n s
  | .pirSample p uv => Sys2Proof.Machine.execPirSample p uv s
  | .pdmWindowEnd num den => Sys2Proof.Machine.execPdmWindowEnd num den s
  | .gpioInEdge k level => Sys2Proof.Machine.execGpioInEdge k level s
  | .gpioPulseEnd g => Sys2Proof.Machine.execGpioPulseEnd g s
  | .snsGpioset ini v => Sys2Proof.Machine.execSnsGpioset ini v s
  | .snsGpioclr ini v => Sys2Proof.Machine.execSnsGpioclr ini v s
  | .portDisable ini n v => Sys2Proof.Machine.execPortDisable ini n v s
  | .snsEpochWrite ini k v => Sys2Proof.Machine.execSnsEpochWrite ini k v s
  | .fltMgmtWrite ini k v => Sys2Proof.Machine.execFltMgmtWrite ini k v s
  | .fltDprel ini v => Sys2Proof.Machine.execFltDprel ini v s
  | .disagreementReport ticks => Sys2Proof.Machine.execDisagreementReport ticks s
  | .watchdogEnable ini v => Sys2Proof.Machine.execWatchdogEnable ini v s
  | .watchdogKick ini v => Sys2Proof.Machine.execWatchdogKick ini v s
  | .watchdogExpiry ticks => Sys2Proof.Machine.execWatchdogExpiry ticks s
  | .logPop ini => Sys2Proof.Machine.execLogPop ini s
  | .logWrite ini v => Sys2Proof.Machine.execLogWrite ini v s
  | .tapReset => Sys2Proof.Machine.execTapReset s
  | .idcode => Sys2Proof.Machine.execIdcode s
  | .samplePreload cap upd => Sys2Proof.Machine.execSamplePreload cap upd s
  | .extest cap upd => Sys2Proof.Machine.execExtest cap upd s
  | .clamp => Sys2Proof.Machine.execClamp s
  | .highz => Sys2Proof.Machine.execHighz s
  | .bypass => Sys2Proof.Machine.execBypass s
  | .dapacc addr data write => Sys2Proof.Machine.execDapacc addr data write s
  | .dapaccDone => Sys2Proof.Machine.execDapaccDone s
  | .testmode mode go => Sys2Proof.Machine.execTestmode mode go s
  | .testScan => Sys2Proof.Machine.execTestScan s
  | .testMbist pass => Sys2Proof.Machine.execTestMbist pass s
  | .testTiletest t bad => Sys2Proof.Machine.execTestTiletest t bad s
  | .testFuse blow => Sys2Proof.Machine.execTestFuse blow s
  | .testAnatrim pass => Sys2Proof.Machine.execTestAnatrim pass s
  | .dbgHalt ini v => Sys2Proof.Machine.execDbgHalt ini v s
  | .dbgHaltTask n => Sys2Proof.Machine.execDbgHaltTask n s
  | .dbgResume ini v => Sys2Proof.Machine.execDbgResume ini v s
  | .dbgStep ini v => Sys2Proof.Machine.execDbgStep ini v s
  | .dbgStart ini v => Sys2Proof.Machine.execDbgStart ini v s
  | .dbgCdataAccess ini w => Sys2Proof.Machine.execDbgCdataAccess ini w s
  | .illegalInstruction k w => Sys2Proof.Machine.execIllegalInstruction k w s
  | .mmpFrameForward f => Sys2Proof.Machine.execMmpFrameForward f s
  | .tsRxWaitEnd => Sys2Proof.Machine.execTsRxWaitEnd s
  | .aonCrystalChange on => Sys2Proof.Machine.execAonCrystalChange on s
  | .pcieLinkChange up speed x2 => Sys2Proof.Machine.execPcieLinkChange up speed x2 s
  | .pcieRefclkChange on => Sys2Proof.Machine.execPcieRefclkChange on s
  | .pcieConfigAccess a => Sys2Proof.Machine.execPcieConfigAccess a s

end Sys2Proof.Machine
end

