-- ==== Sys2Proof/Machine/Step.lean ====
section
/-! DEFINITION. One step: the oldest waiting command is taken and executed; with none, the block works on by itself. -/

namespace Sys2Proof.Machine

open Sys2Proof

/-- What the block does when no command waits: a parameter-store operation in progress goes on to its end, and nothing
else changes (R516; log entry 1). -/
def State.idle (s : State) : State := if s.pstOp.isSome && !s.stopped then s.pstTick else s

/-- One step of the block. -/
def step (s : State) : Host.Outcome State Fault Refusal :=
  match s.pending with
  | c :: rest => exec c { s with pending := rest }
  | [] => .next s.idle

/-- The state with the command a table word spells at the front of its queue. -/
def State.withFetchWord (s : State) (nbits w : Nat) : State :=
  match decodeTableWord nbits w with
  | some c => { s with pending := c :: s.pending }
  | none => s

end Sys2Proof.Machine
end

