-- ==== Sys2Proof/Safety.lean ====
section
/-! DEFINITION. What counts as a safe run of the block, the invariant of its memories, and the terms claims are
stated in. -/

namespace Sys2Proof.Machine

open Sys2Proof

/-- Memory, register bank, seal tags and fresh marks are tables in canonical form. -/
abbrev State.Inv (s : State) : Prop :=
  tabWf memReset s.mem = true ∧ tabWf regReset s.regs = true ∧ tabWf (fun _ => false) s.tags = true ∧
  tabWf (fun _ => false) s.marks = true

/-- A step that goes on. -/
def Goes (s : State) : Prop := ∃ t, step s = .next t

/-- A run of n steps that goes on: no fault and no refusal stops it. -/
def GoesFor : Nat → State → Prop
  | 0, _ => True
  | n + 1, s => ∃ t, step s = .next t ∧ GoesFor n t

/-- A register write of an initiator reaches the register at `a`: the part is not stopped, the initiator is not in
sealed state, and nothing of R91, R95, R96 and R114 turns the write away. -/
abbrev State.Takes (s : State) (ini : Initiator) (a : Nat) : Prop :=
  s.stopped = false ∧ s.sealedIni ini = false ∧ s.verdict ini a true = .pass

/-- The registers of `t` are those of `s`, but for the registers at the listed addresses. -/
def State.KeepsRegs (s t : State) (but : List Nat) : Prop := ∀ a, a ∉ but → t.reg a = s.reg a

/-- Registers that an entry of the fault log and its message to the host may change (R434, R435, R728). -/
def logRegs : List Nat := [Reg.FLT_STATUS, Reg.FLT_LOGCNT, Reg.HST_IRQSTAT, Reg.HST_VPEND0, Reg.HST_VPEND1, Reg.HST_VPEND2]

/-- Nothing but registers at the listed addresses differs between `s` and `t`. -/
def State.OnlyRegs (s t : State) (but : List Nat) : Prop := t = { s with regs := t.regs } ∧ s.KeepsRegs t but

/-- Sorter n with its flip-flop, its filter state and its filtered output cleared (R481). -/
def State.sorterAtRest (s : State) (n : Nat) : State :=
  { (s.setFld (F.EVF_SORT1_Q n) 0).setFld (F.EVF_SORT1_OUT n) 0 with
    sortRaw := tabSet (fun _ => false) s.sortRaw n false, sortHeld := tabSet (fun _ => 0) s.sortHeld n 0 }

/-- The front end dispatches next from queue q, and x, the n-th command the queue holds, is the one (R447). -/
abbrev State.NextCmd (s : State) (q n : Nat) (x : QCmd) : Prop :=
  s.nextQueue = some q ∧ s.nextCmd q = some n ∧ (s.queue q).cmds[n]? = some x

/-- That command runs when it is dispatched: it waits for no fence, a command with unit work is on a cluster of its own
context that is not fenced, and nothing of it has been issued (R447, R453, R469, R725). -/
abbrev State.Turn (s : State) (q n : Nat) (x : QCmd) : Prop :=
  s.NextCmd q n x ∧ x.waitf = none ∧ (x.hasUnit = false ∨ (s.ownsCl x = true ∧ s.fenced (32 + x.cl) = false)) ∧
  x.status = 1 ∧ x.issued = 0 ∧ x.ids = []

/-- The command in flight whose first unit operation has the number id. -/
def QCmd.launched (x : QCmd) (id : Nat) : QCmd :=
  { x with phase := 2, sent := true, limit := x.perStep, issued := 1, ids := [id] }

/-- `t` is `s` after queue q's turn, but for the n-th command of the queue, which is now `y`, the registers at the listed
addresses and what the units of cluster c hold. -/
def State.Dispatched (s t : State) (q n c : Nat) (y : QCmd) (but : List Nat) : Prop :=
  t.front.rr = q ∧ (t.queue q).cmds = (s.queue q).cmds.set n y ∧ (∀ p, p ≠ q → t.queue p = s.queue p) ∧
  s.KeepsRegs t but ∧ t.mem = s.mem ∧ t.tags = s.tags ∧ t.cores = s.cores ∧
  (∀ d, d ≠ c → t.tally d = s.tally d ∧ t.mover d = s.mover d ∧ t.dfa d = s.dfa d)

/-- The command answers a next state, and it is this one. -/
def Becomes (c : Instr) (s t : State) : Prop := exec c s = .next t

/-- The command answers a next state of which `p` holds. -/
def Gives (c : Instr) (s : State) (p : State → Prop) : Prop := ∃ t, exec c s = .next t ∧ p t

end Sys2Proof.Machine
end

