-- ==== Sys2Proof/Certificates/Slice0/Obligations.lean ====
section
/-! DEFINITION. The statements for the provers. `Becomes c s t`: the command answers the next state t, written with the
named operations of the model, so nothing else changes; `Gives c s p`: it answers a next state of which p holds. -/

open Sys2Proof Sys2Proof.Machine

/-- For every command c and state s, step of s with c at the front of its queue is exec of c on s with the queue's
rest. On an empty queue the block idles: step answers s.idle, which goes on with a parameter-store operation in
progress and else changes nothing (log entry 1). -/
def Obligations.StepRunsFront : Prop :=
  (∀ (s : State) (c : Instr) (rest : List Instr),
    step { s with pending := c :: rest } = exec c { s with pending := rest }) ∧
  (∀ (s : State), s.pending = [] →
    step s = .next s.idle)

/-- Every register holds the reset value of its table; AON and SUP are ON and every other domain OFF; clk_core runs on
clk_xo with PLL_A disabled; every row byte is zero, every seal tag and fresh mark 0; the meter is unlocked; the boot
loader stands in FUSE; every core is in RESET; MODE is Breeze; the command queue is empty. -/
def Obligations.ResetValues : Prop :=
  (∀ (d : Nat), d < 26 →
    State.reset.dom d = if d < 2 then 2 else 0) ∧
  (∀ (a : Nat),
    State.reset.reg a = regReset a) ∧
  (∀ (a : Nat),
    State.reset.byte a = 0) ∧
  (∀ (c r : Nat),
    State.reset.tag c r = false ∧ State.reset.mark c r = false ∧ State.reset.freshOf c = []) ∧
  (∀ (k : Nat),
    (State.reset.core k).run = .reset ∧ State.reset.coreRuns k = false) ∧
  (
    State.reset.coreOnPll = false ∧ State.reset.fld F.CLK_PLLA_EN = 0 ∧ State.reset.fld F.CLK_CORESEL_SRC = 0) ∧
  (
    State.reset.fld F.SEAL_CTRL_LOCK = 0 ∧ State.reset.fld F.SEAL_VIOL_COUNT = 0 ∧ State.reset.fld F.PWR_CTRL_MODE = 0 ∧
    State.reset.fld F.BOOT_STATUS_STAGE = 0 ∧ State.reset.fld F.FLT_WDCFG_TIMEOUT = 15625 ∧ State.reset.pending = [] ∧
    State.reset.stopped = false ∧ State.reset.weather = .run)

/-- After reset the memory, the register bank, the seal tags and the fresh marks are tables in canonical form: keys
strictly rising, no entry equal to what an unlisted key reads as. -/
def Obligations.ResetHoldsInv : Prop :=
  (
    State.reset.Inv)

/-- For every state whose memory, register bank, seal tags and fresh marks are tables in canonical form, a step that
answers a next state leaves them so, whatever command it runs: equal contents stay equal data. -/
def Obligations.StepKeepsInv : Prop :=
  ∀ s t : State, s.Inv → step s = .next t → t.Inv

/-- IDCODE on a powered TAP shifts out 0x23248B47: version 0x2 in bits [31:28], part number 0x3248 in bits [27:12],
manufacturer 0x5A3 in bits [11:1], and 1 in bit 0. -/
def Obligations.IdentificationCode : Prop :=
  (∀ (s : State), s.tapOn = true →
    Gives .idcode s fun t => ofBytes t.readData = 0x23248B47 ∧ bitsOf (ofBytes t.readData) 28 4 = 0x2 ∧
      bitsOf (ofBytes t.readData) 12 16 = 0x3248 ∧ bitsOf (ofBytes t.readData) 1 11 = 0x5A3 ∧
        bitsOf (ofBytes t.readData) 0 1 = 1)

/-- A power-on reset leaves POR (bit 0) set and every other bit of CLK_RSTCAUSE clear. RESET_N sets PIN (bit 1), the
watchdog reset WDOG (bit 2), a function-level reset FLR (bit 3), a cluster reset the bit of its cluster (bits 4 to 7),
each keeping the bits already set; two resets together set both bits. -/
def Obligations.ResetCauses : Prop :=
  (∀ (s : State),
    Gives .powerOnReset s fun t => t.reg Reg.CLK_RSTCAUSE = 1) ∧
  (∀ (s : State), s.held.por = false → s.weather ≠ .frost →
    Gives (.resetN .long) s fun t => t.reg Reg.CLK_RSTCAUSE = s.reg Reg.CLK_RSTCAUSE ||| 2) ∧
  (∀ (s : State) (v : Word), s.Takes .sv Reg.FLT_WDKICK → v ≠ 0x00A5C3 →
    Gives (.watchdogKick .sv v) s fun t => t.reg Reg.CLK_RSTCAUSE = s.reg Reg.CLK_RSTCAUSE ||| 4) ∧
  (∀ (s : State), s.stopped = false → s.domOn 5 = true → s.fld F.HST_LINK_UP = 1 → (s.fld F.BOOT_STATUS_STAGE < 3 ∨ 5
  < s.fld F.BOOT_STATUS_STAGE) →
    Gives .flr s fun t => t.reg Reg.CLK_RSTCAUSE = s.reg Reg.CLK_RSTCAUSE ||| 8) ∧
  (∀ (s : State) (c : Fin 4) (req : Fin 16), s.Takes .sv Reg.CLK_CLRST → req.val = 2 ^ c.val → s.inClReset c = false →
    Gives (.clusterReset .sv req) s fun t => t.reg Reg.CLK_RSTCAUSE = s.reg Reg.CLK_RSTCAUSE ||| BitVec.ofNat 24 (16
      * 2 ^ c.val)) ∧
  (∀ (s : State), s.held.por = false → s.weather ≠ .frost →
    s.pinReset.wdogReset.reg Reg.CLK_RSTCAUSE = s.reg Reg.CLK_RSTCAUSE ||| 6)

/-- A write of CLK_CORESEL, CLK_PLLA or CLK_CLRST by SV or the boot loader reaches the register and has its effect; one
by any other initiator in open state, where its host port is no reason to drop it, is discarded and recorded in
CLK_ADDRERR, and the access completes. -/
def Obligations.ClockRegisterWriters : Prop :=
  (∀ (s : State) (ini : Initiator) (a : Nat), a ∈ [Reg.CLK_CORESEL, Reg.CLK_PLLA, Reg.CLK_CLRST] → s.domOn 0 = true →
    s.verdict ini a true = .pass ↔ ini = .sv ∨ ini = .boot) ∧
  (∀ (s : State) (ini : Initiator) (a n v : Nat), a ∈ [Reg.CLK_CORESEL, Reg.CLK_PLLA, Reg.CLK_CLRST] → ini ≠ .sv → ini
  ≠ .boot → s.stopped = false → s.sealedIni ini = false → s.gate ini a true ≠ .dropped →
    Becomes (.registerWrite ini a n v) s (s.addrErr ini a true)) ∧
  (∀ (s : State) (ini : Initiator) (v : Word) (req : Fin 16), ini ≠ .sv → ini ≠ .boot → s.stopped = false →
  s.sealedIni ini = false → s.gate ini Reg.CLK_CORESEL true ≠ .dropped →
    Becomes (.clkCoreselWrite ini v) s (s.addrErr ini Reg.CLK_CORESEL true) ∧
      Becomes (.clkPllaWrite ini v) s (s.addrErr ini Reg.CLK_PLLA true) ∧
    Becomes (.clusterReset ini req) s (s.addrErr ini Reg.CLK_CLRST true)) ∧
  (∀ (s : State) (ini : Initiator) (v : Word), (ini = .sv ∨ ini = .boot) → s.stopped = false → s.sealedIni ini = false
  → s.domOn 0 = true →
    Becomes (.clkCoreselWrite ini v) s (s.writeCoresel v.toNat) ∧
      Becomes (.clkPllaWrite ini v) s (s.writePlla v.toNat) ∧
    Becomes (.registerWrite ini Reg.CLK_CORESEL 4 v.toNat) s (s.writeCoresel v.toNat) ∧
    Becomes (.registerWrite ini Reg.CLK_PLLA 4 v.toNat) s (s.writePlla v.toNat) ∧
    Becomes (.registerWrite ini Reg.CLK_CLRST 4 v.toNat) s (s.writeClrst (v.toNat % 16)))

/-- The available credit is B0 + B1 + B2 + B3 + B4. A debit within it takes from B4 first, then from B3 what B4 does
not hold, and so on to B0. Where no bucket exceeds the budget the credit is at most 5 x budget; a debit and an advance
of the meter keep it so. -/
def Obligations.CreditOrder : Prop :=
  (∀ (z : Zone),
    zoneAvail z = z.b0 + z.b1 + z.b2 + z.b3 + z.b4) ∧
  (∀ (z : Zone) (n : Nat), n ≤ zoneAvail z →
    let d := zoneDebit z n
    d.b4 = z.b4 - n ∧ d.b3 = z.b3 - (n - z.b4) ∧ d.b2 = z.b2 - (n - z.b4 - z.b3) ∧
      d.b1 = z.b1 - (n - z.b4 - z.b3 - z.b2) ∧
    d.b0 = z.b0 - (n - z.b4 - z.b3 - z.b2 - z.b1) ∧ zoneAvail d + n = zoneAvail z) ∧
  (∀ (z : Zone), (z.b0 ≤ z.budget ∧ z.b1 ≤ z.budget ∧ z.b2 ≤ z.budget ∧ z.b3 ≤ z.budget ∧ z.b4 ≤ z.budget) →
    zoneAvail z ≤ 5 * z.budget) ∧
  (∀ (z : Zone) (n : Nat), (z.b0 ≤ z.budget ∧ z.b1 ≤ z.budget ∧ z.b2 ≤ z.budget ∧ z.b3 ≤ z.budget ∧ z.b4 ≤ z.budget) →
    let d := zoneDebit z n
    (d.b0 ≤ d.budget ∧ d.b1 ≤ d.budget ∧ d.b2 ≤ d.budget ∧ d.b3 ≤ d.budget ∧ d.b4 ≤ d.budget)) ∧
  (∀ (s : State) (n : Fin 8) (zi : Nat), ((s.zone zi).b0 ≤ (s.zone zi).budget ∧ (s.zone zi).b1 ≤ (s.zone zi).budget ∧
  (s.zone zi).b2 ≤ (s.zone zi).budget ∧ (s.zone zi).b3 ≤ (s.zone zi).budget ∧ (s.zone zi).b4 ≤ (s.zone zi).budget) →
    let u := (s.sealAdvance n).zone zi
    (u.b0 ≤ u.budget ∧ u.b1 ≤ u.budget ∧ u.b2 ≤ u.budget ∧ u.b3 ≤ u.budget ∧ u.b4 ≤ u.budget))

/-- Clocks (R78, R80-R85, R105). A write of CLK_CORESEL holds the switch pending (BUSY) unless the source asked for
drives clk_core already; CLOCK_SWITCH ends a pending switch, to PLL_A only once locked. A PLL_A setting within R80 is
taken and must lock again; one outside, or one written while SRC is 1, changes no divider and sets BADCFG. A PLL that
runs reports lock. A PLL_A lost while it drives clk_core gives way to clk_xo, with ALOST and an entry of code 0x02 in
the fault log. CLK_STATUS shows the crystal and the reference clock, without which the PCI
Express link is down. Nothing else changes. -/
def Obligations.ClockCommands : Prop :=
  (∀ (s : State) (ini : Initiator) (v : Word), s.Takes ini Reg.CLK_CORESEL →
    Becomes (.clkCoreselWrite ini v) s
      ((s.setFld F.CLK_CORESEL_BUSY (if (v.toNat % 2 == 1) = s.coreOnPll then 0 else 1)).setFld F.CLK_CORESEL_SRC
        (v.toNat % 2))) ∧
  (∀ (s : State), s.fld F.CLK_CORESEL_BUSY = 1 → (s.fld F.CLK_CORESEL_SRC = 0 ∨ s.fld F.CLK_PLLA_LOCK = 1) →
    Becomes .clockSwitch s (s.setFld F.CLK_CORESEL_BUSY 0)) ∧
  (∀ (s : State), s.fld F.CLK_CORESEL_SRC = 1 → s.fld F.CLK_PLLA_LOCK = 0 →
    Becomes .clockSwitch s s) ∧
  (∀ (s : State), s.fld F.CLK_CORESEL_BUSY = 0 →
    Becomes .clockSwitch s s) ∧
  (∀ (s : State) (ini : Initiator) (v : Word) (fb pd : Nat), s.Takes ini Reg.CLK_PLLA → s.fld F.CLK_CORESEL_SRC = 0 →
  s.fld F.CLK_PLLA_LOCK = 0 → bitsOf v.toNat 0 8 = fb → bitsOf v.toNat 8 4 = pd → 100 ≤ fb → fb ≤ 250 → 2 ≤ pd → 8 *
  fb ≤ 500 * pd → (fb ≠ s.fld F.CLK_PLLA_FBDIV ∨ pd ≠ s.fld F.CLK_PLLA_POSTDIV) →
    Becomes (.clkPllaWrite ini v) s
      ((((s.setFld F.CLK_PLLA_FBDIV fb).setFld F.CLK_PLLA_POSTDIV pd).setFld F.CLK_PLLA_EN (bitsOf v.toNat 12 1)).setFld
        F.CLK_PLLA_LOCK 0)) ∧
  (∀ (s : State) (ini : Initiator) (v : Word) (fb pd : Nat), s.Takes ini Reg.CLK_PLLA → bitsOf v.toNat 12 1 = 1 →
  bitsOf v.toNat 0 8 = fb → bitsOf v.toNat 8 4 = pd → (s.fld F.CLK_CORESEL_SRC = 1 ∨ fb < 100 ∨ 250 < fb ∨ 500 * pd <
  8 * fb) →
    Becomes (.clkPllaWrite ini v) s ((s.setFld F.CLK_STATUS_BADCFG 1).setFld F.CLK_PLLA_EN 1)) ∧
  (∀ (s : State), s.fld F.CLK_PLLA_EN = 1 →
    Becomes (.pllLock .a) s (s.setFld F.CLK_PLLA_LOCK 1)) ∧
  (∀ (s : State) (q : Fin 8), s.dom (17 + q) = 2 →
    Becomes (.pllLock .b) s (s.setFld F.CLK_PLLBC_BLOCK 1)) ∧
  (∀ (s : State), s.fld (F.PWR_DOM_BUSY 4) = 1 →
    Becomes (.pllLock .c) s (s.setFld F.CLK_PLLBC_CLOCK 1)) ∧
  (∀ (s : State), s.fld F.CLK_PLLA_LOCK = 1 → s.coreOnPll = true →
    Becomes .pllLoss s (((((s.setFld F.CLK_PLLA_LOCK 0).setFld F.CLK_CORESEL_SRC 0).setFld F.CLK_CORESEL_BUSY 0).setFld
      F.CLK_STATUS_ALOST 1).logEntry 0x02 63 0)) ∧
  (∀ (s : State) (on : Bool),
    Becomes (.aonCrystalChange on) s (s.setFld F.CLK_STATUS_AONOK (if on then 1 else 0))) ∧
  (∀ (s : State),
    Becomes (.pcieRefclkChange true) s (s.setFld F.CLK_STATUS_PCIEREF 1)) ∧
  (∀ (s : State),
    Becomes (.pcieRefclkChange false) s
      ((((s.setFld F.CLK_STATUS_PCIEREF 0).setFld F.HST_LINK_SPEED 0).setFld F.HST_LINK_WIDTH 0).setFld F.HST_LINK_UP
        0))

/-- A request for ON asks ON for the domain and every domain it needs, in one cycle; in Breeze a request, other than the
boot loader's own before DONE, that would bring the lit set outside the limits changes no request and sets DENIED. A
request for RET to a domain that does not take RET, for OFF to SUP, or for the value 3, sets DENIED; RET or OFF of a
domain that another one needs, which is not OFF, sets DEPEND; otherwise the request is taken. SLEEPRET and KEEPCALM take
the values written. A write by an initiator other than SV and the boot loader is recorded as R95 states and changes
nothing else. -/
def Obligations.DomainRequests : Prop :=
  (∀ (s : State) (ini : Initiator) (d : Fin 26) (v : Word), s.Takes ini (Reg.PWR_DOM d) → d ≠ 0 → v.toNat % 4 = 2 →
  (s.fld F.PWR_CTRL_MODE = 1 ∨ (ini = .boot ∧ s.fld F.BOOT_STATUS_DONE = 0) ∨ outsideBreeze (fun e => s.lit e || (e !=
  0 && decide (e < 26) && (withNeeds d).contains e)) = false) →
    Becomes (.pwrDomRequest ini d v) s
      ((((List.range 26).filter fun e => e != 0 && (withNeeds d).contains e).foldl (fun t e => t.setReq e 2)
        ((s.setFld (F.PWR_DOM_SLEEPRET d) (bitsOf v.toNat 7 1)).setFld (F.PWR_DOM_KEEPCALM d) (bitsOf v.toNat 8
          1))).forgetWoke [d.val])) ∧
  (∀ (s : State) (ini : Initiator) (d : Fin 26) (v : Word), s.Takes ini (Reg.PWR_DOM d) → d ≠ 0 → v.toNat % 4 = 2 →
  s.fld F.PWR_CTRL_MODE = 0 → (ini = .boot → s.fld F.BOOT_STATUS_DONE = 1) → outsideBreeze (fun e => s.lit e || (e != 0
  && decide (e < 26) && (withNeeds d).contains e)) = true →
    Becomes (.pwrDomRequest ini d v) s
      (((s.setFld (F.PWR_DOM_SLEEPRET d) (bitsOf v.toNat 7 1)).setFld (F.PWR_DOM_KEEPCALM d) (bitsOf v.toNat 8
        1)).setFld
        F.PWR_STATUS_DENIED 1)) ∧
  (∀ (s : State) (ini : Initiator) (d : Fin 26) (v : Word) (r : Nat), s.Takes ini (Reg.PWR_DOM d) → d ≠ 0 → v.toNat %
  4 = r → (r = 0 ∧ d ≠ 1 ∨ r = 1 ∧ domTakesRet d = true) → (∀ e ∈ dependents d, s.dom e = 0 ∧ s.domBusy e = false) →
    Becomes (.pwrDomRequest ini d v) s
      (((s.setFld (F.PWR_DOM_SLEEPRET d) (bitsOf v.toNat 7 1)).setFld (F.PWR_DOM_KEEPCALM d) (bitsOf v.toNat 8
        1)).setReq d r)) ∧
  (∀ (s : State) (ini : Initiator) (d : Fin 26) (v : Word) (e : Nat), s.Takes ini (Reg.PWR_DOM d) → d ≠ 0 → (v.toNat %
  4 = 0 ∧ d ≠ 1 ∨ v.toNat % 4 = 1 ∧ domTakesRet d = true) → e ∈ dependents d → (s.dom e ≠ 0 ∨ s.domBusy e = true) →
    Becomes (.pwrDomRequest ini d v) s
      (((s.setFld (F.PWR_DOM_SLEEPRET d) (bitsOf v.toNat 7 1)).setFld (F.PWR_DOM_KEEPCALM d) (bitsOf v.toNat 8
        1)).setFld
        F.PWR_STATUS_DEPEND 1)) ∧
  (∀ (s : State) (ini : Initiator) (d : Fin 26) (v : Word), s.Takes ini (Reg.PWR_DOM d) → d ≠ 0 → (v.toNat % 4 = 3 ∨
  v.toNat % 4 = 0 ∧ d = 1 ∨ v.toNat % 4 = 1 ∧ domTakesRet d = false) →
    Becomes (.pwrDomRequest ini d v) s
      (((s.setFld (F.PWR_DOM_SLEEPRET d) (bitsOf v.toNat 7 1)).setFld (F.PWR_DOM_KEEPCALM d) (bitsOf v.toNat 8
        1)).setFld
        F.PWR_STATUS_DENIED 1)) ∧
  (∀ (s : State) (d v e : Nat), s.domBusy d = false → d < 26 → v < 4 →
    (s.setReq d v).domReq d = v ∧ (s.setReq d v).dom e = s.dom e ∧
    (s.setReq d v).flag (F.PWR_DOM_PEND d) = (s.setReq d v).waiting.contains d ∧
    ((s.setReq d v).waiting.contains d = true ↔ s.dom d ≠ v ∧ ¬(s.dom d = 0 ∧ v = 1))) ∧
  (∀ (s : State) (ini : Initiator) (d : Fin 26) (v : Word), s.stopped = false → s.sealedIni ini = false → ini ≠ .sv →
  ini ≠ .boot → s.gate ini (Reg.PWR_DOM d) true ≠ .dropped →
    Becomes (.pwrDomRequest ini d v) s (s.addrErr ini (Reg.PWR_DOM d) true))

/-- A waiting transition to ON starts once every domain it needs is ON, its rails are free and no earlier waiting
domain wants them; one to RET or OFF starts once no domain that needs it is up and the domain is idle. PEND gives way
to BUSY. At its end, which for a tile quad
and for WIR waits for their PLL to lock, ACT shows the target, BUSY clears, what the new state does not keep is gone,
  a request that came
meanwhile is pending again, and every wake map now complete fires EVP_PWR_READY. -/
def Obligations.DomainTransitions : Prop :=
  (∀ (s : State) (d : Fin 26), s.waiting.contains d.val = true → s.domBusy d = false → s.weather = .run → s.domReq d =
  2 → (∀ e ∈ needs d, s.domOn e = true) → s.railFree d = true → s.inTurn d = true →
    Becomes (.domainTransitionStart d) s (s.beginMove d)) ∧
  (∀ (s : State) (d : Fin 26), s.waiting.contains d.val = true → s.domBusy d = false → s.weather = .run → s.domReq d ≠
  2 → (∀ e ∈ dependents d, s.dom e = 0 ∧ s.domBusy e = false) → s.domIdle d = true →
    Becomes (.domainTransitionStart d) s ((s.beforeLeave d).beginMove d)) ∧
  (∀ (s : State) (d : Nat), d < 26 →
    (s.beginMove d).domBusy d = true ∧ (s.beginMove d).fld (F.PWR_DOM_PEND d) = 0 ∧ (s.beginMove d).dom d = s.dom d ∧
    (s.beginMove d).waiting = s.waiting.filter (· != d) ∧ (s.beginMove d).domTarget d = s.domReq d) ∧
  (∀ (s : State) (d : Fin 26), s.domBusy d = true → s.domTarget d = 2 → s.pllReady d = false →
    Becomes (.domainTransitionDone d) s s) ∧
  (∀ (s : State) (d : Fin 26), s.domBusy d = true → (s.domTarget d = 2 → s.pllReady d = true) →
    let r := { ((s.setFld (F.PWR_DOM_BUSY d) 0).setFld (F.PWR_DOM_ACT d) (s.domTarget d)) with
               target := tabSet (fun _ => 2) s.target d 2 }
    let u := if s.domTarget d = 2 then r.gain d (s.dom d == 0) else if s.domTarget d = 1 then r.retain d else r.lose d
    Becomes (.domainTransitionDone d) s (u.setReq d (u.domReq d)).fireReady)

/-- MODE takes the value written, but a write of 0 while the lit set is outside the Breeze limits sets DENIED. CALM
  requests RET or OFF of every domain but AON and SUP; once they stand there and SV is parked, SUP goes to
RET, PLL_A stops and the part is in Calm. An enabled wake source ends Calm with SUP ON, its bit in WAKECAUSE
and its producer fired, or abandons the entry with CALMABORT; where VDD_CORE was removed meanwhile, every domain that
stood in RET is OFF. WAKE_N in Breeze and Gale fires its producer. FROST enters Frost only when armed, with every
  domain OFF; else it sets
DENIED. WAKE_N in Frost runs the power-on reset and sets FROSTEXIT. -/
def Obligations.WeatherCommands : Prop :=
  (∀ (s : State) (ini : Initiator) (v : Word), s.Takes ini Reg.PWR_CTRL → (v.toNat % 2 = 1 ∨
    outsideBreeze s.lit = false) →
    Becomes (.pwrModeWrite ini v) s (s.setFld F.PWR_CTRL_MODE (v.toNat % 2))) ∧
  (∀ (s : State) (ini : Initiator) (v : Word), s.Takes ini Reg.PWR_CTRL → v.toNat % 2 = 0 → outsideBreeze s.lit = true →
    Becomes (.pwrModeWrite ini v) s (s.setFld F.PWR_STATUS_DENIED 1)) ∧
  (∀ (s : State) (ini : Initiator), s.Takes ini Reg.PWR_CMD →
    Becomes (.pwrCalm ini) s (((s.setFld F.PWR_FROSTARM_ARM 0).setFld F.PWR_STATE_CALMPEND 1).requestLeave
      (((List.range 26).drop 2).map fun d =>
        (d, b2n (((s.setFld F.PWR_FROSTARM_ARM 0).setFld F.PWR_STATE_CALMPEND 1).flag (F.PWR_DOM_KEEPCALM d) &&
          domTakesRet d))))) ∧
  (∀ (s : State), s.fld F.PWR_STATE_CALMPEND = 1 → s.weather = .run → s.calmReady = true → (s.core 4).run = .wait →
  (s.core 4).sealedSt = false → s.domBusy 1 = false →
    Gives .calmEntryDone s fun t => t.weather = .calm ∧ t.dom 1 = 1 ∧ t.fld F.PWR_STATE_CALMPEND = 0 ∧
      t.fld F.CLK_PLLA_EN = 0 ∧
      t.fld F.CLK_PLLA_LOCK = 0 ∧ t.fld F.CLK_CORESEL_SRC = 0 ∧ t.mem = s.mem ∧ t.tags = s.tags ∧ t.zones = s.zones) ∧
  (∀ (s : State) (src : WakeSource), s.weather = .calm → s.wakeEnabled src = true →
    Gives (.calmWake ⟨src, false⟩) s fun t => t.weather = .run ∧ t.dom 1 = 2 ∧
      t.fld F.PWR_WAKECAUSE_CAUSE = 2 ^ wakeBit src ∧
      t.pulses = s.pulses ++ [wakeProducer src] ∧ ((s.core 4).run = .wait → (t.core 4).run = .run) ∧
      s.KeepsRegs t [Reg.PWR_DOM 1, Reg.PWR_WAKECAUSE, Reg.CLK_STATUS] ∧ t.mem = s.mem ∧ t.tags = s.tags) ∧
  (∀ (s : State) (src : WakeSource), s.weather = .calm → s.wakeEnabled src = true →
    Gives (.calmWake ⟨src, true⟩) s fun t => t.weather = .run ∧ t.dom 1 = 2 ∧ t.pulses = s.pulses ++ [wakeProducer src] ∧
      (∀ d : Nat, 2 ≤ d → d < 26 → s.dom d = 1 → t.dom d = 0) ∧ (t.core 4).pc = 0) ∧
  (∀ (s : State) (src : WakeSource), s.weather = .calm → s.wakeEnabled src = false →
    Becomes (.calmWake ⟨src, false⟩) s s) ∧
  (∀ (s : State) (lost : Bool), s.wakeEnabled .pin = true ∧ s.stopped = false → s.weather = .run → s.fld
  F.PWR_STATE_CALMPEND = 0 →
    Becomes (.calmWake ⟨.pin, lost⟩) s (s.fire 92)) ∧
  (∀ (s : State) (src : WakeSource) (lost : Bool), s.stopped = false → s.weather = .run → s.fld F.PWR_STATE_CALMPEND =
  1 → s.wakeEnabled src = true →
    Becomes (.calmWake ⟨src, lost⟩) s
      (((s.cancelLeaves.setFld F.PWR_STATE_CALMPEND 0).setFld F.PWR_STATUS_CALMABORT 1).fire (wakeProducer src))) ∧
  (∀ (s : State) (ini : Initiator), s.Takes ini Reg.PWR_FROSTARM →
    Becomes (.frostArm ini) s (s.setFld F.PWR_FROSTARM_ARM 1)) ∧
  (∀ (s : State),
    Becomes .frostArmExpiry s (s.setFld F.PWR_FROSTARM_ARM 0)) ∧
  (∀ (s : State) (ini : Initiator), s.Takes ini Reg.PWR_CMD → s.fld F.PWR_FROSTARM_ARM = 1 →
    Gives (.pwrFrost ini) s fun t => t.weather = .frost ∧ (∀ d : Nat, d < 26 → t.dom d = 0 ∧ t.domReq d = 0) ∧
      t.mem = [] ∧ t.tags = [] ∧
      t.zones = [] ∧ t.rtc = {} ∧ t.cores = [] ∧ t.fuses = s.fuses) ∧
  (∀ (s : State) (ini : Initiator), s.Takes ini Reg.PWR_CMD → s.fld F.PWR_FROSTARM_ARM = 0 →
    Becomes (.pwrFrost ini) s (s.setFld F.PWR_STATUS_DENIED 1)) ∧
  (∀ (s : State), s.weather = .frost →
    Gives .frostWake s fun t => t.held = { por := true } ∧ t.weather = .run ∧ t.fld F.PWR_STATUS_FROSTEXIT = 1 ∧
      t.dom 1 = 2 ∧
      (∀ d : Nat, d < 26 → 2 ≤ d → t.dom d = 0) ∧ t.zones = [] ∧ t.rtc = {} ∧ t.fuses = s.fuses)

/-- A power-on reset leaves every register at its reset value (CLK_RSTCAUSE shows POR alone) and clears memories,
tags, marks, meter, RTC, log and cores, but not the fuses. A long RESET_N pulse clears scratchpads, cores, queues and
power states, records PIN, and keeps the meter, the RTC and the fault log; a short one changes nothing; one between
the two widths resets or not (a free value, log entry 3). The release of a held reset samples the straps and starts
the boot loader. A cluster reset of a cluster that is ON records CLRST, sets BUSY and resets it; of one that is OFF it
only records CLRST. A function-level reset clears queue and host state and hands every cluster of a context to context
0. -/
def Obligations.ResetCommands : Prop :=
  (∀ (s : State),
    Gives .powerOnReset s fun t => State.reset.KeepsRegs t [] ∧ t.held = { por := true } ∧ t.mem = [] ∧ t.tags = [] ∧
      t.marks = [] ∧ t.zones = [] ∧ t.fresh = [] ∧ t.rtc = {} ∧ t.log = [] ∧ t.cores = [] ∧ t.queues = [] ∧
        t.weather = .run ∧
      t.pending = s.pending ∧ t.fuses = s.fuses) ∧
  (∀ (s : State), s.held.por = false → s.weather ≠ .frost →
    Gives (.resetN .long) s fun t => t.held = { s.held with pin := true } ∧ t.fld F.CLK_RSTCAUSE_PIN = 1 ∧
      (∀ c : Nat, c < 4 → t.freshOf c = [] ∧ ∀ r : Nat, r < 4096 → t.tag c r = false) ∧ (∀ d : Nat, d < 26 →
        t.dom d = if d < 2 then 2 else 0) ∧ t.cores = [] ∧
      t.queues = [] ∧ t.zones = s.zones ∧ t.rtc = s.rtc ∧ t.log = s.log ∧
      t.fuses = s.fuses ∧ t.weather = .run) ∧
  (∀ (s : State),
    Becomes (.resetN .short) s s) ∧
  (∀ (s : State),
    Becomes (.resetN .between) s (if s.open_ 2 = 1 then s.drawn.pinReset else s.drawn)) ∧
  (∀ (s : State) (bootsel : Fin 4) (hostsel : Bool), (s.held.por = true ∨ s.held.pin = true ∨ s.held.wdog = true) →
    Becomes (.resetRelease bootsel hostsel) s
      { (((s.setFld F.BOOT_STRAP_BOOTSEL bootsel).setFld F.BOOT_STRAP_HOSTSEL (b2n hostsel)).setFld F.CLK_STATUS_XOOK 1) with
        held := {}, boot := { base := s.evtCycles } }) ∧
  (∀ (s : State) (ini : Initiator) (c : Fin 4) (req : Fin 16), s.Takes ini Reg.CLK_CLRST → req.val = 2 ^ c.val →
  s.inClReset c = false → s.dom (domCL c) = 2 →
    Becomes (.clusterReset ini req) s
      (((s.setFbit F.CLK_RSTCAUSE_CLRST c true).setFbit F.CLK_CLRST_BUSY c true).resetCluster c)) ∧
  (∀ (s : State) (ini : Initiator) (c : Fin 4) (req : Fin 16), s.Takes ini Reg.CLK_CLRST → req.val = 2 ^ c.val →
  s.inClReset c = false → s.dom (domCL c) = 0 →
    Becomes (.clusterReset ini req) s (s.setFbit F.CLK_RSTCAUSE_CLRST c true)) ∧
  (∀ (s : State) (c : Fin 4) (a : Nat), (c.val * 0x200000 ≤ a ∧ a < (c.val + 1) * 0x200000) →
    (s.resetCluster c).byte a = 0 ∧ (s.resetCluster c).tally c = {} ∧ (s.resetCluster c).mover c = {} ∧
    (s.resetCluster c).clearing c = true) ∧
  (∀ (s : State), s.stopped = false → s.domOn 5 = true → s.fld F.HST_LINK_UP = 1 → (s.fld F.BOOT_STATUS_STAGE < 3 ∨ 5
  < s.fld F.BOOT_STATUS_STAGE) →
    Gives .flr s fun t => t.queues = [] ∧ t.msix = [] ∧ t.msixPend = [] ∧ t.msixEnable = false ∧
      t.fld F.CLK_RSTCAUSE_FLR = 1 ∧ t.flrDue = (List.range 4).filter (fun c => s.ownerCtx c != 0) ∧
        t.zones = s.zones ∧ t.rtc = s.rtc) ∧
  (∀ (s : State), s.stopped = false → s.domOn 5 = true → s.fld F.HST_LINK_UP = 1 → 3 ≤ s.fld F.BOOT_STATUS_STAGE →
  s.fld F.BOOT_STATUS_STAGE ≤ 5 →
    Becomes .flr s { s with flrWaits := true })

/-- A stage's command acts in its stage alone (R137). FUSE loads the shadow after power-on, counts the run of the
  loader and
goes to DISCOVER or, with host boot, to HOSTWAIT; a bad CRC or LIFECYCLE 3 goes to HOLD. DISCOVER refuses a flash
without SFDP, below 1 MiB or with 4-byte addressing only, and otherwise goes to STAGE with quad or single reads. STAGE
copies the header and, when it is good, TOTLEN bytes into SP0, and goes to CHECK. CHECK reports the first failing check
of R150, tries the backup copy once, else holds; a parcel that passes fills BOOT_FMT and BOOT_BUILD and goes to APPLY.
APPLY moves the clock by R84, waits for it, locks classes and meter, takes the keys, asks for its domains and, once they
are ON, copies the code and the starts. RELEASE sends DPD, releases the flash, blows
ROLLBACK bits one at a time, clears SP0; DONE starts the cores and, outside the Breeze limits, sets MODE. HOLD keeps the
code, drops the key and releases the flash. GO freezes the host's copy and asks for the checks; RETRY goes back to
HOSTWAIT with SP0 cleared. -/
def Obligations.BootStages : Prop :=
  (∀ (s : State) (n : Nat), s.stopped = false → s.fld F.BOOT_STATUS_STAGE = 0 → s.fld F.BOOT_STRAP_EFFSRC ≠ 3 → s.flag
  F.BOOT_FUSE_SHADOWOK = false → s.fuses.crcOk = true → s.fuses.lifecycle ≠ 3 → s.fld F.BOOT_STRAP_BOOTSEL = n → (n <
  2 ∨ n = 2 ∧ s.fuses.hostbootdis = false) →
    Gives .bootFuse s fun t => t.shadow = s.fuses ∧ t.fuses = s.fuses ∧
      (t.reg Reg.BOOT_UID0).toNat + 2 ^ 24 * (t.reg Reg.BOOT_UID1).toNat + 2 ^ 48 * t.fld F.BOOT_UID2_UID
        = s.fuses.uid.toNat ∧
      t.flag F.BOOT_FUSE_DBGDIS = s.fuses.dbgdis ∧ t.flag F.BOOT_FUSE_FMT1DIS = s.fuses.fmt1dis ∧
      t.flag F.BOOT_FUSE_HOSTBOOTDIS = s.fuses.hostbootdis ∧ t.fld F.BOOT_FUSE_LIFECYCLE = s.fuses.lifecycle.toNat ∧
      t.flag F.BOOT_FUSE_SHADOWOK = true ∧ t.fld F.BOOT_ROLLBACK_LEVEL = s.fuses.rollback % 64 ∧
      t.fld F.BOOT_STRAP_EFFSRC = n ∧ t.fld F.BOOT_STATUS_TESTSTRAP = 0 ∧
        t.fld F.BOOT_STATUS_STAGE = (if n = 2 then 7 else 1) ∧
      t.fld F.FLT_BOOTCNT_COUNT = (s.fld F.FLT_BOOTCNT_COUNT + 1) % 256 ∧ t.domReq 7 = 2 ∧ t.domReq 13 = 2 ∧
      (n = 2 → t.domReq 5 = 2) ∧ t.mem = s.mem ∧ t.cip = s.cip ∧ t.cores = s.cores ∧ t.boot = s.boot ∧
      s.KeepsRegs t [Reg.BOOT_UID0, Reg.BOOT_UID1, Reg.BOOT_UID2, Reg.BOOT_FUSE, Reg.BOOT_ROLLBACK, Reg.BOOT_STRAP,
        Reg.BOOT_STATUS, Reg.FLT_BOOTCNT, Reg.PWR_DOM 1, Reg.PWR_DOM 5, Reg.PWR_DOM 7, Reg.PWR_DOM 13]) ∧
  (∀ (s : State) (n : Nat), s.stopped = false → s.fld F.BOOT_STATUS_STAGE = 0 → s.fld F.BOOT_STRAP_EFFSRC ≠ 3 → s.flag
  F.BOOT_FUSE_SHADOWOK = true → s.fld F.BOOT_FUSE_LIFECYCLE < 3 → s.fld F.BOOT_STRAP_BOOTSEL = n → (n < 2 ∨ n = 2 ∧
  s.flag F.BOOT_FUSE_HOSTBOOTDIS = false) →
    Gives .bootFuse s fun t => t.shadow = s.shadow ∧ t.fuses = s.fuses ∧ t.fld F.BOOT_STRAP_EFFSRC = n ∧
      t.fld F.BOOT_STATUS_STAGE = (if n = 2 then 7 else 1) ∧ t.domReq 7 = 2 ∧ t.domReq 13 = 2 ∧ (n = 2 →
        t.domReq 5 = 2) ∧
      t.mem = s.mem ∧ s.KeepsRegs t [Reg.BOOT_STRAP, Reg.BOOT_STATUS, Reg.FLT_BOOTCNT, Reg.PWR_DOM 1, Reg.PWR_DOM 5,
        Reg.PWR_DOM 7, Reg.PWR_DOM 13]) ∧
  (∀ (s : State), s.stopped = false → s.fld F.BOOT_STATUS_STAGE = 0 → s.fld F.BOOT_STRAP_EFFSRC ≠ 3 → s.flag
  F.BOOT_FUSE_SHADOWOK = false → s.fld F.BOOT_STRAP_BOOTSEL ≠ 3 → (s.fuses.crcOk = false ∨ s.fuses.lifecycle = 3) →
  s.flrWaits = false →
    Gives .bootFuse s fun t => t.shadow = s.fuses ∧ t.fld F.BOOT_STATUS_STAGE = 8 ∧ t.fld F.BOOT_STATUS_CODE = 1 ∧
      t.fld F.BOOT_STATUS_HOLD = 1 ∧ t.flag F.BOOT_FUSE_SHADOWOK = s.fuses.crcOk ∧ t.fuses = s.fuses) ∧
  (∀ (s : State), s.stopped = false → s.fld F.BOOT_STATUS_STAGE = 0 → s.flag F.BOOT_FUSE_SHADOWOK = true → s.fld
  F.BOOT_STRAP_EFFSRC ≠ 3 → s.fld F.BOOT_STRAP_BOOTSEL = 3 → s.fld F.BOOT_FUSE_LIFECYCLE < 2 →
    Gives .bootFuse s fun t => t.fld F.BOOT_STRAP_EFFSRC = 3 ∧ t.fld F.BOOT_STATUS_STAGE = 0 ∧ t.domReq 7 = 2 ∧
      s.KeepsRegs t [Reg.BOOT_STRAP, Reg.PWR_DOM 1, Reg.PWR_DOM 7] ∧ t.mem = s.mem) ∧
  (∀ (s : State), (s.stopped = true ∨ s.fld F.BOOT_STATUS_STAGE ≠ 0) →
    Becomes .bootFuse s s) ∧
  (∀ (s : State) (sfdp : Sfdp), s.stopped = false → s.fld F.BOOT_STATUS_STAGE = 1 → sfdpSigned sfdp = false →
    Becomes (.bootDiscover sfdp.head sfdp.dw1 sfdp.dw2 sfdp.dw3 sfdp.dw15) s ((s.flashDo [.cmd 0x66, .cmd 0x99, .cmd 0xAB, .read 0x5A 8 0]).enterHold 2)) ∧
  (∀ (s : State) (sfdp : Sfdp), s.stopped = false → s.fld F.BOOT_STATUS_STAGE = 1 → sfdpSigned sfdp = true →
  (flashDensity sfdp < 20 ∨ flashOnly4 sfdp = true) →
    Becomes (.bootDiscover sfdp.head sfdp.dw1 sfdp.dw2 sfdp.dw3 sfdp.dw15) s
      (((s.flashDo [.cmd 0x66, .cmd 0x99, .cmd 0xAB, .read 0x5A 8 0, .read 0x5A 8 (bfptAt sfdp)]).setFld
        F.BOOT_FLASH_DENSITY
        (min 255 (flashDensity sfdp))).enterHold 3)) ∧
  (∀ (s : State) (sfdp : Sfdp) (ops : List FlashOp), s.stopped = false → s.fld F.BOOT_STATUS_STAGE = 1 →
  sfdpSigned sfdp = true → 20 ≤ flashDensity sfdp → flashOnly4 sfdp = false → s.fld F.BOOT_STRAP_EFFSRC = 0 →
  flashFast114 sfdp = true → flashQuadEnable sfdp = some ops →
    Gives (.bootDiscover sfdp.head sfdp.dw1 sfdp.dw2 sfdp.dw3 sfdp.dw15) s fun t => t.fld F.BOOT_STATUS_STAGE = 2 ∧ t.fld F.BOOT_FLASH_QUAD = 1 ∧
      t.fld F.BOOT_STATUS_SINGLE = 0 ∧ t.fld F.BOOT_FLASH_DENSITY = min 255 (flashDensity sfdp) ∧
      t.boot = { s.boot with
        flash := s.boot.flash ++ [.cmd 0x66, .cmd 0x99, .cmd 0xAB, .read 0x5A 8 0, .read 0x5A 8 (bfptAt sfdp)] ++ ops
        readOp := bitsOf (bfptWord sfdp 3) 24 8, waits := bitsOf (bfptWord sfdp 3) 16 5 } ∧
      s.KeepsRegs t [Reg.BOOT_STATUS, Reg.BOOT_FLASH] ∧ t.mem = s.mem ∧ t.fuses = s.fuses) ∧
  (∀ (s : State) (sfdp : Sfdp), s.stopped = false → s.fld F.BOOT_STATUS_STAGE = 1 → sfdpSigned sfdp = true → 20 ≤
  flashDensity sfdp → flashOnly4 sfdp = false → (s.fld F.BOOT_STRAP_EFFSRC ≠ 0 ∨ flashFast114 sfdp = false ∨
  flashQuadEnable sfdp = none) →
    Gives (.bootDiscover sfdp.head sfdp.dw1 sfdp.dw2 sfdp.dw3 sfdp.dw15) s fun t => t.fld F.BOOT_STATUS_STAGE = 2 ∧ t.fld F.BOOT_FLASH_QUAD = 0 ∧
      t.fld F.BOOT_STATUS_SINGLE = 1 ∧ t.fld F.BOOT_FLASH_DENSITY = min 255 (flashDensity sfdp) ∧
      t.boot = { s.boot with
        flash := s.boot.flash ++ [.cmd 0x66, .cmd 0x99, .cmd 0xAB, .read 0x5A 8 0, .read 0x5A 8 (bfptAt sfdp)]
        readOp := 3, waits := 0 } ∧
      s.KeepsRegs t [Reg.BOOT_STATUS, Reg.BOOT_FLASH] ∧ t.mem = s.mem ∧ t.fuses = s.fuses) ∧
  (∀ (s : State) (sfdp : Sfdp), (s.stopped = true ∨ s.fld F.BOOT_STATUS_STAGE ≠ 1) →
    Becomes (.bootDiscover sfdp.head sfdp.dw1 sfdp.dw2 sfdp.dw3 sfdp.dw15) s s) ∧
  (∀ (s : State) (data h : List Byte) (n : Nat), s.stopped = false → s.fld F.BOOT_STATUS_STAGE = 2 → s.domOn 13 = true
  → h = (data ++ List.replicate 64 0xFF).take 64 → n = (if headCode h (s.flag F.BOOT_FUSE_FMT1DIS) = 0 then totLen h
  else if fmtOf h = 2 then 64 else 32) →
    Gives (.bootStage data) s fun t => t.fld F.BOOT_STATUS_STAGE = 3 ∧
      (∀ i : Nat, i < n → t.byte (rowAddr 0 (i / 384) + i % 384) = data.getD i 0xFF) ∧
      (∀ a : Nat, 0x200000 ≤ a → t.byte a = s.byte a) ∧ s.KeepsRegs t [Reg.BOOT_STATUS] ∧
      t.boot = { s.boot with
        flash := s.boot.flash ++ [.read s.boot.readOp s.boot.waits (0x80000 * s.fld F.BOOT_STATUS_COPY)] } ∧
      t.cip = s.cip ∧ t.fuses = s.fuses ∧ t.cores = s.cores) ∧
  (∀ (s : State) (data : List Byte), (s.stopped = true ∨ s.fld F.BOOT_STATUS_STAGE ≠ 2 ∨ s.domOn 13 = false) →
    Becomes (.bootStage data) s s) ∧
  (∀ (s : State), s.stopped = false → s.fld F.BOOT_STATUS_STAGE = 3 → s.domOn 7 = true → s.domOn 13 = true →
  s.headerCode ≠ 0 →
    Becomes .bootCheck s (s.checkFailed s.headerCode)) ∧
  (∀ (s : State) (key : List Byte), s.stopped = false → s.fld F.BOOT_STATUS_STAGE = 3 → s.domOn 7 = true → s.domOn 13
  = true → s.headerCode = 0 → key = parcelKey s.devkey s.parcel → s.bodyCode key s.parcel ≠ 0 →
    Becomes .bootCheck s ((s.takeBootKey key).checkFailed (s.bodyCode key s.parcel))) ∧
  (∀ (s : State) (key p : List Byte), s.stopped = false → s.fld F.BOOT_STATUS_STAGE = 3 → s.domOn 7 = true → s.domOn
  13 = true → s.headerCode = 0 → p = s.parcel → key = parcelKey s.devkey p → s.bodyCode key p = 0 →
    Gives .bootCheck s fun t => t.fld F.BOOT_STATUS_STAGE = 4 ∧ t.fld F.BOOT_FMT_FORMAT = fmtOf p % 16 ∧
      t.fld F.BOOT_FMT_ROLLLVL = numAt p 12 1 % 64 ∧
        t.fld F.BOOT_FMT_KEYGEN = (if fmtOf p = 2 then numAt p 14 1 else 0) ∧
      t.fld F.BOOT_BUILDLO_BUILD = (if fmtOf p = 2 then numAt p 16 3 else 0) ∧
      t.fld F.BOOT_BUILDHI_BUILD = (if fmtOf p = 2 then numAt p 19 1 else 0) ∧ t.cip = { s.cip with boot := key } ∧
      t.fld F.CIP_LOCK_OWNER = 8 ∧
      t.boot = { s.boot with
        apply := 0, sp0 := 0, dpd := bitOf (numAt p 13 1) 0, advroll := fmtOf p == 2 && bitOf (numAt p 13 1) 1
        level := numAt p 12 1 } ∧
      s.KeepsRegs t [Reg.BOOT_STATUS, Reg.BOOT_FMT, Reg.BOOT_BUILDLO, Reg.BOOT_BUILDHI, Reg.CIP_LOCK] ∧ t.mem = s.mem ∧
      t.tags = s.tags ∧ t.fuses = s.fuses) ∧
  (∀ (s : State), (s.stopped = true ∨ s.fld F.BOOT_STATUS_STAGE ≠ 3 ∨ s.domOn 7 = false ∨ s.domOn 13 = false) →
    Becomes .bootCheck s s) ∧
  (∀ (s : State), numAt (s.staged 64) 0 4 ≠ 0x4C435048 →
    s.headerCode = 4) ∧
  (∀ (s : State) (key p : List Byte), tagOk key p = false →
    s.bodyCode key p = 7) ∧
  (∀ (s : State) (key p : List Byte), tagOk key p = true → 0x21 < numAt p 15 1 →
    s.bodyCode key p = 8) ∧
  (∀ (s : State) (key p : List Byte), tagOk key p = true → numAt p 15 1 ≤ 0x21 → numAt p 12 1 < s.shadow.rollback →
    s.bodyCode key p = 9) ∧
  (∀ (s : State) (c : Nat), s.fld F.BOOT_STRAP_EFFSRC ≠ 2 → s.fld F.BOOT_STATUS_COPY = 0 →
    s.checkFailed c = ((s.setFld F.BOOT_STATUS_FALLBACK 1).setFld F.BOOT_STATUS_COPY 1).setFld F.BOOT_STATUS_STAGE 2) ∧
  (∀ (s : State) (c : Nat), (s.fld F.BOOT_STRAP_EFFSRC = 2 ∨ s.fld F.BOOT_STATUS_COPY = 1) →
    s.checkFailed c = s.enterHold c) ∧
  (∀ (s : State) (c : Nat), c < 256 → s.flrWaits = false →
    (s.enterHold c).fld F.BOOT_STATUS_CODE = c ∧ (s.enterHold c).fld F.BOOT_STATUS_STAGE = 8 ∧
    (s.enterHold c).fld F.BOOT_STATUS_HOLD = 1 ∧ (s.enterHold c).cip.boot = [] ∧ (s.enterHold c).fuses = s.fuses ∧
    (s.enterHold c).boot = { s.boot with flash := s.boot.flash ++ [.csHigh, .floating], floating := true } ∧
    (s.domOn 13 = true → ∀ a : Nat, a < 0x200000 → (s.enterHold c).byte a = 0) ∧
    (c ≠ 1 → s.flag F.BOOT_FUSE_HOSTBOOTDIS = false → (s.enterHold c).domReq 5 = 2)) ∧
  (∀ (s : State) (x : Sect) (l : List Sect), s.stopped = false → s.fld F.BOOT_STATUS_STAGE = 4 → s.boot.apply = 0 →
  sectsOfType s.parcel 2 = x :: l →
    Becomes .bootApply s { s.writeCoresel 0 with boot := { s.boot with apply := 1 } }) ∧
  (∀ (s : State), s.stopped = false → s.fld F.BOOT_STATUS_STAGE = 4 → s.boot.apply = 0 → sectsOfType s.parcel 2 = [] →
    Becomes .bootApply s { s with boot := { s.boot with apply := 3 } }) ∧
  (∀ (s : State) (x : Sect) (l : List Sect) (b : List Byte), s.stopped = false → s.fld F.BOOT_STATUS_STAGE = 4 →
  s.boot.apply = 1 → sectsOfType s.parcel 2 = x :: l → b = x.payload s.parcel → s.fld F.CLK_CORESEL_BUSY = 0 →
    Becomes .bootApply s
      { s.writePlla (numAt b 0 1 + 2 ^ 8 * numAt b 1 1 + 2 ^ 12) with boot := { s.boot with apply := 2 } }) ∧
  (∀ (s : State) (x : Sect) (l : List Sect) (b : List Byte), s.stopped = false → s.fld F.BOOT_STATUS_STAGE = 4 →
  s.boot.apply = 2 → sectsOfType s.parcel 2 = x :: l → b = x.payload s.parcel → s.fld F.CLK_PLLA_LOCK = 1 →
    Becomes .bootApply s { s.writeCoresel (numAt b 2 1) with boot := { s.boot with apply := 3 } }) ∧
  (∀ (s : State) (x : Sect) (l : List Sect), s.stopped = false → s.fld F.BOOT_STATUS_STAGE = 4 → sectsOfType s.parcel
  2 = x :: l → (s.boot.apply = 1 ∧ s.fld F.CLK_CORESEL_BUSY = 1 ∨ s.boot.apply = 2 ∧ s.fld F.CLK_PLLA_LOCK = 0) →
    Becomes .bootApply s s) ∧
  (∀ (s : State), s.stopped = false → s.fld F.BOOT_STATUS_STAGE = 4 → s.boot.apply = 3 → (s.fld F.CLK_CORESEL_BUSY = 1
  ∨ s.domOn 7 = false) →
    Becomes .bootApply s s) ∧
  (∀ (s : State) (x : Sect) (l : List Sect) (b : List Byte), s.stopped = false → s.fld F.BOOT_STATUS_STAGE = 4 →
  s.boot.apply = 3 → s.fld F.CLK_CORESEL_BUSY = 0 → s.domOn 7 = true → sectsOfType s.parcel 4 = [] → sectsOfType
  s.parcel 1 = x :: l → b = x.payload s.parcel → s.fld F.SEAL_CTRL_LOCK = 0 →
    Gives .bootApply s fun t => t.boot.apply = 4 ∧ t.fld F.BOOT_STATUS_STAGE = 4 ∧ t.fld F.SNS_CLASS_LOCKED = 1 ∧
      t.fld F.SEAL_CTRL_LOCK = 1 ∧ t.fld F.SEAL_VLIMIT_LIMIT = numAt b 0 2 ∧
      (∀ n : Nat, n < 8 → t.fld (F.SEAL_ADV_ZONE n) = bitsOf (numAt b (2 + n) 1) 0 6 ∧
        t.fld (F.SEAL_ADV_EN n) = bitsOf (numAt b (2 + n) 1) 7 1) ∧
      (∀ z : Nat, z < 64 → (t.zone z).budget = (zoneTerms b z).1 ∧ (t.zone z).miniv = (zoneTerms b z).2 ∧
        (t.zone z).b0 = (zoneTerms b z).1 ∧ (t.zone z).b1 = 0 ∧ (t.zone z).b2 = 0 ∧ (t.zone z).b3 = 0 ∧
          (t.zone z).b4 = 0) ∧
      (∀ d : Nat, d ∈ namedDoms s.parcel → t.domReq d = 2) ∧ t.fuses = s.fuses) ∧
  (∀ (s : State) (y : Sect) (k : List Byte), s.stopped = false → s.fld F.BOOT_STATUS_STAGE = 4 → s.boot.apply = 3 →
  s.fld F.CLK_CORESEL_BUSY = 0 → s.domOn 7 = true → sectsOfType s.parcel 4 = [] → y ∈ sectsOfType s.parcel 8 → 0 ∉
  keySlots s.parcel → (keySlots s.parcel).Nodup → keyUnwrap (wrapKey s.devkey) ((y.payload s.parcel).drop 4) = some k →
    Gives .bootApply s fun t => t.cipKey (numAt (y.payload s.parcel) 0 1) =
      { valid := true, size := b2n (numAt (y.payload s.parcel) 1 1 == 32), use := 0x7F, key := k }) ∧
  (∀ (s : State) (p : List Byte) (x : Sect) (l : List Sect), s.flag F.SEAL_CTRL_LOCK = true → sectsOfType p 1 = x :: l
  → s.meterSame (x.payload p) = true →
    s.applySeal p = s) ∧
  (∀ (s : State) (p : List Byte) (x : Sect) (l : List Sect), s.flag F.SEAL_CTRL_LOCK = true → sectsOfType p 1 = x :: l
  → s.meterSame (x.payload p) = false →
    s.applySeal p = s.setFld F.BOOT_STATUS_SEALDIFF 1) ∧
  (∀ (s : State), s.stopped = false → s.fld F.BOOT_STATUS_STAGE = 4 → s.boot.apply = 4 → (namedDoms s.parcel).all
  s.domOn = false →
    Becomes .bootApply s s) ∧
  (∀ (s : State) (x : Sect), s.stopped = false → s.fld F.BOOT_STATUS_STAGE = 4 → s.boot.apply = 4 → (namedDoms
  s.parcel).all s.domOn = true → sectsOfType s.parcel 7 = [x] →
    Gives .bootApply s fun t => t.fld F.BOOT_STATUS_STAGE = 5 ∧ t.boot = { s.boot with apply := 0 } ∧ t.cip.boot = [] ∧
      (∀ k : Nat, k < 5 → (t.core k).start =
        if bitOf x.arg k then some (BitVec.ofNat 16 (numAt (x.payload s.parcel) (3 * k) 3)) else none) ∧
      t.fuses = s.fuses ∧ t.zones = s.zones) ∧
  (∀ (s : State) (x : Sect), s.stopped = false → s.fld F.BOOT_STATUS_STAGE = 4 → s.boot.apply = 4 → (namedDoms
  s.parcel).all s.domOn = true → sectsOfType s.parcel 5 ++ sectsOfType s.parcel 6 = [x] → x.tooLong = false → x.arg %
  8 < 5 → x.off + x.len ≤ s.parcel.length →
    Gives .bootApply s fun t => ∀ i j : Nat, i < x.len / 3 → j < 3 →
      t.byte (loadAddr (x.arg % 8) (x.type == 5) (x.arg / 256 + i) + j) = s.parcel.getD (x.off + 3 * i + j) 0) ∧
  (∀ (s : State), (s.stopped = true ∨ s.fld F.BOOT_STATUS_STAGE ≠ 4) →
    Becomes .bootApply s s) ∧
  (∀ (s : State), s.stopped = false → s.fld F.BOOT_STATUS_STAGE = 5 → s.boot.apply = 0 →
    Gives .bootRelease s fun t => t.fld F.BOOT_FLASH_RELEASED = 1 ∧
      t.fld F.BOOT_FLASH_DPD = (if s.boot.dpd then 1 else s.fld F.BOOT_FLASH_DPD) ∧
      t.boot = { s.boot with
        flash := s.boot.flash ++ (if s.boot.dpd then [.cmd 0xB9] else []) ++ [.csHigh, .floating], floating := true,
          apply := 1 } ∧
      s.KeepsRegs t [Reg.BOOT_FLASH] ∧ t.mem = s.mem ∧ t.fuses = s.fuses) ∧
  (∀ (s : State), s.stopped = false → s.fld F.BOOT_STATUS_STAGE = 5 → s.boot.apply = 1 → s.boot.advroll = true →
  s.fuses.rollback < s.boot.level → s.fuses.rollback < 32 →
    Gives .bootRelease s fun t => t.fuses = { s.fuses with rollback := s.fuses.rollback + 1 } ∧
      t.shadow = { s.shadow with rollback := s.fuses.rollback + 1 } ∧
      t.fld F.BOOT_ROLLBACK_LEVEL = s.fuses.rollback + 1 ∧ s.KeepsRegs t [Reg.BOOT_ROLLBACK] ∧ t.boot = s.boot ∧
        t.mem = s.mem) ∧
  (∀ (s : State), s.stopped = false → s.fld F.BOOT_STATUS_STAGE = 5 → s.boot.apply = 1 → (s.boot.advroll = false ∨
  s.boot.level ≤ s.fuses.rollback) → s.boot.sp0 % 4 ≠ 3 → s.fld F.BOOT_STATUS_DONE = 0 →
    Gives .bootRelease s fun t => t.boot = { s.boot with apply := 2 } ∧ t.domReq 13 = s.boot.sp0 % 4 ∧
      (s.domOn 13 = true → ∀ a : Nat, a < 0x200000 → t.byte a = 0) ∧ (∀ a : Nat, 0x200000 ≤ a → t.byte a = s.byte a) ∧
      s.KeepsRegs t [Reg.PWR_DOM 13, Reg.SPD_CLRCNT 0, Reg.SEAL_RINGWP 0, Reg.SEAL_RINGRP 0] ∧ t.fuses = s.fuses) ∧
  (∀ (s : State), (s.stopped = true ∨ s.fld F.BOOT_STATUS_STAGE ≠ 5) →
    Becomes .bootRelease s s ∧ Becomes .bootDone s s) ∧
  (∀ (s : State), s.stopped = false → s.fld F.BOOT_STATUS_STAGE = 5 → s.boot.apply = 2 → s.flrWaits = false →
    Gives .bootDone s fun t => t.fld F.BOOT_STATUS_DONE = 1 ∧ t.fld F.BOOT_STATUS_CODE = 0 ∧
      t.fld F.BOOT_STATUS_STAGE = 6 ∧
      (∀ k : Nat, k < 5 → t.core k = match (s.core k).start with
        | some pc => { s.core k with pc := pc, run := .run, tvalid := false }
        | none => s.core k) ∧
      (s.fld F.PWR_CTRL_MODE = 0 → outsideBreeze s.lit = true → t.fld F.PWR_CTRL_MODE = 1 ∧
        t.fld F.BOOT_STATUS_FORCEGALE = 1) ∧
      ((s.fld F.PWR_CTRL_MODE = 1 ∨ outsideBreeze s.lit = false) → t.fld F.PWR_CTRL_MODE = s.fld F.PWR_CTRL_MODE ∧
        t.fld F.BOOT_STATUS_FORCEGALE = s.fld F.BOOT_STATUS_FORCEGALE) ∧
      s.KeepsRegs t [Reg.BOOT_STATUS, Reg.BOOT_TIME, Reg.PWR_CTRL] ∧ t.mem = s.mem ∧ t.boot = s.boot) ∧
  (∀ (s : State), s.stopped = false → s.fld F.BOOT_STATUS_STAGE = 5 → s.boot.apply ≠ 2 →
    Becomes .bootDone s s) ∧
  (∀ (s : State) (spi : Bool), (if spi then s.spiOpen else s.barOpen) = true → s.fld F.BOOT_STATUS_STAGE = 7 →
  s.Takes (hostIni spi) Reg.BOOT_CMD →
    Gives (.bootGo spi) s fun t => t.fld F.BOOT_STATUS_STAGE = 3 ∧ t.fld F.BOOT_CMD_GO = 0 ∧
      t.boot = { s.boot with frozen := true } ∧ s.KeepsRegs t [Reg.BOOT_STATUS, Reg.BOOT_CMD] ∧ t.mem = s.mem) ∧
  (∀ (s : State) (spi : Bool), (if spi then s.spiOpen else s.barOpen) = true → s.fld F.BOOT_STATUS_STAGE = 8 →
  s.recoveryAllowed = true → s.Takes (hostIni spi) Reg.BOOT_CMD →
    Gives (.bootRetry spi) s fun t => t.fld F.BOOT_STATUS_STAGE = 7 ∧ t.fld F.BOOT_STATUS_HOLD = 0 ∧
      t.fld F.BOOT_STRAP_EFFSRC = 2 ∧ t.fld F.BOOT_HOSTLEN_LEN = 0 ∧ t.fld F.BOOT_CMD_RETRY = 0 ∧
      t.boot = { s.boot with frozen := false } ∧ (∀ a : Nat, a < 0x200000 → t.byte a = 0) ∧
      (∀ a : Nat, 0x200000 ≤ a → t.byte a = s.byte a) ∧ t.fuses = s.fuses) ∧
  (∀ (s : State) (spi : Bool), (if spi then s.spiOpen else s.barOpen) = true → s.stopped = false → s.fld
  F.BOOT_STATUS_STAGE = 8 → s.recoveryAllowed = false → s.boot.frozen = false →
    Becomes (.bootRetry spi) s (s.addrErr (hostIni spi) Reg.BOOT_CMD true)) ∧
  (∀ (s : State) (spi : Bool), (if spi then s.spiOpen else s.barOpen) = false →
    Becomes (.bootGo spi) s s ∧ Becomes (.bootRetry spi) s s)

/-- A write of a whole register that reaches it applies each field's access code: RW takes the written bits, RO and RC
keep, W1C clears and W1S sets the bits written 1, reserved bits keep. A write of fewer than 4 bytes changes nothing. A
core in sealed state writes nothing outside its own data memory, its
scratchpads and its issue ports: the write is discarded and counted as a violation, one of PST_CMD or of a GPIO output
as an egress refusal too. A write or read that may not reach
the address is recorded in CLK_ADDRERR, or MULTI when one is held, and one that reaches a domain not ON is also DARK;
a refused read returns zero. A read returns the addressed bytes of the register, WO fields and reserved bits as zero;
the RC fields of which it returned bits are then zero, and nothing else changes. A read over a host port that does not
answer changes nothing. -/
def Obligations.RegisterWrites : Prop :=
  (∀ (s : State) (ini : Initiator) (a v : Nat) (r : RegRow), a ∈ [Reg.CLK_MEMPAGE, Reg.PST_PGSEL, Reg.LNK_NSEL,
  Reg.HST_IRQEN, Reg.HST_IRQSTAT, Reg.SEAL_STATUS, Reg.RTC_STATUS] → regRow a = some r → s.Takes ini a →
    Becomes (.registerWrite ini a 4 v) s (s.setReg a (BitVec.ofNat 24 (rowWrite r.flds (s.reg a).toNat (v % 2 ^
      24))))) ∧
  (∀ (s : State) (ini : Initiator) (a n v : Nat), a ∈ [Reg.CLK_MEMPAGE, Reg.PST_PGSEL, Reg.LNK_NSEL, Reg.HST_IRQEN,
  Reg.HST_IRQSTAT, Reg.SEAL_STATUS, Reg.RTC_STATUS] → n < 4 → s.Takes ini a →
    Becomes (.registerWrite ini a n v) s s) ∧
  (∀ (s : State) (ini : Initiator) (a n v k : Nat), s.stopped = false → s.sealedIni ini = true → coreOf ini = some k →
  scratchOf a = none → sealedMay k a = false → sealedEgress a = none →
    Becomes (.registerWrite ini a n v) s (s.violate.setFld F.SEAL_STATUS_SSWRITE 1)) ∧
  (∀ (s : State) (ini : Initiator) (a n v k : Nat) (f : Fld), s.stopped = false → s.sealedIni ini = true → coreOf ini =
  some k → scratchOf a = none → sealedMay k a = false → (a = Reg.PST_CMD ∧ f = F.SEAL_EGRCNT2_PST ∨ a ∈
  [Reg.SNS_GPIOOE0, Reg.SNS_GPIOOUT0, Reg.SNS_GPIOSET, Reg.SNS_GPIOCLR] ∧ f = F.SEAL_EGRCNT2_GPIO) →
    Becomes (.registerWrite ini a n v) s
      (((s.violate.setFld F.SEAL_STATUS_SSWRITE 1).setFld F.SEAL_STATUS_EGRESS 1).incFld f 1)) ∧
  (∀ (s : State) (ini : Initiator) (a n v : Nat), s.stopped = false → s.sealedIni ini = false → s.verdict ini a true =
  .discarded →
    Becomes (.registerWrite ini a n v) s s) ∧
  (∀ (s : State) (ini : Initiator) (a n v : Nat), s.stopped = false → s.sealedIni ini = false → scratchOf a = none →
  s.verdict ini a true = .refused →
    Becomes (.registerWrite ini a n v) s (s.addrErr ini a true)) ∧
  (∀ (s : State) (ini : Initiator) (a n v : Nat), s.stopped = false → s.sealedIni ini = false → scratchOf a = none →
  s.verdict ini a true = .dark →
    Becomes (.registerWrite ini a n v) s ((s.addrErr ini a true).setFld F.PWR_STATUS_DARK 1)) ∧
  (∀ (s : State) (ini : Initiator) (a n : Nat), s.stopped = false → scratchOf a = none → s.verdict ini a false =
  .refused → n ≤ 4 →
    Becomes (.rcFieldRead ini a n) s { s.addrErr ini a false with readData := List.replicate n 0 }) ∧
  (∀ (s : State) (ini : Initiator) (a n : Nat) (wr : Bool), initNum ini = some n → s.fld F.CLK_ADDRERR1_VALID = 0 → n
  < 16 → a < 2 ^ 32 →
    (s.addrErr ini a wr).fld F.CLK_ADDRERR0_ADDR = a % 2 ^ 24 ∧
      (s.addrErr ini a wr).fld F.CLK_ADDRERR1_ADDRHI = a / 2 ^ 24 ∧
    (s.addrErr ini a wr).fld F.CLK_ADDRERR1_WR = b2n wr ∧ (s.addrErr ini a wr).fld F.CLK_ADDRERR1_VALID = 1 ∧
    (s.addrErr ini a wr).fld F.CLK_ADDRERR1_INIT = n ∧
      s.OnlyRegs (s.addrErr ini a wr) [Reg.CLK_ADDRERR0, Reg.CLK_ADDRERR1]) ∧
  (∀ (s : State) (ini : Initiator) (a : Nat) (wr : Bool), s.fld F.CLK_ADDRERR1_VALID = 1 →
    s.addrErr ini a wr = s.setFld F.CLK_ADDRERR1_MULTI 1) ∧
  (∀ (w v lo n : Nat) (f : FldRow), f = ⟨lo, n, f.acc, f.rst⟩ → lo + n ≤ 24 → w < 2 ^ 24 →
    ((f.acc = .rw ∨ f.acc = .wo) → bitsOf (fldWrite w v f) lo n = bitsOf v lo n) ∧
    ((f.acc = .ro ∨ f.acc = .rc) → fldWrite w v f = w) ∧
    (f.acc = .w1c → ∀ i : Nat, i < n → bitOf (fldWrite w v f) (lo + i) = (bitOf w (lo + i) && !bitOf v (lo + i))) ∧
    (f.acc = .w1s → ∀ i : Nat, i < n → bitOf (fldWrite w v f) (lo + i) = (bitOf w (lo + i) || bitOf v (lo + i))) ∧
    (∀ i : Nat, i < 24 → (i < lo ∨ lo + n ≤ i) → bitOf (fldWrite w v f) i = bitOf w i)) ∧
  (∀ (s : State) (ini : Initiator) (a : Nat), a ∈ [Reg.SEAL_EGRCNT, Reg.SEAL_EGRCNT2, Reg.DFA_STALLCNT 0,
  Reg.DFA_SATCNT 1] → s.stopped = false → s.portOpen ini = true → s.verdict ini a false = .pass →
    Becomes (.rcFieldRead ini a 4) s { s.setReg a 0 with readData := toBytes 4 (s.reg a).toNat }) ∧
  (∀ (s : State) (ini : Initiator) (a lo n : Nat) (r : RegRow), regRow a = some r → a % 4 = 0 → 0 < n → lo + n ≤ 4 →
  scratchOf (a + lo) = none → scratchOf a = none → localOf a = none → isRing a = false → isSched a = false → s.doorShut
  a = false → (a < 0x04000000 ∨ 0x04020000 ≤ a) → a ≠ Reg.DBG_CDATA → s.stopped = false → s.portOpen ini = true →
  s.verdict ini (a + lo) false = .pass → s.secretReg a = false → s.openField a = none →
    Gives (.rcFieldRead ini (a + lo) n) s fun t =>
      t.readData = ((toBytes 4 (s.viewWord ini a)).drop lo).take n ∧
      (rowHasRc r.flds = true → t = { s.setReg a (BitVec.ofNat 24 (rowAfterRead lo n r.flds (s.reg a).toNat)) with
        readData := t.readData }) ∧
      (rowHasRc r.flds = false → t = { s with readData := t.readData })) ∧
  (∀ (s : State) (ini : Initiator) (a : Nat) (r : RegRow), regRow a = some r → (a < 0x05070000 ∨ 0x05080000 ≤ a) →
    s.shown
  ini a = [] → s.openField a = none →
    s.viewWord ini a = rowRead r.flds (s.reg a).toNat) ∧
  (∀ (f : FldRow) (fs : List FldRow) (w : Nat),
    rowRead [] w = 0 ∧ rowRead (f :: fs) w = (if f.acc = .wo then 0 else bitsOf w f.lo f.w * 2 ^ f.lo) + rowRead fs w) ∧
  (∀ (f : FldRow) (w lo n : Nat), w < 2 ^ 24 → f.lo + f.w ≤ 24 →
    (f.acc = .rc → f.lo < 8 * (lo + n) → 8 * lo < f.lo + f.w → bitsOf (rowAfterRead lo n [f] w) f.lo f.w = 0 ∧
      ∀ i : Nat, i < 24 → (i < f.lo ∨ f.lo + f.w ≤ i) → bitOf (rowAfterRead lo n [f] w) i = bitOf w i) ∧
    ((f.acc ≠ .rc ∨ 8 * (lo + n) ≤ f.lo ∨ f.lo + f.w ≤ 8 * lo) → rowAfterRead lo n [f] w = w)) ∧
  (∀ (s : State) (ini : Initiator) (a n : Nat), s.stopped = false → scratchOf a = none → s.portOpen ini = false →
    Becomes (.rcFieldRead ini a n) s s)

/-- A partial write of bytes that lie in one row of a scratchpad leaves each written byte at its address and every
other byte as it was; the row's tag takes the OR with the tag written, its fresh mark goes, and every other tag and
every register stays. -/
def Obligations.ScratchpadBytes : Prop :=
  (∀ (s : State) (a : Nat) (t : Bool) (bs : List Byte), bs ≠ [] → a % 0x200 + bs.length ≤ 384 → a < 0x800000 →
    let r := s.spWrite a t bs
    (∀ i : Nat, i < bs.length → r.byte (a + i) = bs.getD i 0) ∧ (∀ b : Nat, (b < a ∨ a + bs.length ≤ b) →
      r.byte b = s.byte b) ∧
    r.tag (rowAt a).1 (rowAt a).2 = (s.tag (rowAt a).1 (rowAt a).2 || t) ∧ r.mark (rowAt a).1 (rowAt a).2 = false ∧
    (∀ k : Nat, k ≠ rowKey (rowAt a).1 (rowAt a).2 →
      tabGet (fun _ => false) r.tags k = tabGet (fun _ => false) s.tags k) ∧
    r.regs = s.regs) ∧
  (∀ (s : State) (a : Nat) (t : Bool) (b : Byte), 384 ≤ a % 0x200 →
    s.spWrite a t [b] = s)

/-- While the endpoint answers, a write at a BAR2 offset of an ON scratchpad is a partial write of open bytes there, a
read returns them with zeros for sealed rows; a write at a BAR0 offset is a write at the device address it maps to,
and an unlisted offset is recorded and reads zero. The MSI-X table takes aligned doublewords. Otherwise nothing
happens. The link comes up at the lesser of both speeds, where its reference clock runs, and goes down; a retrain trains
it again; clearing a vector's mask sends its pending message, or before DONE is recorded; configuration requests set
D3hot, the MSI-X masks, the payload sizes and the BARs, and configuration reads show the identity, the class, the header
type and the BARs. A transaction shows its mode. A WRITE stores
its whole units in order, under v2 only with a good HCRC, all its bytes and a good DCRC, answering 0xA0, 0xE1 or 0xE2;
a READ returns the token 0xA5, its units and under v2 their DCRC; a REPLAY of the same length returns the last READ's
data again; STATUS returns the status register. Bad checks and commands unknown to the protocol are counted and change
nothing else. ENTER_V2 with its key and EXIT_V2 change the protocol. With HST not ON nothing happens. -/
def Obligations.HostPorts : Prop :=
  (∀ (s : State) (off : BitVec 24) (n : Fin 5) (v : BitVec 32), s.barOpen = true → s.fld F.BOOT_STATUS_STAGE = 6 → n ≠
  0 → off.toNat < 0x800000 → off.toNat % 0x200000 + n ≤ 0x200000 → s.spOn (off.toNat / 0x200000) = true → s.clearing
  (off.toNat / 0x200000) = false → s.inClReset (off.toNat / 0x200000) = false →
    Becomes (.hostBarAccess true off n (some v)) s (s.spWrite off.toNat false (toBytes n v.toNat))) ∧
  (∀ (s : State) (off : BitVec 24) (n : Fin 5), s.barOpen = true → s.fld F.BOOT_STATUS_STAGE = 6 → n ≠ 0 → off.toNat <
  0x800000 → off.toNat % 0x200000 + n ≤ 0x200000 → s.spOn (off.toNat / 0x200000) = true → s.spSealed off.toNat n =
  false → s.clearing (off.toNat / 0x200000) = false → s.inClReset (off.toNat / 0x200000) = false →
    Becomes (.hostBarAccess true off n none) s { s with readData := s.spBytes off.toNat n }) ∧
  (∀ (s : State) (off : BitVec 24) (n : Fin 5), s.barOpen = true → s.fld F.BOOT_STATUS_STAGE = 6 → n ≠ 0 → off.toNat %
  4 + n ≤ 4 → off.toNat < 0x800000 → s.spOn (off.toNat / 0x200000) = true → s.spSealed off.toNat n = true → s.clearing
  (off.toNat / 0x200000) = false → s.inClReset (off.toNat / 0x200000) = false →
    Becomes (.hostBarAccess true off n none) s
      { s.refuseEgress F.SEAL_EGRCNT_HOST with readData := List.replicate n 0 }) ∧
  (∀ (s : State) (off : BitVec 24) (n : Fin 5) (v : BitVec 32) (a : Nat), s.barOpen = true → s.fld F.BOOT_STATUS_STAGE
  = 6 → isMsix off.toNat = false → bar0 off.toNat = some a →
    Becomes (.hostBarAccess false off n (some v)) s (s.busWrite .pcie false a (toBytes n v.toNat))) ∧
  (∀ (s : State) (off : BitVec 24) (n : Fin 5) (a : Nat), s.barOpen = true → s.fld F.BOOT_STATUS_STAGE = 6 → isMsix
  off.toNat = false → bar0 off.toNat = some a →
    let q := s.busRead .pcie a n
    Becomes (.hostBarAccess false off n none) s { q.1 with readData := q.2 }) ∧
  (∀ (o : Nat),
    (o < 0x200000 → bar0 o = some (0x01000000 + o)) ∧ (0x200000 ≤ o → o < 0x340000 → bar0 o = some (0x02E00000 + o)) ∧
    (0x400000 ≤ o → o < 0x500000 → bar0 o = some (0x04C00000 + o)) ∧ (0x500000 ≤ o → o < 0x520000 →
      bar0 o = some (0x03B00000 + o)) ∧
    (0x600000 ≤ o → o < 0xA10000 → bar0 o = some (0x05A00000 + o)) ∧ (0xC00000 ≤ o → o < 0xC40000 →
      bar0 o = some (0x07400000 + o)) ∧
    (0x340000 ≤ o → o < 0x400000 → bar0 o = none) ∧ (0xC40000 ≤ o → bar0 o = none)) ∧
  (∀ (s : State) (off : BitVec 24) (n : Fin 5) (v : BitVec 32), s.barOpen = true → isMsix off.toNat = false → bar0
  off.toNat = none →
    Becomes (.hostBarAccess false off n (some v)) s (s.drawn.addrErr .pcie (s.open_ (2 ^ 32)) true)) ∧
  (∀ (s : State) (off : BitVec 24) (n : Fin 5), s.barOpen = true → isMsix off.toNat = false → bar0 off.toNat = none →
    Becomes (.hostBarAccess false off n none) s
      { (s.drawn.addrErr .pcie (s.open_ (2 ^ 32)) false) with readData := List.replicate n 0 }) ∧
  (∀ (s : State) (b : Bool) (off : BitVec 24) (n : Fin 5) (v : Option (BitVec 32)), (s.stopped = true ∨ s.domOn 5 =
  false ∨ s.fld F.CLK_STATUS_PCIEREF = 0 ∨ s.fld F.HST_LINK_UP = 0 ∨ s.fld F.HST_LINK_D3 = 1) →
    Becomes (.hostBarAccess b off n v) s s) ∧
  (∀ (s : State) (i : Fin 64) (v : BitVec 32), s.barOpen = true → s.fld F.BOOT_STATUS_STAGE = 6 →
    Becomes (.hostBarAccess false (BitVec.ofNat 24 (0xF00008 + 16 * i)) 4 (some v)) s (s.setMsix i
      { s.msixOf i with data := v.toNat })) ∧
  (∀ (s : State) (speed : Fin 4) (x2 : Bool), s.domOn 5 = true → s.fld F.CLK_STATUS_PCIEREF = 1 →
    Becomes (.pcieLinkChange true speed x2) s (((s.setFld F.HST_LINK_SPEED (min (max 1 (speed : Nat)) (max 1 (s.fld
      F.HST_LINKCFG_MAXSPD)))).setFld
      F.HST_LINK_WIDTH (if x2 = true ∧ s.fld F.HST_LINKCFG_X1ONLY = 0 then 2 else 1)).setFld F.HST_LINK_UP 1)) ∧
  (∀ (s : State) (speed : Fin 4) (x2 : Bool), s.domOn 5 = true →
    Becomes (.pcieLinkChange false speed x2) s (((s.setFld F.HST_LINK_SPEED 0).setFld F.HST_LINK_WIDTH 0).setFld
      F.HST_LINK_UP 0)) ∧
  (∀ (s : State) (ini : Initiator) (speed : Fin 4) (x2 : Bool), s.Takes ini (Reg.HST_LINKCFG) →
    Becomes (.linkRetrain ini speed x2) s (if s.fld F.HST_LINK_UP = 0 then s else s.train speed x2)) ∧
  (∀ (s : State) (speed : Fin 4) (x2 : Bool), (s.domOn 5 = false ∨ s.fld F.CLK_STATUS_PCIEREF = 0) →
    Becomes (.pcieLinkChange true speed x2) s s) ∧
  (∀ (s : State) (v : Fin 64), s.barOpen = true → s.fld F.BOOT_STATUS_STAGE = 6 →
    Becomes (.msixUnmask v) s ({ s with msix := tabSet (fun _ => {}) s.msix v { s.msixOf v with masked := false } }.flushVec v)) ∧
  (∀ (s : State) (v : Fin 64), s.barOpen = true → s.fld F.BOOT_STATUS_STAGE ≠ 6 →
    Becomes (.msixUnmask v) s (s.drawn.addrErr .pcie (s.open_ (2 ^ 32)) true)) ∧
  (∀ (s : State) (v : Nat), tabGet (fun _ => false) s.msixPend v = true → s.msixEnable = true → s.msixMaskAll = false
  → (s.msixOf v).masked = false → s.fld F.HST_LINK_UP = 1 →
    s.flushVec v = { s with msixPend := tabSet (fun _ => false) s.msixPend v false, messages := s.messages ++ [((s.msixOf v).addrLo + 2 ^ 32 * (s.msixOf v).addrHi, (s.msixOf v).data)] }) ∧
  (∀ (s : State), s.stopped = false → s.fld F.HST_LINK_UP = 1 →
    Becomes (.pcieConfigAccess (.d3hot true)) s (s.setFld F.HST_LINK_D3 1) ∧
    Becomes (.pcieConfigAccess (.d3hot false)) s (s.setFld F.HST_LINK_D3 0) ∧
    (∀ e m : Bool, Becomes (.pcieConfigAccess (.msix e m)) s { s with msixEnable := e, msixMaskAll := m }.flushVecs) ∧
    (∀ (a c : Bool) (m : Fin 3), Becomes (.pcieConfigAccess (.payload a m c)) s
      { s with pcie := { s.pcie with mps256 := a, mrrs := m, l1 := c } }) ∧
    (∀ v : BitVec 64, Becomes (.pcieConfigAccess (.bar false v)) s { s with pcie := { s.pcie with bar0 := v } } ∧
      Becomes (.pcieConfigAccess (.bar true v)) s { s with pcie := { s.pcie with bar2 := v } })) ∧
  (∀ (s : State), s.stopped = false → s.fld F.HST_LINK_UP = 1 →
    (Gives (.pcieConfigAccess (.read 0)) s fun t => t.readData.drop 2 = [0x48, 0x32] ∧
      t = { s.drawn with readData := t.readData }) ∧
    Becomes (.pcieConfigAccess (.read 2)) s { s.drawn with readData := [0x21, 0x00, 0x00, 0x12] } ∧
    (Gives (.pcieConfigAccess (.read 3)) s fun t => t.readData.getD 2 1 = 0) ∧
    Becomes (.pcieConfigAccess (.read 4)) s { s.drawn with readData := toBytes 4 (bitsOf s.pcie.bar0.toNat 24 8 * 2 ^ 24 + 4) } ∧
    Becomes (.pcieConfigAccess (.read 5)) s { s.drawn with readData := toBytes 4 (bitsOf s.pcie.bar0.toNat 32 32) } ∧
    Becomes (.pcieConfigAccess (.read 6)) s { s.drawn with readData := toBytes 4 (bitsOf s.pcie.bar2.toNat 23 9 * 2 ^ 23 + 4) } ∧
    Becomes (.pcieConfigAccess (.read 7)) s { s.drawn with readData := toBytes 4 (bitsOf s.pcie.bar2.toNat 32 32) }) ∧
  (∀ (s : State) (a : PcieConfig), (s.stopped = true ∨ s.fld F.HST_LINK_UP = 0) →
    Becomes (.pcieConfigAccess a) s s) ∧
  (∀ (s : State) (m : Bool) (len : Fin 64) (addr : BitVec 32) (h : Byte) (data : List Byte) (d : Option Byte),
  s.spiOpen = true → (s.spiBegin m).spiV2 = false → data.length = 4 * (len + 1) →
    Becomes (.spiWrite m len addr h data d) s ((s.spiBegin m).spiUnits (addr.toNat / 4 * 4) data (len + 1))) ∧
  (∀ (s : State) (m : Bool) (len : Fin 64) (addr : BitVec 32) (h : Byte) (data : List Byte) (d : Option Byte),
  s.spiOpen = true → (s.spiBegin m).spiV2 = false → data.length / 4 < (len : Nat) + 1 → data.length % 4 ≠ 0 →
    Becomes (.spiWrite m len addr h data d) s (((s.spiBegin m).spiUnits (addr.toNat / 4 * 4) data (data.length /
      4)).spiError F.HST_SPIERR_FRAME)) ∧
  (∀ (s : State) (m : Bool) (len : Fin 64) (addr : BitVec 32) (h : Byte) (data : List Byte) (d : Byte), s.spiOpen =
  true → (s.spiBegin m).spiV2 = true → crc8 (spiHeader 0x02 len addr) = h.toNat → data.length = 4 * (len + 1) → crc8
  data = d.toNat →
    Becomes (.spiWrite m len addr h data (some d)) s
      { (s.spiBegin m).spiUnits (addr.toNat / 4 * 4) data (len + 1) with readData := [0xA0] }) ∧
  (∀ (s : State) (m : Bool) (len : Fin 64) (addr : BitVec 32) (h : Byte) (data : List Byte) (d : Byte), s.spiOpen =
  true → (s.spiBegin m).spiV2 = true → crc8 (spiHeader 0x02 len addr) = h.toNat → data.length = 4 * (len + 1) → crc8
  data ≠ d.toNat →
    Becomes (.spiWrite m len addr h data (some d)) s
      { (s.spiBegin m).spiError F.HST_SPIERR_DCRC with readData := [0xE2] }) ∧
  (∀ (s : State) (m : Bool) (len : Fin 64) (addr : BitVec 32) (h : Byte) (data : List Byte) (d : Option Byte),
  s.spiOpen = true → (s.spiBegin m).spiV2 = true → crc8 (spiHeader 0x02 len addr) ≠ h.toNat →
    Becomes (.spiWrite m len addr h data d) s { (s.spiBegin m).spiError F.HST_SPIERR_HCRC with readData := [0xE1] }) ∧
  (∀ (s : State) (m : Bool) (len : Fin 64) (addr : BitVec 32) (h : Byte) (data : List Byte), s.spiOpen = true →
  (s.spiBegin m).spiV2 = true → crc8 (spiHeader 0x02 len addr) = h.toNat →
    Becomes (.spiWrite m len addr h data none) s ((s.spiBegin m).spiError F.HST_SPIERR_FRAME)) ∧
  (∀ (s : State) (m : Bool) (len : Fin 64) (addr : BitVec 32) (h : Byte), s.spiOpen = true → ((s.spiBegin m).spiV2 =
  false ∨ crc8 (spiHeader 0x0B len addr) = h.toNat) →
    let q := (s.spiBegin m).spiReads (addr.toNat / 4 * 4) (len + 1)
    Becomes (.spiRead m len addr h) s { q.1 with spiLast := q.2, readData := [0xA5] ++ q.2 ++ (if q.1.spiV2 then [BitVec.ofNat 8 (crc8 q.2)] else []) }) ∧
  (∀ (s : State) (m : Bool) (len : Fin 64) (addr : BitVec 32) (h : Byte), s.spiOpen = true → (s.spiBegin m).spiV2 =
  true → crc8 (spiHeader 0x0B len addr) ≠ h.toNat →
    Becomes (.spiRead m len addr h) s { (s.spiBegin m).spiError F.HST_SPIERR_HCRC with readData := [0xE1] }) ∧
  (∀ (s : State) (m : Bool) (len : Fin 64) (addr : BitVec 32) (h : Byte), s.spiOpen = true → (s.spiBegin m).spiV2 =
  true → crc8 (spiHeader 0x0C len addr) = h.toNat → s.spiLast.length = 4 * (len + 1) →
    Becomes (.spiReplay m len addr h) s { (s.spiBegin m) with readData := [0xA5] ++ s.spiLast ++ [BitVec.ofNat 8 (crc8 s.spiLast)] }) ∧
  (∀ (s : State) (m : Bool) (len : Fin 64) (addr : BitVec 32) (h : Byte), s.spiOpen = true → (s.spiBegin m).spiV2 =
  false →
    Becomes (.spiReplay m len addr h) s ((s.spiBegin m).spiError F.HST_SPIERR_FRAME)) ∧
  (∀ (s : State) (m : Bool) (len : Fin 64) (addr : BitVec 32) (h : Byte), s.spiOpen = true → ((s.spiBegin m).spiV2 =
  false ∨ crc8 (spiHeader 0x05 len addr) = h.toNat) →
    Becomes (.spiStatus ⟨m, 0x05, len, addr, h⟩) s
      { (s.spiBegin m) with readData := toBytes 1 ((s.spiBegin m).viewWord .spi Reg.HST_SPISTAT) }) ∧
  (∀ (s : State) (m : Bool) (len : Fin 64) (addr : BitVec 32) (h : Byte), s.spiOpen = true → (s.spiBegin m).spiV2 =
  true → crc8 (spiHeader 0x05 len addr) ≠ h.toNat →
    Gives (.spiStatus ⟨m, 0x05, len, addr, h⟩) s fun t => t.readData.length = 1 ∧
      t = { ((s.spiBegin m).spiError F.HST_SPIERR_HCRC).drawn with readData := t.readData }) ∧
  (∀ (s : State) (m : Bool) (c : Byte) (len : Fin 64) (addr : BitVec 32) (h : Byte), s.spiOpen = true → c ∉ [0x02,
  0x0B, 0x0C, 0x05, 0x3C, 0x3D] →
    Becomes (.spiStatus ⟨m, c, len, addr, h⟩) s ((s.spiBegin m).spiError F.HST_SPIERR_FRAME)) ∧
  (∀ (s : State) (m : Bool) (addr : BitVec 32), s.spiOpen = true → (s.spiBegin m).spiV2 = true →
    Becomes (.enterV2 m addr) s ((s.spiBegin m).spiError F.HST_SPIERR_FRAME)) ∧
  (∀ (s : State) (m : Bool), s.spiOpen = true → (s.spiBegin m).spiV2 = false →
    Becomes (.enterV2 m 0x56320000) s ((s.spiBegin m).setFld F.HST_SPISTAT_PROTO 1)) ∧
  (∀ (s : State) (m : Bool) (addr : BitVec 32), s.spiOpen = true → (s.spiBegin m).spiV2 = false → addr ≠ 0x56320000 →
    Becomes (.enterV2 m addr) s (s.spiBegin m)) ∧
  (∀ (s : State) (m : Bool) (len : Fin 64) (addr : BitVec 32) (h : Byte), s.spiOpen = true → (s.spiBegin m).spiV2 =
  true → crc8 (spiHeader 0x3D len addr) = h.toNat →
    Becomes (.exitV2 m len addr h) s ((s.spiBegin m).setFld F.HST_SPISTAT_PROTO 0)) ∧
  (∀ (s : State) (m : Bool) (len : Fin 64) (addr : BitVec 32) (h : Byte), s.spiOpen = true → (s.spiBegin m).spiV2 =
  false →
    Becomes (.exitV2 m len addr h) s ((s.spiBegin m).spiError F.HST_SPIERR_FRAME)) ∧
  (∀ (s : State) (m : Bool), (s.stopped = true ∨ s.domOn 5 = false) →
    (∀ (c : Byte) (len : Fin 64) (addr : BitVec 32) (h : Byte), Becomes (.spiStatus ⟨m, c, len, addr, h⟩) s s) ∧
    Becomes (.enterV2 m 0x56320000) s s) ∧
  (∀ (s : State) (a : Nat) (bs : List Byte), bs.length = 4 →
    s.spiUnits a bs 1 = s.hostStore true a bs) ∧
  (∀ (s : State) (spi : Bool) (a n : Nat) (bs : List Byte), s.fld F.BOOT_STATUS_STAGE = 6 →
    s.hostStore spi a bs = s.busWrite (if spi then .spi else .pcie) false a bs ∧
      s.hostRead spi a n = s.busRead (if spi then .spi else .pcie) a n)

/-- FRANK_DEBIT of the first FRANK that runs: refused, it changes no credit, counts the refusal and gives the entry
its code; passed, it debits the zone, raises SEQ, clears the source row's fresh mark and gives the entry DONE with the
40 bytes of the output row. A write of SEAL_RINGRPc with a value that passes no more rows than the ring holds moves
RP, modulo 2 x LEN (log entry 72), another sets RPBAD. A write of SEAL_RINGCFGc sets the ring while WP = RP, else
  sets RINGBUSY. -/
def Obligations.FrankAndRingCommands : Prop :=
  (∀ (s : State) (c : Fin 4) (e : TalEntry) (n zi : Nat), s.unitsAct c = true → (s.tally c).entries.zipIdx.find? (fun
  x => wsOpc x.1.ws == 6 && x.1.phase == .running) = some (e, n) → s.frankCheck c (d1f e.ws 0 12) (d2f e.ws 0 12) (d3f
  e.ws 0 9) = .inr zi →
    let z := s.zone zi
    let bits := d3f e.ws 0 9
    let header := frankHeader zi c z.epoch bits z.seq
    let out := frankBytes header (s.unitRow c (d1f e.ws 0 12)) (d2f e.ws 0 12) bits
    let r := (s.setZone zi { zoneDebit z bits with seq := z.seq + 1 }).clearFresh c (d1f e.ws 0 12)
    Becomes (.frankDebit c) s (r.setTally c { s.tally c with
      entries := (s.tally c).entries.set n { e with phase := .back, status := 0, elems := out.map (·.toNat) } })) ∧
  (∀ (s : State) (c : Fin 4) (e : TalEntry) (n code : Nat), s.unitsAct c = true → (s.tally c).entries.zipIdx.find?
  (fun x => wsOpc x.1.ws == 6 && x.1.phase == .running) = some (e, n) → s.frankCheck c (d1f e.ws 0 12) (d2f e.ws 0 12)
  (d3f e.ws 0 9) = .inl code →
    let f := if code = 8 then F.SEAL_REFUSE_STALE else if code = 11 then F.SEAL_REFUSE_NOCREDIT else F.SEAL_REFUSE_OTHER
    Becomes (.frankDebit c) s ((s.incFld f 1).setTally c { s.tally c with
      entries := (s.tally c).entries.set n { e with phase := .back, status := code, elems := [] } })) ∧
  (∀ (s : State) (ini : Initiator) (c : Fin 4) (v : Word) (p : Nat), s.Takes ini (Reg.SEAL_RINGRP c) → bitsOf v.toNat
  0 7 = p → 0 < s.ringLen c → (p + 2 * s.ringLen c - s.fld (F.SEAL_RINGRP_RP c)) % (2 * s.ringLen c) ≤ s.ringHeld c →
    Becomes (.ringRpWrite ini c v) s (s.setFld (F.SEAL_RINGRP_RP c) (p % (2 * s.ringLen c)))) ∧
  (∀ (s : State) (ini : Initiator) (c : Fin 4) (v : Word) (p : Nat), s.Takes ini (Reg.SEAL_RINGRP c) → bitsOf v.toNat
  0 7 = p → 0 < s.ringLen c → s.ringHeld c < (p + 2 * s.ringLen c - s.fld (F.SEAL_RINGRP_RP c)) % (2 * s.ringLen c) →
    Becomes (.ringRpWrite ini c v) s (s.setFld F.SEAL_STATUS_RPBAD 1)) ∧
  (∀ (s : State) (ini : Initiator) (c : Fin 4) (v : Word) (base len : Nat), s.Takes ini (Reg.SEAL_RINGCFG c) → bitsOf
  v.toNat 0 12 = base → bitsOf v.toNat 12 7 = len → s.fld (F.SEAL_RINGWP_WP c) = s.fld (F.SEAL_RINGRP_RP c) → 1 ≤ len
  → len ≤ 64 → base + len ≤ 4096 →
    let w := s.fld (F.SEAL_RINGWP_WP c) % (2 * len)
    Becomes (.ringCfgWrite ini c v) s ((((s.setFld (F.SEAL_RINGCFG_BASE c) base).setFld (F.SEAL_RINGCFG_LEN c)
      len).setFld
      (F.SEAL_RINGWP_WP c) w).setFld (F.SEAL_RINGRP_RP c) w)) ∧
  (∀ (s : State) (ini : Initiator) (c : Fin 4) (v : Word), s.Takes ini (Reg.SEAL_RINGRP c) → s.ringLen c = 0 → bitsOf
  v.toNat 0 7 ≠ s.fld (F.SEAL_RINGRP_RP c) →
    Becomes (.ringRpWrite ini c v) s (s.setFld F.SEAL_STATUS_RPBAD 1)) ∧
  (∀ (s : State) (ini : Initiator) (c : Fin 4) (v : Word), s.Takes ini (Reg.SEAL_RINGCFG c) → s.fld (F.SEAL_RINGWP_WP c)
  = s.fld (F.SEAL_RINGRP_RP c) → bitsOf v.toNat 12 7 = 0 →
    Becomes (.ringCfgWrite ini c v) s ((((s.setFld (F.SEAL_RINGCFG_BASE c) (bitsOf v.toNat 0 12)).setFld
      (F.SEAL_RINGCFG_LEN c)
      0).setFld (F.SEAL_RINGWP_WP c) 0).setFld (F.SEAL_RINGRP_RP c) 0)) ∧
  (∀ (s : State) (ini : Initiator) (c : Fin 4) (v : Word), s.Takes ini (Reg.SEAL_RINGCFG c) → s.fld (F.SEAL_RINGWP_WP
  c) ≠ s.fld (F.SEAL_RINGRP_RP c) →
    Becomes (.ringCfgWrite ini c v) s (s.setFld F.SEAL_STATUS_RINGBUSY 1))

/-- A FRANK is refused at the first check that fails: UNLOCKED, LOCKOUT, RANGE, STALE, SEQ, RINGFULL, NOCREDIT. It
passes only when every check holds, and it then names the zone of the source row's fresh entry. A debit of no more
than the available credit lowers the available credit by exactly that many bits, and it leaves a younger bucket as it
was unless every older one is empty. -/
def Obligations.MeterChecks : Prop :=
  (∀ (s : State) (c src offset bits : Nat), s.fld F.SEAL_CTRL_LOCK = 0 →
    s.frankCheck c src offset bits = .inl 5) ∧
  (∀ (s : State) (c src offset bits : Nat), s.fld F.SEAL_CTRL_LOCK = 1 → s.fld F.SEAL_CTRL_LOCKOUT = 1 →
    s.frankCheck c src offset bits = .inl 6) ∧
  (∀ (s : State) (c src offset bits : Nat), s.fld F.SEAL_CTRL_LOCK = 1 → s.fld F.SEAL_CTRL_LOCKOUT = 0 → (bits = 0 ∨
  256 < bits ∨ 3072 < offset + bits) →
    s.frankCheck c src offset bits = .inl 7) ∧
  (∀ (s : State) (c src offset bits : Nat), s.fld F.SEAL_CTRL_LOCK = 1 → s.fld F.SEAL_CTRL_LOCKOUT = 0 → 1 ≤ bits →
  bits ≤ 256 → offset + bits ≤ 3072 → (∀ e, s.freshEntry c src = some e → e.epoch ≠ (s.zone e.zone).epoch) →
    s.frankCheck c src offset bits = .inl 8) ∧
  (∀ (s : State) (c src offset bits : Nat) (e : Fresh), s.fld F.SEAL_CTRL_LOCK = 1 → s.fld F.SEAL_CTRL_LOCKOUT = 0 → 1
  ≤ bits → bits ≤ 256 → offset + bits ≤ 3072 → s.freshEntry c src = some e → e.epoch = (s.zone e.zone).epoch →
    s.frankCheck c src offset bits =
      if 16 ≤ (s.zone e.zone).seq then .inl 9
      else if s.ringLen c = 0 ∨ s.ringHeld c = s.ringLen c then .inl 10
      else if zoneAvail (s.zone e.zone) < bits then .inl 11 else .inr e.zone) ∧
  (∀ (z : Zone) (n : Nat), n ≤ zoneAvail z →
    zoneAvail (zoneDebit z n) = zoneAvail z - n ∧
    ((zoneDebit z n).b3 < z.b3 → (zoneDebit z n).b4 = 0) ∧ ((zoneDebit z n).b2 < z.b2 → (zoneDebit z n).b3 = 0) ∧
    ((zoneDebit z n).b1 < z.b1 → (zoneDebit z n).b2 = 0) ∧ ((zoneDebit z n).b0 < z.b0 → (zoneDebit z n).b1 = 0) ∧
    (zoneDebit z n).epoch = z.epoch ∧ (zoneDebit z n).seq = z.seq ∧ (zoneDebit z n).budget = z.budget)

/-- An arrival at EVT_SEAL_ADV[n] whose binding is enabled after LOCK, at least the minimum interval after the zone's
last advance and with the crystal running, raises the zone's epoch modulo 65536, moves each bucket to the next older
one, discards B4, grants the budget to B0, sets SEQ 0 and invalidates the zone's fresh entries in every cluster; an
earlier one changes nothing but ADVEARLY. -/
def Obligations.ZoneAdvance : Prop :=
  (∀ (s : State) (n : Fin 8) (zi : Nat), s.fld (F.SEAL_ADV_EN n) = 1 → s.fld F.SEAL_CTRL_LOCK = 1 → s.fld
  (F.SEAL_ADV_ZONE n) = zi → s.fld F.CLK_STATUS_AONOK = 1 → (s.zone zi).last + (s.zone zi).miniv ≤ s.aonCycles → (∀ c
  : Nat, c < 4 → ∀ e ∈ s.freshOf c, e.row < 4096) →
    let z := s.zone zi
    let t := s.sealAdvance n
    t.zone zi = { z with epoch := (z.epoch + 1) % 65536, b4 := z.b3, b3 := z.b2, b2 := z.b1, b1 := z.b0, b0 := z.budget, seq := 0,
                         last := s.aonCycles } ∧
    (∀ j, j ≠ zi → t.zone j = s.zone j) ∧ (∀ c : Nat, c < 4 → ∀ e ∈ t.freshOf c, e.zone ≠ zi) ∧ t.regs = s.regs ∧
      t.mem = s.mem ∧ t.tags = s.tags) ∧
  (∀ (s : State) (n : Fin 8), s.fld (F.SEAL_ADV_EN n) = 1 → s.fld F.SEAL_CTRL_LOCK = 1 → (s.aonCycles < (s.zone (s.fld
  (F.SEAL_ADV_ZONE n))).last + (s.zone (s.fld (F.SEAL_ADV_ZONE n))).miniv ∨ s.fld F.CLK_STATUS_AONOK = 0) →
    s.sealAdvance n = s.setFld F.SEAL_STATUS_ADVEARLY 1)

/-- A posted write that reaches a target which takes it is written there, whole row with its tag or byte by byte with
the tag ORed in, and waits for its acknowledgement; one the target cannot take writes nothing, enters the
returned-mail log with its cause and comes back. A fourth repeat on a link drops the packet with an entry of code
0x0C. The notice counts RND_PERRc, sets the mark of the context and fires EVP_RND_LOST; the acknowledgement frees the
slot. A read brings back bytes and tag of the target, or zeros where the target cannot serve it. A write of
CLU_OWNER.CTX with a value other than the owner's sets PEND and keeps the new owner waiting; with the owner's own
value it changes nothing. Once the cluster is quiet, with every posted write answered, the mark moves to RND_LATEc,
the new owner is loaded and the clearing begins: every row reads zero with tag 0, and fresh list and ring are empty.
CLU_CLEAR clears in the same way without a change of owner. The end of the clearing ends CLEARING, and PEND where the
waiting owner is the one loaded. -/
def Obligations.RoundAndOwner : Prop :=
  (∀ (s : State) (src tgt link : Fin 4) (repeats : Fin 5) (n : Nat) (p : Packet), s.nextPacket src tgt = some n →
  s.flight[n]? = some p → p.read = false → p.wide = true → repeats = 0 → s.dropCause tgt = none →
    let r := s.writeWide (rowAt p.addr).1 (rowAt p.addr).2 p.data p.tag
    Becomes (.roundWriteArrival src tgt link repeats) s
      { r with flight := s.flight.set n { p with stage := .accepted } }) ∧
  (∀ (s : State) (src tgt link : Fin 4) (repeats : Fin 5) (n : Nat) (p : Packet), s.nextPacket src tgt = some n →
  s.flight[n]? = some p → p.read = false → p.wide = false → repeats = 0 → s.dropCause tgt = none →
    Gives (.roundWriteArrival src tgt link repeats) s fun t =>
      t = { (s.spWrite p.addr p.tag p.data) with flight := s.flight.set n { p with stage := .accepted } }) ∧
  (∀ (s : State) (src tgt link : Fin 4) (repeats : Fin 5) (n k : Nat) (p : Packet), s.nextPacket src tgt = some n →
  s.flight[n]? = some p → p.read = false → repeats = 0 → s.dropCause tgt = some k →
    Becomes (.roundWriteArrival src tgt link repeats) s
      { (s.mailEntry p k) with flight := s.flight.set n { p with stage := .returned } }) ∧
  (∀ (s : State) (src tgt link : Fin 4) (repeats : Fin 5) (n : Nat) (p : Packet), s.nextPacket src tgt = some n →
  s.flight[n]? = some p → p.read = false → p.links.contains link.val = true → repeats = 4 →
    let r := (s.incFld (rndRetryFld link) 3).fault 0x0C (36 + link) 0 true
    Becomes (.roundWriteArrival src tgt link repeats) s ({ r with flight := s.flight.eraseIdx n }.lostWrite p)) ∧
  (∀ (s : State) (src : Fin 4) (n : Nat) (p : Packet), (s.flight.findIdx? fun q => q.src == src.val && q.stage ==
  .returned) = some n → s.flight[n]? = some p →
    Becomes (.roundReturnNotice src) s
      (({ s with flight := s.flight.eraseIdx n }.lostWrite p).fire (48 + src))) ∧
  (∀ (s : State) (p : Packet),
    s.lostWrite p =
      { ((s.incFld (F.RND_PERR_COUNT p.src) 1).setFld (F.RND_PMARK_CTX p.src) p.ctx).setFld (F.RND_PMARK_PEND p.src) 1 with
        lostPosted := tabSet (fun _ => []) s.lostPosted p.src (tabGet (fun _ => []) s.lostPosted p.src ++ [p.seq]) }) ∧
  (∀ (s : State) (src : Fin 4) (n : Nat), (s.flight.findIdx? fun q => q.src == src.val && q.stage == .accepted) = some
  n →
    Becomes (.roundWriteAck src) s { s with flight := s.flight.eraseIdx n }) ∧
  (∀ (s : State) (src tgt link : Fin 4) (repeats : Fin 5) (n : Nat) (p : Packet), s.nextPacket src tgt = some n →
  s.flight[n]? = some p → p.read = true → repeats = 0 →
    let r := { s with flight := s.flight.eraseIdx n }
    let len := if p.wide then 384 else 3
    Becomes (.roundRead src tgt link repeats) s
      (if (r.dropCause tgt).isSome then (r.incFld (F.RND_RDERR_COUNT src) 1).deliverRead p (List.replicate len 0) false
       else r.deliverRead p (r.spBytes p.addr len) (r.spSealed p.addr len))) ∧
  (∀ (s : State) (ini : Initiator) (c : Fin 4), s.Takes ini (Reg.RND_RMPOP c) →
    Becomes (.rndRmpop ini c) s
      { s with mail := tabSet (fun _ => []) s.mail c ((tabGet (fun _ => []) s.mail c).drop 1) }) ∧
  (∀ (s : State) (ini : Initiator) (c : Fin 4) (v : Word) (o : Nat), s.Takes ini (Reg.CLU_OWNER c) → bitsOf v.toNat 0
  12 = o → o ≠ s.ownerCtx c →
    Becomes (.ownerWrite ini c v) s
      { s.setFld (F.CLU_OWNER_PEND c) 1 with nextCtx := tabSet (fun _ => 0) s.nextCtx c o }) ∧
  (∀ (s : State) (ini : Initiator) (c : Fin 4) (v : Word), s.Takes ini (Reg.CLU_OWNER c) → bitsOf v.toNat 0 12 =
  s.ownerCtx c →
    Becomes (.ownerWrite ini c v) s s) ∧
  (∀ (s : State) (c : Fin 4), s.fld (F.CLU_OWNER_PEND c) = 1 → s.unitsBusy c = false → s.frontUses c = false →
  s.outWrites c = 0 → s.clearing c = false →
    Becomes (.ownerChangeStart c) s (((s.moveMark c).setFld (F.CLU_OWNER_CTX c) (s.newOwner c)).beginClearing c)) ∧
  (∀ (s : State) (c : Fin 4), s.fld (F.RND_PMARK_PEND c) = 1 →
    (s.moveMark c).fld (F.RND_LATE_CTX c) = s.ownerCtx c ∧ (s.moveMark c).fld (F.RND_LATE_VALID c) = 1 ∧
    (s.moveMark c).fld (F.RND_PMARK_PEND c) = 0 ∧
    (s.fld (F.RND_LATE_VALID c) = 1 → (s.moveMark c).fld (F.RND_LATE_MULTI c) = 1) ∧
    s.KeepsRegs (s.moveMark c) [Reg.RND_LATE c, Reg.RND_PMARK c]) ∧
  (∀ (s : State) (c : Fin 4), s.fld (F.RND_PMARK_PEND c) = 0 →
    s.moveMark c = s) ∧
  (∀ (s : State) (c : Fin 4), (s.fld (F.CLU_OWNER_PEND c) = 0 ∨ s.unitsBusy c = true ∨ s.frontUses c = true ∨
  s.outWrites c ≠ 0 ∨ s.clearing c = true) →
    Becomes (.ownerChangeStart c) s s) ∧
  (∀ (s : State) (ini : Initiator) (c : Fin 4), s.Takes ini (Reg.CLU_CLEAR c) → s.clearing c = false →
    Becomes (.cluClear ini c) s ((s.setFld (F.CLU_CLEAR_REQ c) 1).beginClearing c)) ∧
  (∀ (s : State) (c : Nat), c < 4 →
    (∀ a, c * 0x200000 ≤ a → a < (c + 1) * 0x200000 → (s.beginClearing c).byte a = 0) ∧
    (∀ a, (a < c * 0x200000 ∨ (c + 1) * 0x200000 ≤ a) → (s.beginClearing c).byte a = s.byte a) ∧
    (∀ r, (s.beginClearing c).tag c r = false ∧ (s.beginClearing c).mark c r = false) ∧
      (s.beginClearing c).freshOf c = [] ∧
    (s.beginClearing c).fld (F.SEAL_RINGWP_WP c) = 0 ∧ (s.beginClearing c).fld (F.SEAL_RINGRP_RP c) = 0 ∧
    (s.beginClearing c).clearing c = true) ∧
  (∀ (s : State) (c : Fin 4), s.clearing c = true → s.flrDue = [] → s.inClReset c = false →
    let r := (s.setFld (F.CLU_OWNER_CLEARING c) 0).setFld (F.CLU_CLEAR_REQ c) 0
    Becomes (.clearingEnd c) s
      (if r.flag (F.CLU_OWNER_PEND c) && r.newOwner c == r.ownerCtx c then r.setFld (F.CLU_OWNER_PEND c) 0 else r)) ∧
  (∀ (s : State) (c : Fin 4), s.clearing c = true → s.flrDue = [] → s.inClReset c = true → s.fld (F.CLU_OWNER_PEND c)
  = 0 →
    Gives (.clearingEnd c) s fun t => t.clearing c = false ∧ t.inClReset c = false ∧
      (∀ pc, (s.core c).start = some pc → (t.core c).run = .run ∧ (t.core c).pc = pc))

/-- PGM of a range that passes its checks, with another generation than the valid one, no long operation in progress and
no issue seal, begins a program in its pre-scan, with STATUS 1 and the counts and TILE_STUCK at 0; out of range it
  ends at
once with status 7, with the generation already valid with status 2 and DUP, with issue seal with status 4 and SEALSRC;
while the same program runs it sets DUP, while another operation runs BUSY. The pre-scan waits while the scratchpad is
clearing; it ends the program with status 4 for a sealed source row and 5 for an invalid nibble in any column, no cell
changed; otherwise VALID clears and row steps begin. WIPE clears the generation and starts row steps on all 776 rows. A
row step leaves the tile as its pulses do, counts the row, and the operation goes on with the next row; after the last a
program ends with status 2, its generation valid. A row step whose source row has become sealed or invalid ends the
program without a pulse, status 4 or 5. ABORT ends the operation with status 3 at once between steps, and after the row
step that runs. -/
def Obligations.TileCommands : Prop :=
  (∀ (s : State) (ini : Initiator) (t : Fin 32), s.Takes ini (Reg.TILE_CMD t) → (s.tile t).long = none → 1 ≤ s.fld
  (F.TILE_PGMROWS_COUNT t) → s.fld (F.TILE_PGMROWS_FIRST t) + s.fld (F.TILE_PGMROWS_COUNT t) ≤ 768 → s.fld
  (F.TILE_PGMCFG_GRPMASK t) ≠ 0 → s.fld (F.TILE_PGMSRC_SRCROW t) + srcRows (s.fld (F.TILE_PGMROWS_COUNT t)) ≤ 4096 →
  ((s.tile t).genValid = false ∨ s.fld (F.TILE_PGMGEN_GEN t) ≠ (s.tile t).gen) →
    let l : LongOp :=
      { kind := .program, src := s.fld (F.TILE_PGMSRC_SRCROW t), first := s.fld (F.TILE_PGMROWS_FIRST t),
        count := s.fld (F.TILE_PGMROWS_COUNT t), mask := s.fld (F.TILE_PGMCFG_GRPMASK t),
        stuckok := s.fld (F.TILE_PGMCFG_STUCKOK t), gen := s.fld (F.TILE_PGMGEN_GEN t), baro := false,
          phase := .prescan,
        idx := 0, baroNext := false, allow := 0, nospare := none, abort := false }
    Becomes (.tileProgram ini t) s (s.beginLong t l)) ∧
  (∀ (s : State) (t : Nat) (l : LongOp), t < 32 →
    let u := s.beginLong t l
    u.fld (F.TILE_LSTAT_STATUS t) = 1 ∧ u.fld (F.TILE_LSTAT_ROWSDONE t) = 0 ∧ u.fld (F.TILE_LSTAT_SPARENEW t) = 0 ∧
    u.fld (F.TILE_LSTAT_DUP t) = 0 ∧ u.fld (F.TILE_STUCK_COUNT t) = 0 ∧
    s.KeepsRegs u [Reg.TILE_LSTAT t, Reg.TILE_STUCK t] ∧ u.tile t = { s.tile t with long := some l } ∧
    (∀ j, j ≠ t → u.tile j = s.tile j) ∧ u.mem = s.mem ∧ u.tags = s.tags ∧ u.pulses = s.pulses) ∧
  (∀ (s : State) (ini : Initiator) (t : Fin 32), s.Takes ini (Reg.TILE_CMD t) → (s.tile t).long = none → (s.tile
  t).front = none → (768 < s.fld (F.TILE_PGMROWS_FIRST t) + s.fld (F.TILE_PGMROWS_COUNT t) ∨ s.fld (F.TILE_PGMROWS_COUNT
  t) = 0 ∨ s.fld (F.TILE_PGMCFG_GRPMASK t) = 0 ∨ 4096 < s.fld (F.TILE_PGMSRC_SRCROW t) + srcRows (s.fld
  (F.TILE_PGMROWS_COUNT t))) →
    Gives (.tileProgram ini t) s fun u => u.fld (F.TILE_LSTAT_STATUS t) = 7 ∧ u.fld (F.TILE_LSTAT_ROWSDONE t) = 0 ∧
      u.fld (F.TILE_LSTAT_SPARENEW t) = 0 ∧ u.fld (F.TILE_LSTAT_DUP t) = 0 ∧
      s.KeepsRegs u [Reg.TILE_LSTAT t] ∧ u = { s with regs := u.regs, pulses := s.pulses ++ [t.val] }) ∧
  (∀ (s : State) (ini : Initiator) (t : Fin 32), s.Takes ini (Reg.TILE_CMD t) → (s.tile t).long = none → (s.tile
  t).front = none → 1 ≤ s.fld (F.TILE_PGMROWS_COUNT t) →
    s.fld (F.TILE_PGMROWS_FIRST t) + s.fld (F.TILE_PGMROWS_COUNT t) ≤
  768 → s.fld (F.TILE_PGMCFG_GRPMASK t) ≠ 0 →
    s.fld (F.TILE_PGMSRC_SRCROW t) + srcRows (s.fld (F.TILE_PGMROWS_COUNT t)) ≤
  4096 → (s.tile t).genValid = true → s.fld (F.TILE_PGMGEN_GEN t) = (s.tile t).gen →
    Gives (.tileProgram ini t) s fun u => u.fld (F.TILE_LSTAT_STATUS t) = 2 ∧ u.fld (F.TILE_LSTAT_ROWSDONE t) = 0 ∧
      u.fld (F.TILE_LSTAT_DUP t) = 1 ∧ s.KeepsRegs u [Reg.TILE_LSTAT t] ∧
      u = { s with regs := u.regs, pulses := s.pulses ++ [t.val] }) ∧
  (∀ (s : State) (t : Fin 32), s.stopped = false → s.sealedIni .sv = true →
    s.verdict .sv (Reg.TILE_CMD t) true = .pass →
  (s.tile t).long = none → (s.tile t).front = none → 1 ≤ s.fld (F.TILE_PGMROWS_COUNT t) → s.fld (F.TILE_PGMROWS_FIRST t)
  + s.fld (F.TILE_PGMROWS_COUNT t) ≤ 768 → s.fld (F.TILE_PGMCFG_GRPMASK t) ≠ 0 →
    s.fld (F.TILE_PGMSRC_SRCROW t) + srcRows
  (s.fld (F.TILE_PGMROWS_COUNT t)) ≤ 4096 → (s.tile t).genValid = false →
    Gives (.tileProgram .sv t) s fun u => u.fld (F.TILE_LSTAT_STATUS t) = 4 ∧ u.fld (F.TILE_ERR_SEALSRC t) = 1 ∧
      u.tiles = s.tiles ∧ u.mem = s.mem ∧ u.tags = s.tags) ∧
  (∀ (s : State) (ini : Initiator) (t : Fin 32) (l : LongOp), s.Takes ini (Reg.TILE_CMD t) → (s.tile t).long = some l →
    Becomes (.tileProgram ini t) s
      (if l.kind = .program ∧ l.gen = s.fld (F.TILE_PGMGEN_GEN t) then s.setFld (F.TILE_LSTAT_DUP t) 1
       else s.setFld (F.TILE_ERR_BUSY t) 1)) ∧
  (∀ (s : State) (t : Fin 32) (l : LongOp), (s.tile t).long = some l → l.phase = .prescan →
    s.clearing (t.val / 8) = false
  → s.spOn (t.val / 8) = true → s.pgmSealed (t.val / 8) l.src l.count = false → s.pgmBad (t.val / 8) l.src (List.range
  l.count) = false →
    Becomes (.prescanEnd t) s (s.setTile t { s.tile t with
      genValid := false, sealedFlag := false
      long := some { l with phase := if s.tileComputing t then .between else .step, allow := s.tileWaiting t } })) ∧
  (∀ (s : State) (t : Fin 32) (l : LongOp), (s.tile t).long = some l → l.phase = .prescan → l.kind = .program →
    s.clearing
  (t.val / 8) = false → s.pgmSealed (t.val / 8) l.src l.count = true →
    Gives (.prescanEnd t) s fun u => u.fld (F.TILE_LSTAT_STATUS t) = 4 ∧ u.fld (F.TILE_ERR_SEALSRC t) = 1 ∧
      (u.tile t).long = none ∧ (u.tile t).sealedFlag = true ∧ (u.tile t).cells = (s.tile t).cells ∧
      (u.tile t).gen = (s.tile t).gen ∧ (u.tile t).genValid = (s.tile t).genValid ∧ t.val ∈ u.pulses ∧
      u.mem = s.mem ∧ u.tags = s.tags) ∧
  (∀ (s : State) (t : Fin 32) (l : LongOp), (s.tile t).long = some l → l.phase = .prescan → l.kind = .program →
    s.clearing
  (t.val / 8) = false → s.pgmSealed (t.val / 8) l.src l.count = false →
    s.pgmBad (t.val / 8) l.src (List.range l.count) =
  true →
    Gives (.prescanEnd t) s fun u => u.fld (F.TILE_LSTAT_STATUS t) = 5 ∧ u.fld (F.TILE_ERR_BADWEIGHT t) = 1 ∧
      (u.tile t).long = none ∧ (u.tile t).cells = (s.tile t).cells ∧ (u.tile t).gen = (s.tile t).gen ∧
      (u.tile t).genValid = (s.tile t).genValid ∧ t.val ∈ u.pulses ∧ u.mem = s.mem ∧ u.tags = s.tags) ∧
  (∀ (s : State) (t : Fin 32) (l : LongOp), (s.tile t).long = some l → (l.phase ≠ .prescan ∨
    s.clearing (t.val / 8) = true)
  →
    Becomes (.prescanEnd t) s s) ∧
  (∀ (s : State) (c src : Nat) (rows : List Nat),
    s.pgmBad c src rows = true ↔ ∃ i ∈ rows, ∃ j, j < 384 ∧ s.pgmNibble c src i j = 8) ∧
  (∀ (s : State) (ini : Initiator) (t : Fin 32), s.Takes ini (Reg.TILE_CMD t) → (s.tile t).long = none →
    let l : LongOp :=
      { kind := .wipe, src := 0, first := 0, count := 776, mask := 0x3F, stuckok := 7, gen := 0, baro := false,
        phase := if s.tileComputing t then .between else .step, idx := 0, baroNext := false, allow := s.tileWaiting t,
        nospare := none, abort := false }
    Becomes (.tileWipe ini t) s ((s.beginLong t l).setTile t
      { s.tile t with gen := 0, genValid := false, sealedFlag := false, long := some l })) ∧
  (∀ (s : State) (ini : Initiator) (t : Fin 32) (l : LongOp), s.Takes ini (Reg.TILE_CMD t) → (s.tile t).long = some l →
    Becomes (.tileWipe ini t) s (s.setFld (F.TILE_ERR_BUSY t) 1)) ∧
  (∀ (s : State) (t : Fin 32) (l : LongOp), (s.tile t).long = some l → l.kind = .wipe → s.stepRuns t l = true →
    l.abort =
  false → l.idx + 1 < l.count → s.fld (F.TILE_LSTAT_ROWSDONE t) < 1023 →
    Gives (.rowStepEnd t) s fun u => u.fld (F.TILE_LSTAT_ROWSDONE t) = s.fld (F.TILE_LSTAT_ROWSDONE t) + 1 ∧
      (u.tile t).cells = (s.runStep t l).tile.cells ∧ u.free = s.free + 1 ∧ u.mem = s.mem ∧ u.tags = s.tags ∧
      (∃ l1, (u.tile t).long = some l1 ∧ l1.idx = l.idx + 1 ∧ l1.kind = .wipe ∧ l1.count = l.count) ∧
      s.KeepsRegs u [Reg.TILE_LSTAT t, Reg.TILE_STUCK t]) ∧
  (∀ (s : State) (t : Fin 32) (l : LongOp), (s.tile t).long = some l → l.kind = .program → s.stepRuns t l = true →
  s.clearing (t.val / 8) = false → s.spOn (t.val / 8) = true → s.stepRefused t l = none → (s.runStep t l).stuck ≤
  l.stuckok → l.abort = false → l.idx + 1 < l.count → s.fld (F.TILE_LSTAT_ROWSDONE t) < 1023 →
    Gives (.rowStepEnd t) s fun u => u.fld (F.TILE_LSTAT_ROWSDONE t) = s.fld (F.TILE_LSTAT_ROWSDONE t) + 1 ∧
      (u.tile t).cells = (s.runStep t l).tile.cells ∧ u.free = s.free + 1 ∧ u.mem = s.mem ∧ u.tags = s.tags ∧
      (∃ l1, (u.tile t).long = some l1 ∧ l1.idx = l.idx + 1 ∧ l1.kind = .program ∧ l1.gen = l.gen) ∧
      (u.tile t).spares = (s.tile t).spares ∧ s.KeepsRegs u [Reg.TILE_LSTAT t, Reg.TILE_STUCK t]) ∧
  (∀ (s : State) (t : Fin 32) (l : LongOp), (s.tile t).long = some l → l.kind = .program → s.stepRuns t l = true →
  s.clearing (t.val / 8) = false → s.spOn (t.val / 8) = true → s.stepRefused t l = none → (s.runStep t l).stuck ≤
  l.stuckok → l.abort = false → l.nospare = none → l.idx + 1 = l.count →
    Gives (.rowStepEnd t) s fun u => u.fld (F.TILE_LSTAT_STATUS t) = 2 ∧ (u.tile t).long = none ∧
      (u.tile t).gen = l.gen ∧ (u.tile t).genValid = true ∧ (u.tile t).cells = (s.runStep t l).tile.cells ∧
      t.val ∈ u.pulses ∧ u.mem = s.mem ∧ u.tags = s.tags) ∧
  (∀ (s : State) (t : Fin 32) (l : LongOp) (status : Nat), (s.tile t).long = some l → l.kind = .program →
    s.stepRuns t l =
  true → s.clearing (t.val / 8) = false → s.stepRefused t l = some status →
    Gives (.rowStepEnd t) s fun u => u.fld (F.TILE_LSTAT_STATUS t) = status ∧ (u.tile t).long = none ∧
      (u.tile t).cells = (s.tile t).cells ∧ (u.tile t).genValid = (s.tile t).genValid ∧ t.val ∈ u.pulses) ∧
  (∀ (s : State) (t : Nat) (l : LongOp), l.kind = .program →
    s.stepRefused t l = if s.unitTag (t / 8) (l.src + l.idx / 2) then some 4
      else if s.pgmBad (t / 8) l.src (rowsWith l.idx l.count) then some 5 else none) ∧
  (∀ (s : State) (t : Fin 32) (l : LongOp), (s.tile t).long = some l → (s.stepRuns t l = false ∨ (l.kind = .program ∧
  s.clearing (t.val / 8) = true)) →
    Becomes (.rowStepEnd t) s s) ∧
  (∀ (s : State) (ini : Initiator) (t : Fin 32) (l : LongOp), s.Takes ini (Reg.TILE_CMD t) → (s.tile t).long = some l →
  l.phase = .step →
    Becomes (.tileAbort ini t) s (s.setTile t { s.tile t with long := some { l with abort := true } })) ∧
  (∀ (s : State) (ini : Initiator) (t : Fin 32) (l : LongOp), s.Takes ini (Reg.TILE_CMD t) → (s.tile t).long = some l →
  l.phase ≠ .step →
    Gives (.tileAbort ini t) s fun u => u.fld (F.TILE_LSTAT_STATUS t) = 3 ∧ u.fld (F.TILE_ERR_ABORTED t) = 1 ∧
      (u.tile t).long = none ∧ (u.tile t).cells = (s.tile t).cells ∧ (u.tile t).gen = (s.tile t).gen ∧
      t.val ∈ u.pulses ∧ u.mem = s.mem ∧ u.tags = s.tags)

/-- A row step touches only its own cells: a cell it does not name stays as it was. A cell whose verify is within one
  code
of four times its target gets no pulse; a stuck one never changes and counts as stuck; any other takes its target's
  level
and is pulsed at most 24 times. The two cells of a pair take a signed weight as the level of G+ when it is positive
  and of
G- when it is negative, the other at level 0. Verify codes lie in 0-31, converter codes in -16 to 15, and a conversion
fires the overrange comparator only with the code at an end of the range. -/
def Obligations.ProgrammedWeights : Prop :=
  (∀ (s : State) (t : Nat) (l : LongOp) (k : Nat), k ∉ (s.stepTargets t l).map (·.1) →
    (s.runStep t l).tile.cell k = (s.tile t).cell k) ∧
  (∀ (s : State) (t : Nat) (l : LongOp),
    let y := (s.runStep t l).tile
    y.gen = (s.tile t).gen ∧ y.genValid = (s.tile t).genValid ∧ y.spares = (s.tile t).spares ∧ y.acc = (s.tile t).acc ∧
    y.long = (s.tile t).long) ∧
  (∀ (n : Noise) (t draw : Nat) (r : RowStep) (k w : Nat),
    let ok := accepted (vcode (n.cond r.tile t draw k)) w
    let g := pulseCell w [t, k, draw] 24 none 0 (n.cond r.tile t draw k)
    let q := n.program t draw r (k, w)
    (∀ j, j ≠ k → q.tile.cell j = r.tile.cell j) ∧ (ok = true → q = r) ∧
    (ok = false → Config.cellStuck t k = true → q.tile = r.tile ∧ q.stuck = r.stuck + 1) ∧
    (ok = false → Config.cellStuck t k = false → q.tile.cell k = ⟨w, g, draw⟩ ∧ q.pulsed = true ∧
      q.stuck = r.stuck + (if accepted (vcode g) w then 0 else 1))) ∧
  (∀ (v w : Nat),
    accepted v w = true ↔ ((v : Int) - 4 * w).natAbs ≤ 1) ∧
  (∀ (row col : Nat) (w : Int), -7 ≤ w → w ≤ 7 →
    pairTargets row col w =
      [(cellKey row col 0, if 0 < w then w.natAbs else 0), (cellKey row col 1, if w < 0 then w.natAbs else 0)]) ∧
  (∀ (r1 c1 s1 r2 c2 s2 : Nat), c1 < 392 → c2 < 392 → s1 < 2 → s2 < 2 → cellKey r1 c1 s1 = cellKey r2 c2 s2 →
    r1 = r2 ∧ c1 = c2 ∧ s1 = s2) ∧
  (∀ (g : Rat),
    vcode g ≤ 31) ∧
  (∀ (v : Nat),
    refreshTarget v ≤ 7 ∧ (v ≤ 29 → ambiguous v = false → accepted v (refreshTarget v) = true)) ∧
  (∀ (n : Noise) (t col g : Nat) (k : List Nat) (d : Rat),
    let q := n.convert t col g k d
    (-16 : Int) ≤ q.1 ∧ q.1 ≤ 15 ∧ (q.2 = true → q.1 = 15 ∨ q.1 = -16)) ∧
  (∀ (n : Noise) (t col g : Nat) (k : List Nat) (d : Rat), n.force = true → 63 * (gainLsb g : Rat) ≤ 4 * d →
    n.convert t col g k d = (15, true)) ∧
  (∀ (n : Noise) (t col g : Nat) (k : List Nat) (d : Rat), n.force = true → 4 * d < -67 * (gainLsb g : Rat) →
    n.convert t col g k d = (-16, true)) ∧
  (∀ (n : Noise) (x : Tile) (t draw k : Nat),
    0 ≤ n.cond x t draw k)

/-- BCHK and TRIM of an idle tile zero the accumulators, take the trims that stand, and begin; of a busy one they are
refused with BUSY. The end of a check leaves the eight results of its columns, no check in progress and every cell as it
was; a check begun under issue seal compares nothing. A comparison that trips for the TRIPNth time in a row sets TRIP
  and
fires the producer of the tile's cluster; one that does not trip zeroes TRIPCNT. The end of a sweep writes the trim
  byte of
every column that passes, keeps that of one that fails, and sets TRIMOK. RFSH of a range that passes its checks
  begins row
steps and sets RFACT; out of range it ends at once with status 7; while a paired tile is busy it sets PAIRBUSY; in a
  dark
quad TRIM and RFSH set DARK. A refresh that ends with ambiguous cells, whatever its status, leaves no valid
  generation. -/
def Obligations.TileChecks : Prop :=
  (∀ (s : State) (ini : Initiator) (t : Fin 32), s.Takes ini (Reg.TILE_CMD t) → s.tileState t = 0 → s.tileDepth t = 0 →
    let k : Check := { trim := false, sealedIn := false, bexp0 := s.fld (F.CAL_BEXP0_B0_B3 t), bexp1 := s.fld (F.CAL_BEXP1_B4_B7 t) }
    Gives (.barometerCheck ini t) s fun u =>
      u.tile t = { s.tile t with acc := [], sealedFlag := false, trims := s.trimBytes t, check := some k } ∧
      u.fld (F.TILE_CLIP_COUNT t) = 0 ∧ u.fld (F.TILE_CLIP_GRP t) = 0 ∧ s.KeepsRegs u [Reg.TILE_CLIP t] ∧
      u = { s with regs := u.regs, tiles := u.tiles }) ∧
  (∀ (s : State) (ini : Initiator) (t : Fin 32), s.Takes ini (Reg.TILE_CMD t) → (s.tileState t ≠ 0 ∨
    s.tileDepth t ≠ 0) →
    Becomes (.barometerCheck ini t) s (s.setFld (F.TILE_ERR_BUSY t) 1)) ∧
  (∀ (s : State) (t : Fin 32) (k : Check), (s.tile t).check = some k → k.trim = false → k.sealedIn = true →
    Gives (.barometerCheckEnd t) s fun u => (u.tile t).check = none ∧ u.free = s.free + 1 ∧ u.mem = s.mem ∧
      u.tags = s.tags ∧
      (∀ i, i < 4 → bitsOf (u.fld (F.TILE_BRES0_B0_B3 t)) (6 * i) 6 = baroBits (s.baroCode t i) ∧
        bitsOf (u.fld (F.TILE_BRES1_B4_B7 t)) (6 * i) 6 = baroBits (s.baroCode t (4 + i))) ∧
      u.fld (F.TILE_LSTAT_STATUS t) = 2 ∧ t.val ∈ u.pulses ∧ (u.tile t).cells = (s.tile t).cells ∧
      s.KeepsRegs u [Reg.TILE_BRES0 t, Reg.TILE_BRES1 t, Reg.TILE_CLIP t, Reg.TILE_LSTAT t]) ∧
  (∀ (s : State) (t : Fin 32) (k : Check), (s.tile t).check = some k → k.trim = false → k.sealedIn = false →
    Gives (.barometerCheckEnd t) s fun u => (u.tile t).check = none ∧ u.free = s.free + 1 ∧ u.mem = s.mem ∧
      u.tags = s.tags ∧
      (∀ i, i < 4 → bitsOf (u.fld (F.TILE_BRES0_B0_B3 t)) (6 * i) 6 = baroBits (s.baroCode t i) ∧
        bitsOf (u.fld (F.TILE_BRES1_B4_B7 t)) (6 * i) 6 = baroBits (s.baroCode t (4 + i))) ∧
      u.fld (F.TILE_LSTAT_STATUS t) = 2 ∧ t.val ∈ u.pulses ∧ (u.tile t).cells = (s.tile t).cells ∧
      (u.tile t).genValid = (s.tile t).genValid ∧
      u.fld (F.CAL_CHKCNT_COUNT t) = (s.fld (F.CAL_CHKCNT_COUNT t) + 1) % 2 ^ (F.CAL_CHKCNT_COUNT t).w) ∧
  (∀ (s : State) (t : Fin 32) (k : Check) (codes : List (Int × Bool)) (devs : List (Nat × Nat × Bool)), devs = baroDevs
  k.bexp0 k.bexp1 codes → (devs.any (·.2.2) = true ∨
    devs.any (fun d => decide (s.fld (F.CAL_THR_TRIP t) ≤ d.2.1)) = true) →
  s.fld (F.CAL_THR_TRIPN t) ≠ 0 → s.fld (F.CAL_THR_TRIPN t) ≤ s.fld (F.CAL_STAT_TRIPCNT t) + 1 →
      (s.compareCheck t k codes).fld (F.CAL_STAT_TRIP t) = 1 ∧
        (s.compareCheck t k codes).fld (F.CAL_STAT_TRIPCNT t) = 0 ∧
      44 + t.val / 8 ∈ (s.compareCheck t k codes).pulses) ∧
  (∀ (s : State) (t : Fin 32) (k : Check) (codes : List (Int × Bool)) (devs : List (Nat × Nat × Bool)), devs = baroDevs
  k.bexp0 k.bexp1 codes → devs.any (·.2.2) = false →
    devs.any (fun d => decide (s.fld (F.CAL_THR_TRIP t) ≤ d.2.1)) = false →
      (s.compareCheck t k codes).fld (F.CAL_STAT_TRIPCNT t) = 0 ∧
      (s.compareCheck t k codes).fld (F.CAL_STAT_TRIP t) = s.fld (F.CAL_STAT_TRIP t) ∧
      (s.compareCheck t k codes).pulses = s.pulses) ∧
  (∀ (s : State) (ini : Initiator) (t : Fin 32), s.Takes ini (Reg.CAL_CMD t) → s.domOn (domTQ t) = true →
    s.tileState t = 0
  → s.tileDepth t = 0 →
    let k : Check := { trim := true, sealedIn := false, bexp0 := 0, bexp1 := 0 }
    Gives (.trimSweep ini t) s fun u =>
      u.tile t = { s.tile t with acc := [], trims := s.trimBytes t, check := some k } ∧ u.fld (F.CAL_SWEEP_FAIL t) = 0 ∧
      u.fld (F.TILE_CLIP_COUNT t) = 0 ∧ u.fld (F.TILE_CLIP_GRP t) = 0 ∧
        s.KeepsRegs u [Reg.TILE_CLIP t, Reg.CAL_SWEEP t] ∧
      u = { s with regs := u.regs, tiles := u.tiles }) ∧
  (∀ (s : State) (ini : Initiator) (t : Fin 32), s.Takes ini (Reg.CAL_CMD t) → s.domOn (domTQ t) = true →
    (s.tileState t ≠
  0 ∨ s.tileDepth t ≠ 0) →
    Becomes (.trimSweep ini t) s (s.setFld (F.TILE_ERR_BUSY t) 1)) ∧
  (∀ (s : State) (ini : Initiator) (t : Fin 32), s.Takes ini (Reg.CAL_CMD t) → s.domOn (domTQ t) = false →
    Becomes (.trimSweep ini t) s (s.setFld (F.CAL_STAT_DARK t) 1)) ∧
  (∀ (s : State) (t : Fin 32) (k : Check), (s.tile t).check = some k → k.trim = true →
    Gives (.trimSweepEnd t) s fun u => (u.tile t).check = none ∧ u.fld (F.CAL_STAT_TRIMOK t) = 1 ∧
      u.fld (F.TILE_LSTAT_STATUS t) = 2 ∧ t.val ∈ u.pulses ∧
      (∀ j, j < 392 → u.fld (trimFld t j) =
        ((s.noise t).sweep (s.trimSet t) t j s.free ((s.tile t).trims.getD j 0)).getD (s.fld (trimFld t j))) ∧
      u.mem = s.mem ∧ u.tags = s.tags ∧ (u.tile t).cells = (s.tile t).cells) ∧
  (∀ (s : State) (ini : Initiator) (t : Fin 32), s.Takes ini (Reg.CAL_CMD t) → s.domOn (domTQ t) = true →
    (s.tile t).long =
  none → 1 ≤ s.fld (F.CAL_RFROWS_COUNT t) → s.fld (F.CAL_RFROWS_FIRST t) + s.fld (F.CAL_RFROWS_COUNT t) ≤ 768 → (s.fld
  (F.CAL_RFCFG_GRPMASK t) ≠ 0 ∨ s.fld (F.CAL_RFCFG_BARO t) = 1) → s.pairOk t = false →
    let r := ((s.setFld (F.CAL_RFSTAT_AMBIG t) 0).setFld (F.CAL_RFSTAT_PULSED t) 0).setFld (F.CAL_STAT_RFACT t) 1
    let l : LongOp :=
      { kind := .refresh, src := 0, first := s.fld (F.CAL_RFROWS_FIRST t), count := s.fld (F.CAL_RFROWS_COUNT t),
        mask := s.fld (F.CAL_RFCFG_GRPMASK t), stuckok := s.fld (F.TILE_PGMCFG_STUCKOK t), gen := 0,
        baro := s.flag (F.CAL_RFCFG_BARO t), phase := if s.tileComputing t then .between else .step, idx := 0,
        baroNext := s.fld (F.CAL_RFCFG_GRPMASK t) == 0, allow := s.tileWaiting t, nospare := none, abort := false }
    Becomes (.tileRefresh ini t) s (r.beginLong t l)) ∧
  (∀ (s : State) (ini : Initiator) (t : Fin 32), s.Takes ini (Reg.CAL_CMD t) → s.domOn (domTQ t) = false →
    Becomes (.tileRefresh ini t) s (s.setFld (F.CAL_STAT_DARK t) 1)) ∧
  (∀ (s : State) (ini : Initiator) (t : Fin 32), s.Takes ini (Reg.CAL_CMD t) → s.domOn (domTQ t) = true →
    (s.tile t).long =
  none → 1 ≤ s.fld (F.CAL_RFROWS_COUNT t) → s.fld (F.CAL_RFROWS_FIRST t) + s.fld (F.CAL_RFROWS_COUNT t) ≤ 768 → (s.fld
  (F.CAL_RFCFG_GRPMASK t) ≠ 0 ∨ s.fld (F.CAL_RFCFG_BARO t) = 1) → s.pairOk t = true → (s.tile (s.fld
  (F.CAL_PAIR_PARTNER t))).long ≠ none →
    Becomes (.tileRefresh ini t) s (s.setFld (F.CAL_STAT_PAIRBUSY t) 1)) ∧
  (∀ (s : State) (ini : Initiator) (t : Fin 32), s.Takes ini (Reg.CAL_CMD t) → s.domOn (domTQ t) = true →
    (s.tile t).long =
  none → (768 < s.fld (F.CAL_RFROWS_FIRST t) + s.fld (F.CAL_RFROWS_COUNT t) ∨ s.fld (F.CAL_RFROWS_COUNT t) = 0 ∨ (s.fld
  (F.CAL_RFCFG_GRPMASK t) = 0 ∧ s.fld (F.CAL_RFCFG_BARO t) = 0)) →
    Gives (.tileRefresh ini t) s fun u => u.fld (F.TILE_LSTAT_STATUS t) = 7 ∧ u.fld (F.CAL_STAT_RFACT t) = 0 ∧
      (u.tile t).long = none ∧ (u.tile t).cells = (s.tile t).cells ∧ t.val ∈ u.pulses ∧
      (s.fld (F.CAL_RFSTAT_AMBIG t) ≠ 0 → (u.tile t).genValid = false) ∧
      (s.fld (F.CAL_RFSTAT_AMBIG t) = 0 → (u.tile t).genValid = (s.tile t).genValid)) ∧
  (∀ (s : State) (t : Fin 32) (l : LongOp) (status : Nat), (s.tile t).long = some l → l.kind = .refresh → status ≤ 7 →
    let u := s.endLong t status
    u.fld (F.TILE_LSTAT_STATUS t) = status ∧ u.fld (F.CAL_STAT_RFACT t) = 0 ∧ (u.tile t).long = none ∧
    t.val ∈ u.pulses ∧ (s.fld (F.CAL_RFSTAT_AMBIG t) ≠ 0 → (u.tile t).genValid = false) ∧
    (s.fld (F.CAL_RFSTAT_AMBIG t) = 0 → (u.tile t).genValid = (s.tile t).genValid))

/-- A word set written through a port of its cluster takes its opcode and stands in the port's registers. It enters the
operation queue last, with its port, the seal of its issue and the pad its fields name, when it passes the checks, the
queue has room and no change of owner is pending. With a change of owner pending it enters nothing and sets OWNPEND;
failing a check it sets BADARG and completes with status 1, reported in the completion FIFO; with the queue full the
  write
of D4 waits and the queue stays. Each of the seven opcodes behaves so. A TOP names the pad register of its D1[11:10], a
MAXR or MINR that of its D1[4:3], the others none. -/
def Obligations.WordSetCommands : Prop :=
  (∀ (s : State) (ini : Initiator) (c : Fin 4) (p : Fin 3) (d : WordSet), s.Takes ini (Reg.TAL_OP_D c p 4) → wsOk
  (withOpc 1 d) = true → s.fld (F.CLU_OWNER_PEND c) = 0 → (s.tally c).entries.length < 16 →
    let w := withOpc 1 d
    let r := s.setPortWords c p w
    let e : TalEntry := { port := p, ws := w, iseal := false, pad := r.padOf c w, phase := .queued }
    Becomes (.top c p ini d) s (r.setTally c { s.tally c with entries := (s.tally c).entries ++ [e] })) ∧
  (∀ (s : State) (ini : Initiator) (c : Fin 4) (p : Fin 3) (d : WordSet), s.Takes ini (Reg.TAL_OP_D c p 4) → wsOk
  (withOpc 2 d) = true → s.fld (F.CLU_OWNER_PEND c) = 0 → (s.tally c).entries.length < 16 →
    let w := withOpc 2 d
    let r := s.setPortWords c p w
    let e : TalEntry := { port := p, ws := w, iseal := false, pad := r.padOf c w, phase := .queued }
    Becomes (.maxr c p ini d) s (r.setTally c { s.tally c with entries := (s.tally c).entries ++ [e] })) ∧
  (∀ (s : State) (ini : Initiator) (c : Fin 4) (p : Fin 3) (d : WordSet), s.Takes ini (Reg.TAL_OP_D c p 4) → wsOk
  (withOpc 3 d) = true → s.fld (F.CLU_OWNER_PEND c) = 0 → (s.tally c).entries.length < 16 →
    let w := withOpc 3 d
    let r := s.setPortWords c p w
    let e : TalEntry := { port := p, ws := w, iseal := false, pad := r.padOf c w, phase := .queued }
    Becomes (.minr c p ini d) s (r.setTally c { s.tally c with entries := (s.tally c).entries ++ [e] })) ∧
  (∀ (s : State) (ini : Initiator) (c : Fin 4) (p : Fin 3) (d : WordSet), s.Takes ini (Reg.TAL_OP_D c p 4) → wsOk
  (withOpc 4 d) = true → s.fld (F.CLU_OWNER_PEND c) = 0 → (s.tally c).entries.length < 16 →
    let w := withOpc 4 d
    let r := s.setPortWords c p w
    let e : TalEntry := { port := p, ws := w, iseal := false, pad := r.padOf c w, phase := .queued }
    Becomes (.ins c p ini d) s (r.setTally c { s.tally c with entries := (s.tally c).entries ++ [e] })) ∧
  (∀ (s : State) (ini : Initiator) (c : Fin 4) (p : Fin 3) (d : WordSet), s.Takes ini (Reg.TAL_OP_D c p 4) → wsOk
  (withOpc 5 d) = true → s.fld (F.CLU_OWNER_PEND c) = 0 → (s.tally c).entries.length < 16 →
    let w := withOpc 5 d
    let r := s.setPortWords c p w
    let e : TalEntry := { port := p, ws := w, iseal := false, pad := r.padOf c w, phase := .queued }
    Becomes (.finr c p ini d) s (r.setTally c { s.tally c with entries := (s.tally c).entries ++ [e] })) ∧
  (∀ (s : State) (ini : Initiator) (c : Fin 4) (p : Fin 3) (d : WordSet), s.Takes ini (Reg.TAL_OP_D c p 4) → wsOk
  (withOpc 6 d) = true → s.fld (F.CLU_OWNER_PEND c) = 0 → (s.tally c).entries.length < 16 →
    let w := withOpc 6 d
    let r := s.setPortWords c p w
    let e : TalEntry := { port := p, ws := w, iseal := false, pad := r.padOf c w, phase := .queued }
    Becomes (.frank c p ini d) s (r.setTally c { s.tally c with entries := (s.tally c).entries ++ [e] })) ∧
  (∀ (s : State) (ini : Initiator) (c : Fin 4) (p : Fin 3) (d : WordSet), s.Takes ini (Reg.TAL_OP_D c p 4) → wsOk
  (withOpc 7 d) = true → s.fld (F.CLU_OWNER_PEND c) = 0 → (s.tally c).entries.length < 16 →
    let w := withOpc 7 d
    let r := s.setPortWords c p w
    let e : TalEntry := { port := p, ws := w, iseal := false, pad := r.padOf c w, phase := .queued }
    Becomes (.sync c p ini d) s (r.setTally c { s.tally c with entries := (s.tally c).entries ++ [e] })) ∧
  (∀ (s : State) (c : Fin 4) (p : Fin 3) (d : WordSet) (i : Fin 7), s.stopped = false → s.sealedIni .sv = true →
    sealedMay 4 (Reg.TAL_OP_D c p 4) = true → s.verdict .sv (Reg.TAL_OP_D c p 4) true = .pass → wsOk
  (withOpc (i.val + 1) d) = true → s.fld (F.CLU_OWNER_PEND c) = 0 → (s.tally c).entries.length < 16 →
    let w := withOpc (i.val + 1) d
    let r := s.setPortWords c p w
    let e : TalEntry := { port := p, ws := w, iseal := true, pad := r.padOf c w, phase := .queued }
    Becomes ([Instr.top, Instr.maxr, Instr.minr, Instr.ins, Instr.finr, Instr.frank, Instr.sync][i] c p .sv d) s
      (r.setTally c { s.tally c with entries := (s.tally c).entries ++ [e] })) ∧
  (∀ (s : State) (ini : Initiator) (c : Fin 4) (p : Fin 3) (d : WordSet) (i : Fin 7), s.Takes ini (Reg.TAL_OP_D c p
    4) → s.fld (F.CLU_OWNER_PEND c) = 1 →
    Becomes ([Instr.top, Instr.maxr, Instr.minr, Instr.ins, Instr.finr, Instr.frank, Instr.sync][i] c p ini d) s
      ((s.setPortWords c p (withOpc (i.val + 1) d)).setFld (F.TAL_STATUS_OWNPEND c) 1)) ∧
  (∀ (s : State) (ini : Initiator) (c : Fin 4) (p : Fin 3) (d : WordSet) (i : Fin 7), s.Takes ini (Reg.TAL_OP_D c p
    4) → s.fld (F.CLU_OWNER_PEND c) = 0 → (s.tally c).entries.length < 16 → p ≠ 2 → (s.tally
  c).cpl.length < 16 → wsOk (withOpc (i.val + 1) d) = false →
    let w := withOpc (i.val + 1) d
    let k : TalCpl := { tag := d0f w 4 6, status := 1, opc := i.val + 1, mixed := false, sealedOut := false, port := p }
    Gives ([Instr.top, Instr.maxr, Instr.minr, Instr.ins, Instr.finr, Instr.frank, Instr.sync][i] c p ini d) s fun u
      => u.tally c = { s.tally c with cpl := (s.tally c).cpl ++ [k] } ∧
      u.fld (F.TAL_STATUS_BADARG c) = 1 ∧
      u.fld (F.TAL_DONECNT_COUNT c) = (s.fld (F.TAL_DONECNT_COUNT c) + 1) % 2 ^ 24 ∧
      u.pulses = (if d0f w 10 1 = 1 then s.pulses ++ [32 + c.val] else s.pulses) ∧ u.mem = s.mem ∧ u.tags = s.tags) ∧
  (∀ (s : State) (ini : Initiator) (c : Fin 4) (p : Fin 3) (d : WordSet) (i : Fin 7), s.Takes ini (Reg.TAL_OP_D c p
    4) → s.fld (F.CLU_OWNER_PEND c) = 0 → 16 ≤ (s.tally c).entries.length →
    Becomes ([Instr.top, Instr.maxr, Instr.minr, Instr.ins, Instr.finr, Instr.frank, Instr.sync][i] c p ini d) s
      (s.setPortWords c p { withOpc (i.val + 1) d with d4 := s.reg (Reg.TAL_OP_D c p 4) })) ∧
  (∀ (s : State) (c p : Nat) (w : WordSet), c < 4 → p < 3 →
    let u := s.setPortWords c p w
    u.reg (Reg.TAL_OP_D c p 0) = w.d0 ∧ u.reg (Reg.TAL_OP_D c p 1) = w.d1 ∧ u.reg (Reg.TAL_OP_D c p 2) = w.d2 ∧
    u.reg (Reg.TAL_OP_D c p 3) = w.d3 ∧ u.reg (Reg.TAL_OP_D c p 4) = w.d4 ∧
    s.OnlyRegs u ((List.range 5).map (Reg.TAL_OP_D c p))) ∧
  (∀ (s : State) (c : Nat) (w : WordSet),
    s.padOf c w = if d0f w 0 4 = 1 then s.reg (Reg.TAL_PAD c (d1f w 10 2))
      else if d0f w 0 4 = 2 ∨ d0f w 0 4 = 3 then s.reg (Reg.TAL_PAD c (d1f w 3 2)) else 0)

/-- The next entry in order starts: a TOP into its tile, another at once, with its elements read, its inputs' seal
  kept and
the unit's sealed flag set by it: by the issue, a source row or a row that is only merged; a TOP of a dark quad
  completes
with status 3, of a fenced tile with status 4. The oldest operation in a tile begins with zeroed accumulators and the
  trims
that stand, and its end hands the lanes back. An entry whose results are there performs its writes, leaves the queue and
reports its completion; it changes no byte and no tag outside its rows. INS leaves the field in its destination row,
  MAXR
and MINR the index of the winner, each with the seal of its inputs; SYNC writes nothing. A completion is counted,
  fires its
event when the word set asks, and enters the FIFO. TAL_CPLPOP removes the oldest completion, and a write of TAL_RSTSEED
loads the LFSR, 0 loading 1. -/
def Obligations.TallyProgress : Prop :=
  (∀ (s : State) (c : Fin 4) (n : Nat) (e : TalEntry), s.unitsAct c = true →
    s.tallyNext c (s.tally c).entries 0 [] false =
  some n → (s.tally c).entries[n]? = some e → (wsOpc e.ws = 1 → s.domOn (domTQ (8 * c + wsTile e.ws)) = true ∧
    s.fenced (8 *
  c + wsTile e.ws) = false) →
    let top := wsOpc e.ws = 1
    let b := { e with phase := if top then .inTile else .running, seq := (s.tally c).starts,
                      elems := if top then s.topElems c e else [],
                      inSealed := if top then s.topSealed c e else e.iseal }
    Becomes (.talEntryStart c) s (s.setTally c { s.tally c with
      entries := (s.tally c).entries.set n b, starts := (s.tally c).starts + 1, sealedFlag := s.inputSealed c e })) ∧
  (∀ (s : State) (c : Nat) (e : TalEntry), wsOpc e.ws = 1 →
    (s.topSealed c e = true ↔ e.iseal = true ∨
      (∃ k, k < topInRows e.ws ∧ s.unitTag c (d2f e.ws 0 12 + k) = true) ∨ ∃ r ∈ mergeRows e.ws, s.unitTag c r = true) ∧
    (s.inputSealed c e = true ↔ s.topSealed c e = true ∨ (wsAdd e.ws = true ∧
      ∃ k, k < pairRows (d3f e.ws 9 9) ∧ s.unitTag c (d4f e.ws 0 12 + k) = true))) ∧
  (∀ (s : State) (c : Fin 4) (n : Nat) (e : TalEntry), s.unitsAct c = true →
    s.tallyNext c (s.tally c).entries 0 [] false =
  some n → (s.tally c).entries[n]? = some e → wsOpc e.ws = 1 → s.domOn (domTQ (8 * c + wsTile e.ws)) = false →
    Becomes (.talEntryStart c) s (s.tallyFinish c n e 3 false)) ∧
  (∀ (s : State) (c : Fin 4) (n : Nat) (e : TalEntry), s.unitsAct c = true →
    s.tallyNext c (s.tally c).entries 0 [] false =
  some n → (s.tally c).entries[n]? = some e → wsOpc e.ws = 1 → s.domOn (domTQ (8 * c + wsTile e.ws)) = true →
    s.fenced (8 *
  c + wsTile e.ws) = true →
    Becomes (.talEntryStart c) s (s.tallyFinish c n e 4 false)) ∧
  (∀ (s : State) (c : Fin 4), (s.unitsAct c = false ∨ s.tallyNext c (s.tally c).entries 0 [] false = none) →
    Becomes (.talEntryStart c) s s) ∧
  (∀ (s : State) (t : Fin 32) (n : Nat) (e : TalEntry), s.domOn (domTQ t) = true → s.mayCompute t = true → firstOnTile
  (s.tally (t / 8)).entries t .inTile = some n → (s.tally (t / 8)).entries[n]? = some e →
    Gives (.tileComputeStart t) s fun u => (u.tile t).acc = [] ∧ (u.tile t).sealedFlag = e.inSealed ∧
      (u.tile t).trims = s.trimBytes t ∧ (u.tile t).cells = (s.tile t).cells ∧
      (u.tally (t / 8)).entries = (s.tally (t / 8)).entries.set n
        { e with phase := .computing, mixed := !(s.tile t).genValid } ∧
      u.fld (F.TILE_CLIP_COUNT t) = 0 ∧ u.fld (F.TILE_CLIP_GRP t) = 0 ∧
      s.KeepsRegs u [Reg.TILE_CLIP t] ∧ u.mem = s.mem ∧ u.tags = s.tags) ∧
  (∀ (s : State) (t : Fin 32), (s.domOn (domTQ t) = false ∨ s.mayCompute t = false) →
    Becomes (.tileComputeStart t) s s) ∧
  (∀ (s : State) (t : Fin 32) (n : Nat) (e : TalEntry), firstOnTile (s.tally (t / 8)).entries t .computing = some n →
  (s.tally (t / 8)).entries[n]? = some e →
    let r := s.passes t (d1f e.ws 3 3) (d1f e.ws 6 2) (d1f e.ws 12 4) e.elems
    let lanes := (List.range (d3f e.ws 9 9)).map fun i => accLane r.acc (d1f e.ws 8 1 == 1) (d3f e.ws 0 9 + i)
    Gives (.tileComputeDone t) s fun u => (u.tile t).acc = r.acc ∧ u.fld (F.TILE_CLIP_GRP t) = r.groups % 2 ^ 6 ∧
      u.fld (F.TILE_CLIP_COUNT t) = min 65535 r.clips ∧
      (u.tally (t / 8)).entries =
        (s.tally (t / 8)).entries.set n { e with phase := .back, lanes := lanes, mixed := e.mixed || !(s.tile t).genValid } ∧
      (e.inSealed = true → s.KeepsRegs u [Reg.TILE_CLIP t]) ∧ (u.tile t).cells = (s.tile t).cells ∧
      u.mem = s.mem ∧ u.tags = s.tags) ∧
  (∀ (s : State) (c : Fin 4) (n : Fin 16) (e : TalEntry), s.unitsAct c = true → (s.tally c).entries[n.val]? = some e →
  s.tallyReady c e = true →
    let o := s.tallyWrites c e
    Becomes (.talEntryComplete c n) s ((if o.2 then o.1.tallySeal c true else o.1).tallyFinish c n e e.status o.2)) ∧
  (∀ (s : State) (c : Fin 4) (n : Fin 16) (e : TalEntry), s.unitsAct c = true → (s.tally c).entries[n.val]? = some e →
    s.tallyReady c e = true → s.spOn c = true → e.status = 0
  → wsOpc e.ws = 4 →
    let v := bitsOf (ofBytes (s.rowBytes c (d2f e.ws 0 12))) (d3f e.ws 0 12) (d1f e.ws 0 5)
    let keep := if d1f e.ws 5 1 = 1 then ofBytes (s.rowBytes c (d4f e.ws 0 12)) else 0
    Gives (.talEntryComplete c n) s fun u =>
      u.rowBytes c (d4f e.ws 0 12) = toBytes 384 (putBits keep (d4f e.ws 12 12) (d1f e.ws 0 5) v) ∧
      u.tag c (d4f e.ws 0 12) = s.inputSealed c e ∧ (u.tally c).entries = (s.tally c).entries.eraseIdx n) ∧
  (∀ (s : State) (c : Fin 4) (n : Fin 16) (e : TalEntry), s.unitsAct c = true → (s.tally c).entries[n.val]? = some e →
    s.tallyReady c e = true → s.spOn c = true → e.status = 0
  → (wsOpc e.ws = 2 ∨ wsOpc e.ws = 3) →
    let lane := redLane (d1f e.ws 0 2) (s.rowBytes c (d2f e.ws 0 12)) (s.rowBytes c (d2f e.ws 0 12 + 1))
    let vs := (List.range (d3f e.ws 0 9)).map fun i =>
      if d1f e.ws 2 1 = 1 ∧ d3f e.ws 9 9 ≤ i then redPad (d1f e.ws 0 2) e.pad else lane (d2f e.ws 12 9 + i)
    let b := winner (wsOpc e.ws == 2) vs
    let keep := if d1f e.ws 10 1 = 1 then ofBytes (s.rowBytes c (d4f e.ws 0 12)) else 0
    Gives (.talEntryComplete c n) s fun u =>
      u.rowBytes c (d4f e.ws 0 12) = toBytes 384 (putBits keep (d4f e.ws 12 12) (d1f e.ws 5 5) b.2) ∧
      u.tag c (d4f e.ws 0 12) = s.inputSealed c e ∧ u.fld (F.TAL_REDIDX_IDX c) = b.2 % 2 ^ (F.TAL_REDIDX_IDX c).w ∧
      u.fld (F.TAL_REDIDX_VALID c) = 1 ∧ (u.tally c).entries = (s.tally c).entries.eraseIdx n) ∧
  (∀ (s : State) (c : Fin 4) (n : Fin 16) (e : TalEntry), s.unitsAct c = true → (s.tally c).entries[n.val]? = some e →
    s.tallyReady c e = true → s.spOn c = true → e.status = 0
  → wsOpc e.ws = 7 →
    Becomes (.talEntryComplete c n) s (s.tallyFinish c n e 0 false)) ∧
  (∀ (s : State) (c : Fin 4) (n : Fin 16) (e : TalEntry), (s.tally c).entries[n.val]? = some e → (s.unitsAct c = false ∨
  s.tallyReady c e = false) →
    Becomes (.talEntryComplete c n) s s) ∧
  (∀ (s : State) (c : Nat) (e : TalEntry) (a r : Nat), c < 4 → wsOk e.ws = true → wsOpc e.ws ≠ 6 → (wsOpc e.ws = 1 →
  e.lanes.length = d3f e.ws 9 9) → r < 4096 → (∀ x ∈ s.rowSet c e.ws, a < rowAddr c x.1 ∨
    rowAddr c x.1 + 0x200 * x.2 ≤ a) →
  (∀ x ∈ s.rowSet c e.ws, r < x.1 ∨ x.1 + x.2 ≤ r) →
    (s.tallyWrites c e).1.byte a = s.byte a ∧ (s.tallyWrites c e).1.tag c r = s.tag c r) ∧
  (∀ (s : State) (c n : Nat) (e : TalEntry) (st : Nat) (b : Bool), e.port ≠ 2 → (s.tally c).cpl.length < 16 → c < 4 →
    let t := s.tallyFinish c n e st b
    t.fld (F.TAL_DONECNT_COUNT c) = (s.fld (F.TAL_DONECNT_COUNT c) + 1) % 2 ^ 24 ∧
    (t.tally c).entries = (s.tally c).entries.eraseIdx n ∧
    (t.tally c).cpl = (s.tally c).cpl ++ [⟨d0f e.ws 4 6, st, wsOpc e.ws, wsOpc e.ws == 1 && e.mixed, b, e.port⟩] ∧
    t.pulses = (if d0f e.ws 10 1 = 1 then s.pulses ++ [32 + c] else s.pulses) ∧
    s.KeepsRegs t [Reg.TAL_DONECNT c] ∧ t.mem = s.mem ∧ t.tags = s.tags) ∧
  (∀ (s : State) (ini : Initiator) (c : Fin 4), s.Takes ini (Reg.TAL_CPLPOP c) →
    Becomes (.talCplpop ini c) s (s.setTally c { s.tally c with cpl := (s.tally c).cpl.drop 1 })) ∧
  (∀ (s : State) (ini : Initiator) (c : Fin 4) (v : Word), s.Takes ini (Reg.TAL_RSTSEED c) →
    Gives (.talRstseedWrite ini c v) s fun u => u.fld (F.TAL_RSTSEED_STATE c) = (if v.toNat = 0 then 1 else v.toNat) ∧
      (u.tally c).entries = (s.tally c).entries ∧ (u.tally c).cpl = (s.tally c).cpl ∧
      s.KeepsRegs u [Reg.TAL_RSTSEED c] ∧ u.mem = s.mem ∧ u.tags = s.tags)

/-- Rounding by a shift above 0: TRN gives the greatest integer not above the quotient; RHU that of the value raised
by half a step; RHE the nearest integer, an even one when two are equally near; RST that of the value raised by the
low bits of the LFSR, which it advances once. A saturating fit of a range gives the nearest value of the range and
says whether it clamped. The winner of MAXR (MINR) is no less (no greater) than any lane, and no earlier lane equals
it. -/
def Obligations.TallyArithmetic : Prop :=
  (∀ (v : Int) (sh lfsr : Nat), 0 < sh →
    (roundSh v sh 0 lfsr).2 = lfsr ∧ (roundSh v sh 0 lfsr).1 * 2 ^ sh ≤ v ∧
      v < ((roundSh v sh 0 lfsr).1 + 1) * 2 ^ sh) ∧
  (∀ (v : Int) (sh lfsr : Nat), 0 < sh →
    (roundSh v sh 1 lfsr).2 = lfsr ∧ 2 * ((roundSh v sh 1 lfsr).1 * 2 ^ sh) ≤ 2 * v + 2 ^ sh ∧
    2 * v + 2 ^ sh < 2 * (((roundSh v sh 1 lfsr).1 + 1) * 2 ^ sh)) ∧
  (∀ (v : Int) (sh lfsr : Nat), 0 < sh →
    (roundSh v sh 2 lfsr).2 = lfsr ∧ 2 * ((roundSh v sh 2 lfsr).1 * 2 ^ sh) ≤ 2 * v + 2 ^ sh ∧
    2 * v ≤ 2 * ((roundSh v sh 2 lfsr).1 * 2 ^ sh) + 2 ^ sh ∧
    ((2 * v - 2 * ((roundSh v sh 2 lfsr).1 * 2 ^ sh) = 2 ^ sh ∨
      2 * ((roundSh v sh 2 lfsr).1 * 2 ^ sh) - 2 * v = 2 ^ sh) →
      (roundSh v sh 2 lfsr).1 % 2 = 0)) ∧
  (∀ (v : Int) (sh lfsr : Nat), 0 < sh → sh ≤ 24 →
    roundSh v sh 3 lfsr = ((v + (lfsr % 2 ^ sh : Nat)) / 2 ^ sh, lfsrNext lfsr)) ∧
  (∀ (q lo hi : Int) (w : Nat), lo ≤ hi →
    fit q lo hi w true = (unsigned w (max lo (min hi q)), decide (q < lo) || decide (hi < q)) ∧
      fit q lo hi w false = (unsigned w q, false)) ∧
  (∀ (v : Int) (vs : List Int) (i : Nat) (x : Int), (v :: vs)[i]? = some x →
    x ≤ (winner true (v :: vs)).1 ∧ (i < (winner true (v :: vs)).2 → x < (winner true (v :: vs)).1) ∧
    (v :: vs)[(winner true (v :: vs)).2]? = some (winner true (v :: vs)).1) ∧
  (∀ (v : Int) (vs : List Int) (i : Nat) (x : Int), (v :: vs)[i]? = some x →
    (winner false (v :: vs)).1 ≤ x ∧ (i < (winner false (v :: vs)).2 → (winner false (v :: vs)).1 < x) ∧
    (v :: vs)[(winner false (v :: vs)).2]? = some (winner false (v :: vs)).1)

/-- The four words of a job written through a port of its cluster stand in the port's registers. A job that passes the
checks of R273 enters the queue last, with the seal of its issue, when it has room and no change of owner is pending;
  one
that fails them completes with status 1; a pending change of owner sets OWNPEND on every port; on a full queue the
  write of
J3 waits. The oldest job starts when none runs. Host data that arrives is the next row's; a failed host read ends the
  job
with ADDRERR, sets RDFAIL and logs 0x0F. A running job delivers the rows it can, and its completion, with the rows
delivered, leaves with it: the last row of a copy within the scratchpad leaves the row's bytes at the destination,
  its tag
that of the source or of the issue, and no other byte changed. A sealed row for host memory is refused with status 3 and
counted. MOV_CPLPOP removes the oldest completion. -/
def Obligations.MoverCommands : Prop :=
  (∀ (s : State) (ini : Initiator) (c : Fin 4) (p : Fin 3) (j : JobWords), s.Takes ini (Reg.MOV_JOB_J c p 3) →
    jobOk j = true → s.fld
  (F.CLU_OWNER_PEND c) = 0 → (s.mover c).jobs.length < 8 →
    let k : MovJob := { port := p, jw := j, iseal := false, running := false, done := 0, got := [], asked := 0, status := 0,
                        ended := false, id := 0 }
    Becomes (.moverJob ini c p j) s ((s.setPortJob c p j).setMover c
      { s.mover c with jobs := (s.mover c).jobs ++ [k] })) ∧
  (∀ (s : State) (c : Fin 4) (p : Fin 3) (j : JobWords), s.stopped = false → s.sealedIni .sv = true → sealedMay 4
  (Reg.MOV_JOB_J c p 3) = true → s.verdict .sv (Reg.MOV_JOB_J c p 3) true = .pass → jobOk j = true →
    s.fld (F.CLU_OWNER_PEND
  c) = 0 → (s.mover c).jobs.length < 8 →
    let k : MovJob := { port := p, jw := j, iseal := true, running := false, done := 0, got := [], asked := 0, status := 0,
                        ended := false, id := 0 }
    Becomes (.moverJob .sv c p j) s ((s.setPortJob c p j).setMover c
      { s.mover c with jobs := (s.mover c).jobs ++ [k] })) ∧
  (∀ (s : State) (ini : Initiator) (c : Fin 4) (p : Fin 3) (j : JobWords), s.Takes ini (Reg.MOV_JOB_J c p 3) →
    jobOk j = false → s.fld
  (F.CLU_OWNER_PEND c) = 0 → (s.mover c).jobs.length < 8 → p ≠ 2 → (s.mover c).cpl.length < 8 →
    let k : MovCpl := { tag := bitsOf j.j1.toNat 16 6, status := 1, port := p, rows := 0 }
    Gives (.moverJob ini c p j) s fun u => u.mover c = { s.mover c with cpl := (s.mover c).cpl ++ [k] } ∧
      u.pulses = (if bitOf j.j1.toNat 22 then s.pulses ++ [36 + c.val] else s.pulses) ∧
      s.KeepsRegs u ((List.range 4).map (Reg.MOV_JOB_J c p)) ∧ u.mem = s.mem ∧ u.tags = s.tags) ∧
  (∀ (s : State) (ini : Initiator) (c : Fin 4) (p : Fin 3) (j : JobWords), s.Takes ini (Reg.MOV_JOB_J c p 3) →
    s.fld (F.CLU_OWNER_PEND c) = 1 →
    Becomes (.moverJob ini c p j) s ((s.setPortJob c p j).setFld (F.MOV_STATUS_OWNPEND c) 1)) ∧
  (∀ (s : State) (ini : Initiator) (c : Fin 4) (p : Fin 3) (j : JobWords), s.Takes ini (Reg.MOV_JOB_J c p 3) →
    s.fld (F.CLU_OWNER_PEND c) = 0 → 8 ≤
  (s.mover c).jobs.length →
    Becomes (.moverJob ini c p j) s (s.setPortJob c p { j with j3 := s.reg (Reg.MOV_JOB_J c p 3) })) ∧
  (∀ (s : State) (c p : Nat) (j : JobWords), c < 4 → p < 3 →
    let u := s.setPortJob c p j
    u.reg (Reg.MOV_JOB_J c p 0) = j.j0 ∧ u.reg (Reg.MOV_JOB_J c p 1) = j.j1 ∧ u.reg (Reg.MOV_JOB_J c p 2) = j.j2 ∧
    u.reg (Reg.MOV_JOB_J c p 3) = j.j3 ∧ s.OnlyRegs u ((List.range 4).map (Reg.MOV_JOB_J c p))) ∧
  (∀ (s : State) (c : Fin 4) (j : MovJob) (rest : List MovJob), s.unitsAct c = true → (s.mover c).jobs = j :: rest →
  j.running = false →
    Becomes (.moverJobStart c) s
      (s.setMover c { s.mover c with jobs := { j with running := true } :: rest, sealedFlag := j.iseal })) ∧
  (∀ (s : State) (c : Fin 4), (s.unitsAct c = false ∨ (s.mover c).jobs = [] ∨ ((s.mover c).jobs.head?.map (·.running)) =
  some true) →
    Becomes (.moverJobStart c) s s) ∧
  (∀ (s : State) (c : Fin 4) (data : List Byte) (j : MovJob) (rest : List MovJob), (s.mover c).jobs = j :: rest →
    j.running = true → sideOf (jobSrc j.jw) false = .host → j.done < j.asked → j.got = [] →
  j.ended = false → data.length = hostRow (jobConv j.jw) →
    Becomes (.moverHostReadDone c true data) s (s.setMover c
      { s.mover c with jobs := { j with got := [(data, false)] } :: rest })) ∧
  (∀ (s : State) (c : Fin 4) (data : List Byte) (j : MovJob) (rest : List MovJob), (s.mover c).jobs = j :: rest →
    j.running = true → sideOf (jobSrc j.jw) false = .host → j.done < j.asked → j.got = [] →
  j.ended = false → s.log.length < 32 →
    Gives (.moverHostReadDone c false data) s fun u =>
      u.mover c = { s.mover c with jobs := { j with status := 2, ended := true } :: rest } ∧
        u.fld F.HST_ERR_RDFAIL = 1 ∧
      (∃ l, u.log = s.log ++ [l] ∧ l.code = 0x0F ∧ l.unit = 42 ∧ l.detail = 0) ∧ u.mem = s.mem ∧ u.tags = s.tags) ∧
  (∀ (s : State) (c : Fin 4) (j : MovJob) (rest : List MovJob) (r : State) (k : MovJob), s.unitsAct c = true → (s.mover
  c).jobs = j :: rest → j.running = true → State.moverRows c (jobRows j.jw - j.done + 1) j s = (r, k) →
    Becomes (.moverJobComplete c) s
      (if k.ended then (r.setMover c { r.mover c with jobs := (r.mover c).jobs.drop 1 }).moverReport c j.port j.jw
        k.status k.done j.id
       else r.setMover c { r.mover c with jobs := k :: (r.mover c).jobs.drop 1 })) ∧
  (∀ (s : State) (c : Fin 4) (j : MovJob) (rest : List MovJob), s.unitsAct c = true → s.spOn c = true →
    (s.mover c).jobs =
  j :: rest → j.running = true → j.ended = false → j.status = 0 → j.port ≠ 2 → (s.mover c).cpl.length < 8 → j.done + 1 =
  jobRows j.jw → sideOf (jobSrc j.jw) false = .sp → sideOf (jobDst j.jw) true = .sp → (rowAt (jobSrc j.jw + j.done *
  0x200)).1 = c → (rowAt (jobDst j.jw + j.done * 0x200)).1 = c →
    let src := (rowAt (jobSrc j.jw + j.done * 0x200)).2
    let dst := (rowAt (jobDst j.jw + j.done * 0x200)).2
    Gives (.moverJobComplete c) s fun u => u.rowBytes c dst = s.rowBytes c src ∧
      u.tag c dst = (s.tag c src || j.iseal) ∧
      (∀ a, (a < rowAddr c dst ∨ rowAddr c dst + 384 ≤ a) → u.byte a = s.byte a) ∧ (u.mover c).jobs = rest ∧
      (u.mover c).cpl = (s.mover c).cpl ++ [{ tag := bitsOf j.jw.j1.toNat 16 6, status := 0, port := j.port, rows := j.done + 1 }] ∧
      u.regs = s.regs) ∧
  (∀ (s : State) (c : Nat) (j : MovJob), s.spOn c = true → sideOf (jobSrc j.jw) false = .sp →
    sideOf (jobDst j.jw) true =
  .host → (rowAt (jobSrc j.jw + j.done * 0x200)).1 = c → (s.tag c (rowAt (jobSrc j.jw + j.done * 0x200)).2 = true ∨
    j.iseal
  = true) →
    s.moverRow c j = .failed ((s.setMover c { s.mover c with sealedFlag := true }).refuseEgress F.SEAL_EGRCNT_HOST) 3) ∧
  (∀ (s : State) (ini : Initiator) (c : Fin 4), s.Takes ini (Reg.MOV_CPLPOP c) →
    Becomes (.movCplpop ini c) s (s.setMover c { s.mover c with cpl := (s.mover c).cpl.drop 1 }))

/-- A write of DFA_STARTp and an event start put a start last in a queue that has room; a pending change of owner
  turns a
write away with OWNPEND at every port, a full queue makes it wait, and an event start that finds the queue full is
  held or
returned as at a busy task. The oldest start that passes R382 runs from entry 0 with its ports loaded and CLR obeyed,
  one
that fails completes with status 1. A grant of a read port brings its next row, and the seal of it; one of a write port
writes its oldest full row with the array's seal. A flush fills up a partly filled row with zeros. The end of a
  timetable
zeroes the cells and ports of a sealed array and reports status 0. DFA_ABORT empties the queue, ends the run with
  status 2
and writes nothing; a load copies open rows to schedule memory; a write of schedule memory stores its word, is discarded
while its round or slot is in use, and validates its entry; DFA_CPLPOP removes the oldest completion; DFA_RSTSEED 0
loads 1. -/
def Obligations.DataflowCommands : Prop :=
  (∀ (s : State) (ini : Initiator) (c : Fin 4) (p : Fin 3) (v : Word), s.Takes ini (Reg.DFA_START c p) →
    s.fld (F.CLU_OWNER_PEND c) = 0 → s.dfaDepth c < 4 →
    let st : DfaStart := { slot := v.toNat % 4, tag := v.toNat / 4 % 64, notify := v.getLsbD 8, src := p, iseal := false, id := 0 }
    Becomes (.dfaStart ini c p v) s (s.setDfa c { s.dfa c with queue := (s.dfa c).queue ++ [st] })) ∧
  (∀ (s : State) (ini : Initiator) (c : Fin 4) (p : Fin 3) (v : Word), s.Takes ini (Reg.DFA_START c p) →
    s.fld (F.CLU_OWNER_PEND c) = 1 →
    Becomes (.dfaStart ini c p v) s (s.setFld (F.DFA_STATUS_OWNPEND c) 1)) ∧
  (∀ (s : State) (ini : Initiator) (c : Fin 4) (p : Fin 3) (v : Word), s.Takes ini (Reg.DFA_START c p) →
    s.fld (F.CLU_OWNER_PEND c) = 0 → 4 ≤ s.dfaDepth c →
    Becomes (.dfaStart ini c p v) s s) ∧
  (∀ (s : State) (c k : Fin 4), s.arriving.contains (32 + 4 * (c : Nat) + k) = true → s.domOn (domCL c) = true →
    s.dfaDepth
  c < 4 →
    let st : DfaStart := { slot := k, tag := k, notify := true, src := 3, iseal := false, id := 0 }
    Becomes (.dfaEventStart c k) s ({ s with arriving := s.arriving.erase (32 + 4 * (c : Nat) + k) }.setDfa c
      { s.dfa c with queue := (s.dfa c).queue ++ [st] })) ∧
  (∀ (s : State) (c k : Fin 4), s.arriving.contains (32 + 4 * (c : Nat) + k) = true → (s.domOn (domCL c) = false ∨ 4 ≤
  s.dfaDepth c) →
    Becomes (.dfaEventStart c k) s
      ({ s with arriving := s.arriving.erase (32 + 4 * (c : Nat) + k) }.holdArrival (32 + 4 * (c : Nat) + k))) ∧
  (∀ (s : State) (c k : Fin 4), s.arriving.contains (32 + 4 * (c : Nat) + k) = false →
    Becomes (.dfaEventStart c k) s s) ∧
  (∀ (s : State) (c : Fin 4) (st : DfaStart) (rest : List DfaStart) (e : Nat × Nat × Bool), s.unitsAct c = true → (s.dfa
  c).run = none → (s.dfa c).queue = st :: rest → (s.setDfa c { s.dfa c with queue := rest }).startOk c st.slot = true →
  (s.timetable c st.slot)[0]? = some e →
    Gives (.dfaTimetableStart c) s fun u => (u.dfa c).queue = rest ∧ (u.dfa c).sealedSt = st.iseal ∧
      (u.dfa c).writes = [] ∧
      (u.dfa c).run = some { start := st, entry := 0, iter := 0, step := 0, exh := false, ended := false } ∧
      (∀ q, q < 32 → bitOf (s.portDesc c e.1 q 1) 5 = false →
        (u.dfa c).port q = { pd0 := s.portDesc c e.1 q 0, pd1 := s.portDesc c e.1 q 1 }) ∧
      (u.dfa c).l = (if e.2.2 then [] else (s.dfa c).l) ∧ (u.dfa c).o = (if e.2.2 then [] else (s.dfa c).o) ∧
      u.regs = s.regs ∧ u.mem = s.mem ∧ u.tags = s.tags) ∧
  (∀ (s : State) (c : Fin 4) (st : DfaStart) (rest : List DfaStart), s.unitsAct c = true → (s.dfa c).run = none → (s.dfa
  c).queue = st :: rest → (s.setDfa c { s.dfa c with queue := rest }).startOk c st.slot = false → st.src ≠ 2 → (s.dfa
  c).cpl.length < 8 →
    Gives (.dfaTimetableStart c) s fun u => (u.dfa c).queue = rest ∧ (u.dfa c).run = none ∧
      (u.dfa c).cpl = (s.dfa c).cpl ++ [⟨st.tag, 1, st.slot, st.src, false, false⟩] ∧
      u.fld (F.DFA_STATUS_BADARG c) = 1 ∧ s.KeepsRegs u [Reg.DFA_STATUS c] ∧ u.mem = s.mem ∧ u.tags = s.tags) ∧
  (∀ (s : State) (c : Fin 4), (s.unitsAct c = false ∨ (s.dfa c).run ≠ none ∨ (s.dfa c).queue = []) →
    Becomes (.dfaTimetableStart c) s s) ∧
  (∀ (s : State) (c : Fin 4) (n : Fin 16) (p : Fin 2) (q : DfaPort), s.unitsAct c = true → (s.dfa c).writes = [] → q =
  (s.dfa c).port (2 * (n : Nat) + p) → q.en = true → q.writes = false → q.arrived < q.asked →
    Gives (.dfaRowArrival c n p) s fun u =>
      (u.dfa c).port (2 * (n : Nat) + p) =
        { q with arrived := q.arrived + 1, bufs := q.bufs ++ [(q.arrived, s.unitRow c (q.row q.arrived))] } ∧
      (∀ j, j ≠ 2 * (n : Nat) + p → (u.dfa c).port j = (s.dfa c).port j) ∧
      (u.dfa c).sealedSt = ((s.dfa c).sealedSt || s.unitTag c (q.row q.arrived)) ∧
      u.regs = s.regs ∧ u.mem = s.mem ∧ u.tags = s.tags) ∧
  (∀ (s : State) (c : Fin 4) (n : Fin 16) (p : Fin 2) (r : Nat) (bs : List Byte), s.unitsAct c = true →
    s.spOn c = true →
  (s.dfa c).writes = [(2 * (n : Nat) + p, r, bs)] → bs.length = 384 →
    Gives (.dfaRowArrival c n p) s fun u => (u.dfa c).writes = [] ∧ u.rowBytes c r = bs ∧
      u.tag c r = (s.dfa c).sealedSt ∧
      (∀ a, (a < rowAddr c r ∨ rowAddr c r + 384 ≤ a) → u.byte a = s.byte a) ∧ u.regs = s.regs) ∧
  (∀ (s : State) (c q : Nat) (p : DfaPort), p = (s.dfa c).port q → p.fill ≠ [] → (∀ j, j < 32 → ((s.dfa c).port j).en =
  false ∨ ((s.dfa c).port j).writes = true) →
    ((s.flushPort c q).dfa c).writes =
      (s.dfa c).writes ++ [(q, p.row (p.pos / p.perRow), p.fill ++ List.replicate (384 - p.fill.length) 0)] ∧
    (((s.flushPort c q).dfa c).port q).fill = [] ∧ (s.flushPort c q).mem = s.mem) ∧
  (∀ (s : State) (c : Fin 4) (r : DfaRun), s.unitsAct c = true → (s.dfa c).run = some r → r.ended = true →
    r.start.src ≠ 2 →
  (s.dfa c).cpl.length < 8 → (s.dfa c).writes = [] → (∀ q, q < 32 → ((s.dfa c).port q).fill = []) →
    Gives (.dfaTimetableComplete c) s fun u => (u.dfa c).run = none ∧ (u.dfa c).ports = [] ∧
      (u.dfa c).sealedSt = false ∧
      (u.dfa c).cpl = (s.dfa c).cpl ++ [⟨r.start.tag, 0, r.start.slot, r.start.src, (s.dfa c).sealedSt, r.exh⟩] ∧
      (u.dfa c).l = (if (s.dfa c).sealedSt then [] else (s.dfa c).l) ∧
      (u.dfa c).o = (if (s.dfa c).sealedSt then [] else (s.dfa c).o) ∧ u.regs = s.regs ∧ u.mem = s.mem ∧
      u.pulses = (if r.start.notify then s.pulses ++ [40 + c.val] else s.pulses)) ∧
  (∀ (s : State) (c : Fin 4) (r : DfaRun), s.unitsAct c = true → (s.dfa c).run = some r → r.ended = true →
    let f := ((List.range 32).foldl (fun u q => u.flushPort c q) s).writeRows c fun _ => true
    let w := (f.dfaWipe c).setDfa c { (f.dfaWipe c).dfa c with run := none }
    Becomes (.dfaTimetableComplete c) s (w.dfaReport c r.start 0 (f.dfa c).sealedSt r.exh)) ∧
  (∀ (s : State) (c : Fin 4) (r : DfaRun), (s.dfa c).run = some r → r.ended = false →
    Becomes (.dfaTimetableComplete c) s s) ∧
  (∀ (s : State) (ini : Initiator) (c : Fin 4) (r : DfaRun), s.Takes ini (Reg.DFA_ABORT c) → (s.dfa c).run = some r →
    (s.dfa
  c).queue = [] → r.start.src ≠ 2 → (s.dfa c).cpl.length < 8 →
    Gives (.dfaAbort ini c) s fun u => (u.dfa c).run = none ∧ (u.dfa c).queue = [] ∧ (u.dfa c).ports = [] ∧
      (u.dfa c).writes = [] ∧ (u.dfa c).sealedSt = false ∧
      (u.dfa c).cpl = (s.dfa c).cpl ++ [⟨r.start.tag, 2, r.start.slot, r.start.src, (s.dfa c).sealedSt, r.exh⟩] ∧
      (u.dfa c).l = (if (s.dfa c).sealedSt then [] else (s.dfa c).l) ∧ u.regs = s.regs ∧ u.mem = s.mem ∧
        u.tags = s.tags) ∧
  (∀ (s : State) (ini : Initiator) (c : Fin 4) (st : DfaStart), s.Takes ini (Reg.DFA_ABORT c) → (s.dfa c).queue = [st] →
  (s.dfa c).run = none →
    Becomes (.dfaAbort ini c) s ((s.setDfa c { s.dfa c with queue := [] }).dfaReport c st 2 false false)) ∧
  (∀ (s : State) (ini : Initiator) (c : Fin 4), s.Takes ini (Reg.DFA_LOADCMD c) → (s.dfa c).load = none → s.fld
  (F.DFA_LOAD0_NROWS c) ≠ 0 → s.fld (F.DFA_LOAD0_SRCROW c) + s.fld (F.DFA_LOAD0_NROWS c) ≤ 4096 →
    Becomes (.dfaLoad ini c) s (s.setDfa c { s.dfa c with load := some ⟨s.fld (F.DFA_LOAD0_SRCROW c), s.fld (F.DFA_LOAD0_NROWS c),
      s.fld (F.DFA_LOAD1_WIDX c)⟩ })) ∧
  (∀ (s : State) (ini : Initiator) (c : Fin 4), s.Takes ini (Reg.DFA_LOADCMD c) → (s.dfa c).load = none → (s.fld
  (F.DFA_LOAD0_NROWS c) = 0 ∨ 4096 < s.fld (F.DFA_LOAD0_SRCROW c) + s.fld (F.DFA_LOAD0_NROWS c)) →
    Becomes (.dfaLoad ini c) s (s.setFld (F.DFA_STATUS_BADARG c) 1)) ∧
  (∀ (s : State) (c : Fin 4) (l : DfaLoad), s.unitsAct c = true → (s.dfa c).load = some l →
    let r := State.loadRows c l l.rows 0 s
    Becomes (.dfaLoadEnd c) s (r.setDfa c { r.dfa c with load := none })) ∧
  (∀ (s : State) (c : Fin 4) (l : DfaLoad), s.unitsAct c = true → (s.dfa c).load = some l → l.rows = 1 → l.widx + 128 ≤
  65536 → s.unitTag c l.src = false → (s.dfa c).run = none → (s.dfa c).queue = [] →
    Gives (.dfaLoadEnd c) s fun u => (u.dfa c).load = none ∧ u.regs = s.regs ∧ u.tags = s.tags ∧
      ∀ w, w < 128 → u.sched c (4 * (l.widx + w)) = laneAt (s.unitRow c l.src) 3 w) ∧
  (∀ (s : State) (c n i : Nat) (l : DfaLoad), s.unitTag c (l.src + i) = true →
    State.loadRows c l (n + 1) i s = s.setFld (F.DFA_STATUS_LDSEAL c) 1) ∧
  (∀ (s : State) (ini : Initiator) (c : Fin 4) (i : Fin 131072) (v : Word), s.Takes ini (schedBase c + 4 * i) →
    schedPlace
  (4 * (i : Nat)) = .none →
    Becomes (.scheduleWrite ini c i v) s s) ∧
  (∀ (s : State) (ini : Initiator) (c : Fin 4) (i : Fin 131072) (v : Word), s.Takes ini (schedBase c + 4 * i) →
    schedPlace
  (4 * (i : Nat)) ≠ .none → s.schedInUse c (schedPlace (4 * (i : Nat))) = true →
    Becomes (.scheduleWrite ini c i v) s (s.setFld (F.DFA_STATUS_LOADBUSY c) 1)) ∧
  (∀ (s : State) (ini : Initiator) (c : Fin 4) (i : Fin 131072) (v : Word), s.Takes ini (schedBase c + 4 * i) →
    schedPlace
  (4 * (i : Nat)) ≠ .none → s.schedInUse c (schedPlace (4 * (i : Nat))) = false →
    Gives (.scheduleWrite ini c i v) s fun u => u.sched c (4 * i) = v.toNat ∧
      (∀ a, (a < schedBase c + 4 * i ∨ schedBase c + 4 * i + 3 ≤ a) → u.byte a = s.byte a) ∧ u.regs = s.regs ∧
      u.tags = s.tags ∧
      (∀ k, schedPlace (4 * (i : Nat)) = .entry k → tabGet (fun _ => false) (u.dfa c).bad k = !(u.dfaEntry c k).valid) ∧
      (∀ k, schedPlace (4 * (i : Nat)) ≠ .entry k →
        tabGet (fun _ => false) (u.dfa c).bad k = tabGet (fun _ => false) (s.dfa c).bad k)) ∧
  (
    (dfaFields 0 0).valid = true) ∧
  (∀ (s : State) (ini : Initiator) (c : Fin 4), s.Takes ini (Reg.DFA_CPLPOP c) →
    Becomes (.dfaCplpop ini c) s (s.setDfa c { s.dfa c with cpl := (s.dfa c).cpl.drop 1 })) ∧
  (∀ (s : State) (ini : Initiator) (c : Fin 4) (v : Word), s.Takes ini (Reg.DFA_RSTSEED c) →
    Becomes (.dfaRstseedWrite ini c v) s (s.setFld (F.DFA_RSTSEED_STATE c) (if v = 0 then 1 else v.toNat))) ∧
  (∀ (s : State) (c : Nat) (st : DfaStart) (status : Nat) (sd exh : Bool), st.src ≠ 2 → 8 ≤ (s.dfa c).cpl.length →
    s.dfaReport c st status sd exh =
      ((if st.notify then s.fire (40 + c) else s).incFld (F.DFA_CPLCNT_OVF c) 1).setFld (F.DFA_STATUS_CPLOVF c) 1)

/-- A step runs when every head its entries read or pop is present and every port they push to has room: the sixteen
  results are formed from the values
before the step, clamps are counted while the array is open, the LFSR goes on, the results are stored, and the
timetable moves to the next step, iteration, round switch or to its end. The cycle of a round switch turns to the next
entry, its ports loaded, a continued port keeping its place with the new EN. A step that cannot run stalls, counted
  while the
array is open. Without saturation MOV, the sums and differences, the minima and maxima, the logical functions, the
shifts, the products, the compares and the selection give what Table DFA-3 gives, where their shift is 0 or truncates;
a saturating sum above the range gives its greatest value. -/
def Obligations.DataflowStep : Prop :=
  (∀ (s : State) (c : Fin 4) (r : DfaRun), s.unitsAct c = true → (s.dfa c).run = some r → r.ended = false → r.switching
  = false → (∀ n : Nat, n < 16 → (s.dfa c).ready n (s.dfaEntry c (((((s.timetable c r.start.slot).getD r.entry (0, 1,
    false)).1 * 256 +
  r.step) * 16) + n)) = true) →
    let q := s.dfaResults c ((((s.timetable c r.start.slot).getD r.entry (0, 1, false)).1 * 256 + r.step) * 16)
    Becomes (.dfaStep c) s ((q.1.foldl (State.dfaStore c) ((s.dfaSat c q.2.1).setFld (F.DFA_RSTSEED_STATE c)
      q.2.2)).dfaAdvance c r)) ∧
  (∀ (s : State) (c : Fin 4) (r : DfaRun) (n : Nat), s.unitsAct c = true → (s.dfa c).run = some r → r.ended = false →
  r.switching = false → n < 16 → (s.dfa c).ready n (s.dfaEntry c (((((s.timetable c r.start.slot).getD r.entry (0, 1,
    false)).1 * 256 +
  r.step) * 16) + n)) = false →
    Becomes (.dfaStep c) s (if (s.dfa c).sealedSt then s else s.incFld (F.DFA_STALLCNT_COUNT c) 1)) ∧
  (∀ (d : Dfa) (n p : Nat) (e : DfaEntry), p < 2 → (((e.reads p || e.pops p) = true ∧
    (d.port (2 * n + p)).present = false) ∨
  (e.pushes p = true ∧ d.room (2 * n + p) = false)) →
    d.ready n e = false) ∧
  (∀ (s : State) (c : Fin 4) (r : DfaRun) (e : Nat × Nat × Bool), s.unitsAct c = true → (s.dfa c).run = some r →
    r.ended =
  false → r.switching = true → (s.timetable c r.start.slot)[r.entry + 1]? = some e → (∀ q, q < 32 →
    ((s.dfa c).port q).fill =
  []) →
    Gives (.dfaStep c) s fun u =>
      (u.dfa c).run = some { r with step := 0, iter := 0, entry := r.entry + 1, switching := false } ∧
      (∀ q, q < 32 → bitOf (s.portDesc c e.1 q 1) 5 = false →
        (u.dfa c).port q = { pd0 := s.portDesc c e.1 q 0, pd1 := s.portDesc c e.1 q 1 }) ∧
      (∀ q, q < 32 → bitOf (s.portDesc c e.1 q 1) 5 = true → ((u.dfa c).port q).en = bitOf (s.portDesc c e.1 q 1) 4 ∧
        ((u.dfa c).port q).pos = ((s.dfa c).port q).pos) ∧
      (u.dfa c).l = (if e.2.2 then [] else (s.dfa c).l) ∧ u.regs = s.regs ∧ u.mem = s.mem) ∧
  (∀ (s : State) (c : Fin 4), ((s.dfa c).run = none ∨ s.unitsAct c = false) →
    Becomes (.dfaStep c) s s) ∧
  (∀ (s : State) (c : Nat) (r : DfaRun), (s.dfa c).run = some r → r.step + 1 < s.roundLen c ((s.timetable c
  r.start.slot).getD r.entry (0, 1, false)).1 →
    s.dfaAdvance c r = s.setDfa c { s.dfa c with run := some { r with step := r.step + 1 } }) ∧
  (∀ (s : State) (c : Nat) (r : DfaRun), (s.dfa c).run = some r → s.roundLen c ((s.timetable c r.start.slot).getD
  r.entry (0, 1, false)).1 ≤ r.step + 1 → r.iter + 1 < ((s.timetable c r.start.slot).getD r.entry (0, 1, false)).2.1 →
    s.dfaAdvance c r = s.setDfa c { s.dfa c with run := some { r with step := 0, iter := r.iter + 1 } }) ∧
  (∀ (s : State) (c : Nat) (r : DfaRun), (s.dfa c).run = some r → s.roundLen c ((s.timetable c r.start.slot).getD
  r.entry (0, 1, false)).1 ≤ r.step + 1 → ((s.timetable c r.start.slot).getD r.entry (0, 1, false)).2.1 ≤ r.iter + 1 →
  r.entry + 1 < (s.timetable c r.start.slot).length →
    s.dfaAdvance c r = s.setDfa c { s.dfa c with run := some { r with switching := true } }) ∧
  (∀ (s : State) (c : Nat) (r : DfaRun), (s.dfa c).run = some r → s.roundLen c ((s.timetable c r.start.slot).getD
  r.entry (0, 1, false)).1 ≤ r.step + 1 → ((s.timetable c r.start.slot).getD r.entry (0, 1, false)).2.1 ≤ r.iter + 1 →
  (s.timetable c r.start.slot).length ≤ r.entry + 1 →
    s.dfaAdvance c r = s.setDfa c { s.dfa c with run := some { r with ended := true } }) ∧
  (∀ (e : DfaEntry) (a b d o : Word) (l : Nat), e.sat = false →
    (e.op = 0x01 → dfaOp e a b d o l = (a, false, l)) ∧
    (e.op = 0x02 → dfaOp e a b d o l = (a + b, false, l)) ∧
    (e.op = 0x03 → dfaOp e a b d o l = (a - b, false, l)) ∧
    (e.op = 0x05 → dfaOp e a b d o l = (if a.slt b then a else b, false, l)) ∧
    (e.op = 0x06 → dfaOp e a b d o l = (if a.slt b then b else a, false, l)) ∧
    (e.op = 0x07 → dfaOp e a b d o l = (a &&& b, false, l)) ∧
    (e.op = 0x08 → dfaOp e a b d o l = (a ||| b, false, l)) ∧
    (e.op = 0x09 → dfaOp e a b d o l = (a ^^^ b, false, l)) ∧
    (e.op = 0x0A → dfaOp e a b d o l = (a <<< e.sh, false, l)) ∧
    (e.op = 0x0B → e.rm = 0 → e.sh < 24 → dfaOp e a b d o l = (a.sshiftRight e.sh, false, l)) ∧
    (e.op = 0x0C → e.sh = 0 → dfaOp e a b d o l = (a * b, false, l)) ∧
    (e.op = 0x0D → e.sh = 0 → dfaOp e a b d o l = (d + a * b, false, l)) ∧
    (e.op = 0x0F → dfaOp e a b d o l = (if a.slt b then 1 else 0, false, l)) ∧
    (e.op = 0x10 → dfaOp e a b d o l = (if a = b then 1 else 0, false, l)) ∧
    (e.op = 0x11 → dfaOp e a b d o l = (if o = 0 then b else a, false, l))) ∧
  (∀ (e : DfaEntry) (a b d o : Word) (l : Nat), e.op = 0x02 → e.sat = true → 8388607 < a.toInt + b.toInt →
    dfaOp e a b d o l = (0x7FFFFF, true, l))

/-- A running core that executes ADDI, ANDI, ORI, XORI, TLTI, SHI or LIH writes rd with the value Table CORE-3 gives,
ALU with the value Table CORE-4 gives; the pc goes to the next instruction, INSTRET counts it, and nothing else of the
core or of the part changes, but SATCNT at a saturated division. A write of g0 is discarded. A function or a shift
outside the tables raises ILLEGAL. -/
def Obligations.CoreIntegers : Prop :=
  (∀ (s : State) (k : Fin 5) (rd rs1 : Fin 16) (imm : BitVec 10), s.coreRuns k = true →
    Becomes (.addi k rd rs1 imm) s (s.setCore k ((s.core k).setReg rd (((s.core k).reg rs1) + imm.signExtend
      24)).next.retired)) ∧
  (∀ (s : State) (k : Fin 5) (rd rs1 : Fin 16) (imm : BitVec 10), s.coreRuns k = true →
    Becomes (.andi k rd rs1 imm) s (s.setCore k ((s.core k).setReg rd (((s.core k).reg rs1) &&& imm.signExtend
      24)).next.retired)) ∧
  (∀ (s : State) (k : Fin 5) (rd rs1 : Fin 16) (imm : BitVec 10), s.coreRuns k = true →
    Becomes (.ori k rd rs1 imm) s (s.setCore k ((s.core k).setReg rd (((s.core k).reg rs1) ||| imm.zeroExtend
      24)).next.retired)) ∧
  (∀ (s : State) (k : Fin 5) (rd rs1 : Fin 16) (imm : BitVec 10), s.coreRuns k = true →
    Becomes (.xori k rd rs1 imm) s (s.setCore k ((s.core k).setReg rd (((s.core k).reg rs1) ^^^ imm.zeroExtend
      24)).next.retired)) ∧
  (∀ (s : State) (k : Fin 5) (rd rs1 : Fin 16) (imm : BitVec 10), s.coreRuns k = true →
    Becomes (.tlti k rd rs1 imm) s (s.setCore k ((s.core k).setReg rd (if ((s.core k).reg rs1).toInt < imm.toInt then
      1 else 0)).next.retired)) ∧
  (∀ (s : State) (k : Fin 5) (rd : Fin 16) (imm : BitVec 14), s.coreRuns k = true →
    Becomes (.lih k rd imm) s (s.setCore k ((s.core k).setReg rd (imm.zeroExtend 24 <<< 10)).next.retired)) ∧
  (∀ (s : State) (k : Fin 5) (rd rs1 : Fin 16) (kind : Fin 3) (n : Fin 24), s.coreRuns k = true →
    Becomes (.shi k rd rs1 (BitVec.ofNat 10 (256 * kind + n))) s (s.setCore k ((s.core k).setReg rd
      (if kind = 0 then ((s.core k).reg rs1) <<< (n : Nat) else if kind = 1 then ((s.core k).reg rs1) >>> (n : Nat)
        else ((s.core k).reg rs1).sshiftRight n)).next.retired)) ∧
  (∀ (s : State) (k : Fin 5) (rd rs1 : Fin 16) (imm : BitVec 10), s.coreRuns k = true → (23 < imm.toNat % 32 ∨
  imm.toNat / 32 % 8 ≠ 0 ∨ imm.toNat / 256 = 3) →
    Becomes (.shi k rd rs1 imm) s (s.illegal k)) ∧
  (∀ (s : State) (k : Fin 5) (fn : Fin 64) (rd rs1 rs2 : Fin 16) (v : Word), s.coreRuns k = true → Machine.alu fn
  ((s.core k).reg rs1) ((s.core k).reg rs2) rs2 = some (v, false) →
    Becomes (.alu k fn rd rs1 rs2) s (s.setCore k ((s.core k).setReg rd v).next.retired)) ∧
  (∀ (s : State) (k : Fin 5) (fn : Fin 64) (rd rs1 rs2 : Fin 16) (v : Word), s.coreRuns k = true → Machine.alu fn
  ((s.core k).reg rs1) ((s.core k).reg rs2) rs2 = some (v, true) →
    Becomes (.alu k fn rd rs1 rs2) s (s.setCore k (((s.core k).countSat 1).setReg rd v).next.retired)) ∧
  (∀ (s : State) (k : Fin 5) (fn : Fin 64) (rd rs1 rs2 : Fin 16), s.coreRuns k = true → (fn ∈ [14, 15, 19] ∨ 26 < (fn
  : Nat) ∨ (23 < (fn : Nat) ∧ rs2 ≠ 0)) →
    Becomes (.alu k fn rd rs1 rs2) s (s.illegal k)) ∧
  (∀ (c : CoreSt), c.stepping = false → c.haltWait = false →
    c.retired = c.setCsr 0x01A (c.csrOf 0x01A + 1)) ∧
  (∀ (c : CoreSt) (v : Word),
    c.setReg 0 v = c ∧ c.reg 0 = 0)

/-- ADD, SUB and the logical functions act on the words modulo 2^24; SHL, SHRU and SHRS shift by the low five bits of
rs2, to 0 from 24 on but SHRS by at most 23; the compares give 1 or 0, the minima and maxima one of the operands; MUL,
MULX and MULXU give the low or high half of the product; DIV and DIVU the quotient truncated toward zero, saturated
and counted for a divisor of zero and for -2^23 by -1; RMD and RMDU the exact remainder with the dividend's sign, 0
for a divisor of zero; SX12 the sign-extended low half. -/
def Obligations.AluResults : Prop :=
  (∀ (x y : Word) (n : Nat),
    alu 0x00 x y n = some (x + y, false)) ∧
  (∀ (x y : Word) (n : Nat),
    alu 0x01 x y n = some (x - y, false)) ∧
  (∀ (x y : Word) (n : Nat),
    alu 0x02 x y n = some (x &&& y, false)) ∧
  (∀ (x y : Word) (n : Nat),
    alu 0x03 x y n = some (x ||| y, false)) ∧
  (∀ (x y : Word) (n : Nat),
    alu 0x04 x y n = some (x ^^^ y, false)) ∧
  (∀ (x y : Word) (n : Nat),
    alu 0x05 x y n = some (x <<< (y.toNat % 32), false)) ∧
  (∀ (x y : Word) (n : Nat),
    alu 0x06 x y n = some (x >>> (y.toNat % 32), false)) ∧
  (∀ (x y : Word) (n : Nat),
    alu 0x07 x y n = some (x.sshiftRight (min (y.toNat % 32) 23), false)) ∧
  (∀ (x y : Word) (n : Nat),
    alu 0x08 x y n = some (if x.slt y then 1 else 0, false)) ∧
  (∀ (x y : Word) (n : Nat),
    alu 0x09 x y n = some (if x.ult y then 1 else 0, false)) ∧
  (∀ (x y : Word) (n : Nat),
    alu 0x0A x y n = some (if x.slt y then x else y, false)) ∧
  (∀ (x y : Word) (n : Nat),
    alu 0x0B x y n = some (if x.slt y then y else x, false)) ∧
  (∀ (x y : Word) (n : Nat),
    alu 0x0C x y n = some (if x.ult y then x else y, false)) ∧
  (∀ (x y : Word) (n : Nat),
    alu 0x0D x y n = some (if x.ult y then y else x, false)) ∧
  (∀ (x y : Word) (n : Nat),
    alu 0x10 x y n = some (x * y, false)) ∧
  (∀ (x y : Word) (n : Nat),
    alu 0x11 x y n = some ((x.signExtend 48 * y.signExtend 48).extractLsb' 24 24, false)) ∧
  (∀ (x y : Word) (n : Nat),
    alu 0x12 x y n = some ((x.zeroExtend 48 * y.zeroExtend 48).extractLsb' 24 24, false)) ∧
  (∀ (x y : Word) (n : Nat), y ≠ 0 → (¬(x = 0x800000 ∧ y = 0xFFFFFF)) →
    alu 0x14 x y n = some (x.sdiv y, false)) ∧
  (∀ (x : Word) (n : Nat),
    alu 0x14 x 0 n = some (if x.slt 0 then 0x800000 else 0x7FFFFF, true)) ∧
  (∀ (n : Nat),
    alu 0x14 0x800000 0xFFFFFF n = some (0x7FFFFF, true)) ∧
  (∀ (x y : Word) (n : Nat), y ≠ 0 →
    alu 0x15 x y n = some (x / y, false)) ∧
  (∀ (x : Word) (n : Nat),
    alu 0x15 x 0 n = some (0xFFFFFF, true)) ∧
  (∀ (x y : Word) (n : Nat), y ≠ 0 →
    alu 0x16 x y n = some (x.srem y, false)) ∧
  (∀ (x y : Word) (n : Nat), y ≠ 0 →
    alu 0x17 x y n = some (x % y, false)) ∧
  (∀ (x : Word) (n : Nat),
    alu 0x16 x 0 n = some (0, false) ∧ alu 0x17 x 0 n = some (0, false)) ∧
  (∀ (x : Word) (n : Nat), n ≤ 24 → x.toNat < 2 ^ (24 - n) → (n = 24 ∨ 2 ^ (23 - n) ≤ x.toNat) →
    alu 0x18 x 0 0 = some (BitVec.ofNat 24 n, false)) ∧
  (∀ (x : Word) (n : Nat), n ≤ 23 → -(2 ^ (23 - n)) ≤ x.toInt → x.toInt < 2 ^ (23 - n) → (n = 23 ∨ x.toInt < -(2 ^ (22
  - n)) ∨ 2 ^ (22 - n) ≤ x.toInt) →
    alu 0x19 x 0 0 = some (BitVec.ofNat 24 n, false)) ∧
  (∀ (x : Word),
    alu 0x1A x 0 0 = some ((x.truncate 12).signExtend 24, false))

/-- A branch whose condition holds goes to its own address plus the offset, modulo 2^16, another to the next
instruction; nothing but the pc and INSTRET changes. CB branches compare two registers, CZ branches a register with a
sign-extended constant, or an unsigned one in CZLTU and CZGEU. CALL and CALLR write the next address to rd and go to
their target, which CALLR forms from rs1 before rd is written. -/
def Obligations.CoreBranches : Prop :=
  (∀ (s : State) (k : Fin 5) (n : Fin 6) (rs1 rs2 : Fin 16) (off : BitVec 10), s.coreRuns k = true →
    let c := s.core k
    let x := c.reg rs1
    let y := c.reg rs2
    let taken := match (n : Nat) with
      | 0 => decide (x = y) | 1 => decide (x ≠ y) | 2 => x.slt y | 3 => !x.slt y | 4 => x.ult y | _ => !x.ult y
    Becomes (.cbBranch k n rs1 rs2 off) s (s.setCore k
      { c with pc := if taken then c.pc + off.signExtend 16 else c.pc + 1 }.retired)) ∧
  (∀ (s : State) (k : Fin 5) (n : Fin 6) (rs1 : Fin 16) (imm : BitVec 4) (off : BitVec 10), s.coreRuns k = true →
    let c := s.core k
    let x := c.reg rs1
    let y := if (n : Nat) < 4 then imm.signExtend 24 else imm.zeroExtend 24
    let taken := match (n : Nat) with
      | 0 => decide (x = y) | 1 => decide (x ≠ y) | 2 => x.slt y | 3 => !x.slt y | 4 => x.ult y | _ => !x.ult y
    Becomes (.czBranch k n rs1 imm off) s (s.setCore k
      { c with pc := if taken then c.pc + off.signExtend 16 else c.pc + 1 }.retired)) ∧
  (∀ (s : State) (k : Fin 5) (rd : Fin 16) (off : BitVec 14), s.coreRuns k = true →
    let c := s.core k
    Becomes (.call k rd off) s (s.setCore k { c.setReg rd ((c.pc + 1).zeroExtend 24) with pc := c.pc + off.signExtend 16 }.retired)) ∧
  (∀ (s : State) (k : Fin 5) (rd rs1 : Fin 16) (imm : BitVec 10), s.coreRuns k = true →
    let c := s.core k
    Becomes (.callr k rd rs1 imm) s (s.setCore k { c.setReg rd ((c.pc + 1).zeroExtend 24) with
      pc := (c.reg rs1 + imm.signExtend 24).truncate 16 }.retired))

/-- QMUL and ACCX shift the exact product or accumulator right by their amount, round it and fit it to 24 bits; QSH to
the left fits the exact shifted value; ACC reads, writes, clears, clamps and adds the accumulators as its table gives;
HOP writes what its function gives, which adds, packs and takes apart the halves of words. What the tables do not list
raises ILLEGAL. -/
def Obligations.CoreFixedPoint : Prop :=
  (∀ (s : State) (k : Fin 5) (rd rs1 rs2 : Fin 16) (rm : Fin 4) (sat : Bool) (sub : Fin 8) (sh : Nat), s.coreRuns k =
  true → qShift sub = some sh →
    let q := (s.core k).rounded (((s.core k).reg rs1).toInt * ((s.core k).reg rs2).toInt) sh rm
    Becomes (.qmul k rd rs1 rs2 rm sat sub) s (s.setCore k (q.2.putFit rd q.1 sat).next.retired)) ∧
  (
    [0, 1, 2, 3, 4, 5, 6, 7].map qShift = [some 0, some 23, some 19, some 15, some 24, none, none, none]) ∧
  (∀ (s : State) (k : Fin 5) (rd rs1 rs2 : Fin 16) (rm : Fin 4) (sat : Bool) (sub : Fin 8), s.coreRuns k = true → 4 <
  (sub : Nat) →
    Becomes (.qmul k rd rs1 rs2 rm sat sub) s (s.illegal k)) ∧
  (∀ (s : State) (k : Fin 5) (rd rs1 rs2 : Fin 16) (rm : Fin 4) (sat : Bool) (sub : Fin 8), s.coreRuns k = true → (rm
  ≠ 0 ∨ 3 < (sub : Nat) ∨ (1 < (sub : Nat) ∧ rs2 ≠ 0)) →
    Becomes (.qadd k rd rs1 rs2 rm sat sub) s (s.illegal k)) ∧
  (∀ (s : State) (k : Fin 5) (rd rs1 rs2 : Fin 16) (rm : Fin 4) (sat : Bool), s.coreRuns k = true →
    let a := min (((s.core k).reg rs2).toNat % 32) 24
    let q := (s.core k).rounded ((s.core k).reg rs1).toInt a rm
    Becomes (.qsh k rd rs1 rs2 rm sat 0) s (s.setCore k (q.2.putFit rd q.1 sat).next.retired) ∧
    Becomes (.qsh k rd rs1 rs2 0 sat 1) s (s.setCore k ((s.core k).putFit rd (((s.core k).reg rs1).toInt * 2 ^ a)
      sat).next.retired)) ∧
  (∀ (s : State) (k : Fin 5) (rd rs1 rs2 : Fin 16) (rm : Fin 4) (sat : Bool) (sub : Fin 8), s.coreRuns k = true → (1 <
  (sub : Nat) ∨ (sub = 1 ∧ rm ≠ 0)) →
    Becomes (.qsh k rd rs1 rs2 rm sat sub) s (s.illegal k)) ∧
  (∀ (s : State) (k : Fin 5) (rd rs1 rs2 : Fin 16) (rm : Fin 4) (sat : Bool) (sub : Fin 8), s.coreRuns k = true → (rm
  ≠ 0 ∨ 7 < (rd : Nat) ∨ 1 < (sub : Nat)) →
    Becomes (.mac k rd rs1 rs2 rm sat sub) s (s.illegal k)) ∧
  (∀ (s : State) (k : Fin 5) (rd rs1 rs2 : Fin 16) (rm : Fin 4) (sat : Bool) (sub : Fin 8) (sh : Nat), s.coreRuns k =
  true → (rs1 : Nat) < 2 → (if sub = 5 then sh = min (((s.core k).reg rs2).toNat % 64) 47 else (rs2 = 0 ∧ qShift sub =
  some sh)) →
    let q := (s.core k).rounded ((s.core k).acc rs1) sh rm
    Becomes (.accx k rd rs1 rs2 rm sat sub) s (s.setCore k (q.2.putFit rd q.1 sat).next.retired)) ∧
  (∀ (s : State) (k : Fin 5) (rd rs1 rs2 : Fin 16) (rm : Fin 4) (sat : Bool) (sub : Fin 8), s.coreRuns k = true → (1 <
  (rs1 : Nat) ∨ 5 < (sub : Nat) ∨ (sub ≠ 5 ∧ rs2 ≠ 0)) →
    Becomes (.accx k rd rs1 rs2 rm sat sub) s (s.illegal k)) ∧
  (∀ (s : State) (k : Fin 5) (rd rs1 rs2 : Fin 16) (fn : Fin 64) (c : CoreSt), s.coreRuns k = true → (rs2 : Nat) < 2 →
  accFn fn rs2 rd rs1 (s.core k) = some c →
    Becomes (.acc k rd rs1 rs2 fn) s (s.setCore k c.next.retired)) ∧
  (∀ (c : CoreSt) (x r : Fin 16), (x : Nat) < 2 →
    let v := unsigned 56 (c.acc x)
    let w := (c.reg r).toNat
    accFn 0 x r 0 c = some (c.setReg r (BitVec.ofNat 24 v)) ∧
    accFn 1 x r 0 c = some (c.setReg r (BitVec.ofNat 24 (v / 2 ^ 24))) ∧
    accFn 2 x r 0 c = some (c.setReg r ((BitVec.ofNat 8 (v / 2 ^ 48)).signExtend 24)) ∧
    accFn 3 x 0 r c = some (c.setAcc x (putBits v 0 24 w : Nat)) ∧
    accFn 4 x 0 r c = some (c.setAcc x (putBits v 24 24 w : Nat)) ∧
    accFn 5 x 0 r c = some (c.setAcc x (putBits v 48 8 w : Nat)) ∧
    accFn 6 x 0 0 c = some (c.setAcc x 0) ∧
    accFn 7 x 0 0 c = some ((if -(2 ^ 47) ≤ c.acc x ∧ c.acc x < 2 ^ 47 then c else c.countSat 1).setAcc x
      (max (-(2 ^ 47)) (min (2 ^ 47 - 1) (c.acc x)))) ∧
    accFn 8 x 0 0 c = some (c.setAcc x (c.acc x + c.acc (1 - x))) ∧
    accFn 9 x 0 r c = some (c.setAcc x (c.reg r).toInt)) ∧
  (∀ (s : State) (k : Fin 5) (rd rs1 rs2 : Fin 16) (fn : Fin 64), s.coreRuns k = true → (1 < (rs2 : Nat) ∨ 9 < (fn :
  Nat) ∨ ((fn : Nat) ≤ 2 ∧ rs1 ≠ 0) ∨ (3 ≤ (fn : Nat) ∧ rd ≠ 0) ∨ (6 ≤ (fn : Nat) ∧ (fn : Nat) ≤ 8 ∧ rs1 ≠ 0)) →
    Becomes (.acc k rd rs1 rs2 fn) s (s.illegal k)) ∧
  (∀ (s : State) (k : Fin 5) (rd rs1 rs2 : Fin 16) (rm : Fin 4) (sat : Bool) (sub : Fin 8) (r : Word × CoreSt),
  s.coreRuns k = true → hopFn sub rs2 rm sat ((s.core k).reg rs1) ((s.core k).reg rs2) (s.core k) = some r →
    Becomes (.hop k rd rs1 rs2 rm sat sub) s (s.setCore k (r.2.setReg rd r.1).next.retired)) ∧
  (∀ (x y : Word) (c : CoreSt),
    hopFn 0 0 0 false x y c = some (BitVec.ofNat 24 ((x.toNat + y.toNat) % 4096 + 4096 * ((x.toNat / 4096 + y.toNat /
      4096) % 4096)), c) ∧
    hopFn 3 0 0 false x y c = some (BitVec.ofNat 24 (x.toNat % 4096 + 4096 * (y.toNat % 4096)), c) ∧
    hopFn 4 0 0 false x y c = some ((x.truncate 12).signExtend 24, c) ∧
    hopFn 5 0 0 false x y c = some (x.sshiftRight 12, c)) ∧
  (∀ (s : State) (k : Fin 5) (rd rs1 rs2 : Fin 16) (rm : Fin 4) (sat : Bool) (sub : Fin 8), s.coreRuns k = true → (5 <
  (sub : Nat) ∨ (sub ≠ 2 ∧ rm ≠ 0) ∨ (3 ≤ (sub : Nat) ∧ sat = true) ∨ (4 ≤ (sub : Nat) ∧ rs2 ≠ 0)) →
    Becomes (.hop k rd rs1 rs2 rm sat sub) s (s.illegal k))

/-- CSRR reads a CSR to rd; CSRW, CSRSET and CSRCLR also write it by its access code, in sealed state not at all but
with the write counted. NOP goes on; TEND ends the task in IDLE, in sealed state through the wipe; PARK waits unless
TPEND is not 0; XBACK returns to XPC; DRAIN goes on once every store is accepted; BRK raises its exception or halts.
An exception saves the pc and its cause and goes to XVEC; in sealed state it ends the task through the wipe and leaves
no pc; inside an exception it leaves the core in FAULT. A legal word stands for one command, whose encoding it is; any
other word is the illegal instruction. -/
def Obligations.CoreCsrAndSystem : Prop :=
  (∀ (s : State) (k : Fin 5) (rd : Fin 16) (imm : BitVec 10), s.coreRuns k = true → csrListed imm.toNat = true →
    Becomes (.csrr k rd 0 imm) s (s.setCore k ((s.core k).setReg rd (s.csr k imm.toNat)).next.retired)) ∧
  (∀ (s : State) (k : Fin 5) (rd rs1 : Fin 16) (imm : BitVec 10), s.coreRuns k = true → csrListed imm.toNat = true →
  (s.core k).sealedSt = false →
    let t := s.csr k imm.toNat
    Becomes (.csrw k rd rs1 imm) s (s.setCore k
      (((s.core k).writeCsr imm.toNat (((s.core k).reg rs1))).setReg rd t).next.retired)) ∧
  (∀ (s : State) (k : Fin 5) (rd rs1 : Fin 16) (imm : BitVec 10), s.coreRuns k = true → csrListed imm.toNat = true →
  (s.core k).sealedSt = false →
    let t := s.csr k imm.toNat
    Becomes (.csrset k rd rs1 imm) s (s.setCore k
      (((s.core k).writeCsr imm.toNat (t ||| ((s.core k).reg rs1))).setReg rd t).next.retired)) ∧
  (∀ (s : State) (k : Fin 5) (rd rs1 : Fin 16) (imm : BitVec 10), s.coreRuns k = true → csrListed imm.toNat = true →
  (s.core k).sealedSt = false →
    let t := s.csr k imm.toNat
    Becomes (.csrclr k rd rs1 imm) s (s.setCore k
      (((s.core k).writeCsr imm.toNat (t &&& ~~~((s.core k).reg rs1))).setReg rd t).next.retired)) ∧
  (∀ (s : State) (k : Fin 5) (rd rs1 : Fin 16) (imm : BitVec 10) (c : Instr), s.coreRuns k = true → csrListed
  imm.toNat = true → (s.core k).sealedSt = true → (c = .csrw k rd rs1 imm ∨ c = .csrset k rd rs1 imm ∨ c = .csrclr k
  rd rs1 imm) →
    Becomes c s ((s.setCore k ((s.core k).setReg rd (s.csr k imm.toNat)).next.retired).violate.setFld
      F.SEAL_STATUS_SSWRITE 1)) ∧
  (∀ (s : State) (k : Fin 5) (rd rs1 : Fin 16) (imm : BitVec 10) (c : Instr), s.coreRuns k = true → (c = .csrr k rd
  rs1 imm ∧ (csrListed imm.toNat = false ∨ rs1 ≠ 0) ∨ csrListed imm.toNat = false ∧ (c = .csrw k rd rs1 imm ∨ c =
  .csrset k rd rs1 imm ∨ c = .csrclr k rd rs1 imm)) →
    Becomes c s (s.illegal k)) ∧
  (∀ (c : CoreSt) (i : Nat) (v : Word),
    (i ∈ [0x001, 0x004, 0x008, 0x009, 0x00A, 0x00B] → c.writeCsr i v = c.setCsr i (v &&& 0x00FFFF)) ∧
    (i = 0x010 → c.writeCsr i v = c.setCsr i v) ∧
    (i = 0x011 → c.writeCsr i v = c.setCsr i (if v = 0 then 1 else v)) ∧
    (0x021 ≤ i ∧ i ≤ 0x02F → c.writeCsr i v = c.setCsr i (v &&& 0x3FFFFF)) ∧
    (i ∈ [0x000, 0x002, 0x003, 0x005, 0x018, 0x019, 0x01A, 0x020] → c.writeCsr i v = c)) ∧
  (∀ (s : State) (k : Fin 5), s.coreRuns k = true →
    Becomes (.sysNop k) s (s.setCore k (s.core k).next.retired)) ∧
  (∀ (s : State) (k : Fin 5), s.coreRuns k = true → (s.core k).stores = [] → (s.core k).sealedSt = false →
    Becomes (.tend k) s (s.setCore k { (s.core k).next with inx := false, run := .idle }.retired)) ∧
  (∀ (s : State) (k : Fin 5), s.coreRuns k = true → (s.core k).stores = [] → (s.core k).sealedSt = true →
    Becomes (.tend k) s (s.setCore k { (s.core k).next with run := .wipe, sealedSt := false, inx := false }.retired)) ∧
  (∀ (s : State) (k : Fin 5), s.coreRuns k = true → (s.core k).stores = [] →
    Becomes (.park k) s (s.setCore k (if s.tpend k ≠ 0 then { (s.core k).next with wake := false } else
      { (s.core k).next with run := .wait, hail := false }).retired)) ∧
  (∀ (s : State) (k : Fin 5), s.coreRuns k = true → (s.core k).inx = true →
    Becomes (.xback k) s (s.setCore k { s.core k with pc := ((s.core k).csrOf 1).truncate 16, inx := false }.retired)) ∧
  (∀ (s : State) (k : Fin 5), s.coreRuns k = true → (s.core k).inx = false →
    Becomes (.xback k) s (s.illegal k)) ∧
  (∀ (s : State) (k : Fin 5), s.coreRuns k = true → (s.core k).stores = [] →
    Becomes (.drain k) s (s.setCore k (s.core k).next.retired)) ∧
  (∀ (s : State) (k : Fin 5), (s.core k).stores ≠ [] →
    Becomes (.drain k) s s ∧ Becomes (.tend k) s s ∧ Becomes (.park k) s s) ∧
  (∀ (s : State) (k : Fin 5), s.coreRuns k = true → (s.fbit F.DBG_BRKEN_EN k = false ∨ s.debugOn = false) →
    Becomes (.brk k) s (s.raise k 3 0)) ∧
  (∀ (s : State) (k : Fin 5), s.coreRuns k = true → s.fbit F.DBG_BRKEN_EN k = true → s.debugOn = true → (s.core
  k).stores = [] → (s.core k).sealedSt = false →
    Becomes (.brk k) s (s.setCore k { s.core k with stepping := false, run := .halt })) ∧
  (∀ (s : State) (k : Fin 5) (w : Word), s.coreRuns k = true → w.toNat / 2 ^ 18 ∈ [0x0A, 0x0F, 0x1E, 0x1F, 0x27, 0x2F,
  0x34, 0x3E] →
    Becomes (.illegalInstruction k w) s (s.illegal k)) ∧
  (∀ (s : State) (k : Fin 5), s.coreRuns k = true →
    Becomes (.illegalInstruction k 0xFFFFFF) s (s.illegal k)) ∧
  (∀ (s : State) (k code xaddr : Nat), (s.core k).sealedSt = false → (s.core k).inx = false →
    let c := (((s.core k).setCsr 1 ((s.core k).pc.zeroExtend 24)).setCsr 2 (BitVec.ofNat 24 code)).setCsr 3
      (BitVec.ofNat 24 xaddr)
    s.raise k code xaddr = s.setCore k { c with inx := true, pc := (c.csrOf 4).truncate 16 }.boundary) ∧
  (∀ (s : State) (k code xaddr : Nat), (s.core k).sealedSt = true → (s.core k).stores = [] →
    let c := (((s.core k).setCsr 1 0).setCsr 3 0).setCsr 2 4
    s.raise k code xaddr = ((s.setCore k { c with run := .wipe, sealedSt := false, inx := false }.boundary).fire (52
      + k)).fault
      0x08 (coreUnit k) 4 false) ∧
  (∀ (s : State) (k code xaddr : Nat), (s.core k).sealedSt = false → (s.core k).inx = true → code < 16 →
    let c := ((s.core k).setCsr 2 (BitVec.ofNat 24 (code + 16))).setCsr 3 (BitVec.ofNat 24 xaddr)
    s.raise k code xaddr = ((s.setCore k { c with run := .fault, stepping := false, haltWait := false }).fire (52 +
      k)).fault
      0x08 (coreUnit k) code (decide (k < 4))) ∧
  (∀ (s : State) (k : Fin 5), s.coreRuns k = false →
    Becomes (.sysNop k) s s ∧ Becomes (.brk k) s s ∧ Becomes (.xback k) s s) ∧
  (∀ (c : Instr) (k : Fin 5) (w : Word), encodeCore c = some (k, w) → coreWordLegal w = true →
    decodeCore k w = c) ∧
  (∀ (k : Fin 5) (w : Word), coreWordLegal w = true →
    encodeCore (decodeCore k w) = some (k, w)) ∧
  (∀ (k : Fin 5) (w : Word), coreWordLegal w = false →
    decodeCore k w = .illegalInstruction k w)

/-- A load waits until every earlier store is accepted; of window 0 it reads the word of the core's own data memory at
its index, of a window to a unit what the unit answers over the map. A store enters the store buffer last while it has
room, with the window's target and the register's value, and a fifth one waits. A word address that no window maps
raises WINDOW with the address and reads or writes nothing. The oldest store, when its target takes it, is performed:
in the own data memory its three bytes are written and, when made in sealed state, its block of 64 words is marked
dirty. -/
def Obligations.CoreMemory : Prop :=
  (∀ (s : State) (k : Fin 5) (rd rs1 : Fin 16) (imm : BitVec 10), s.coreRuns k = true → (s.core k).stores = [] →
  ((s.core k).wordAddr rs1 imm) < 32768 →
    Becomes (.ld k rd rs1 imm) s (s.setCore k ((s.core k).setReg rd (BitVec.ofNat 24
      (ofBytes (s.bytes (0x03020000 + 0x40000 * k + 4 * (s.core k).wordAddr rs1 imm) 3)))).next.retired)) ∧
  (∀ (s : State) (k : Fin 5) (rd rs1 : Fin 16) (imm : BitVec 10) (a width : Nat), s.coreRuns k = true → (s.core
  k).stores = [] → (s.core k).reach ((s.core k).wordAddr rs1 imm) = some (.unit a width) → route k a = .map →
    let q := s.busRead (coreIni k) a width
    Becomes (.ld k rd rs1 imm) s (q.1.setCore k ((q.1.core k).setReg rd (BitVec.ofNat 24 (ofBytes (q.2.take
      3)))).next.retired)) ∧
  (∀ (s : State) (k : Fin 5) (rd rs1 : Fin 16) (imm : BitVec 10) (r : Reach), (s.core k).stores ≠ [] → (s.core
  k).reach ((s.core k).wordAddr rs1 imm) = some r →
    Becomes (.ld k rd rs1 imm) s s) ∧
  (∀ (s : State) (k : Fin 5) (rd rs1 : Fin 16) (imm : BitVec 10) (st : Store), s.coreRuns k = true → (s.core
  k).stores.length < 4 → (s.core k).reach ((s.core k).wordAddr rs1 imm) = some (if st.own then .own st.addr else .unit
  st.addr st.width) → (st.own = true → st.width = 3) → st.v = (s.core k).reg rd → st.sealedSt = (s.core k).sealedSt →
    Becomes (.st k rd rs1 imm) s (s.setCore k { s.core k with stores := (s.core k).stores ++ [st] }.next.retired)) ∧
  (∀ (s : State) (k : Fin 5) (rd rs1 : Fin 16) (imm : BitVec 10) (r : Reach), 4 ≤ (s.core k).stores.length → (s.core
  k).reach ((s.core k).wordAddr rs1 imm) = some r →
    Becomes (.st k rd rs1 imm) s s) ∧
  (∀ (s : State) (k : Fin 5) (rd rs1 : Fin 16) (imm : BitVec 10), s.coreRuns k = true → (s.core k).reach ((s.core
  k).wordAddr rs1 imm) = none →
    Becomes (.ld k rd rs1 imm) s (s.raise k 2 ((s.core k).wordAddr rs1 imm)) ∧
    Becomes (.st k rd rs1 imm) s (s.raise k 2 ((s.core k).wordAddr rs1 imm))) ∧
  (∀ (c : CoreSt) (wa : Nat), wa < 2 ^ 24 →
    let w := c.csrOf (0x020 + wa / 2 ^ 20)
    let base := w.toNat / 4 % 2 ^ 20 * 0x1000
    let k := wa % 2 ^ 20
    (wa < 32768 → c.reach wa = some (.own wa)) ∧
    (32768 ≤ wa → wa < 2 ^ 20 → c.reach wa = none) ∧
    (2 ^ 20 ≤ wa → w.toNat % 4 = 0 → c.reach wa = none) ∧
    (2 ^ 20 ≤ wa → w.toNat % 4 = 1 → c.reach wa = some (.unit ((base + 4 * k) % 2 ^ 32) 4)) ∧
    (2 ^ 20 ≤ wa → w.toNat % 4 = 2 → base < 0x800000 →
      c.reach wa = some (.unit (base + k / 128 * 512 + 3 * (k % 128)) 3)) ∧
    (2 ^ 20 ≤ wa → w.toNat % 4 = 2 → 0x800000 ≤ base → c.reach wa = none) ∧
    (2 ^ 20 ≤ wa → w.toNat % 4 = 3 → c.reach wa = some (.unit ((base + 3 * k) % 2 ^ 32) 3))) ∧
  (∀ (s : State) (k : Fin 5) (st : Store) (rest : List Store), s.stopped = false → s.domOn (coreDom k) = true →
  (s.core k).stores = st :: rest → st.own = true →
    let r := (s.setCore k { s.core k with stores := rest }).setBytes (dataAddr k st.addr) (toBytes 3 st.v.toNat)
    let u := if st.sealedSt then r.setCore k ((r.core k).dirtied st.addr) else r
    Becomes (.coreStoreAccept k) s (u.setCore k (u.core k).settle)) ∧
  (∀ (s r : State) (k : Fin 5) (st : Store) (rest : List Store), s.stopped = false → s.domOn (coreDom k) = true →
  (s.core k).stores = st :: rest → (s.setCore k { s.core k with stores := rest }).performStore k st = some r →
    Becomes (.coreStoreAccept k) s (r.setCore k (r.core k).settle)) ∧
  (∀ (s : State) (k : Fin 5), (s.core k).stores = [] →
    Becomes (.coreStoreAccept k) s s)

/-- An idle core starts the lowest task that has an arrival at its entry address, with TASK and TVALID set, and the
arrival is consumed; the others stay held or are discarded. A wake sets TPEND.WAKE, and a core in WAIT goes on when
TPEND is not 0 or a task-start arrival has reached it, in DROP mode too. The end of a wipe leaves the general
  registers, accumulators, SATCNT and every dirty block of data memory
zero, every other byte as it was, and the core in IDLE, or in HALT with pc 0 where a halt waits. -/
def Obligations.CoreTasks : Prop :=
  (∀ (s : State) (k : Fin 5) (j : Nat) (rest : List Nat), s.domOn (coreDom k) = true → s.weather = .run → (s.core
  k).run = .idle → (s.core k).haltWait = false → s.startsOf k = j :: rest →
    Becomes (.coreTaskStart k) s (((s.consumeStart (4 * k + j)).setCore k
      { s.core k with run := .run, pc := ((s.core k).csrOf (8 + j)).truncate 16, task := j, tvalid := true }).parkStarts k)) ∧
  (∀ (s : State) (k : Nat) (j : Nat) (rest : List Nat), s.startsOf k = j :: rest →
    j < 4 ∧ (s.arriving.contains (4 * k + j) ∨ s.flag (F.EVF_TASK_HELD (4 * k + j))) ∧
    ∀ i : Nat, i < j → s.arriving.contains (4 * k + i) = false ∧ s.flag (F.EVF_TASK_HELD (4 * k + i)) = false) ∧
  (∀ (s : State) (k : Fin 5), s.startsOf k = [] →
    Becomes (.coreTaskStart k) s s) ∧
  (∀ (s : State) (k : Fin 5) (j : Nat) (rest : List Nat), s.domOn (coreDom k) = true → s.weather = .run → (s.core
  k).run ≠ .idle → s.startsOf k = j :: rest →
    Becomes (.coreTaskStart k) s (s.parkStarts k)) ∧
  (∀ (s : State) (k : Fin 5), s.domOn (coreDom k) = true → s.weather = .run → s.arriving.contains (20 + k) = true →
  (s.core k).run ≠ .wait →
    Becomes (.coreWake k) s ({ s with arriving := s.arriving.filter (· != 20 + (k : Nat)) }.setCore k
      { s.core k with wake := true })) ∧
  (∀ (s : State) (k : Fin 5), s.domOn (coreDom k) = true → s.weather = .run → s.arriving.contains (20 + k) = true →
  (s.core k).run = .wait →
    Gives (.coreWake k) s fun t => (t.core k).run = .run ∧ (t.core k).wake = false ∧ (t.core k).pc = (s.core k).pc ∧
      t.arriving = s.arriving.filter (· != 20 + (k : Nat)) ∧ t.mem = s.mem ∧ t.regs = s.regs) ∧
  (∀ (s : State) (k : Fin 5), s.domOn (coreDom k) = true → s.weather = .run → s.arriving.contains (20 + k) = false →
  (s.core k).run = .wait → (s.core k).hail = true →
    Becomes (.coreWake k) s (s.setCore k { s.core k with run := .run, wake := false, hail := false })) ∧
  (∀ (s : State) (k : Fin 5) (j : Fin 4), (s.core k).run = .wait → s.fld (F.EVF_TASK_DROP (4 * (k : Nat) + j)) = 1 →
    ((s.holdArrival (4 * (k : Nat) + j)).core k).hail = true) ∧
  (∀ (s : State) (k : Fin 5), (s.core k).run = .wipe → (s.core k).stores = [] →
    Becomes (.sealedWipeEnd k) s ((s.wipeBlocks k).setCore k (s.core k).endWipe)) ∧
  (∀ (c : CoreSt) (r : Nat),
    c.endWipe.reg r = 0 ∧ c.endWipe.acc0 = 0 ∧ c.endWipe.acc1 = 0 ∧ c.endWipe.csrOf 0x010 = 0 ∧ c.endWipe.dirty = [] ∧
    (c.haltWait = false → c.endWipe.run = .idle ∧ c.endWipe.pc = c.pc) ∧
    (c.haltWait = true → c.endWipe.run = .halt ∧ c.endWipe.pc = 0 ∧ c.endWipe.tvalid = false)) ∧
  (∀ (s : State) (k a : Nat), s.Inv → k < 5 →
    (s.wipeBlocks k).byte a = if dataAddr k 0 ≤ a ∧ a < dataAddr k 32768 ∧
      tabGet (fun _ => false) (s.core k).dirty ((a - dataAddr k 0) / 256)
      then 0 else s.byte a) ∧
  (∀ (s : State) (k : Fin 5), ((s.core k).run ≠ .wipe ∨ (s.core k).stores ≠ []) →
    Becomes (.sealedWipeEnd k) s s)

/-- A running core that executes QADD writes rd with s(rs1) + s(rs2), s(rs1) - s(rs2), -s(rs1) or |s(rs1)| for sub 0
to 3, each taken through fit(q, -2^23, 2^23 - 1, 24, sat): with sat 1 a value outside the range is clamped and SATCNT
counts it, otherwise the low 24 bits are kept; a write of g0 is discarded. -/
def Obligations.FixedPointSums : Prop :=
  (∀ (s : State) (k : Fin 5) (rd rs1 rs2 : Fin 16) (sat : Bool), s.coreRuns k = true →
    Becomes (.qadd k rd rs1 rs2 0 sat 0) s (s.setCore k ((s.core k).putFit rd (((s.core k).reg rs1).toInt + ((s.core
      k).reg rs2).toInt) sat).next.retired) ∧
    Becomes (.qadd k rd rs1 rs2 0 sat 1) s (s.setCore k ((s.core k).putFit rd (((s.core k).reg rs1).toInt - ((s.core
      k).reg rs2).toInt) sat).next.retired) ∧
    Becomes (.qadd k rd rs1 0 0 sat 2) s (s.setCore k ((s.core k).putFit rd (-((s.core k).reg rs1).toInt)
      sat).next.retired) ∧
    Becomes (.qadd k rd rs1 0 0 sat 3) s (s.setCore k ((s.core k).putFit rd |((s.core k).reg rs1).toInt|
      sat).next.retired)) ∧
  (∀ (c : CoreSt) (rd : Fin 16) (q : Int) (sat : Bool), (sat = false ∨ (-(2 ^ 23) ≤ q ∧ q ≤ 2 ^ 23 - 1)) →
    c.putFit rd q sat = c.setReg rd (BitVec.ofInt 24 q)) ∧
  (∀ (c : CoreSt) (rd : Fin 16) (q : Int), 2 ^ 23 - 1 < q →
    c.putFit rd q true = (c.countSat 1).setReg rd 0x7FFFFF) ∧
  (∀ (c : CoreSt) (rd : Fin 16) (q : Int), q < -(2 ^ 23) →
    c.putFit rd q true = (c.countSat 1).setReg rd 0x800000)

/-- A running core that executes MAC adds p, or -p with neg 1, to acc x, or to zero with clr 1, and keeps fit of the
sum over -2^55 to 2^55 - 1 in 56 bits; p is s(rs1) x s(rs2) for sub 0 and the sum of the products of the signed halves
for sub 1; x is rd bit 0, neg bit 1 and clr bit 2 of the rd field. With sat 0 the accumulator wraps modulo 2^56. -/
def Obligations.MultiplyAccumulate : Prop :=
  (∀ (s : State) (k : Fin 5) (rd rs1 rs2 : Fin 16) (sat : Bool) (sub : Fin 8) (p : Int), s.coreRuns k = true → macProd
  sub ((s.core k).reg rs1) ((s.core k).reg rs2) = some p → (rd : Nat) < 8 →
    let c := s.core k
    let v := (if bitOf rd 2 then 0 else c.acc (rd % 2)) + (if bitOf rd 1 then -p else p)
    let f := c.fitted v (-(2 ^ 55)) (2 ^ 55 - 1) 56 sat
    Becomes (.mac k rd rs1 rs2 0 sat sub) s (s.setCore k (f.2.setAcc (rd % 2) (f.1 : Int)).next.retired)) ∧
  (∀ (x y : Word),
    macProd 0 x y = some (x.toInt * y.toInt) ∧
      macProd 1 x y = some (signed 12 x.toNat * signed 12 y.toNat + signed 12 (x.toNat / 4096) * signed 12 (y.toNat /
        4096))) ∧
  (∀ (c : CoreSt) (v : Int),
    c.fitted v (-(2 ^ 55)) (2 ^ 55 - 1) 56 false = (unsigned 56 v, c) ∧ (-(2 ^ 55) ≤ v → v ≤ 2 ^ 55 - 1 →
      c.fitted v (-(2 ^ 55)) (2 ^ 55 - 1) 56 true = (unsigned 56 v, c))) ∧
  (∀ (c : CoreSt) (v : Int), 2 ^ 55 - 1 < v →
    c.fitted v (-(2 ^ 55)) (2 ^ 55 - 1) 56 true = (2 ^ 55 - 1, c.countSat 1)) ∧
  (∀ (c : CoreSt) (v : Int), v < -(2 ^ 55) →
    c.fitted v (-(2 ^ 55)) (2 ^ 55 - 1) 56 true = (2 ^ 55, c.countSat 1))

/-- When a queue's turn has come and its next command is dispatchable, the command is dispatched: the queue becomes
the last one served and the command runs. NOP ends at once; a WAIT ends at once on a signalled fence, with DEPFAIL
under DEPCHK where the fence's status is not DONE, else it stays in flight; WSET and the first word set of a WSLIST join
the tally unit's queue at port 2, a MOVE of up to 256 rows the mover's, a TIMETABLE the array's; TPGM writes the tile's
parameter registers and begins a program, TWIPE a wipe, and a TREFRESH is handed to SV. A stale WAITF handle, a failed
dependency, a cluster of another owner, a fenced cluster and a timetable over the cost bound end the command with
statuses 11, 13, 10, 8 and 12, and a sealed row of a WSLIST with 3. Otherwise nothing happens. -/
def Obligations.QueueCommands : Prop :=
  (∀ (s : State) (q : Fin 64) (n : Nat) (x : QCmd), s.Turn q n x → x.opc = 0 →
    Becomes (.queNop q) s ({ s with front := { s.front with rr := q } }.setCmd q n
      { x with phase := 3, sent := true, limit := 1 })) ∧
  (∀ (s : State) (q : Fin 64) (n : Nat) (x : QCmd), s.Turn q n x → x.opc = 8 → s.handleOk x.waitOn = true →
    s.fenceState (handleIdx x.waitOn) = 2 →
    Becomes (.wait q) s ({ s with front := { s.front with rr := q } }.setCmd q n { x with
      phase := 3, sent := true, limit := 1,
      status := if x.flagAt 4 = true ∧ s.fld (F.QUE_FSTATE_STATUS (handleIdx x.waitOn)) ≠ 1 then 13 else 1 })) ∧
  (∀ (s : State) (q : Fin 64) (n : Nat) (x : QCmd), s.Turn q n x → x.opc = 8 → s.handleOk x.waitOn = true →
    s.fenceState (handleIdx x.waitOn) = 1 →
    Becomes (.wait q) s ({ s with front := { s.front with rr := q } }.setCmd q n
      { x with phase := 2, sent := true, limit := 1 })) ∧
  (∀ (s : State) (q : Fin 64) (n : Nat) (x : QCmd), s.Turn q n x → x.opc = 8 → s.handleOk x.waitOn = false →
    Becomes (.wait q) s ({ s with front := { s.front with rr := q } }.setCmd q n
      { x with phase := 3, sent := true, limit := 1, status := 11 })) ∧
  (∀ (s : State) (q : Fin 64) (n : Nat) (x : QCmd), s.Turn q n x → x.opc = 1 → s.domOn (domCL x.cl) = true →
    s.inClReset x.cl = false →
  s.tallyFull x.cl = false → wsOk (wordSetOf (x.raw.drop (if x.qf2 then 16 else 9))) = true →
    Gives (.wset q) s fun t => s.Dispatched t q n x.cl (x.launched s.front.ids) ((List.range 5).map (Reg.TAL_OP_D
      x.cl 2)) ∧
      t.portWords x.cl 2 = wordSetOf (x.raw.drop (if x.qf2 then 16 else 9)) ∧
      ∃ e : TalEntry, (t.tally x.cl).entries = (s.tally x.cl).entries ++ [e] ∧ e.port = 2 ∧ e.iseal = false ∧
        e.phase = .queued ∧ e.id = s.front.ids ∧ e.ws = wordSetOf (x.raw.drop (if x.qf2 then 16 else 9))) ∧
  (∀ (s : State) (q : Fin 64) (n : Nat) (x : QCmd), s.Turn q n x → x.opc = 2 → x.pay 2 2 = 1 →
    s.domOn (domCL x.cl) = true →
  s.inClReset x.cl = false → s.unitTag x.cl (x.pay 0 2) = false → s.tallyFull x.cl = false →
  wsOk (wordSetOf (s.unitRow x.cl (x.pay 0 2))) = true →
    Gives (.wslist q) s fun t => s.Dispatched t q n x.cl (x.launched s.front.ids)
        (Reg.QUE_QPROG q :: (List.range 5).map (Reg.TAL_OP_D x.cl 2)) ∧
      (t.queue q).long = some x.uid ∧ t.fld (F.QUE_QPROG_ALL q) = 2048 + 2 ^ 23 ∧
      ∃ e : TalEntry, (t.tally x.cl).entries = (s.tally x.cl).entries ++ [e] ∧ e.port = 2 ∧ e.iseal = false ∧
        e.phase = .queued ∧ e.id = s.front.ids ∧ e.ws = wordSetOf (s.unitRow x.cl (x.pay 0 2))) ∧
  (∀ (s : State) (q : Fin 64) (n : Nat) (x : QCmd), s.Turn q n x → x.opc = 2 → 1 ≤ x.pay 2 2 →
    s.unitTag x.cl (x.pay 0 2) = true →
    Gives (.wslist q) s fun t => t.tallies = s.tallies ∧ t.mem = s.mem ∧
      ∃ y : QCmd, (t.queue q).cmds[n]? = some y ∧ y.phase = 3 ∧ y.status = 3 ∧ y.issued = 0) ∧
  (∀ (s : State) (q : Fin 64) (n : Nat) (x : QCmd), s.Turn q n x → x.opc = 3 → x.moveRows ≤ 256 →
    s.domOn (domCL x.cl) = true →
  s.inClReset x.cl = false → s.moverFull x.cl = false → jobOk x.job = true →
    Gives (.move q) s fun t => s.Dispatched t q n x.cl (x.launched s.front.ids)
        (Reg.QUE_QPROG q :: (List.range 4).map (Reg.MOV_JOB_J x.cl 2)) ∧
      (t.queue q).long = some x.uid ∧ t.portJob x.cl 2 = x.job ∧
      ∃ j : MovJob, (t.mover x.cl).jobs = (s.mover x.cl).jobs ++ [j] ∧ j.port = 2 ∧ j.iseal = false ∧
        j.running = false ∧ j.id = s.front.ids ∧ j.jw = x.job) ∧
  (∀ (s : State) (q : Fin 64) (n : Nat) (x : QCmd), s.Turn q n x → x.opc = 4 → s.admitted x.cl (x.pay 0 1) = true →
    s.domOn (domCL x.cl) = true →
  s.inClReset x.cl = false → s.dfaDepth x.cl < 4 → x.pay 0 1 < 4 →
    Gives (.timetable q) s fun t => s.Dispatched t q n x.cl (x.launched s.front.ids) [Reg.QUE_QPROG q] ∧
      (t.queue q).long = some x.uid ∧
      t.dfa x.cl = { s.dfa x.cl with queue := (s.dfa x.cl).queue ++ ([{
        slot := x.pay 0 1, tag := x.pay 1 1 % 64, notify := (x.pay 1 1 / 64) % 2 == 1, src := 2, iseal := false,
          id := s.front.ids }] : List DfaStart) }) ∧
  (∀ (s : State) (q : Fin 64) (n : Nat) (x : QCmd), s.Turn q n x → x.opc = 4 → s.admitted x.cl (x.pay 0 1) = false →
    Becomes (.timetable q) s ({ s with front := { s.front with rr := q } }.setCmd q n
      { x with phase := 3, sent := true, limit := 1, status := 12 })) ∧
  (∀ (s : State) (c slot : Nat), s.coreOnPll = false →
    s.admitted c slot = decide (s.costBound c slot ≤ 48000)) ∧
  (∀ (s : State) (q : Fin 64) (n : Nat) (x : QCmd), s.Turn q n x → x.opc = 5 → s.domOn (domTQ x.tile) = true →
    x.tile < 32 →
  x.pay 1 2 + srcRows (x.pay 5 2) ≤ 4096 → 1 ≤ x.pay 5 2 → x.pay 3 2 + x.pay 5 2 ≤ 768 → 1 ≤ x.pay 7 1 →
    x.pay 7 1 < 64 →
  x.pay 8 1 < 8 → ((s.tile x.tile).genValid = false ∨ x.pay 9 2 ≠ (s.tile x.tile).gen) →
    Gives (.tpgm q) s fun t => s.Dispatched t q n x.cl (x.launched s.front.ids)
      [Reg.QUE_QPROG q, Reg.TILE_PGMSRC x.tile,
        Reg.TILE_PGMROWS x.tile, Reg.TILE_PGMCFG x.tile, Reg.TILE_PGMGEN x.tile, Reg.TILE_LSTAT x.tile,
          Reg.TILE_STUCK x.tile] ∧
      t.fld (F.TILE_LSTAT_STATUS x.tile) = 1 ∧ (∀ k, k ≠ x.tile → t.tile k = s.tile k) ∧
      t.tile x.tile = { s.tile x.tile with
        front := some s.front.ids
        long := some {
          kind := .program, src := x.pay 1 2, first := x.pay 3 2, count := x.pay 5 2, mask := x.pay 7 1,
          stuckok := x.pay 8 1, gen := x.pay 9 2, baro := false, phase := .prescan, idx := 0, baroNext := false,
          allow := 0, nospare := none, abort := false } }) ∧
  (∀ (s : State) (q : Fin 64) (n : Nat) (x : QCmd), s.Turn q n x → x.opc = 6 → s.domOn (domTQ x.tile) = true →
    x.tile < 32 →
    Gives (.twipe q) s fun t => s.Dispatched t q n x.cl (x.launched s.front.ids)
        [Reg.QUE_QPROG q, Reg.TILE_LSTAT x.tile, Reg.TILE_STUCK x.tile] ∧
      t.fld (F.TILE_LSTAT_STATUS x.tile) = 1 ∧ (∀ k, k ≠ x.tile → t.tile k = s.tile k) ∧
      (t.tile x.tile).front = some s.front.ids ∧ (t.tile x.tile).genValid = false ∧ (t.tile x.tile).sealedFlag = false ∧
      ∃ l : LongOp, (t.tile x.tile).long = some l ∧ l.kind = .wipe ∧ l.count = 776 ∧ l.mask = 0x3F ∧ l.idx = 0) ∧
  (∀ (s : State) (q : Fin 64) (n : Nat) (x : QCmd), s.Turn q n x → x.opc = 7 → x.tile < 32 → x.pay 1 2 < 1024 →
    x.pay 3 2 < 1024 → x.pay 5 1 < 64 →
    Gives (.trefresh q) s fun t => s.Dispatched t q n x.cl (x.launched s.front.ids)
        [Reg.QUE_QPROG q, Reg.QUE_SVREQ0, Reg.QUE_SVREQ1, Reg.QUE_SVREQ2] ∧
      t.fld F.QUE_SVREQ0_QUEUE = q ∧ t.fld F.QUE_SVREQ0_TILE = x.tile ∧ t.fld F.QUE_SVREQ0_VALID = 1 ∧
      t.fld F.QUE_SVREQ1_FIRST = x.pay 1 2 ∧ t.fld F.QUE_SVREQ1_COUNT = x.pay 3 2 ∧
        t.fld F.QUE_SVREQ2_GRPMASK = x.pay 5 1 ∧
      t.fld F.QUE_SVREQ2_BARO = x.pay 6 1 % 2 ∧ t.front.sv = some s.front.ids ∧ t.tiles = s.tiles ∧
      t.pulses = s.pulses ++ [63]) ∧
  (∀ (s : State) (q : Fin 64) (n : Nat) (x : QCmd) (h : Nat) (c : Instr), s.NextCmd q n x → x.waitf = some h →
  s.handleOk h = false →
  ([Instr.queNop q, .wset q, .wslist q, .move q, .timetable q, .tpgm q, .twipe q, .trefresh q, .wait q] : List
    Instr)[x.opc]? = some c →
    Becomes c s ({ s with front := { s.front with rr := q } }.setCmd q n
      { x with sent := true, phase := 3, status := 11 })) ∧
  (∀ (s : State) (q : Fin 64) (n : Nat) (x : QCmd) (h : Nat) (c : Instr), s.NextCmd q n x → x.waitf = some h →
  s.handleOk h = true → x.flagAt 4 = true → s.fld (F.QUE_FSTATE_STATUS (handleIdx h)) ≠ 1 →
  ([Instr.queNop q, .wset q, .wslist q, .move q, .timetable q, .tpgm q, .twipe q, .trefresh q, .wait q] : List
    Instr)[x.opc]? = some c →
    Becomes c s ({ s with front := { s.front with rr := q } }.setCmd q n
      { x with sent := true, phase := 3, status := 13 })) ∧
  (∀ (s : State) (q : Fin 64) (n : Nat) (x : QCmd) (c : Instr), s.NextCmd q n x → x.waitf = none → x.hasUnit = true →
  s.ownsCl x = true → s.fenced (32 + x.cl) = true →
  ([Instr.queNop q, .wset q, .wslist q, .move q, .timetable q, .tpgm q, .twipe q, .trefresh q, .wait q] : List
    Instr)[x.opc]? = some c →
    Becomes c s ({ s with front := { s.front with rr := q } }.setCmd q n
      { x with sent := true, phase := 3, status := 8, detail := 0x14 })) ∧
  (∀ (s : State) (q : Fin 64) (n : Nat) (x : QCmd) (c : Instr), s.NextCmd q n x → x.waitf = none → x.hasUnit = true →
  s.ownsCl x = false →
  ([Instr.queNop q, .wset q, .wslist q, .move q, .timetable q, .tpgm q, .twipe q, .trefresh q, .wait q] : List
    Instr)[x.opc]? = some c →
    Becomes c s ({ s with front := { s.front with rr := q } }.setCmd q n
      { x with sent := true, phase := 3, status := 10 })) ∧
  (∀ (s : State) (q : Fin 64) (i : Nat) (c : Instr), s.nextQueue ≠ some (q : Nat) →
  ([Instr.queNop q, .wset q, .wslist q, .move q, .timetable q, .tpgm q, .twipe q, .trefresh q, .wait q] : List
    Instr)[i]? = some c →
    Becomes c s s) ∧
  (∀ (s : State) (q n k : Nat) (x : QCmd), (s.queue q).cmds[n]? = some x → x.phase = 2 → x.status = 1 → x.issued <
  x.limit → x.issued < x.total → x.opc ≠ 2 → s.unitRoom x = true →
    State.pump (k + 1) q n s = State.pump k q n
      ((({ s with front := { s.front with ids := s.front.ids + 1 } }).setCmd q n
        { x with issued := x.issued + 1, ids := x.ids ++ [s.front.ids] }).issueUnit q x x.issued s.front.ids)) ∧
  (∀ (s : State) (q n k : Nat) (x : QCmd), (s.queue q).cmds[n]? = some x → (x.phase ≠ 2 ∨ x.status ≠ 1 ∨ x.limit ≤
  x.issued ∨ x.total ≤ x.issued) →
    State.pump k q n s = s)

/-- A tail in range is stored, another sets BADTAIL. A fetch of an ACTIVE queue with entries takes the descriptor at
HEAD, from its ring memory or by one read of the host's, and a failed host read logs 0x0F and stops the queue. The
  oldest unchecked command of an ACTIVE queue is checked
in the order of R446. A long command shows its progress and begins its next step; a timeout aborts a running command
and sets TIMEOUT; a completion with status 1 stores LASTSTAT, counts and signals the command's fence, with a lost posted
write it becomes status 2, with an error status STOPERR stops the queue; writes its fence covers hold it back; a
  repeated
ticket only counts. SV's answer ends its TREFRESH. -/
def Obligations.QueueProgress : Prop :=
  (∀ (s : State) (ini : Initiator) (q : Fin 64) (v : Word), s.Takes ini (Reg.DB_TAIL q) → (s.qstate q = 1 ∨ s.qstate q
  = 2) →
    Becomes (.dbTailWrite ini q v) s (if v.toNat % 4096 < s.ringSize q then s.setFld (F.QUE_QPTR_TAIL q) v.toNat else
      s.setFld (F.QUE_QERR_BADTAIL q) 1)) ∧
  (∀ (s : State) (ini : Initiator) (q : Fin 64) (v : Word), s.Takes ini (Reg.DB_TAIL q) → s.qstate q ≠ 1 → s.qstate q
  ≠ 2 →
    Becomes (.dbTailWrite ini q v) s s) ∧
  (∀ (s : State) (q : Fin 64) (data : List Byte), s.qstate q = 1 → s.fld (F.QUE_QPTR_HEAD q) ≠ s.fld (F.QUE_QPTR_TAIL
  q) → ((s.queue q).cmds.filter fun x => decide (x.phase < 2)).length < 2 → s.fld (F.QUE_QCFG_RINGLOC q) = 0 →
  data.length = s.descLen q →
    Becomes (.descriptorFetch q true data) s (({ s with
      front := { s.front with ids := s.front.ids + 1 }
      hostReads := s.hostReads ++ [(s.ringHost q (s.fld (F.QUE_QPTR_HEAD q)), s.descLen q)] }.setFld (F.QUE_QPTR_HEAD q)
      ((s.fld (F.QUE_QPTR_HEAD q) + 1) % s.ringSize q)).setQueue q { s.queue q with cmds := (s.queue q).cmds ++
        ([{ uid := s.front.ids, raw := data, qf2 := s.flag (F.QUE_QCFG_FMT q) }] : List QCmd) })) ∧
  (∀ (s : State) (q : Fin 64) (data : List Byte), s.qstate q = 1 → s.fld (F.QUE_QPTR_HEAD q) ≠ s.fld (F.QUE_QPTR_TAIL
  q) → ((s.queue q).cmds.filter fun x => decide (x.phase < 2)).length < 2 → s.fld (F.QUE_QCFG_RINGLOC q) = 0 →
    Becomes (.descriptorFetch q false data) s (((({ s with
      hostReads := s.hostReads ++ [(s.ringHost q (s.fld (F.QUE_QPTR_HEAD q)), s.descLen q)] } : State).setFld
        (F.QUE_QERR_FETCHERR q) 1).fault 0x0F 42 (0x100 + q) true).stopQueue q)) ∧
  (∀ (s : State) (q : Fin 64) (good : Bool) (data : List Byte), s.qstate q = 1 → s.fld (F.QUE_QPTR_HEAD q) ≠ s.fld
  (F.QUE_QPTR_TAIL q) → ((s.queue q).cmds.filter fun x => decide (x.phase < 2)).length < 2 →
    s.fld (F.QUE_QCFG_RINGLOC q) = 1 →
    Becomes (.descriptorFetch q good data) s (({ s with front := { s.front with ids := s.front.ids + 1 } }.setFld
      (F.QUE_QPTR_HEAD q)
      ((s.fld (F.QUE_QPTR_HEAD q) + 1) % s.ringSize q)).setQueue q { s.queue q with cmds := (s.queue q).cmds ++
        ([{ uid := s.front.ids, raw := s.bytes (ringBase q + s.descLen q * s.fld (F.QUE_QPTR_HEAD q)) (s.descLen q)
            qf2 := s.flag (F.QUE_QCFG_FMT q) }] : List QCmd) })) ∧
  (∀ (s : State) (q i : Nat),
    s.ringHost q i = s.fld (F.QUE_QRING0_BASE q) * 2 ^ 12 + s.fld (F.QUE_QRING1_BASE q) * 2 ^ 36 +
      s.fld (F.QUE_QRING2_BASE q) * 2 ^ 60 + (if s.fld (F.QUE_QCFG_FMT q) = 0 then 32 else 64) * i) ∧
  (∀ (s : State) (q : Fin 64) (good : Bool) (data : List Byte), (s.qstate q ≠ 1 ∨ s.fld (F.QUE_QPTR_HEAD q) = s.fld
  (F.QUE_QPTR_TAIL q)) →
    Becomes (.descriptorFetch q good data) s s) ∧
  (∀ (s : State) (q : Fin 64) (n : Nat) (x : QCmd), (s.queue q).cmds.findIdx? (fun y => y.phase == 0) = some n →
  (s.queue q).cmds[n]? = some x → s.qstate q = 1 →
    Becomes (.descriptorCheck q) s (s.checkCmd q n x)) ∧
  (∀ (s : State) (q n : Nat) (x : QCmd), x.formOk = false →
    s.checkCmd q n x = s.setCmd q n { x with phase := 3, status := 9 }) ∧
  (∀ (s : State) (q n : Nat) (x : QCmd), x.formOk = true → x.ctx ≠ s.fld (F.QUE_QCFG_CTX q) →
    s.checkCmd q n x = s.setCmd q n { x with phase := 3, status := 10 }) ∧
  (∀ (s : State) (q n : Nat) (x : QCmd), x.formOk = true → x.ctx = s.fld (F.QUE_QCFG_CTX q) → x.flagAt 1 = true →
  s.sigOk q x = false →
    s.checkCmd q n x = (s.setFld (F.QUE_QERR_BADFENCE q) 1).setCmd q n
      { x with phase := 3, status := 11, nosig := true }) ∧
  (∀ (s : State) (q n : Nat) (x : QCmd), x.formOk = true → x.ctx = s.fld (F.QUE_QCFG_CTX q) → x.flagAt 1 = false →
  x.flagAt 2 = false → x.flagAt 0 = true → x.ticket ∈ (s.queue q).window →
    s.checkCmd q n x = (s.incFld (F.QUE_QDUP_COUNT q) 1).setCmd q n { x with phase := 3, dup := true }) ∧
  (∀ (s : State) (q n : Nat) (x : QCmd), x.formOk = true → x.ctx = s.fld (F.QUE_QCFG_CTX q) → x.flagAt 1 = false →
  x.flagAt 2 = false → x.flagAt 0 = false → (x.hasUnit = false ∨ s.ownsCl x = true) → x.opc ≠ 7 →
    s.checkCmd q n x = s.setCmd q n { x with phase := 1 }) ∧
  (∀ (s : State) (q : Fin 64) (n : Nat) (late : Bool) (x : QCmd), ((State.pump 8 q n s).queue q).cmds[n]? =
  some x → x.phase = 2 → x.opc ≠ 8 → x.ids ≠ [] →
    Becomes (.longCommandStep q n late) s ((State.pump 8 q n s).showProgress q x true late)) ∧
  (∀ (s : State) (q : Fin 64) (n : Nat) (late : Bool) (x : QCmd), ((State.pump 8 q n s).queue q).cmds[n]? =
  some x → x.phase = 2 → x.opc ≠ 8 → x.ids = [] → x.status = 1 → x.issued = x.limit → x.issued < x.total →
  ((State.pump 8 q n s).showProgress q x true late).othersWait q x.cl = false →
    Becomes (.longCommandStep q n late) s (State.pump 8 q n (((State.pump 8 q n s).showProgress q x true late).setCmd
      q n { x with limit := x.limit + x.perStep }))) ∧
  (∀ (s : State) (q : Fin 64) (n : Nat) (x : QCmd), (s.queue q).cmds[n]? = some x → x.phase = 2 → x.cause =
  0 →
    Becomes (.commandTimeout q n true) s (((s.setFld (F.QUE_QERR_TIMEOUT q) 1).setFld (F.QUE_QERR_GLOBAL q)
      1).abortCmd 1 q n) ∧
    Becomes (.commandTimeout q n false) s (if s.flag (F.QUE_QTIMEOUT_T64 q) then (s.setFld (F.QUE_QERR_TIMEOUT q)
      1).abortCmd 1 q n else s)) ∧
  (∀ (s : State) (why q n : Nat) (x : QCmd), (s.queue q).cmds[n]? = some x → x.phase = 2 → x.cause = 0 → x.status = 1
  → x.opc = 8 →
    s.abortCmd why q n = s.setCmd q n { x with cause := why, status := causeStatus why, detail := 0, phase := 3 }) ∧
  (∀ (s : State) (q : Fin 64) (x : QCmd) (rest : List QCmd), (s.queue q).cmds = x :: rest → x.phase = 3 → x.hasUnit =
  false → x.dup = false → (s.queue q).long ≠ some x.uid → x.status = 1 →
    Gives (.commandComplete q) s fun t =>
      t = ((((s.setQueue q { s.queue q with cmds := rest }).signalOf q x 1).setFld (F.QUE_QSTATE_LASTSTAT q) 1).setFld
        (F.QUE_QDONE_COUNT q) ((((s.setQueue q { s.queue q with cmds := rest }).signalOf q x 1).setFld
          (F.QUE_QSTATE_LASTSTAT q) 1).fld
          (F.QUE_QDONE_COUNT q) + 1))) ∧
  (∀ (s : State) (q : Fin 64) (x : QCmd) (rest : List QCmd), (s.queue q).cmds = x :: rest → x.phase = 3 → x.sent =
  false → x.dup = true → (s.queue q).long ≠ some x.uid →
    Becomes (.commandComplete q) s ((s.setQueue q { s.queue q with cmds := rest }).setFld (F.QUE_QDONE_COUNT q)
      (s.fld (F.QUE_QDONE_COUNT q) + 1))) ∧
  (∀ (s : State) (q : Fin 64) (x : QCmd) (rest : List QCmd), (s.queue q).cmds = x :: rest → x.phase ≠ 3 →
    Becomes (.commandComplete q) s s) ∧
  (∀ (s : State) (q : Fin 64) (x : QCmd) (rest : List QCmd), (s.queue q).cmds = x :: rest → x.ranUnits = true →
  s.writesOut x = true →
    Becomes (.commandComplete q) s s) ∧
  (∀ (s : State) (q : Fin 64) (x : QCmd) (rest : List QCmd), (s.queue q).cmds = x :: rest → x.phase = 3 → x.ranUnits =
  true → x.dup = false → (s.queue q).long ≠ some x.uid → x.flagAt 1 = false → x.status = 1 → s.writesOut x = false →
  s.flag (F.RND_PMARK_PEND x.cl) = true → s.fld (F.RND_PMARK_CTX x.cl) = x.ctx →
    (s.lostOf x.cl).all x.coversSeq = true →
  s.lostOf x.cl ≠ [] →
    Gives (.commandComplete q) s fun t => t.fld (F.QUE_QSTATE_LASTSTAT q) = 2 ∧ t.fld (F.RND_PMARK_PEND x.cl) = 0 ∧
      (t.queue q).cmds = rest ∧ s.KeepsRegs t [Reg.QUE_QSTATE q, Reg.QUE_QDONE q, Reg.RND_PMARK x.cl]) ∧
  (∀ (s : State) (q : Fin 64) (x : QCmd) (rest : List QCmd), (s.queue q).cmds = x :: rest → x.phase = 3 → x.hasUnit =
  false → x.dup = false → (s.queue q).long ≠ some x.uid → x.flagAt 1 = false → 3 ≤ x.status → x.status < 16 →
  s.flag (F.QUE_QCFG_STOPERR q) = true → s.qstate q = 1 →
    Gives (.commandComplete q) s fun t => t.qstate q = 2 ∧ t.fld (F.QUE_QSTATE_LASTSTAT q) = x.status ∧
      (t.queue q).cmds = rest) ∧
  (∀ (s : State) (q : Nat) (x : QCmd) (st : Nat), x.flagAt 1 = true → x.nosig = false → s.sigOk q x = true →
    s.signalOf q x st = s.signalFence (handleIdx x.sig) st (x.detail + 128 * b2n x.mixed)) ∧
  (∀ (s : State) (ini : Initiator) (v : Word) (id : Nat), s.Takes ini (Reg.QUE_SVDONE) → s.front.sv = some id →
    Becomes (.svDone ini v) s ((({ s with front := { s.front with sv := none } }.setFld F.QUE_SVREQ0_VALID 0).setFld
      F.QUE_SVREQ0_ABORT 0).unitDone id 4 (v.toNat % 16) false))

/-- ENABLE, STOP, RESUME, DRAIN_ABORT, REVOKE and RESET move a queue as Table HOST-9 lists and set BADCMD from every
other state. DRAIN_ABORT fails the undispatched commands and aborts the running ones; a queue with nothing left, its
clusters' posted writes acknowledged, becomes DRAINED; REVOKE clears its ring memory; RESET clears its commands,
pointers and errors. ALLOC takes a FREE fence, or sets REFUSED where it is not FREE; while an ABANDON runs every
  operation sets REFUSED; FREE,
RESET of a SIGNALLED fence and SIGNAL change a fence as Table HOST-10 lists, and a second signal sets RESIGNAL; a WAIT
in flight ends with the signal, or with BADFENCE at a FREE;
ABANDON signals every unsignalled fence of its context with status 5. A cluster assignment changes its owner. -/
def Obligations.QueueStatesAndFences : Prop :=
  (∀ (s : State) (ini : Initiator) (q : Fin 64), s.Takes ini (Reg.QUE_QCTL q) → s.qstate q = 0 →
    Becomes (.queueEnable ini q) s (s.enterQueue q 1)) ∧
  (∀ (s : State) (ini : Initiator) (q : Fin 64), s.Takes ini (Reg.QUE_QCTL q) → s.qstate q ≠ 0 →
    Becomes (.queueEnable ini q) s (s.setFld (F.QUE_QERR_BADCMD q) 1)) ∧
  (∀ (s : State) (ini : Initiator) (q : Fin 64), s.Takes ini (Reg.QUE_QCTL q) → s.qstate q = 1 →
    Becomes (.queueStop ini q) s (s.enterQueue q 2)) ∧
  (∀ (s : State) (ini : Initiator) (q : Fin 64), s.Takes ini (Reg.QUE_QCTL q) → s.qstate q ≠ 1 →
    Becomes (.queueStop ini q) s (s.setFld (F.QUE_QERR_BADCMD q) 1)) ∧
  (∀ (s : State) (ini : Initiator) (q : Fin 64), s.Takes ini (Reg.QUE_QCTL q) → s.qstate q = 2 →
    Becomes (.queueResume ini q) s (s.enterQueue q 1)) ∧
  (∀ (s : State) (ini : Initiator) (q : Fin 64), s.Takes ini (Reg.QUE_QCTL q) → s.qstate q ≠ 2 →
    Becomes (.queueResume ini q) s (s.setFld (F.QUE_QERR_BADCMD q) 1)) ∧
  (∀ (s : State) (ini : Initiator) (q : Fin 64), s.Takes ini (Reg.QUE_QCTL q) → (s.qstate q = 1 ∨ s.qstate q = 2) →
    Becomes (.drainAbort ini q) s (s.drain q)) ∧
  (∀ (s : State) (ini : Initiator) (q : Fin 64), s.Takes ini (Reg.QUE_QCTL q) → s.qstate q ≠ 1 → s.qstate q ≠ 2 →
    Becomes (.drainAbort ini q) s (s.setFld (F.QUE_QERR_BADCMD q) 1)) ∧
  (∀ (s : State) (ini : Initiator) (q : Fin 64), s.Takes ini (Reg.QUE_QCTL q) → s.qstate q = 4 →
    Becomes (.queueRevoke ini q) s (s.revoke q)) ∧
  (∀ (s : State) (ini : Initiator) (q : Fin 64), s.Takes ini (Reg.QUE_QCTL q) → s.qstate q ≠ 4 →
    Becomes (.queueRevoke ini q) s (s.setFld (F.QUE_QERR_BADCMD q) 1)) ∧
  (∀ (s : State) (ini : Initiator) (q : Fin 64), s.Takes ini (Reg.QUE_QCTL q) → (s.qstate q ∈ [0, 4, 5] ∨ (s.qstate q
  = 2 ∧ s.flyQ q = 0)) →
    Becomes (.queueReset ini q) s (s.resetQueue q)) ∧
  (∀ (s : State) (ini : Initiator) (q : Fin 64), s.Takes ini (Reg.QUE_QCTL q) → s.qstate q ∉ [0, 4, 5] → (s.qstate q ≠
  2 ∨ s.flyQ q ≠ 0) →
    Becomes (.queueReset ini q) s (s.setFld (F.QUE_QERR_BADCMD q) 1)) ∧
  (∀ (s : State) (q v : Nat), (v = 1 ∨ s.fld (F.QUE_QRING2_VECEN q) = 0) →
    s.enterQueue q v = s.setFld (F.QUE_QSTATE_STATE q) v) ∧
  (∀ (s : State) (q : Fin 64) (x : QCmd), (s.queue q).cmds = [x] → x.phase < 2 → s.fld (F.QUE_QRING2_VECEN q) = 0 →
    s.drain q = (s.setFld (F.QUE_QSTATE_STATE q) 3).setQueue q
      { s.queue q with cmds := ([({ x with phase := 3, status := 5 } : QCmd).noted s.posted] : List QCmd) }) ∧
  (∀ (s : State) (q : Fin 64), s.qstate q = 3 → (s.queue q).cmds = [] → (∀ c ∈ (s.queue q).ran, s.outWrites c = 0) →
    Becomes (.queueDrained q) s (s.enterQueue q 4)) ∧
  (∀ (s : State) (q : Fin 64), (s.qstate q ≠ 3 ∨ (s.queue q).cmds ≠ []) →
    Becomes (.queueDrained q) s s) ∧
  (∀ (s : State) (q a : Nat), s.Inv → s.fld (F.QUE_QRING2_VECEN q) = 0 → q < 64 →
    (s.revoke q).byte a = if 0x08000400 + 0x1000 * q ≤ a ∧ a < 0x08001000 + 0x1000 * q then 0 else s.byte a) ∧
  (∀ (s : State) (q : Nat), q < 64 →
    ((s.resetQueue q).queue q) = ({} : Queue) ∧ (s.resetQueue q).qstate q = 0 ∧
      (s.resetQueue q).fld (F.QUE_QPTR_HEAD q) = 0 ∧ (s.resetQueue q).fld (F.QUE_QPTR_TAIL q) = 0 ∧
        (s.resetQueue q).reg (Reg.QUE_QERR q) = 0) ∧
  (∀ (s : State) (ini : Initiator) (i : Fin 4096), s.Takes ini (Reg.QUE_FCTL) → s.fld F.QUE_FCTLSTAT_BUSY = 0 →
  s.fenceState i = 0 →
    Becomes (.fenceAlloc ini i) s (s.fenceAlloc i)) ∧
  (∀ (s : State) (ini : Initiator) (i : Fin 4096), s.Takes ini (Reg.QUE_FCTL) → s.fld F.QUE_FCTLSTAT_BUSY = 0 →
    Becomes (.fenceFree ini i) s (s.fenceFree i)) ∧
  (∀ (s : State) (ini : Initiator) (i : Fin 4096), s.Takes ini (Reg.QUE_FCTL) → s.fld F.QUE_FCTLSTAT_BUSY = 0 →
  s.fenceState i = 2 →
    Becomes (.fenceReset ini i) s ((s.setFld (F.QUE_FSTATE_STATE i) 1).setFld (F.QUE_FSTATE_STATUS i) 0)) ∧
  (∀ (s : State) (ini : Initiator) (i : Fin 4096), s.Takes ini (Reg.QUE_FCTL) → s.fld F.QUE_FCTLSTAT_BUSY = 0 →
    Becomes (.fenceSignal ini i) s (s.signalFence i (s.fld F.QUE_FCTLARG_STATUS) 0)) ∧
  (∀ (s : State) (ini : Initiator) (i : Fin 4096), s.Takes ini (Reg.QUE_FCTL) → (s.fld F.QUE_FCTLSTAT_BUSY = 1 ∨
  s.fenceState i ≠ 0) →
    Becomes (.fenceAlloc ini i) s (s.setFld F.QUE_FCTLSTAT_REFUSED 1)) ∧
  (∀ (s : State) (ini : Initiator) (i : Fin 4096), s.Takes ini (Reg.QUE_FCTL) → s.fld F.QUE_FCTLSTAT_BUSY = 1 →
    Becomes (.fenceFree ini i) s (s.setFld F.QUE_FCTLSTAT_REFUSED 1) ∧
    Becomes (.fenceReset ini i) s (s.setFld F.QUE_FCTLSTAT_REFUSED 1) ∧
    Becomes (.fenceSignal ini i) s (s.setFld F.QUE_FCTLSTAT_REFUSED 1) ∧
    Becomes (.abandon ini) s (s.setFld F.QUE_FCTLSTAT_REFUSED 1)) ∧
  (∀ (s : State) (ini : Initiator) (i : Fin 4096), s.Takes ini (Reg.QUE_FCTL) → s.fld F.QUE_FCTLSTAT_BUSY = 0 →
  s.fenceState i ≠ 2 →
    Becomes (.fenceReset ini i) s (s.setFld F.QUE_FCTLSTAT_REFUSED 1)) ∧
  (∀ (s : State) (i : Nat), s.fenceState i = 0 → i < 4096 →
    (s.fenceAlloc i).fenceState i = 1 ∧
      (s.fenceAlloc i).fld (F.QUE_FSTATE_GEN i) = (s.fld (F.QUE_FSTATE_GEN i) + 1) % 256 ∧
        (s.fenceAlloc i).fld (F.QUE_FOWNER_CTX i) = s.fld F.QUE_FCTLARG_CTX ∧
          s.OnlyRegs (s.fenceAlloc i) [Reg.QUE_FSTATE i, Reg.QUE_FOWNER i]) ∧
  (∀ (s : State) (i : Nat), i < 4096 →
    (s.fenceFree i).fenceState i = 0 ∧
      (s.fenceFree i).fld (F.QUE_FSTATE_GEN i) = (s.fld (F.QUE_FSTATE_GEN i) + 1) % 256 ∧
    (s.fenceFree i).queues = (s.mapCmds (·.release i none)).queues ∧ s.KeepsRegs (s.fenceFree i) [Reg.QUE_FSTATE i]) ∧
  (∀ (s : State) (i status detail : Nat), s.fenceState i = 1 → i < 4096 → s.fld (F.QUE_FOWNER_IRQ i) = 0 →
    s.signalFence i status detail = (((s.setFld (F.QUE_FSTATE_STATE i) 2).setFld (F.QUE_FSTATE_STATUS i)
      status).setFld (F.QUE_FSTATE_DETAIL i) detail).mapCmds (·.release i (some status))) ∧
  (∀ (s : State) (i status detail : Nat), s.fenceState i ≠ 1 →
    s.signalFence i status detail = s.setFld F.QUE_FCTLSTAT_RESIGNAL 1) ∧
  (∀ (x : QCmd) (i st : Nat), x.phase = 2 → x.opc = 8 → handleIdx x.waitOn = i →
    x.release i (some st) = { x with phase := 3, status := if x.flagAt 4 = true ∧ st ≠ 1 then 13 else 1 } ∧
    x.release i none = { x with phase := 3, status := 11 }) ∧
  (∀ (s : State) (ini : Initiator), s.Takes ini (Reg.QUE_FCTL) → s.fld F.QUE_FCTLSTAT_BUSY = 0 →
    Becomes (.abandon ini) s { s.setFld F.QUE_FCTLSTAT_BUSY 1 with front := { s.front with abandon := s.fld F.QUE_FCTLARG_CTX } }) ∧
  (∀ (s : State) (l : List Nat), s.fld F.QUE_FCTLSTAT_BUSY = 1 → s.unsignalled s.front.abandon = l →
    Becomes .abandonEnd s (((l.foldl (fun u i => u.signalFence i 5 0) s).setFld F.QUE_FCTLSTAT_COUNT l.length).setFld
      F.QUE_FCTLSTAT_BUSY 0)) ∧
  (∀ (s : State) (ini : Initiator) (c : Fin 4) (v : Word), s.Takes ini (Reg.QUE_CLASSIGN c) → (s.setFld
  (F.QUE_CLASSIGN_CTX c) (v.toNat % 4096)).domOn (domCL c) = true → (s.setFld (F.QUE_CLASSIGN_CTX c) (v.toNat %
  4096)).inClReset c = false →
    Becomes (.clusterAssign ini c v) s ((s.setFld (F.QUE_CLASSIGN_CTX c) (v.toNat % 4096)).writeOwner c (v.toNat %
      4096)))

/-- A write of EVF_SWFIRE fires a producer for each bit; writes of channels, tasks and sorters store their fields, a
task with no channel forgets a held arrival, a sorter is cleared, and a write that would route a tainted channel to a
restricted task is refused as a whole. A held arrival is delivered once its task is not busy; an armed stopwatch at
its limit sets SAT; a filter whose raw output holds its length changes its output, and that time passes. Arrivals at
  EVT_HST_IRQ send their
vector, at EVT_TILE_BCHK start a check. A pulse of a producer enabled in a task's channel arrives at the task in the
  same cycle, and is held
at a busy one; with no pulse of the producers named, a cycle changes no task. -/
def Obligations.EventCommands : Prop :=
  (∀ (s : State) (ini : Initiator) (v : Word), s.Takes ini (Reg.EVF_SWFIRE) →
    Becomes (.evfSwfire ini v) s { s with pulses := s.pulses ++ ((List.range 4).filter v.getLsbD).map (80 + ·) }) ∧
  (∀ (s : State) (ini : Initiator) (k : Fin 32) (v : Word), s.Takes ini (Reg.EVF_CHEN k) → (s.setFld (F.EVF_CHEN_EN k)
  v.toNat).badRoute = false →
    Becomes (.evfChenWrite ini k v) s (s.setFld (F.EVF_CHEN_EN k) v.toNat)) ∧
  (∀ (s : State) (ini : Initiator) (k : Fin 32) (v : Word), s.Takes ini (Reg.EVF_CHEN k) → (s.setFld (F.EVF_CHEN_EN k)
  v.toNat).badRoute = true →
    Becomes (.evfChenWrite ini k v) s ((s.violate.setFld F.SEAL_STATUS_ROUTE 1).incFld F.SEAL_EGRCNT2_GPIO 1)) ∧
  (∀ (s : State) (ini : Initiator) (u : Fin 160) (v : Word), s.Takes ini (Reg.EVF_TASK u) → v.getLsbD 6 = false →
  v.toNat % 16 ≠ 0 → ((s.setFld (F.EVF_TASK_EN u) v.toNat).setFld (F.EVF_TASK_DROP u) (v.toNat / 16 % 2)).badRoute =
  false →
    Becomes (.evfTaskWrite ini u v) s ((s.setFld (F.EVF_TASK_EN u) v.toNat).setFld (F.EVF_TASK_DROP u) (v.toNat / 16
      % 2))) ∧
  (∀ (s : State) (ini : Initiator) (u : Fin 160), s.Takes ini (Reg.EVF_TASK u) → s.badRoute = false → (((s.setFld
  (F.EVF_TASK_EN u) 0).setFld (F.EVF_TASK_DROP u) 0).setFld (F.EVF_TASK_HELD u) 0).badRoute = false →
    Becomes (.evfTaskWrite ini u 0) s (((s.setFld (F.EVF_TASK_EN u) 0).setFld (F.EVF_TASK_DROP u) 0).setFld
      (F.EVF_TASK_HELD u) 0)) ∧
  (∀ (s : State) (ini : Initiator) (n : Fin 16) (v : Word), s.Takes ini (Reg.EVF_SORT1 n) →
    Becomes (.evfSortWrite ini n true v) s ((s.setReg (Reg.EVF_SORT1 n) (v &&& 0xFFFF)).sorterAtRest n)) ∧
  (∀ (s : State) (ini : Initiator) (n : Fin 16) (v : Word), s.Takes ini (Reg.EVF_SORT0 n) →
  ((s.setReg (Reg.EVF_SORT0 n) (v &&& 0xFFFFF)).sorterAtRest n).badRoute = false →
    Becomes (.evfSortWrite ini n false v) s ((s.setReg (Reg.EVF_SORT0 n) (v &&& 0xFFFFF)).sorterAtRest n)) ∧
  (∀ (s : State) (ini : Initiator) (n : Fin 16) (v : Word), s.Takes ini (Reg.EVF_SORT0 n) →
  ((s.setReg (Reg.EVF_SORT0 n) (v &&& 0xFFFFF)).sorterAtRest n).badRoute = true →
    Becomes (.evfSortWrite ini n false v) s ((s.violate.setFld F.SEAL_STATUS_ROUTE 1).incFld F.SEAL_EGRCNT2_GPIO 1)) ∧
  (∀ (s : State) (u : Fin 160), s.fld (F.EVF_TASK_HELD u) = 1 → s.taskBusy u = false → s.weather = .run →
    Becomes (.heldArrivalDelivery u) s ((s.deliver u).setFld (F.EVF_TASK_HELD u) 0)) ∧
  (∀ (s : State) (u : Fin 160), (s.fld (F.EVF_TASK_HELD u) = 0 ∨ s.taskBusy u = true) →
    Becomes (.heldArrivalDelivery u) s s) ∧
  (∀ (s : State) (i : Fin 8), s.fld (F.EVF_SWSTAT_STATE i) = 1 → s.evtCycles - tabGet (fun _ => 0) s.swStart i ≥ 2 ^
  32 - 1 →
    Becomes (.stopwatchSaturate i) s (s.setFld (F.EVF_SWSTAT_SAT i) 1)) ∧
  (∀ (s : State) (n : Fin 16), s.weather = .run → (s.fld (F.EVF_SORT1_FLT n) = 1 ∨ s.fld (F.EVF_SORT1_FLT n) = 2) →
  s.fld (F.EVF_SORT1_TRUTH n) = 255 → s.fld (F.EVF_SORT0_REG n) = 0 → s.fld (F.EVF_SORT1_OUT n) = 0 →
  tabGet (fun _ => false) s.sortRaw n = true → tabGet (fun _ => 0) s.sortHeld n < s.filterLen n →
    Gives (.sorterFilterExpiry n) s fun t => t.fld (F.EVF_SORT1_OUT n) = 1 ∧ t.pulses.contains (64 + (n : Nat)) = true ∧
      t.evtCycles = s.evtCycles + (s.filterLen n - tabGet (fun _ => 0) s.sortHeld n) ∧ t.mem = s.mem ∧
      t.arriving = s.arriving) ∧
  (∀ (s : State) (n : Fin 16), (s.weather ≠ .run ∨ (s.fld (F.EVF_SORT1_FLT n) ≠ 1 ∧ s.fld (F.EVF_SORT1_FLT n) ≠ 2) ∨
  tabGet (fun _ => false) s.sortRaw n = s.flag (F.EVF_SORT1_OUT n)) →
    Becomes (.sorterFilterExpiry n) s s) ∧
  (∀ (s : State) (n : Nat),
    s.filterLen n = (s.fld (F.EVF_SORT1_LEN n) + 1) * if s.fld (F.EVF_SORT1_FLT n) = 2 then 65536 else 1) ∧
  (∀ (s : State) (n : Nat), s.fld (F.EVF_SORT1_OUT n) = 0 →
    s.sortOut n true = (s.setFld (F.EVF_SORT1_OUT n) 1).fire (64 + n)) ∧
  (∀ (s : State) (n : Fin 8), s.arriving.contains (83 + (n : Nat)) = true →
    Becomes (.hstIrqTask n) s ({ s with arriving := s.arriving.erase (83 + (n : Nat)) }.sendVec (s.fld
      (F.EVF_HIRQ_VEC n)))) ∧
  (∀ (s : State) (t : Fin 32), s.arriving.contains (if (t : Nat) < 8 then 120 + t else 128 + t) = true → s.domOn
  (domTQ t) = true →
    Becomes (.tileBchkTask t) s ({ s with arriving := s.arriving.erase (if (t : Nat) < 8 then 120 + t else 128 + t) }.tileCheck t false)) ∧
  (∀ (s : State) (n : Fin 8) (t : Fin 32), s.arriving = [] →
    Becomes (.hstIrqTask n) s s ∧ Becomes (.tileBchkTask t) s s) ∧
  (∀ (s : State) (evt aon : Nat) (ps : List (Fin 128)), s.weather = .run → s.stopped = false → (∀ p ∈ ps,
  s.pulses.contains (p : Nat) = false ∧ ((p : Nat) < 64 ∨ 80 ≤ (p : Nat))) → s.arriving.contains 30 = false →
  s.arriving.contains 31 = false →
    Gives (.eventFire evt aon ps) s fun t => t.arriving = s.arriving ∧ t.mem = s.mem ∧ t.pending = s.pending ∧
      t.evtCycles = s.evtCycles + max 1 evt ∧ ∀ u : Nat, u < 160 →
        t.fld (F.EVF_TASK_HELD u) = s.fld (F.EVF_TASK_HELD u)) ∧
  (∀ (s : State) (aon k u : Nat) (p : Fin 128), s.weather = .run → s.stopped = false → s.sorting = false →
  s.pulses.contains (p : Nat) = true → s.enabledIn p k = true → k < 32 → s.listening = [u] → k ∈ s.taskChans u →
  s.taskBusy u = false → s.fld (F.EVF_TASK_HELD u) = 0 → crosses u = true → u ≠ 30 → u ≠ 31 →
  s.arriving.contains 30 = false → s.arriving.contains 31 = false →
    Gives (.eventFire 1 aon [p]) s fun t => t.arriving = s.arriving ++ [u] ∧ t.pulses = s.pulses.erase (p : Nat) ∧
      t.evtCycles = s.evtCycles + 1 ∧ t.regs = s.regs ∧ t.mem = s.mem ∧ t.queues = s.queues ∧ t.tiles = s.tiles) ∧
  (∀ (s : State) (aon k u : Nat) (p : Fin 128), s.weather = .run → s.stopped = false → s.sorting = false →
  s.pulses.contains (p : Nat) = true → s.enabledIn p k = true → k < 32 → s.listening = [u] → k ∈ s.taskChans u →
  s.taskBusy u = true → 20 ≤ u → (u < 48 ∨ 64 ≤ u ∧ u < 96 ∨ 104 ≤ u ∧ u < 128 ∨ 136 ≤ u) →
    s.fld (F.EVF_TASK_HELD u) = 0 →
  s.fld (F.EVF_TASK_DROP u) = 0 → s.arriving.contains 30 = false → s.arriving.contains 31 = false →
    Gives (.eventFire 1 aon [p]) s fun t => t.arriving = s.arriving ∧ t.fld (F.EVF_TASK_HELD u) = 1 ∧
      s.KeepsRegs t [Reg.EVF_TASK u] ∧ t.pulses = s.pulses.erase (p : Nat))

/-- An arrival at a task whose consumer is in another clock domain and not busy crosses to it, one at a busy task is
held where HOLD allows and nothing is held yet, and is otherwise discarded with RET and RETCNT. A start arms a
stopwatch, a start of an armed one is a double, a stop gives the width and leaves it done, a stop of one not armed is
out of order, both at once give width 0 with SAME. Taint follows sealed producers to the channels they are enabled on.
-/
def Obligations.EventDelivery : Prop :=
  (∀ (s : State) (u : Nat), s.taskBusy u = false → s.fld (F.EVF_TASK_HELD u) = 0 → crosses u = true →
  u ≠ 30 → u ≠ 31 →
    s.arrive u = { s with arriving := s.arriving ++ [u] }) ∧
  (∀ (s : State) (u : Nat), s.taskBusy u = true → s.fld (F.EVF_TASK_DROP u) = 0 → s.fld (F.EVF_TASK_HELD u) = 0 →
  (20 ≤ u ∨ (s.core (u / 4)).run ≠ .wait) →
    s.arrive u = s.setFld (F.EVF_TASK_HELD u) 1) ∧
  (∀ (s : State) (u : Nat), s.taskBusy u = true → (s.fld (F.EVF_TASK_DROP u) = 1 ∨ s.fld (F.EVF_TASK_HELD u) = 1) → u
  < 160 → (20 ≤ u ∨ (s.core (u / 4)).run ≠ .wait) →
    (s.arrive u).fld (F.EVF_TASK_RET u) = 1 ∧
      (s.arrive u).fld F.EVF_RETCNT_COUNT = min 65535 (s.fld F.EVF_RETCNT_COUNT + 1) ∧
    (s.arrive u).fld F.EVF_STATUS_RETANY = 1 ∧
      s.OnlyRegs (s.arrive u) [Reg.EVF_TASK u, Reg.EVF_RETCNT, Reg.EVF_STATUS]) ∧
  (∀ (s : State) (i : Nat) (a : Bool), s.fld (F.EVF_SWSTAT_STATE i) ≠ 1 → i < 8 →
    let t := s.swEvent i (some a) none
    t.fld (F.EVF_SWSTAT_STATE i) = 1 ∧ t.fld (F.EVF_SWSTAT_TAINT i) = b2n a ∧
      tabGet (fun _ => 0) t.swStart i = s.evtCycles) ∧
  (∀ (s : State) (i : Nat), s.fld (F.EVF_SWSTAT_STATE i) = 1 → i < 8 →
    let t := s.swEvent i none (some false)
    let w := min (2 ^ 32 - 1) (s.evtCycles - tabGet (fun _ => 0) s.swStart i)
    t.fld (F.EVF_SWSTAT_STATE i) = 2 ∧ t.fld (F.EVF_SWRES0_WIDTH i) = w % 2 ^ 24 ∧
      t.fld (F.EVF_SWRES1_WIDTH i) = w / 2 ^ 24) ∧
  (∀ (s : State) (i : Nat) (b : Bool), s.fld (F.EVF_SWSTAT_STATE i) ≠ 1 →
    s.swEvent i none (some b) = s.setFld (F.EVF_SWSTAT_ORDER i) 1) ∧
  (∀ (s : State) (i : Nat) (a : Bool), s.fld (F.EVF_SWSTAT_STATE i) = 1 → s.fld (F.EVF_SWCFG_DBLRST i) = 0 →
    s.swEvent i (some a) none = s.setFld (F.EVF_SWSTAT_DOUBLE i) 1) ∧
  (∀ (s : State) (i : Nat), s.fld (F.EVF_SWSTAT_STATE i) ≠ 1 → i < 8 →
    let t := s.swEvent i (some false) (some false)
    t.fld (F.EVF_SWSTAT_STATE i) = 2 ∧ t.fld (F.EVF_SWSTAT_SAME i) = 1 ∧ t.fld (F.EVF_SWRES0_WIDTH i) = 0 ∧
      t.fld (F.EVF_SWRES1_WIDTH i) = 0) ∧
  (∀ (p k : Nat), p < 128 → k < 32 →
    (chenBit p k).isSome = decide ((p % 32 + 32 - k) % 8 = 0)) ∧
  (∀ (u i : Nat), i < 4 →
    taskChan u i = (u + 9 * i) % 32) ∧
  (∀ (s : State) (k : Nat), k ∈ s.tainted →
    ∃ p : Nat, s.enabledIn p k = true ∧ ((64 ≤ p ∧ p < 80) ∨ (111 ≤ p ∧ p ≤ 114))) ∧
  (∀ (s : State) (u : Nat), crosses u = true → u ≠ 30 → u ≠ 31 →
    s.deliver u = { s with arriving := s.arriving ++ [u] })

/-- A snapshot request sets BUSY unless one runs; its capture shows the time, the clk_evt cycles since the request,
and whether a write was pending. Staging takes the time written and sets WPEND, cancelling clears it. At a second's
last cycle SEC advances and SUB is zero, or a staged time is applied with APPLIED, and the second's pulse is fired;
away from it nothing happens. The alarm disarms itself, sets ALMFIRED and fires when the time equals it; the tick
fires when SUB is a multiple of its period. -/
def Obligations.RtcCommands : Prop :=
  (∀ (s : State) (ini : Initiator), s.Takes ini (Reg.RTC_SNAP) → s.fld F.RTC_SNAPST_BUSY = 0 →
    Becomes (.rtcSnap ini) s { s.setFld F.RTC_SNAPST_BUSY 1 with
      rtc := { s.rtc with snapReq := s.evtCycles, snapStale := s.flag F.RTC_STATUS_WPEND, snapOld := 0 } }) ∧
  (∀ (s : State) (ini : Initiator), s.Takes ini (Reg.RTC_SNAP) → s.fld F.RTC_SNAPST_BUSY = 1 →
    Becomes (.rtcSnap ini) s s) ∧
  (∀ (s : State), s.fld F.RTC_SNAPST_BUSY = 1 → s.fld F.CLK_STATUS_AONOK = 1 → s.weather = .run → 3906 ≤ s.evtCycles -
  s.rtc.snapReq → s.evtCycles - s.rtc.snapReq ≤ 7816 → s.rtc.snapStale = false → s.rtc.sub < 32768 → s.rtc.sec < 2 ^
  32 →
    Gives .snapCapture s fun t => t.fld F.RTC_SNAPST_BUSY = 0 ∧ t.fld F.RTC_SNAPST_VALID = 1 ∧
      t.fld F.RTC_SNAPST_STALE = 0 ∧
      t.fld F.RTC_SNSEC0_SEC + 2 ^ 24 * t.fld F.RTC_SNSEC1_SEC = s.rtc.sec ∧ t.fld F.RTC_SNSUB_SUB = s.rtc.sub ∧
      t.fld F.RTC_SNFRAC_FRAC = s.evtCycles - s.rtc.snapReq ∧ t.rtc.sec = s.rtc.sec ∧ t.mem = s.mem) ∧
  (∀ (s : State), (s.fld F.RTC_SNAPST_BUSY = 0 ∨ s.evtCycles - s.rtc.snapReq < 3906) →
    Becomes .snapCapture s s) ∧
  (∀ (s : State) (ini : Initiator), s.Takes ini (Reg.RTC_WCMD) →
    Becomes (.rtcWriteStage ini) s { s.setFld F.RTC_STATUS_WPEND 1 with
      rtc := { s.rtc with wsec := s.fld F.RTC_WSEC0_SEC + 2 ^ 24 * s.fld F.RTC_WSEC1_SEC, wsub := s.fld F.RTC_WSUB_SUB } }) ∧
  (∀ (s : State) (ini : Initiator), s.Takes ini (Reg.RTC_WCMD) →
    Becomes (.rtcWriteCancel ini) s (s.setFld F.RTC_STATUS_WPEND 0)) ∧
  (∀ (s : State), s.fld F.CLK_STATUS_AONOK = 1 → s.weather = .run → s.rtc.sub = 32767 → s.fld F.RTC_STATUS_WPEND = 0 →
    Becomes .rtcSecondBoundary s ({ s with aonCycles := s.aonCycles + 1, rtc := { s.rtc with sec := (s.rtc.sec + 1) % 2 ^ 32, sub := 0 } }.fire 117)) ∧
  (∀ (s : State), s.fld F.CLK_STATUS_AONOK = 1 → s.weather = .run → s.rtc.sub = 32767 → s.fld F.RTC_STATUS_WPEND = 1 →
    Gives .rtcSecondBoundary s fun t => t.rtc.sec = s.rtc.wsec ∧ t.rtc.sub = s.rtc.wsub ∧ t.fld F.RTC_STATUS_WPEND = 0 ∧
      t.fld F.RTC_STATUS_APPLIED = 1 ∧ t.pulses = s.pulses ++ [117] ∧ t.aonCycles = s.aonCycles + 1 ∧ t.mem = s.mem) ∧
  (∀ (s : State), s.rtc.sub ≠ 32767 →
    Becomes .rtcSecondBoundary s s) ∧
  (∀ (s : State), s.fld F.CLK_STATUS_AONOK = 1 → s.weather = .run → s.fld F.RTC_ALMSUB_EN = 1 → 32768 * s.rtc.sec +
  s.rtc.sub = 32768 * (s.fld F.RTC_ALM0_SEC + 2 ^ 24 * s.fld F.RTC_ALM1_SEC) + s.fld F.RTC_ALMSUB_SUB →
    Becomes .rtcAlarm s (((s.setFld F.RTC_ALMSUB_EN 0).setFld F.RTC_STATUS_ALMFIRED 1).fire 95)) ∧
  (∀ (s : State), s.fld F.RTC_ALMSUB_EN = 0 →
    Becomes .rtcAlarm s s) ∧
  (∀ (s : State), s.fld F.CLK_STATUS_AONOK = 1 → s.weather = .run → s.rtc.sub % 2 ^ s.fld F.RTC_TICK_DIV = 0 →
    Becomes .rtcTick s (s.fire 118)) ∧
  (∀ (s : State), (s.fld F.CLK_STATUS_AONOK = 0 ∨ s.rtc.sub % 2 ^ s.fld F.RTC_TICK_DIV ≠ 0) →
    Becomes .rtcTick s s)

/-- A command while one runs sets REFUSED. A MOUNT that runs whole sets MOUNTED and ends with code 1. A record write
  checks MOUNTED, its
parameters, the source and sealed rows in the order of R520, with codes 2 to 5, and with a spare page and room for its
key it runs as its operand says: whole, it ends with code 1, the page VALID for its key, an old one SUPERSEDED; a delete
supersedes the key's page; a delete and a find end with 8 when the key has no record; a find shows the page, its length
and its sequence number. A read of the window returns the bytes of the array and counts their bit errors; one of the
page under operation waits for the erase or program at hand. An
abort leaves the group it tears, or the page under erase, open. -/
def Obligations.ParameterStoreCommands : Prop :=
  (∀ (s : State) (ini : Initiator) (r : PstRun), s.Takes ini (Reg.PST_CMD) → s.pstOp ≠ none →
    Becomes (.mount ⟨ini, r⟩) s (s.setFld F.PST_STATUS_REFUSED 1) ∧
      Becomes (.pstWrite ini r) s (s.setFld F.PST_STATUS_REFUSED 1) ∧
    Becomes (.pstDelete ini r) s (s.setFld F.PST_STATUS_REFUSED 1) ∧
      Becomes (.pstFind ini) s (s.setFld F.PST_STATUS_REFUSED 1)) ∧
  (∀ (s : State) (ini : Initiator) (r : PstRun), s.Takes ini (Reg.PST_CMD) → s.pstOp = none →
    Becomes (.mount ⟨ini, r⟩) s (s.pstMount r)) ∧
  (∀ (s : State),
    let t := s.pstMount .whole
    t.fld F.PST_STATUS_MOUNTED = 1 ∧ t.fld F.PST_RESULT_CODE = 1 ∧ t.fld F.PST_RESULT_CMD = 1 ∧ t.pstOp = none ∧
      t.mem = s.mem) ∧
  (∀ (s : State) (ini : Initiator) (r : PstRun), s.Takes ini (Reg.PST_CMD) → s.pstOp = none → s.fld
  F.PST_STATUS_MOUNTED = 0 →
    Becomes (.pstWrite ini r) s ((s.setFld F.PST_RESULT_CODE 2).setFld F.PST_RESULT_CMD 2)) ∧
  (∀ (s : State) (ini : Initiator) (r : PstRun), s.Takes ini (Reg.PST_CMD) → s.pstOp = none → s.fld
  F.PST_STATUS_MOUNTED = 1 → (s.fld F.PST_KEY0_TYPE = 0 ∨ s.fld F.PST_KEY0_TYPE = 0xFFFF ∨ s.fld F.PST_LEN_LEN < 8 ∨
  472 < s.fld F.PST_LEN_LEN ∨ s.fld F.PST_LEN_LEN % 8 ≠ 0 ∨ 4096 < s.fld F.PST_SRC_ROW + (s.fld F.PST_LEN_LEN + 383) /
  384) →
    Becomes (.pstWrite ini r) s (s.pstEnd 2 3)) ∧
  (∀ (s : State) (ini : Initiator) (r : PstRun), s.Takes ini (Reg.PST_CMD) → s.pstOp = none → s.fld
  F.PST_STATUS_MOUNTED = 1 → (¬(s.fld F.PST_KEY0_TYPE = 0 ∨ s.fld F.PST_KEY0_TYPE = 0xFFFF ∨ s.fld F.PST_LEN_LEN < 8 ∨
  472 < s.fld F.PST_LEN_LEN ∨ s.fld F.PST_LEN_LEN % 8 ≠ 0 ∨ 4096 < s.fld F.PST_SRC_ROW + (s.fld F.PST_LEN_LEN + 383) /
  384)) → s.spOn (s.fld F.PST_SRC_CLUSTER) = false →
    Becomes (.pstWrite ini r) s (s.pstEnd 2 4)) ∧
  (∀ (s : State) (ini : Initiator) (r : PstRun), s.Takes ini (Reg.PST_CMD) → s.pstOp = none → s.fld
  F.PST_STATUS_MOUNTED = 1 → (¬(s.fld F.PST_KEY0_TYPE = 0 ∨ s.fld F.PST_KEY0_TYPE = 0xFFFF ∨ s.fld F.PST_LEN_LEN < 8 ∨
  472 < s.fld F.PST_LEN_LEN ∨ s.fld F.PST_LEN_LEN % 8 ≠ 0 ∨ 4096 < s.fld F.PST_SRC_ROW + (s.fld F.PST_LEN_LEN + 383) /
  384)) → s.spOn (s.fld F.PST_SRC_CLUSTER) = true → s.prescanSealed (s.fld F.PST_SRC_CLUSTER) (s.fld F.PST_SRC_ROW)
  (s.fld F.PST_LEN_LEN) = true →
    Becomes (.pstWrite ini r) s ((s.pstEnd 2 5).refuseEgress F.SEAL_EGRCNT2_PST)) ∧
  (∀ (s : State) (ini : Initiator) (r : PstRun) (p : Nat), s.Takes ini (Reg.PST_CMD) → s.pstOp = none → s.fld
  F.PST_STATUS_MOUNTED = 1 → (¬(s.fld F.PST_KEY0_TYPE = 0 ∨ s.fld F.PST_KEY0_TYPE = 0xFFFF ∨ s.fld F.PST_LEN_LEN < 8 ∨
  472 < s.fld F.PST_LEN_LEN ∨ s.fld F.PST_LEN_LEN % 8 ≠ 0 ∨ 4096 < s.fld F.PST_SRC_ROW + (s.fld F.PST_LEN_LEN + 383) /
  384)) → s.spOn (s.fld F.PST_SRC_CLUSTER) = true → s.prescanSealed (s.fld F.PST_SRC_CLUSTER) (s.fld F.PST_SRC_ROW)
  (s.fld F.PST_LEN_LEN) = false → s.sparePage = some p → (s.findKey (s.fld F.PST_KEY0_TYPE) (s.fld F.PST_KEY1_INST) ≠
  none ∨ s.pstRecords < 240) →
    Becomes (.pstWrite ini r) s (s.pstRun ⟨false, s.fld F.PST_KEY0_TYPE, s.fld F.PST_KEY1_INST, s.fld F.PST_LEN_LEN,
      s.fld F.PST_SRC_CLUSTER, s.fld F.PST_SRC_ROW, p, s.findKey (s.fld F.PST_KEY0_TYPE) (s.fld F.PST_KEY1_INST), 0,
        none⟩ r) ∧
    Gives (.pstWrite ini .whole) s fun t => t.pstOp = none ∧ t.fld F.PST_RESULT_CODE = 1 ∧ t.fld F.PST_RESULT_CMD = 2 ∧
      (t.page p).cls = 1 ∧ (t.page p).type = s.fld F.PST_KEY0_TYPE ∧ (t.page p).inst = s.fld F.PST_KEY1_INST ∧
      (t.page p).len = s.fld F.PST_LEN_LEN ∧ (∀ q, s.findKey (s.fld F.PST_KEY0_TYPE) (s.fld F.PST_KEY1_INST) = some q →
        (t.page q).cls = 2 ∧ (t.page p).seq = ((s.page q).seq + 1) % 2 ^ 32) ∧
      (∀ g : Nat, g / 64 ≠ p → s.findKey (s.fld F.PST_KEY0_TYPE) (s.fld F.PST_KEY1_INST) ≠ some (g / 64) →
        t.pstGroup g = s.pstGroup g) ∧ t.mem = s.mem ∧ s.KeepsRegs t [Reg.PST_RESULT]) ∧
  (∀ (s : State) (ini : Initiator) (r : PstRun) (p : Nat), s.Takes ini (Reg.PST_CMD) → s.pstOp = none → s.fld
  F.PST_STATUS_MOUNTED = 1 → s.findKey (s.fld F.PST_KEY0_TYPE) (s.fld F.PST_KEY1_INST) = some p →
    Becomes (.pstDelete ini r) s (s.pstRun ⟨true, s.fld F.PST_KEY0_TYPE, s.fld F.PST_KEY1_INST, 0, 0, 0, p, some p, 0, none⟩ r) ∧
    Gives (.pstDelete ini .whole) s fun t => t.pstOp = none ∧ t.fld F.PST_RESULT_CODE = 1 ∧ t.fld F.PST_RESULT_CMD = 3 ∧
      (t.page p).cls = 2 ∧ t.pstGroup (64 * p + 63) = ⟨0, 0, false⟩ ∧
      (∀ g : Nat, g ≠ 64 * p + 63 → t.pstGroup g = s.pstGroup g) ∧ t.mem = s.mem ∧ s.KeepsRegs t [Reg.PST_RESULT]) ∧
  (∀ (s : State) (ini : Initiator) (r : PstRun), s.Takes ini (Reg.PST_CMD) → s.pstOp = none → s.fld
  F.PST_STATUS_MOUNTED = 1 → s.findKey (s.fld F.PST_KEY0_TYPE) (s.fld F.PST_KEY1_INST) = none →
    Becomes (.pstDelete ini r) s (s.pstEnd 3 8)) ∧
  (∀ (s : State) (ini : Initiator) (p : Nat), s.Takes ini (Reg.PST_CMD) → s.pstOp = none → s.fld F.PST_STATUS_MOUNTED
  = 1 → s.findKey (s.fld F.PST_KEY0_TYPE) (s.fld F.PST_KEY1_INST) = some p →
    Becomes (.pstFind ini) s ((((((s.setFld F.PST_FOUND_PAGE p).setFld F.PST_FOUND_FOUND 1).setFld F.PST_FOUND_LEN
      (s.page p).len).setFld
      F.PST_FSEQ0_SEQ (s.page p).seq).setFld F.PST_FSEQ1_SEQ ((s.page p).seq / 2 ^ 24)).pstEnd 4 1)) ∧
  (∀ (s : State) (ini : Initiator), s.Takes ini (Reg.PST_CMD) → s.pstOp = none → s.fld F.PST_STATUS_MOUNTED = 1 →
  s.findKey (s.fld F.PST_KEY0_TYPE) (s.fld F.PST_KEY1_INST) = none →
    Becomes (.pstFind ini) s ((s.setFld F.PST_FOUND_FOUND 0).pstEnd 4 8)) ∧
  (∀ (s : State) (ini : Initiator) (u : Fin 32768), s.stopped = false → s.verdict ini (0x04000000 + 4 * u) false =
  .pass → (s.pstOp.any fun o => o.page == (u : Nat) / 128) = true →
    Becomes (.pstWindowRead ini u) s { s.pstChance.eccReads (groupsOf (4 * u) 4) with readData := s.pstChance.pstBytes (4 * u) 4 }) ∧
  (∀ (s : State) (ini : Initiator) (u : Fin 32768), s.stopped = false → s.verdict ini (0x04000000 + 4 * u) false =
  .pass → (s.pstOp.any fun o => o.page == (u : Nat) / 128) = false →
    Becomes (.pstWindowRead ini u) s { s.eccReads (groupsOf (4 * u) 4) with readData := s.pstBytes (4 * u) 4 }) ∧
  (∀ (s : State) (g : Nat), (s.pstGroup g).ecc = 0 →
    s.eccRead g = s) ∧
  (∀ (s : State) (ini : Initiator) (u : Fin 32768), s.stopped = false → s.verdict ini (0x04000000 + 4 * u) false =
  .dark →
    Becomes (.pstWindowRead ini u) s { s.dark ini (0x04000000 + 4 * u) false with readData := [0, 0, 0, 0] }) ∧
  (∀ (s : State), s.pstOp = none →
    Becomes .brownOutAbort s s) ∧
  (∀ (s : State) (o : PstOp), s.pstOp = some o → o.erasing = false →
    Gives .brownOutAbort s fun t => t.pstOp = none ∧
      (∀ g : Nat, g ≠ (({ s with pstOp := none } : State).pstUnit o).1 → t.pstGroup g = s.pstGroup g) ∧ t.mem = s.mem ∧
        t.regs = s.regs) ∧
  (∀ (s : State) (o : PstOp), s.pstOp = some o → o.erasing = true →
    Gives .brownOutAbort s fun t => t.pstOp = none ∧ (∀ g : Nat, g / 64 ≠ o.spare → t.pstGroup g = s.pstGroup g) ∧
      t.regs = s.regs)

/-- A program leaves its group with the data and no error, and the others as they were; all-ones data leaves it
erased. An erase leaves every group of its page erased and no other page changed, raises the page's wear by 1 and
retires it at 100,000. A write begins with the erase of its spare page; a program that fails its verify ends the
command with code 9 and retires the page; the last one ends it with code 1, the new page VALID with the next sequence
number and an old one SUPERSEDED. A row that has become sealed ends the write with code 5. -/
def Obligations.RecordWrites : Prop :=
  (∀ (s : State) (g h v : Nat) (weak : Bool), v ≠ 2 ^ 64 - 1 →
    (s.program g v weak).pstGroup h = if h = g then ⟨v, 0, weak⟩ else s.pstGroup h) ∧
  (∀ (s : State) (p g : Nat),
    (s.erasePage p).pstGroup g = if g / 64 = p then {} else s.pstGroup g) ∧
  (∀ (s : State) (o : PstOp) (f : Bool), o.del = false → o.fixes = none → o.unit = 0 → (s.page o.spare).wear < 99999 →
    let t := s.pstDo o f
    t.pstOp = some { o with unit := 1 } ∧ (t.page o.spare).wear = (s.page o.spare).wear + 1 ∧ (t.page o.spare).cls = 0 ∧
    (t.page o.spare).retired = false ∧ t.pst = (s.erasePage o.spare).pst) ∧
  (∀ (s : State) (o : PstOp), (s.page o.spare).wear = 99999 →
    ((s.pstErase o).page o.spare).retired = true) ∧
  (∀ (s : State) (o : PstOp), o.del = false → o.fixes = none → 0 < o.unit → o.unit ≤ o.len / 8 →
    s.unitTag o.cluster (o.row + 8 *
  (o.unit - 1) / 384) = false → (s.pstUnit o).2 ≠ 2 ^ 64 - 1 →
    let t := s.pstDo o false
    t.pstOp = some { o with unit := o.unit + 1 } ∧
    t.pstGroup (64 * o.spare + (o.unit - 1)) = ⟨ofBytes (((s.unitRow o.cluster (o.row + 8 * (o.unit - 1) / 384)).drop (8 * (o.unit - 1) % 384)).take 8), 0, false⟩) ∧
  (∀ (s : State) (o : PstOp) (f : Bool), o.del = false → o.fixes = none → 0 < o.unit → o.unit ≤ o.len / 8 →
    s.unitTag o.cluster (o.row
  + 8 * (o.unit - 1) / 384) = true →
    s.pstDo o f = ((({ s with pstOp := none }).pstEnd 2 5).refuseEgress F.SEAL_EGRCNT2_PST)) ∧
  (∀ (s : State) (o : PstOp), o.del = false → o.fixes = none → o.unit = o.len / 8 + 4 →
    let t := s.pstDo o true
    t.pstOp = none ∧ t.fld F.PST_RESULT_CODE = 9 ∧ (t.page o.spare).retired = true) ∧
  (∀ (s : State) (o : PstOp), o.del = false → o.fixes = none → o.unit = o.len / 8 + 4 → o.old = none →
    let t := s.pstDo o false
    t.pstOp = none ∧ t.fld F.PST_RESULT_CODE = 1 ∧ (t.page o.spare).cls = 1 ∧ (t.page o.spare).seq = 0 ∧
      (t.page o.spare).type = o.type ∧
    t.pstGroup (64 * o.spare + 62) = ⟨0x0F0F5A5AA5A5F0F0, 0, false⟩) ∧
  (∀ (s : State) (o : PstOp) (q : Nat), o.del = false → o.fixes = none → o.unit = o.len / 8 + 5 → o.old = some q →
    q ≠ o.spare →
    let t := s.pstDo o false
    t.pstOp = none ∧ t.fld F.PST_RESULT_CODE = 1 ∧ (t.page q).cls = 2 ∧
      (t.page o.spare).seq = ((s.page q).seq + 1) % 2 ^ 32 ∧
    t.pstGroup (64 * q + 63) = ⟨0, 0, false⟩)

/-- A command of the lock's holder is taken with the registers as they stand, a job, a derivation or an unwrap to run
only once no slot-engine job has the core; another owner's command records status 6 and sets NOLOCK, and one while
another is in progress is ignored. The end of a command leaves its effect and its result code in its owner's record: a
job its bytes and its context, KEYSET, KEYCLR, KEYUSE, DERIVE and UNWRAP the key slot, LOAD the buffer, STORE the row,
CLEAR zeros; what Table CIP-1 rules out ends with code 3, a key that may not be used with code 4, a sealed row with
code 5. A request for the lock queues once, the oldest is granted when the lock is free; a release zeroes the buffer,
IV, tags, mode and context, is refused while BUSY, and a time-out revokes the lock. A slot-engine job waits for or
takes the core and answers its result. -/
def Obligations.CipherCommands : Prop :=
  (∀ (s : State) (ini : Initiator) (c : Instr) (n : Nat), s.Takes ini (Reg.CIP_CMD) → cipOwner ini ≠ 0 →
    s.fld F.CIP_LOCK_OWNER = cipOwner ini → s.cip.op = none →
  (c, n) ∈ [(Instr.cipJob ini, 1), (Instr.cipLoad ini, 2), (Instr.cipStore ini, 3), (Instr.keyset ini, 4),
  (Instr.keyclr ini, 5), (Instr.keyuse ini, 6), (Instr.derive ini, 7), (Instr.unwrap ini, 8), (Instr.cipClear ini, 9)] →
    Gives c s fun t => t.cip.op = some (s.cipTaken (cipOwner ini) n) ∧ (t.cipRec (cipOwner ini)).2 = n ∧
      t.cip.keys = s.cip.keys ∧ t.cip.buf = s.cip.buf ∧ t.cip.ctx = s.cip.ctx ∧ t.cip.queue = s.cip.queue ∧
      t.cip.slotJob = s.cip.slotJob ∧ t.regs = s.regs ∧ t.mem = s.mem ∧ t.tags = s.tags ∧ t.cores = s.cores) ∧
  (∀ (s : State) (o n : Nat),
    s.cipTaken o n = if n ∈ [1, 7, 8] ∧ s.lent = true then { op := n, owner := o, args := s.cipArgs }
      else { op := n, owner := o, args := s.cipArgs, running := true, key := s.cipKey (s.fld F.CIP_MODE_KSLOT) }) ∧
  (∀ (s : State) (ini : Initiator) (c : Instr) (n : Nat), s.Takes ini (Reg.CIP_CMD) →
    s.fld F.CIP_LOCK_OWNER ≠ cipOwner ini →
  (c, n) ∈ [(Instr.cipJob ini, 1), (Instr.cipLoad ini, 2), (Instr.cipStore ini, 3), (Instr.keyset ini, 4),
  (Instr.keyclr ini, 5), (Instr.keyuse ini, 6), (Instr.derive ini, 7), (Instr.unwrap ini, 8), (Instr.cipClear ini, 9)] →
    Becomes c s ((s.setCipRec (cipOwner ini) 6 n).setFld F.CIP_ERR_NOLOCK 1)) ∧
  (∀ (s : State) (ini : Initiator) (c : Instr) (n : Nat), s.Takes ini (Reg.CIP_CMD) → cipOwner ini ≠ 0 →
    s.fld F.CIP_LOCK_OWNER = cipOwner ini → s.cip.op ≠ none →
  (c, n) ∈ [(Instr.cipJob ini, 1), (Instr.cipLoad ini, 2), (Instr.cipStore ini, 3), (Instr.keyset ini, 4),
  (Instr.keyclr ini, 5), (Instr.keyuse ini, 6), (Instr.derive ini, 7), (Instr.unwrap ini, 8), (Instr.cipClear ini, 9)] →
    Becomes c s s) ∧
  (∀ (s u : State) (p : CipOp) (code : Nat), s.fld F.CIP_LOCK_OWNER ≠ 7 → s.cip.op = some p →
  p.running = true → p.torn = false → s.cipRun p = (code, u) →
  u.cip.due = .none →
    Becomes .cipOpComplete s (({ u with cip := { u.cip with op := none } }.setCipRec p.owner code p.op).nextCore)) ∧
  (∀ (s u : State) (p : CipOp) (code : Nat), s.fld F.CIP_LOCK_OWNER ≠ 7 → s.cip.op = some p →
  p.running = true → p.torn = false → s.cipRun p = (code, u) →
  u.cip.due = .plain →
    Becomes .cipOpComplete s (({ u with cip := { u.cip with op := none } }.setCipRec p.owner code
      p.op).releaseLock.nextCore)) ∧
  (∀ (s : State), s.fld F.CIP_LOCK_OWNER ≠ 7 → (s.cip.op.all fun p => !p.running) = true →
    Becomes .cipOpComplete s s) ∧
  (∀ (s : State) (p : CipOp), p.op = 1 → p.args.job.first = true → p.args.job.good {} = false →
    s.cipRun p = (3, s)) ∧
  (∀ (s : State) (p : CipOp), p.op = 1 → p.args.job.first = true → p.args.job.good {} = true →
  p.key.okFor p.args.job.kslot p.owner = false →
    s.cipRun p = (4, s)) ∧
  (∀ (s : State) (p : CipOp) (x : CipCtx) (out : List Byte), s.fld F.CIP_LOCK_OWNER ≠ 7 → p.op = 1 →
    p.args.job.first = true → p.args.job.last = false →
  p.args.job.good {} = true → p.key.okFor p.args.job.kslot p.owner = true →
  jobStep p.args.job p.key.key (newCtx p.args.job p.args.iv p.key.key) (s.cipBytes p.args.job.nb) = (x, out) →
    Gives .cipOpComplete { s with cip := { s.cip with op := some { p with running := true, torn := false }, due := .none } } fun t =>
      t.cip.ctx = some x ∧ t.cip.buf = (s.setCipBytes out).cip.buf ∧ t.cip.keys = s.cip.keys ∧
      t.cipRec p.owner = (1, 1) ∧ t.fld F.CIP_JOBCNT_COUNT = (s.fld F.CIP_JOBCNT_COUNT + 1) % 2 ^ 24 ∧ t.mem = s.mem) ∧
  (∀ (s : State) (p : CipOp), p.op = 4 → (p.owner = 5 ∨ p.owner = 8) → p.args.tslot ≠ 0 →
    s.cipRun p = (1, (s.setCipKey p.args.tslot
      ⟨true, p.args.size, p.args.use, s.cipBytes (keyLen p.args.size)⟩).setCipBytes
      (List.replicate 32 0))) ∧
  (∀ (s : State) (p : CipOp), p.op = 5 → (p.owner = 5 ∨ p.owner = 8) → p.args.tslot ≠ 0 →
    s.cipRun p = (1, s.setCipKey p.args.tslot {})) ∧
  (∀ (s : State) (p : CipOp), p.op = 6 → (p.owner = 5 ∨ p.owner = 8) → p.args.tslot ≠ 0 →
    s.cipRun p = if (s.cipKey p.args.tslot).valid = true then
      (1, s.setCipKey p.args.tslot { s.cipKey p.args.tslot with use := p.args.use }) else (4, s)) ∧
  (∀ (s : State) (p : CipOp), (p.op = 4 ∨ p.op = 5 ∨ p.op = 6 ∨ p.op = 8) → (p.owner = 5 ∨ p.owner = 8) →
    p.args.tslot = 0 →
    s.cipRun p = (3, s)) ∧
  (∀ (s : State) (p : CipOp), p.op = 7 → p.owner = 5 → p.args.toBoot = false → p.args.tslot ≠ 0 →
    p.args.label.take 2 ≠ [0x48, 0x4C] →
  (s.cipKey 0).valid = true →
    s.cipRun p = (1, s.setCipKey p.args.tslot ⟨true, p.args.size, p.args.use,
      kdf (s.cipKey 0).key p.args.label (s.cipBytes 17) (p.args.size + 1)⟩)) ∧
  (∀ (s : State) (p : CipOp), p.op = 7 → p.owner = 5 → (p.args.toBoot = true ∨ p.args.label.take 2 = [0x48, 0x4C]) →
    s.cipRun p = (3, s)) ∧
  (∀ (s : State) (p : CipOp) (k : List Byte), p.op = 8 → p.owner = 5 → p.args.toBoot = false → p.args.tslot ≠ 0 →
  p.key.okFor p.args.job.kslot 5 = true → keyUnwrap p.key.key (s.cipBytes (keyLen p.args.size + 8)) = some k →
    s.cipRun p = (1, (s.setCipBytes (List.replicate 40 0)).setCipKey p.args.tslot ⟨true, p.args.size, p.args.use, k⟩)) ∧
  (∀ (s : State) (p : CipOp), p.op = 8 → p.owner = 5 → p.args.toBoot = false → p.args.tslot ≠ 0 →
    p.key.okFor p.args.job.kslot 5 = true →
  keyUnwrap p.key.key (s.cipBytes (keyLen p.args.size + 8)) = none →
    s.cipRun p = (7, s.setCipBytes (List.replicate 40 0))) ∧
  (∀ (s : State) (p : CipOp), 4 ≤ p.op → p.op ≤ 8 → p.owner ≠ 5 → p.owner ≠ 8 →
    s.cipRun p = (4, s)) ∧
  (∀ (s : State) (p : CipOp), p.op = 9 →
    s.cipRun p = (1, s.cipClear) ∧ s.cipClear.cip.buf = [] ∧ s.cipClear.cip.ctx = none ∧
      s.cipClear.cip.keys = s.cip.keys ∧
    (∀ w : Nat, w < 6 → s.cipClear.reg (Reg.CIP_IV w) = 0 ∧ s.cipClear.reg (Reg.CIP_ETAG w) = 0 ∧
      s.cipClear.reg (Reg.CIP_TAG w) = 0)) ∧
  (∀ (s : State) (p : CipOp), (p.op = 2 ∨ p.op = 3) → p.args.xferBad = true →
    s.cipRun p = (3, s)) ∧
  (∀ (s : State) (p : CipOp), p.op = 2 → p.args.xferBad = false → s.spOn p.args.cluster = true →
    s.clearing p.args.cluster = false →
  s.inClReset p.args.cluster = false → s.tag p.args.cluster p.args.row = true →
    s.cipRun p = (5, { s with cip := { s.cip with buf := [] } }.refuseEgress F.SEAL_EGRCNT2_OTHER)) ∧
  (∀ (s : State) (p : CipOp), p.op = 2 → p.args.xferBad = false → p.args.offset + p.args.len ≤ 384 →
    s.spOn p.args.cluster = true →
  s.clearing p.args.cluster = false → s.inClReset p.args.cluster = false → s.tag p.args.cluster p.args.row = false →
    s.cipRun p = (1, s.setCipBytes (((s.rowBytes p.args.cluster p.args.row).drop p.args.offset).take p.args.len))) ∧
  (∀ (s : State) (p : CipOp), p.op = 2 → p.args.xferBad = false → s.spOn p.args.cluster = true →
  (s.clearing p.args.cluster = true ∨ s.inClReset p.args.cluster = true) →
    s.cipRun p = (1, s.setCipBytes (List.replicate p.args.len 0))) ∧
  (∀ (s : State) (p : CipOp), p.op = 3 → p.args.xferBad = false → p.args.offset % 4 = 0 → p.args.len % 4 = 0 →
  p.args.offset + p.args.len ≤ 384 → s.spOn p.args.cluster = true → s.clearing p.args.cluster = false →
  s.inClReset p.args.cluster = false →
    s.cipRun p = (1, s.writePart p.args.cluster p.args.row p.args.offset (s.cipBytes p.args.len) false)) ∧
  (∀ (s : State) (p : CipOp), p.op = 3 → p.args.xferBad = false → p.args.offset % 4 = 0 → p.args.len % 4 = 0 →
    s.spOn p.args.cluster = true →
  (s.clearing p.args.cluster = true ∨ s.inClReset p.args.cluster = true) →
    s.cipRun p = (1, s)) ∧
  (∀ (s : State) (ini : Initiator), s.Takes ini (Reg.CIP_LOCK) → s.fld F.CIP_LOCK_OWNER ≠ cipOwner ini → (cipOwner
  ini) ∉ s.cip.queue →
    Becomes (.cipLockRequest ini) s { s with cip := { s.cip with queue := s.cip.queue ++ [cipOwner ini] } }) ∧
  (∀ (s : State) (ini : Initiator), s.Takes ini (Reg.CIP_LOCK) → (s.fld F.CIP_LOCK_OWNER = cipOwner ini ∨ (cipOwner
  ini) ∈ s.cip.queue) →
    Becomes (.cipLockRequest ini) s s) ∧
  (∀ (s : State) (ini : Initiator), s.Takes ini (Reg.CIP_LOCK) → s.fld F.CIP_LOCK_OWNER = cipOwner ini → s.cip.op =
  none →
    Becomes (.cipLockRelease ini) s s.releaseLock) ∧
  (∀ (s : State) (n w : Nat), w < 6 →
    let t := s.releaseLock
    t.fld F.CIP_LOCK_OWNER = 0 ∧ t.cipBytes n = List.replicate n 0 ∧ t.reg (Reg.CIP_IV w) = 0 ∧
      t.reg (Reg.CIP_TAG w) = 0 ∧
    t.reg Reg.CIP_MODE = 0 ∧ t.cip.ctx = none ∧ t.cip.keys = s.cip.keys ∧ t.mem = s.mem ∧
    (s.fld F.CIP_LOCK_OWNER = 8 → t.cip.boot = [])) ∧
  (∀ (s : State) (ini : Initiator), s.Takes ini (Reg.CIP_LOCK) → s.fld F.CIP_LOCK_OWNER = cipOwner ini → s.cip.op ≠
  none →
    Becomes (.cipLockRelease ini) s (s.setFld F.CIP_ERR_RELBUSY 1)) ∧
  (∀ (s : State) (ini : Initiator), s.Takes ini (Reg.CIP_LOCK) → s.fld F.CIP_LOCK_OWNER ≠ cipOwner ini →
    Becomes (.cipLockRelease ini) s s) ∧
  (∀ (s : State) (o : Nat) (rest : List Nat), s.fld F.CIP_LOCK_OWNER = 0 → s.domOn 7 = true → s.cip.queue = o :: rest
  →
    Becomes .cipLockGrant s ({ s with cip := { s.cip with queue := rest } }.setFld F.CIP_LOCK_OWNER o)) ∧
  (∀ (s : State), (s.fld F.CIP_LOCK_OWNER ≠ 0 ∨ s.cip.queue = []) →
    Becomes .cipLockGrant s s) ∧
  (∀ (s : State), s.fld F.CIP_LOCKTO_T ≠ 0 → 1 ≤ s.fld F.CIP_LOCK_OWNER → s.fld F.CIP_LOCK_OWNER ≤ 5 → s.cip.op = none
  →
    Becomes .lockTimeout s ((((s.setCipRec (s.fld F.CIP_LOCK_OWNER) 8 (s.cipRec (s.fld F.CIP_LOCK_OWNER)).2).setFld
      F.CIP_ERR_REVOKED 1).fault
      0x0B 63 (s.fld F.CIP_LOCK_OWNER) false).releaseLock)) ∧
  (∀ (s : State), (s.fld F.CIP_LOCKTO_T = 0 ∨ 5 < s.fld F.CIP_LOCK_OWNER) →
    Becomes .lockTimeout s s) ∧
  (∀ (s : State) (k : Fin 16) (nonce : List Byte) (enc dec : Bool) (n : Fin 17) (ad data tag : List Byte), s.domOn 7 =
  true → s.cip.slotJob = none → ad.length + data.length + n ≤ 127 →
    Gives (.slotEngineRequest k nonce enc dec n ad data tag) s fun t =>
      t = { s with cip := { s.cip with slotJob := some {
        slot := k, nonce := nonce, dec := dec, enc := enc, tagLen := n, adata := ad, data := data, tag := tag
        running := !s.coreTaken, key := if s.coreTaken then {} else s.cipKey k } } }) ∧
  (∀ (s : State) (j : SlotJob), s.cip.slotJob = some j → j.running = true → j.key.okFor j.slot 6 = false →
    Gives .slotEngineJob s fun t => t.cip.slotRes = some (4, [], []) ∧ t.cip.slotJob = none ∧
      s.KeepsRegs t [Reg.CIP_LENDMAX] ∧ t.mem = s.mem) ∧
  (∀ (s : State) (j : SlotJob) (out tag : List Byte), s.cip.slotJob = some j → j.running = true → j.key.okFor j.slot 6 =
  true → j.key.size = 0 → j.dec = false → ccmStar j.key.key j.nonce j.adata j.data j.tagLen
  j.enc j.dec = (out, tag) →
    Gives .slotEngineJob s fun t => t.cip.slotRes = some (1, out, tag) ∧ t.cip.slotJob = none ∧
      t.fld F.CIP_JOBCNT_COUNT = (s.fld F.CIP_JOBCNT_COUNT + 1) % 2 ^ 24 ∧
      s.KeepsRegs t [Reg.CIP_LENDMAX, Reg.CIP_JOBCNT] ∧ t.mem = s.mem)

/-- AES encrypts a block as FIPS 197 does, with keys of 16 and 32 bytes. A counter-mode job undoes itself, and a job
of any mode leaves as many bytes as it takes. -/
def Obligations.CipherFunctions : Prop :=
  (
    aesEnc (beBytes 16 0x000102030405060708090a0b0c0d0e0f) 0x00112233445566778899aabbccddeeff
      = 0x69c4e0d86a7b0430d8cdb78070b4c55a) ∧
  (
    aesEnc (beBytes 32 0x000102030405060708090a0b0c0d0e0f101112131415161718191a1b1c1d1e1f)
      0x00112233445566778899aabbccddeeff = 0x8ea2b7ca516745bfeafc49904b496089) ∧
  (∀ (j : JobArgs) (key : List Byte) (c : CipCtx) (d : List Byte), j.mode = 1 →
    (jobStep j key c (jobStep j key c d).2).2 = d) ∧
  (∀ (j : JobArgs) (key : List Byte) (c : CipCtx) (d : List Byte),
    (jobStep j key c d).2.length = d.length)

/-- START_CSMA leaves STOPPED, START_TSCH synchronises from STOPPED, CSMA and DESYNC, STOP returns in-flight buffers
to READY and stops. READY queues an EMPTY buffer or ends it BADARG; CANCEL ends a READY one with 8 and marks one on
the air; LOAD copies bytes of an open row behind the template; FREE empties a DONE one. LNK_RXPOP removes the oldest
frame; a write of the frame counter is taken when it raises it; RAD_CHAN takes channels 11 to 26; RAD_TXPWR clamps to
-20 to 10 dBm. The ends of waits and measurements show their results. -/
def Obligations.LinkCommands : Prop :=
  (∀ (s : State) (ini : Initiator), s.Takes ini (Reg.LNK_CMD) → s.lnkState = 0 →
    Becomes (.startCsma ini) s (s.setFld F.LNK_STATUS_STATE 1)) ∧
  (∀ (s : State) (ini : Initiator), s.Takes ini (Reg.LNK_CMD) → s.lnkState ≠ 0 →
    Becomes (.startCsma ini) s s) ∧
  (∀ (s : State) (ini : Initiator), s.Takes ini (Reg.LNK_CMD) → (s.lnkState = 0 ∨ s.lnkState = 1 ∨ s.lnkState = 4) →
    let back := (s.lnkTime + 2 ^ 24 - s.fld F.LNK_SYNCREF_REF) % 2 ^ 24 + (s.tsTxOffset + 160) * 32
    Gives (.startTsch ini) s fun t => t.lnkState = 2 ∧ t.fld F.LNK_SINCE_SLOTS = 0 ∧ t.lnk.corr = 0 ∧
      t.lnk.resync = 0 ∧ t.mem = s.mem ∧
      (s.slotCycles ≠ 0 → t.asn = (s.asn + back / s.slotCycles) % 2 ^ 40)) ∧
  (∀ (s : State) (ini : Initiator), s.Takes ini (Reg.LNK_CMD) → (s.lnkState = 2 ∨ s.lnkState = 3) →
    Becomes (.startTsch ini) s s) ∧
  (∀ (s : State) (ini : Initiator), s.Takes ini (Reg.LNK_CMD) →
    Becomes (.lnkStop ini) s s.lnkStop) ∧
  (∀ (s : State) (ini : Initiator) (b : Nat), s.Takes ini (Reg.LNK_CMD) → s.lnk.woke = [] →
    s.fld F.LNK_CFG_AUTORET = 0 → b < 16 →
    Gives (.lnkStop ini) s fun t => t.lnkState = 0 ∧ t.fld F.LNK_STATUS_HELD = 0 ∧ t.lnk.onAir = none ∧
      t.lnk.rxLink = none ∧
      t.lnk.rx = s.lnk.rx ∧ t.mem = s.mem ∧ s.KeepsRegs t [Reg.LNK_STATUS] ∧
      (t.tx b).st = (if (s.tx b).st = 2 then if (s.tx b).csma then 3 else 1 else (s.tx b).st) ∧
      ((s.tx b).st = 2 → (s.tx b).csma = true → (t.tx b).status = 10) ∧ ((s.tx b).st ≠ 2 → t.tx b = s.tx b)) ∧
  (∀ (s : State) (ini : Initiator), s.Takes ini (Reg.LNK_TXCMD) → (s.tx s.txSel).st = 0 → (s.tx s.txSel).bad = false →
    Becomes (.txReady ini) s { s.setTx s.txSel { s.tx s.txSel with st := 1, status := 0, tries := 0, len := 0, order := s.lnk.readies } with
      lnk := { (s.setTx s.txSel { s.tx s.txSel with st := 1, status := 0, tries := 0, len := 0, order := s.lnk.readies }).lnk with
        readies := s.lnk.readies + 1 } }) ∧
  (∀ (s : State) (ini : Initiator), s.Takes ini (Reg.LNK_TXCMD) → (s.tx s.txSel).st = 0 → (s.tx s.txSel).bad = true →
    Becomes (.txReady ini) s (s.txEnd s.txSel 7)) ∧
  (∀ (s : State) (ini : Initiator), s.Takes ini (Reg.LNK_TXCMD) → (s.tx s.txSel).st ≠ 0 →
    Becomes (.txReady ini) s s) ∧
  (∀ (s : State) (b code : Nat),
    (s.txEnd b code) = (s.setTx b { s.tx b with st := 3, status := code, cancel := false, csma := false, backoff := 0, be := 0, nb := 0 }).fire 124) ∧
  (∀ (s : State) (ini : Initiator), s.Takes ini (Reg.LNK_TXCMD) → (s.tx s.txSel).st = 1 →
    Becomes (.txCancel ini) s (s.txEnd s.txSel 8)) ∧
  (∀ (s : State) (ini : Initiator) (l : Option Bool), s.Takes ini (Reg.LNK_TXCMD) → (s.tx s.txSel).st = 2 → s.lnk.onAir
  = some (s.txSel, l) →
    Becomes (.txCancel ini) s (s.setTx s.txSel { s.tx s.txSel with cancel := true })) ∧
  (∀ (s : State) (ini : Initiator), s.Takes ini (Reg.LNK_TXCMD) → (s.tx s.txSel).st = 2 → s.lnk.onAir = none → (s.tx
  s.txSel).csma = false →
    Becomes (.txCancel ini) s (s.txEnd s.txSel 2)) ∧
  (∀ (s : State) (ini : Initiator), s.Takes ini (Reg.LNK_TXCMD) → ((s.tx s.txSel).st = 0 ∨ (s.tx s.txSel).st = 3) →
    Becomes (.txCancel ini) s s) ∧
  (∀ (s : State) (ini : Initiator) (b : TxBuf), s.Takes ini (Reg.LNK_TXCMD) → b = s.tx s.txSel → b.st = 0 → b.off +
  b.aplen ≤ 384 → b.tlen + b.aplen ≤ 127 → s.spOn b.cluster = true → s.tag b.cluster b.row = false →
    Becomes (.txLoad ini) s (s.setTx s.txSel { b with
      mem := tabSetList (fun _ => 0) b.mem b.tlen (((s.rowBytes b.cluster b.row).drop b.off).take b.aplen),
      d0 := BitVec.ofNat 24 (putBits b.d0.toNat 0 7 (b.tlen + b.aplen)) })) ∧
  (∀ (s : State) (ini : Initiator) (b : TxBuf), s.Takes ini (Reg.LNK_TXCMD) → b = s.tx s.txSel → b.st = 0 → b.off +
  b.aplen ≤ 384 → b.tlen + b.aplen ≤ 127 → s.spOn b.cluster = true → s.tag b.cluster b.row = true →
    Becomes (.txLoad ini) s ((s.setTx s.txSel { b with mem := [] }).refuseEgress F.SEAL_EGRCNT_RADIO)) ∧
  (∀ (s : State) (ini : Initiator), s.Takes ini (Reg.LNK_TXCMD) → (s.tx s.txSel).st = 3 →
    Becomes (.txFree ini) s (s.setTx s.txSel { s.tx s.txSel with st := 0, status := 0, tries := 0, len := 0, plain := [], psdu := [] })) ∧
  (∀ (s : State) (ini : Initiator), s.Takes ini (Reg.LNK_TXCMD) → (s.tx s.txSel).st ≠ 3 →
    Becomes (.txFree ini) s s) ∧
  (∀ (s : State) (ini : Initiator), s.Takes ini (Reg.LNK_RXPOP) → s.fld F.LNK_CFG_AUTORET = 0 →
    Becomes (.lnkRxpop ini) s { s with lnk := { s.lnk with rx := s.lnk.rx.drop 1 } }) ∧
  (∀ (s : State) (ini : Initiator) (v : Word), s.Takes ini (Reg.LNK_FC0) →
    Becomes (.lnkFcWrite ini false v) s (if s.lnkFc < s.lnkFc / 2 ^ 24 * 2 ^ 24 + v.toNat then s.setLnkFc (s.lnkFc /
      2 ^ 24 * 2 ^ 24 + v.toNat) else s)) ∧
  (∀ (s : State) (ini : Initiator) (v : Word), s.Takes ini (Reg.LNK_FC1) →
    Becomes (.lnkFcWrite ini true v) s (if s.lnkFc < s.lnkFc % 2 ^ 24 + v.toNat % 256 * 2 ^ 24 then s.setLnkFc
      (s.lnkFc % 2 ^ 24 + v.toNat % 256 * 2 ^ 24) else s)) ∧
  (∀ (s : State) (ini : Initiator) (v : Word), s.Takes ini (Reg.RAD_CHAN) →
    Becomes (.radChanWrite ini v) s (if 11 ≤ v.toNat % 32 ∧
      v.toNat % 32 ≤ 26 then s.setFld F.RAD_CHAN_CHAN (v.toNat % 32) else s.setFld F.RAD_ERR_BADCHAN 1)) ∧
  (∀ (s : State) (ini : Initiator) (v : Word) (p : Int), s.Takes ini (Reg.RAD_TXPWR) → (v.truncate 6).toInt = p → -20
  ≤ p → p ≤ 10 →
    Becomes (.radTxpwrWrite ini v) s (s.setFld F.RAD_TXPWR_PWR (v.toNat % 64))) ∧
  (∀ (s : State) (ini : Initiator) (v : Word) (p : Int), s.Takes ini (Reg.RAD_TXPWR) → (v.truncate 6).toInt = p → (p <
  -20 ∨ 10 < p) →
    Becomes (.radTxpwrWrite ini v) s ((s.setFld F.RAD_TXPWR_PWR (if p < 0 then 44 else 10)).setFld F.RAD_ERR_PWRCLAMP
      1)) ∧
  (∀ (s : State), s.desyncDue = true →
    Gives .lnkDesync s fun t => t.lnkState = 4 ∧ t.fld F.LNK_STATUS_DESYNCEV = 1 ∧ t.fld F.LNK_STATUS_HELD = 0 ∧
      t.lnk.rxLink = none ∧ 124 ∈ t.pulses ∧ t.lnk.txs = s.lnk.txs ∧ t.lnk.rx = s.lnk.rx ∧ t.mem = s.mem ∧
        t.tags = s.tags) ∧
  (∀ (s : State), s.desyncDue = false →
    Becomes .lnkDesync s s) ∧
  (∀ (s : State) (p : Int), s.lnk.ed = true → -128 ≤ p → p ≤ 127 →
    Becomes (.edDone p) s (({ s with lnk := { s.lnk with ed := false } }.setFld F.RAD_ED_ED (unsigned 8 p)).setFld
      F.RAD_ED_VALID 1)) ∧
  (∀ (s : State) (p : Int), s.lnk.ed = false →
    Becomes (.edDone p) s s) ∧
  (∀ (s : State) (l : RxSlot), s.lnk.rxLink = some l → s.lnk.woke = [] → s.fld F.LNK_CFG_AUTORET = 0 →
    Becomes .tsRxWaitEnd s { s with lnk := { s.lnk with rxLink := none } }) ∧
  (∀ (s : State), s.lnk.rxLink = none →
    Becomes .tsRxWaitEnd s s)

/-- A slot start of a synchronised engine raises the ASN by 1 modulo 2^40, counts the slots since the last correction,
fires its producers and serves the link of R589: with none active the slot ends, a TX link sends its oldest buffer, an
RX link opens the receiver on the channel of R590. A slot wake requests the domains that slot needs. CCA finds the
channel busy by energy above the threshold, by a signal, or by both. A clear channel sends the oldest waiting buffer in
CSMA, a busy one is tried again and too often ends it with 3; an attempt's end ends its buffer with 1, or retries it up
to MAXRETRY and ends it with 2. A frame with a bad FCS sets RAD_LAST and is counted; one delivered enters the ring with
EVP_LNK_RXDONE, or is counted where the ring is full. -/
def Obligations.LinkSlots : Prop :=
  (∀ (s : State) (cca : Cca), s.lnkState = 2 → s.fld F.LNK_STATUS_HELD = 0 → 1 ≤ s.dom 3 → s.weather = .run →
    s.desyncDue = false → (∀ l : Nat, l < 128 → s.linkActive ((s.asn + 1) % 2 ^ 40) l = false) → s.lnk.woke = [] →
      s.fld F.LNK_CFG_AUTORET = 0 →
  s.fld F.LNK_CFG_SLOTEV = 0 → (∀ n : Nat, n < 4 → s.fld (F.LNK_ASNMAT0_PERIOD n) = 0) →
    Gives (.slotStart cca) s fun t => t.asn = (s.asn + 1) % 2 ^ 40 ∧
      t.fld F.LNK_SINCE_SLOTS = min (2 ^ 24 - 1) (s.fld F.LNK_SINCE_SLOTS + 1) ∧
      t.lnk.corr = 0 ∧ t.pulses = s.pulses ∧ t.mem = s.mem ∧ t.lnk.txs = s.lnk.txs ∧ t.lnk.rx = s.lnk.rx ∧
      s.KeepsRegs t [Reg.LNK_ASN0, Reg.LNK_ASN1, Reg.LNK_SINCE]) ∧
  (∀ (s : State) (cca : Cca) (l : Nat), s.lnkState = 2 → s.fld F.LNK_STATUS_HELD = 0 → 1 ≤ s.dom 3 → s.weather = .run →
    s.desyncDue = false → s.chooseLink ((s.asn + 1) % 2 ^ 40) = some l → linkTx (s.link l) = false → linkRx
  (s.link l) = true → s.rfOn = true → s.lnk.onAir = none → s.lnk.rxLink = none →
    Gives (.slotStart cca) s fun t =>
      t.lnk.rxLink = some ⟨(s.setAsn ((s.asn + 1) % 2 ^ 40)).hop (bitsOf (s.link l).1 18 4), (s.asn + 1) % 2 ^ 40⟩ ∧
      t.asn = (s.asn + 1) % 2 ^ 40 ∧ t.mem = s.mem ∧ t.lnk.txs = s.lnk.txs ∧ t.lnk.rx = s.lnk.rx ∧ t.air = s.air) ∧
  (∀ (s : State) (cca : Cca) (l b : Nat), s.lnkState = 2 → s.fld F.LNK_STATUS_HELD = 0 → 1 ≤ s.dom 3 →
    s.weather = .run → s.desyncDue = false → s.chooseLink ((s.asn + 1) % 2 ^ 40) = some l → s.linkBuf l = some b →
      b < 16 →
  s.rfOn = true → s.lnk.onAir = none → s.lnk.rxLink = none → (s.tx b).st = 2 → (s.tx b).secure = false →
    (s.tx b).asnPos = 0 →
  (s.tx b).backoff = 0 → (s.fld F.LNK_CFG_TSCHCCA = 0 ∨ linkShared (s.link l) = true ∨ s.ccaBusy cca = false) →
    Gives (.slotStart cca) s fun t => t.lnk.onAir = some (b, some (linkShared (s.link l))) ∧
      t.tx b = { s.tx b with tries := (s.tx b).tries + 1 } ∧ t.asn = (s.asn + 1) % 2 ^ 40 ∧
      t.air = s.air ++ [((s.setAsn ((s.asn + 1) % 2 ^ 40)).hop (bitsOf (s.link l).1 18 4), (s.tx b).psdu)] ∧
        t.mem = s.mem ∧
      t.lnk.rx = s.lnk.rx) ∧
  (∀ (s : State) (cca : Cca), s.tsch = false →
    Becomes (.slotStart cca) s s ∧ Becomes .slotWake s s) ∧
  (∀ (s : State), s.tsch = true → s.chooseLink ((s.asn + 1) % 2 ^ 40) = none →
    Becomes .slotWake s s) ∧
  (∀ (s : State) (l : Nat), s.tsch = true → 1 ≤ s.dom 3 → s.weather = .run → s.chooseLink ((s.asn + 1) % 2 ^ 40) =
  some l → (s.requestOn (s.slotNeeds l) false).2 = false →
    Becomes .slotWake s (s.requestOn (s.slotNeeds l) false).1) ∧
  (∀ (s : State) (l : Nat), s.tsch = true → 1 ≤ s.dom 3 → s.weather = .run → s.chooseLink ((s.asn + 1) % 2 ^ 40) =
  some l → (s.requestOn (s.slotNeeds l) false).2 = true →
    let r := (s.requestOn (s.slotNeeds l) false).1
    Becomes .slotWake s { r with lnk := { r.lnk with woke := r.lnk.woke ++
      ((List.range domains).filter fun d => d != 0 && d != 3 && ((s.slotNeeds l).flatMap withNeeds).contains d && !s.lit d).map fun d => (d, s.dom d) } }) ∧
  (∀ (s : State) (k : Nat), s.fld F.LNK_HOPCFG_LEN < 16 →
    11 ≤ s.hop k ∧ s.hop k ≤ 26 ∧ s.hop (k + s.fld F.LNK_HOPCFG_LEN + 1) = s.hop k) ∧
  (∀ (s : State) (c : Cca),
    (s.fld F.RAD_CCA_MODE ≤ 1 → s.ccaBusy c = decide (signed 8 (s.fld F.RAD_CCA_THR) < c.energy)) ∧
    (s.fld F.RAD_CCA_MODE = 2 → s.ccaBusy c = c.signal) ∧
    (s.fld F.RAD_CCA_MODE = 3 → s.ccaBusy c = (decide (signed 8 (s.fld F.RAD_CCA_THR) < c.energy) && c.signal))) ∧
  (∀ (s : State) (cca : Cca), s.lnkState ≠ 1 → s.lnkState ≠ 4 →
    Becomes (.csmaAccess cca) s s) ∧
  (∀ (s : State) (b : Nat) (cca : Cca), s.csmaMode = true → s.domOn 3 = true → s.rfOn = true → s.lnk.onAir = none →
    s.oldest
  (s.fbit F.LNK_CSMA_QMASK ·) = some b → (s.tx b).st = 2 → (s.tx b).csma = true → ((s.tx b).secure = false ∨
    s.domOn 7 = true) → s.ccaBusy cca = false →
    Becomes (.csmaAccess cca) s { s with lnk := { s.lnk with onAir := some (b, none) }, air := s.air ++ [(s.fld F.RAD_CHAN_CHAN, (s.tx b).psdu)] }) ∧
  (∀ (s : State) (b : Nat) (cca : Cca), s.csmaMode = true → s.domOn 3 = true → s.rfOn = true → s.lnk.onAir = none →
    s.oldest
  (s.fbit F.LNK_CSMA_QMASK ·) = some b → (s.tx b).st = 2 → (s.tx b).csma = true → ((s.tx b).secure = false ∨
    s.domOn 7 = true) → s.ccaBusy cca = true → (s.tx b).nb + 1 ≤ s.fld F.LNK_CSMA_MAXBO →
    Becomes (.csmaAccess cca) s (s.setTx b { s.tx b with nb := (s.tx b).nb + 1, be := min ((s.tx b).be + 1) (s.fld F.LNK_CSMA_MAXBE) })) ∧
  (∀ (s : State) (b : Nat) (cca : Cca), s.csmaMode = true → s.domOn 3 = true → s.rfOn = true → s.lnk.onAir = none →
    s.oldest
  (s.fbit F.LNK_CSMA_QMASK ·) = some b → (s.tx b).st = 2 → (s.tx b).csma = true → ((s.tx b).secure = false ∨
    s.domOn 7 = true) → s.ccaBusy cca = true → s.fld F.LNK_CSMA_MAXBO < (s.tx b).nb + 1 →
    Becomes (.csmaAccess cca) s ((s.lnkCount Reg.LNK_CNT2 2).txEnd b 3)) ∧
  (∀ (s : State) (b : Nat) (l : Option Bool), s.lnk.onAir = some (b, l) → s.lnk.woke = [] →
    s.fld F.LNK_CFG_AUTORET = 0 → (mhrOf (s.tx b).plain).ackReq = true →
    Becomes (.txDone (.acked none)) s ({ s with lnk := { s.lnk with onAir := none } }.txEnd b 1)) ∧
  (∀ (s : State) (b : Nat) (l : Option Bool), s.lnk.onAir = some (b, l) → s.lnk.woke = [] →
    s.fld F.LNK_CFG_AUTORET = 0 → (mhrOf (s.tx b).plain).ackReq = false →
    Becomes (.txDone .silent) s ({ s with lnk := { s.lnk with onAir := none } }.txEnd b 1)) ∧
  (∀ (s : State) (b : Nat) (l : Option Bool), s.lnk.onAir = some (b, l) → s.lnk.woke = [] →
    s.fld F.LNK_CFG_AUTORET = 0 → (mhrOf (s.tx b).plain).ackReq = true → ((s.tx b).cancel = true ∨
      (s.tx b).maxRetry ≤ (s.tx b).tries) →
    Becomes (.txDone .silent) s (({ s with lnk := { s.lnk with onAir := none } }.lnkCount Reg.LNK_CNT2 1).txEnd b 2)) ∧
  (∀ (s : State) (b : Nat) (l : Option Bool), s.lnk.onAir = some (b, l) → s.lnk.woke = [] →
    s.fld F.LNK_CFG_AUTORET = 0 → (mhrOf (s.tx b).plain).ackReq = true → (s.tx b).cancel = false →
      (s.tx b).tries < (s.tx b).maxRetry →
  (s.tx b).csma = true →
    Becomes (.txDone .silent) s (({ s with lnk := { s.lnk with onAir := none } }.lnkCount Reg.LNK_CNT2 1).setTx b
      { s.tx b with tries := (s.tx b).tries + 1, nb := 0, be := s.fld F.LNK_CSMA_MINBE })) ∧
  (∀ (s : State) (r : TxResult), s.lnk.onAir = none →
    Becomes (.txDone r) s s) ∧
  (∀ (s : State) (psdu : List Byte) (power : Int) (chips : Fin 257) (stamp : BitVec 32) (corr : Int), s.domOn 3 = true
  → s.rfOn = true → s.lnk.onAir = none → s.lnk.rxLink = none → s.csmaMode = true → s.lnk.woke = [] →
    s.fld F.LNK_CFG_AUTORET = 0 → (psdu.length < 3 ∨ withFcs
  (psdu.take (psdu.length - 2)) ≠ psdu) →
    Becomes (.rxFrame psdu power chips stamp corr) s ((s.setReg Reg.RAD_LAST (BitVec.ofNat 24 (lastWord power
      chips))).lnkCount Reg.LNK_CNT1 0)) ∧
  (∀ (s : State) (psdu : List Byte) (power : Int) (chips : Fin 257) (stamp : BitVec 32) (corr : Int), (s.domOn 3 =
  false ∨ s.rfOn = false ∨ s.lnk.onAir ≠ none) →
    Becomes (.rxFrame psdu power chips stamp corr) s s) ∧
  (∀ (s : State) (bs : List Byte) (power : Int) (chips : Fin 257) (stamp : BitVec 32) (corr : Int), s.domOn 3 = true →
  s.rfOn = true → s.lnk.onAir = none → s.lnk.rxLink = none → s.csmaMode = true → s.lnk.woke = [] →
    s.fld F.LNK_CFG_AUTORET = 0 → 1 ≤ bs.length → bs.length ≤ 125 →
  (mhrOf bs).supported = true → s.forMe (mhrOf bs) = true → (mhrOf bs).level = 0 → (mhrOf bs).ackReq = false →
  s.nbrOf (mhrOf bs).srcMode (mhrOf bs).src = none → s.lnk.rx.length < 16 →
    Gives (.rxFrame (withFcs bs) power chips stamp corr) s fun t => t.lnk.rx.length = s.lnk.rx.length + 1 ∧
      (t.lnk.rx.getLast?.map fun e => (e.psdu, e.stamp, e.asn, e.nbr)) = some (bs, stamp.toNat, s.asn, 127) ∧
      (t.lnk.rx.getLast?.map fun e => (e.chan, e.secok, e.nonbr)) = some (s.fld F.RAD_CHAN_CHAN, false, true) ∧
      t.reg Reg.RAD_LAST = BitVec.ofNat 24 (lastWord power chips) ∧ t.pulses = s.pulses ++ [125] ∧
      s.KeepsRegs t [Reg.RAD_LAST] ∧ t.lnk.txs = s.lnk.txs ∧ t.lnk.nbrs = s.lnk.nbrs ∧ t.mem = s.mem) ∧
  (∀ (s : State) (m : Mhr) (n : Option Nat) (orig bs : List Byte) (stamp : Nat) (corr : Int) (w : RxSlot), 16 ≤
  s.lnk.rx.length →
    s.rxDeliver m n orig bs stamp corr w = s.lnkCount Reg.LNK_CNT1 2)

/-- A node takes a beacon that passed security and holds an MMP IE it can read. At the end of a dwell a node with a
joinable beacon joins the best of those that name the lowest root tuple, one that heard a claim waits on CLAIMCH, a hub
that heard nothing claims with a fresh claim number, a leaf goes to the next channel of R627. A claimant sends one claim
beacon per period, withdraws at a lower claim, joins a running mesh, and at the end of CLAIMHOLD becomes root with a
START beacon. A withdrawn or waiting node joins on START and a withdrawn one scans again without it. JOINACK makes a
child of its parent with RANK + 256 and DEPTH + 1; JOINWAIT sends JOINREQ up to four times and goes to the next
candidate. A parent gives the lowest free timeslot or refuses with FULL, DEPTH or ZONES. -/
def Obligations.MeshFormation : Prop :=
  (∀ (s : State) (hub : Bool) (heard : List Heard), s.mesh.phase = .scan →
    (s.mesh.kept ++ heard.filterMap heardBeacon).any
  (fun b => (b.kind == 2 || b.kind == 3) && b.joinOpen) = true →
    Becomes (.scanDwellEnd hub heard) s (s.setMesh
      { s.mesh with hub := hub, kept := s.mesh.kept ++ heard.filterMap heardBeacon }).mmpJoin) ∧
  (∀ (s : State) (hub : Bool) (heard : List Heard), s.mesh.phase = .scan →
    (s.mesh.kept ++ heard.filterMap heardBeacon).any
  (fun b => (b.kind == 2 || b.kind == 3) && b.joinOpen) = false →
    (s.mesh.kept ++ heard.filterMap heardBeacon).any (·.kind == 1) = true →
    Becomes (.scanDwellEnd hub heard) s ((s.setMesh
      { s.mesh with hub := hub, kept := s.mesh.kept ++ heard.filterMap heardBeacon, phase := .waiting }).mmpListen
      s.mesh.claimCh)) ∧
  (∀ (s : State), s.mesh.phase = .scan → s.mesh.kept = [] →
    Becomes (.scanDwellEnd true []) s ((s.setMesh { s.mesh with hub := true, kept := [] }).mmpClaim)) ∧
  (∀ (s : State) (heard : List Heard), s.mesh.phase = .scan → (s.mesh.kept ++ heard.filterMap heardBeacon).any
  (fun b => (b.kind == 2 || b.kind == 3) && b.joinOpen) = false →
    (s.mesh.kept ++ heard.filterMap heardBeacon).any (·.kind == 1) = false →
      s.mesh.kept ++ heard.filterMap heardBeacon ≠ [] →
    Becomes (.scanDwellEnd true heard) s ((s.setMesh { s.mesh with hub := true, kept := [] }).mmpListen
      s.mesh.claimCh)) ∧
  (∀ (s : State) (heard : List Heard), s.mesh.phase = .scan → (s.mesh.kept ++ heard.filterMap heardBeacon).any
  (fun b => (b.kind == 2 || b.kind == 3) && b.joinOpen) = false →
    (s.mesh.kept ++ heard.filterMap heardBeacon).any (·.kind == 1) = false →
    let p := (s.mesh.scanPos + 1) % 16
    Becomes (.scanDwellEnd false heard) s ((s.setMesh
      { s.mesh with hub := false, kept := s.mesh.kept ++ heard.filterMap heardBeacon, scanPos := p }).mmpListen
      (scanChannel s.mesh.claimCh p))) ∧
  (∀ (s : State) (hub : Bool) (heard : List Heard), s.mesh.phase ≠ .scan →
    Becomes (.scanDwellEnd hub heard) s s) ∧
  (∀ (s : State) (ch : Nat), s.domOn 3 = true → s.lnkState = 0 →
    s.mmpListen ch = (s.setFld F.LNK_STATUS_STATE 1).setFld F.RAD_CHAN_CHAN ch) ∧
  (∀ (s : State) (ch : Nat), s.domOn 3 = true → s.lnkState ≠ 0 →
    s.mmpListen ch = s.setFld F.RAD_CHAN_CHAN ch) ∧
  (∀ (ch : Nat), 11 ≤ ch → ch ≤ 26 →
    scanChannel ch 0 = ch ∧ scanChannel ch 1 = (if ch = 11 then 12 else 11) ∧
      scanChannel ch 15 = (if ch = 26 then 25 else 26)) ∧
  (∀ (h : Heard), (h.secok = false ∨ h.ie.length < 20) →
    heardBeacon h = none) ∧
  (∀ (h : Heard) (k c r g n d : Nat) (j st : Bool), 1 ≤ k → k ≤ 3 → c < 65536 → r < 2 ^ 64 → g < 65536 → n < 65536 → d <
  256 → h.secok = true → h.ie = mmpIe k c r g n j st d →
    heardBeacon h = some ⟨k, c, r, g, n, j, st, d, h.src, h.rssi, h.stamp, h.asn⟩) ∧
  (∀ (m : Mesh) (a b : Beacon), b ∈ m.candidates → a ∈ m.kept → (a.kind = 2 ∨ a.kind = 3) →
    b ∈ m.kept ∧ (b.kind = 2 ∨ b.kind = 3) ∧ b.joinOpen = true ∧ -90 ≤ b.rssi ∧
      b.depth ≤ (if m.hub = true then 1 else 2) ∧
    ¬ (a.claim < b.claim ∨ (a.claim = b.claim ∧ a.rootAddr < b.rootAddr))) ∧
  (∀ (s : State), s.mesh.candidates = [] →
    s.mmpJoin.mesh.phase = .scan ∧ s.mmpJoin.mesh.scanPos = 0 ∧ s.mmpJoin.mesh.kept = [] ∧
      s.mmpJoin.mesh.out = s.mesh.out ∧
    s.mmpJoin.mem = s.mem) ∧
  (∀ (s : State) (b : Beacon), bestBeacon s.mesh.candidates = some b → s.domOn 3 = true →
    s.mmpJoin.mesh.phase = .joining ∧ s.mmpJoin.mesh.cand = some b ∧ s.mmpJoin.mesh.tries = 1 ∧
      s.mmpJoin.mesh.rootClaim = b.claim ∧
    s.mmpJoin.mesh.rootAddr = b.rootAddr ∧ s.mmpJoin.mesh.rootGen = b.rootGen ∧ s.mmpJoin.lnkState = 2 ∧
    s.mmpJoin.fld F.LNK_SYNCREF_REF = b.stamp % 2 ^ 24 ∧
    (s.mmpJoin.mesh.out.getLast?.map fun o => (o.via, o.dest)) = some (.shared, b.src) ∧ s.mmpJoin.mem = s.mem) ∧
  (∀ (s : State),
    let t := s.mmpClaim
    t.mesh.phase = .claiming ∧ t.mesh.claim = s.claimKeyed.claimNumber ∧ t.mesh.claim < 65536 ∧ t.mesh.sent = 0 ∧
    t.mesh.claims = s.mesh.claims + 1 ∧ t.mesh.rootGen = s.mesh.claimGen ∧ (s.mesh.claimKey ≠ [] →
      t.mesh.claimKey = s.mesh.claimKey) ∧
    t.regs = s.regs ∧ t.mem = s.mem) ∧
  (∀ (s : State), s.mesh.phase = .claiming →
    Becomes .claimBeacon s (s.setMesh { s.mesh with sent := s.mesh.sent + 1, out := s.mesh.out ++
      [⟨.csma, 0, mmpIe 1 s.mesh.claim s.uid s.mesh.rootGen 256 false false 0⟩] })) ∧
  (∀ (s : State), s.mesh.phase ≠ .claiming →
    Becomes .claimBeacon s s) ∧
  (∀ (s : State) (h : Heard) (b : Beacon), s.mesh.phase = .claiming → heardBeacon h = some b → b.kind = 1 →
    s.lowerClaim b = true →
    Becomes (.claimHeard h) s ((s.setMesh { s.mesh with phase := .withdrawn }).mmpListen s.mesh.claimCh)) ∧
  (∀ (s : State) (h : Heard) (b : Beacon), s.mesh.phase = .claiming → heardBeacon h = some b → b.kind = 1 →
    s.lowerClaim b = false →
    Becomes (.claimHeard h) s s) ∧
  (∀ (s : State) (b : Beacon),
    s.lowerClaim b = true ↔ b.claim < s.mesh.claim ∨ (b.claim = s.mesh.claim ∧ b.rootAddr < s.uid)) ∧
  (∀ (s : State) (h : Heard) (b : Beacon), (s.mesh.phase = .claiming ∨ s.mesh.phase = .withdrawn) →
    heardBeacon h = some b → b.kind ≠ 1
  →
    Becomes (.claimHeard h) s (s.setMesh { s.mesh with kept := [b] }).mmpJoin) ∧
  (∀ (s : State) (h : Heard) (b : Beacon), s.mesh.phase = .scan → heardBeacon h = some b → b.kind = 1 →
    Becomes (.claimHeard h) s ((s.setMesh { s.mesh with phase := .waiting, kept := s.mesh.kept ++ [b] }).mmpListen
      s.mesh.claimCh)) ∧
  (∀ (s : State) (h : Heard), heardBeacon h = none →
    Becomes (.claimHeard h) s s ∧ Becomes (.startBeaconHeard h) s s) ∧
  (∀ (s : State), s.mesh.phase = .claiming → s.mesh.sent ≠ 0 → s.domOn 3 = true →
    Gives .claimholdEnd s fun t => t.mesh.phase = .root ∧ t.mesh.rootClaim = s.mesh.claim ∧ t.mesh.rootAddr = s.uid ∧
      t.mesh.rank = 256 ∧
      t.mesh.depth = 0 ∧ t.mesh.children = [] ∧ t.mesh.streams = [] ∧ t.mesh.routes = [] ∧ t.lnkState = 2 ∧
      t.mesh.out = s.mesh.out ++ [⟨.advert, 0, mmpIe 2 s.mesh.claim s.uid s.mesh.rootGen 256 true true 0⟩] ∧
      s.KeepsRegs t [Reg.LNK_STATUS, Reg.LNK_ASN0, Reg.LNK_ASN1, Reg.LNK_SYNCREF, Reg.LNK_SINCE] ∧ t.mem = s.mem) ∧
  (∀ (s : State), (s.mesh.phase ≠ .claiming ∨ s.mesh.sent = 0) →
    Becomes .claimholdEnd s s) ∧
  (∀ (s : State) (h : Heard) (b : Beacon), (s.mesh.phase = .withdrawn ∨ s.mesh.phase = .waiting) →
    heardBeacon h = some b → b.start =
  true → b.kind = 2 →
    Becomes (.startBeaconHeard h) s (s.setMesh { s.mesh with kept := [b] }).mmpJoin) ∧
  (∀ (s : State), s.mesh.phase = .withdrawn → s.domOn 3 = true → s.lnkState ≠ 0 →
    Becomes .wdrawwaitEnd s ((s.setMesh { s.mesh with phase := .scan, scanPos := 0, kept := [], cand := none, tries := 0 }).setFld
      F.RAD_CHAN_CHAN s.mesh.claimCh)) ∧
  (∀ (s : State), s.mesh.phase ≠ .withdrawn →
    Becomes .wdrawwaitEnd s s) ∧
  (∀ (s : State) (b : Beacon), s.mesh.phase = .joining → s.mesh.cand = some b → s.mesh.tries < 4 →
    Gives .joinwaitEnd s fun t => t.mesh.phase = .joining ∧ t.mesh.cand = some b ∧ t.mesh.tries = s.mesh.tries + 1 ∧
      t.mesh.out.length = s.mesh.out.length + 1 ∧
        (t.mesh.out.getLast?.map fun o => (o.via, o.dest)) = some (.shared, b.src) ∧
      t.mesh.mseq = (s.mesh.mseq + 1) % 65536 ∧ t.regs = s.regs ∧ t.mem = s.mem) ∧
  (∀ (s : State) (b : Beacon), s.mesh.phase = .joining → s.mesh.cand = some b → 4 ≤ s.mesh.tries → s.mesh.kept = [] →
    Gives .joinwaitEnd s fun t => t.mesh.phase = .scan ∧ t.mesh.scanPos = 0 ∧ t.mesh.cand = none ∧
      t.mesh.out = s.mesh.out ∧ t.mem = s.mem) ∧
  (∀ (s : State) (b d : Beacon), s.mesh.phase = .joining → s.mesh.cand = some b → 4 ≤ s.mesh.tries →
    bestBeacon s.mesh.kept =
  some d →
    Gives .joinwaitEnd s fun t => t.mesh.phase = .joining ∧ t.mesh.cand = some d ∧ t.mesh.tries = 1 ∧
      t.mesh.kept = s.mesh.kept.filter (· != d) ∧ t.mesh.out.length = s.mesh.out.length + 1 ∧ t.mem = s.mem) ∧
  (∀ (s : State) (b : Beacon) (f : MmpFrame), s.mesh.phase = .joining → s.mesh.cand = some b → f.secok = true →
  f.origin = b.src → frameByte f.payload 0 = 0 →
    Gives (.joinack f) s fun t => t.mesh.phase = .joined ∧ t.mesh.parent = b.src ∧ t.mesh.rank = b.rank + 256 ∧
      t.mesh.depth = b.depth + 1 ∧
      t.mesh.saddr = frameWord f.payload 1 2 ∧ t.mesh.ts = frameByte f.payload 3 ∧
        t.mesh.choff = frameByte f.payload 4 ∧
      t.mesh.out = s.mesh.out ++ (if s.mesh.hub = true then
        [⟨.advert, 0, mmpIe 3 b.claim b.rootAddr b.rootGen (b.rank + 256) true false (b.depth + 1)⟩] else []) ∧
      t.regs = s.regs ∧ t.mem = s.mem) ∧
  (∀ (s : State) (b : Beacon) (f : MmpFrame), s.mesh.phase = .joining → s.mesh.cand = some b → f.secok = true →
  f.origin = b.src → frameByte f.payload 0 ≠ 0 →
    Becomes (.joinack f) s s.mmpNext) ∧
  (∀ (s : State) (f : MmpFrame), (f.secok = false ∨ s.mesh.phase ≠ .joining) →
    Becomes (.joinack f) s s) ∧
  (∀ (s : State) (f : MmpFrame) (ts : Nat), f.secok = true → s.mesh.phase = .root → s.mesh.children.find? (·.addr ==
  f.origin) = none → s.mesh.freeSlot = some ts → s.mesh.depth = 0 → s.mesh.streams.length < 64 →
    Gives (.joinreq f) s fun t =>
      t.mesh.children = s.mesh.children ++ [{ addr := f.origin, ts := ts, choff := s.mesh.children.length % 16, saddr := s.open_ 65534 }] ∧
      t.mesh.mseq = (s.mesh.mseq + 1) % 65536 ∧ t.mesh.out.length = s.mesh.out.length + 1 ∧ t.regs = s.regs ∧
        t.mem = s.mem) ∧
  (∀ (s : State) (f : MmpFrame), f.secok = true → s.mesh.phase = .root → s.mesh.children.find? (·.addr ==
  f.origin) = none → s.mesh.freeSlot = none →
    Becomes (.joinreq f) s (s.mmpMake .shared f.origin 3 false [1, 0, 0, 0, 0])) ∧
  (∀ (s : State) (f : MmpFrame) (ts : Nat), f.secok = true → s.mesh.phase = .root → s.mesh.children.find? (·.addr ==
  f.origin) = none → s.mesh.freeSlot = some ts → s.mesh.depth = 0 → 64 ≤ s.mesh.streams.length →
  frameByte f.payload 1 ≠ 0 →
    Becomes (.joinreq f) s (s.mmpMake .shared f.origin 3 false [3, 0, 0, 0, 0])) ∧
  (∀ (s : State) (f : MmpFrame) (ts : Nat), f.secok = true → s.mesh.phase = .joined → s.mesh.hub = true →
    s.mesh.children.find?
  (·.addr == f.origin) = none → s.mesh.freeSlot = some ts →
    (if frameByte f.payload 0 = 1 then 1 else 2) < s.mesh.depth →
    Becomes (.joinreq f) s (s.mmpMake .shared f.origin 3 false [2, 0, 0, 0, 0])) ∧
  (∀ (m : Mesh) (ts : Nat), m.freeSlot = some ts →
    2 ≤ ts ∧ ts ≤ 99 ∧ (∀ c, c ∈ m.children → c.ts ≠ ts) ∧ (m.phase = .joined → m.ts ≠ ts) ∧
    (∀ u : Nat, 2 ≤ u → u < ts → (m.phase = .joined ∧ u = m.ts) ∨ m.children.any (·.ts == u) = true)) ∧
  (∀ (s : State) (f : MmpFrame), (f.secok = false ∨ (s.mesh.phase ≠ .root ∧ s.mesh.phase ≠ .joined)) →
    Becomes (.joinreq f) s s)

/-- ROUTE adds or removes a route at the root. A router lowers TTL and sends a frame on to its parent or toward its
TARGET, or discards it at TTL 1. ZREPORT hands each record to the stream rule of R637; a timeout drops a stream. Loss
of the parent, DESYNC or LEAVE from it stops the engine, forgets children and routes and returns to SCAN with the
ROOTGEN kept. A new HANDOVER to this node is taken as a job with answer 0, or answered 2 without its place, and the
same HANDOVER again gets the answer it had; HANDACK ends the repeats, of which there are at most eight. -/
def Obligations.MeshTraffic : Prop :=
  (∀ (s : State) (f : MmpFrame), f.secok = true → s.mesh.phase = .root → frameByte f.payload 8 = 0 →
    Becomes (.route f) s (s.setMesh { s.mesh with
      routes := s.mesh.routes.filter (fun u => u.1 != frameWord f.payload 0 8) ++
        [(frameWord f.payload 0 8, f.origin)] })) ∧
  (∀ (s : State) (f : MmpFrame), f.secok = true → s.mesh.phase = .root → frameByte f.payload 8 ≠ 0 →
    Becomes (.route f) s (s.setMesh { s.mesh with routes := s.mesh.routes.filter (fun u => u.1 != frameWord f.payload 0 8) })) ∧
  (∀ (s : State) (f : MmpFrame), s.mesh.phase ≠ .root →
    Becomes (.route f) s s ∧ Becomes (.zreport f) s s) ∧
  (∀ (s : State) (f : MmpFrame), f.secok = true → s.mesh.phase = .joined → s.mesh.hub = true → f.up = true → 2 ≤ f.ttl
  →
    Becomes (.mmpFrameForward f) s (s.mmpSend .data s.mesh.parent (mmpBytes { f with ttl := f.ttl - 1 }))) ∧
  (∀ (s : State) (f : MmpFrame), f.ttl ≤ 1 →
    Becomes (.mmpFrameForward f) s s) ∧
  (∀ (s : State) (f : MmpFrame), s.mesh.phase = .root → f.up = true →
    Becomes (.mmpFrameForward f) s s) ∧
  (∀ (s : State) (f : MmpFrame) (r : Nat), f.secok = true → s.mesh.phase = .root → f.up = false → (f.type = 6 ∨ f.type
  = 7) → 2 ≤ f.ttl → frameWord f.payload 0 8 ≠ s.uid → s.mesh.children.any (fun u => u.addr == frameWord f.payload 0
  8) = false → (s.mesh.routes.find? (fun u => u.1 == frameWord f.payload 0 8)) = some (frameWord f.payload 0 8, r) →
  s.mesh.children.any (fun u => u.addr == r) = true →
    Becomes (.mmpFrameForward f) s (s.mmpSend .downlink r (mmpBytes { f with ttl := f.ttl - 1 }))) ∧
  (∀ (s : State) (f : MmpFrame), f.secok = true → s.mesh.phase = .root → f.up = false → (f.type = 6 ∨ f.type
  = 7) → 2 ≤ f.ttl → frameWord f.payload 0 8 ≠ s.uid → s.mesh.children.any (fun u => u.addr == frameWord f.payload 0
  8) = true →
    Becomes (.mmpFrameForward f) s (s.mmpSend .downlink (frameWord f.payload 0 8) (mmpBytes
      { f with ttl := f.ttl - 1 }))) ∧
  (∀ (s : State) (f : MmpFrame), f.secok = true → s.mesh.phase = .joined → s.mesh.hub = true → f.up = false →
    (f.type = 6 ∨
  f.type = 7) → 2 ≤ f.ttl → frameWord f.payload 0 8 ≠ s.uid → s.mesh.children = [] → s.mesh.routes = [] →
    Becomes (.mmpFrameForward f) s (s.mmpSend .data s.mesh.parent (mmpBytes { f with ttl := f.ttl - 1 }))) ∧
  (∀ (s : State) (f : MmpFrame), f.secok = true → s.mesh.phase = .root →
    Becomes (.zreport f) s ((zoneRecords f.origin f.compact f.payload.length none f.payload).foldl State.zoneRecord
      s)) ∧
  (∀ (s : State) (r : ZoneRecord), s.mesh.streams.find? (fun u => u.origin == r.origin && u.zone == r.zone &&
  u.cluster == r.cluster) = none → s.mesh.streams.length < 64 →
    (s.zoneRecord r).mesh.records = s.mesh.records ++ [r] ∧
      (s.zoneRecord r).mesh.streams.length = s.mesh.streams.length + 1 ∧
    (s.zoneRecord r).mesh.overflow = s.mesh.overflow) ∧
  (∀ (s : State) (r : ZoneRecord), s.mesh.streams.find? (fun u => u.origin == r.origin && u.zone == r.zone &&
  u.cluster == r.cluster) = none → 64 ≤ s.mesh.streams.length →
    s.zoneRecord r = s.setMesh { s.mesh with overflow := s.mesh.overflow + 1 }) ∧
  (∀ (s : State) (r : ZoneRecord) (w : Stream), s.mesh.streams.find? (fun u => u.origin == r.origin && u.zone ==
  r.zone && u.cluster == r.cluster) = some w → r.epoch = w.hi → r.epoch < 65536 → bitOf (w.masks.getD 0 0) r.seq =
  true →
    s.zoneRecord r = s) ∧
  (∀ (s : State) (o : BitVec 64) (z : Fin 64) (c : Fin 4),
    Becomes (.streamTimeout o z c) s (s.setMesh { s.mesh with
      streams := s.mesh.streams.filter fun u => !(u.origin == o.toNat && u.zone == z && u.cluster == c) })) ∧
  (∀ (s : State), s.mesh.phase = .joined →
    Gives .parentLoss s fun t => t.mesh.phase = .scan ∧ t.mesh.children = [] ∧ t.mesh.routes = [] ∧
      t.mesh.lostGen = some s.mesh.rootGen ∧
      t.mesh.scanPos = 0 ∧ t.mesh.kept = [] ∧ t.mesh.out.length = s.mesh.out.length + 2 * s.mesh.children.length ∧
        t.mem = s.mem) ∧
  (∀ (s : State), s.mesh.phase ≠ .joined →
    Becomes .parentLoss s s) ∧
  (∀ (s : State) (f : MmpFrame), f.secok = true → f.origin = s.mesh.parent → s.mesh.phase = .joined →
    Gives (.leave f) s fun t => t.mesh.phase = .scan ∧ t.mesh.children = [] ∧ t.mesh.routes = [] ∧
      t.mesh.lostGen = some s.mesh.rootGen ∧
      t.mesh.scanPos = 0 ∧ t.mesh.kept = [] ∧ t.mem = s.mem) ∧
  (∀ (s : State) (f : MmpFrame), f.origin ≠ s.mesh.parent →
    Becomes (.leave f) s s) ∧
  (∀ (s : State) (f : MmpFrame), f.secok = true → frameWord f.payload 0 8 = s.uid → s.mesh.answers = [] →
  s.mesh.accepted = [] →
    Gives (.handover f true true) s fun t => t.mesh.jobs = s.mesh.jobs ++ [f.payload] ∧
      t.mesh.answers = [(f.origin, frameByte f.payload 14 % 64, frameWord f.payload 8 2, 0)] ∧
        t.mesh.out.length = s.mesh.out.length + 1) ∧
  (∀ (s : State) (f : MmpFrame) (y : Bool), f.secok = true → frameWord f.payload 0 8 = s.uid → s.mesh.answers = [] →
  s.mesh.accepted = [] →
    Gives (.handover f false y) s fun t => t.mesh.jobs = s.mesh.jobs ∧
      t.mesh.answers = [(f.origin, frameByte f.payload 14 % 64, frameWord f.payload 8 2, 2)] ∧
        t.mesh.out.length = s.mesh.out.length + 1) ∧
  (∀ (s : State) (f : MmpFrame) (p y : Bool) (st : Nat), f.secok = true → frameWord f.payload 0 8 = s.uid →
  s.mesh.answers = [(f.origin, frameByte f.payload 14 % 64, frameWord f.payload 8 2, st)] →
    Gives (.handover f p y) s fun t => t.mesh.jobs = s.mesh.jobs ∧ t.mesh.answers = s.mesh.answers ∧
      t.mesh.out.length = s.mesh.out.length + 1) ∧
  (∀ (s : State) (f : MmpFrame) (p y : Bool), frameWord f.payload 0 8 ≠ s.uid →
    Becomes (.handover f p y) s s ∧ Becomes (.handack f) s s) ∧
  (∀ (s : State) (f : MmpFrame) (p : List Byte) (h n : Nat), f.secok = true → frameWord f.payload 0 8 = s.uid →
  s.mesh.handOut = some (p, h, n) → frameWord f.payload 8 2 = h →
    Becomes (.handack f) s (s.setMesh { s.mesh with handOut := none })) ∧
  (∀ (s : State) (p : List Byte), s.mesh.handOut = none →
    Gives (.handoverRepeat p) s fun t => t.mesh.handOut = some (p, frameWord p 8 2, 0) ∧
      t.mesh.out.length = s.mesh.out.length + 1) ∧
  (∀ (s : State) (p : List Byte) (n : Nat), s.mesh.handOut = some (p, frameWord p 8 2, n) → n < 8 →
    Gives (.handoverRepeat p) s fun t => t.mesh.handOut = some (p, frameWord p 8 2, n + 1) ∧
      t.mesh.out.length = s.mesh.out.length + 1) ∧
  (∀ (s : State) (p : List Byte) (n : Nat), s.mesh.handOut = some (p, frameWord p 8 2, n) → 8 ≤ n →
    Becomes (.handoverRepeat p) s (s.setMesh { s.mesh with handOut := none }))

/-- EN leaves DISABLED for AN, or for TRAIN with role and amplitude as configured; EN 0 disables; RESTART begins again
from any other state. Negotiation resolved goes to TRAIN with role and amplitude, ANFAIL where it fails; a second
later, and at the training timeout, the link begins again. Convergence sets UP with EVP_WIR_LINK; loss clears it, sets
DOWNEV, fires EVP_WIR_LINK and ends an INFLIGHT buffer LINKDOWN. The window's end writes SQI while UP. -/
def Obligations.WiredBringUp : Prop :=
  (∀ (s : State), bitOf (s.reg Reg.WIR_LINKCFG).toNat 0 = true →
    s.linkBegin = { s with wir := { s.wir with cfg := s.reg Reg.WIR_LINKCFG } }.setFld F.WIR_LINKST_STATE 1) ∧
  (∀ (s : State), bitOf (s.reg Reg.WIR_LINKCFG).toNat 0 = false →
    s.linkBegin = (({ s with wir := { s.wir with cfg := s.reg Reg.WIR_LINKCFG } }.setFld F.WIR_LINKST_STATE 2).setFld
      F.WIR_LINKST_LEADER (1 - bitsOf (s.reg Reg.WIR_LINKCFG).toNat 1 1)).setFld F.WIR_LINKST_HIAMP (bitsOf (s.reg
        Reg.WIR_LINKCFG).toNat 5 1)) ∧
  (∀ (s : State) (ini : Initiator), s.Takes ini (Reg.WIR_CTRL) → s.linkState = 0 → s.flag F.WIR_CTRL_EN = false →
    Becomes (.wirEnable ini true) s (s.setFld F.WIR_CTRL_EN 1).linkBegin) ∧
  (∀ (s : State) (ini : Initiator), s.Takes ini (Reg.WIR_CTRL) → s.linkState ≠ 0 →
    Becomes (.wirEnable ini true) s s) ∧
  (∀ (s : State) (ini : Initiator), s.Takes ini (Reg.WIR_CTRL) →
    Becomes (.wirEnable ini false) s (((s.setFld F.WIR_CTRL_EN 0).linkDown).setFld F.WIR_LINKST_STATE 0)) ∧
  (∀ (s : State) (ini : Initiator), s.Takes ini (Reg.WIR_CTRL) → s.linkState ≠ 0 →
    Becomes (.wirRestart ini) s s.linkDown.linkBegin) ∧
  (∀ (s : State) (ini : Initiator), s.Takes ini (Reg.WIR_CTRL) → s.linkState = 0 →
    Becomes (.wirRestart ini) s s) ∧
  (∀ (s : State) (role : Fin 4) (ha hq lead : Bool) (seed : Fin 3), s.linkState = 1 → anRole (bitsOf s.wir.cfg.toNat 1
  2) role seed = some lead → seed.val ≠ 2 →
    Becomes (.anResolved role ha hq true seed) s (((s.setFld F.WIR_LINKST_STATE 2).setFld F.WIR_LINKST_LEADER (b2n
      lead)).setFld
      F.WIR_LINKST_HIAMP (b2n (bitOf s.wir.cfg.toNat 3 && ha && (bitOf s.wir.cfg.toNat 4 || hq))))) ∧
  (∀ (s : State) (role : Fin 4) (ha hq : Bool) (seed : Fin 3), s.linkState = 1 → seed.val ≠ 2 →
    Becomes (.anResolved role ha hq false seed) s (s.setFld F.WIR_LINKST_ANFAIL 1)) ∧
  (
    anRole 0 0 0 = none ∧ anRole 1 1 0 = none ∧ anRole 0 2 1 = some true ∧ anRole 1 3 0 = some false ∧
      anRole 2 3 1 = some true ∧ anRole 3 2 0 = some false ∧ anRole 2 2 0 = some true ∧ anRole 3 3 1 = some false) ∧
  (∀ (s : State) (role : Fin 4) (ha hq com : Bool) (seed : Fin 3), s.linkState ≠ 1 →
    Becomes (.anResolved role ha hq com seed) s s ∧ Becomes .anRestart s s) ∧
  (∀ (s : State), s.linkState = 1 →
    Becomes .anRestart s s.linkBegin) ∧
  (∀ (s : State), s.linkState = 2 →
    Becomes .trainConverged s (((s.setFld F.WIR_LINKST_STATE 3).setFld F.WIR_LINKST_UP 1).fire 127)) ∧
  (∀ (s : State), s.linkState = 2 →
    Becomes .trainTimeout s s.linkBegin) ∧
  (∀ (s : State), s.linkState ≠ 2 →
    Becomes .trainConverged s s ∧ Becomes .trainTimeout s s) ∧
  (∀ (s : State), s.linkState = 3 →
    Becomes .wirLinkLoss s s.linkDown.linkBegin) ∧
  (∀ (s : State), s.linkState ≠ 3 →
    Becomes .wirLinkLoss s s) ∧
  (∀ (s : State), s.wirUp = true → s.wirLine = none → s.flag F.WIR_CTRL_EN = false →
    s.linkDown = (((s.setFld F.WIR_LINKST_UP 0).setFld F.WIR_LINKST_DOWNEV 1).setFld F.WIR_LINKST_SQI 0).fire 127) ∧
  (∀ (s : State) (b : Nat), s.wirUp = true → s.wirLine = some b →
    (s.linkDown.wbuf b).st = 3 ∧ (s.linkDown.wbuf b).status = 7 ∧ s.linkDown.wirUp = false ∧ s.linkDown.mem = s.mem) ∧
  (∀ (s : State) (snr : Int), s.wirUp = true →
    Becomes (.sqiWindowEnd snr) s (s.setFld F.WIR_LINKST_SQI (sqiOf snr))) ∧
  (∀ (k : Nat) (d : Int), k < 7 → 0 ≤ d → d < 15 →
    sqiOf (180 + 15 * k + d) = k + 1 ∧ sqiOf (180 - 1 - d) = 0 ∧ sqiOf (270 + 15 * k + d) = 7) ∧
  (∀ (s : State) (snr : Int), s.wirUp = false →
    Becomes (.sqiWindowEnd snr) s s)

/-- READY queues an EMPTY buffer or ends it BADARG; CANCEL ends a READY one, FREE empties a DONE one, RESEND queues
one that ended TXOK or LINKDOWN. Assembly takes the oldest READY buffer while the link is UP and nothing is INFLIGHT;
the frame's end ends its buffer TXOK. A received frame sets AMP and passes the checks of R674: a bad FCS, a bad length
and a full ring are counted, in that order, and one of no protocol of the part's own is delivered with EVP_WIR_RX
where PROMISC and PLAIN are set. WIR_RXPOP removes the oldest entry, DUPCLR empties the neighbour table, WIR_SEQ only
rises. The neighbour table judges a sequence number fresh, duplicate or stale. A relay forwards a fresh frame with its
hop count lowered and acknowledges a duplicate one. -/
def Obligations.WiredFrames : Prop :=
  (∀ (s : State) (ini : Initiator), s.Takes ini (Reg.WIR_TXCMD) → (s.wbuf s.wirSel).st = 0 → (s.wbuf s.wirSel).bad =
  false →
    let q := s.setWbuf s.wirSel { s.wbuf s.wirSel with st := 1, status := 0, order := s.wir.readies, frame := [], plain := [], len := 0 }
    Becomes (.wirTxReady ini) s { q with wir := { q.wir with readies := s.wir.readies + 1 } }) ∧
  (∀ (s : State) (ini : Initiator), s.Takes ini (Reg.WIR_TXCMD) → (s.wbuf s.wirSel).st = 0 → (s.wbuf s.wirSel).bad =
  true →
    Becomes (.wirTxReady ini) s (s.wtxEnd s.wirSel 5)) ∧
  (∀ (s : State) (ini : Initiator), s.Takes ini (Reg.WIR_TXCMD) → (s.wbuf s.wirSel).st ≠ 0 →
    Becomes (.wirTxReady ini) s s) ∧
  (∀ (b : WirBuf), (b.tlen < 14 ∨ b.src = 3 ∨ (b.src = 1 ∧ 383 < b.off) ∨ ((b.auto = true ∨ b.secure = true) ∧ b.tlen
  < b.pos + 16)) →
    b.bad = true) ∧
  (∀ (b : WirBuf), 14 ≤ b.tlen → b.src ≠ 3 → (b.src ≠ 1 ∨ b.off ≤ 383) → ((b.auto = false ∧ b.secure = false) ∨ b.pos
  + 16 ≤ b.tlen) →
    b.bad = false) ∧
  (∀ (s : State) (ini : Initiator), s.Takes ini (Reg.WIR_TXCMD) → (s.wbuf s.wirSel).st = 1 →
    Becomes (.wirTxCancel ini) s (s.wtxEnd s.wirSel 6)) ∧
  (∀ (s : State) (ini : Initiator), s.Takes ini (Reg.WIR_TXCMD) → (s.wbuf s.wirSel).st ≠ 1 →
    Becomes (.wirTxCancel ini) s s) ∧
  (∀ (s : State) (ini : Initiator) (b : WirBuf), s.Takes ini (Reg.WIR_TXCMD) → b = s.wbuf s.wirSel → b.st = 3 →
  (b.status = 1 ∨ b.status = 7) →
    let q := s.setWbuf s.wirSel { b with st := 1, status := 0, order := s.wir.readies }
    Becomes (.resend ini) s { q with wir := { q.wir with readies := s.wir.readies + 1 } }) ∧
  (∀ (s : State) (ini : Initiator), s.Takes ini (Reg.WIR_TXCMD) → ((s.wbuf s.wirSel).st ≠ 3 ∨ ((s.wbuf
  s.wirSel).status ≠ 1 ∧ (s.wbuf s.wirSel).status ≠ 7)) →
    Becomes (.resend ini) s s) ∧
  (∀ (s : State) (ini : Initiator), s.Takes ini (Reg.WIR_TXCMD) → (s.wbuf s.wirSel).st = 3 →
    Becomes (.wirTxFree ini) s (s.setWbuf s.wirSel
      { s.wbuf s.wirSel with st := 0, status := 0, frame := [], plain := [], len := 0 })) ∧
  (∀ (s : State) (ini : Initiator), s.Takes ini (Reg.WIR_TXCMD) → (s.wbuf s.wirSel).st ≠ 3 →
    Becomes (.wirTxFree ini) s s) ∧
  (∀ (s : State) (ini : Initiator), s.Takes ini (Reg.WIR_RXPOP) →
    Becomes (.wirRxpop ini) s { s with wir := { s.wir with rx := s.wir.rx.drop 1 } }) ∧
  (∀ (s : State) (ini : Initiator), s.Takes ini (Reg.WIR_CFG) →
    Becomes (.dupclr ini) s { s with wir := { s.wir with hubs := [] } }) ∧
  (∀ (s : State) (ini : Initiator) (v : Word), s.Takes ini (Reg.WIR_SEQ0) →
    Becomes (.wirSeqWrite ini false v) s (if s.wirSeq < s.wirSeq / 2 ^ 24 * 2 ^ 24 + v.toNat then s.setWirSeq
      (s.wirSeq / 2 ^ 24 * 2 ^ 24 + v.toNat) else s)) ∧
  (∀ (s : State) (ini : Initiator) (v : Word), s.Takes ini (Reg.WIR_SEQ1) →
    Becomes (.wirSeqWrite ini true v) s (if s.wirSeq < s.wirSeq % 2 ^ 24 + v.toNat % 256 * 2 ^ 24 then s.setWirSeq
      (s.wirSeq % 2 ^ 24 + v.toNat % 256 * 2 ^ 24) else s)) ∧
  (∀ (s : State) (b : Nat), s.wirUp = true → s.domOn 4 = true → s.wirLine = none → s.wirReady = some b → (s.wbuf
  b).frame = [] → (s.wbuf b).plain = [] → (s.wbuf b).src = 0 → (s.wbuf b).auto = false → (s.wbuf b).secure = false →
  (s.wbuf b).tlen ≤ 1514 →
    Becomes .wirAssembly s (s.wirSend b ((s.wbuf b).bytes (s.wbuf b).tlen))) ∧
  (∀ (s : State) (b : Nat) (bs : List Byte),
    (s.wirSend b bs).line = s.line ++ [macFrame bs] ∧ ((s.wirSend b bs).wbuf b).st = 2 ∧
      ((s.wirSend b bs).wbuf b).frame = macFrame bs ∧
    macFrame bs = bs ++ List.replicate (60 - bs.length) 0 ++ toBytes 4 (crc32 (bs ++ List.replicate (60 - bs.length)
      0)) ∧
    (s.wirSend b bs).regs = s.regs ∧ (s.wirSend b bs).mem = s.mem) ∧
  (∀ (s : State) (b : Nat), s.wirUp = true → s.domOn 4 = true → s.wirLine = none → s.wirReady = some b → (s.wbuf
  b).frame ≠ [] →
    Becomes .wirAssembly s { s.setWbuf b { s.wbuf b with st := 2 } with line := s.line ++ [(s.wbuf b).frame] }) ∧
  (∀ (s : State), (s.wirUp = false ∨ s.wirLine ≠ none ∨ s.domOn 4 = false ∨ s.wirReady = none) →
    Becomes .wirAssembly s s) ∧
  (∀ (s : State) (b : Nat), s.wirLine = some b → (s.wbuf b).waiting = false →
    Becomes .wirTxDone s (s.wtxEnd b 1)) ∧
  (∀ (s : State) (b code : Nat), s.flag F.WIR_CFG_TXDONEEV = false →
    ((s.wtxEnd b code).wbuf b).st = 3 ∧ ((s.wtxEnd b code).wbuf b).status = code ∧ (s.wtxEnd b code).mem = s.mem ∧
      (s.wtxEnd b code).line = s.line) ∧
  (∀ (s : State), s.wirLine = none →
    Becomes .wirTxDone s s) ∧
  (∀ (s : State) (f : List Byte) (mv : Nat), s.wirUp = false →
    Becomes (.wirRxFrame f mv) s s) ∧
  (∀ (s : State) (f : List Byte) (mv : Nat), s.wirUp = true → f.take (f.length - 4) ++ toBytes 4 (crc32 (f.take
  (f.length - 4))) ≠ f →
    Becomes (.wirRxFrame f mv) s (((s.setFld F.WIR_LINKST_AMP (min 1023 (mv / 4))).setFld F.WIR_LINKST_AMPVALID
      1).wirCount Reg.WIR_CNT0 0)) ∧
  (∀ (s : State) (f : List Byte) (mv : Nat), s.wirUp = true → f.take (f.length - 4) ++ toBytes 4 (crc32 (f.take
  (f.length - 4))) = f → wirLenOk f = false →
    Becomes (.wirRxFrame f mv) s (((s.setFld F.WIR_LINKST_AMP (min 1023 (mv / 4))).setFld F.WIR_LINKST_AMPVALID
      1).wirCount Reg.WIR_CNT0 1)) ∧
  (∀ (s : State) (f : List Byte) (mv : Nat), s.wirUp = true → f.take (f.length - 4) ++ toBytes 4 (crc32 (f.take
  (f.length - 4))) = f → wirLenOk f = true → vlan (f.take (f.length - 4)) = false → s.flag F.WIR_RXCFG_PROMISC = true
  → s.wir.checks = [] → s.wir.rx.length < 4 → s.flag F.WIR_RXCFG_PLAIN = true → frameByte f 12 * 256 + frameByte f
  13 ≠ 0x8808 → frameByte f 12 * 256 + frameByte f 13 ≠ 0x88B5 →
    Gives (.wirRxFrame f mv) s fun t => t.wir.rx = s.wir.rx ++
        [⟨f.take (f.length - 4), false, false, false, min 1023 (mv / 4), s.fld F.WIR_LINKST_SQI⟩] ∧
          t.pulses = s.pulses ++ [126] ∧ t.mem = s.mem) ∧
  (∀ (s : State) (f : List Byte) (mv : Nat), s.wirUp = true → f.take (f.length - 4) ++ toBytes 4 (crc32 (f.take
  (f.length - 4))) = f → wirLenOk f = true → vlan (f.take (f.length - 4)) = false → s.flag F.WIR_RXCFG_PROMISC = true
  → 4 ≤ s.wir.rx.length + s.wir.checks.length → frameByte f 12 * 256 + frameByte f 13 ≠ 0x8808 →
    Becomes (.wirRxFrame f mv) s (((s.setFld F.WIR_LINKST_AMP (min 1023 (mv / 4))).setFld F.WIR_LINKST_AMPVALID
      1).wirCount Reg.WIR_CNT1 0)) ∧
  (∀ (hubs : List WirHub) (o q : Nat), hubs.find? (fun y => y.origin == o) = none →
    judge hubs o q = ({ origin := o, hi := q, mask := 1 } :: hubs.take 15, .fresh)) ∧
  (∀ (hubs : List WirHub) (o q : Nat) (h : WirHub), hubs.find? (fun y => y.origin == o) = some h → q = h.hi + 1 → q <
  2 ^ 32 → h.mask < 256 →
    judge hubs o q = ({ origin := h.origin, hi := q, mask := h.mask * 2 % 256 + 1 } :: hubs.filter (fun y => y.origin
      != o), .fresh)) ∧
  (∀ (hubs : List WirHub) (o q : Nat) (h : WirHub), hubs.find? (fun y => y.origin == o) = some h → q = h.hi → q < 2 ^
  32 → bitOf h.mask 0 = true →
    (judge hubs o q).2 = .duplicate) ∧
  (∀ (hubs : List WirHub) (o q : Nat) (h : WirHub), hubs.find? (fun y => y.origin == o) = some h → h.hi < 2 ^ 32 → q +
  8 ≤ h.hi → h.hi ≤ q + 2 ^ 31 →
    (judge hubs o q).2 = .stale) ∧
  (∀ (s : State) (fw ak : Fin 4) (nx : BitVec 48), (s.wir.rx = [] ∨ s.domOn 4 = false) →
    Becomes (.wrhRelay fw ak nx) s s) ∧
  (∀ (s : State) (fw ak : Fin 4) (nx : BitVec 48) (e : WirEntry) (more : List WirEntry), s.wir.rx = e :: more →
  s.domOn 4 = true → e.wrh = true → e.dup = false → vlan e.bytes = false → frameByte (e.bytes.drop 14) 0 / 16 = 1 →
  frameByte (e.bytes.drop 14) 15 / 16 ≠ 0 → bitOf (frameByte (e.bytes.drop 14) 1) 0 = false → bitOf (frameByte
  (e.bytes.drop 14) 1) 1 = false →
    Becomes (.wrhRelay fw ak nx) s (s.wirPut fw (toBytes 6 nx.toNat ++ toBytes 6 (s.fld F.WIR_MAC0_ADDR + 2 ^ 24 *
      s.fld F.WIR_MAC1_ADDR) ++
      (e.bytes.take 29).drop 12 ++ toBytes 1 (frameByte (e.bytes.drop 14) 15 % 16 + (frameByte (e.bytes.drop 14) 15 /
        16 - 1) * 16) ++
      (e.bytes.drop 14).drop 16) 14 false)) ∧
  (∀ (s : State) (fw ak : Fin 4) (nx : BitVec 48) (e : WirEntry) (more : List WirEntry), s.wir.rx = e :: more →
  s.domOn 4 = true → e.wrh = true → e.dup = true → vlan e.bytes = false → frameByte (e.bytes.drop 14) 0 / 16 = 1 →
  bitOf (frameByte (e.bytes.drop 14) 1) 0 = false → bitOf (frameByte (e.bytes.drop 14) 1) 1 = true →
    Becomes (.wrhRelay fw ak nx) s (s.wirPut ak ((e.bytes.take 12).drop 6 ++ toBytes 6 (s.fld F.WIR_MAC0_ADDR + 2 ^
      24 * s.fld F.WIR_MAC1_ADDR) ++
      (e.bytes.take 14).drop 12 ++ [0x21, 0] ++ ((e.bytes.drop 14).take 14).drop 2 ++ [0, 0]) 14 false))

/-- A trigger of an idle enabled port whose script fits starts its delay; of a busy one it sets OVR; one that does not
fit ends ABORTED with BADCFG. The delay's end begins the capture. Bytes captured are staged, padded to LEN, and their
flush asks for SUP and SPc where they are not ON; NACK and STRETCH end the frame with their status. The flush writes
whole rows, zero after the frame, and ends DONE with count, slot and producers; a target that clears loses it (LOST).
EN 0 ends a frame ABORTED. -/
def Obligations.SensorPorts : Prop :=
  (∀ (s : State) (ini : Initiator) (n : Fin 11) (v : Word), s.Takes ini (Reg.SNS_TRIG) → v.toNat = 2 ^ n.val →
  s.portBusy n = false → s.flag (F.SNS_PCFG_EN n) = true → s.portCfgOk n = true →
    Becomes (.snsTrig ini v) s (s.setPort n { s.port n with phase := 1, staged := [] })) ∧
  (∀ (s : State) (ini : Initiator) (n : Fin 11) (v : Word), s.Takes ini (Reg.SNS_TRIG) → v.toNat = 2 ^ n.val →
  s.portBusy n = true →
    Becomes (.snsTrig ini v) s (s.setFbit F.SNS_OVR_OVR n true)) ∧
  (∀ (s : State) (ini : Initiator) (n : Fin 11) (v : Word), s.Takes ini (Reg.SNS_TRIG) → v.toNat = 2 ^ n.val →
  s.portBusy n = false → s.flag (F.SNS_PCFG_EN n) = true → s.portCfgOk n = false →
    Becomes (.snsTrig ini v) s ((s.setFld F.SNS_ERR_BADCFG 1).portError n 5)) ∧
  (∀ (s : State) (ini : Initiator) (n : Fin 11) (v : Word), s.Takes ini (Reg.SNS_TRIG) → v.toNat = 2 ^ n.val →
  s.portBusy n = false → s.flag (F.SNS_PCFG_EN n) = false →
    Becomes (.snsTrig ini v) s s) ∧
  (∀ (s : State) (n : Fin 11), s.domOn 6 = true → (s.port n).phase = 1 →
    Becomes (.captureStart n) s (s.setPort n { s.port n with phase := 2, script := s.busScript n, staged := [] }).drawn) ∧
  (∀ (s : State) (n a : Nat), n < 4 → s.fld (F.SNS_PBUS0_ADDR_A10 n) = a → a < 128 →
    s.fld (F.SNS_PBUS0_SPEED_REGLEN n) < 4 →
  s.fld (F.SNS_PBUS2_NREAD n) = 0 →
    s.busScript n = [.start, .send (BitVec.ofNat 8 (2 * a + 1)), .read (s.fld (F.SNS_PBUS2_RDLEN n)), .stop]) ∧
  (∀ (s : State) (n a r : Nat), n < 4 → s.fld (F.SNS_PBUS0_ADDR_A10 n) = a → a < 128 →
    s.fld (F.SNS_PBUS0_SPEED_REGLEN n) / 4 = 1
  → s.fld (F.SNS_PBUS2_NREAD n) = 0 → s.fld (F.SNS_PBUS1_REG_CMD n) = r → r < 256 →
    s.busScript n = [.start, .send (BitVec.ofNat 8 (2 * a)), .send (BitVec.ofNat 8 r), .start, .send (BitVec.ofNat 8 (2 * a + 1)),
      .read (s.fld (F.SNS_PBUS2_RDLEN n)), .stop]) ∧
  (∀ (s : State) (n k : Nat), 4 ≤ n → n < 6 → s.fld (F.SNS_PBUS0_ADDR_A10 n) / 256 % 4 = k →
    s.fld (F.SNS_PBUS2_NREAD n) = 0 →
    s.busScript n = [.select] ++ (toBytes k (s.fld (F.SNS_PBUS1_REG_CMD n))).map .send ++
      [.read (s.fld (F.SNS_PBUS2_RDLEN n)), .deselect]) ∧
  (∀ (s : State) (n : Fin 11), (s.domOn 6 = false ∨ (s.port n).phase ≠ 1) →
    Becomes (.captureStart n) s s) ∧
  (∀ (s : State) (n : Fin 11) (bs : List Byte), s.domOn 6 = true → n.val < 6 → (s.port n).phase = 2 → s.flag
  (F.SNS_PCFG_BSWAP n) = false → s.flushNeeds n = [] →
    let fr := (bs ++ List.replicate (s.portLen n) 0).take (s.portLen n)
    Becomes (.captureDone n (.data bs)) s (s.setPort n
      { s.port n with phase := 0, script := [], staged := [], flush := some fr })) ∧
  (∀ (s : State) (n : Fin 11) (bs : List Byte), s.domOn 6 = true → n.val < 6 → (s.port n).phase = 2 → s.flushNeeds n ≠
  [] →
    Becomes (.captureDone n (.data bs)) s (s.portStaged n ((bs ++ List.replicate (s.portLen n) 0).take (s.portLen
      n)))) ∧
  (∀ (s : State) (n : Fin 11), s.domOn 6 = true → n.val < 6 → (s.port n).phase = 2 →
    Becomes (.captureDone n .nack) s (s.portError n 2) ∧ Becomes (.captureDone n .stretch) s (s.portError n 3)) ∧
  (∀ (s : State) (n : Fin 11) (r : Capture), s.domOn 6 = true → 6 ≤ n.val → (s.port n).phase = 2 → s.portLen n ≤
  (s.port n).staged.length → (s.port n).flush = none →
    Becomes (.captureDone n r) s (s.portStaged n ((s.port n).staged.take (s.portLen n)))) ∧
  (∀ (s : State) (n : Fin 11) (r : Capture), (s.domOn 6 = false ∨ (s.port n).phase ≠ 2) →
    Becomes (.captureDone n r) s s) ∧
  (∀ (s : State) (n : Fin 11) (code : Nat), (s.port n).woke = [] → s.flag (F.SNS_PCFG_RESTORE n) = false → code < 8 →
    ((s.portError n code).port n).phase = (if code = 4 then (s.port n).phase else 0) ∧
      ((s.portError n code).port n).flush = none ∧ ((s.portError n code).port n).staged = [] ∧
    (s.portError n code).fld (F.SNS_PSTAT_STATUS n) = code ∧ (s.portError n code).fbit F.SNS_ERR_ERR n = true ∧
    (s.portError n code).pulses = s.pulses ∧ (s.portError n code).mem = s.mem) ∧
  (∀ (s : State) (n : Fin 11) (bs : List Byte), s.domOn 6 = true → (s.port n).flush = some bs → s.flushNeeds n = [] →
  s.clearing (s.fld (F.SNS_PDST_CLUSTER n)) = false → s.inClReset (s.fld (F.SNS_PDST_CLUSTER n)) = false →
    Becomes (.flushDone n) s ((s.flushUnits (s.fld (F.SNS_PDST_CLUSTER n)) (s.slotRow n) (frameRows bs.length * 96)
      bs (s.portSealed n)).frameDone n)) ∧
  (∀ (s : State) (c row : Nat) (bs : List Byte) (t : Bool), c < 4 → row < 4096 → 0 < bs.length → bs.length ≤ 384 →
    let w := s.flushUnits c row (frameRows bs.length * 96) bs t
    w.rowBytes c row = bs ++ List.replicate (384 - bs.length) 0 ∧ w.tag c row = (s.tag c row || t) ∧ w.regs = s.regs ∧
    ∀ a : Nat, a < rowAddr c row ∨ rowAddr c row + 384 ≤ a → w.byte a = s.byte a) ∧
  (∀ (s : State) (n : Fin 11), n.val ≤ 6 → (∀ k : Nat, k < 8 → s.flag (F.SNS_EPOCH_EN k) = false) → (s.port n).woke =
  [] → s.flag (F.SNS_PCFG_RESTORE n) = false →
    (s.frameDone n).pulses = s.pulses ++ [104 + n.val] ∧ (s.frameDone n).fld (F.SNS_PSTAT_STATUS n) = 1 ∧
    ((s.frameDone n).port n).flush = none ∧ ((s.frameDone n).port n).count = (s.port n).count + 1 ∧
      (s.frameDone n).mem = s.mem) ∧
  (∀ (s : State) (n : Fin 11) (bs : List Byte), s.domOn 6 = true → (s.port n).flush = some bs → s.flushNeeds n = [] →
  s.clearing (s.fld (F.SNS_PDST_CLUSTER n)) = true →
    Becomes (.flushDone n) s (s.portError n 4)) ∧
  (∀ (s : State) (n : Fin 11) (bs : List Byte), s.domOn 6 = true → (s.port n).flush = some bs → s.flushNeeds n ≠ [] →
    s.lit 1 = true
  → s.lit (domSP (s.fld (F.SNS_PDST_CLUSTER n))) = true →
    Becomes (.flushDone n) s s) ∧
  (∀ (s : State) (n : Fin 11), (s.domOn 6 = false ∨ (s.port n).flush = none) →
    Becomes (.flushDone n) s s) ∧
  (∀ (s : State) (ini : Initiator) (n : Fin 11) (v : Word), s.Takes ini (Reg.SNS_PCFG n) → s.portBusy n = true →
    Becomes (.portDisable ini n v) s ((s.setReg (Reg.SNS_PCFG n) (BitVec.ofNat 24 (v.toNat / 2 * 2 % 16))).portError
      n 5)) ∧
  (∀ (s : State) (ini : Initiator) (n : Fin 11) (v : Word), s.Takes ini (Reg.SNS_PCFG n) → s.portBusy n = false →
    Becomes (.portDisable ini n v) s (s.setReg (Reg.SNS_PCFG n) (BitVec.ofNat 24 (v.toNat / 2 * 2 % 16))))

/-- A PIR sample's code is 65,535 V / 1.2 rounded half to even, clamped to 0 and 65,535; a PDM window's code is at
most 32,767, and 0 for silence. A sample is compared by every comparator of its port, which fires where its condition
begins to hold, and is staged while the port captures. A debounced edge sets the level and fires EVP_SNS_GPIOIN where
selected; GPIOSET and GPIOCLR set and clear OUT; a pulse's end returns the ball to its level. A write of SNS_EPOCHk
restarts its count. -/
def Obligations.SensorSamples : Prop :=
  (∀ (s : State) (p : Fin 4) (uv : Int), s.domOn 6 = true → s.flag (F.SNS_PCFG_EN (7 + p)) = true → s.flag
  F.SNS_PIRCFG_RATE = true →
    Becomes (.pirSample p uv) s (s.sample (7 + p) (pirCode uv))) ∧
  (∀ (uv : Int),
    (uv ≤ 0 → pirCode uv = 0) ∧ (1200000 ≤ uv → pirCode uv = 65535) ∧ pirCode uv ≤ 65535 ∧
    (0 ≤ uv → uv ≤ 1200000 → |2 * (1200000 * (pirCode uv : Int) - 65535 * uv)| ≤ 1200000 ∧
      (|2 * (1200000 * (pirCode uv : Int) - 65535 * uv)| = 1200000 → pirCode uv % 2 = 0))) ∧
  (∀ (s : State) (p : Fin 4) (uv : Int), (s.domOn 6 = false ∨ s.flag (F.SNS_PCFG_EN (7 + p)) = false ∨ s.flag
  F.SNS_PIRCFG_RATE = false) →
    Becomes (.pirSample p uv) s s) ∧
  (∀ (s : State) (num den : Nat), s.domOn 6 = true → s.flag (F.SNS_PCFG_EN 6) = true →
    Becomes (.pdmWindowEnd num den) s (s.sample 6 (pdmCode num den))) ∧
  (∀ (num den : Nat),
    pdmCode num den ≤ 32767 ∧ pdmCode 0 den = 0) ∧
  (∀ (num den : Nat), 0 < num → 0 < den →
    (pdmCode num den ≠ 0 → den ^ 5120 * 10 ^ (2 * pdmCode num den - 1) ≤ num ^ 5120 * 10 ^ 65536) ∧
    (pdmCode num den < 32767 → num ^ 5120 * 10 ^ 65536 < den ^ 5120 * 10 ^ (2 * pdmCode num den + 1))) ∧
  (∀ (s : State) (num den : Nat), (s.domOn 6 = false ∨ s.flag (F.SNS_PCFG_EN 6) = false) →
    Becomes (.pdmWindowEnd num den) s s) ∧
  (∀ (s : State) (n code : Nat), (∀ k : Nat, k < 4 → s.cmpPort k ≠ n) → (s.port n).phase = 2 → (s.port
  n).staged.length < s.portLen n →
    s.sample n code = s.setPort n { s.port n with staged := (s.port n).staged ++ toBytes 2 code }) ∧
  (∀ (s : State) (n code k : Nat), s.cmpPort k = n → s.cmpHolds k code = true → tabGet (fun _ => 0) s.sns.held k = 1 →
    (s.cmpSample n code k).pulses = s.pulses ++ [111 + k] ∧ (s.cmpSample n code k).regs = s.regs ∧
      (s.cmpSample n code k).mem = s.mem) ∧
  (∀ (s : State) (n code k : Nat), s.cmpPort k = n →
    tabGet (fun _ => 0) (s.cmpSample n code k).sns.held k =
      (if s.fld (F.SNS_CMP0_MODE k) = 0 then 0 else if s.cmpHolds k code = true then 2 else 1)) ∧
  (∀ (s : State) (n code k : Nat), s.cmpPort k = n → (s.cmpHolds k code = false ∨
    tabGet (fun _ => 0) s.sns.held k ≠ 1) →
    (s.cmpSample n code k).pulses = s.pulses ∧ (s.cmpSample n code k).regs = s.regs ∧
      (s.cmpSample n code k).mem = s.mem) ∧
  (∀ (s : State) (code k : Nat),
    (s.fld (F.SNS_CMP0_MODE k) = 0 → s.cmpHolds k code = false) ∧
    (s.fld (F.SNS_CMP0_MODE k) = 1 → (s.cmpHolds k code = true ↔ s.fld (F.SNS_CMP1_HI k) < code)) ∧
    (s.fld (F.SNS_CMP0_MODE k) = 2 → (s.cmpHolds k code = true ↔ code < s.fld (F.SNS_CMP2_LO k))) ∧
    (s.fld (F.SNS_CMP0_MODE k) = 3 → (s.cmpHolds k code = true ↔ s.fld (F.SNS_CMP1_HI k) < code ∨
      code < s.fld (F.SNS_CMP2_LO k)))) ∧
  (∀ (s : State) (k : Fin 2) (level : Bool), s.domOn 6 = true → s.fld (F.SNS_GPINSEL_PIN k) < 24 → s.fbit
  F.SNS_GPIOIN0_LEVEL (s.fld (F.SNS_GPINSEL_PIN k)) ≠ level → (s.setFbit F.SNS_GPIOIN0_LEVEL (s.fld (F.SNS_GPINSEL_PIN
  k)) level).fbit (F.SNS_GPINSEL_EDGE k) (if level then 0 else 1) = true →
    Becomes (.gpioInEdge k level) s ((s.setFbit F.SNS_GPIOIN0_LEVEL (s.fld (F.SNS_GPINSEL_PIN k)) level).fire (115 +
      k))) ∧
  (∀ (s : State) (k : Fin 2) (level : Bool), s.fbit F.SNS_GPIOIN0_LEVEL (s.fld (F.SNS_GPINSEL_PIN k)) = level →
    Becomes (.gpioInEdge k level) s s) ∧
  (∀ (s : State) (ini : Initiator) (v : Word), s.Takes ini (Reg.SNS_GPIOSET) →
    Becomes (.snsGpioset ini v) s (s.setFld F.SNS_GPIOOUT0_OUT (s.fld F.SNS_GPIOOUT0_OUT ||| v.toNat))) ∧
  (∀ (s : State) (ini : Initiator) (v : Word), s.Takes ini (Reg.SNS_GPIOCLR) →
    Becomes (.snsGpioclr ini v) s (s.setFld F.SNS_GPIOOUT0_OUT (s.fld F.SNS_GPIOOUT0_OUT &&& (2 ^ 24 - 1 - v.toNat)))) ∧
  (∀ (s : State) (g : Fin 16) (b : Bool), s.sns.gpioPulses = [(g.val, b)] →
    Becomes (.gpioPulseEnd g) s { s.setFbit F.SNS_GPIOOUT0_OUT g b with sns := { s.sns with gpioPulses := [] } }) ∧
  (∀ (s : State) (g : Fin 16), s.sns.gpioPulses = [] →
    Becomes (.gpioPulseEnd g) s s) ∧
  (∀ (s : State) (ini : Initiator) (k : Fin 8) (v : Word), s.Takes ini (Reg.SNS_EPOCH k) →
    let t := s.setReg (Reg.SNS_EPOCH k) (BitVec.ofNat 24 (v.toNat % 512))
    Becomes (.snsEpochWrite ini k v) s { t with sns := { t.sns with epochs := tabSet (fun _ => 0) t.sns.epochs k 0 } })

/-- FLT_MGMT sets M of the units whose field is not 3 and raises D to it; FLT_DPREL sets D to M of one unit or of all;
a disagreement that reaches 158 ticks sets its bit and DIS, once. LOGPOP removes the oldest entry, LOGW1 enters one
unless its code is below 0x80. EN of the watchdog stays once set and takes TIMEOUT with it; a kick with the key clears
the count, any other value expires; ticks count, and at TIMEOUT it expires: WDOG entry, RESETS raised, watchdog reset.
-/
def Obligations.FaultCommands : Prop :=
  (∀ (s : State) (ini : Initiator) (k : Fin 4) (v : Word), s.Takes ini (Reg.FLT_MGMT k) →
    Becomes (.fltMgmtWrite ini k v) s ((List.range 12).foldl
      (fun q i => if 12 * k.val + i < 43 then q.manage (12 * k.val + i) (bitsOf v.toNat (2 * i) 2) else q) s)) ∧
  (∀ (s : State) (u v : Nat), u < 43 → v < 3 →
    (s.manage u v).healthM u = v ∧ (s.manage u v).healthD u = max (s.healthD u) v ∧ (s.manage u 3) = s) ∧
  (∀ (s : State) (u v w : Nat), u < 43 → w < 43 → u ≠ w →
    (s.manage u v).healthM w = s.healthM w ∧ (s.manage u v).healthD w = s.healthD w) ∧
  (∀ (s : State) (ini : Initiator) (v : Word), s.Takes ini (Reg.FLT_DPREL) → v.toNat < 43 →
    Becomes (.fltDprel ini v) s (s.setHealthD v.toNat (s.healthM v.toNat))) ∧
  (∀ (s : State) (ini : Initiator) (v : Word), s.Takes ini (Reg.FLT_DPREL) → 43 ≤ v.toNat → v.toNat < 64 →
    Becomes (.fltDprel ini v) s s) ∧
  (∀ (s : State) (ini : Initiator) (v : Word) (u : Nat), s.Takes ini (Reg.FLT_DPREL) → bitOf v.toNat 6 = true → u < 43
  →
    Gives (.fltDprel ini v) s fun t => t.healthD u = s.healthM u ∧ t.healthM u = s.healthM u ∧ t.mem = s.mem) ∧
  (∀ (s : State) (ticks : Nat), (∀ u : Nat, u < 43 → s.disagrees u = false) →
    Becomes (.disagreementReport ticks) s s) ∧
  (∀ (s : State) (ticks : Nat), s.weather ≠ .run →
    Becomes (.disagreementReport ticks) s s) ∧
  (∀ (s : State) (u n : Nat),
    u ∈ s.disDue n ↔ u < 43 ∧ s.disagrees u = true ∧ s.disCount u < 158 ∧ 158 ≤ s.disCount u + n) ∧
  (∀ (s : State) (n : Nat), s.weather = .run → s.disDue n = [] →
    Gives (.disagreementReport n) s fun t => t.regs = s.regs ∧ t.log = s.log ∧ t.mem = s.mem ∧
      ∀ u : Nat, u < 43 → t.disCount u = if s.disagrees u = true then min 158 (s.disCount u + n) else s.disCount u) ∧
  (∀ (s : State) (u n : Nat), s.weather = .run → s.disDue n = [u] → s.log.length < 32 →
    Gives (.disagreementReport n) s fun t => t.fld (disFld u) = 1 ∧ t.fld F.FLT_STATUS_DIS = 1 ∧ t.disCount u = 158 ∧
      t.log.length = s.log.length + 1 ∧
      (t.log.getLast?.map fun e => (e.code, e.unit, e.detail)) = some (0x10, u, (s.healthM u + 4 * s.healthD u) % 2 ^
        16) ∧
      (s.domOn 5 = true → t.fbit ⟨Reg.HST_IRQSTAT, 0, 6⟩ 0 = true) ∧ t.mem = s.mem) ∧
  (∀ (s : State) (ini : Initiator), s.Takes ini (Reg.FLT_LOGPOP) →
    Becomes (.logPop ini) s { s with log := s.log.drop 1 }) ∧
  (∀ (s : State) (ini : Initiator) (v : Word), s.Takes ini (Reg.FLT_LOGW1) → 0x80 ≤ v.toNat % 256 →
    Becomes (.logWrite ini v) s (s.logEntry (v.toNat % 256) (bitsOf v.toNat 8 6) (s.fld F.FLT_LOGW0_DETAIL))) ∧
  (∀ (s : State) (ini : Initiator) (v : Word), s.Takes ini (Reg.FLT_LOGW1) → v.toNat % 256 < 0x80 →
    Becomes (.logWrite ini v) s s) ∧
  (∀ (s : State) (code unit detail : Nat), s.log.length < 32 →
    (s.logEntry code unit detail).log = s.log ++ [⟨code, unit, detail % 2 ^ 16,
      if s.flag F.CLK_STATUS_AONOK then s.rtc.sec % 2 ^ 24 else 0, s.fld F.FLT_BOOTCNT_COUNT % 16⟩] ∧
    (s.logEntry code unit detail).fld F.FLT_STATUS_LOGANY = 1 ∧ (s.logEntry code unit detail).mem = s.mem) ∧
  (∀ (s : State) (code unit detail : Nat), 32 ≤ s.log.length → s.fld F.FLT_LOGCNT_OVF = 0 →
    (s.logEntry code unit detail).log = s.log ∧ (s.logEntry code unit detail).fld F.FLT_LOGCNT_OVF = 1) ∧
  (∀ (s : State) (ini : Initiator) (v : Word), s.Takes ini (Reg.FLT_WDCFG) → s.flag F.FLT_WDCFG_EN = false →
    Becomes (.watchdogEnable ini v) s ((s.setFld F.FLT_WDCFG_TIMEOUT (bitsOf v.toNat 1 16)).setFld F.FLT_WDCFG_EN
      (bitsOf v.toNat 0 1))) ∧
  (∀ (s : State) (ini : Initiator) (v : Word), s.Takes ini (Reg.FLT_WDCFG) → s.flag F.FLT_WDCFG_EN = true →
    Becomes (.watchdogEnable ini v) s s) ∧
  (∀ (s : State) (ini : Initiator), s.Takes ini (Reg.FLT_WDKICK) →
    Becomes (.watchdogKick ini 0x00A5C3) s (s.setFld F.FLT_WDCNT_COUNT 0)) ∧
  (∀ (s : State) (ini : Initiator) (v : Word), s.Takes ini (Reg.FLT_WDKICK) → v.toNat ≠ 0x00A5C3 →
    Becomes (.watchdogKick ini v) s s.wdExpire) ∧
  (∀ (s : State) (n : Nat), s.wdHeld = false → s.fld F.FLT_WDCNT_COUNT + n < s.fld F.FLT_WDCFG_TIMEOUT →
    Becomes (.watchdogExpiry n) s (s.setFld F.FLT_WDCNT_COUNT (s.fld F.FLT_WDCNT_COUNT + n))) ∧
  (∀ (s : State) (n : Nat), s.wdHeld = true →
    Becomes (.watchdogExpiry n) s s) ∧
  (∀ (s : State) (n : Nat), s.wdHeld = false → 0 < s.fld F.FLT_WDCFG_TIMEOUT → s.fld F.FLT_WDCFG_TIMEOUT ≤ s.fld
  F.FLT_WDCNT_COUNT + n →
    Becomes (.watchdogExpiry n) s s.wdExpire) ∧
  (∀ (s : State), s.held.por = false → s.weather ≠ .frost → s.log.length < 32 →
    s.wdExpire.fld F.CLK_RSTCAUSE_WDOG = 1 ∧ s.wdExpire.held.wdog = true ∧ s.wdExpire.stopped = true ∧
    s.wdExpire.fld F.FLT_WDCNT_COUNT = 0 ∧ s.wdExpire.fld F.FLT_WDCFG_EN = 0 ∧
      s.wdExpire.log.length = s.log.length + 1 ∧
    s.wdExpire.fuses = s.fuses)

/-- TAP_RESET selects IDCODE and loses the result of a BUSY access; IDCODE shifts out 0x23248B47; BYPASS, CLAMP and
HIGHZ only select their register; the boundary instructions capture the cells, masked where R786 says, and take the
shifted values. DAPACC starts an access where debug is enabled, is DENIED where not, and starts nothing while one is
BUSY; a read that ends shows its word and DONE or SEALREAD, and DARK with zero while clk_core is stopped. TESTMODE
outside the test condition is BYPASS; in it, it clears the part's memories and sets the mode. The tests report their
results, FUSE blows bits, SCAN loses all state. -/
def Obligations.TapCommands : Prop :=
  (∀ (s : State), s.tapOn = true →
    Becomes .tapReset s { s with tap := { s.tap with ir := 1, lost := s.tap.lost || s.tap.status == 1 } }) ∧
  (∀ (s : State), s.tapOn = true →
    Becomes .idcode s { s with tap := { s.tap with ir := 1 }, readData := [0x47, 0x8B, 0x24, 0x23] }) ∧
  (∀ (s : State), s.tapOn = true →
    Becomes .bypass s { s with tap := { s.tap with ir := 31 } }) ∧
  (∀ (s : State), s.tapOn = true →
    Becomes .clamp s { s with tap := { s.tap with ir := 4 } }) ∧
  (∀ (s : State), s.tapOn = true →
    Becomes .highz s { s with tap := { s.tap with ir := 5 } }) ∧
  (∀ (s : State), s.tapOn = false →
    Becomes .tapReset s s ∧ Becomes .idcode s s ∧ Becomes .bypass s s ∧ Becomes .clamp s s ∧ Becomes .highz s s) ∧
  (∀ (s : State) (cap upd : List Bool), s.tapOn = true →
    Becomes (.samplePreload cap upd) s { s with tap := { s.tap with ir := 2, captured := s.capture cap, boundary := updateCells upd } } ∧
    Becomes (.extest cap upd) s { s with tap := { s.tap with ir := 3, captured := s.capture cap, boundary := updateCells upd } }) ∧
  (∀ (s : State) (cap upd : List Bool), s.tapOn = false →
    Becomes (.samplePreload cap upd) s s ∧ Becomes (.extest cap upd) s s) ∧
  (∀ (s : State) (cap : List Bool) (i : Nat), i < 154 →
    (s.capture cap).getD i false = (cap.getD i false && !s.cellMasked i) ∧ (s.capture cap).length = 154) ∧
  (∀ (s : State) (i : Nat), s.fld F.BOOT_FUSE_LIFECYCLE ≠ 2 →
    s.cellMasked i = false) ∧
  (∀ (s : State), s.fld F.BOOT_FUSE_LIFECYCLE = 2 →
    s.cellMasked 133 = true ∧ s.cellMasked 0 = false) ∧
  (∀ (s : State) (a : BitVec 32) (v : Word) (wr : Bool), s.tapOn = true → s.tap.status ≠ 1 → s.debugOn = true →
    Becomes (.dapacc a v wr) s { s with tap := { s.tap with
      ir := 8, addr := a.toNat / 4 * 4, data := v, write := wr, status := 1, lost := false } }) ∧
  (∀ (s : State) (a : BitVec 32) (v : Word) (wr : Bool), s.tapOn = true → s.tap.status ≠ 1 → s.debugOn = false →
    Gives (.dapacc a v wr) s fun t => t.tap.status = 2 ∧ t.regs = s.regs ∧ t.mem = s.mem ∧ t.cores = s.cores) ∧
  (∀ (s : State) (a : BitVec 32) (v : Word) (wr : Bool), s.tapOn = true → s.tap.status = 1 →
    Becomes (.dapacc a v wr) s { s with tap := { s.tap with ir := 8 } }) ∧
  (∀ (s : State), s.tap.status = 1 → s.coreClock = true → s.tap.write = false → s.tap.lost = false → (s.busRead .debug
  s.tap.addr 4).1.tap = s.tap →
    Gives .dapaccDone s fun t => t.tap.status = (if s.debugSealed s.tap.addr then 3 else 0) ∧
      t.tap.data = BitVec.ofNat 24 (ofBytes ((s.busRead .debug s.tap.addr 4).2.take 3))) ∧
  (∀ (s : State), s.tap.status = 1 → s.coreClock = false → s.tap.lost = false →
    Becomes .dapaccDone s { s with tap := { s.tap with status := 4, data := 0 } }) ∧
  (∀ (s : State), s.tap.status ≠ 1 →
    Becomes .dapaccDone s s) ∧
  (∀ (s : State) (m : Fin 16) (go : Bool), s.tapOn = true → s.tap.mode ≠ 1 → s.fld F.BOOT_STRAP_EFFSRC ≠ 3 →
    Becomes (.testmode m go) s { s with tap := { s.tap with ir := 31 } }) ∧
  (∀ (s : State) (m : Fin 16), s.tapOn = true → s.tap.mode ≠ 1 → s.fld F.BOOT_STRAP_EFFSRC = 3 →
    Becomes (.testmode m false) s { s with tap := { s.tap with ir := 16 } }) ∧
  (∀ (s : State) (m : Fin 16), s.tapOn = true → s.tap.mode ≠ 1 → s.fld F.BOOT_STRAP_EFFSRC = 3 → (m.val = 1 ∨ m.val =
  4 ∨ m.val = 5) →
    Gives (.testmode m true) s fun t => t.tap.mode = m.val ∧ t.tap.result = 0 ∧ t.fuses = s.fuses ∧
      ∀ c : Nat, c < 4 → ∀ r : Nat, r < 4096 → t.tag c r = false ∧ t.mark c r = false) ∧
  (∀ (s : State), s.tapOn = true → s.tap.mode = 1 →
    Gives .testScan s fun t => t.mem = [] ∧ t.cores = [] ∧ t.tap = s.tap ∧ t.fuses = s.fuses) ∧
  (∀ (s : State) (p : Bool), s.tapOn = true → s.tap.mode = 2 →
    Gives (.testMbist p) s fun t => t.tap = { s.tap with result := if p then 1 else 2 } ∧ t.regs = s.regs ∧
      t.cores = s.cores ∧ t.fuses = s.fuses) ∧
  (∀ (s : State) (p : Bool), s.tapOn = true → s.tap.mode = 5 →
    Becomes (.testAnatrim p) s { s with tap := { s.tap with result := if p then 1 else 2 } }) ∧
  (∀ (s : State) (tl : Fin 32), s.tapOn = true → s.tap.mode = 3 → s.domOn (domTQ tl) = true →
    Gives (.testTiletest tl []) s fun t => t.tap.result = 1 ∧ t.free = s.free + 776 * 392 * 2 ∧ t.regs = s.regs ∧
      t.mem = s.mem) ∧
  (∀ (s : State) (b : FuseBlow), s.tapOn = true → s.tap.mode = 4 →
    Gives (.testFuse b) s fun t => t.fuses.dbgdis = (s.fuses.dbgdis || b.dbgdis) ∧
      t.fuses.lifecycle = (s.fuses.lifecycle ||| b.lifecycle) ∧
      t.fuses.uid = (s.fuses.uid ||| b.uid) ∧ t.fuses.crc = (s.fuses.crc ||| b.crc) ∧
        t.fuses.rollback = max s.fuses.rollback b.rollback ∧ t.shadow = s.shadow ∧ t.regs = s.regs ∧ t.tap.result = 1) ∧
  (∀ (s : State) (b : FuseBlow) (p : Bool) (tl : Fin 32), s.tap.mode = 0 →
    Becomes .testScan s s ∧ Becomes (.testMbist p) s s ∧ Becomes (.testTiletest tl []) s s ∧
      Becomes (.testFuse b) s s ∧ Becomes (.testAnatrim p) s s)

/-- Where debug is enabled, HALT halts a running core that has no work to finish, RUN and STEP resume a halted one,
START begins one in RESET at DBG_STARTPC with its domain ON, and DBG_CDATA reads and writes a register of the selected
halted core; where that core is not halted NOTHALT is set. Where debug is disabled nothing of it happens. A core that
is not in the state named keeps its state. -/
def Obligations.DebugOfCores : Prop :=
  (∀ (s : State) (ini : Initiator) (k : Fin 5) (v : Fin 32), s.Takes ini (Reg.DBG_HALT) → s.debugOn = true → v.val = 2
  ^ k.val → (s.core k).run = .run →
    Becomes (.dbgHalt ini v) s (s.setCore k ({ s.core k with haltWait := true, stepping := false } : CoreSt).settle)) ∧
  (∀ (s : State) (ini : Initiator) (k : Fin 5) (v : Fin 32), s.Takes ini (Reg.DBG_HALT) → v.val = 2 ^ k.val →
  (s.debugOn = false ∨ (s.core k).run = .reset ∨ (s.core k).run = .fault ∨ (s.core k).run = .halt) →
    Becomes (.dbgHalt ini v) s s) ∧
  (∀ (s : State) (n : Fin 4), s.arriving = [91 + n.val] → s.debugOn = true →
    Becomes (.dbgHaltTask n) s ({ s with arriving := [] }.haltCore n)) ∧
  (∀ (s : State) (n : Fin 4), s.arriving = [91 + n.val] → s.debugOn = false →
    Gives (.dbgHaltTask n) s fun t => t.arriving = [] ∧ t.cores = s.cores ∧ t.fld (F.EVF_TASK_RET (91 + n)) = 1 ∧
      t.mem = s.mem) ∧
  (∀ (s : State) (n : Fin 4), s.arriving = [] →
    Becomes (.dbgHaltTask n) s s) ∧
  (∀ (s : State) (ini : Initiator) (k : Fin 5) (v : Fin 32), s.Takes ini (Reg.DBG_RESUME) → s.debugOn = true → v.val =
  2 ^ k.val → (s.core k).run = .halt →
    Becomes (.dbgResume ini v) s (s.setCore k { s.core k with run := .run })) ∧
  (∀ (s : State) (ini : Initiator) (k : Fin 5) (v : Fin 32), s.Takes ini (Reg.DBG_RESUME) → s.debugOn = true → v.val =
  2 ^ k.val → (s.core k).run = .halt →
    Becomes (.dbgStep ini v) s (s.setCore k { s.core k with run := .run, stepping := true })) ∧
  (∀ (s : State) (ini : Initiator) (k : Fin 5) (v : Fin 32), s.Takes ini (Reg.DBG_RESUME) → v.val = 2 ^ k.val →
  (s.debugOn = false ∨ (s.core k).run ≠ .halt) →
    Becomes (.dbgResume ini v) s s ∧ Becomes (.dbgStep ini v) s s) ∧
  (∀ (s : State) (ini : Initiator) (k : Fin 5) (v : Fin 32), s.Takes ini (Reg.DBG_START) → s.debugOn = true → v.val =
  2 ^ k.val → (s.core k).run = .reset → s.domOn (coreDom k) = true →
  (s.flag F.BOOT_STATUS_DONE = true ∨ s.fld F.BOOT_STRAP_EFFSRC = 3) →
    let p := BitVec.ofNat 16 (s.fld F.DBG_STARTPC_PC)
    Becomes (.dbgStart ini v) s (s.setCore k { s.core k with run := .run, pc := p, tvalid := false })) ∧
  (∀ (s : State) (ini : Initiator) (k : Fin 5) (v : Fin 32), s.Takes ini (Reg.DBG_START) → v.val = 2 ^ k.val →
  (s.debugOn = false ∨ (s.core k).run ≠ .reset ∨ s.domOn (coreDom k) = false ∨ (s.flag F.BOOT_STATUS_DONE = false ∧
  s.fld F.BOOT_STRAP_EFFSRC ≠ 3)) →
    Becomes (.dbgStart ini v) s s) ∧
  (∀ (s : State) (v : Word), s.Takes .debug Reg.DBG_CDATA → s.debugOn = true → s.debugHalted = true →
    Becomes (.dbgCdataAccess .debug (some v)) s (s.setCore s.debugCore ((s.core s.debugCore).writeDebug (s.fld
      F.DBG_CSEL_REG) v.toNat))) ∧
  (∀ (s : State) (v : Word), s.Takes .debug Reg.DBG_CDATA → s.debugOn = true → s.debugHalted = false →
    Becomes (.dbgCdataAccess .debug (some v)) s (s.setFld F.DBG_STATUS_NOTHALT 1)) ∧
  (∀ (s : State), s.stopped = false → s.verdict .debug Reg.DBG_CDATA false = .pass → s.debugOn = true →
    s.debugHalted = true →
    Becomes (.dbgCdataAccess .debug none) s { s with readData := toBytes 4 (s.debugReg s.debugCore (s.fld F.DBG_CSEL_REG)) }) ∧
  (∀ (s : State), s.stopped = false → s.verdict .debug Reg.DBG_CDATA false = .pass → s.debugOn = true →
    s.debugHalted = false →
    Becomes (.dbgCdataAccess .debug none) s { s.setFld F.DBG_STATUS_NOTHALT 1 with readData := [0, 0, 0, 0] }) ∧
  (∀ (s : State) (k : Nat) (r : Fin 16),
    s.debugReg k r = ((s.core k).reg r).toNat ∧ s.debugReg k 22 = (s.core k).pc.toNat) ∧
  (∀ (s : State) (ini : Initiator), s.portOpen ini = false →
    Becomes (.dbgCdataAccess ini none) s s) ∧
  (∀ (s : State) (ini : Initiator), s.portOpen ini = true →
    Becomes (.dbgCdataAccess ini none) s { (s.busRead ini Reg.DBG_CDATA 4).1 with readData := (s.busRead ini Reg.DBG_CDATA 4).2 }) ∧
  (∀ (c : CoreSt) (r : Fin 16) (v : Word), 0 < r.val →
    (c.writeDebug r v.toNat).reg r = v ∧ (c.writeDebug 22 v.toNat).pc = BitVec.ofNat 16 v.toNat)
end

