-- ==== Sys2Proof/Laws/Tab.lean ====
section
/-! SUPPORT. What reads of a table give after writes, that every write keeps the canonical form, and what the bit-field
helpers compute. -/

namespace Sys2Proof.Machine

variable {α : Type}

/-! ### Reads after writes -/

theorem tabGet_filter (d : Nat → α) (p : Nat → Bool) (m : Tab α) (j : Nat) :
    tabGet d (m.filter fun e => p e.1) j = if p j then tabGet d m j else d j := by
  induction m with
  | nil => simp [tabGet]
  | cons e t ih =>
    obtain ⟨k, v⟩ := e
    by_cases hp : p k = true
    · rw [List.filter_cons_of_pos (by simpa using hp)]
      by_cases hj : j = k
      · subst hj; simp [tabGet, hp]
      · simp [tabGet, hj, ih]
    · rw [List.filter_cons_of_neg (by simpa using hp), ih]
      by_cases hj : j = k
      · subst hj; simp [hp]
      · simp [tabGet, hj]

theorem tabGet_tabInsert_ne (d : Nat → α) (m : Tab α) (k j : Nat) (v : α) (h : j ≠ k) :
    tabGet d (tabInsert k v m) j = tabGet d m j := by
  induction m with
  | nil => simp [tabInsert, tabGet, h]
  | cons e t ih =>
    obtain ⟨k', v'⟩ := e
    simp only [tabInsert]
    split
    · simp [tabGet, h]
    · simp [tabGet, ih]

theorem tabGet_tabInsert_same (d : Nat → α) (m : Tab α) (k : Nat) (v : α) (h : ∀ e ∈ m, e.1 ≠ k) :
    tabGet d (tabInsert k v m) k = v := by
  induction m with
  | nil => simp [tabInsert, tabGet]
  | cons e t ih =>
    obtain ⟨k', v'⟩ := e
    have hk : k' ≠ k := h (k', v') (by simp)
    simp only [tabInsert]
    split
    · simp [tabGet]
    · simp [tabGet, Ne.symm hk, ih fun e he => h e (by simp [he])]

/-- A read after a write gives the value written at its key, and what stood there elsewhere. -/
theorem tabGet_tabSet [DecidableEq α] (d : Nat → α) (m : Tab α) (k j : Nat) (v : α) :
    tabGet d (tabSet d m k v) j = if j = k then v else tabGet d m j := by
  have hf : tabGet d (m.filter fun e => e.1 != k) j = if j = k then d j else tabGet d m j := by
    rw [tabGet_filter d (fun x => x != k) m j]
    by_cases h : j = k <;> simp [h]
  unfold tabSet
  by_cases hv : v = d k
  · simp only [hv, if_true]
    rw [hf]
    by_cases h : j = k <;> simp [h]
  · simp only [hv, if_false]
    by_cases h : j = k
    · subst h
      simp only [if_true]
      exact tabGet_tabInsert_same d _ j v (by simp)
    · rw [tabGet_tabInsert_ne d _ k j v h, hf]
      simp [h]

@[simp] theorem tabGet_tabSet_same [DecidableEq α] (d : Nat → α) (m : Tab α) (k : Nat) (v : α) :
    tabGet d (tabSet d m k v) k = v := by simp [tabGet_tabSet]

theorem tabGet_tabSet_ne [DecidableEq α] (d : Nat → α) (m : Tab α) (k j : Nat) (v : α) (h : j ≠ k) :
    tabGet d (tabSet d m k v) j = tabGet d m j := by simp [tabGet_tabSet, h]

/-- A read after a clearing. -/
theorem tabGet_tabClear (d : Nat → α) (p : Nat → Bool) (m : Tab α) (j : Nat) :
    tabGet d (tabClear p m) j = if p j then d j else tabGet d m j := by
  unfold tabClear
  rw [tabGet_filter d (fun x => !p x) m j]
  cases p j <;> simp

/-- A read after a write of consecutive keys, outside them. -/
theorem tabGet_tabSetList_out [DecidableEq α] (d : Nat → α) (vs : List α) (m : Tab α) (k j : Nat)
    (h : j < k ∨ k + vs.length ≤ j) : tabGet d (tabSetList d m k vs) j = tabGet d m j := by
  induction vs generalizing m k with
  | nil => rfl
  | cons v vs ih =>
    simp only [tabSetList]
    simp only [List.length_cons] at h
    rw [ih (tabSet d m k v) (k + 1) (by omega), tabGet_tabSet_ne d m k j v (by omega)]

/-- A read after a write of consecutive keys, at one of them. -/
theorem tabGet_tabSetList_in [DecidableEq α] (d : Nat → α) (vs : List α) (m : Tab α) (k i : Nat) (h : i < vs.length) :
    tabGet d (tabSetList d m k vs) (k + i) = vs[i] := by
  induction vs generalizing m k i with
  | nil => simp at h
  | cons v vs ih =>
    simp only [tabSetList]
    cases i with
    | zero => rw [tabGet_tabSetList_out d vs _ (k + 1) (k + 0) (by omega)]; simp
    | succ i =>
      have := ih (tabSet d m k v) (k + 1) i (by simpa using h)
      rw [show k + (i + 1) = k + 1 + i by omega, this]
      simp

/-! ### The canonical form -/

theorem tabWfFrom_mono [DecidableEq α] (d : Nat → α) (m : Tab α) (a b : Nat) (hab : a ≤ b)
    (h : tabWfFrom d (some b) m = true) : tabWfFrom d (some a) m = true := by
  cases m with
  | nil => rfl
  | cons e t =>
    obtain ⟨k, v⟩ := e
    simp only [tabWfFrom, Bool.and_eq_true, decide_eq_true_eq] at h ⊢
    exact ⟨⟨by omega, h.1.2⟩, h.2⟩

theorem tabWfFrom_none [DecidableEq α] (d : Nat → α) (m : Tab α) (a : Nat) (h : tabWfFrom d (some a) m = true) :
    tabWfFrom d none m = true := by
  cases m with
  | nil => rfl
  | cons e t =>
    obtain ⟨k, v⟩ := e
    simp only [tabWfFrom, Bool.and_eq_true, decide_eq_true_eq, Bool.true_and] at h ⊢
    exact ⟨h.1.2, h.2⟩

theorem tabWfFrom_filter [DecidableEq α] (d : Nat → α) (p : Nat × α → Bool) (m : Tab α) (lo : Option Nat)
    (h : tabWfFrom d lo m = true) : tabWfFrom d lo (m.filter p) = true := by
  induction m generalizing lo with
  | nil => simpa using h
  | cons e t ih =>
    obtain ⟨k, v⟩ := e
    have h' := h
    simp only [tabWfFrom, Bool.and_eq_true, decide_eq_true_eq] at h'
    by_cases hp : p (k, v) = true
    · rw [List.filter_cons_of_pos hp]
      simp only [tabWfFrom, Bool.and_eq_true, decide_eq_true_eq]
      exact ⟨h'.1, ih (some k) h'.2⟩
    · rw [List.filter_cons_of_neg hp]
      apply ih
      cases lo with
      | none => exact tabWfFrom_none d t k h'.2
      | some l =>
        have hl : l < k := by simpa using h'.1.1
        exact tabWfFrom_mono d t l k (by omega) h'.2

theorem tabWfFrom_insert [DecidableEq α] (d : Nat → α) (m : Tab α) (k : Nat) (v : α) (lo : Option Nat)
    (hv : v ≠ d k) (hk : ∀ e ∈ m, e.1 ≠ k) (hlo : ∀ l, lo = some l → l < k) (h : tabWfFrom d lo m = true) :
    tabWfFrom d lo (tabInsert k v m) = true := by
  induction m generalizing lo with
  | nil =>
    simp only [tabInsert, tabWfFrom, Bool.and_eq_true, decide_eq_true_eq, Bool.and_true]
    refine ⟨?_, hv⟩
    cases lo with
    | none => rfl
    | some l => simpa using hlo l rfl
  | cons e t ih =>
    obtain ⟨k', v'⟩ := e
    simp only [tabWfFrom, Bool.and_eq_true, decide_eq_true_eq] at h
    have hne : k' ≠ k := hk (k', v') (by simp)
    simp only [tabInsert]
    split
    · rename_i hlt
      simp only [tabWfFrom, Bool.and_eq_true, decide_eq_true_eq]
      refine ⟨⟨?_, hv⟩, ⟨by simpa using hlt, h.1.2⟩, h.2⟩
      cases lo with
      | none => rfl
      | some l => simpa using hlo l rfl
    · rename_i hlt
      simp only [tabWfFrom, Bool.and_eq_true, decide_eq_true_eq]
      exact ⟨h.1, ih (some k') (fun e he => hk e (by simp [he])) (by intro l hl; cases hl; omega) h.2⟩

/-- A write keeps the canonical form. -/
theorem tabWf_tabSet [DecidableEq α] (d : Nat → α) (m : Tab α) (k : Nat) (v : α) (h : tabWf d m = true) :
    tabWf d (tabSet d m k v) = true := by
  unfold tabSet
  have hf : tabWf d (m.filter fun e => e.1 != k) = true := tabWfFrom_filter d _ m none h
  by_cases hv : v = d k
  · simpa [hv] using hf
  · simp only [hv, if_false]
    exact tabWfFrom_insert d _ k v none hv (by simp) (by simp) hf

/-- A clearing keeps the canonical form. -/
theorem tabWf_tabClear [DecidableEq α] (d : Nat → α) (p : Nat → Bool) (m : Tab α) (h : tabWf d m = true) :
    tabWf d (tabClear p m) = true := tabWfFrom_filter d _ m none h

/-- A write of consecutive keys keeps the canonical form. -/
theorem tabWf_tabSetList [DecidableEq α] (d : Nat → α) (vs : List α) (m : Tab α) (k : Nat) (h : tabWf d m = true) :
    tabWf d (tabSetList d m k vs) = true := by
  induction vs generalizing m k with
  | nil => exact h
  | cons v vs ih => exact ih _ _ (tabWf_tabSet d m k v h)

/-! ### Bit fields -/

theorem bitsOf_lt (v lo w : Nat) : bitsOf v lo w < 2 ^ w := Nat.mod_lt _ (Nat.two_pow_pos w)

/-- A number is its bits above a field, the field, and its bits below. -/
theorem bits_split (v lo w : Nat) : v = v / 2 ^ (lo + w) * 2 ^ (lo + w) + bitsOf v lo w * 2 ^ lo + v % 2 ^ lo := by
  have h1 : v = v / 2 ^ lo * 2 ^ lo + v % 2 ^ lo := (Nat.div_add_mod' v (2 ^ lo)).symm
  have h2 : v / 2 ^ lo = v / 2 ^ lo / 2 ^ w * 2 ^ w + v / 2 ^ lo % 2 ^ w := (Nat.div_add_mod' _ (2 ^ w)).symm
  unfold bitsOf
  rw [Nat.div_div_eq_div_mul, ← pow_add] at h2
  conv_lhs => rw [h1, h2]
  rw [pow_add]; ring

/-- A field replaced, as bits above, the new field and bits below. -/
theorem putBits_eq (v lo w x : Nat) :
    putBits v lo w x = v / 2 ^ (lo + w) * 2 ^ (lo + w) + x % 2 ^ w * 2 ^ lo + v % 2 ^ lo := by
  unfold putBits
  have h := bits_split v lo w
  omega

/-- A replaced field reads back as what was put there. -/
theorem bitsOf_putBits_same (v lo w x : Nat) : bitsOf (putBits v lo w x) lo w = x % 2 ^ w := by
  rw [putBits_eq]
  unfold bitsOf
  have h1 : v / 2 ^ (lo + w) * 2 ^ (lo + w) + x % 2 ^ w * 2 ^ lo + v % 2 ^ lo
      = v % 2 ^ lo + 2 ^ lo * (x % 2 ^ w + 2 ^ w * (v / 2 ^ (lo + w))) := by rw [pow_add]; ring
  rw [h1, Nat.add_mul_div_left _ _ (Nat.two_pow_pos lo), Nat.div_eq_of_lt (Nat.mod_lt _ (Nat.two_pow_pos lo)), zero_add,
    Nat.add_mul_mod_self_left, Nat.mod_mod]

/-- A field below a replaced one keeps its value. -/
theorem bitsOf_putBits_below (v lo w x lo' w' : Nat) (h : lo' + w' ≤ lo) :
    bitsOf (putBits v lo w x) lo' w' = bitsOf v lo' w' := by
  have key : ∀ y : Nat, bitsOf y lo' w' = bitsOf (y % 2 ^ lo) lo' w' := by
    intro y
    unfold bitsOf
    obtain ⟨k, rfl⟩ := Nat.exists_eq_add_of_le h
    rw [show lo' + w' + k = lo' + (w' + k) by omega, pow_add 2 lo' (w' + k), Nat.mod_mul_right_div_self, pow_add 2 w' k,
      Nat.mod_mul_right_mod]
  rw [key (putBits v lo w x), key v, putBits_eq]
  congr 1
  rw [show v / 2 ^ (lo + w) * 2 ^ (lo + w) + x % 2 ^ w * 2 ^ lo + v % 2 ^ lo
      = v % 2 ^ lo + 2 ^ lo * (x % 2 ^ w + 2 ^ w * (v / 2 ^ (lo + w))) by rw [pow_add]; ring,
    Nat.add_mul_mod_self_left, Nat.mod_mod]

/-- A field above a replaced one keeps its value. -/
theorem bitsOf_putBits_above (v lo w x lo' w' : Nat) (h : lo + w ≤ lo') :
    bitsOf (putBits v lo w x) lo' w' = bitsOf v lo' w' := by
  have key : ∀ y : Nat, bitsOf y lo' w' = (y / 2 ^ (lo + w)) / 2 ^ (lo' - (lo + w)) % 2 ^ w' := by
    intro y
    unfold bitsOf
    rw [Nat.div_div_eq_div_mul, ← pow_add, show lo + w + (lo' - (lo + w)) = lo' by omega]
  rw [key (putBits v lo w x), key v]
  congr 2
  rw [putBits_eq, Nat.add_assoc, Nat.mul_comm, Nat.mul_add_div (Nat.two_pow_pos _)]
  have h1 : x % 2 ^ w * 2 ^ lo + v % 2 ^ lo < 2 ^ (lo + w) := by
    have a := Nat.mod_lt x (Nat.two_pow_pos w)
    have b := Nat.mod_lt v (Nat.two_pow_pos lo)
    have c : (x % 2 ^ w + 1) * 2 ^ lo ≤ 2 ^ w * 2 ^ lo := Nat.mul_le_mul_right _ a
    rw [pow_add]
    nlinarith
  rw [Nat.div_eq_of_lt h1, Nat.add_zero]

theorem putBits_lt (v lo w x n : Nat) (hv : v < 2 ^ n) (h : lo + w ≤ n) : putBits v lo w x < 2 ^ n := by
  rw [putBits_eq]
  obtain ⟨k, rfl⟩ := Nat.exists_eq_add_of_le h
  have h0 : v / 2 ^ (lo + w) < 2 ^ k := by
    rw [Nat.div_lt_iff_lt_mul (Nat.two_pow_pos _), ← pow_add]; simpa [Nat.add_comm] using hv
  have h1 : x % 2 ^ w * 2 ^ lo + v % 2 ^ lo < 2 ^ (lo + w) := by
    have a := Nat.mod_lt x (Nat.two_pow_pos w)
    have b := Nat.mod_lt v (Nat.two_pow_pos lo)
    have c : (x % 2 ^ w + 1) * 2 ^ lo ≤ 2 ^ w * 2 ^ lo := Nat.mul_le_mul_right _ a
    rw [pow_add]
    nlinarith
  have h2 : (v / 2 ^ (lo + w) + 1) * 2 ^ (lo + w) ≤ 2 ^ k * 2 ^ (lo + w) := Nat.mul_le_mul_right _ h0
  rw [show 2 ^ (lo + w + k) = 2 ^ k * 2 ^ (lo + w) by rw [pow_add 2 (lo + w) k, Nat.mul_comm]]
  nlinarith

@[simp] theorem b2n_true : b2n true = 1 := rfl
@[simp] theorem b2n_false : b2n false = 0 := rfl

end Sys2Proof.Machine
end

