-- ==== Sys2Proof/Laws/State.lean ====
section
/-! SUPPORT. What each small update of the state leaves unchanged, field by field, and what reads give after it. -/

namespace Sys2Proof.Machine

variable (s : State)

/-! ### setReg -/

@[simp] theorem State.setReg_pending (a : Nat) (w : Word) : (s.setReg a w).pending = s.pending := rfl
@[simp] theorem State.setReg_free (a : Nat) (w : Word) : (s.setReg a w).free = s.free := rfl
@[simp] theorem State.setReg_mem (a : Nat) (w : Word) : (s.setReg a w).mem = s.mem := rfl
@[simp] theorem State.setReg_tags (a : Nat) (w : Word) : (s.setReg a w).tags = s.tags := rfl
@[simp] theorem State.setReg_marks (a : Nat) (w : Word) : (s.setReg a w).marks = s.marks := rfl
@[simp] theorem State.setReg_pulses (a : Nat) (w : Word) : (s.setReg a w).pulses = s.pulses := rfl
@[simp] theorem State.setReg_arriving (a : Nat) (w : Word) : (s.setReg a w).arriving = s.arriving := rfl
@[simp] theorem State.setReg_readData (a : Nat) (w : Word) : (s.setReg a w).readData = s.readData := rfl
@[simp] theorem State.setReg_zones (a : Nat) (w : Word) : (s.setReg a w).zones = s.zones := rfl
@[simp] theorem State.setReg_fresh (a : Nat) (w : Word) : (s.setReg a w).fresh = s.fresh := rfl
@[simp] theorem State.setReg_aonCycles (a : Nat) (w : Word) : (s.setReg a w).aonCycles = s.aonCycles := rfl
@[simp] theorem State.setReg_evtCycles (a : Nat) (w : Word) : (s.setReg a w).evtCycles = s.evtCycles := rfl
@[simp] theorem State.setReg_held (a : Nat) (w : Word) : (s.setReg a w).held = s.held := rfl
@[simp] theorem State.setReg_weather (a : Nat) (w : Word) : (s.setReg a w).weather = s.weather := rfl
@[simp] theorem State.setReg_waiting (a : Nat) (w : Word) : (s.setReg a w).waiting = s.waiting := rfl
@[simp] theorem State.setReg_target (a : Nat) (w : Word) : (s.setReg a w).target = s.target := rfl
@[simp] theorem State.setReg_wakeDue (a : Nat) (w : Word) : (s.setReg a w).wakeDue = s.wakeDue := rfl
@[simp] theorem State.setReg_rtc (a : Nat) (w : Word) : (s.setReg a w).rtc = s.rtc := rfl
@[simp] theorem State.setReg_log (a : Nat) (w : Word) : (s.setReg a w).log = s.log := rfl
@[simp] theorem State.setReg_disTicks (a : Nat) (w : Word) : (s.setReg a w).disTicks = s.disTicks := rfl
@[simp] theorem State.setReg_flight (a : Nat) (w : Word) : (s.setReg a w).flight = s.flight := rfl
@[simp] theorem State.setReg_mail (a : Nat) (w : Word) : (s.setReg a w).mail = s.mail := rfl
@[simp] theorem State.setReg_sortRaw (a : Nat) (w : Word) : (s.setReg a w).sortRaw = s.sortRaw := rfl
@[simp] theorem State.setReg_swStart (a : Nat) (w : Word) : (s.setReg a w).swStart = s.swStart := rfl
@[simp] theorem State.setReg_msix (a : Nat) (w : Word) : (s.setReg a w).msix = s.msix := rfl
@[simp] theorem State.setReg_msixPend (a : Nat) (w : Word) : (s.setReg a w).msixPend = s.msixPend := rfl
@[simp] theorem State.setReg_msixEnable (a : Nat) (w : Word) : (s.setReg a w).msixEnable = s.msixEnable := rfl
@[simp] theorem State.setReg_msixMaskAll (a : Nat) (w : Word) : (s.setReg a w).msixMaskAll = s.msixMaskAll := rfl
@[simp] theorem State.setReg_messages (a : Nat) (w : Word) : (s.setReg a w).messages = s.messages := rfl
@[simp] theorem State.setReg_cores (a : Nat) (w : Word) : (s.setReg a w).cores = s.cores := rfl
@[simp] theorem State.setReg_tiles (a : Nat) (w : Word) : (s.setReg a w).tiles = s.tiles := rfl
@[simp] theorem State.setReg_tallies (a : Nat) (w : Word) : (s.setReg a w).tallies = s.tallies := rfl
@[simp] theorem State.setReg_movers (a : Nat) (w : Word) : (s.setReg a w).movers = s.movers := rfl
@[simp] theorem State.setReg_hostWrites (a : Nat) (w : Word) : (s.setReg a w).hostWrites = s.hostWrites := rfl
@[simp] theorem State.setReg_dfas (a : Nat) (w : Word) : (s.setReg a w).dfas = s.dfas := rfl
@[simp] theorem State.setReg_nextCtx (a : Nat) (w : Word) : (s.setReg a w).nextCtx = s.nextCtx := rfl
@[simp] theorem State.setReg_pst (a : Nat) (w : Word) : (s.setReg a w).pst = s.pst := rfl
@[simp] theorem State.setReg_pstPages (a : Nat) (w : Word) : (s.setReg a w).pstPages = s.pstPages := rfl
@[simp] theorem State.setReg_pstOp (a : Nat) (w : Word) : (s.setReg a w).pstOp = s.pstOp := rfl
@[simp] theorem State.setReg_cip (a : Nat) (w : Word) : (s.setReg a w).cip = s.cip := rfl
@[simp] theorem State.setReg_fuses (a : Nat) (w : Word) : (s.setReg a w).fuses = s.fuses := rfl
@[simp] theorem State.setReg_shadow (a : Nat) (w : Word) : (s.setReg a w).shadow = s.shadow := rfl
@[simp] theorem State.setReg_lnk (a : Nat) (w : Word) : (s.setReg a w).lnk = s.lnk := rfl
@[simp] theorem State.setReg_air (a : Nat) (w : Word) : (s.setReg a w).air = s.air := rfl
@[simp] theorem State.setReg_wir (a : Nat) (w : Word) : (s.setReg a w).wir = s.wir := rfl
@[simp] theorem State.setReg_line (a : Nat) (w : Word) : (s.setReg a w).line = s.line := rfl
@[simp] theorem State.setReg_sns (a : Nat) (w : Word) : (s.setReg a w).sns = s.sns := rfl
@[simp] theorem State.setReg_mesh (a : Nat) (w : Word) : (s.setReg a w).mesh = s.mesh := rfl
@[simp] theorem State.setReg_queues (a : Nat) (w : Word) : (s.setReg a w).queues = s.queues := rfl
@[simp] theorem State.setReg_front (a : Nat) (w : Word) : (s.setReg a w).front = s.front := rfl
@[simp] theorem State.setReg_pcie (a : Nat) (w : Word) : (s.setReg a w).pcie = s.pcie := rfl
@[simp] theorem State.setReg_spiLast (a : Nat) (w : Word) : (s.setReg a w).spiLast = s.spiLast := rfl
@[simp] theorem State.setReg_flrWaits (a : Nat) (w : Word) : (s.setReg a w).flrWaits = s.flrWaits := rfl
@[simp] theorem State.setReg_flrDue (a : Nat) (w : Word) : (s.setReg a w).flrDue = s.flrDue := rfl
@[simp] theorem State.setReg_boot (a : Nat) (w : Word) : (s.setReg a w).boot = s.boot := rfl
@[simp] theorem State.setReg_tap (a : Nat) (w : Word) : (s.setReg a w).tap = s.tap := rfl
@[simp] theorem State.setReg_posted (a : Nat) (w : Word) : (s.setReg a w).posted = s.posted := rfl
@[simp] theorem State.setReg_lostPosted (a : Nat) (w : Word) : (s.setReg a w).lostPosted = s.lostPosted := rfl
@[simp] theorem State.setReg_sortHeld (a : Nat) (w : Word) : (s.setReg a w).sortHeld = s.sortHeld := rfl
@[simp] theorem State.setReg_trimSets (a : Nat) (w : Word) : (s.setReg a w).trimSets = s.trimSets := rfl
@[simp] theorem State.setReg_hostReads (a : Nat) (w : Word) : (s.setReg a w).hostReads = s.hostReads := rfl

/-! ### setFld -/

@[simp] theorem State.setFld_pending (f : Fld) (v : Nat) : (s.setFld f v).pending = s.pending := rfl
@[simp] theorem State.setFld_free (f : Fld) (v : Nat) : (s.setFld f v).free = s.free := rfl
@[simp] theorem State.setFld_mem (f : Fld) (v : Nat) : (s.setFld f v).mem = s.mem := rfl
@[simp] theorem State.setFld_tags (f : Fld) (v : Nat) : (s.setFld f v).tags = s.tags := rfl
@[simp] theorem State.setFld_marks (f : Fld) (v : Nat) : (s.setFld f v).marks = s.marks := rfl
@[simp] theorem State.setFld_pulses (f : Fld) (v : Nat) : (s.setFld f v).pulses = s.pulses := rfl
@[simp] theorem State.setFld_arriving (f : Fld) (v : Nat) : (s.setFld f v).arriving = s.arriving := rfl
@[simp] theorem State.setFld_readData (f : Fld) (v : Nat) : (s.setFld f v).readData = s.readData := rfl
@[simp] theorem State.setFld_zones (f : Fld) (v : Nat) : (s.setFld f v).zones = s.zones := rfl
@[simp] theorem State.setFld_fresh (f : Fld) (v : Nat) : (s.setFld f v).fresh = s.fresh := rfl
@[simp] theorem State.setFld_aonCycles (f : Fld) (v : Nat) : (s.setFld f v).aonCycles = s.aonCycles := rfl
@[simp] theorem State.setFld_evtCycles (f : Fld) (v : Nat) : (s.setFld f v).evtCycles = s.evtCycles := rfl
@[simp] theorem State.setFld_held (f : Fld) (v : Nat) : (s.setFld f v).held = s.held := rfl
@[simp] theorem State.setFld_weather (f : Fld) (v : Nat) : (s.setFld f v).weather = s.weather := rfl
@[simp] theorem State.setFld_waiting (f : Fld) (v : Nat) : (s.setFld f v).waiting = s.waiting := rfl
@[simp] theorem State.setFld_target (f : Fld) (v : Nat) : (s.setFld f v).target = s.target := rfl
@[simp] theorem State.setFld_wakeDue (f : Fld) (v : Nat) : (s.setFld f v).wakeDue = s.wakeDue := rfl
@[simp] theorem State.setFld_rtc (f : Fld) (v : Nat) : (s.setFld f v).rtc = s.rtc := rfl
@[simp] theorem State.setFld_log (f : Fld) (v : Nat) : (s.setFld f v).log = s.log := rfl
@[simp] theorem State.setFld_disTicks (f : Fld) (v : Nat) : (s.setFld f v).disTicks = s.disTicks := rfl
@[simp] theorem State.setFld_flight (f : Fld) (v : Nat) : (s.setFld f v).flight = s.flight := rfl
@[simp] theorem State.setFld_mail (f : Fld) (v : Nat) : (s.setFld f v).mail = s.mail := rfl
@[simp] theorem State.setFld_sortRaw (f : Fld) (v : Nat) : (s.setFld f v).sortRaw = s.sortRaw := rfl
@[simp] theorem State.setFld_swStart (f : Fld) (v : Nat) : (s.setFld f v).swStart = s.swStart := rfl
@[simp] theorem State.setFld_msix (f : Fld) (v : Nat) : (s.setFld f v).msix = s.msix := rfl
@[simp] theorem State.setFld_msixPend (f : Fld) (v : Nat) : (s.setFld f v).msixPend = s.msixPend := rfl
@[simp] theorem State.setFld_msixEnable (f : Fld) (v : Nat) : (s.setFld f v).msixEnable = s.msixEnable := rfl
@[simp] theorem State.setFld_msixMaskAll (f : Fld) (v : Nat) : (s.setFld f v).msixMaskAll = s.msixMaskAll := rfl
@[simp] theorem State.setFld_messages (f : Fld) (v : Nat) : (s.setFld f v).messages = s.messages := rfl
@[simp] theorem State.setFld_cores (f : Fld) (v : Nat) : (s.setFld f v).cores = s.cores := rfl
@[simp] theorem State.setFld_tiles (f : Fld) (v : Nat) : (s.setFld f v).tiles = s.tiles := rfl
@[simp] theorem State.setFld_tallies (f : Fld) (v : Nat) : (s.setFld f v).tallies = s.tallies := rfl
@[simp] theorem State.setFld_movers (f : Fld) (v : Nat) : (s.setFld f v).movers = s.movers := rfl
@[simp] theorem State.setFld_hostWrites (f : Fld) (v : Nat) : (s.setFld f v).hostWrites = s.hostWrites := rfl
@[simp] theorem State.setFld_dfas (f : Fld) (v : Nat) : (s.setFld f v).dfas = s.dfas := rfl
@[simp] theorem State.setFld_nextCtx (f : Fld) (v : Nat) : (s.setFld f v).nextCtx = s.nextCtx := rfl
@[simp] theorem State.setFld_pst (f : Fld) (v : Nat) : (s.setFld f v).pst = s.pst := rfl
@[simp] theorem State.setFld_pstPages (f : Fld) (v : Nat) : (s.setFld f v).pstPages = s.pstPages := rfl
@[simp] theorem State.setFld_pstOp (f : Fld) (v : Nat) : (s.setFld f v).pstOp = s.pstOp := rfl
@[simp] theorem State.setFld_cip (f : Fld) (v : Nat) : (s.setFld f v).cip = s.cip := rfl
@[simp] theorem State.setFld_fuses (f : Fld) (v : Nat) : (s.setFld f v).fuses = s.fuses := rfl
@[simp] theorem State.setFld_shadow (f : Fld) (v : Nat) : (s.setFld f v).shadow = s.shadow := rfl
@[simp] theorem State.setFld_lnk (f : Fld) (v : Nat) : (s.setFld f v).lnk = s.lnk := rfl
@[simp] theorem State.setFld_air (f : Fld) (v : Nat) : (s.setFld f v).air = s.air := rfl
@[simp] theorem State.setFld_wir (f : Fld) (v : Nat) : (s.setFld f v).wir = s.wir := rfl
@[simp] theorem State.setFld_line (f : Fld) (v : Nat) : (s.setFld f v).line = s.line := rfl
@[simp] theorem State.setFld_sns (f : Fld) (v : Nat) : (s.setFld f v).sns = s.sns := rfl
@[simp] theorem State.setFld_mesh (f : Fld) (v : Nat) : (s.setFld f v).mesh = s.mesh := rfl
@[simp] theorem State.setFld_queues (f : Fld) (v : Nat) : (s.setFld f v).queues = s.queues := rfl
@[simp] theorem State.setFld_front (f : Fld) (v : Nat) : (s.setFld f v).front = s.front := rfl
@[simp] theorem State.setFld_pcie (f : Fld) (v : Nat) : (s.setFld f v).pcie = s.pcie := rfl
@[simp] theorem State.setFld_spiLast (f : Fld) (v : Nat) : (s.setFld f v).spiLast = s.spiLast := rfl
@[simp] theorem State.setFld_flrWaits (f : Fld) (v : Nat) : (s.setFld f v).flrWaits = s.flrWaits := rfl
@[simp] theorem State.setFld_flrDue (f : Fld) (v : Nat) : (s.setFld f v).flrDue = s.flrDue := rfl
@[simp] theorem State.setFld_boot (f : Fld) (v : Nat) : (s.setFld f v).boot = s.boot := rfl
@[simp] theorem State.setFld_tap (f : Fld) (v : Nat) : (s.setFld f v).tap = s.tap := rfl
@[simp] theorem State.setFld_posted (f : Fld) (v : Nat) : (s.setFld f v).posted = s.posted := rfl
@[simp] theorem State.setFld_lostPosted (f : Fld) (v : Nat) : (s.setFld f v).lostPosted = s.lostPosted := rfl
@[simp] theorem State.setFld_sortHeld (f : Fld) (v : Nat) : (s.setFld f v).sortHeld = s.sortHeld := rfl
@[simp] theorem State.setFld_trimSets (f : Fld) (v : Nat) : (s.setFld f v).trimSets = s.trimSets := rfl
@[simp] theorem State.setFld_hostReads (f : Fld) (v : Nat) : (s.setFld f v).hostReads = s.hostReads := rfl

/-! ### incFld -/

@[simp] theorem State.incFld_pending (f : Fld) (n : Nat) : (s.incFld f n).pending = s.pending := rfl
@[simp] theorem State.incFld_free (f : Fld) (n : Nat) : (s.incFld f n).free = s.free := rfl
@[simp] theorem State.incFld_mem (f : Fld) (n : Nat) : (s.incFld f n).mem = s.mem := rfl
@[simp] theorem State.incFld_tags (f : Fld) (n : Nat) : (s.incFld f n).tags = s.tags := rfl
@[simp] theorem State.incFld_marks (f : Fld) (n : Nat) : (s.incFld f n).marks = s.marks := rfl
@[simp] theorem State.incFld_pulses (f : Fld) (n : Nat) : (s.incFld f n).pulses = s.pulses := rfl
@[simp] theorem State.incFld_arriving (f : Fld) (n : Nat) : (s.incFld f n).arriving = s.arriving := rfl
@[simp] theorem State.incFld_readData (f : Fld) (n : Nat) : (s.incFld f n).readData = s.readData := rfl
@[simp] theorem State.incFld_zones (f : Fld) (n : Nat) : (s.incFld f n).zones = s.zones := rfl
@[simp] theorem State.incFld_fresh (f : Fld) (n : Nat) : (s.incFld f n).fresh = s.fresh := rfl
@[simp] theorem State.incFld_aonCycles (f : Fld) (n : Nat) : (s.incFld f n).aonCycles = s.aonCycles := rfl
@[simp] theorem State.incFld_evtCycles (f : Fld) (n : Nat) : (s.incFld f n).evtCycles = s.evtCycles := rfl
@[simp] theorem State.incFld_held (f : Fld) (n : Nat) : (s.incFld f n).held = s.held := rfl
@[simp] theorem State.incFld_weather (f : Fld) (n : Nat) : (s.incFld f n).weather = s.weather := rfl
@[simp] theorem State.incFld_waiting (f : Fld) (n : Nat) : (s.incFld f n).waiting = s.waiting := rfl
@[simp] theorem State.incFld_target (f : Fld) (n : Nat) : (s.incFld f n).target = s.target := rfl
@[simp] theorem State.incFld_wakeDue (f : Fld) (n : Nat) : (s.incFld f n).wakeDue = s.wakeDue := rfl
@[simp] theorem State.incFld_rtc (f : Fld) (n : Nat) : (s.incFld f n).rtc = s.rtc := rfl
@[simp] theorem State.incFld_log (f : Fld) (n : Nat) : (s.incFld f n).log = s.log := rfl
@[simp] theorem State.incFld_disTicks (f : Fld) (n : Nat) : (s.incFld f n).disTicks = s.disTicks := rfl
@[simp] theorem State.incFld_flight (f : Fld) (n : Nat) : (s.incFld f n).flight = s.flight := rfl
@[simp] theorem State.incFld_mail (f : Fld) (n : Nat) : (s.incFld f n).mail = s.mail := rfl
@[simp] theorem State.incFld_sortRaw (f : Fld) (n : Nat) : (s.incFld f n).sortRaw = s.sortRaw := rfl
@[simp] theorem State.incFld_swStart (f : Fld) (n : Nat) : (s.incFld f n).swStart = s.swStart := rfl
@[simp] theorem State.incFld_msix (f : Fld) (n : Nat) : (s.incFld f n).msix = s.msix := rfl
@[simp] theorem State.incFld_msixPend (f : Fld) (n : Nat) : (s.incFld f n).msixPend = s.msixPend := rfl
@[simp] theorem State.incFld_msixEnable (f : Fld) (n : Nat) : (s.incFld f n).msixEnable = s.msixEnable := rfl
@[simp] theorem State.incFld_msixMaskAll (f : Fld) (n : Nat) : (s.incFld f n).msixMaskAll = s.msixMaskAll := rfl
@[simp] theorem State.incFld_messages (f : Fld) (n : Nat) : (s.incFld f n).messages = s.messages := rfl
@[simp] theorem State.incFld_cores (f : Fld) (n : Nat) : (s.incFld f n).cores = s.cores := rfl
@[simp] theorem State.incFld_tiles (f : Fld) (n : Nat) : (s.incFld f n).tiles = s.tiles := rfl
@[simp] theorem State.incFld_tallies (f : Fld) (n : Nat) : (s.incFld f n).tallies = s.tallies := rfl
@[simp] theorem State.incFld_movers (f : Fld) (n : Nat) : (s.incFld f n).movers = s.movers := rfl
@[simp] theorem State.incFld_hostWrites (f : Fld) (n : Nat) : (s.incFld f n).hostWrites = s.hostWrites := rfl
@[simp] theorem State.incFld_dfas (f : Fld) (n : Nat) : (s.incFld f n).dfas = s.dfas := rfl
@[simp] theorem State.incFld_nextCtx (f : Fld) (n : Nat) : (s.incFld f n).nextCtx = s.nextCtx := rfl
@[simp] theorem State.incFld_pst (f : Fld) (n : Nat) : (s.incFld f n).pst = s.pst := rfl
@[simp] theorem State.incFld_pstPages (f : Fld) (n : Nat) : (s.incFld f n).pstPages = s.pstPages := rfl
@[simp] theorem State.incFld_pstOp (f : Fld) (n : Nat) : (s.incFld f n).pstOp = s.pstOp := rfl
@[simp] theorem State.incFld_cip (f : Fld) (n : Nat) : (s.incFld f n).cip = s.cip := rfl
@[simp] theorem State.incFld_fuses (f : Fld) (n : Nat) : (s.incFld f n).fuses = s.fuses := rfl
@[simp] theorem State.incFld_shadow (f : Fld) (n : Nat) : (s.incFld f n).shadow = s.shadow := rfl
@[simp] theorem State.incFld_lnk (f : Fld) (n : Nat) : (s.incFld f n).lnk = s.lnk := rfl
@[simp] theorem State.incFld_air (f : Fld) (n : Nat) : (s.incFld f n).air = s.air := rfl
@[simp] theorem State.incFld_wir (f : Fld) (n : Nat) : (s.incFld f n).wir = s.wir := rfl
@[simp] theorem State.incFld_line (f : Fld) (n : Nat) : (s.incFld f n).line = s.line := rfl
@[simp] theorem State.incFld_sns (f : Fld) (n : Nat) : (s.incFld f n).sns = s.sns := rfl
@[simp] theorem State.incFld_mesh (f : Fld) (n : Nat) : (s.incFld f n).mesh = s.mesh := rfl
@[simp] theorem State.incFld_queues (f : Fld) (n : Nat) : (s.incFld f n).queues = s.queues := rfl
@[simp] theorem State.incFld_front (f : Fld) (n : Nat) : (s.incFld f n).front = s.front := rfl
@[simp] theorem State.incFld_pcie (f : Fld) (n : Nat) : (s.incFld f n).pcie = s.pcie := rfl
@[simp] theorem State.incFld_spiLast (f : Fld) (n : Nat) : (s.incFld f n).spiLast = s.spiLast := rfl
@[simp] theorem State.incFld_flrWaits (f : Fld) (n : Nat) : (s.incFld f n).flrWaits = s.flrWaits := rfl
@[simp] theorem State.incFld_flrDue (f : Fld) (n : Nat) : (s.incFld f n).flrDue = s.flrDue := rfl
@[simp] theorem State.incFld_boot (f : Fld) (n : Nat) : (s.incFld f n).boot = s.boot := rfl
@[simp] theorem State.incFld_tap (f : Fld) (n : Nat) : (s.incFld f n).tap = s.tap := rfl
@[simp] theorem State.incFld_posted (f : Fld) (n : Nat) : (s.incFld f n).posted = s.posted := rfl
@[simp] theorem State.incFld_lostPosted (f : Fld) (n : Nat) : (s.incFld f n).lostPosted = s.lostPosted := rfl
@[simp] theorem State.incFld_sortHeld (f : Fld) (n : Nat) : (s.incFld f n).sortHeld = s.sortHeld := rfl
@[simp] theorem State.incFld_trimSets (f : Fld) (n : Nat) : (s.incFld f n).trimSets = s.trimSets := rfl
@[simp] theorem State.incFld_hostReads (f : Fld) (n : Nat) : (s.incFld f n).hostReads = s.hostReads := rfl

/-! ### setFbit -/

@[simp] theorem State.setFbit_pending (f : Fld) (i : Nat) (b : Bool) : (s.setFbit f i b).pending = s.pending := rfl
@[simp] theorem State.setFbit_free (f : Fld) (i : Nat) (b : Bool) : (s.setFbit f i b).free = s.free := rfl
@[simp] theorem State.setFbit_mem (f : Fld) (i : Nat) (b : Bool) : (s.setFbit f i b).mem = s.mem := rfl
@[simp] theorem State.setFbit_tags (f : Fld) (i : Nat) (b : Bool) : (s.setFbit f i b).tags = s.tags := rfl
@[simp] theorem State.setFbit_marks (f : Fld) (i : Nat) (b : Bool) : (s.setFbit f i b).marks = s.marks := rfl
@[simp] theorem State.setFbit_pulses (f : Fld) (i : Nat) (b : Bool) : (s.setFbit f i b).pulses = s.pulses := rfl
@[simp] theorem State.setFbit_arriving (f : Fld) (i : Nat) (b : Bool) : (s.setFbit f i b).arriving = s.arriving := rfl
@[simp] theorem State.setFbit_readData (f : Fld) (i : Nat) (b : Bool) : (s.setFbit f i b).readData = s.readData := rfl
@[simp] theorem State.setFbit_zones (f : Fld) (i : Nat) (b : Bool) : (s.setFbit f i b).zones = s.zones := rfl
@[simp] theorem State.setFbit_fresh (f : Fld) (i : Nat) (b : Bool) : (s.setFbit f i b).fresh = s.fresh := rfl
@[simp] theorem State.setFbit_aonCycles (f : Fld) (i : Nat) (b : Bool) : (s.setFbit f i b).aonCycles = s.aonCycles := rfl
@[simp] theorem State.setFbit_evtCycles (f : Fld) (i : Nat) (b : Bool) : (s.setFbit f i b).evtCycles = s.evtCycles := rfl
@[simp] theorem State.setFbit_held (f : Fld) (i : Nat) (b : Bool) : (s.setFbit f i b).held = s.held := rfl
@[simp] theorem State.setFbit_weather (f : Fld) (i : Nat) (b : Bool) : (s.setFbit f i b).weather = s.weather := rfl
@[simp] theorem State.setFbit_waiting (f : Fld) (i : Nat) (b : Bool) : (s.setFbit f i b).waiting = s.waiting := rfl
@[simp] theorem State.setFbit_target (f : Fld) (i : Nat) (b : Bool) : (s.setFbit f i b).target = s.target := rfl
@[simp] theorem State.setFbit_wakeDue (f : Fld) (i : Nat) (b : Bool) : (s.setFbit f i b).wakeDue = s.wakeDue := rfl
@[simp] theorem State.setFbit_rtc (f : Fld) (i : Nat) (b : Bool) : (s.setFbit f i b).rtc = s.rtc := rfl
@[simp] theorem State.setFbit_log (f : Fld) (i : Nat) (b : Bool) : (s.setFbit f i b).log = s.log := rfl
@[simp] theorem State.setFbit_disTicks (f : Fld) (i : Nat) (b : Bool) : (s.setFbit f i b).disTicks = s.disTicks := rfl
@[simp] theorem State.setFbit_flight (f : Fld) (i : Nat) (b : Bool) : (s.setFbit f i b).flight = s.flight := rfl
@[simp] theorem State.setFbit_mail (f : Fld) (i : Nat) (b : Bool) : (s.setFbit f i b).mail = s.mail := rfl
@[simp] theorem State.setFbit_sortRaw (f : Fld) (i : Nat) (b : Bool) : (s.setFbit f i b).sortRaw = s.sortRaw := rfl
@[simp] theorem State.setFbit_swStart (f : Fld) (i : Nat) (b : Bool) : (s.setFbit f i b).swStart = s.swStart := rfl
@[simp] theorem State.setFbit_msix (f : Fld) (i : Nat) (b : Bool) : (s.setFbit f i b).msix = s.msix := rfl
@[simp] theorem State.setFbit_msixPend (f : Fld) (i : Nat) (b : Bool) : (s.setFbit f i b).msixPend = s.msixPend := rfl
@[simp] theorem State.setFbit_msixEnable (f : Fld) (i : Nat) (b : Bool) : (s.setFbit f i b).msixEnable = s.msixEnable := rfl
@[simp] theorem State.setFbit_msixMaskAll (f : Fld) (i : Nat) (b : Bool) : (s.setFbit f i b).msixMaskAll = s.msixMaskAll := rfl
@[simp] theorem State.setFbit_messages (f : Fld) (i : Nat) (b : Bool) : (s.setFbit f i b).messages = s.messages := rfl
@[simp] theorem State.setFbit_cores (f : Fld) (i : Nat) (b : Bool) : (s.setFbit f i b).cores = s.cores := rfl
@[simp] theorem State.setFbit_tiles (f : Fld) (i : Nat) (b : Bool) : (s.setFbit f i b).tiles = s.tiles := rfl
@[simp] theorem State.setFbit_tallies (f : Fld) (i : Nat) (b : Bool) : (s.setFbit f i b).tallies = s.tallies := rfl
@[simp] theorem State.setFbit_movers (f : Fld) (i : Nat) (b : Bool) : (s.setFbit f i b).movers = s.movers := rfl
@[simp] theorem State.setFbit_hostWrites (f : Fld) (i : Nat) (b : Bool) : (s.setFbit f i b).hostWrites = s.hostWrites := rfl
@[simp] theorem State.setFbit_dfas (f : Fld) (i : Nat) (b : Bool) : (s.setFbit f i b).dfas = s.dfas := rfl
@[simp] theorem State.setFbit_nextCtx (f : Fld) (i : Nat) (b : Bool) : (s.setFbit f i b).nextCtx = s.nextCtx := rfl
@[simp] theorem State.setFbit_pst (f : Fld) (i : Nat) (b : Bool) : (s.setFbit f i b).pst = s.pst := rfl
@[simp] theorem State.setFbit_pstPages (f : Fld) (i : Nat) (b : Bool) : (s.setFbit f i b).pstPages = s.pstPages := rfl
@[simp] theorem State.setFbit_pstOp (f : Fld) (i : Nat) (b : Bool) : (s.setFbit f i b).pstOp = s.pstOp := rfl
@[simp] theorem State.setFbit_cip (f : Fld) (i : Nat) (b : Bool) : (s.setFbit f i b).cip = s.cip := rfl
@[simp] theorem State.setFbit_fuses (f : Fld) (i : Nat) (b : Bool) : (s.setFbit f i b).fuses = s.fuses := rfl
@[simp] theorem State.setFbit_shadow (f : Fld) (i : Nat) (b : Bool) : (s.setFbit f i b).shadow = s.shadow := rfl
@[simp] theorem State.setFbit_lnk (f : Fld) (i : Nat) (b : Bool) : (s.setFbit f i b).lnk = s.lnk := rfl
@[simp] theorem State.setFbit_air (f : Fld) (i : Nat) (b : Bool) : (s.setFbit f i b).air = s.air := rfl
@[simp] theorem State.setFbit_wir (f : Fld) (i : Nat) (b : Bool) : (s.setFbit f i b).wir = s.wir := rfl
@[simp] theorem State.setFbit_line (f : Fld) (i : Nat) (b : Bool) : (s.setFbit f i b).line = s.line := rfl
@[simp] theorem State.setFbit_sns (f : Fld) (i : Nat) (b : Bool) : (s.setFbit f i b).sns = s.sns := rfl
@[simp] theorem State.setFbit_mesh (f : Fld) (i : Nat) (b : Bool) : (s.setFbit f i b).mesh = s.mesh := rfl
@[simp] theorem State.setFbit_queues (f : Fld) (i : Nat) (b : Bool) : (s.setFbit f i b).queues = s.queues := rfl
@[simp] theorem State.setFbit_front (f : Fld) (i : Nat) (b : Bool) : (s.setFbit f i b).front = s.front := rfl
@[simp] theorem State.setFbit_pcie (f : Fld) (i : Nat) (b : Bool) : (s.setFbit f i b).pcie = s.pcie := rfl
@[simp] theorem State.setFbit_spiLast (f : Fld) (i : Nat) (b : Bool) : (s.setFbit f i b).spiLast = s.spiLast := rfl
@[simp] theorem State.setFbit_flrWaits (f : Fld) (i : Nat) (b : Bool) : (s.setFbit f i b).flrWaits = s.flrWaits := rfl
@[simp] theorem State.setFbit_flrDue (f : Fld) (i : Nat) (b : Bool) : (s.setFbit f i b).flrDue = s.flrDue := rfl
@[simp] theorem State.setFbit_boot (f : Fld) (i : Nat) (b : Bool) : (s.setFbit f i b).boot = s.boot := rfl
@[simp] theorem State.setFbit_tap (f : Fld) (i : Nat) (b : Bool) : (s.setFbit f i b).tap = s.tap := rfl
@[simp] theorem State.setFbit_posted (f : Fld) (i : Nat) (b : Bool) : (s.setFbit f i b).posted = s.posted := rfl
@[simp] theorem State.setFbit_lostPosted (f : Fld) (i : Nat) (b : Bool) : (s.setFbit f i b).lostPosted = s.lostPosted := rfl
@[simp] theorem State.setFbit_sortHeld (f : Fld) (i : Nat) (b : Bool) : (s.setFbit f i b).sortHeld = s.sortHeld := rfl
@[simp] theorem State.setFbit_trimSets (f : Fld) (i : Nat) (b : Bool) : (s.setFbit f i b).trimSets = s.trimSets := rfl
@[simp] theorem State.setFbit_hostReads (f : Fld) (i : Nat) (b : Bool) : (s.setFbit f i b).hostReads = s.hostReads := rfl

/-! ### setBytes -/

@[simp] theorem State.setBytes_pending (a : Nat) (bs : List Byte) : (s.setBytes a bs).pending = s.pending := rfl
@[simp] theorem State.setBytes_free (a : Nat) (bs : List Byte) : (s.setBytes a bs).free = s.free := rfl
@[simp] theorem State.setBytes_regs (a : Nat) (bs : List Byte) : (s.setBytes a bs).regs = s.regs := rfl
@[simp] theorem State.setBytes_tags (a : Nat) (bs : List Byte) : (s.setBytes a bs).tags = s.tags := rfl
@[simp] theorem State.setBytes_marks (a : Nat) (bs : List Byte) : (s.setBytes a bs).marks = s.marks := rfl
@[simp] theorem State.setBytes_pulses (a : Nat) (bs : List Byte) : (s.setBytes a bs).pulses = s.pulses := rfl
@[simp] theorem State.setBytes_arriving (a : Nat) (bs : List Byte) : (s.setBytes a bs).arriving = s.arriving := rfl
@[simp] theorem State.setBytes_readData (a : Nat) (bs : List Byte) : (s.setBytes a bs).readData = s.readData := rfl
@[simp] theorem State.setBytes_zones (a : Nat) (bs : List Byte) : (s.setBytes a bs).zones = s.zones := rfl
@[simp] theorem State.setBytes_fresh (a : Nat) (bs : List Byte) : (s.setBytes a bs).fresh = s.fresh := rfl
@[simp] theorem State.setBytes_aonCycles (a : Nat) (bs : List Byte) : (s.setBytes a bs).aonCycles = s.aonCycles := rfl
@[simp] theorem State.setBytes_evtCycles (a : Nat) (bs : List Byte) : (s.setBytes a bs).evtCycles = s.evtCycles := rfl
@[simp] theorem State.setBytes_held (a : Nat) (bs : List Byte) : (s.setBytes a bs).held = s.held := rfl
@[simp] theorem State.setBytes_weather (a : Nat) (bs : List Byte) : (s.setBytes a bs).weather = s.weather := rfl
@[simp] theorem State.setBytes_waiting (a : Nat) (bs : List Byte) : (s.setBytes a bs).waiting = s.waiting := rfl
@[simp] theorem State.setBytes_target (a : Nat) (bs : List Byte) : (s.setBytes a bs).target = s.target := rfl
@[simp] theorem State.setBytes_wakeDue (a : Nat) (bs : List Byte) : (s.setBytes a bs).wakeDue = s.wakeDue := rfl
@[simp] theorem State.setBytes_rtc (a : Nat) (bs : List Byte) : (s.setBytes a bs).rtc = s.rtc := rfl
@[simp] theorem State.setBytes_log (a : Nat) (bs : List Byte) : (s.setBytes a bs).log = s.log := rfl
@[simp] theorem State.setBytes_disTicks (a : Nat) (bs : List Byte) : (s.setBytes a bs).disTicks = s.disTicks := rfl
@[simp] theorem State.setBytes_flight (a : Nat) (bs : List Byte) : (s.setBytes a bs).flight = s.flight := rfl
@[simp] theorem State.setBytes_mail (a : Nat) (bs : List Byte) : (s.setBytes a bs).mail = s.mail := rfl
@[simp] theorem State.setBytes_sortRaw (a : Nat) (bs : List Byte) : (s.setBytes a bs).sortRaw = s.sortRaw := rfl
@[simp] theorem State.setBytes_swStart (a : Nat) (bs : List Byte) : (s.setBytes a bs).swStart = s.swStart := rfl
@[simp] theorem State.setBytes_msix (a : Nat) (bs : List Byte) : (s.setBytes a bs).msix = s.msix := rfl
@[simp] theorem State.setBytes_msixPend (a : Nat) (bs : List Byte) : (s.setBytes a bs).msixPend = s.msixPend := rfl
@[simp] theorem State.setBytes_msixEnable (a : Nat) (bs : List Byte) : (s.setBytes a bs).msixEnable = s.msixEnable := rfl
@[simp] theorem State.setBytes_msixMaskAll (a : Nat) (bs : List Byte) : (s.setBytes a bs).msixMaskAll = s.msixMaskAll := rfl
@[simp] theorem State.setBytes_messages (a : Nat) (bs : List Byte) : (s.setBytes a bs).messages = s.messages := rfl
@[simp] theorem State.setBytes_cores (a : Nat) (bs : List Byte) : (s.setBytes a bs).cores = s.cores := rfl
@[simp] theorem State.setBytes_tiles (a : Nat) (bs : List Byte) : (s.setBytes a bs).tiles = s.tiles := rfl
@[simp] theorem State.setBytes_tallies (a : Nat) (bs : List Byte) : (s.setBytes a bs).tallies = s.tallies := rfl
@[simp] theorem State.setBytes_movers (a : Nat) (bs : List Byte) : (s.setBytes a bs).movers = s.movers := rfl
@[simp] theorem State.setBytes_hostWrites (a : Nat) (bs : List Byte) : (s.setBytes a bs).hostWrites = s.hostWrites := rfl
@[simp] theorem State.setBytes_dfas (a : Nat) (bs : List Byte) : (s.setBytes a bs).dfas = s.dfas := rfl
@[simp] theorem State.setBytes_nextCtx (a : Nat) (bs : List Byte) : (s.setBytes a bs).nextCtx = s.nextCtx := rfl
@[simp] theorem State.setBytes_pst (a : Nat) (bs : List Byte) : (s.setBytes a bs).pst = s.pst := rfl
@[simp] theorem State.setBytes_pstPages (a : Nat) (bs : List Byte) : (s.setBytes a bs).pstPages = s.pstPages := rfl
@[simp] theorem State.setBytes_pstOp (a : Nat) (bs : List Byte) : (s.setBytes a bs).pstOp = s.pstOp := rfl
@[simp] theorem State.setBytes_cip (a : Nat) (bs : List Byte) : (s.setBytes a bs).cip = s.cip := rfl
@[simp] theorem State.setBytes_fuses (a : Nat) (bs : List Byte) : (s.setBytes a bs).fuses = s.fuses := rfl
@[simp] theorem State.setBytes_shadow (a : Nat) (bs : List Byte) : (s.setBytes a bs).shadow = s.shadow := rfl
@[simp] theorem State.setBytes_lnk (a : Nat) (bs : List Byte) : (s.setBytes a bs).lnk = s.lnk := rfl
@[simp] theorem State.setBytes_air (a : Nat) (bs : List Byte) : (s.setBytes a bs).air = s.air := rfl
@[simp] theorem State.setBytes_wir (a : Nat) (bs : List Byte) : (s.setBytes a bs).wir = s.wir := rfl
@[simp] theorem State.setBytes_line (a : Nat) (bs : List Byte) : (s.setBytes a bs).line = s.line := rfl
@[simp] theorem State.setBytes_sns (a : Nat) (bs : List Byte) : (s.setBytes a bs).sns = s.sns := rfl
@[simp] theorem State.setBytes_mesh (a : Nat) (bs : List Byte) : (s.setBytes a bs).mesh = s.mesh := rfl
@[simp] theorem State.setBytes_queues (a : Nat) (bs : List Byte) : (s.setBytes a bs).queues = s.queues := rfl
@[simp] theorem State.setBytes_front (a : Nat) (bs : List Byte) : (s.setBytes a bs).front = s.front := rfl
@[simp] theorem State.setBytes_pcie (a : Nat) (bs : List Byte) : (s.setBytes a bs).pcie = s.pcie := rfl
@[simp] theorem State.setBytes_spiLast (a : Nat) (bs : List Byte) : (s.setBytes a bs).spiLast = s.spiLast := rfl
@[simp] theorem State.setBytes_flrWaits (a : Nat) (bs : List Byte) : (s.setBytes a bs).flrWaits = s.flrWaits := rfl
@[simp] theorem State.setBytes_flrDue (a : Nat) (bs : List Byte) : (s.setBytes a bs).flrDue = s.flrDue := rfl
@[simp] theorem State.setBytes_boot (a : Nat) (bs : List Byte) : (s.setBytes a bs).boot = s.boot := rfl
@[simp] theorem State.setBytes_tap (a : Nat) (bs : List Byte) : (s.setBytes a bs).tap = s.tap := rfl
@[simp] theorem State.setBytes_posted (a : Nat) (bs : List Byte) : (s.setBytes a bs).posted = s.posted := rfl
@[simp] theorem State.setBytes_lostPosted (a : Nat) (bs : List Byte) : (s.setBytes a bs).lostPosted = s.lostPosted := rfl
@[simp] theorem State.setBytes_sortHeld (a : Nat) (bs : List Byte) : (s.setBytes a bs).sortHeld = s.sortHeld := rfl
@[simp] theorem State.setBytes_trimSets (a : Nat) (bs : List Byte) : (s.setBytes a bs).trimSets = s.trimSets := rfl
@[simp] theorem State.setBytes_hostReads (a : Nat) (bs : List Byte) : (s.setBytes a bs).hostReads = s.hostReads := rfl

/-! ### setTag -/

@[simp] theorem State.setTag_pending (c r : Nat) (b : Bool) : (s.setTag c r b).pending = s.pending := rfl
@[simp] theorem State.setTag_free (c r : Nat) (b : Bool) : (s.setTag c r b).free = s.free := rfl
@[simp] theorem State.setTag_regs (c r : Nat) (b : Bool) : (s.setTag c r b).regs = s.regs := rfl
@[simp] theorem State.setTag_mem (c r : Nat) (b : Bool) : (s.setTag c r b).mem = s.mem := rfl
@[simp] theorem State.setTag_marks (c r : Nat) (b : Bool) : (s.setTag c r b).marks = s.marks := rfl
@[simp] theorem State.setTag_pulses (c r : Nat) (b : Bool) : (s.setTag c r b).pulses = s.pulses := rfl
@[simp] theorem State.setTag_arriving (c r : Nat) (b : Bool) : (s.setTag c r b).arriving = s.arriving := rfl
@[simp] theorem State.setTag_readData (c r : Nat) (b : Bool) : (s.setTag c r b).readData = s.readData := rfl
@[simp] theorem State.setTag_zones (c r : Nat) (b : Bool) : (s.setTag c r b).zones = s.zones := rfl
@[simp] theorem State.setTag_fresh (c r : Nat) (b : Bool) : (s.setTag c r b).fresh = s.fresh := rfl
@[simp] theorem State.setTag_aonCycles (c r : Nat) (b : Bool) : (s.setTag c r b).aonCycles = s.aonCycles := rfl
@[simp] theorem State.setTag_evtCycles (c r : Nat) (b : Bool) : (s.setTag c r b).evtCycles = s.evtCycles := rfl
@[simp] theorem State.setTag_held (c r : Nat) (b : Bool) : (s.setTag c r b).held = s.held := rfl
@[simp] theorem State.setTag_weather (c r : Nat) (b : Bool) : (s.setTag c r b).weather = s.weather := rfl
@[simp] theorem State.setTag_waiting (c r : Nat) (b : Bool) : (s.setTag c r b).waiting = s.waiting := rfl
@[simp] theorem State.setTag_target (c r : Nat) (b : Bool) : (s.setTag c r b).target = s.target := rfl
@[simp] theorem State.setTag_wakeDue (c r : Nat) (b : Bool) : (s.setTag c r b).wakeDue = s.wakeDue := rfl
@[simp] theorem State.setTag_rtc (c r : Nat) (b : Bool) : (s.setTag c r b).rtc = s.rtc := rfl
@[simp] theorem State.setTag_log (c r : Nat) (b : Bool) : (s.setTag c r b).log = s.log := rfl
@[simp] theorem State.setTag_disTicks (c r : Nat) (b : Bool) : (s.setTag c r b).disTicks = s.disTicks := rfl
@[simp] theorem State.setTag_flight (c r : Nat) (b : Bool) : (s.setTag c r b).flight = s.flight := rfl
@[simp] theorem State.setTag_mail (c r : Nat) (b : Bool) : (s.setTag c r b).mail = s.mail := rfl
@[simp] theorem State.setTag_sortRaw (c r : Nat) (b : Bool) : (s.setTag c r b).sortRaw = s.sortRaw := rfl
@[simp] theorem State.setTag_swStart (c r : Nat) (b : Bool) : (s.setTag c r b).swStart = s.swStart := rfl
@[simp] theorem State.setTag_msix (c r : Nat) (b : Bool) : (s.setTag c r b).msix = s.msix := rfl
@[simp] theorem State.setTag_msixPend (c r : Nat) (b : Bool) : (s.setTag c r b).msixPend = s.msixPend := rfl
@[simp] theorem State.setTag_msixEnable (c r : Nat) (b : Bool) : (s.setTag c r b).msixEnable = s.msixEnable := rfl
@[simp] theorem State.setTag_msixMaskAll (c r : Nat) (b : Bool) : (s.setTag c r b).msixMaskAll = s.msixMaskAll := rfl
@[simp] theorem State.setTag_messages (c r : Nat) (b : Bool) : (s.setTag c r b).messages = s.messages := rfl
@[simp] theorem State.setTag_cores (c r : Nat) (b : Bool) : (s.setTag c r b).cores = s.cores := rfl
@[simp] theorem State.setTag_tiles (c r : Nat) (b : Bool) : (s.setTag c r b).tiles = s.tiles := rfl
@[simp] theorem State.setTag_tallies (c r : Nat) (b : Bool) : (s.setTag c r b).tallies = s.tallies := rfl
@[simp] theorem State.setTag_movers (c r : Nat) (b : Bool) : (s.setTag c r b).movers = s.movers := rfl
@[simp] theorem State.setTag_hostWrites (c r : Nat) (b : Bool) : (s.setTag c r b).hostWrites = s.hostWrites := rfl
@[simp] theorem State.setTag_dfas (c r : Nat) (b : Bool) : (s.setTag c r b).dfas = s.dfas := rfl
@[simp] theorem State.setTag_nextCtx (c r : Nat) (b : Bool) : (s.setTag c r b).nextCtx = s.nextCtx := rfl
@[simp] theorem State.setTag_pst (c r : Nat) (b : Bool) : (s.setTag c r b).pst = s.pst := rfl
@[simp] theorem State.setTag_pstPages (c r : Nat) (b : Bool) : (s.setTag c r b).pstPages = s.pstPages := rfl
@[simp] theorem State.setTag_pstOp (c r : Nat) (b : Bool) : (s.setTag c r b).pstOp = s.pstOp := rfl
@[simp] theorem State.setTag_cip (c r : Nat) (b : Bool) : (s.setTag c r b).cip = s.cip := rfl
@[simp] theorem State.setTag_fuses (c r : Nat) (b : Bool) : (s.setTag c r b).fuses = s.fuses := rfl
@[simp] theorem State.setTag_shadow (c r : Nat) (b : Bool) : (s.setTag c r b).shadow = s.shadow := rfl
@[simp] theorem State.setTag_lnk (c r : Nat) (b : Bool) : (s.setTag c r b).lnk = s.lnk := rfl
@[simp] theorem State.setTag_air (c r : Nat) (b : Bool) : (s.setTag c r b).air = s.air := rfl
@[simp] theorem State.setTag_wir (c r : Nat) (b : Bool) : (s.setTag c r b).wir = s.wir := rfl
@[simp] theorem State.setTag_line (c r : Nat) (b : Bool) : (s.setTag c r b).line = s.line := rfl
@[simp] theorem State.setTag_sns (c r : Nat) (b : Bool) : (s.setTag c r b).sns = s.sns := rfl
@[simp] theorem State.setTag_mesh (c r : Nat) (b : Bool) : (s.setTag c r b).mesh = s.mesh := rfl
@[simp] theorem State.setTag_queues (c r : Nat) (b : Bool) : (s.setTag c r b).queues = s.queues := rfl
@[simp] theorem State.setTag_front (c r : Nat) (b : Bool) : (s.setTag c r b).front = s.front := rfl
@[simp] theorem State.setTag_pcie (c r : Nat) (b : Bool) : (s.setTag c r b).pcie = s.pcie := rfl
@[simp] theorem State.setTag_spiLast (c r : Nat) (b : Bool) : (s.setTag c r b).spiLast = s.spiLast := rfl
@[simp] theorem State.setTag_flrWaits (c r : Nat) (b : Bool) : (s.setTag c r b).flrWaits = s.flrWaits := rfl
@[simp] theorem State.setTag_flrDue (c r : Nat) (b : Bool) : (s.setTag c r b).flrDue = s.flrDue := rfl
@[simp] theorem State.setTag_boot (c r : Nat) (b : Bool) : (s.setTag c r b).boot = s.boot := rfl
@[simp] theorem State.setTag_tap (c r : Nat) (b : Bool) : (s.setTag c r b).tap = s.tap := rfl
@[simp] theorem State.setTag_posted (c r : Nat) (b : Bool) : (s.setTag c r b).posted = s.posted := rfl
@[simp] theorem State.setTag_lostPosted (c r : Nat) (b : Bool) : (s.setTag c r b).lostPosted = s.lostPosted := rfl
@[simp] theorem State.setTag_sortHeld (c r : Nat) (b : Bool) : (s.setTag c r b).sortHeld = s.sortHeld := rfl
@[simp] theorem State.setTag_trimSets (c r : Nat) (b : Bool) : (s.setTag c r b).trimSets = s.trimSets := rfl
@[simp] theorem State.setTag_hostReads (c r : Nat) (b : Bool) : (s.setTag c r b).hostReads = s.hostReads := rfl

/-! ### setFresh -/

@[simp] theorem State.setFresh_pending (c : Nat) (l : List Fresh) : (s.setFresh c l).pending = s.pending := rfl
@[simp] theorem State.setFresh_free (c : Nat) (l : List Fresh) : (s.setFresh c l).free = s.free := rfl
@[simp] theorem State.setFresh_regs (c : Nat) (l : List Fresh) : (s.setFresh c l).regs = s.regs := rfl
@[simp] theorem State.setFresh_mem (c : Nat) (l : List Fresh) : (s.setFresh c l).mem = s.mem := rfl
@[simp] theorem State.setFresh_tags (c : Nat) (l : List Fresh) : (s.setFresh c l).tags = s.tags := rfl
@[simp] theorem State.setFresh_marks (c : Nat) (l : List Fresh) : (s.setFresh c l).marks = s.marks := rfl
@[simp] theorem State.setFresh_pulses (c : Nat) (l : List Fresh) : (s.setFresh c l).pulses = s.pulses := rfl
@[simp] theorem State.setFresh_arriving (c : Nat) (l : List Fresh) : (s.setFresh c l).arriving = s.arriving := rfl
@[simp] theorem State.setFresh_readData (c : Nat) (l : List Fresh) : (s.setFresh c l).readData = s.readData := rfl
@[simp] theorem State.setFresh_zones (c : Nat) (l : List Fresh) : (s.setFresh c l).zones = s.zones := rfl
@[simp] theorem State.setFresh_aonCycles (c : Nat) (l : List Fresh) : (s.setFresh c l).aonCycles = s.aonCycles := rfl
@[simp] theorem State.setFresh_evtCycles (c : Nat) (l : List Fresh) : (s.setFresh c l).evtCycles = s.evtCycles := rfl
@[simp] theorem State.setFresh_held (c : Nat) (l : List Fresh) : (s.setFresh c l).held = s.held := rfl
@[simp] theorem State.setFresh_weather (c : Nat) (l : List Fresh) : (s.setFresh c l).weather = s.weather := rfl
@[simp] theorem State.setFresh_waiting (c : Nat) (l : List Fresh) : (s.setFresh c l).waiting = s.waiting := rfl
@[simp] theorem State.setFresh_target (c : Nat) (l : List Fresh) : (s.setFresh c l).target = s.target := rfl
@[simp] theorem State.setFresh_wakeDue (c : Nat) (l : List Fresh) : (s.setFresh c l).wakeDue = s.wakeDue := rfl
@[simp] theorem State.setFresh_rtc (c : Nat) (l : List Fresh) : (s.setFresh c l).rtc = s.rtc := rfl
@[simp] theorem State.setFresh_log (c : Nat) (l : List Fresh) : (s.setFresh c l).log = s.log := rfl
@[simp] theorem State.setFresh_disTicks (c : Nat) (l : List Fresh) : (s.setFresh c l).disTicks = s.disTicks := rfl
@[simp] theorem State.setFresh_flight (c : Nat) (l : List Fresh) : (s.setFresh c l).flight = s.flight := rfl
@[simp] theorem State.setFresh_mail (c : Nat) (l : List Fresh) : (s.setFresh c l).mail = s.mail := rfl
@[simp] theorem State.setFresh_sortRaw (c : Nat) (l : List Fresh) : (s.setFresh c l).sortRaw = s.sortRaw := rfl
@[simp] theorem State.setFresh_swStart (c : Nat) (l : List Fresh) : (s.setFresh c l).swStart = s.swStart := rfl
@[simp] theorem State.setFresh_msix (c : Nat) (l : List Fresh) : (s.setFresh c l).msix = s.msix := rfl
@[simp] theorem State.setFresh_msixPend (c : Nat) (l : List Fresh) : (s.setFresh c l).msixPend = s.msixPend := rfl
@[simp] theorem State.setFresh_msixEnable (c : Nat) (l : List Fresh) : (s.setFresh c l).msixEnable = s.msixEnable := rfl
@[simp] theorem State.setFresh_msixMaskAll (c : Nat) (l : List Fresh) : (s.setFresh c l).msixMaskAll = s.msixMaskAll := rfl
@[simp] theorem State.setFresh_messages (c : Nat) (l : List Fresh) : (s.setFresh c l).messages = s.messages := rfl
@[simp] theorem State.setFresh_cores (c : Nat) (l : List Fresh) : (s.setFresh c l).cores = s.cores := rfl
@[simp] theorem State.setFresh_tiles (c : Nat) (l : List Fresh) : (s.setFresh c l).tiles = s.tiles := rfl
@[simp] theorem State.setFresh_tallies (c : Nat) (l : List Fresh) : (s.setFresh c l).tallies = s.tallies := rfl
@[simp] theorem State.setFresh_movers (c : Nat) (l : List Fresh) : (s.setFresh c l).movers = s.movers := rfl
@[simp] theorem State.setFresh_hostWrites (c : Nat) (l : List Fresh) : (s.setFresh c l).hostWrites = s.hostWrites := rfl
@[simp] theorem State.setFresh_dfas (c : Nat) (l : List Fresh) : (s.setFresh c l).dfas = s.dfas := rfl
@[simp] theorem State.setFresh_nextCtx (c : Nat) (l : List Fresh) : (s.setFresh c l).nextCtx = s.nextCtx := rfl
@[simp] theorem State.setFresh_pst (c : Nat) (l : List Fresh) : (s.setFresh c l).pst = s.pst := rfl
@[simp] theorem State.setFresh_pstPages (c : Nat) (l : List Fresh) : (s.setFresh c l).pstPages = s.pstPages := rfl
@[simp] theorem State.setFresh_pstOp (c : Nat) (l : List Fresh) : (s.setFresh c l).pstOp = s.pstOp := rfl
@[simp] theorem State.setFresh_cip (c : Nat) (l : List Fresh) : (s.setFresh c l).cip = s.cip := rfl
@[simp] theorem State.setFresh_fuses (c : Nat) (l : List Fresh) : (s.setFresh c l).fuses = s.fuses := rfl
@[simp] theorem State.setFresh_shadow (c : Nat) (l : List Fresh) : (s.setFresh c l).shadow = s.shadow := rfl
@[simp] theorem State.setFresh_lnk (c : Nat) (l : List Fresh) : (s.setFresh c l).lnk = s.lnk := rfl
@[simp] theorem State.setFresh_air (c : Nat) (l : List Fresh) : (s.setFresh c l).air = s.air := rfl
@[simp] theorem State.setFresh_wir (c : Nat) (l : List Fresh) : (s.setFresh c l).wir = s.wir := rfl
@[simp] theorem State.setFresh_line (c : Nat) (l : List Fresh) : (s.setFresh c l).line = s.line := rfl
@[simp] theorem State.setFresh_sns (c : Nat) (l : List Fresh) : (s.setFresh c l).sns = s.sns := rfl
@[simp] theorem State.setFresh_mesh (c : Nat) (l : List Fresh) : (s.setFresh c l).mesh = s.mesh := rfl
@[simp] theorem State.setFresh_queues (c : Nat) (l : List Fresh) : (s.setFresh c l).queues = s.queues := rfl
@[simp] theorem State.setFresh_front (c : Nat) (l : List Fresh) : (s.setFresh c l).front = s.front := rfl
@[simp] theorem State.setFresh_pcie (c : Nat) (l : List Fresh) : (s.setFresh c l).pcie = s.pcie := rfl
@[simp] theorem State.setFresh_spiLast (c : Nat) (l : List Fresh) : (s.setFresh c l).spiLast = s.spiLast := rfl
@[simp] theorem State.setFresh_flrWaits (c : Nat) (l : List Fresh) : (s.setFresh c l).flrWaits = s.flrWaits := rfl
@[simp] theorem State.setFresh_flrDue (c : Nat) (l : List Fresh) : (s.setFresh c l).flrDue = s.flrDue := rfl
@[simp] theorem State.setFresh_boot (c : Nat) (l : List Fresh) : (s.setFresh c l).boot = s.boot := rfl
@[simp] theorem State.setFresh_tap (c : Nat) (l : List Fresh) : (s.setFresh c l).tap = s.tap := rfl
@[simp] theorem State.setFresh_posted (c : Nat) (l : List Fresh) : (s.setFresh c l).posted = s.posted := rfl
@[simp] theorem State.setFresh_lostPosted (c : Nat) (l : List Fresh) : (s.setFresh c l).lostPosted = s.lostPosted := rfl
@[simp] theorem State.setFresh_sortHeld (c : Nat) (l : List Fresh) : (s.setFresh c l).sortHeld = s.sortHeld := rfl
@[simp] theorem State.setFresh_trimSets (c : Nat) (l : List Fresh) : (s.setFresh c l).trimSets = s.trimSets := rfl
@[simp] theorem State.setFresh_hostReads (c : Nat) (l : List Fresh) : (s.setFresh c l).hostReads = s.hostReads := rfl

/-! ### drawn -/

@[simp] theorem State.drawn_pending : (s.drawn).pending = s.pending := rfl
@[simp] theorem State.drawn_regs : (s.drawn).regs = s.regs := rfl
@[simp] theorem State.drawn_mem : (s.drawn).mem = s.mem := rfl
@[simp] theorem State.drawn_tags : (s.drawn).tags = s.tags := rfl
@[simp] theorem State.drawn_marks : (s.drawn).marks = s.marks := rfl
@[simp] theorem State.drawn_pulses : (s.drawn).pulses = s.pulses := rfl
@[simp] theorem State.drawn_arriving : (s.drawn).arriving = s.arriving := rfl
@[simp] theorem State.drawn_readData : (s.drawn).readData = s.readData := rfl
@[simp] theorem State.drawn_zones : (s.drawn).zones = s.zones := rfl
@[simp] theorem State.drawn_fresh : (s.drawn).fresh = s.fresh := rfl
@[simp] theorem State.drawn_aonCycles : (s.drawn).aonCycles = s.aonCycles := rfl
@[simp] theorem State.drawn_evtCycles : (s.drawn).evtCycles = s.evtCycles := rfl
@[simp] theorem State.drawn_held : (s.drawn).held = s.held := rfl
@[simp] theorem State.drawn_weather : (s.drawn).weather = s.weather := rfl
@[simp] theorem State.drawn_waiting : (s.drawn).waiting = s.waiting := rfl
@[simp] theorem State.drawn_target : (s.drawn).target = s.target := rfl
@[simp] theorem State.drawn_wakeDue : (s.drawn).wakeDue = s.wakeDue := rfl
@[simp] theorem State.drawn_rtc : (s.drawn).rtc = s.rtc := rfl
@[simp] theorem State.drawn_log : (s.drawn).log = s.log := rfl
@[simp] theorem State.drawn_disTicks : (s.drawn).disTicks = s.disTicks := rfl
@[simp] theorem State.drawn_flight : (s.drawn).flight = s.flight := rfl
@[simp] theorem State.drawn_mail : (s.drawn).mail = s.mail := rfl
@[simp] theorem State.drawn_sortRaw : (s.drawn).sortRaw = s.sortRaw := rfl
@[simp] theorem State.drawn_swStart : (s.drawn).swStart = s.swStart := rfl
@[simp] theorem State.drawn_msix : (s.drawn).msix = s.msix := rfl
@[simp] theorem State.drawn_msixPend : (s.drawn).msixPend = s.msixPend := rfl
@[simp] theorem State.drawn_msixEnable : (s.drawn).msixEnable = s.msixEnable := rfl
@[simp] theorem State.drawn_msixMaskAll : (s.drawn).msixMaskAll = s.msixMaskAll := rfl
@[simp] theorem State.drawn_messages : (s.drawn).messages = s.messages := rfl
@[simp] theorem State.drawn_cores : (s.drawn).cores = s.cores := rfl
@[simp] theorem State.drawn_tiles : (s.drawn).tiles = s.tiles := rfl
@[simp] theorem State.drawn_tallies : (s.drawn).tallies = s.tallies := rfl
@[simp] theorem State.drawn_movers : (s.drawn).movers = s.movers := rfl
@[simp] theorem State.drawn_hostWrites : (s.drawn).hostWrites = s.hostWrites := rfl
@[simp] theorem State.drawn_dfas : (s.drawn).dfas = s.dfas := rfl
@[simp] theorem State.drawn_nextCtx : (s.drawn).nextCtx = s.nextCtx := rfl
@[simp] theorem State.drawn_pst : (s.drawn).pst = s.pst := rfl
@[simp] theorem State.drawn_pstPages : (s.drawn).pstPages = s.pstPages := rfl
@[simp] theorem State.drawn_pstOp : (s.drawn).pstOp = s.pstOp := rfl
@[simp] theorem State.drawn_cip : (s.drawn).cip = s.cip := rfl
@[simp] theorem State.drawn_fuses : (s.drawn).fuses = s.fuses := rfl
@[simp] theorem State.drawn_shadow : (s.drawn).shadow = s.shadow := rfl
@[simp] theorem State.drawn_lnk : (s.drawn).lnk = s.lnk := rfl
@[simp] theorem State.drawn_air : (s.drawn).air = s.air := rfl
@[simp] theorem State.drawn_wir : (s.drawn).wir = s.wir := rfl
@[simp] theorem State.drawn_line : (s.drawn).line = s.line := rfl
@[simp] theorem State.drawn_sns : (s.drawn).sns = s.sns := rfl
@[simp] theorem State.drawn_mesh : (s.drawn).mesh = s.mesh := rfl
@[simp] theorem State.drawn_queues : (s.drawn).queues = s.queues := rfl
@[simp] theorem State.drawn_front : (s.drawn).front = s.front := rfl
@[simp] theorem State.drawn_pcie : (s.drawn).pcie = s.pcie := rfl
@[simp] theorem State.drawn_spiLast : (s.drawn).spiLast = s.spiLast := rfl
@[simp] theorem State.drawn_flrWaits : (s.drawn).flrWaits = s.flrWaits := rfl
@[simp] theorem State.drawn_flrDue : (s.drawn).flrDue = s.flrDue := rfl
@[simp] theorem State.drawn_boot : (s.drawn).boot = s.boot := rfl
@[simp] theorem State.drawn_tap : (s.drawn).tap = s.tap := rfl
@[simp] theorem State.drawn_posted : (s.drawn).posted = s.posted := rfl
@[simp] theorem State.drawn_lostPosted : (s.drawn).lostPosted = s.lostPosted := rfl
@[simp] theorem State.drawn_sortHeld : (s.drawn).sortHeld = s.sortHeld := rfl
@[simp] theorem State.drawn_trimSets : (s.drawn).trimSets = s.trimSets := rfl
@[simp] theorem State.drawn_hostReads : (s.drawn).hostReads = s.hostReads := rfl

/-! ### fire -/

@[simp] theorem State.fire_pending (p : Nat) : (s.fire p).pending = s.pending := rfl
@[simp] theorem State.fire_free (p : Nat) : (s.fire p).free = s.free := rfl
@[simp] theorem State.fire_regs (p : Nat) : (s.fire p).regs = s.regs := rfl
@[simp] theorem State.fire_mem (p : Nat) : (s.fire p).mem = s.mem := rfl
@[simp] theorem State.fire_tags (p : Nat) : (s.fire p).tags = s.tags := rfl
@[simp] theorem State.fire_marks (p : Nat) : (s.fire p).marks = s.marks := rfl
@[simp] theorem State.fire_arriving (p : Nat) : (s.fire p).arriving = s.arriving := rfl
@[simp] theorem State.fire_readData (p : Nat) : (s.fire p).readData = s.readData := rfl
@[simp] theorem State.fire_zones (p : Nat) : (s.fire p).zones = s.zones := rfl
@[simp] theorem State.fire_fresh (p : Nat) : (s.fire p).fresh = s.fresh := rfl
@[simp] theorem State.fire_aonCycles (p : Nat) : (s.fire p).aonCycles = s.aonCycles := rfl
@[simp] theorem State.fire_evtCycles (p : Nat) : (s.fire p).evtCycles = s.evtCycles := rfl
@[simp] theorem State.fire_held (p : Nat) : (s.fire p).held = s.held := rfl
@[simp] theorem State.fire_weather (p : Nat) : (s.fire p).weather = s.weather := rfl
@[simp] theorem State.fire_waiting (p : Nat) : (s.fire p).waiting = s.waiting := rfl
@[simp] theorem State.fire_target (p : Nat) : (s.fire p).target = s.target := rfl
@[simp] theorem State.fire_wakeDue (p : Nat) : (s.fire p).wakeDue = s.wakeDue := rfl
@[simp] theorem State.fire_rtc (p : Nat) : (s.fire p).rtc = s.rtc := rfl
@[simp] theorem State.fire_log (p : Nat) : (s.fire p).log = s.log := rfl
@[simp] theorem State.fire_disTicks (p : Nat) : (s.fire p).disTicks = s.disTicks := rfl
@[simp] theorem State.fire_flight (p : Nat) : (s.fire p).flight = s.flight := rfl
@[simp] theorem State.fire_mail (p : Nat) : (s.fire p).mail = s.mail := rfl
@[simp] theorem State.fire_sortRaw (p : Nat) : (s.fire p).sortRaw = s.sortRaw := rfl
@[simp] theorem State.fire_swStart (p : Nat) : (s.fire p).swStart = s.swStart := rfl
@[simp] theorem State.fire_msix (p : Nat) : (s.fire p).msix = s.msix := rfl
@[simp] theorem State.fire_msixPend (p : Nat) : (s.fire p).msixPend = s.msixPend := rfl
@[simp] theorem State.fire_msixEnable (p : Nat) : (s.fire p).msixEnable = s.msixEnable := rfl
@[simp] theorem State.fire_msixMaskAll (p : Nat) : (s.fire p).msixMaskAll = s.msixMaskAll := rfl
@[simp] theorem State.fire_messages (p : Nat) : (s.fire p).messages = s.messages := rfl
@[simp] theorem State.fire_cores (p : Nat) : (s.fire p).cores = s.cores := rfl
@[simp] theorem State.fire_tiles (p : Nat) : (s.fire p).tiles = s.tiles := rfl
@[simp] theorem State.fire_tallies (p : Nat) : (s.fire p).tallies = s.tallies := rfl
@[simp] theorem State.fire_movers (p : Nat) : (s.fire p).movers = s.movers := rfl
@[simp] theorem State.fire_hostWrites (p : Nat) : (s.fire p).hostWrites = s.hostWrites := rfl
@[simp] theorem State.fire_dfas (p : Nat) : (s.fire p).dfas = s.dfas := rfl
@[simp] theorem State.fire_nextCtx (p : Nat) : (s.fire p).nextCtx = s.nextCtx := rfl
@[simp] theorem State.fire_pst (p : Nat) : (s.fire p).pst = s.pst := rfl
@[simp] theorem State.fire_pstPages (p : Nat) : (s.fire p).pstPages = s.pstPages := rfl
@[simp] theorem State.fire_pstOp (p : Nat) : (s.fire p).pstOp = s.pstOp := rfl
@[simp] theorem State.fire_cip (p : Nat) : (s.fire p).cip = s.cip := rfl
@[simp] theorem State.fire_fuses (p : Nat) : (s.fire p).fuses = s.fuses := rfl
@[simp] theorem State.fire_shadow (p : Nat) : (s.fire p).shadow = s.shadow := rfl
@[simp] theorem State.fire_lnk (p : Nat) : (s.fire p).lnk = s.lnk := rfl
@[simp] theorem State.fire_air (p : Nat) : (s.fire p).air = s.air := rfl
@[simp] theorem State.fire_wir (p : Nat) : (s.fire p).wir = s.wir := rfl
@[simp] theorem State.fire_line (p : Nat) : (s.fire p).line = s.line := rfl
@[simp] theorem State.fire_sns (p : Nat) : (s.fire p).sns = s.sns := rfl
@[simp] theorem State.fire_mesh (p : Nat) : (s.fire p).mesh = s.mesh := rfl
@[simp] theorem State.fire_queues (p : Nat) : (s.fire p).queues = s.queues := rfl
@[simp] theorem State.fire_front (p : Nat) : (s.fire p).front = s.front := rfl
@[simp] theorem State.fire_pcie (p : Nat) : (s.fire p).pcie = s.pcie := rfl
@[simp] theorem State.fire_spiLast (p : Nat) : (s.fire p).spiLast = s.spiLast := rfl
@[simp] theorem State.fire_flrWaits (p : Nat) : (s.fire p).flrWaits = s.flrWaits := rfl
@[simp] theorem State.fire_flrDue (p : Nat) : (s.fire p).flrDue = s.flrDue := rfl
@[simp] theorem State.fire_boot (p : Nat) : (s.fire p).boot = s.boot := rfl
@[simp] theorem State.fire_tap (p : Nat) : (s.fire p).tap = s.tap := rfl
@[simp] theorem State.fire_posted (p : Nat) : (s.fire p).posted = s.posted := rfl
@[simp] theorem State.fire_lostPosted (p : Nat) : (s.fire p).lostPosted = s.lostPosted := rfl
@[simp] theorem State.fire_sortHeld (p : Nat) : (s.fire p).sortHeld = s.sortHeld := rfl
@[simp] theorem State.fire_trimSets (p : Nat) : (s.fire p).trimSets = s.trimSets := rfl
@[simp] theorem State.fire_hostReads (p : Nat) : (s.fire p).hostReads = s.hostReads := rfl

/-! ### setCore -/

@[simp] theorem State.setCore_pending (k : Nat) (x : CoreSt) : (s.setCore k x).pending = s.pending := rfl
@[simp] theorem State.setCore_free (k : Nat) (x : CoreSt) : (s.setCore k x).free = s.free := rfl
@[simp] theorem State.setCore_regs (k : Nat) (x : CoreSt) : (s.setCore k x).regs = s.regs := rfl
@[simp] theorem State.setCore_mem (k : Nat) (x : CoreSt) : (s.setCore k x).mem = s.mem := rfl
@[simp] theorem State.setCore_tags (k : Nat) (x : CoreSt) : (s.setCore k x).tags = s.tags := rfl
@[simp] theorem State.setCore_marks (k : Nat) (x : CoreSt) : (s.setCore k x).marks = s.marks := rfl
@[simp] theorem State.setCore_pulses (k : Nat) (x : CoreSt) : (s.setCore k x).pulses = s.pulses := rfl
@[simp] theorem State.setCore_arriving (k : Nat) (x : CoreSt) : (s.setCore k x).arriving = s.arriving := rfl
@[simp] theorem State.setCore_readData (k : Nat) (x : CoreSt) : (s.setCore k x).readData = s.readData := rfl
@[simp] theorem State.setCore_zones (k : Nat) (x : CoreSt) : (s.setCore k x).zones = s.zones := rfl
@[simp] theorem State.setCore_fresh (k : Nat) (x : CoreSt) : (s.setCore k x).fresh = s.fresh := rfl
@[simp] theorem State.setCore_aonCycles (k : Nat) (x : CoreSt) : (s.setCore k x).aonCycles = s.aonCycles := rfl
@[simp] theorem State.setCore_evtCycles (k : Nat) (x : CoreSt) : (s.setCore k x).evtCycles = s.evtCycles := rfl
@[simp] theorem State.setCore_held (k : Nat) (x : CoreSt) : (s.setCore k x).held = s.held := rfl
@[simp] theorem State.setCore_weather (k : Nat) (x : CoreSt) : (s.setCore k x).weather = s.weather := rfl
@[simp] theorem State.setCore_waiting (k : Nat) (x : CoreSt) : (s.setCore k x).waiting = s.waiting := rfl
@[simp] theorem State.setCore_target (k : Nat) (x : CoreSt) : (s.setCore k x).target = s.target := rfl
@[simp] theorem State.setCore_wakeDue (k : Nat) (x : CoreSt) : (s.setCore k x).wakeDue = s.wakeDue := rfl
@[simp] theorem State.setCore_rtc (k : Nat) (x : CoreSt) : (s.setCore k x).rtc = s.rtc := rfl
@[simp] theorem State.setCore_log (k : Nat) (x : CoreSt) : (s.setCore k x).log = s.log := rfl
@[simp] theorem State.setCore_disTicks (k : Nat) (x : CoreSt) : (s.setCore k x).disTicks = s.disTicks := rfl
@[simp] theorem State.setCore_flight (k : Nat) (x : CoreSt) : (s.setCore k x).flight = s.flight := rfl
@[simp] theorem State.setCore_mail (k : Nat) (x : CoreSt) : (s.setCore k x).mail = s.mail := rfl
@[simp] theorem State.setCore_sortRaw (k : Nat) (x : CoreSt) : (s.setCore k x).sortRaw = s.sortRaw := rfl
@[simp] theorem State.setCore_swStart (k : Nat) (x : CoreSt) : (s.setCore k x).swStart = s.swStart := rfl
@[simp] theorem State.setCore_msix (k : Nat) (x : CoreSt) : (s.setCore k x).msix = s.msix := rfl
@[simp] theorem State.setCore_msixPend (k : Nat) (x : CoreSt) : (s.setCore k x).msixPend = s.msixPend := rfl
@[simp] theorem State.setCore_msixEnable (k : Nat) (x : CoreSt) : (s.setCore k x).msixEnable = s.msixEnable := rfl
@[simp] theorem State.setCore_msixMaskAll (k : Nat) (x : CoreSt) : (s.setCore k x).msixMaskAll = s.msixMaskAll := rfl
@[simp] theorem State.setCore_messages (k : Nat) (x : CoreSt) : (s.setCore k x).messages = s.messages := rfl
@[simp] theorem State.setCore_tiles (k : Nat) (x : CoreSt) : (s.setCore k x).tiles = s.tiles := rfl
@[simp] theorem State.setCore_tallies (k : Nat) (x : CoreSt) : (s.setCore k x).tallies = s.tallies := rfl
@[simp] theorem State.setCore_movers (k : Nat) (x : CoreSt) : (s.setCore k x).movers = s.movers := rfl
@[simp] theorem State.setCore_hostWrites (k : Nat) (x : CoreSt) : (s.setCore k x).hostWrites = s.hostWrites := rfl
@[simp] theorem State.setCore_dfas (k : Nat) (x : CoreSt) : (s.setCore k x).dfas = s.dfas := rfl
@[simp] theorem State.setCore_nextCtx (k : Nat) (x : CoreSt) : (s.setCore k x).nextCtx = s.nextCtx := rfl
@[simp] theorem State.setCore_pst (k : Nat) (x : CoreSt) : (s.setCore k x).pst = s.pst := rfl
@[simp] theorem State.setCore_pstPages (k : Nat) (x : CoreSt) : (s.setCore k x).pstPages = s.pstPages := rfl
@[simp] theorem State.setCore_pstOp (k : Nat) (x : CoreSt) : (s.setCore k x).pstOp = s.pstOp := rfl
@[simp] theorem State.setCore_cip (k : Nat) (x : CoreSt) : (s.setCore k x).cip = s.cip := rfl
@[simp] theorem State.setCore_fuses (k : Nat) (x : CoreSt) : (s.setCore k x).fuses = s.fuses := rfl
@[simp] theorem State.setCore_shadow (k : Nat) (x : CoreSt) : (s.setCore k x).shadow = s.shadow := rfl
@[simp] theorem State.setCore_lnk (k : Nat) (x : CoreSt) : (s.setCore k x).lnk = s.lnk := rfl
@[simp] theorem State.setCore_air (k : Nat) (x : CoreSt) : (s.setCore k x).air = s.air := rfl
@[simp] theorem State.setCore_wir (k : Nat) (x : CoreSt) : (s.setCore k x).wir = s.wir := rfl
@[simp] theorem State.setCore_line (k : Nat) (x : CoreSt) : (s.setCore k x).line = s.line := rfl
@[simp] theorem State.setCore_sns (k : Nat) (x : CoreSt) : (s.setCore k x).sns = s.sns := rfl
@[simp] theorem State.setCore_mesh (k : Nat) (x : CoreSt) : (s.setCore k x).mesh = s.mesh := rfl
@[simp] theorem State.setCore_queues (k : Nat) (x : CoreSt) : (s.setCore k x).queues = s.queues := rfl
@[simp] theorem State.setCore_front (k : Nat) (x : CoreSt) : (s.setCore k x).front = s.front := rfl
@[simp] theorem State.setCore_pcie (k : Nat) (x : CoreSt) : (s.setCore k x).pcie = s.pcie := rfl
@[simp] theorem State.setCore_spiLast (k : Nat) (x : CoreSt) : (s.setCore k x).spiLast = s.spiLast := rfl
@[simp] theorem State.setCore_flrWaits (k : Nat) (x : CoreSt) : (s.setCore k x).flrWaits = s.flrWaits := rfl
@[simp] theorem State.setCore_flrDue (k : Nat) (x : CoreSt) : (s.setCore k x).flrDue = s.flrDue := rfl
@[simp] theorem State.setCore_boot (k : Nat) (x : CoreSt) : (s.setCore k x).boot = s.boot := rfl
@[simp] theorem State.setCore_tap (k : Nat) (x : CoreSt) : (s.setCore k x).tap = s.tap := rfl
@[simp] theorem State.setCore_posted (k : Nat) (x : CoreSt) : (s.setCore k x).posted = s.posted := rfl
@[simp] theorem State.setCore_lostPosted (k : Nat) (x : CoreSt) : (s.setCore k x).lostPosted = s.lostPosted := rfl
@[simp] theorem State.setCore_sortHeld (k : Nat) (x : CoreSt) : (s.setCore k x).sortHeld = s.sortHeld := rfl
@[simp] theorem State.setCore_trimSets (k : Nat) (x : CoreSt) : (s.setCore k x).trimSets = s.trimSets := rfl
@[simp] theorem State.setCore_hostReads (k : Nat) (x : CoreSt) : (s.setCore k x).hostReads = s.hostReads := rfl

/-! ### setTile -/

@[simp] theorem State.setTile_pending (n : Nat) (x : Tile) : (s.setTile n x).pending = s.pending := rfl
@[simp] theorem State.setTile_free (n : Nat) (x : Tile) : (s.setTile n x).free = s.free := rfl
@[simp] theorem State.setTile_regs (n : Nat) (x : Tile) : (s.setTile n x).regs = s.regs := rfl
@[simp] theorem State.setTile_mem (n : Nat) (x : Tile) : (s.setTile n x).mem = s.mem := rfl
@[simp] theorem State.setTile_tags (n : Nat) (x : Tile) : (s.setTile n x).tags = s.tags := rfl
@[simp] theorem State.setTile_marks (n : Nat) (x : Tile) : (s.setTile n x).marks = s.marks := rfl
@[simp] theorem State.setTile_pulses (n : Nat) (x : Tile) : (s.setTile n x).pulses = s.pulses := rfl
@[simp] theorem State.setTile_arriving (n : Nat) (x : Tile) : (s.setTile n x).arriving = s.arriving := rfl
@[simp] theorem State.setTile_readData (n : Nat) (x : Tile) : (s.setTile n x).readData = s.readData := rfl
@[simp] theorem State.setTile_zones (n : Nat) (x : Tile) : (s.setTile n x).zones = s.zones := rfl
@[simp] theorem State.setTile_fresh (n : Nat) (x : Tile) : (s.setTile n x).fresh = s.fresh := rfl
@[simp] theorem State.setTile_aonCycles (n : Nat) (x : Tile) : (s.setTile n x).aonCycles = s.aonCycles := rfl
@[simp] theorem State.setTile_evtCycles (n : Nat) (x : Tile) : (s.setTile n x).evtCycles = s.evtCycles := rfl
@[simp] theorem State.setTile_held (n : Nat) (x : Tile) : (s.setTile n x).held = s.held := rfl
@[simp] theorem State.setTile_weather (n : Nat) (x : Tile) : (s.setTile n x).weather = s.weather := rfl
@[simp] theorem State.setTile_waiting (n : Nat) (x : Tile) : (s.setTile n x).waiting = s.waiting := rfl
@[simp] theorem State.setTile_target (n : Nat) (x : Tile) : (s.setTile n x).target = s.target := rfl
@[simp] theorem State.setTile_wakeDue (n : Nat) (x : Tile) : (s.setTile n x).wakeDue = s.wakeDue := rfl
@[simp] theorem State.setTile_rtc (n : Nat) (x : Tile) : (s.setTile n x).rtc = s.rtc := rfl
@[simp] theorem State.setTile_log (n : Nat) (x : Tile) : (s.setTile n x).log = s.log := rfl
@[simp] theorem State.setTile_disTicks (n : Nat) (x : Tile) : (s.setTile n x).disTicks = s.disTicks := rfl
@[simp] theorem State.setTile_flight (n : Nat) (x : Tile) : (s.setTile n x).flight = s.flight := rfl
@[simp] theorem State.setTile_mail (n : Nat) (x : Tile) : (s.setTile n x).mail = s.mail := rfl
@[simp] theorem State.setTile_sortRaw (n : Nat) (x : Tile) : (s.setTile n x).sortRaw = s.sortRaw := rfl
@[simp] theorem State.setTile_swStart (n : Nat) (x : Tile) : (s.setTile n x).swStart = s.swStart := rfl
@[simp] theorem State.setTile_msix (n : Nat) (x : Tile) : (s.setTile n x).msix = s.msix := rfl
@[simp] theorem State.setTile_msixPend (n : Nat) (x : Tile) : (s.setTile n x).msixPend = s.msixPend := rfl
@[simp] theorem State.setTile_msixEnable (n : Nat) (x : Tile) : (s.setTile n x).msixEnable = s.msixEnable := rfl
@[simp] theorem State.setTile_msixMaskAll (n : Nat) (x : Tile) : (s.setTile n x).msixMaskAll = s.msixMaskAll := rfl
@[simp] theorem State.setTile_messages (n : Nat) (x : Tile) : (s.setTile n x).messages = s.messages := rfl
@[simp] theorem State.setTile_cores (n : Nat) (x : Tile) : (s.setTile n x).cores = s.cores := rfl
@[simp] theorem State.setTile_tallies (n : Nat) (x : Tile) : (s.setTile n x).tallies = s.tallies := rfl
@[simp] theorem State.setTile_movers (n : Nat) (x : Tile) : (s.setTile n x).movers = s.movers := rfl
@[simp] theorem State.setTile_hostWrites (n : Nat) (x : Tile) : (s.setTile n x).hostWrites = s.hostWrites := rfl
@[simp] theorem State.setTile_dfas (n : Nat) (x : Tile) : (s.setTile n x).dfas = s.dfas := rfl
@[simp] theorem State.setTile_nextCtx (n : Nat) (x : Tile) : (s.setTile n x).nextCtx = s.nextCtx := rfl
@[simp] theorem State.setTile_pst (n : Nat) (x : Tile) : (s.setTile n x).pst = s.pst := rfl
@[simp] theorem State.setTile_pstPages (n : Nat) (x : Tile) : (s.setTile n x).pstPages = s.pstPages := rfl
@[simp] theorem State.setTile_pstOp (n : Nat) (x : Tile) : (s.setTile n x).pstOp = s.pstOp := rfl
@[simp] theorem State.setTile_cip (n : Nat) (x : Tile) : (s.setTile n x).cip = s.cip := rfl
@[simp] theorem State.setTile_fuses (n : Nat) (x : Tile) : (s.setTile n x).fuses = s.fuses := rfl
@[simp] theorem State.setTile_shadow (n : Nat) (x : Tile) : (s.setTile n x).shadow = s.shadow := rfl
@[simp] theorem State.setTile_lnk (n : Nat) (x : Tile) : (s.setTile n x).lnk = s.lnk := rfl
@[simp] theorem State.setTile_air (n : Nat) (x : Tile) : (s.setTile n x).air = s.air := rfl
@[simp] theorem State.setTile_wir (n : Nat) (x : Tile) : (s.setTile n x).wir = s.wir := rfl
@[simp] theorem State.setTile_line (n : Nat) (x : Tile) : (s.setTile n x).line = s.line := rfl
@[simp] theorem State.setTile_sns (n : Nat) (x : Tile) : (s.setTile n x).sns = s.sns := rfl
@[simp] theorem State.setTile_mesh (n : Nat) (x : Tile) : (s.setTile n x).mesh = s.mesh := rfl
@[simp] theorem State.setTile_queues (n : Nat) (x : Tile) : (s.setTile n x).queues = s.queues := rfl
@[simp] theorem State.setTile_front (n : Nat) (x : Tile) : (s.setTile n x).front = s.front := rfl
@[simp] theorem State.setTile_pcie (n : Nat) (x : Tile) : (s.setTile n x).pcie = s.pcie := rfl
@[simp] theorem State.setTile_spiLast (n : Nat) (x : Tile) : (s.setTile n x).spiLast = s.spiLast := rfl
@[simp] theorem State.setTile_flrWaits (n : Nat) (x : Tile) : (s.setTile n x).flrWaits = s.flrWaits := rfl
@[simp] theorem State.setTile_flrDue (n : Nat) (x : Tile) : (s.setTile n x).flrDue = s.flrDue := rfl
@[simp] theorem State.setTile_boot (n : Nat) (x : Tile) : (s.setTile n x).boot = s.boot := rfl
@[simp] theorem State.setTile_tap (n : Nat) (x : Tile) : (s.setTile n x).tap = s.tap := rfl
@[simp] theorem State.setTile_posted (n : Nat) (x : Tile) : (s.setTile n x).posted = s.posted := rfl
@[simp] theorem State.setTile_lostPosted (n : Nat) (x : Tile) : (s.setTile n x).lostPosted = s.lostPosted := rfl
@[simp] theorem State.setTile_sortHeld (n : Nat) (x : Tile) : (s.setTile n x).sortHeld = s.sortHeld := rfl
@[simp] theorem State.setTile_trimSets (n : Nat) (x : Tile) : (s.setTile n x).trimSets = s.trimSets := rfl
@[simp] theorem State.setTile_hostReads (n : Nat) (x : Tile) : (s.setTile n x).hostReads = s.hostReads := rfl

/-! ### setTally -/

@[simp] theorem State.setTally_pending (c : Nat) (x : Tally) : (s.setTally c x).pending = s.pending := rfl
@[simp] theorem State.setTally_free (c : Nat) (x : Tally) : (s.setTally c x).free = s.free := rfl
@[simp] theorem State.setTally_regs (c : Nat) (x : Tally) : (s.setTally c x).regs = s.regs := rfl
@[simp] theorem State.setTally_mem (c : Nat) (x : Tally) : (s.setTally c x).mem = s.mem := rfl
@[simp] theorem State.setTally_tags (c : Nat) (x : Tally) : (s.setTally c x).tags = s.tags := rfl
@[simp] theorem State.setTally_marks (c : Nat) (x : Tally) : (s.setTally c x).marks = s.marks := rfl
@[simp] theorem State.setTally_pulses (c : Nat) (x : Tally) : (s.setTally c x).pulses = s.pulses := rfl
@[simp] theorem State.setTally_arriving (c : Nat) (x : Tally) : (s.setTally c x).arriving = s.arriving := rfl
@[simp] theorem State.setTally_readData (c : Nat) (x : Tally) : (s.setTally c x).readData = s.readData := rfl
@[simp] theorem State.setTally_zones (c : Nat) (x : Tally) : (s.setTally c x).zones = s.zones := rfl
@[simp] theorem State.setTally_fresh (c : Nat) (x : Tally) : (s.setTally c x).fresh = s.fresh := rfl
@[simp] theorem State.setTally_aonCycles (c : Nat) (x : Tally) : (s.setTally c x).aonCycles = s.aonCycles := rfl
@[simp] theorem State.setTally_evtCycles (c : Nat) (x : Tally) : (s.setTally c x).evtCycles = s.evtCycles := rfl
@[simp] theorem State.setTally_held (c : Nat) (x : Tally) : (s.setTally c x).held = s.held := rfl
@[simp] theorem State.setTally_weather (c : Nat) (x : Tally) : (s.setTally c x).weather = s.weather := rfl
@[simp] theorem State.setTally_waiting (c : Nat) (x : Tally) : (s.setTally c x).waiting = s.waiting := rfl
@[simp] theorem State.setTally_target (c : Nat) (x : Tally) : (s.setTally c x).target = s.target := rfl
@[simp] theorem State.setTally_wakeDue (c : Nat) (x : Tally) : (s.setTally c x).wakeDue = s.wakeDue := rfl
@[simp] theorem State.setTally_rtc (c : Nat) (x : Tally) : (s.setTally c x).rtc = s.rtc := rfl
@[simp] theorem State.setTally_log (c : Nat) (x : Tally) : (s.setTally c x).log = s.log := rfl
@[simp] theorem State.setTally_disTicks (c : Nat) (x : Tally) : (s.setTally c x).disTicks = s.disTicks := rfl
@[simp] theorem State.setTally_flight (c : Nat) (x : Tally) : (s.setTally c x).flight = s.flight := rfl
@[simp] theorem State.setTally_mail (c : Nat) (x : Tally) : (s.setTally c x).mail = s.mail := rfl
@[simp] theorem State.setTally_sortRaw (c : Nat) (x : Tally) : (s.setTally c x).sortRaw = s.sortRaw := rfl
@[simp] theorem State.setTally_swStart (c : Nat) (x : Tally) : (s.setTally c x).swStart = s.swStart := rfl
@[simp] theorem State.setTally_msix (c : Nat) (x : Tally) : (s.setTally c x).msix = s.msix := rfl
@[simp] theorem State.setTally_msixPend (c : Nat) (x : Tally) : (s.setTally c x).msixPend = s.msixPend := rfl
@[simp] theorem State.setTally_msixEnable (c : Nat) (x : Tally) : (s.setTally c x).msixEnable = s.msixEnable := rfl
@[simp] theorem State.setTally_msixMaskAll (c : Nat) (x : Tally) : (s.setTally c x).msixMaskAll = s.msixMaskAll := rfl
@[simp] theorem State.setTally_messages (c : Nat) (x : Tally) : (s.setTally c x).messages = s.messages := rfl
@[simp] theorem State.setTally_cores (c : Nat) (x : Tally) : (s.setTally c x).cores = s.cores := rfl
@[simp] theorem State.setTally_tiles (c : Nat) (x : Tally) : (s.setTally c x).tiles = s.tiles := rfl
@[simp] theorem State.setTally_movers (c : Nat) (x : Tally) : (s.setTally c x).movers = s.movers := rfl
@[simp] theorem State.setTally_hostWrites (c : Nat) (x : Tally) : (s.setTally c x).hostWrites = s.hostWrites := rfl
@[simp] theorem State.setTally_dfas (c : Nat) (x : Tally) : (s.setTally c x).dfas = s.dfas := rfl
@[simp] theorem State.setTally_nextCtx (c : Nat) (x : Tally) : (s.setTally c x).nextCtx = s.nextCtx := rfl
@[simp] theorem State.setTally_pst (c : Nat) (x : Tally) : (s.setTally c x).pst = s.pst := rfl
@[simp] theorem State.setTally_pstPages (c : Nat) (x : Tally) : (s.setTally c x).pstPages = s.pstPages := rfl
@[simp] theorem State.setTally_pstOp (c : Nat) (x : Tally) : (s.setTally c x).pstOp = s.pstOp := rfl
@[simp] theorem State.setTally_cip (c : Nat) (x : Tally) : (s.setTally c x).cip = s.cip := rfl
@[simp] theorem State.setTally_fuses (c : Nat) (x : Tally) : (s.setTally c x).fuses = s.fuses := rfl
@[simp] theorem State.setTally_shadow (c : Nat) (x : Tally) : (s.setTally c x).shadow = s.shadow := rfl
@[simp] theorem State.setTally_lnk (c : Nat) (x : Tally) : (s.setTally c x).lnk = s.lnk := rfl
@[simp] theorem State.setTally_air (c : Nat) (x : Tally) : (s.setTally c x).air = s.air := rfl
@[simp] theorem State.setTally_wir (c : Nat) (x : Tally) : (s.setTally c x).wir = s.wir := rfl
@[simp] theorem State.setTally_line (c : Nat) (x : Tally) : (s.setTally c x).line = s.line := rfl
@[simp] theorem State.setTally_sns (c : Nat) (x : Tally) : (s.setTally c x).sns = s.sns := rfl
@[simp] theorem State.setTally_mesh (c : Nat) (x : Tally) : (s.setTally c x).mesh = s.mesh := rfl
@[simp] theorem State.setTally_queues (c : Nat) (x : Tally) : (s.setTally c x).queues = s.queues := rfl
@[simp] theorem State.setTally_front (c : Nat) (x : Tally) : (s.setTally c x).front = s.front := rfl
@[simp] theorem State.setTally_pcie (c : Nat) (x : Tally) : (s.setTally c x).pcie = s.pcie := rfl
@[simp] theorem State.setTally_spiLast (c : Nat) (x : Tally) : (s.setTally c x).spiLast = s.spiLast := rfl
@[simp] theorem State.setTally_flrWaits (c : Nat) (x : Tally) : (s.setTally c x).flrWaits = s.flrWaits := rfl
@[simp] theorem State.setTally_flrDue (c : Nat) (x : Tally) : (s.setTally c x).flrDue = s.flrDue := rfl
@[simp] theorem State.setTally_boot (c : Nat) (x : Tally) : (s.setTally c x).boot = s.boot := rfl
@[simp] theorem State.setTally_tap (c : Nat) (x : Tally) : (s.setTally c x).tap = s.tap := rfl
@[simp] theorem State.setTally_posted (c : Nat) (x : Tally) : (s.setTally c x).posted = s.posted := rfl
@[simp] theorem State.setTally_lostPosted (c : Nat) (x : Tally) : (s.setTally c x).lostPosted = s.lostPosted := rfl
@[simp] theorem State.setTally_sortHeld (c : Nat) (x : Tally) : (s.setTally c x).sortHeld = s.sortHeld := rfl
@[simp] theorem State.setTally_trimSets (c : Nat) (x : Tally) : (s.setTally c x).trimSets = s.trimSets := rfl
@[simp] theorem State.setTally_hostReads (c : Nat) (x : Tally) : (s.setTally c x).hostReads = s.hostReads := rfl

/-! ### setMover -/

@[simp] theorem State.setMover_pending (c : Nat) (x : Mover) : (s.setMover c x).pending = s.pending := rfl
@[simp] theorem State.setMover_free (c : Nat) (x : Mover) : (s.setMover c x).free = s.free := rfl
@[simp] theorem State.setMover_regs (c : Nat) (x : Mover) : (s.setMover c x).regs = s.regs := rfl
@[simp] theorem State.setMover_mem (c : Nat) (x : Mover) : (s.setMover c x).mem = s.mem := rfl
@[simp] theorem State.setMover_tags (c : Nat) (x : Mover) : (s.setMover c x).tags = s.tags := rfl
@[simp] theorem State.setMover_marks (c : Nat) (x : Mover) : (s.setMover c x).marks = s.marks := rfl
@[simp] theorem State.setMover_pulses (c : Nat) (x : Mover) : (s.setMover c x).pulses = s.pulses := rfl
@[simp] theorem State.setMover_arriving (c : Nat) (x : Mover) : (s.setMover c x).arriving = s.arriving := rfl
@[simp] theorem State.setMover_readData (c : Nat) (x : Mover) : (s.setMover c x).readData = s.readData := rfl
@[simp] theorem State.setMover_zones (c : Nat) (x : Mover) : (s.setMover c x).zones = s.zones := rfl
@[simp] theorem State.setMover_fresh (c : Nat) (x : Mover) : (s.setMover c x).fresh = s.fresh := rfl
@[simp] theorem State.setMover_aonCycles (c : Nat) (x : Mover) : (s.setMover c x).aonCycles = s.aonCycles := rfl
@[simp] theorem State.setMover_evtCycles (c : Nat) (x : Mover) : (s.setMover c x).evtCycles = s.evtCycles := rfl
@[simp] theorem State.setMover_held (c : Nat) (x : Mover) : (s.setMover c x).held = s.held := rfl
@[simp] theorem State.setMover_weather (c : Nat) (x : Mover) : (s.setMover c x).weather = s.weather := rfl
@[simp] theorem State.setMover_waiting (c : Nat) (x : Mover) : (s.setMover c x).waiting = s.waiting := rfl
@[simp] theorem State.setMover_target (c : Nat) (x : Mover) : (s.setMover c x).target = s.target := rfl
@[simp] theorem State.setMover_wakeDue (c : Nat) (x : Mover) : (s.setMover c x).wakeDue = s.wakeDue := rfl
@[simp] theorem State.setMover_rtc (c : Nat) (x : Mover) : (s.setMover c x).rtc = s.rtc := rfl
@[simp] theorem State.setMover_log (c : Nat) (x : Mover) : (s.setMover c x).log = s.log := rfl
@[simp] theorem State.setMover_disTicks (c : Nat) (x : Mover) : (s.setMover c x).disTicks = s.disTicks := rfl
@[simp] theorem State.setMover_flight (c : Nat) (x : Mover) : (s.setMover c x).flight = s.flight := rfl
@[simp] theorem State.setMover_mail (c : Nat) (x : Mover) : (s.setMover c x).mail = s.mail := rfl
@[simp] theorem State.setMover_sortRaw (c : Nat) (x : Mover) : (s.setMover c x).sortRaw = s.sortRaw := rfl
@[simp] theorem State.setMover_swStart (c : Nat) (x : Mover) : (s.setMover c x).swStart = s.swStart := rfl
@[simp] theorem State.setMover_msix (c : Nat) (x : Mover) : (s.setMover c x).msix = s.msix := rfl
@[simp] theorem State.setMover_msixPend (c : Nat) (x : Mover) : (s.setMover c x).msixPend = s.msixPend := rfl
@[simp] theorem State.setMover_msixEnable (c : Nat) (x : Mover) : (s.setMover c x).msixEnable = s.msixEnable := rfl
@[simp] theorem State.setMover_msixMaskAll (c : Nat) (x : Mover) : (s.setMover c x).msixMaskAll = s.msixMaskAll := rfl
@[simp] theorem State.setMover_messages (c : Nat) (x : Mover) : (s.setMover c x).messages = s.messages := rfl
@[simp] theorem State.setMover_cores (c : Nat) (x : Mover) : (s.setMover c x).cores = s.cores := rfl
@[simp] theorem State.setMover_tiles (c : Nat) (x : Mover) : (s.setMover c x).tiles = s.tiles := rfl
@[simp] theorem State.setMover_tallies (c : Nat) (x : Mover) : (s.setMover c x).tallies = s.tallies := rfl
@[simp] theorem State.setMover_hostWrites (c : Nat) (x : Mover) : (s.setMover c x).hostWrites = s.hostWrites := rfl
@[simp] theorem State.setMover_dfas (c : Nat) (x : Mover) : (s.setMover c x).dfas = s.dfas := rfl
@[simp] theorem State.setMover_nextCtx (c : Nat) (x : Mover) : (s.setMover c x).nextCtx = s.nextCtx := rfl
@[simp] theorem State.setMover_pst (c : Nat) (x : Mover) : (s.setMover c x).pst = s.pst := rfl
@[simp] theorem State.setMover_pstPages (c : Nat) (x : Mover) : (s.setMover c x).pstPages = s.pstPages := rfl
@[simp] theorem State.setMover_pstOp (c : Nat) (x : Mover) : (s.setMover c x).pstOp = s.pstOp := rfl
@[simp] theorem State.setMover_cip (c : Nat) (x : Mover) : (s.setMover c x).cip = s.cip := rfl
@[simp] theorem State.setMover_fuses (c : Nat) (x : Mover) : (s.setMover c x).fuses = s.fuses := rfl
@[simp] theorem State.setMover_shadow (c : Nat) (x : Mover) : (s.setMover c x).shadow = s.shadow := rfl
@[simp] theorem State.setMover_lnk (c : Nat) (x : Mover) : (s.setMover c x).lnk = s.lnk := rfl
@[simp] theorem State.setMover_air (c : Nat) (x : Mover) : (s.setMover c x).air = s.air := rfl
@[simp] theorem State.setMover_wir (c : Nat) (x : Mover) : (s.setMover c x).wir = s.wir := rfl
@[simp] theorem State.setMover_line (c : Nat) (x : Mover) : (s.setMover c x).line = s.line := rfl
@[simp] theorem State.setMover_sns (c : Nat) (x : Mover) : (s.setMover c x).sns = s.sns := rfl
@[simp] theorem State.setMover_mesh (c : Nat) (x : Mover) : (s.setMover c x).mesh = s.mesh := rfl
@[simp] theorem State.setMover_queues (c : Nat) (x : Mover) : (s.setMover c x).queues = s.queues := rfl
@[simp] theorem State.setMover_front (c : Nat) (x : Mover) : (s.setMover c x).front = s.front := rfl
@[simp] theorem State.setMover_pcie (c : Nat) (x : Mover) : (s.setMover c x).pcie = s.pcie := rfl
@[simp] theorem State.setMover_spiLast (c : Nat) (x : Mover) : (s.setMover c x).spiLast = s.spiLast := rfl
@[simp] theorem State.setMover_flrWaits (c : Nat) (x : Mover) : (s.setMover c x).flrWaits = s.flrWaits := rfl
@[simp] theorem State.setMover_flrDue (c : Nat) (x : Mover) : (s.setMover c x).flrDue = s.flrDue := rfl
@[simp] theorem State.setMover_boot (c : Nat) (x : Mover) : (s.setMover c x).boot = s.boot := rfl
@[simp] theorem State.setMover_tap (c : Nat) (x : Mover) : (s.setMover c x).tap = s.tap := rfl
@[simp] theorem State.setMover_posted (c : Nat) (x : Mover) : (s.setMover c x).posted = s.posted := rfl
@[simp] theorem State.setMover_lostPosted (c : Nat) (x : Mover) : (s.setMover c x).lostPosted = s.lostPosted := rfl
@[simp] theorem State.setMover_sortHeld (c : Nat) (x : Mover) : (s.setMover c x).sortHeld = s.sortHeld := rfl
@[simp] theorem State.setMover_trimSets (c : Nat) (x : Mover) : (s.setMover c x).trimSets = s.trimSets := rfl
@[simp] theorem State.setMover_hostReads (c : Nat) (x : Mover) : (s.setMover c x).hostReads = s.hostReads := rfl

/-! ### setDfa -/

@[simp] theorem State.setDfa_pending (c : Nat) (x : Dfa) : (s.setDfa c x).pending = s.pending := rfl
@[simp] theorem State.setDfa_free (c : Nat) (x : Dfa) : (s.setDfa c x).free = s.free := rfl
@[simp] theorem State.setDfa_regs (c : Nat) (x : Dfa) : (s.setDfa c x).regs = s.regs := rfl
@[simp] theorem State.setDfa_mem (c : Nat) (x : Dfa) : (s.setDfa c x).mem = s.mem := rfl
@[simp] theorem State.setDfa_tags (c : Nat) (x : Dfa) : (s.setDfa c x).tags = s.tags := rfl
@[simp] theorem State.setDfa_marks (c : Nat) (x : Dfa) : (s.setDfa c x).marks = s.marks := rfl
@[simp] theorem State.setDfa_pulses (c : Nat) (x : Dfa) : (s.setDfa c x).pulses = s.pulses := rfl
@[simp] theorem State.setDfa_arriving (c : Nat) (x : Dfa) : (s.setDfa c x).arriving = s.arriving := rfl
@[simp] theorem State.setDfa_readData (c : Nat) (x : Dfa) : (s.setDfa c x).readData = s.readData := rfl
@[simp] theorem State.setDfa_zones (c : Nat) (x : Dfa) : (s.setDfa c x).zones = s.zones := rfl
@[simp] theorem State.setDfa_fresh (c : Nat) (x : Dfa) : (s.setDfa c x).fresh = s.fresh := rfl
@[simp] theorem State.setDfa_aonCycles (c : Nat) (x : Dfa) : (s.setDfa c x).aonCycles = s.aonCycles := rfl
@[simp] theorem State.setDfa_evtCycles (c : Nat) (x : Dfa) : (s.setDfa c x).evtCycles = s.evtCycles := rfl
@[simp] theorem State.setDfa_held (c : Nat) (x : Dfa) : (s.setDfa c x).held = s.held := rfl
@[simp] theorem State.setDfa_weather (c : Nat) (x : Dfa) : (s.setDfa c x).weather = s.weather := rfl
@[simp] theorem State.setDfa_waiting (c : Nat) (x : Dfa) : (s.setDfa c x).waiting = s.waiting := rfl
@[simp] theorem State.setDfa_target (c : Nat) (x : Dfa) : (s.setDfa c x).target = s.target := rfl
@[simp] theorem State.setDfa_wakeDue (c : Nat) (x : Dfa) : (s.setDfa c x).wakeDue = s.wakeDue := rfl
@[simp] theorem State.setDfa_rtc (c : Nat) (x : Dfa) : (s.setDfa c x).rtc = s.rtc := rfl
@[simp] theorem State.setDfa_log (c : Nat) (x : Dfa) : (s.setDfa c x).log = s.log := rfl
@[simp] theorem State.setDfa_disTicks (c : Nat) (x : Dfa) : (s.setDfa c x).disTicks = s.disTicks := rfl
@[simp] theorem State.setDfa_flight (c : Nat) (x : Dfa) : (s.setDfa c x).flight = s.flight := rfl
@[simp] theorem State.setDfa_mail (c : Nat) (x : Dfa) : (s.setDfa c x).mail = s.mail := rfl
@[simp] theorem State.setDfa_sortRaw (c : Nat) (x : Dfa) : (s.setDfa c x).sortRaw = s.sortRaw := rfl
@[simp] theorem State.setDfa_swStart (c : Nat) (x : Dfa) : (s.setDfa c x).swStart = s.swStart := rfl
@[simp] theorem State.setDfa_msix (c : Nat) (x : Dfa) : (s.setDfa c x).msix = s.msix := rfl
@[simp] theorem State.setDfa_msixPend (c : Nat) (x : Dfa) : (s.setDfa c x).msixPend = s.msixPend := rfl
@[simp] theorem State.setDfa_msixEnable (c : Nat) (x : Dfa) : (s.setDfa c x).msixEnable = s.msixEnable := rfl
@[simp] theorem State.setDfa_msixMaskAll (c : Nat) (x : Dfa) : (s.setDfa c x).msixMaskAll = s.msixMaskAll := rfl
@[simp] theorem State.setDfa_messages (c : Nat) (x : Dfa) : (s.setDfa c x).messages = s.messages := rfl
@[simp] theorem State.setDfa_cores (c : Nat) (x : Dfa) : (s.setDfa c x).cores = s.cores := rfl
@[simp] theorem State.setDfa_tiles (c : Nat) (x : Dfa) : (s.setDfa c x).tiles = s.tiles := rfl
@[simp] theorem State.setDfa_tallies (c : Nat) (x : Dfa) : (s.setDfa c x).tallies = s.tallies := rfl
@[simp] theorem State.setDfa_movers (c : Nat) (x : Dfa) : (s.setDfa c x).movers = s.movers := rfl
@[simp] theorem State.setDfa_hostWrites (c : Nat) (x : Dfa) : (s.setDfa c x).hostWrites = s.hostWrites := rfl
@[simp] theorem State.setDfa_nextCtx (c : Nat) (x : Dfa) : (s.setDfa c x).nextCtx = s.nextCtx := rfl
@[simp] theorem State.setDfa_pst (c : Nat) (x : Dfa) : (s.setDfa c x).pst = s.pst := rfl
@[simp] theorem State.setDfa_pstPages (c : Nat) (x : Dfa) : (s.setDfa c x).pstPages = s.pstPages := rfl
@[simp] theorem State.setDfa_pstOp (c : Nat) (x : Dfa) : (s.setDfa c x).pstOp = s.pstOp := rfl
@[simp] theorem State.setDfa_cip (c : Nat) (x : Dfa) : (s.setDfa c x).cip = s.cip := rfl
@[simp] theorem State.setDfa_fuses (c : Nat) (x : Dfa) : (s.setDfa c x).fuses = s.fuses := rfl
@[simp] theorem State.setDfa_shadow (c : Nat) (x : Dfa) : (s.setDfa c x).shadow = s.shadow := rfl
@[simp] theorem State.setDfa_lnk (c : Nat) (x : Dfa) : (s.setDfa c x).lnk = s.lnk := rfl
@[simp] theorem State.setDfa_air (c : Nat) (x : Dfa) : (s.setDfa c x).air = s.air := rfl
@[simp] theorem State.setDfa_wir (c : Nat) (x : Dfa) : (s.setDfa c x).wir = s.wir := rfl
@[simp] theorem State.setDfa_line (c : Nat) (x : Dfa) : (s.setDfa c x).line = s.line := rfl
@[simp] theorem State.setDfa_sns (c : Nat) (x : Dfa) : (s.setDfa c x).sns = s.sns := rfl
@[simp] theorem State.setDfa_mesh (c : Nat) (x : Dfa) : (s.setDfa c x).mesh = s.mesh := rfl
@[simp] theorem State.setDfa_queues (c : Nat) (x : Dfa) : (s.setDfa c x).queues = s.queues := rfl
@[simp] theorem State.setDfa_front (c : Nat) (x : Dfa) : (s.setDfa c x).front = s.front := rfl
@[simp] theorem State.setDfa_pcie (c : Nat) (x : Dfa) : (s.setDfa c x).pcie = s.pcie := rfl
@[simp] theorem State.setDfa_spiLast (c : Nat) (x : Dfa) : (s.setDfa c x).spiLast = s.spiLast := rfl
@[simp] theorem State.setDfa_flrWaits (c : Nat) (x : Dfa) : (s.setDfa c x).flrWaits = s.flrWaits := rfl
@[simp] theorem State.setDfa_flrDue (c : Nat) (x : Dfa) : (s.setDfa c x).flrDue = s.flrDue := rfl
@[simp] theorem State.setDfa_boot (c : Nat) (x : Dfa) : (s.setDfa c x).boot = s.boot := rfl
@[simp] theorem State.setDfa_tap (c : Nat) (x : Dfa) : (s.setDfa c x).tap = s.tap := rfl
@[simp] theorem State.setDfa_posted (c : Nat) (x : Dfa) : (s.setDfa c x).posted = s.posted := rfl
@[simp] theorem State.setDfa_lostPosted (c : Nat) (x : Dfa) : (s.setDfa c x).lostPosted = s.lostPosted := rfl
@[simp] theorem State.setDfa_sortHeld (c : Nat) (x : Dfa) : (s.setDfa c x).sortHeld = s.sortHeld := rfl
@[simp] theorem State.setDfa_trimSets (c : Nat) (x : Dfa) : (s.setDfa c x).trimSets = s.trimSets := rfl
@[simp] theorem State.setDfa_hostReads (c : Nat) (x : Dfa) : (s.setDfa c x).hostReads = s.hostReads := rfl

/-! ### setZone -/

@[simp] theorem State.setZone_pending (z : Nat) (x : Zone) : (s.setZone z x).pending = s.pending := rfl
@[simp] theorem State.setZone_free (z : Nat) (x : Zone) : (s.setZone z x).free = s.free := rfl
@[simp] theorem State.setZone_regs (z : Nat) (x : Zone) : (s.setZone z x).regs = s.regs := rfl
@[simp] theorem State.setZone_mem (z : Nat) (x : Zone) : (s.setZone z x).mem = s.mem := rfl
@[simp] theorem State.setZone_tags (z : Nat) (x : Zone) : (s.setZone z x).tags = s.tags := rfl
@[simp] theorem State.setZone_marks (z : Nat) (x : Zone) : (s.setZone z x).marks = s.marks := rfl
@[simp] theorem State.setZone_pulses (z : Nat) (x : Zone) : (s.setZone z x).pulses = s.pulses := rfl
@[simp] theorem State.setZone_arriving (z : Nat) (x : Zone) : (s.setZone z x).arriving = s.arriving := rfl
@[simp] theorem State.setZone_readData (z : Nat) (x : Zone) : (s.setZone z x).readData = s.readData := rfl
@[simp] theorem State.setZone_fresh (z : Nat) (x : Zone) : (s.setZone z x).fresh = s.fresh := rfl
@[simp] theorem State.setZone_aonCycles (z : Nat) (x : Zone) : (s.setZone z x).aonCycles = s.aonCycles := rfl
@[simp] theorem State.setZone_evtCycles (z : Nat) (x : Zone) : (s.setZone z x).evtCycles = s.evtCycles := rfl
@[simp] theorem State.setZone_held (z : Nat) (x : Zone) : (s.setZone z x).held = s.held := rfl
@[simp] theorem State.setZone_weather (z : Nat) (x : Zone) : (s.setZone z x).weather = s.weather := rfl
@[simp] theorem State.setZone_waiting (z : Nat) (x : Zone) : (s.setZone z x).waiting = s.waiting := rfl
@[simp] theorem State.setZone_target (z : Nat) (x : Zone) : (s.setZone z x).target = s.target := rfl
@[simp] theorem State.setZone_wakeDue (z : Nat) (x : Zone) : (s.setZone z x).wakeDue = s.wakeDue := rfl
@[simp] theorem State.setZone_rtc (z : Nat) (x : Zone) : (s.setZone z x).rtc = s.rtc := rfl
@[simp] theorem State.setZone_log (z : Nat) (x : Zone) : (s.setZone z x).log = s.log := rfl
@[simp] theorem State.setZone_disTicks (z : Nat) (x : Zone) : (s.setZone z x).disTicks = s.disTicks := rfl
@[simp] theorem State.setZone_flight (z : Nat) (x : Zone) : (s.setZone z x).flight = s.flight := rfl
@[simp] theorem State.setZone_mail (z : Nat) (x : Zone) : (s.setZone z x).mail = s.mail := rfl
@[simp] theorem State.setZone_sortRaw (z : Nat) (x : Zone) : (s.setZone z x).sortRaw = s.sortRaw := rfl
@[simp] theorem State.setZone_swStart (z : Nat) (x : Zone) : (s.setZone z x).swStart = s.swStart := rfl
@[simp] theorem State.setZone_msix (z : Nat) (x : Zone) : (s.setZone z x).msix = s.msix := rfl
@[simp] theorem State.setZone_msixPend (z : Nat) (x : Zone) : (s.setZone z x).msixPend = s.msixPend := rfl
@[simp] theorem State.setZone_msixEnable (z : Nat) (x : Zone) : (s.setZone z x).msixEnable = s.msixEnable := rfl
@[simp] theorem State.setZone_msixMaskAll (z : Nat) (x : Zone) : (s.setZone z x).msixMaskAll = s.msixMaskAll := rfl
@[simp] theorem State.setZone_messages (z : Nat) (x : Zone) : (s.setZone z x).messages = s.messages := rfl
@[simp] theorem State.setZone_cores (z : Nat) (x : Zone) : (s.setZone z x).cores = s.cores := rfl
@[simp] theorem State.setZone_tiles (z : Nat) (x : Zone) : (s.setZone z x).tiles = s.tiles := rfl
@[simp] theorem State.setZone_tallies (z : Nat) (x : Zone) : (s.setZone z x).tallies = s.tallies := rfl
@[simp] theorem State.setZone_movers (z : Nat) (x : Zone) : (s.setZone z x).movers = s.movers := rfl
@[simp] theorem State.setZone_hostWrites (z : Nat) (x : Zone) : (s.setZone z x).hostWrites = s.hostWrites := rfl
@[simp] theorem State.setZone_dfas (z : Nat) (x : Zone) : (s.setZone z x).dfas = s.dfas := rfl
@[simp] theorem State.setZone_nextCtx (z : Nat) (x : Zone) : (s.setZone z x).nextCtx = s.nextCtx := rfl
@[simp] theorem State.setZone_pst (z : Nat) (x : Zone) : (s.setZone z x).pst = s.pst := rfl
@[simp] theorem State.setZone_pstPages (z : Nat) (x : Zone) : (s.setZone z x).pstPages = s.pstPages := rfl
@[simp] theorem State.setZone_pstOp (z : Nat) (x : Zone) : (s.setZone z x).pstOp = s.pstOp := rfl
@[simp] theorem State.setZone_cip (z : Nat) (x : Zone) : (s.setZone z x).cip = s.cip := rfl
@[simp] theorem State.setZone_fuses (z : Nat) (x : Zone) : (s.setZone z x).fuses = s.fuses := rfl
@[simp] theorem State.setZone_shadow (z : Nat) (x : Zone) : (s.setZone z x).shadow = s.shadow := rfl
@[simp] theorem State.setZone_lnk (z : Nat) (x : Zone) : (s.setZone z x).lnk = s.lnk := rfl
@[simp] theorem State.setZone_air (z : Nat) (x : Zone) : (s.setZone z x).air = s.air := rfl
@[simp] theorem State.setZone_wir (z : Nat) (x : Zone) : (s.setZone z x).wir = s.wir := rfl
@[simp] theorem State.setZone_line (z : Nat) (x : Zone) : (s.setZone z x).line = s.line := rfl
@[simp] theorem State.setZone_sns (z : Nat) (x : Zone) : (s.setZone z x).sns = s.sns := rfl
@[simp] theorem State.setZone_mesh (z : Nat) (x : Zone) : (s.setZone z x).mesh = s.mesh := rfl
@[simp] theorem State.setZone_queues (z : Nat) (x : Zone) : (s.setZone z x).queues = s.queues := rfl
@[simp] theorem State.setZone_front (z : Nat) (x : Zone) : (s.setZone z x).front = s.front := rfl
@[simp] theorem State.setZone_pcie (z : Nat) (x : Zone) : (s.setZone z x).pcie = s.pcie := rfl
@[simp] theorem State.setZone_spiLast (z : Nat) (x : Zone) : (s.setZone z x).spiLast = s.spiLast := rfl
@[simp] theorem State.setZone_flrWaits (z : Nat) (x : Zone) : (s.setZone z x).flrWaits = s.flrWaits := rfl
@[simp] theorem State.setZone_flrDue (z : Nat) (x : Zone) : (s.setZone z x).flrDue = s.flrDue := rfl
@[simp] theorem State.setZone_boot (z : Nat) (x : Zone) : (s.setZone z x).boot = s.boot := rfl
@[simp] theorem State.setZone_tap (z : Nat) (x : Zone) : (s.setZone z x).tap = s.tap := rfl
@[simp] theorem State.setZone_posted (z : Nat) (x : Zone) : (s.setZone z x).posted = s.posted := rfl
@[simp] theorem State.setZone_lostPosted (z : Nat) (x : Zone) : (s.setZone z x).lostPosted = s.lostPosted := rfl
@[simp] theorem State.setZone_sortHeld (z : Nat) (x : Zone) : (s.setZone z x).sortHeld = s.sortHeld := rfl
@[simp] theorem State.setZone_trimSets (z : Nat) (x : Zone) : (s.setZone z x).trimSets = s.trimSets := rfl
@[simp] theorem State.setZone_hostReads (z : Nat) (x : Zone) : (s.setZone z x).hostReads = s.hostReads := rfl

/-! ### setQueue -/

@[simp] theorem State.setQueue_pending (q : Nat) (x : Queue) : (s.setQueue q x).pending = s.pending := rfl
@[simp] theorem State.setQueue_free (q : Nat) (x : Queue) : (s.setQueue q x).free = s.free := rfl
@[simp] theorem State.setQueue_regs (q : Nat) (x : Queue) : (s.setQueue q x).regs = s.regs := rfl
@[simp] theorem State.setQueue_mem (q : Nat) (x : Queue) : (s.setQueue q x).mem = s.mem := rfl
@[simp] theorem State.setQueue_tags (q : Nat) (x : Queue) : (s.setQueue q x).tags = s.tags := rfl
@[simp] theorem State.setQueue_marks (q : Nat) (x : Queue) : (s.setQueue q x).marks = s.marks := rfl
@[simp] theorem State.setQueue_pulses (q : Nat) (x : Queue) : (s.setQueue q x).pulses = s.pulses := rfl
@[simp] theorem State.setQueue_arriving (q : Nat) (x : Queue) : (s.setQueue q x).arriving = s.arriving := rfl
@[simp] theorem State.setQueue_readData (q : Nat) (x : Queue) : (s.setQueue q x).readData = s.readData := rfl
@[simp] theorem State.setQueue_zones (q : Nat) (x : Queue) : (s.setQueue q x).zones = s.zones := rfl
@[simp] theorem State.setQueue_fresh (q : Nat) (x : Queue) : (s.setQueue q x).fresh = s.fresh := rfl
@[simp] theorem State.setQueue_aonCycles (q : Nat) (x : Queue) : (s.setQueue q x).aonCycles = s.aonCycles := rfl
@[simp] theorem State.setQueue_evtCycles (q : Nat) (x : Queue) : (s.setQueue q x).evtCycles = s.evtCycles := rfl
@[simp] theorem State.setQueue_held (q : Nat) (x : Queue) : (s.setQueue q x).held = s.held := rfl
@[simp] theorem State.setQueue_weather (q : Nat) (x : Queue) : (s.setQueue q x).weather = s.weather := rfl
@[simp] theorem State.setQueue_waiting (q : Nat) (x : Queue) : (s.setQueue q x).waiting = s.waiting := rfl
@[simp] theorem State.setQueue_target (q : Nat) (x : Queue) : (s.setQueue q x).target = s.target := rfl
@[simp] theorem State.setQueue_wakeDue (q : Nat) (x : Queue) : (s.setQueue q x).wakeDue = s.wakeDue := rfl
@[simp] theorem State.setQueue_rtc (q : Nat) (x : Queue) : (s.setQueue q x).rtc = s.rtc := rfl
@[simp] theorem State.setQueue_log (q : Nat) (x : Queue) : (s.setQueue q x).log = s.log := rfl
@[simp] theorem State.setQueue_disTicks (q : Nat) (x : Queue) : (s.setQueue q x).disTicks = s.disTicks := rfl
@[simp] theorem State.setQueue_flight (q : Nat) (x : Queue) : (s.setQueue q x).flight = s.flight := rfl
@[simp] theorem State.setQueue_mail (q : Nat) (x : Queue) : (s.setQueue q x).mail = s.mail := rfl
@[simp] theorem State.setQueue_sortRaw (q : Nat) (x : Queue) : (s.setQueue q x).sortRaw = s.sortRaw := rfl
@[simp] theorem State.setQueue_swStart (q : Nat) (x : Queue) : (s.setQueue q x).swStart = s.swStart := rfl
@[simp] theorem State.setQueue_msix (q : Nat) (x : Queue) : (s.setQueue q x).msix = s.msix := rfl
@[simp] theorem State.setQueue_msixPend (q : Nat) (x : Queue) : (s.setQueue q x).msixPend = s.msixPend := rfl
@[simp] theorem State.setQueue_msixEnable (q : Nat) (x : Queue) : (s.setQueue q x).msixEnable = s.msixEnable := rfl
@[simp] theorem State.setQueue_msixMaskAll (q : Nat) (x : Queue) : (s.setQueue q x).msixMaskAll = s.msixMaskAll := rfl
@[simp] theorem State.setQueue_messages (q : Nat) (x : Queue) : (s.setQueue q x).messages = s.messages := rfl
@[simp] theorem State.setQueue_cores (q : Nat) (x : Queue) : (s.setQueue q x).cores = s.cores := rfl
@[simp] theorem State.setQueue_tiles (q : Nat) (x : Queue) : (s.setQueue q x).tiles = s.tiles := rfl
@[simp] theorem State.setQueue_tallies (q : Nat) (x : Queue) : (s.setQueue q x).tallies = s.tallies := rfl
@[simp] theorem State.setQueue_movers (q : Nat) (x : Queue) : (s.setQueue q x).movers = s.movers := rfl
@[simp] theorem State.setQueue_hostWrites (q : Nat) (x : Queue) : (s.setQueue q x).hostWrites = s.hostWrites := rfl
@[simp] theorem State.setQueue_dfas (q : Nat) (x : Queue) : (s.setQueue q x).dfas = s.dfas := rfl
@[simp] theorem State.setQueue_nextCtx (q : Nat) (x : Queue) : (s.setQueue q x).nextCtx = s.nextCtx := rfl
@[simp] theorem State.setQueue_pst (q : Nat) (x : Queue) : (s.setQueue q x).pst = s.pst := rfl
@[simp] theorem State.setQueue_pstPages (q : Nat) (x : Queue) : (s.setQueue q x).pstPages = s.pstPages := rfl
@[simp] theorem State.setQueue_pstOp (q : Nat) (x : Queue) : (s.setQueue q x).pstOp = s.pstOp := rfl
@[simp] theorem State.setQueue_cip (q : Nat) (x : Queue) : (s.setQueue q x).cip = s.cip := rfl
@[simp] theorem State.setQueue_fuses (q : Nat) (x : Queue) : (s.setQueue q x).fuses = s.fuses := rfl
@[simp] theorem State.setQueue_shadow (q : Nat) (x : Queue) : (s.setQueue q x).shadow = s.shadow := rfl
@[simp] theorem State.setQueue_lnk (q : Nat) (x : Queue) : (s.setQueue q x).lnk = s.lnk := rfl
@[simp] theorem State.setQueue_air (q : Nat) (x : Queue) : (s.setQueue q x).air = s.air := rfl
@[simp] theorem State.setQueue_wir (q : Nat) (x : Queue) : (s.setQueue q x).wir = s.wir := rfl
@[simp] theorem State.setQueue_line (q : Nat) (x : Queue) : (s.setQueue q x).line = s.line := rfl
@[simp] theorem State.setQueue_sns (q : Nat) (x : Queue) : (s.setQueue q x).sns = s.sns := rfl
@[simp] theorem State.setQueue_mesh (q : Nat) (x : Queue) : (s.setQueue q x).mesh = s.mesh := rfl
@[simp] theorem State.setQueue_front (q : Nat) (x : Queue) : (s.setQueue q x).front = s.front := rfl
@[simp] theorem State.setQueue_pcie (q : Nat) (x : Queue) : (s.setQueue q x).pcie = s.pcie := rfl
@[simp] theorem State.setQueue_spiLast (q : Nat) (x : Queue) : (s.setQueue q x).spiLast = s.spiLast := rfl
@[simp] theorem State.setQueue_flrWaits (q : Nat) (x : Queue) : (s.setQueue q x).flrWaits = s.flrWaits := rfl
@[simp] theorem State.setQueue_flrDue (q : Nat) (x : Queue) : (s.setQueue q x).flrDue = s.flrDue := rfl
@[simp] theorem State.setQueue_boot (q : Nat) (x : Queue) : (s.setQueue q x).boot = s.boot := rfl
@[simp] theorem State.setQueue_tap (q : Nat) (x : Queue) : (s.setQueue q x).tap = s.tap := rfl
@[simp] theorem State.setQueue_posted (q : Nat) (x : Queue) : (s.setQueue q x).posted = s.posted := rfl
@[simp] theorem State.setQueue_lostPosted (q : Nat) (x : Queue) : (s.setQueue q x).lostPosted = s.lostPosted := rfl
@[simp] theorem State.setQueue_sortHeld (q : Nat) (x : Queue) : (s.setQueue q x).sortHeld = s.sortHeld := rfl
@[simp] theorem State.setQueue_trimSets (q : Nat) (x : Queue) : (s.setQueue q x).trimSets = s.trimSets := rfl
@[simp] theorem State.setQueue_hostReads (q : Nat) (x : Queue) : (s.setQueue q x).hostReads = s.hostReads := rfl

/-! ### setCipKey -/

@[simp] theorem State.setCipKey_pending (k : Nat) (x : CipKey) : (s.setCipKey k x).pending = s.pending := rfl
@[simp] theorem State.setCipKey_free (k : Nat) (x : CipKey) : (s.setCipKey k x).free = s.free := rfl
@[simp] theorem State.setCipKey_regs (k : Nat) (x : CipKey) : (s.setCipKey k x).regs = s.regs := rfl
@[simp] theorem State.setCipKey_mem (k : Nat) (x : CipKey) : (s.setCipKey k x).mem = s.mem := rfl
@[simp] theorem State.setCipKey_tags (k : Nat) (x : CipKey) : (s.setCipKey k x).tags = s.tags := rfl
@[simp] theorem State.setCipKey_marks (k : Nat) (x : CipKey) : (s.setCipKey k x).marks = s.marks := rfl
@[simp] theorem State.setCipKey_pulses (k : Nat) (x : CipKey) : (s.setCipKey k x).pulses = s.pulses := rfl
@[simp] theorem State.setCipKey_arriving (k : Nat) (x : CipKey) : (s.setCipKey k x).arriving = s.arriving := rfl
@[simp] theorem State.setCipKey_readData (k : Nat) (x : CipKey) : (s.setCipKey k x).readData = s.readData := rfl
@[simp] theorem State.setCipKey_zones (k : Nat) (x : CipKey) : (s.setCipKey k x).zones = s.zones := rfl
@[simp] theorem State.setCipKey_fresh (k : Nat) (x : CipKey) : (s.setCipKey k x).fresh = s.fresh := rfl
@[simp] theorem State.setCipKey_aonCycles (k : Nat) (x : CipKey) : (s.setCipKey k x).aonCycles = s.aonCycles := rfl
@[simp] theorem State.setCipKey_evtCycles (k : Nat) (x : CipKey) : (s.setCipKey k x).evtCycles = s.evtCycles := rfl
@[simp] theorem State.setCipKey_held (k : Nat) (x : CipKey) : (s.setCipKey k x).held = s.held := rfl
@[simp] theorem State.setCipKey_weather (k : Nat) (x : CipKey) : (s.setCipKey k x).weather = s.weather := rfl
@[simp] theorem State.setCipKey_waiting (k : Nat) (x : CipKey) : (s.setCipKey k x).waiting = s.waiting := rfl
@[simp] theorem State.setCipKey_target (k : Nat) (x : CipKey) : (s.setCipKey k x).target = s.target := rfl
@[simp] theorem State.setCipKey_wakeDue (k : Nat) (x : CipKey) : (s.setCipKey k x).wakeDue = s.wakeDue := rfl
@[simp] theorem State.setCipKey_rtc (k : Nat) (x : CipKey) : (s.setCipKey k x).rtc = s.rtc := rfl
@[simp] theorem State.setCipKey_log (k : Nat) (x : CipKey) : (s.setCipKey k x).log = s.log := rfl
@[simp] theorem State.setCipKey_disTicks (k : Nat) (x : CipKey) : (s.setCipKey k x).disTicks = s.disTicks := rfl
@[simp] theorem State.setCipKey_flight (k : Nat) (x : CipKey) : (s.setCipKey k x).flight = s.flight := rfl
@[simp] theorem State.setCipKey_mail (k : Nat) (x : CipKey) : (s.setCipKey k x).mail = s.mail := rfl
@[simp] theorem State.setCipKey_sortRaw (k : Nat) (x : CipKey) : (s.setCipKey k x).sortRaw = s.sortRaw := rfl
@[simp] theorem State.setCipKey_swStart (k : Nat) (x : CipKey) : (s.setCipKey k x).swStart = s.swStart := rfl
@[simp] theorem State.setCipKey_msix (k : Nat) (x : CipKey) : (s.setCipKey k x).msix = s.msix := rfl
@[simp] theorem State.setCipKey_msixPend (k : Nat) (x : CipKey) : (s.setCipKey k x).msixPend = s.msixPend := rfl
@[simp] theorem State.setCipKey_msixEnable (k : Nat) (x : CipKey) : (s.setCipKey k x).msixEnable = s.msixEnable := rfl
@[simp] theorem State.setCipKey_msixMaskAll (k : Nat) (x : CipKey) : (s.setCipKey k x).msixMaskAll = s.msixMaskAll := rfl
@[simp] theorem State.setCipKey_messages (k : Nat) (x : CipKey) : (s.setCipKey k x).messages = s.messages := rfl
@[simp] theorem State.setCipKey_cores (k : Nat) (x : CipKey) : (s.setCipKey k x).cores = s.cores := rfl
@[simp] theorem State.setCipKey_tiles (k : Nat) (x : CipKey) : (s.setCipKey k x).tiles = s.tiles := rfl
@[simp] theorem State.setCipKey_tallies (k : Nat) (x : CipKey) : (s.setCipKey k x).tallies = s.tallies := rfl
@[simp] theorem State.setCipKey_movers (k : Nat) (x : CipKey) : (s.setCipKey k x).movers = s.movers := rfl
@[simp] theorem State.setCipKey_hostWrites (k : Nat) (x : CipKey) : (s.setCipKey k x).hostWrites = s.hostWrites := rfl
@[simp] theorem State.setCipKey_dfas (k : Nat) (x : CipKey) : (s.setCipKey k x).dfas = s.dfas := rfl
@[simp] theorem State.setCipKey_nextCtx (k : Nat) (x : CipKey) : (s.setCipKey k x).nextCtx = s.nextCtx := rfl
@[simp] theorem State.setCipKey_pst (k : Nat) (x : CipKey) : (s.setCipKey k x).pst = s.pst := rfl
@[simp] theorem State.setCipKey_pstPages (k : Nat) (x : CipKey) : (s.setCipKey k x).pstPages = s.pstPages := rfl
@[simp] theorem State.setCipKey_pstOp (k : Nat) (x : CipKey) : (s.setCipKey k x).pstOp = s.pstOp := rfl
@[simp] theorem State.setCipKey_fuses (k : Nat) (x : CipKey) : (s.setCipKey k x).fuses = s.fuses := rfl
@[simp] theorem State.setCipKey_shadow (k : Nat) (x : CipKey) : (s.setCipKey k x).shadow = s.shadow := rfl
@[simp] theorem State.setCipKey_lnk (k : Nat) (x : CipKey) : (s.setCipKey k x).lnk = s.lnk := rfl
@[simp] theorem State.setCipKey_air (k : Nat) (x : CipKey) : (s.setCipKey k x).air = s.air := rfl
@[simp] theorem State.setCipKey_wir (k : Nat) (x : CipKey) : (s.setCipKey k x).wir = s.wir := rfl
@[simp] theorem State.setCipKey_line (k : Nat) (x : CipKey) : (s.setCipKey k x).line = s.line := rfl
@[simp] theorem State.setCipKey_sns (k : Nat) (x : CipKey) : (s.setCipKey k x).sns = s.sns := rfl
@[simp] theorem State.setCipKey_mesh (k : Nat) (x : CipKey) : (s.setCipKey k x).mesh = s.mesh := rfl
@[simp] theorem State.setCipKey_queues (k : Nat) (x : CipKey) : (s.setCipKey k x).queues = s.queues := rfl
@[simp] theorem State.setCipKey_front (k : Nat) (x : CipKey) : (s.setCipKey k x).front = s.front := rfl
@[simp] theorem State.setCipKey_pcie (k : Nat) (x : CipKey) : (s.setCipKey k x).pcie = s.pcie := rfl
@[simp] theorem State.setCipKey_spiLast (k : Nat) (x : CipKey) : (s.setCipKey k x).spiLast = s.spiLast := rfl
@[simp] theorem State.setCipKey_flrWaits (k : Nat) (x : CipKey) : (s.setCipKey k x).flrWaits = s.flrWaits := rfl
@[simp] theorem State.setCipKey_flrDue (k : Nat) (x : CipKey) : (s.setCipKey k x).flrDue = s.flrDue := rfl
@[simp] theorem State.setCipKey_boot (k : Nat) (x : CipKey) : (s.setCipKey k x).boot = s.boot := rfl
@[simp] theorem State.setCipKey_tap (k : Nat) (x : CipKey) : (s.setCipKey k x).tap = s.tap := rfl
@[simp] theorem State.setCipKey_posted (k : Nat) (x : CipKey) : (s.setCipKey k x).posted = s.posted := rfl
@[simp] theorem State.setCipKey_lostPosted (k : Nat) (x : CipKey) : (s.setCipKey k x).lostPosted = s.lostPosted := rfl
@[simp] theorem State.setCipKey_sortHeld (k : Nat) (x : CipKey) : (s.setCipKey k x).sortHeld = s.sortHeld := rfl
@[simp] theorem State.setCipKey_trimSets (k : Nat) (x : CipKey) : (s.setCipKey k x).trimSets = s.trimSets := rfl
@[simp] theorem State.setCipKey_hostReads (k : Nat) (x : CipKey) : (s.setCipKey k x).hostReads = s.hostReads := rfl

/-! ### setTrimSet -/

@[simp] theorem State.setTrimSet_pending (t : Nat) (x : TrimSet) : (s.setTrimSet t x).pending = s.pending := rfl
@[simp] theorem State.setTrimSet_free (t : Nat) (x : TrimSet) : (s.setTrimSet t x).free = s.free := rfl
@[simp] theorem State.setTrimSet_regs (t : Nat) (x : TrimSet) : (s.setTrimSet t x).regs = s.regs := rfl
@[simp] theorem State.setTrimSet_mem (t : Nat) (x : TrimSet) : (s.setTrimSet t x).mem = s.mem := rfl
@[simp] theorem State.setTrimSet_tags (t : Nat) (x : TrimSet) : (s.setTrimSet t x).tags = s.tags := rfl
@[simp] theorem State.setTrimSet_marks (t : Nat) (x : TrimSet) : (s.setTrimSet t x).marks = s.marks := rfl
@[simp] theorem State.setTrimSet_pulses (t : Nat) (x : TrimSet) : (s.setTrimSet t x).pulses = s.pulses := rfl
@[simp] theorem State.setTrimSet_arriving (t : Nat) (x : TrimSet) : (s.setTrimSet t x).arriving = s.arriving := rfl
@[simp] theorem State.setTrimSet_readData (t : Nat) (x : TrimSet) : (s.setTrimSet t x).readData = s.readData := rfl
@[simp] theorem State.setTrimSet_zones (t : Nat) (x : TrimSet) : (s.setTrimSet t x).zones = s.zones := rfl
@[simp] theorem State.setTrimSet_fresh (t : Nat) (x : TrimSet) : (s.setTrimSet t x).fresh = s.fresh := rfl
@[simp] theorem State.setTrimSet_aonCycles (t : Nat) (x : TrimSet) : (s.setTrimSet t x).aonCycles = s.aonCycles := rfl
@[simp] theorem State.setTrimSet_evtCycles (t : Nat) (x : TrimSet) : (s.setTrimSet t x).evtCycles = s.evtCycles := rfl
@[simp] theorem State.setTrimSet_held (t : Nat) (x : TrimSet) : (s.setTrimSet t x).held = s.held := rfl
@[simp] theorem State.setTrimSet_weather (t : Nat) (x : TrimSet) : (s.setTrimSet t x).weather = s.weather := rfl
@[simp] theorem State.setTrimSet_waiting (t : Nat) (x : TrimSet) : (s.setTrimSet t x).waiting = s.waiting := rfl
@[simp] theorem State.setTrimSet_target (t : Nat) (x : TrimSet) : (s.setTrimSet t x).target = s.target := rfl
@[simp] theorem State.setTrimSet_wakeDue (t : Nat) (x : TrimSet) : (s.setTrimSet t x).wakeDue = s.wakeDue := rfl
@[simp] theorem State.setTrimSet_rtc (t : Nat) (x : TrimSet) : (s.setTrimSet t x).rtc = s.rtc := rfl
@[simp] theorem State.setTrimSet_log (t : Nat) (x : TrimSet) : (s.setTrimSet t x).log = s.log := rfl
@[simp] theorem State.setTrimSet_disTicks (t : Nat) (x : TrimSet) : (s.setTrimSet t x).disTicks = s.disTicks := rfl
@[simp] theorem State.setTrimSet_flight (t : Nat) (x : TrimSet) : (s.setTrimSet t x).flight = s.flight := rfl
@[simp] theorem State.setTrimSet_mail (t : Nat) (x : TrimSet) : (s.setTrimSet t x).mail = s.mail := rfl
@[simp] theorem State.setTrimSet_posted (t : Nat) (x : TrimSet) : (s.setTrimSet t x).posted = s.posted := rfl
@[simp] theorem State.setTrimSet_lostPosted (t : Nat) (x : TrimSet) : (s.setTrimSet t x).lostPosted = s.lostPosted := rfl
@[simp] theorem State.setTrimSet_sortRaw (t : Nat) (x : TrimSet) : (s.setTrimSet t x).sortRaw = s.sortRaw := rfl
@[simp] theorem State.setTrimSet_sortHeld (t : Nat) (x : TrimSet) : (s.setTrimSet t x).sortHeld = s.sortHeld := rfl
@[simp] theorem State.setTrimSet_swStart (t : Nat) (x : TrimSet) : (s.setTrimSet t x).swStart = s.swStart := rfl
@[simp] theorem State.setTrimSet_msix (t : Nat) (x : TrimSet) : (s.setTrimSet t x).msix = s.msix := rfl
@[simp] theorem State.setTrimSet_msixPend (t : Nat) (x : TrimSet) : (s.setTrimSet t x).msixPend = s.msixPend := rfl
@[simp] theorem State.setTrimSet_msixEnable (t : Nat) (x : TrimSet) : (s.setTrimSet t x).msixEnable = s.msixEnable := rfl
@[simp] theorem State.setTrimSet_msixMaskAll (t : Nat) (x : TrimSet) : (s.setTrimSet t x).msixMaskAll = s.msixMaskAll := rfl
@[simp] theorem State.setTrimSet_messages (t : Nat) (x : TrimSet) : (s.setTrimSet t x).messages = s.messages := rfl
@[simp] theorem State.setTrimSet_cores (t : Nat) (x : TrimSet) : (s.setTrimSet t x).cores = s.cores := rfl
@[simp] theorem State.setTrimSet_tiles (t : Nat) (x : TrimSet) : (s.setTrimSet t x).tiles = s.tiles := rfl
@[simp] theorem State.setTrimSet_tallies (t : Nat) (x : TrimSet) : (s.setTrimSet t x).tallies = s.tallies := rfl
@[simp] theorem State.setTrimSet_movers (t : Nat) (x : TrimSet) : (s.setTrimSet t x).movers = s.movers := rfl
@[simp] theorem State.setTrimSet_hostWrites (t : Nat) (x : TrimSet) : (s.setTrimSet t x).hostWrites = s.hostWrites := rfl
@[simp] theorem State.setTrimSet_hostReads (t : Nat) (x : TrimSet) : (s.setTrimSet t x).hostReads = s.hostReads := rfl
@[simp] theorem State.setTrimSet_dfas (t : Nat) (x : TrimSet) : (s.setTrimSet t x).dfas = s.dfas := rfl
@[simp] theorem State.setTrimSet_nextCtx (t : Nat) (x : TrimSet) : (s.setTrimSet t x).nextCtx = s.nextCtx := rfl
@[simp] theorem State.setTrimSet_pst (t : Nat) (x : TrimSet) : (s.setTrimSet t x).pst = s.pst := rfl
@[simp] theorem State.setTrimSet_pstPages (t : Nat) (x : TrimSet) : (s.setTrimSet t x).pstPages = s.pstPages := rfl
@[simp] theorem State.setTrimSet_pstOp (t : Nat) (x : TrimSet) : (s.setTrimSet t x).pstOp = s.pstOp := rfl
@[simp] theorem State.setTrimSet_cip (t : Nat) (x : TrimSet) : (s.setTrimSet t x).cip = s.cip := rfl
@[simp] theorem State.setTrimSet_fuses (t : Nat) (x : TrimSet) : (s.setTrimSet t x).fuses = s.fuses := rfl
@[simp] theorem State.setTrimSet_shadow (t : Nat) (x : TrimSet) : (s.setTrimSet t x).shadow = s.shadow := rfl
@[simp] theorem State.setTrimSet_lnk (t : Nat) (x : TrimSet) : (s.setTrimSet t x).lnk = s.lnk := rfl
@[simp] theorem State.setTrimSet_air (t : Nat) (x : TrimSet) : (s.setTrimSet t x).air = s.air := rfl
@[simp] theorem State.setTrimSet_wir (t : Nat) (x : TrimSet) : (s.setTrimSet t x).wir = s.wir := rfl
@[simp] theorem State.setTrimSet_line (t : Nat) (x : TrimSet) : (s.setTrimSet t x).line = s.line := rfl
@[simp] theorem State.setTrimSet_sns (t : Nat) (x : TrimSet) : (s.setTrimSet t x).sns = s.sns := rfl
@[simp] theorem State.setTrimSet_mesh (t : Nat) (x : TrimSet) : (s.setTrimSet t x).mesh = s.mesh := rfl
@[simp] theorem State.setTrimSet_queues (t : Nat) (x : TrimSet) : (s.setTrimSet t x).queues = s.queues := rfl
@[simp] theorem State.setTrimSet_front (t : Nat) (x : TrimSet) : (s.setTrimSet t x).front = s.front := rfl
@[simp] theorem State.setTrimSet_pcie (t : Nat) (x : TrimSet) : (s.setTrimSet t x).pcie = s.pcie := rfl
@[simp] theorem State.setTrimSet_spiLast (t : Nat) (x : TrimSet) : (s.setTrimSet t x).spiLast = s.spiLast := rfl
@[simp] theorem State.setTrimSet_flrWaits (t : Nat) (x : TrimSet) : (s.setTrimSet t x).flrWaits = s.flrWaits := rfl
@[simp] theorem State.setTrimSet_flrDue (t : Nat) (x : TrimSet) : (s.setTrimSet t x).flrDue = s.flrDue := rfl
@[simp] theorem State.setTrimSet_boot (t : Nat) (x : TrimSet) : (s.setTrimSet t x).boot = s.boot := rfl
@[simp] theorem State.setTrimSet_tap (t : Nat) (x : TrimSet) : (s.setTrimSet t x).tap = s.tap := rfl

/-! ### setPort -/

@[simp] theorem State.setPort_pending (n : Nat) (p : SnsPort) : (s.setPort n p).pending = s.pending := rfl
@[simp] theorem State.setPort_free (n : Nat) (p : SnsPort) : (s.setPort n p).free = s.free := rfl
@[simp] theorem State.setPort_regs (n : Nat) (p : SnsPort) : (s.setPort n p).regs = s.regs := rfl
@[simp] theorem State.setPort_mem (n : Nat) (p : SnsPort) : (s.setPort n p).mem = s.mem := rfl
@[simp] theorem State.setPort_tags (n : Nat) (p : SnsPort) : (s.setPort n p).tags = s.tags := rfl
@[simp] theorem State.setPort_marks (n : Nat) (p : SnsPort) : (s.setPort n p).marks = s.marks := rfl
@[simp] theorem State.setPort_pulses (n : Nat) (p : SnsPort) : (s.setPort n p).pulses = s.pulses := rfl
@[simp] theorem State.setPort_arriving (n : Nat) (p : SnsPort) : (s.setPort n p).arriving = s.arriving := rfl
@[simp] theorem State.setPort_readData (n : Nat) (p : SnsPort) : (s.setPort n p).readData = s.readData := rfl
@[simp] theorem State.setPort_zones (n : Nat) (p : SnsPort) : (s.setPort n p).zones = s.zones := rfl
@[simp] theorem State.setPort_fresh (n : Nat) (p : SnsPort) : (s.setPort n p).fresh = s.fresh := rfl
@[simp] theorem State.setPort_aonCycles (n : Nat) (p : SnsPort) : (s.setPort n p).aonCycles = s.aonCycles := rfl
@[simp] theorem State.setPort_evtCycles (n : Nat) (p : SnsPort) : (s.setPort n p).evtCycles = s.evtCycles := rfl
@[simp] theorem State.setPort_held (n : Nat) (p : SnsPort) : (s.setPort n p).held = s.held := rfl
@[simp] theorem State.setPort_weather (n : Nat) (p : SnsPort) : (s.setPort n p).weather = s.weather := rfl
@[simp] theorem State.setPort_waiting (n : Nat) (p : SnsPort) : (s.setPort n p).waiting = s.waiting := rfl
@[simp] theorem State.setPort_target (n : Nat) (p : SnsPort) : (s.setPort n p).target = s.target := rfl
@[simp] theorem State.setPort_wakeDue (n : Nat) (p : SnsPort) : (s.setPort n p).wakeDue = s.wakeDue := rfl
@[simp] theorem State.setPort_rtc (n : Nat) (p : SnsPort) : (s.setPort n p).rtc = s.rtc := rfl
@[simp] theorem State.setPort_log (n : Nat) (p : SnsPort) : (s.setPort n p).log = s.log := rfl
@[simp] theorem State.setPort_disTicks (n : Nat) (p : SnsPort) : (s.setPort n p).disTicks = s.disTicks := rfl
@[simp] theorem State.setPort_flight (n : Nat) (p : SnsPort) : (s.setPort n p).flight = s.flight := rfl
@[simp] theorem State.setPort_mail (n : Nat) (p : SnsPort) : (s.setPort n p).mail = s.mail := rfl
@[simp] theorem State.setPort_posted (n : Nat) (p : SnsPort) : (s.setPort n p).posted = s.posted := rfl
@[simp] theorem State.setPort_lostPosted (n : Nat) (p : SnsPort) : (s.setPort n p).lostPosted = s.lostPosted := rfl
@[simp] theorem State.setPort_sortRaw (n : Nat) (p : SnsPort) : (s.setPort n p).sortRaw = s.sortRaw := rfl
@[simp] theorem State.setPort_sortHeld (n : Nat) (p : SnsPort) : (s.setPort n p).sortHeld = s.sortHeld := rfl
@[simp] theorem State.setPort_swStart (n : Nat) (p : SnsPort) : (s.setPort n p).swStart = s.swStart := rfl
@[simp] theorem State.setPort_msix (n : Nat) (p : SnsPort) : (s.setPort n p).msix = s.msix := rfl
@[simp] theorem State.setPort_msixPend (n : Nat) (p : SnsPort) : (s.setPort n p).msixPend = s.msixPend := rfl
@[simp] theorem State.setPort_msixEnable (n : Nat) (p : SnsPort) : (s.setPort n p).msixEnable = s.msixEnable := rfl
@[simp] theorem State.setPort_msixMaskAll (n : Nat) (p : SnsPort) : (s.setPort n p).msixMaskAll = s.msixMaskAll := rfl
@[simp] theorem State.setPort_messages (n : Nat) (p : SnsPort) : (s.setPort n p).messages = s.messages := rfl
@[simp] theorem State.setPort_cores (n : Nat) (p : SnsPort) : (s.setPort n p).cores = s.cores := rfl
@[simp] theorem State.setPort_tiles (n : Nat) (p : SnsPort) : (s.setPort n p).tiles = s.tiles := rfl
@[simp] theorem State.setPort_trimSets (n : Nat) (p : SnsPort) : (s.setPort n p).trimSets = s.trimSets := rfl
@[simp] theorem State.setPort_tallies (n : Nat) (p : SnsPort) : (s.setPort n p).tallies = s.tallies := rfl
@[simp] theorem State.setPort_movers (n : Nat) (p : SnsPort) : (s.setPort n p).movers = s.movers := rfl
@[simp] theorem State.setPort_hostWrites (n : Nat) (p : SnsPort) : (s.setPort n p).hostWrites = s.hostWrites := rfl
@[simp] theorem State.setPort_hostReads (n : Nat) (p : SnsPort) : (s.setPort n p).hostReads = s.hostReads := rfl
@[simp] theorem State.setPort_dfas (n : Nat) (p : SnsPort) : (s.setPort n p).dfas = s.dfas := rfl
@[simp] theorem State.setPort_nextCtx (n : Nat) (p : SnsPort) : (s.setPort n p).nextCtx = s.nextCtx := rfl
@[simp] theorem State.setPort_pst (n : Nat) (p : SnsPort) : (s.setPort n p).pst = s.pst := rfl
@[simp] theorem State.setPort_pstPages (n : Nat) (p : SnsPort) : (s.setPort n p).pstPages = s.pstPages := rfl
@[simp] theorem State.setPort_pstOp (n : Nat) (p : SnsPort) : (s.setPort n p).pstOp = s.pstOp := rfl
@[simp] theorem State.setPort_cip (n : Nat) (p : SnsPort) : (s.setPort n p).cip = s.cip := rfl
@[simp] theorem State.setPort_fuses (n : Nat) (p : SnsPort) : (s.setPort n p).fuses = s.fuses := rfl
@[simp] theorem State.setPort_shadow (n : Nat) (p : SnsPort) : (s.setPort n p).shadow = s.shadow := rfl
@[simp] theorem State.setPort_lnk (n : Nat) (p : SnsPort) : (s.setPort n p).lnk = s.lnk := rfl
@[simp] theorem State.setPort_air (n : Nat) (p : SnsPort) : (s.setPort n p).air = s.air := rfl
@[simp] theorem State.setPort_wir (n : Nat) (p : SnsPort) : (s.setPort n p).wir = s.wir := rfl
@[simp] theorem State.setPort_line (n : Nat) (p : SnsPort) : (s.setPort n p).line = s.line := rfl
@[simp] theorem State.setPort_mesh (n : Nat) (p : SnsPort) : (s.setPort n p).mesh = s.mesh := rfl
@[simp] theorem State.setPort_queues (n : Nat) (p : SnsPort) : (s.setPort n p).queues = s.queues := rfl
@[simp] theorem State.setPort_front (n : Nat) (p : SnsPort) : (s.setPort n p).front = s.front := rfl
@[simp] theorem State.setPort_pcie (n : Nat) (p : SnsPort) : (s.setPort n p).pcie = s.pcie := rfl
@[simp] theorem State.setPort_spiLast (n : Nat) (p : SnsPort) : (s.setPort n p).spiLast = s.spiLast := rfl
@[simp] theorem State.setPort_flrWaits (n : Nat) (p : SnsPort) : (s.setPort n p).flrWaits = s.flrWaits := rfl
@[simp] theorem State.setPort_flrDue (n : Nat) (p : SnsPort) : (s.setPort n p).flrDue = s.flrDue := rfl
@[simp] theorem State.setPort_boot (n : Nat) (p : SnsPort) : (s.setPort n p).boot = s.boot := rfl
@[simp] theorem State.setPort_tap (n : Nat) (p : SnsPort) : (s.setPort n p).tap = s.tap := rfl

/-! ### setMesh -/

@[simp] theorem State.setMesh_pending (m : Mesh) : (s.setMesh m).pending = s.pending := rfl
@[simp] theorem State.setMesh_free (m : Mesh) : (s.setMesh m).free = s.free := rfl
@[simp] theorem State.setMesh_regs (m : Mesh) : (s.setMesh m).regs = s.regs := rfl
@[simp] theorem State.setMesh_mem (m : Mesh) : (s.setMesh m).mem = s.mem := rfl
@[simp] theorem State.setMesh_tags (m : Mesh) : (s.setMesh m).tags = s.tags := rfl
@[simp] theorem State.setMesh_marks (m : Mesh) : (s.setMesh m).marks = s.marks := rfl
@[simp] theorem State.setMesh_pulses (m : Mesh) : (s.setMesh m).pulses = s.pulses := rfl
@[simp] theorem State.setMesh_arriving (m : Mesh) : (s.setMesh m).arriving = s.arriving := rfl
@[simp] theorem State.setMesh_readData (m : Mesh) : (s.setMesh m).readData = s.readData := rfl
@[simp] theorem State.setMesh_zones (m : Mesh) : (s.setMesh m).zones = s.zones := rfl
@[simp] theorem State.setMesh_fresh (m : Mesh) : (s.setMesh m).fresh = s.fresh := rfl
@[simp] theorem State.setMesh_aonCycles (m : Mesh) : (s.setMesh m).aonCycles = s.aonCycles := rfl
@[simp] theorem State.setMesh_evtCycles (m : Mesh) : (s.setMesh m).evtCycles = s.evtCycles := rfl
@[simp] theorem State.setMesh_held (m : Mesh) : (s.setMesh m).held = s.held := rfl
@[simp] theorem State.setMesh_weather (m : Mesh) : (s.setMesh m).weather = s.weather := rfl
@[simp] theorem State.setMesh_waiting (m : Mesh) : (s.setMesh m).waiting = s.waiting := rfl
@[simp] theorem State.setMesh_target (m : Mesh) : (s.setMesh m).target = s.target := rfl
@[simp] theorem State.setMesh_wakeDue (m : Mesh) : (s.setMesh m).wakeDue = s.wakeDue := rfl
@[simp] theorem State.setMesh_rtc (m : Mesh) : (s.setMesh m).rtc = s.rtc := rfl
@[simp] theorem State.setMesh_log (m : Mesh) : (s.setMesh m).log = s.log := rfl
@[simp] theorem State.setMesh_disTicks (m : Mesh) : (s.setMesh m).disTicks = s.disTicks := rfl
@[simp] theorem State.setMesh_flight (m : Mesh) : (s.setMesh m).flight = s.flight := rfl
@[simp] theorem State.setMesh_mail (m : Mesh) : (s.setMesh m).mail = s.mail := rfl
@[simp] theorem State.setMesh_posted (m : Mesh) : (s.setMesh m).posted = s.posted := rfl
@[simp] theorem State.setMesh_lostPosted (m : Mesh) : (s.setMesh m).lostPosted = s.lostPosted := rfl
@[simp] theorem State.setMesh_sortRaw (m : Mesh) : (s.setMesh m).sortRaw = s.sortRaw := rfl
@[simp] theorem State.setMesh_sortHeld (m : Mesh) : (s.setMesh m).sortHeld = s.sortHeld := rfl
@[simp] theorem State.setMesh_swStart (m : Mesh) : (s.setMesh m).swStart = s.swStart := rfl
@[simp] theorem State.setMesh_msix (m : Mesh) : (s.setMesh m).msix = s.msix := rfl
@[simp] theorem State.setMesh_msixPend (m : Mesh) : (s.setMesh m).msixPend = s.msixPend := rfl
@[simp] theorem State.setMesh_msixEnable (m : Mesh) : (s.setMesh m).msixEnable = s.msixEnable := rfl
@[simp] theorem State.setMesh_msixMaskAll (m : Mesh) : (s.setMesh m).msixMaskAll = s.msixMaskAll := rfl
@[simp] theorem State.setMesh_messages (m : Mesh) : (s.setMesh m).messages = s.messages := rfl
@[simp] theorem State.setMesh_cores (m : Mesh) : (s.setMesh m).cores = s.cores := rfl
@[simp] theorem State.setMesh_tiles (m : Mesh) : (s.setMesh m).tiles = s.tiles := rfl
@[simp] theorem State.setMesh_trimSets (m : Mesh) : (s.setMesh m).trimSets = s.trimSets := rfl
@[simp] theorem State.setMesh_tallies (m : Mesh) : (s.setMesh m).tallies = s.tallies := rfl
@[simp] theorem State.setMesh_movers (m : Mesh) : (s.setMesh m).movers = s.movers := rfl
@[simp] theorem State.setMesh_hostWrites (m : Mesh) : (s.setMesh m).hostWrites = s.hostWrites := rfl
@[simp] theorem State.setMesh_hostReads (m : Mesh) : (s.setMesh m).hostReads = s.hostReads := rfl
@[simp] theorem State.setMesh_dfas (m : Mesh) : (s.setMesh m).dfas = s.dfas := rfl
@[simp] theorem State.setMesh_nextCtx (m : Mesh) : (s.setMesh m).nextCtx = s.nextCtx := rfl
@[simp] theorem State.setMesh_pst (m : Mesh) : (s.setMesh m).pst = s.pst := rfl
@[simp] theorem State.setMesh_pstPages (m : Mesh) : (s.setMesh m).pstPages = s.pstPages := rfl
@[simp] theorem State.setMesh_pstOp (m : Mesh) : (s.setMesh m).pstOp = s.pstOp := rfl
@[simp] theorem State.setMesh_cip (m : Mesh) : (s.setMesh m).cip = s.cip := rfl
@[simp] theorem State.setMesh_fuses (m : Mesh) : (s.setMesh m).fuses = s.fuses := rfl
@[simp] theorem State.setMesh_shadow (m : Mesh) : (s.setMesh m).shadow = s.shadow := rfl
@[simp] theorem State.setMesh_lnk (m : Mesh) : (s.setMesh m).lnk = s.lnk := rfl
@[simp] theorem State.setMesh_air (m : Mesh) : (s.setMesh m).air = s.air := rfl
@[simp] theorem State.setMesh_wir (m : Mesh) : (s.setMesh m).wir = s.wir := rfl
@[simp] theorem State.setMesh_line (m : Mesh) : (s.setMesh m).line = s.line := rfl
@[simp] theorem State.setMesh_sns (m : Mesh) : (s.setMesh m).sns = s.sns := rfl
@[simp] theorem State.setMesh_queues (m : Mesh) : (s.setMesh m).queues = s.queues := rfl
@[simp] theorem State.setMesh_front (m : Mesh) : (s.setMesh m).front = s.front := rfl
@[simp] theorem State.setMesh_pcie (m : Mesh) : (s.setMesh m).pcie = s.pcie := rfl
@[simp] theorem State.setMesh_spiLast (m : Mesh) : (s.setMesh m).spiLast = s.spiLast := rfl
@[simp] theorem State.setMesh_flrWaits (m : Mesh) : (s.setMesh m).flrWaits = s.flrWaits := rfl
@[simp] theorem State.setMesh_flrDue (m : Mesh) : (s.setMesh m).flrDue = s.flrDue := rfl
@[simp] theorem State.setMesh_boot (m : Mesh) : (s.setMesh m).boot = s.boot := rfl
@[simp] theorem State.setMesh_tap (m : Mesh) : (s.setMesh m).tap = s.tap := rfl

/-! ### setGroup -/

@[simp] theorem State.setGroup_pending (g : Nat) (x : PstGroup) : (s.setGroup g x).pending = s.pending := rfl
@[simp] theorem State.setGroup_free (g : Nat) (x : PstGroup) : (s.setGroup g x).free = s.free := rfl
@[simp] theorem State.setGroup_regs (g : Nat) (x : PstGroup) : (s.setGroup g x).regs = s.regs := rfl
@[simp] theorem State.setGroup_mem (g : Nat) (x : PstGroup) : (s.setGroup g x).mem = s.mem := rfl
@[simp] theorem State.setGroup_tags (g : Nat) (x : PstGroup) : (s.setGroup g x).tags = s.tags := rfl
@[simp] theorem State.setGroup_marks (g : Nat) (x : PstGroup) : (s.setGroup g x).marks = s.marks := rfl
@[simp] theorem State.setGroup_pulses (g : Nat) (x : PstGroup) : (s.setGroup g x).pulses = s.pulses := rfl
@[simp] theorem State.setGroup_arriving (g : Nat) (x : PstGroup) : (s.setGroup g x).arriving = s.arriving := rfl
@[simp] theorem State.setGroup_readData (g : Nat) (x : PstGroup) : (s.setGroup g x).readData = s.readData := rfl
@[simp] theorem State.setGroup_zones (g : Nat) (x : PstGroup) : (s.setGroup g x).zones = s.zones := rfl
@[simp] theorem State.setGroup_fresh (g : Nat) (x : PstGroup) : (s.setGroup g x).fresh = s.fresh := rfl
@[simp] theorem State.setGroup_aonCycles (g : Nat) (x : PstGroup) : (s.setGroup g x).aonCycles = s.aonCycles := rfl
@[simp] theorem State.setGroup_evtCycles (g : Nat) (x : PstGroup) : (s.setGroup g x).evtCycles = s.evtCycles := rfl
@[simp] theorem State.setGroup_held (g : Nat) (x : PstGroup) : (s.setGroup g x).held = s.held := rfl
@[simp] theorem State.setGroup_weather (g : Nat) (x : PstGroup) : (s.setGroup g x).weather = s.weather := rfl
@[simp] theorem State.setGroup_waiting (g : Nat) (x : PstGroup) : (s.setGroup g x).waiting = s.waiting := rfl
@[simp] theorem State.setGroup_target (g : Nat) (x : PstGroup) : (s.setGroup g x).target = s.target := rfl
@[simp] theorem State.setGroup_wakeDue (g : Nat) (x : PstGroup) : (s.setGroup g x).wakeDue = s.wakeDue := rfl
@[simp] theorem State.setGroup_rtc (g : Nat) (x : PstGroup) : (s.setGroup g x).rtc = s.rtc := rfl
@[simp] theorem State.setGroup_log (g : Nat) (x : PstGroup) : (s.setGroup g x).log = s.log := rfl
@[simp] theorem State.setGroup_disTicks (g : Nat) (x : PstGroup) : (s.setGroup g x).disTicks = s.disTicks := rfl
@[simp] theorem State.setGroup_flight (g : Nat) (x : PstGroup) : (s.setGroup g x).flight = s.flight := rfl
@[simp] theorem State.setGroup_mail (g : Nat) (x : PstGroup) : (s.setGroup g x).mail = s.mail := rfl
@[simp] theorem State.setGroup_posted (g : Nat) (x : PstGroup) : (s.setGroup g x).posted = s.posted := rfl
@[simp] theorem State.setGroup_lostPosted (g : Nat) (x : PstGroup) : (s.setGroup g x).lostPosted = s.lostPosted := rfl
@[simp] theorem State.setGroup_sortRaw (g : Nat) (x : PstGroup) : (s.setGroup g x).sortRaw = s.sortRaw := rfl
@[simp] theorem State.setGroup_sortHeld (g : Nat) (x : PstGroup) : (s.setGroup g x).sortHeld = s.sortHeld := rfl
@[simp] theorem State.setGroup_swStart (g : Nat) (x : PstGroup) : (s.setGroup g x).swStart = s.swStart := rfl
@[simp] theorem State.setGroup_msix (g : Nat) (x : PstGroup) : (s.setGroup g x).msix = s.msix := rfl
@[simp] theorem State.setGroup_msixPend (g : Nat) (x : PstGroup) : (s.setGroup g x).msixPend = s.msixPend := rfl
@[simp] theorem State.setGroup_msixEnable (g : Nat) (x : PstGroup) : (s.setGroup g x).msixEnable = s.msixEnable := rfl
@[simp] theorem State.setGroup_msixMaskAll (g : Nat) (x : PstGroup) : (s.setGroup g x).msixMaskAll = s.msixMaskAll := rfl
@[simp] theorem State.setGroup_messages (g : Nat) (x : PstGroup) : (s.setGroup g x).messages = s.messages := rfl
@[simp] theorem State.setGroup_cores (g : Nat) (x : PstGroup) : (s.setGroup g x).cores = s.cores := rfl
@[simp] theorem State.setGroup_tiles (g : Nat) (x : PstGroup) : (s.setGroup g x).tiles = s.tiles := rfl
@[simp] theorem State.setGroup_trimSets (g : Nat) (x : PstGroup) : (s.setGroup g x).trimSets = s.trimSets := rfl
@[simp] theorem State.setGroup_tallies (g : Nat) (x : PstGroup) : (s.setGroup g x).tallies = s.tallies := rfl
@[simp] theorem State.setGroup_movers (g : Nat) (x : PstGroup) : (s.setGroup g x).movers = s.movers := rfl
@[simp] theorem State.setGroup_hostWrites (g : Nat) (x : PstGroup) : (s.setGroup g x).hostWrites = s.hostWrites := rfl
@[simp] theorem State.setGroup_hostReads (g : Nat) (x : PstGroup) : (s.setGroup g x).hostReads = s.hostReads := rfl
@[simp] theorem State.setGroup_dfas (g : Nat) (x : PstGroup) : (s.setGroup g x).dfas = s.dfas := rfl
@[simp] theorem State.setGroup_nextCtx (g : Nat) (x : PstGroup) : (s.setGroup g x).nextCtx = s.nextCtx := rfl
@[simp] theorem State.setGroup_pstPages (g : Nat) (x : PstGroup) : (s.setGroup g x).pstPages = s.pstPages := rfl
@[simp] theorem State.setGroup_pstOp (g : Nat) (x : PstGroup) : (s.setGroup g x).pstOp = s.pstOp := rfl
@[simp] theorem State.setGroup_cip (g : Nat) (x : PstGroup) : (s.setGroup g x).cip = s.cip := rfl
@[simp] theorem State.setGroup_fuses (g : Nat) (x : PstGroup) : (s.setGroup g x).fuses = s.fuses := rfl
@[simp] theorem State.setGroup_shadow (g : Nat) (x : PstGroup) : (s.setGroup g x).shadow = s.shadow := rfl
@[simp] theorem State.setGroup_lnk (g : Nat) (x : PstGroup) : (s.setGroup g x).lnk = s.lnk := rfl
@[simp] theorem State.setGroup_air (g : Nat) (x : PstGroup) : (s.setGroup g x).air = s.air := rfl
@[simp] theorem State.setGroup_wir (g : Nat) (x : PstGroup) : (s.setGroup g x).wir = s.wir := rfl
@[simp] theorem State.setGroup_line (g : Nat) (x : PstGroup) : (s.setGroup g x).line = s.line := rfl
@[simp] theorem State.setGroup_sns (g : Nat) (x : PstGroup) : (s.setGroup g x).sns = s.sns := rfl
@[simp] theorem State.setGroup_mesh (g : Nat) (x : PstGroup) : (s.setGroup g x).mesh = s.mesh := rfl
@[simp] theorem State.setGroup_queues (g : Nat) (x : PstGroup) : (s.setGroup g x).queues = s.queues := rfl
@[simp] theorem State.setGroup_front (g : Nat) (x : PstGroup) : (s.setGroup g x).front = s.front := rfl
@[simp] theorem State.setGroup_pcie (g : Nat) (x : PstGroup) : (s.setGroup g x).pcie = s.pcie := rfl
@[simp] theorem State.setGroup_spiLast (g : Nat) (x : PstGroup) : (s.setGroup g x).spiLast = s.spiLast := rfl
@[simp] theorem State.setGroup_flrWaits (g : Nat) (x : PstGroup) : (s.setGroup g x).flrWaits = s.flrWaits := rfl
@[simp] theorem State.setGroup_flrDue (g : Nat) (x : PstGroup) : (s.setGroup g x).flrDue = s.flrDue := rfl
@[simp] theorem State.setGroup_boot (g : Nat) (x : PstGroup) : (s.setGroup g x).boot = s.boot := rfl
@[simp] theorem State.setGroup_tap (g : Nat) (x : PstGroup) : (s.setGroup g x).tap = s.tap := rfl

/-! ### setCipRec -/

@[simp] theorem State.setCipRec_pending (o c p : Nat) : (s.setCipRec o c p).pending = s.pending := rfl
@[simp] theorem State.setCipRec_free (o c p : Nat) : (s.setCipRec o c p).free = s.free := rfl
@[simp] theorem State.setCipRec_regs (o c p : Nat) : (s.setCipRec o c p).regs = s.regs := rfl
@[simp] theorem State.setCipRec_mem (o c p : Nat) : (s.setCipRec o c p).mem = s.mem := rfl
@[simp] theorem State.setCipRec_tags (o c p : Nat) : (s.setCipRec o c p).tags = s.tags := rfl
@[simp] theorem State.setCipRec_marks (o c p : Nat) : (s.setCipRec o c p).marks = s.marks := rfl
@[simp] theorem State.setCipRec_pulses (o c p : Nat) : (s.setCipRec o c p).pulses = s.pulses := rfl
@[simp] theorem State.setCipRec_arriving (o c p : Nat) : (s.setCipRec o c p).arriving = s.arriving := rfl
@[simp] theorem State.setCipRec_readData (o c p : Nat) : (s.setCipRec o c p).readData = s.readData := rfl
@[simp] theorem State.setCipRec_zones (o c p : Nat) : (s.setCipRec o c p).zones = s.zones := rfl
@[simp] theorem State.setCipRec_fresh (o c p : Nat) : (s.setCipRec o c p).fresh = s.fresh := rfl
@[simp] theorem State.setCipRec_aonCycles (o c p : Nat) : (s.setCipRec o c p).aonCycles = s.aonCycles := rfl
@[simp] theorem State.setCipRec_evtCycles (o c p : Nat) : (s.setCipRec o c p).evtCycles = s.evtCycles := rfl
@[simp] theorem State.setCipRec_held (o c p : Nat) : (s.setCipRec o c p).held = s.held := rfl
@[simp] theorem State.setCipRec_weather (o c p : Nat) : (s.setCipRec o c p).weather = s.weather := rfl
@[simp] theorem State.setCipRec_waiting (o c p : Nat) : (s.setCipRec o c p).waiting = s.waiting := rfl
@[simp] theorem State.setCipRec_target (o c p : Nat) : (s.setCipRec o c p).target = s.target := rfl
@[simp] theorem State.setCipRec_wakeDue (o c p : Nat) : (s.setCipRec o c p).wakeDue = s.wakeDue := rfl
@[simp] theorem State.setCipRec_rtc (o c p : Nat) : (s.setCipRec o c p).rtc = s.rtc := rfl
@[simp] theorem State.setCipRec_log (o c p : Nat) : (s.setCipRec o c p).log = s.log := rfl
@[simp] theorem State.setCipRec_disTicks (o c p : Nat) : (s.setCipRec o c p).disTicks = s.disTicks := rfl
@[simp] theorem State.setCipRec_flight (o c p : Nat) : (s.setCipRec o c p).flight = s.flight := rfl
@[simp] theorem State.setCipRec_mail (o c p : Nat) : (s.setCipRec o c p).mail = s.mail := rfl
@[simp] theorem State.setCipRec_posted (o c p : Nat) : (s.setCipRec o c p).posted = s.posted := rfl
@[simp] theorem State.setCipRec_lostPosted (o c p : Nat) : (s.setCipRec o c p).lostPosted = s.lostPosted := rfl
@[simp] theorem State.setCipRec_sortRaw (o c p : Nat) : (s.setCipRec o c p).sortRaw = s.sortRaw := rfl
@[simp] theorem State.setCipRec_sortHeld (o c p : Nat) : (s.setCipRec o c p).sortHeld = s.sortHeld := rfl
@[simp] theorem State.setCipRec_swStart (o c p : Nat) : (s.setCipRec o c p).swStart = s.swStart := rfl
@[simp] theorem State.setCipRec_msix (o c p : Nat) : (s.setCipRec o c p).msix = s.msix := rfl
@[simp] theorem State.setCipRec_msixPend (o c p : Nat) : (s.setCipRec o c p).msixPend = s.msixPend := rfl
@[simp] theorem State.setCipRec_msixEnable (o c p : Nat) : (s.setCipRec o c p).msixEnable = s.msixEnable := rfl
@[simp] theorem State.setCipRec_msixMaskAll (o c p : Nat) : (s.setCipRec o c p).msixMaskAll = s.msixMaskAll := rfl
@[simp] theorem State.setCipRec_messages (o c p : Nat) : (s.setCipRec o c p).messages = s.messages := rfl
@[simp] theorem State.setCipRec_cores (o c p : Nat) : (s.setCipRec o c p).cores = s.cores := rfl
@[simp] theorem State.setCipRec_tiles (o c p : Nat) : (s.setCipRec o c p).tiles = s.tiles := rfl
@[simp] theorem State.setCipRec_trimSets (o c p : Nat) : (s.setCipRec o c p).trimSets = s.trimSets := rfl
@[simp] theorem State.setCipRec_tallies (o c p : Nat) : (s.setCipRec o c p).tallies = s.tallies := rfl
@[simp] theorem State.setCipRec_movers (o c p : Nat) : (s.setCipRec o c p).movers = s.movers := rfl
@[simp] theorem State.setCipRec_hostWrites (o c p : Nat) : (s.setCipRec o c p).hostWrites = s.hostWrites := rfl
@[simp] theorem State.setCipRec_hostReads (o c p : Nat) : (s.setCipRec o c p).hostReads = s.hostReads := rfl
@[simp] theorem State.setCipRec_dfas (o c p : Nat) : (s.setCipRec o c p).dfas = s.dfas := rfl
@[simp] theorem State.setCipRec_nextCtx (o c p : Nat) : (s.setCipRec o c p).nextCtx = s.nextCtx := rfl
@[simp] theorem State.setCipRec_pst (o c p : Nat) : (s.setCipRec o c p).pst = s.pst := rfl
@[simp] theorem State.setCipRec_pstPages (o c p : Nat) : (s.setCipRec o c p).pstPages = s.pstPages := rfl
@[simp] theorem State.setCipRec_pstOp (o c p : Nat) : (s.setCipRec o c p).pstOp = s.pstOp := rfl
@[simp] theorem State.setCipRec_fuses (o c p : Nat) : (s.setCipRec o c p).fuses = s.fuses := rfl
@[simp] theorem State.setCipRec_shadow (o c p : Nat) : (s.setCipRec o c p).shadow = s.shadow := rfl
@[simp] theorem State.setCipRec_lnk (o c p : Nat) : (s.setCipRec o c p).lnk = s.lnk := rfl
@[simp] theorem State.setCipRec_air (o c p : Nat) : (s.setCipRec o c p).air = s.air := rfl
@[simp] theorem State.setCipRec_wir (o c p : Nat) : (s.setCipRec o c p).wir = s.wir := rfl
@[simp] theorem State.setCipRec_line (o c p : Nat) : (s.setCipRec o c p).line = s.line := rfl
@[simp] theorem State.setCipRec_sns (o c p : Nat) : (s.setCipRec o c p).sns = s.sns := rfl
@[simp] theorem State.setCipRec_mesh (o c p : Nat) : (s.setCipRec o c p).mesh = s.mesh := rfl
@[simp] theorem State.setCipRec_queues (o c p : Nat) : (s.setCipRec o c p).queues = s.queues := rfl
@[simp] theorem State.setCipRec_front (o c p : Nat) : (s.setCipRec o c p).front = s.front := rfl
@[simp] theorem State.setCipRec_pcie (o c p : Nat) : (s.setCipRec o c p).pcie = s.pcie := rfl
@[simp] theorem State.setCipRec_spiLast (o c p : Nat) : (s.setCipRec o c p).spiLast = s.spiLast := rfl
@[simp] theorem State.setCipRec_flrWaits (o c p : Nat) : (s.setCipRec o c p).flrWaits = s.flrWaits := rfl
@[simp] theorem State.setCipRec_flrDue (o c p : Nat) : (s.setCipRec o c p).flrDue = s.flrDue := rfl
@[simp] theorem State.setCipRec_boot (o c p : Nat) : (s.setCipRec o c p).boot = s.boot := rfl
@[simp] theorem State.setCipRec_tap (o c p : Nat) : (s.setCipRec o c p).tap = s.tap := rfl

/-! ### Registers and fields -/

/-- A register reads back what was stored, and every other register what it held. -/
theorem State.reg_setReg (a b : Nat) (w : Word) : (s.setReg a w).reg b = if b = a then w else s.reg b :=
  tabGet_tabSet regReset s.regs a b w

@[simp] theorem State.reg_setReg_same (a : Nat) (w : Word) : (s.setReg a w).reg a = w := by simp [State.reg_setReg]

theorem State.reg_setReg_ne (a b : Nat) (w : Word) (h : b ≠ a) : (s.setReg a w).reg b = s.reg b := by
  simp [State.reg_setReg, h]

theorem State.reg_setFld_ne (f : Fld) (v b : Nat) (h : b ≠ f.addr) : (s.setFld f v).reg b = s.reg b :=
  s.reg_setReg_ne _ _ _ h

theorem toNat_putBits (w : Word) (lo n x : Nat) (h : lo + n ≤ 24) :
    (BitVec.ofNat 24 (putBits w.toNat lo n x)).toNat = putBits w.toNat lo n x := by
  rw [BitVec.toNat_ofNat, Nat.mod_eq_of_lt (putBits_lt _ _ _ _ 24 w.isLt h)]

/-- A field reads back what was put there. -/
theorem State.fld_setFld (f : Fld) (v : Nat) (h : f.lo + f.w ≤ 24) : (s.setFld f v).fld f = v % 2 ^ f.w := by
  unfold State.fld State.setFld
  rw [State.reg_setReg_same, toNat_putBits _ _ _ _ h, bitsOf_putBits_same]

/-- A field of another register keeps its value. -/
theorem State.fld_setFld_addr (f g : Fld) (v : Nat) (h : g.addr ≠ f.addr) : (s.setFld f v).fld g = s.fld g := by
  unfold State.fld
  rw [s.reg_setFld_ne f v _ h]

/-- Another field of the same register keeps its value. -/
theorem State.fld_setFld_bits (f g : Fld) (v : Nat) (hf : f.lo + f.w ≤ 24) (ha : g.addr = f.addr)
    (h : g.lo + g.w ≤ f.lo ∨ f.lo + f.w ≤ g.lo) : (s.setFld f v).fld g = s.fld g := by
  unfold State.fld State.setFld
  rw [ha, State.reg_setReg_same, toNat_putBits _ _ _ _ hf]
  rcases h with h | h
  · exact bitsOf_putBits_below _ _ _ _ _ _ h
  · exact bitsOf_putBits_above _ _ _ _ _ _ h

/-- A field of a register written whole. -/
theorem State.fld_setReg (g : Fld) (w : Word) : (s.setReg g.addr w).fld g = bitsOf w.toNat g.lo g.w := by
  unfold State.fld
  rw [State.reg_setReg_same]

/-- A field of a register not written. -/
theorem State.fld_setReg_addr (g : Fld) (a : Nat) (w : Word) (h : g.addr ≠ a) : (s.setReg a w).fld g = s.fld g := by
  unfold State.fld
  rw [s.reg_setReg_ne _ _ _ h]

/-- Fields look at nothing but the register bank. -/
theorem State.fld_congr (t : State) (f : Fld) (h : t.regs = s.regs) : t.fld f = s.fld f := by
  unfold State.fld State.reg
  rw [h]

/-! ### Memory and units -/

/-- Bytes outside a store keep their values. -/
theorem State.byte_setBytes_out (a j : Nat) (bs : List Byte) (h : j < a ∨ a + bs.length ≤ j) :
    (s.setBytes a bs).byte j = s.byte j := tabGet_tabSetList_out memReset bs s.mem a j h

/-- Bytes of a store read back. -/
theorem State.byte_setBytes_in (a i : Nat) (bs : List Byte) (h : i < bs.length) : (s.setBytes a bs).byte (a + i) = bs[i] :=
  tabGet_tabSetList_in memReset bs s.mem a i h

theorem State.core_setCore (j k : Nat) (x : CoreSt) : (s.setCore k x).core j = if j = k then x else s.core j :=
  tabGet_tabSet _ s.cores k j x

@[simp] theorem State.core_setCore_same (k : Nat) (x : CoreSt) : (s.setCore k x).core k = x := by simp [State.core_setCore]

theorem State.tile_setTile (j n : Nat) (x : Tile) : (s.setTile n x).tile j = if j = n then x else s.tile j :=
  tabGet_tabSet _ s.tiles n j x

@[simp] theorem State.tile_setTile_same (n : Nat) (x : Tile) : (s.setTile n x).tile n = x := by simp [State.tile_setTile]

theorem State.tally_setTally (j c : Nat) (x : Tally) : (s.setTally c x).tally j = if j = c then x else s.tally j :=
  tabGet_tabSet _ s.tallies c j x

@[simp] theorem State.tally_setTally_same (c : Nat) (x : Tally) : (s.setTally c x).tally c = x := by
  simp [State.tally_setTally]

theorem State.mover_setMover (j c : Nat) (x : Mover) : (s.setMover c x).mover j = if j = c then x else s.mover j :=
  tabGet_tabSet _ s.movers c j x

@[simp] theorem State.mover_setMover_same (c : Nat) (x : Mover) : (s.setMover c x).mover c = x := by
  simp [State.mover_setMover]

theorem State.dfa_setDfa (j c : Nat) (x : Dfa) : (s.setDfa c x).dfa j = if j = c then x else s.dfa j :=
  tabGet_tabSet _ s.dfas c j x

@[simp] theorem State.dfa_setDfa_same (c : Nat) (x : Dfa) : (s.setDfa c x).dfa c = x := by simp [State.dfa_setDfa]

theorem State.zone_setZone (j z : Nat) (x : Zone) : (s.setZone z x).zone j = if j = z then x else s.zone j :=
  tabGet_tabSet _ s.zones z j x

@[simp] theorem State.zone_setZone_same (z : Nat) (x : Zone) : (s.setZone z x).zone z = x := by simp [State.zone_setZone]

@[simp] theorem State.queue_setQueue_same (q : Nat) (x : Queue) : (s.setQueue q x).queue q = x :=
  tabGet_tabSet_same _ s.queues q x

/-- A general register of a core reads back what was written; g0 reads zero. -/
theorem CoreSt.reg_setReg (c : CoreSt) (r j : Nat) (v : Word) :
    (c.setReg r v).reg j = if j = 0 then 0 else if j = r then v else c.reg j := by
  unfold CoreSt.reg CoreSt.setReg
  by_cases hj : j = 0
  · simp [hj]
  · by_cases hr : r = 0
    · simp [hj, hr]
    · simp [hj, hr, tabGet_tabSet]

theorem CoreSt.csrOf_setCsr (c : CoreSt) (i j : Nat) (v : Word) : (c.setCsr i v).csrOf j = if j = i then v else c.csrOf j :=
  tabGet_tabSet csrReset c.csr i j v

/-! ### Writes that reach their register -/

/-- A write that its initiator may make in its present state has the register's effect. -/
theorem State.cmdWrite_takes (ini : Initiator) (a : Nat) (f : State → State) (h : s.Takes ini a) :
    s.cmdWrite ini a f = f s := by
  obtain ⟨h1, h2, h3⟩ := h
  simp [State.cmdWrite, State.onWrite, h1, h2, h3]

/-! ### The canonical form -/

theorem State.Inv.setReg {s : State} (h : s.Inv) (a : Nat) (w : Word) : (s.setReg a w).Inv :=
  ⟨h.1, tabWf_tabSet _ _ _ _ h.2.1, h.2.2.1, h.2.2.2⟩

theorem State.Inv.setFld {s : State} (h : s.Inv) (f : Fld) (v : Nat) : (s.setFld f v).Inv := State.Inv.setReg h _ _

theorem State.Inv.setBytes {s : State} (h : s.Inv) (a : Nat) (bs : List Byte) : (s.setBytes a bs).Inv :=
  ⟨tabWf_tabSetList _ _ _ _ h.1, h.2.1, h.2.2.1, h.2.2.2⟩

theorem State.Inv.setTag {s : State} (h : s.Inv) (c r : Nat) (b : Bool) : (s.setTag c r b).Inv :=
  ⟨h.1, h.2.1, tabWf_tabSet _ _ _ _ h.2.2.1, h.2.2.2⟩

end Sys2Proof.Machine
end

