-- ==== Sys2Proof/Laws/Frame.lean ====
section
/-! SUPPORT. Frames: what a chain of register updates leaves unchanged. -/

namespace Sys2Proof.Machine

open Sys2Proof

variable {s t : State}

theorem State.KeepsRegs.refl (l : List Nat) : s.KeepsRegs s l := fun _ _ => rfl

theorem State.KeepsRegs.setReg {l : List Nat} (h : s.KeepsRegs t l) (a : Nat) (w : Word) (ha : a ∈ l) :
    s.KeepsRegs (t.setReg a w) l := fun b hb => by
  have hne : b ≠ a := fun e => hb (e ▸ ha)
  rw [State.reg_setReg_ne _ _ _ _ hne, h b hb]

theorem State.KeepsRegs.setFld {l : List Nat} (h : s.KeepsRegs t l) (f : Fld) (v : Nat) (ha : f.addr ∈ l) :
    s.KeepsRegs (t.setFld f v) l := h.setReg _ _ ha

theorem State.OnlyRegs.refl (l : List Nat) : s.OnlyRegs s l := ⟨rfl, .refl l⟩

theorem State.OnlyRegs.setReg {l : List Nat} (h : s.OnlyRegs t l) (a : Nat) (w : Word) (ha : a ∈ l) :
    s.OnlyRegs (t.setReg a w) l := ⟨by rw [h.1]; rfl, h.2.setReg a w ha⟩

theorem State.OnlyRegs.setFld {l : List Nat} (h : s.OnlyRegs t l) (f : Fld) (v : Nat) (ha : f.addr ∈ l) :
    s.OnlyRegs (t.setFld f v) l := h.setReg _ _ ha

/-- A write that is taken answers the register's effect. -/
theorem ok_cmdWrite {ini : Initiator} {a : Nat} {f : State → State} {p : State → Prop} (h : s.Takes ini a) (hp : p (f s)) :
    ∃ t, (ok (s.cmdWrite ini a f) : Host.Outcome State Fault Refusal) = .next t ∧ p t :=
  ⟨f s, by rw [s.cmdWrite_takes ini a f h], hp⟩

end Sys2Proof.Machine
end

