-- ==== Sys2Proof/Laws/Reads.lean ====
section
/-! SUPPORT. What the readers of the state (registers, rows, cores, units) answer after an update of another part of it. -/

namespace Sys2Proof.Machine

open Sys2Proof

variable (s : State)

@[simp] theorem State.byte_setReg (b : Nat) (w : Word) (a : Nat) : (s.setReg b w).byte a = s.byte a := rfl
@[simp] theorem State.tag_setReg (b : Nat) (w : Word) (c r : Nat) : (s.setReg b w).tag c r = s.tag c r := rfl
@[simp] theorem State.mark_setReg (b : Nat) (w : Word) (c r : Nat) : (s.setReg b w).mark c r = s.mark c r := rfl
@[simp] theorem State.freshOf_setReg (b : Nat) (w : Word) (c : Nat) : (s.setReg b w).freshOf c = s.freshOf c := rfl
@[simp] theorem State.core_setReg (b : Nat) (w : Word) (k : Nat) : (s.setReg b w).core k = s.core k := rfl
@[simp] theorem State.tile_setReg (b : Nat) (w : Word) (t : Nat) : (s.setReg b w).tile t = s.tile t := rfl
@[simp] theorem State.tally_setReg (b : Nat) (w : Word) (c : Nat) : (s.setReg b w).tally c = s.tally c := rfl
@[simp] theorem State.mover_setReg (b : Nat) (w : Word) (c : Nat) : (s.setReg b w).mover c = s.mover c := rfl
@[simp] theorem State.dfa_setReg (b : Nat) (w : Word) (c : Nat) : (s.setReg b w).dfa c = s.dfa c := rfl
@[simp] theorem State.zone_setReg (b : Nat) (w : Word) (z : Nat) : (s.setReg b w).zone z = s.zone z := rfl
@[simp] theorem State.queue_setReg (b : Nat) (w : Word) (q : Nat) : (s.setReg b w).queue q = s.queue q := rfl

@[simp] theorem State.byte_setFld (f : Fld) (v : Nat) (a : Nat) : (s.setFld f v).byte a = s.byte a := rfl
@[simp] theorem State.tag_setFld (f : Fld) (v : Nat) (c r : Nat) : (s.setFld f v).tag c r = s.tag c r := rfl
@[simp] theorem State.mark_setFld (f : Fld) (v : Nat) (c r : Nat) : (s.setFld f v).mark c r = s.mark c r := rfl
@[simp] theorem State.freshOf_setFld (f : Fld) (v : Nat) (c : Nat) : (s.setFld f v).freshOf c = s.freshOf c := rfl
@[simp] theorem State.core_setFld (f : Fld) (v : Nat) (k : Nat) : (s.setFld f v).core k = s.core k := rfl
@[simp] theorem State.tile_setFld (f : Fld) (v : Nat) (t : Nat) : (s.setFld f v).tile t = s.tile t := rfl
@[simp] theorem State.tally_setFld (f : Fld) (v : Nat) (c : Nat) : (s.setFld f v).tally c = s.tally c := rfl
@[simp] theorem State.mover_setFld (f : Fld) (v : Nat) (c : Nat) : (s.setFld f v).mover c = s.mover c := rfl
@[simp] theorem State.dfa_setFld (f : Fld) (v : Nat) (c : Nat) : (s.setFld f v).dfa c = s.dfa c := rfl
@[simp] theorem State.zone_setFld (f : Fld) (v : Nat) (z : Nat) : (s.setFld f v).zone z = s.zone z := rfl
@[simp] theorem State.queue_setFld (f : Fld) (v : Nat) (q : Nat) : (s.setFld f v).queue q = s.queue q := rfl

@[simp] theorem State.byte_incFld (f : Fld) (n : Nat) (a : Nat) : (s.incFld f n).byte a = s.byte a := rfl
@[simp] theorem State.tag_incFld (f : Fld) (n : Nat) (c r : Nat) : (s.incFld f n).tag c r = s.tag c r := rfl
@[simp] theorem State.mark_incFld (f : Fld) (n : Nat) (c r : Nat) : (s.incFld f n).mark c r = s.mark c r := rfl
@[simp] theorem State.freshOf_incFld (f : Fld) (n : Nat) (c : Nat) : (s.incFld f n).freshOf c = s.freshOf c := rfl
@[simp] theorem State.core_incFld (f : Fld) (n : Nat) (k : Nat) : (s.incFld f n).core k = s.core k := rfl
@[simp] theorem State.tile_incFld (f : Fld) (n : Nat) (t : Nat) : (s.incFld f n).tile t = s.tile t := rfl
@[simp] theorem State.tally_incFld (f : Fld) (n : Nat) (c : Nat) : (s.incFld f n).tally c = s.tally c := rfl
@[simp] theorem State.mover_incFld (f : Fld) (n : Nat) (c : Nat) : (s.incFld f n).mover c = s.mover c := rfl
@[simp] theorem State.dfa_incFld (f : Fld) (n : Nat) (c : Nat) : (s.incFld f n).dfa c = s.dfa c := rfl
@[simp] theorem State.zone_incFld (f : Fld) (n : Nat) (z : Nat) : (s.incFld f n).zone z = s.zone z := rfl
@[simp] theorem State.queue_incFld (f : Fld) (n : Nat) (q : Nat) : (s.incFld f n).queue q = s.queue q := rfl

@[simp] theorem State.byte_setFbit (f : Fld) (i : Nat) (b : Bool) (a : Nat) : (s.setFbit f i b).byte a = s.byte a := rfl
@[simp] theorem State.tag_setFbit (f : Fld) (i : Nat) (b : Bool) (c r : Nat) : (s.setFbit f i b).tag c r = s.tag c r := rfl
@[simp] theorem State.mark_setFbit (f : Fld) (i : Nat) (b : Bool) (c r : Nat) : (s.setFbit f i b).mark c r = s.mark c r := rfl
@[simp] theorem State.freshOf_setFbit (f : Fld) (i : Nat) (b : Bool) (c : Nat) : (s.setFbit f i b).freshOf c = s.freshOf c := rfl
@[simp] theorem State.core_setFbit (f : Fld) (i : Nat) (b : Bool) (k : Nat) : (s.setFbit f i b).core k = s.core k := rfl
@[simp] theorem State.tile_setFbit (f : Fld) (i : Nat) (b : Bool) (t : Nat) : (s.setFbit f i b).tile t = s.tile t := rfl
@[simp] theorem State.tally_setFbit (f : Fld) (i : Nat) (b : Bool) (c : Nat) : (s.setFbit f i b).tally c = s.tally c := rfl
@[simp] theorem State.mover_setFbit (f : Fld) (i : Nat) (b : Bool) (c : Nat) : (s.setFbit f i b).mover c = s.mover c := rfl
@[simp] theorem State.dfa_setFbit (f : Fld) (i : Nat) (b : Bool) (c : Nat) : (s.setFbit f i b).dfa c = s.dfa c := rfl
@[simp] theorem State.zone_setFbit (f : Fld) (i : Nat) (b : Bool) (z : Nat) : (s.setFbit f i b).zone z = s.zone z := rfl
@[simp] theorem State.queue_setFbit (f : Fld) (i : Nat) (b : Bool) (q : Nat) : (s.setFbit f i b).queue q = s.queue q := rfl

@[simp] theorem State.reg_drawn (a : Nat) : (s.drawn).reg a = s.reg a := rfl
@[simp] theorem State.fld_drawn (g : Fld) : (s.drawn).fld g = s.fld g := rfl
@[simp] theorem State.flag_drawn (g : Fld) : (s.drawn).flag g = s.flag g := rfl
@[simp] theorem State.byte_drawn (a : Nat) : (s.drawn).byte a = s.byte a := rfl
@[simp] theorem State.tag_drawn (c r : Nat) : (s.drawn).tag c r = s.tag c r := rfl
@[simp] theorem State.mark_drawn (c r : Nat) : (s.drawn).mark c r = s.mark c r := rfl
@[simp] theorem State.freshOf_drawn (c : Nat) : (s.drawn).freshOf c = s.freshOf c := rfl
@[simp] theorem State.core_drawn (k : Nat) : (s.drawn).core k = s.core k := rfl
@[simp] theorem State.tile_drawn (t : Nat) : (s.drawn).tile t = s.tile t := rfl
@[simp] theorem State.tally_drawn (c : Nat) : (s.drawn).tally c = s.tally c := rfl
@[simp] theorem State.mover_drawn (c : Nat) : (s.drawn).mover c = s.mover c := rfl
@[simp] theorem State.dfa_drawn (c : Nat) : (s.drawn).dfa c = s.dfa c := rfl
@[simp] theorem State.zone_drawn (z : Nat) : (s.drawn).zone z = s.zone z := rfl
@[simp] theorem State.queue_drawn (q : Nat) : (s.drawn).queue q = s.queue q := rfl

@[simp] theorem State.reg_fire (p : Nat) (a : Nat) : (s.fire p).reg a = s.reg a := rfl
@[simp] theorem State.fld_fire (p : Nat) (g : Fld) : (s.fire p).fld g = s.fld g := rfl
@[simp] theorem State.flag_fire (p : Nat) (g : Fld) : (s.fire p).flag g = s.flag g := rfl
@[simp] theorem State.byte_fire (p : Nat) (a : Nat) : (s.fire p).byte a = s.byte a := rfl
@[simp] theorem State.tag_fire (p : Nat) (c r : Nat) : (s.fire p).tag c r = s.tag c r := rfl
@[simp] theorem State.mark_fire (p : Nat) (c r : Nat) : (s.fire p).mark c r = s.mark c r := rfl
@[simp] theorem State.freshOf_fire (p : Nat) (c : Nat) : (s.fire p).freshOf c = s.freshOf c := rfl
@[simp] theorem State.core_fire (p : Nat) (k : Nat) : (s.fire p).core k = s.core k := rfl
@[simp] theorem State.tile_fire (p : Nat) (t : Nat) : (s.fire p).tile t = s.tile t := rfl
@[simp] theorem State.tally_fire (p : Nat) (c : Nat) : (s.fire p).tally c = s.tally c := rfl
@[simp] theorem State.mover_fire (p : Nat) (c : Nat) : (s.fire p).mover c = s.mover c := rfl
@[simp] theorem State.dfa_fire (p : Nat) (c : Nat) : (s.fire p).dfa c = s.dfa c := rfl
@[simp] theorem State.zone_fire (p : Nat) (z : Nat) : (s.fire p).zone z = s.zone z := rfl
@[simp] theorem State.queue_fire (p : Nat) (q : Nat) : (s.fire p).queue q = s.queue q := rfl

@[simp] theorem State.reg_setCore (n : Nat) (x : CoreSt) (a : Nat) : (s.setCore n x).reg a = s.reg a := rfl
@[simp] theorem State.fld_setCore (n : Nat) (x : CoreSt) (g : Fld) : (s.setCore n x).fld g = s.fld g := rfl
@[simp] theorem State.flag_setCore (n : Nat) (x : CoreSt) (g : Fld) : (s.setCore n x).flag g = s.flag g := rfl
@[simp] theorem State.byte_setCore (n : Nat) (x : CoreSt) (a : Nat) : (s.setCore n x).byte a = s.byte a := rfl
@[simp] theorem State.tag_setCore (n : Nat) (x : CoreSt) (c r : Nat) : (s.setCore n x).tag c r = s.tag c r := rfl
@[simp] theorem State.mark_setCore (n : Nat) (x : CoreSt) (c r : Nat) : (s.setCore n x).mark c r = s.mark c r := rfl
@[simp] theorem State.freshOf_setCore (n : Nat) (x : CoreSt) (c : Nat) : (s.setCore n x).freshOf c = s.freshOf c := rfl
@[simp] theorem State.tile_setCore (n : Nat) (x : CoreSt) (t : Nat) : (s.setCore n x).tile t = s.tile t := rfl
@[simp] theorem State.tally_setCore (n : Nat) (x : CoreSt) (c : Nat) : (s.setCore n x).tally c = s.tally c := rfl
@[simp] theorem State.mover_setCore (n : Nat) (x : CoreSt) (c : Nat) : (s.setCore n x).mover c = s.mover c := rfl
@[simp] theorem State.dfa_setCore (n : Nat) (x : CoreSt) (c : Nat) : (s.setCore n x).dfa c = s.dfa c := rfl
@[simp] theorem State.zone_setCore (n : Nat) (x : CoreSt) (z : Nat) : (s.setCore n x).zone z = s.zone z := rfl
@[simp] theorem State.queue_setCore (n : Nat) (x : CoreSt) (q : Nat) : (s.setCore n x).queue q = s.queue q := rfl

@[simp] theorem State.reg_setTile (n : Nat) (x : Tile) (a : Nat) : (s.setTile n x).reg a = s.reg a := rfl
@[simp] theorem State.fld_setTile (n : Nat) (x : Tile) (g : Fld) : (s.setTile n x).fld g = s.fld g := rfl
@[simp] theorem State.flag_setTile (n : Nat) (x : Tile) (g : Fld) : (s.setTile n x).flag g = s.flag g := rfl
@[simp] theorem State.byte_setTile (n : Nat) (x : Tile) (a : Nat) : (s.setTile n x).byte a = s.byte a := rfl
@[simp] theorem State.tag_setTile (n : Nat) (x : Tile) (c r : Nat) : (s.setTile n x).tag c r = s.tag c r := rfl
@[simp] theorem State.mark_setTile (n : Nat) (x : Tile) (c r : Nat) : (s.setTile n x).mark c r = s.mark c r := rfl
@[simp] theorem State.freshOf_setTile (n : Nat) (x : Tile) (c : Nat) : (s.setTile n x).freshOf c = s.freshOf c := rfl
@[simp] theorem State.core_setTile (n : Nat) (x : Tile) (k : Nat) : (s.setTile n x).core k = s.core k := rfl
@[simp] theorem State.tally_setTile (n : Nat) (x : Tile) (c : Nat) : (s.setTile n x).tally c = s.tally c := rfl
@[simp] theorem State.mover_setTile (n : Nat) (x : Tile) (c : Nat) : (s.setTile n x).mover c = s.mover c := rfl
@[simp] theorem State.dfa_setTile (n : Nat) (x : Tile) (c : Nat) : (s.setTile n x).dfa c = s.dfa c := rfl
@[simp] theorem State.zone_setTile (n : Nat) (x : Tile) (z : Nat) : (s.setTile n x).zone z = s.zone z := rfl
@[simp] theorem State.queue_setTile (n : Nat) (x : Tile) (q : Nat) : (s.setTile n x).queue q = s.queue q := rfl

@[simp] theorem State.reg_setTally (n : Nat) (x : Tally) (a : Nat) : (s.setTally n x).reg a = s.reg a := rfl
@[simp] theorem State.fld_setTally (n : Nat) (x : Tally) (g : Fld) : (s.setTally n x).fld g = s.fld g := rfl
@[simp] theorem State.flag_setTally (n : Nat) (x : Tally) (g : Fld) : (s.setTally n x).flag g = s.flag g := rfl
@[simp] theorem State.byte_setTally (n : Nat) (x : Tally) (a : Nat) : (s.setTally n x).byte a = s.byte a := rfl
@[simp] theorem State.tag_setTally (n : Nat) (x : Tally) (c r : Nat) : (s.setTally n x).tag c r = s.tag c r := rfl
@[simp] theorem State.mark_setTally (n : Nat) (x : Tally) (c r : Nat) : (s.setTally n x).mark c r = s.mark c r := rfl
@[simp] theorem State.freshOf_setTally (n : Nat) (x : Tally) (c : Nat) : (s.setTally n x).freshOf c = s.freshOf c := rfl
@[simp] theorem State.core_setTally (n : Nat) (x : Tally) (k : Nat) : (s.setTally n x).core k = s.core k := rfl
@[simp] theorem State.tile_setTally (n : Nat) (x : Tally) (t : Nat) : (s.setTally n x).tile t = s.tile t := rfl
@[simp] theorem State.mover_setTally (n : Nat) (x : Tally) (c : Nat) : (s.setTally n x).mover c = s.mover c := rfl
@[simp] theorem State.dfa_setTally (n : Nat) (x : Tally) (c : Nat) : (s.setTally n x).dfa c = s.dfa c := rfl
@[simp] theorem State.zone_setTally (n : Nat) (x : Tally) (z : Nat) : (s.setTally n x).zone z = s.zone z := rfl
@[simp] theorem State.queue_setTally (n : Nat) (x : Tally) (q : Nat) : (s.setTally n x).queue q = s.queue q := rfl

@[simp] theorem State.reg_setMover (n : Nat) (x : Mover) (a : Nat) : (s.setMover n x).reg a = s.reg a := rfl
@[simp] theorem State.fld_setMover (n : Nat) (x : Mover) (g : Fld) : (s.setMover n x).fld g = s.fld g := rfl
@[simp] theorem State.flag_setMover (n : Nat) (x : Mover) (g : Fld) : (s.setMover n x).flag g = s.flag g := rfl
@[simp] theorem State.byte_setMover (n : Nat) (x : Mover) (a : Nat) : (s.setMover n x).byte a = s.byte a := rfl
@[simp] theorem State.tag_setMover (n : Nat) (x : Mover) (c r : Nat) : (s.setMover n x).tag c r = s.tag c r := rfl
@[simp] theorem State.mark_setMover (n : Nat) (x : Mover) (c r : Nat) : (s.setMover n x).mark c r = s.mark c r := rfl
@[simp] theorem State.freshOf_setMover (n : Nat) (x : Mover) (c : Nat) : (s.setMover n x).freshOf c = s.freshOf c := rfl
@[simp] theorem State.core_setMover (n : Nat) (x : Mover) (k : Nat) : (s.setMover n x).core k = s.core k := rfl
@[simp] theorem State.tile_setMover (n : Nat) (x : Mover) (t : Nat) : (s.setMover n x).tile t = s.tile t := rfl
@[simp] theorem State.tally_setMover (n : Nat) (x : Mover) (c : Nat) : (s.setMover n x).tally c = s.tally c := rfl
@[simp] theorem State.dfa_setMover (n : Nat) (x : Mover) (c : Nat) : (s.setMover n x).dfa c = s.dfa c := rfl
@[simp] theorem State.zone_setMover (n : Nat) (x : Mover) (z : Nat) : (s.setMover n x).zone z = s.zone z := rfl
@[simp] theorem State.queue_setMover (n : Nat) (x : Mover) (q : Nat) : (s.setMover n x).queue q = s.queue q := rfl

@[simp] theorem State.reg_setDfa (n : Nat) (x : Dfa) (a : Nat) : (s.setDfa n x).reg a = s.reg a := rfl
@[simp] theorem State.fld_setDfa (n : Nat) (x : Dfa) (g : Fld) : (s.setDfa n x).fld g = s.fld g := rfl
@[simp] theorem State.flag_setDfa (n : Nat) (x : Dfa) (g : Fld) : (s.setDfa n x).flag g = s.flag g := rfl
@[simp] theorem State.byte_setDfa (n : Nat) (x : Dfa) (a : Nat) : (s.setDfa n x).byte a = s.byte a := rfl
@[simp] theorem State.tag_setDfa (n : Nat) (x : Dfa) (c r : Nat) : (s.setDfa n x).tag c r = s.tag c r := rfl
@[simp] theorem State.mark_setDfa (n : Nat) (x : Dfa) (c r : Nat) : (s.setDfa n x).mark c r = s.mark c r := rfl
@[simp] theorem State.freshOf_setDfa (n : Nat) (x : Dfa) (c : Nat) : (s.setDfa n x).freshOf c = s.freshOf c := rfl
@[simp] theorem State.core_setDfa (n : Nat) (x : Dfa) (k : Nat) : (s.setDfa n x).core k = s.core k := rfl
@[simp] theorem State.tile_setDfa (n : Nat) (x : Dfa) (t : Nat) : (s.setDfa n x).tile t = s.tile t := rfl
@[simp] theorem State.tally_setDfa (n : Nat) (x : Dfa) (c : Nat) : (s.setDfa n x).tally c = s.tally c := rfl
@[simp] theorem State.mover_setDfa (n : Nat) (x : Dfa) (c : Nat) : (s.setDfa n x).mover c = s.mover c := rfl
@[simp] theorem State.zone_setDfa (n : Nat) (x : Dfa) (z : Nat) : (s.setDfa n x).zone z = s.zone z := rfl
@[simp] theorem State.queue_setDfa (n : Nat) (x : Dfa) (q : Nat) : (s.setDfa n x).queue q = s.queue q := rfl

@[simp] theorem State.reg_setZone (n : Nat) (x : Zone) (a : Nat) : (s.setZone n x).reg a = s.reg a := rfl
@[simp] theorem State.fld_setZone (n : Nat) (x : Zone) (g : Fld) : (s.setZone n x).fld g = s.fld g := rfl
@[simp] theorem State.flag_setZone (n : Nat) (x : Zone) (g : Fld) : (s.setZone n x).flag g = s.flag g := rfl
@[simp] theorem State.byte_setZone (n : Nat) (x : Zone) (a : Nat) : (s.setZone n x).byte a = s.byte a := rfl
@[simp] theorem State.tag_setZone (n : Nat) (x : Zone) (c r : Nat) : (s.setZone n x).tag c r = s.tag c r := rfl
@[simp] theorem State.mark_setZone (n : Nat) (x : Zone) (c r : Nat) : (s.setZone n x).mark c r = s.mark c r := rfl
@[simp] theorem State.freshOf_setZone (n : Nat) (x : Zone) (c : Nat) : (s.setZone n x).freshOf c = s.freshOf c := rfl
@[simp] theorem State.core_setZone (n : Nat) (x : Zone) (k : Nat) : (s.setZone n x).core k = s.core k := rfl
@[simp] theorem State.tile_setZone (n : Nat) (x : Zone) (t : Nat) : (s.setZone n x).tile t = s.tile t := rfl
@[simp] theorem State.tally_setZone (n : Nat) (x : Zone) (c : Nat) : (s.setZone n x).tally c = s.tally c := rfl
@[simp] theorem State.mover_setZone (n : Nat) (x : Zone) (c : Nat) : (s.setZone n x).mover c = s.mover c := rfl
@[simp] theorem State.dfa_setZone (n : Nat) (x : Zone) (c : Nat) : (s.setZone n x).dfa c = s.dfa c := rfl
@[simp] theorem State.queue_setZone (n : Nat) (x : Zone) (q : Nat) : (s.setZone n x).queue q = s.queue q := rfl

@[simp] theorem State.reg_setQueue (n : Nat) (x : Queue) (a : Nat) : (s.setQueue n x).reg a = s.reg a := rfl
@[simp] theorem State.fld_setQueue (n : Nat) (x : Queue) (g : Fld) : (s.setQueue n x).fld g = s.fld g := rfl
@[simp] theorem State.flag_setQueue (n : Nat) (x : Queue) (g : Fld) : (s.setQueue n x).flag g = s.flag g := rfl
@[simp] theorem State.byte_setQueue (n : Nat) (x : Queue) (a : Nat) : (s.setQueue n x).byte a = s.byte a := rfl
@[simp] theorem State.tag_setQueue (n : Nat) (x : Queue) (c r : Nat) : (s.setQueue n x).tag c r = s.tag c r := rfl
@[simp] theorem State.mark_setQueue (n : Nat) (x : Queue) (c r : Nat) : (s.setQueue n x).mark c r = s.mark c r := rfl
@[simp] theorem State.freshOf_setQueue (n : Nat) (x : Queue) (c : Nat) : (s.setQueue n x).freshOf c = s.freshOf c := rfl
@[simp] theorem State.core_setQueue (n : Nat) (x : Queue) (k : Nat) : (s.setQueue n x).core k = s.core k := rfl
@[simp] theorem State.tile_setQueue (n : Nat) (x : Queue) (t : Nat) : (s.setQueue n x).tile t = s.tile t := rfl
@[simp] theorem State.tally_setQueue (n : Nat) (x : Queue) (c : Nat) : (s.setQueue n x).tally c = s.tally c := rfl
@[simp] theorem State.mover_setQueue (n : Nat) (x : Queue) (c : Nat) : (s.setQueue n x).mover c = s.mover c := rfl
@[simp] theorem State.dfa_setQueue (n : Nat) (x : Queue) (c : Nat) : (s.setQueue n x).dfa c = s.dfa c := rfl
@[simp] theorem State.zone_setQueue (n : Nat) (x : Queue) (z : Nat) : (s.setQueue n x).zone z = s.zone z := rfl

@[simp] theorem State.reg_setTag (i j : Nat) (b : Bool) (a : Nat) : (s.setTag i j b).reg a = s.reg a := rfl
@[simp] theorem State.fld_setTag (i j : Nat) (b : Bool) (g : Fld) : (s.setTag i j b).fld g = s.fld g := rfl
@[simp] theorem State.flag_setTag (i j : Nat) (b : Bool) (g : Fld) : (s.setTag i j b).flag g = s.flag g := rfl
@[simp] theorem State.byte_setTag (i j : Nat) (b : Bool) (a : Nat) : (s.setTag i j b).byte a = s.byte a := rfl
@[simp] theorem State.mark_setTag (i j : Nat) (b : Bool) (c r : Nat) : (s.setTag i j b).mark c r = s.mark c r := rfl
@[simp] theorem State.freshOf_setTag (i j : Nat) (b : Bool) (c : Nat) : (s.setTag i j b).freshOf c = s.freshOf c := rfl
@[simp] theorem State.core_setTag (i j : Nat) (b : Bool) (k : Nat) : (s.setTag i j b).core k = s.core k := rfl
@[simp] theorem State.tile_setTag (i j : Nat) (b : Bool) (t : Nat) : (s.setTag i j b).tile t = s.tile t := rfl
@[simp] theorem State.tally_setTag (i j : Nat) (b : Bool) (c : Nat) : (s.setTag i j b).tally c = s.tally c := rfl
@[simp] theorem State.mover_setTag (i j : Nat) (b : Bool) (c : Nat) : (s.setTag i j b).mover c = s.mover c := rfl
@[simp] theorem State.dfa_setTag (i j : Nat) (b : Bool) (c : Nat) : (s.setTag i j b).dfa c = s.dfa c := rfl
@[simp] theorem State.zone_setTag (i j : Nat) (b : Bool) (z : Nat) : (s.setTag i j b).zone z = s.zone z := rfl
@[simp] theorem State.queue_setTag (i j : Nat) (b : Bool) (q : Nat) : (s.setTag i j b).queue q = s.queue q := rfl

@[simp] theorem State.reg_setBytes (i : Nat) (bs : List Byte) (a : Nat) : (s.setBytes i bs).reg a = s.reg a := rfl
@[simp] theorem State.fld_setBytes (i : Nat) (bs : List Byte) (g : Fld) : (s.setBytes i bs).fld g = s.fld g := rfl
@[simp] theorem State.flag_setBytes (i : Nat) (bs : List Byte) (g : Fld) : (s.setBytes i bs).flag g = s.flag g := rfl
@[simp] theorem State.tag_setBytes (i : Nat) (bs : List Byte) (c r : Nat) : (s.setBytes i bs).tag c r = s.tag c r := rfl
@[simp] theorem State.mark_setBytes (i : Nat) (bs : List Byte) (c r : Nat) : (s.setBytes i bs).mark c r = s.mark c r := rfl
@[simp] theorem State.freshOf_setBytes (i : Nat) (bs : List Byte) (c : Nat) : (s.setBytes i bs).freshOf c = s.freshOf c := rfl
@[simp] theorem State.core_setBytes (i : Nat) (bs : List Byte) (k : Nat) : (s.setBytes i bs).core k = s.core k := rfl
@[simp] theorem State.tile_setBytes (i : Nat) (bs : List Byte) (t : Nat) : (s.setBytes i bs).tile t = s.tile t := rfl
@[simp] theorem State.tally_setBytes (i : Nat) (bs : List Byte) (c : Nat) : (s.setBytes i bs).tally c = s.tally c := rfl
@[simp] theorem State.mover_setBytes (i : Nat) (bs : List Byte) (c : Nat) : (s.setBytes i bs).mover c = s.mover c := rfl
@[simp] theorem State.dfa_setBytes (i : Nat) (bs : List Byte) (c : Nat) : (s.setBytes i bs).dfa c = s.dfa c := rfl
@[simp] theorem State.zone_setBytes (i : Nat) (bs : List Byte) (z : Nat) : (s.setBytes i bs).zone z = s.zone z := rfl
@[simp] theorem State.queue_setBytes (i : Nat) (bs : List Byte) (q : Nat) : (s.setBytes i bs).queue q = s.queue q := rfl

end Sys2Proof.Machine
end

