-- ==== Sys2Proof/WellFormed.lean ====
section
/-! DEFINITION. Which commands are well formed: what the operand types leave to be checked, the lengths of byte strings
and the ranges of plain numbers. -/

namespace Sys2Proof

/-- A register access names a byte address of the map and 1 to 4 bytes (R11, R14). -/
def accessOk (addr size : Nat) : Bool := decide (addr < 2 ^ 32) && decide (1 ≤ size) && decide (size ≤ 4)

/-- An enhanced beacon as heard: an MMP IE of 20 bytes (Table MESH-3) or none, and values of their widths. -/
def Heard.ok (b : Heard) : Bool :=
  (b.ie.isEmpty || b.ie.length == 20) && decide (b.src < 2 ^ 64) && decide (b.stamp < 2 ^ 32) && decide (b.asn < 2 ^ 40)

/-- An MMP header holds values of its fields' widths, and the payload fits a frame (Table MESH-4). -/
def MmpFrame.ok (f : MmpFrame) : Bool :=
  decide (f.type < 16) && decide (f.ttl < 16) && decide (f.origin < 2 ^ 64) && decide (f.mseq < 2 ^ 16) &&
    decide (f.rootGen < 2 ^ 16) && decide (f.payload.length ≤ 127)

/-- A command whose operands are in range. -/
def Instr.wf : Instr → Bool
  | .registerWrite _ a n v => accessOk a n && decide (v < 2 ^ (8 * n))
  | .rcFieldRead _ a n => accessOk a n
  | .hostBarAccess _ _ n _ => decide (1 ≤ (n : Nat))
  | .bootStage d => decide (d.length ≤ 524288)
  | .moverHostReadDone _ _ d => decide (d.length ≤ 768)
  | .spiWrite _ n _ _ d _ => decide (d.length ≤ 4 * (n + 1))
  | .slotEngineRequest _ nonce _ _ n _ _ tag => nonce.length == 13 && decide (tag.length ≤ n)
  | .rxFrame psdu _ _ _ _ => decide (psdu.length ≤ 127)
  | .wirRxFrame f _ => decide (f.length ≤ 1536)
  | .scanDwellEnd _ bs => bs.all Heard.ok
  | .claimHeard b | .startBeaconHeard b => b.ok
  | .joinreq f | .joinack f | .route f | .zreport f | .leave f | .handover f _ _ | .handack f | .mmpFrameForward f => f.ok
  | .handoverRepeat p => decide (p.length ≤ 127)
  | .samplePreload a b | .extest a b => a.length == 154 && b.length == 154
  | .pdmWindowEnd num den => decide (num ≤ den)
  | _ => true

end Sys2Proof
end

