-- ==== Sys2Proof/Tests/Slice0.lean ====
section
/-! SUPPORT. Tests of the model and witnesses for the statements: for every clause with hypotheses, a state and operands
that meet them together. -/

namespace Sys2Proof.Tests

open Sys2Proof Sys2Proof.Machine

set_option maxRecDepth 8192
set_option Elab.async false

/-- The part after reset with every domain ON. -/
def lit : State := (List.range 26).foldl (fun s d => s.setFld (F.PWR_DOM_ACT d) 2) State.reset

/-- The boot loader in a stage, with its domains ON. -/
def bootAt (n : Nat) : State := lit.setFld F.BOOT_STATUS_STAGE n

/-- The boot loader in HOLD with the host on the SPI port. -/
def bootHold : State :=
  ((bootAt 8).setFld F.BOOT_STATUS_HOLD 1).setFld F.BOOT_STATUS_CODE 2

/-- A parcel of format 1 under a key: SEAL with VLIMIT 5 and no record, START of SV at address 0; bytes 12 and 15 as given. -/
def smallParcel (key : List Byte) (lvl vers : Byte) : List Byte :=
  let b := [0x48, 0x50, 0x43, 0x4C, 1, 32, 2, 0, 112, 0, 0, 0, lvl, 0, 0, vers] ++ List.replicate 16 0 ++
    [1, 0, 0, 0, 64, 0, 0, 0, 11, 0, 0, 0, 0, 0, 0, 0] ++ [7, 0, 0, 0, 76, 0, 0, 0, 15, 0, 0, 0, 16, 0, 0, 0] ++
    [5, 0] ++ List.replicate 30 0
  b ++ beBytes 16 (cmac key b)

/-- The boot loader in CHECK with that parcel staged, its tag right. -/
def parcelGood : State := (bootAt 3).stage (smallParcel (parcelKey [] (smallParcel [] 0 0)) 0 0)

/-- The boot loader in CHECK with that parcel staged, its tag wrong. -/
def parcelBad : State := (bootAt 3).stage (smallParcel [] 0 0)

/-- A parcel of format 2 with SEAL, CLOCK, KEY, CODE of core 1 and START of core 1 and SV; its tag is zero. -/
def bigParcel : List Byte :=
  [0x48, 0x50, 0x43, 0x4C, 2, 64, 5, 0, 224, 0, 0, 0, 0, 0, 0, 0] ++ List.replicate 48 0 ++
  [1, 0, 0, 0, 144, 0, 0, 0, 11, 0, 0, 0, 0, 0, 0, 0] ++ [2, 0, 0, 0, 156, 0, 0, 0, 4, 0, 0, 0, 0, 0, 0, 0] ++
  [8, 0, 0, 0, 160, 0, 0, 0, 28, 0, 0, 0, 0, 0, 0, 0] ++ [5, 0, 0, 0, 188, 0, 0, 0, 3, 0, 0, 0, 1, 0, 0, 0] ++
  [7, 0, 0, 0, 192, 0, 0, 0, 15, 0, 0, 0, 0x12, 0, 0, 0] ++
  [5, 0] ++ List.replicate 10 0 ++ [125, 5, 1, 0] ++
  [1, 16, 0, 0, 235, 169, 152, 189, 95, 134, 195, 36, 197, 180, 137, 27, 200, 239, 171, 185, 230, 56, 188, 195, 74, 112, 60, 103] ++
  [0x11, 0x22, 0x33, 0] ++ List.replicate 32 0

/-- The boot loader in APPLY with that parcel staged, as far as n. -/
def applyAt (n : Nat) : State := { (bootAt 4).stage bigParcel with boot := { apply := n } }

/-- The boot loader in APPLY with the parcel that has no CLOCK section. -/
def applySmall (n : Nat) : State := { (bootAt 4).stage (smallParcel [] 0 0) with boot := { apply := n } }

/-- What a flash of the given density answers to discovery: one parameter header, and a BFPT of 16 doublewords at byte 16
with 1-1-4 Fast Read and a quad-enable bit 1 of status register 2. -/
def sfdpOf (density : BitVec 32) : Sfdp :=
  { head := [0x53, 0x46, 0x44, 0x50, 6, 1, 0, 0xFF, 0, 6, 1, 16, 16, 0, 0, 0xFF]
    dw1 := 0x00400000, dw2 := density, dw3 := 0x6B080000, dw15 := 0x00100000 }

/-- A flash of 16 MiB. -/
def sfdpQuad : Sfdp := sfdpOf 0x07FFFFFF

/-- A flash of 512 KiB. -/
def sfdpTiny : Sfdp := sfdpOf 0x003FFFFF

/-- Core 1 running in sealed state, every domain ON. -/
def sealedCore : State := lit.setCore 1 { lit.core 1 with run := .run, sealedSt := true }

/-- The host open: HST ON, the link up, the boot loader done. -/
def hostUp : State := ((lit.setFld F.CLK_STATUS_PCIEREF 1).setFld F.HST_LINK_UP 1).setFld F.BOOT_STATUS_STAGE 6

/-- The host open with the SPI port chosen by the strap, under protocol v2. -/
def spiUp : State := hostUp.setFld F.HST_SPISTAT_PROTO 1

/-- A vector pending and no longer masked. -/
def hostVec : State := { hostUp with msixPend := [(3, true)], msixEnable := true, msix := [(3, ⟨8, 0, 5, false⟩)] }

/-- A FRANK that runs: 8 bits of row 7. -/
def frankEntry : TalEntry :=
  { port := 0, ws := { d0 := 6, d1 := 7, d2 := 0, d3 := 8, d4 := 0 }, iseal := false, pad := 0, phase := .running }

/-- Cluster 1 with that FRANK in its queue and nothing else set. -/
def frankQueued : State := lit.setTally 1 { entries := [frankEntry] }

/-- The meter locked, zone 3 with 100 bits of credit, a ring of four rows, row 7 of cluster 1 fresh for zone 3. -/
def frankReady : State :=
  (((frankQueued.setFld F.SEAL_CTRL_LOCK 1).setFld (F.SEAL_RINGCFG_LEN 1) 4).setZone 3 { budget := 100, b0 := 100 }).setFreshMark 1 7 3

/-- A posted wide write from cluster 0 to row 5 of cluster 1, on its way. -/
def flyingWrite : Packet :=
  { src := 0, tgt := 1, read := false, wide := true, addr := 0x200A00, data := [7], tag := false, ctx := 0, sealedIssue := false,
    cw := true, stage := .flying }

/-- The same packet at another stage, or as a read. -/
def flyingRead : Packet := { flyingWrite with read := true, wide := false }

/-- The part with one packet under way. -/
def withPacket (p : Packet) : State := { lit with flight := [p] }

/-- A program of one row in a phase. -/
def longProgram (ph : LongPhase) : LongOp :=
  { kind := .program, src := 0, first := 0, count := 1, mask := 1, stuckok := 7, gen := 9, baro := false, phase := ph, idx := 0,
    baroNext := false, allow := 0, nospare := none, abort := false }

/-- A wipe whose last row step runs. -/
def longWipe : LongOp := { longProgram .step with kind := .wipe, count := 776, idx := 775 }

/-- Tile 8 with a long operation. -/
def tileWith (l : LongOp) : State := lit.setTile 8 { long := some l }

/-- A tile without deviations, with the bounds of R294 in force. -/
def noNoise : Noise :=
  { force := true, sigp := 0, sigr := 0, sigc := 0, siga := 0, nu := 0, nusig := 0, sigk := 0, sigo := 0, sigg := 0,
    tau0 := 1 }

/-- Tiles 8 and 9 paired, and tile 9 with a long operation. -/
def pairBusy : State :=
  ((((((((lit.setFld (F.CAL_RFROWS_COUNT 8) 2).setFld (F.CAL_RFCFG_GRPMASK 8) 1).setFld (F.CAL_PAIR_EN 8) 1).setFld (F.CAL_PAIR_EN 9) 1).setFld
    (F.CAL_PAIR_PARTNER 8) 9).setFld (F.CAL_PAIR_PARTNER 9) 8).setFld (F.CAL_PAIR_ROLE 9) 1).setTile 9 { long := some longWipe })

/-- Tile 8 with a check or a sweep. -/
def tileChecking (k : Check) : State := lit.setTile 8 { check := some k }

/-- A word set that passes no check (its D1 holds unused bits). -/
def badWords : WordSet := { d0 := 0, d1 := 0xFFFFFF, d2 := 0, d3 := 0, d4 := 0 }

/-- One word set for each opcode of the tally unit, each within its checks: 1 TOP, 2 MAXR, 3 MINR, 4 INS, 5 FINR, 6 FRANK, 7 SYNC. -/
def goodWords (opc : Nat) : WordSet :=
  match opc with
  | 1 => { d0 := 0, d1 := BitVec.ofNat 24 (4 * 8 + 2 ^ 16), d2 := BitVec.ofNat 24 (5 + 64 * 4096), d3 := BitVec.ofNat 24 (8 * 512), d4 := 10 }
  | 2 | 3 => { d0 := 0, d1 := BitVec.ofNat 24 (3 * 32), d2 := 5, d3 := BitVec.ofNat 24 (8 + 8 * 512), d4 := 10 }
  | 4 => { d0 := 0, d1 := 8, d2 := 5, d3 := 0, d4 := 10 }
  | 5 => { d0 := BitVec.ofNat 24 2048, d1 := 0, d2 := 0, d3 := BitVec.ofNat 24 (8 * 512), d4 := BitVec.ofNat 24 (10 + 20 * 4096) }
  | 6 => { d0 := 0, d1 := 7, d2 := 0, d3 := 8, d4 := 0 }
  | _ => { d0 := 0, d1 := 0, d2 := 0, d3 := 0, d4 := 0 }

/-- An entry of cluster 1 of a given opcode in a given phase. -/
def talEntry (opc : Nat) (ph : TalPhase) : TalEntry :=
  { port := 0, ws := withOpc opc (goodWords opc), iseal := false, pad := 0, phase := ph }

/-- Cluster 1 with one entry of an opcode. -/
def talWith (opc : Nat) (ph : TalPhase) : State := lit.setTally 1 { entries := [talEntry opc ph] }

/-- A job of one row from row 1 to row 2 of cluster 1. -/
def goodJob : JobWords := { j0 := 0x200200, j1 := 0, j2 := 0x200400, j3 := 1 }

/-- The same job as a job of a mover. -/
def movJob (j : JobWords) (run : Bool) (asked : Nat) : MovJob :=
  { port := 0, jw := j, iseal := false, running := run, done := 0, got := [], asked := asked, status := 0, ended := false }

/-- A job of one row from host memory to row 2 of cluster 1. -/
def hostJob : JobWords := { j0 := 0, j1 := 0x10, j2 := 0x200400, j3 := 1 }

/-- Cluster 1 with one job. -/
def movWith (j : MovJob) : State := lit.setMover 1 { jobs := [j] }

/-- Cluster 1's array with the given state. -/
def dfaWith (d : Dfa) : State := lit.setDfa 1 d

/-- A start of slot 0 with tag 5. -/
def dfaSt : DfaStart := { slot := 0, tag := 5, notify := false, src := 0, iseal := false }

/-- A run of that start at its first step. -/
def dfaRun0 : DfaRun := { start := dfaSt, entry := 0, iter := 0, step := 0, exh := false, ended := false }

/-- Cluster 1 with slot 0 filled by one entry that ends the timetable. -/
def dfaSlot : State := lit.setBytes 0x061C1000 [0, 0, 0x10]

/-- Cluster 1 with slot 0 running. -/
def dfaGoing : State := dfaSlot.setDfa 1 { run := some dfaRun0 }

/-- The same with a round of eight steps. -/
def dfaSteps : State := (dfaSlot.setBytes 0x061C0000 [7]).setDfa 1 { run := some dfaRun0 }

/-- The same with several iterations. -/
def dfaIters : State := (dfaSlot.setBytes 0x061C1000 [0x20, 0, 0x10]).setDfa 1 { run := some dfaRun0 }

/-- The same with a cell that reads a port whose row has not arrived. -/
def dfaStall : State :=
  (dfaSlot.setBytes 0x06180008 [0x81, 1, 0]).setDfa 1 { run := some dfaRun0, ports := [(2, { pd0 := 0, pd1 := 0x10 })] }

/-- Core 1 running on the given registers. -/
def coreWith (c : CoreSt) : State := lit.setCore 1 { c with run := .run }

/-- Core 1 running with 5 in g1 and -3 in g2. -/
def core53 : State := coreWith (((lit.core 1).setReg 1 5).setReg 2 0xFFFFFD)

/-- The operands of the worked example of QMUL. -/
def coreQ : State := coreWith (((lit.core 1).setReg 1 0xFD7FFF).setReg 2 0x00C000)

/-- The larger operands of the worked example of QMUL. -/
def coreQs : State := coreWith (((lit.core 1).setReg 1 0x640000).setReg 2 0x010000)

/-- Core 1 running in sealed state. -/
def coreSealed : State := coreWith { (lit.core 1) with sealedSt := true }

/-- Core 1 running in an exception. -/
def coreInx : State := coreWith { ((lit.core 1).setCsr 1 7) with inx := true }

/-- Core 1 with one store of g1 to its own word 5 waiting. -/
def coreStore : State := coreWith { (lit.core 1).setReg 1 0x123456 with stores := [⟨true, 5, 3, 0x123456, true⟩] }

/-- Core 1 in IDLE with arrivals at its tasks 1 and 3. -/
def coreIdle : State := { lit.setCore 1 { ((lit.core 1).setCsr 9 0x40) with run := .idle } with arriving := [7, 5] }

/-- Core 1 in WAIT with an arrival at its wake task. -/
def coreParked : State := { lit.setCore 1 { lit.core 1 with run := .wait } with arriving := [21] }

/-- Core 1 at the end of its wipe. -/
def coreWiping : State := lit.setCore 1 { (lit.core 1).dirtied 70 with run := .wipe }

/-- A checked command of an opcode with no flags and a payload of zeros but its first bytes. -/
def cmdOf (opc : Byte) (pay : List Byte) : QCmd :=
  { uid := 1, raw := [opc, 0, 0, 0, 0, 0, 0, 0, 0] ++ pay ++ List.replicate (23 - pay.length) 0, phase := 1 }

/-- A WSET of format QF2 that waits for fence 9, generation 1, which is free. -/
def staleCmd : QCmd :=
  { cmdOf 1 [] with raw := [1, 4, 0, 0, 0, 0, 0, 0, 0, 9, 0x10, 0] ++ List.replicate 52 0, qf2 := true }

/-- A NOP of format QF2 that depends on fence 7, generation 1. -/
def depCmd : QCmd :=
  { cmdOf 0 [] with raw := [0, 0x14, 0, 0, 0, 0, 0, 0, 0, 7, 0x10, 0] ++ List.replicate 52 0, qf2 := true }

/-- A WSET that has completed on cluster 0 after four posted writes. -/
def unitCmd : QCmd := { cmdOf 1 [] with phase := 3, sent := true, issued := 1, covers := some 4 }

/-- A WSLIST of nine word sets after its first step. -/
def listCmd : QCmd := { cmdOf 2 [0, 0, 9, 0] with phase := 2, limit := 8, issued := 8 }

/-- A posted write of cluster 0 on its way. -/
def posting : Packet :=
  { src := 0, tgt := 1, read := false, wide := false, addr := 0, data := [], tag := false, ctx := 0, sealedIssue := false,
    cw := true, stage := .flying, seq := 2 }

/-- Queue 5 ACTIVE with one command. -/
def queueWith (x : QCmd) : State :=
  ((lit.setFld (F.QUE_QSTATE_STATE 5) 1).setFld (F.QUE_QCFG_CTX 5) 0).setQueue 5 { cmds := [x] }

/-- The pcie host open with queue 5 ACTIVE. -/
def doorUp : State := lit.setFld (F.QUE_QSTATE_STATE 5) 1

/-- A WAIT on fence 7, generation 1. -/
def waitCmd : QCmd := cmdOf 8 [7, 0x10, 0]

/-- Fence 7 allocated, with that WAIT checked. -/
def waitState : State := (queueWith waitCmd).fenceAlloc 7

/-- Stopwatch 3 armed, a long time ago. -/
def swOld : State := { lit.setFld (F.EVF_SWSTAT_STATE 3) 1 with evtCycles := 2 ^ 32 + 5 }

/-- Producer 80 enabled in channel 16, which starts stopwatch 3, and a pulse of it. -/
def swWired : State :=
  (((lit.setFld (F.EVF_CHEN_EN 16) 4).setFld (F.EVF_TASK_EN 51) 0).setFld (F.EVF_TASK_EN 51) 0).fire 80

/-- Sorter 2 with a filter that waits for a raw 1. -/
def sortWait : State :=
  { (lit.setFld (F.EVF_SORT1_FLT 2) 1).setFld (F.EVF_SORT1_LEN 2) 5 with sortRaw := [(2, true)] }

/-- A pending RTC write of time 100 s, at the last cycle of a second. -/
def rtcPend : State :=
  { (lit.setFld F.RTC_STATUS_WPEND 1).setFld F.CLK_STATUS_AONOK 1 with rtc := { lit.rtc with sec := 7, sub := 32767, wsec := 100, wsub := 5 } }

/-- The clock at the last cycle of second 7. -/
def rtcEdge : State :=
  { lit.setFld F.CLK_STATUS_AONOK 1 with rtc := { lit.rtc with sec := 7, sub := 32767 } }

/-- A snapshot requested 5000 clk_evt cycles ago. -/
def rtcSnapping : State :=
  { (lit.setFld F.CLK_STATUS_AONOK 1).setFld F.RTC_SNAPST_BUSY 1 with
    evtCycles := 6000, rtc := { lit.rtc with sec := 7, sub := 9, snapReq := 1000 } }

/-- The alarm armed for second 7, which has come. -/
def rtcRing : State :=
  { ((lit.setFld F.CLK_STATUS_AONOK 1).setFld F.RTC_ALMSUB_EN 1).setFld F.RTC_ALM0_SEC 7 with rtc := { lit.rtc with sec := 7 } }

/-- A mounted store, a write of type 3 and 8 bytes from row 2 of cluster 1 set up. -/
def pstReady : State :=
  ((((lit.setFld F.PST_STATUS_MOUNTED 1).setFld F.PST_KEY0_TYPE 3).setFld F.PST_LEN_LEN 8).setFld F.PST_SRC_CLUSTER 1).setFld
    F.PST_SRC_ROW 2

/-- The record write that this begins. -/
def pstOp0 : PstOp :=
  { del := false, type := 3, inst := 0, len := 8, cluster := 1, row := 2, spare := 0, old := none, unit := 0 }

/-- The store with a VALID record of that key in page 9. -/
def pstHeld : State := pstReady.setPage 9 { cls := 1, known := true, type := 3, len := 8, seq := 5 }

/-- Owner 5, SV, holds the lock of the AES engine. -/
def cipHeld : State := lit.setFld F.CIP_LOCK_OWNER 5

/-- A set-S job under key slot 2. -/
def slotJ : SlotJob :=
  { slot := 2, nonce := List.replicate 13 1, dec := false, enc := true, tagLen := 4, adata := [1], data := [2, 3], tag := [], running := true }

/-- The same job with its key in place. -/
def slotReady : State := ({ lit with cip := { lit.cip with slotJob := some slotJ } } : State).setCipKey 2 ⟨true, 0, 0x20, List.replicate 16 5⟩

/-- The fields of a command of owner 5 in the plain mode of an empty job. -/
def cipArgs0 : CipArgs :=
  { job := { mode := 0, dec := false, enc := true, verify := false, kslot := 1, incw := 0, tagLen := 0, aLen := 0, mLen := 0, nb := 0,
             aad := false, first := true, last := true }
    iv := [], etag := [], label := [], cluster := 1, row := 0, offset := 0, len := 16, tslot := 2, size := 0, use := 1, toBoot := false }

/-- The engine with a command of owner 5 running. -/
def cipBusy (op : Nat) : State := { cipHeld with cip := { cipHeld.cip with op := some { op := op, owner := 5, args := cipArgs0, running := true } } }

/-- A command of owner 5 that runs under an AES-128 key. -/
def cipOp0 (op : Nat) : CipOp := { op := op, owner := 5, args := cipArgs0, key := ⟨true, 0, 0x10, List.replicate 16 5⟩, running := true }

/-- A first job of AES-CTR that leaves its message open. -/
def cipJob0 : CipOp :=
  { cipOp0 1 with args := { cipArgs0 with job := { cipArgs0.job with mode := 1, last := false } } }

/-- A slot-engine job latched under its key. -/
def slotKeyed : SlotJob := { slotJ with key := ⟨true, 0, 0x20, List.replicate 16 5⟩ }

/-- The wrapped key of RFC 3394, 4.1, in the buffer. -/
def cipWrapped : State := cipHeld.setCipBytes
  [0x1F, 0xA6, 0x8B, 0x0A, 0x81, 0x12, 0xB4, 0x47, 0xAE, 0xF3, 0x4B, 0xD8, 0xFB, 0x5A, 0x7B, 0x82, 0x9D, 0x3E, 0x86, 0x23,
   0x71, 0xD2, 0xCF, 0xE5]

/-- An UNWRAP under the key-encryption key of the same example. -/
def cipUnw : CipOp :=
  { cipOp0 8 with key := ⟨true, 0, 0x10, [0, 1, 2, 3, 4, 5, 6, 7, 8, 9, 10, 11, 12, 13, 14, 15]⟩ }

/-- The engine SYNCED. -/
def lnkSync : State := lit.setFld F.LNK_STATUS_STATE 2

/-- The engine in CSMA with a frame of two bytes READY in buffer 3, taken from its memory. -/
def lnkCsma : State :=
  (lit.setFld F.LNK_STATUS_STATE 1).setTx 3 { d0 := 0x82, mem := [(0, 0x21)], st := 1 }

/-- The same frame on the air. -/
def lnkAir : State :=
  { lnkCsma.setTx 3 { lnkCsma.tx 3 with st := 2, csma := true, plain := [0x21, 0] } with lnk := { (lnkCsma.setTx 3 { lnkCsma.tx 3 with st := 2, csma := true, plain := [0x21, 0] }).lnk with onAir := some (3, none) } }

/-- Buffer 0 with a descriptor of two template bytes. -/
def lnkBuf : State := lit.setTx 0 { d0 := 0x82 }

/-- An RX link every slot. -/
def lnkRxl : State :=
  { (lnkSync.setFld (F.LNK_SF_EN 0) 1).setFld (F.LNK_SF_LEN 0) 1 with lnk := { lnkSync.lnk with links := [(4, (0, 0x8002))] } }

/-- A CSMA access in progress for buffer 3. -/
def lnkAcc : State := (lnkCsma.setTx 3 { lnkCsma.tx 3 with st := 2, csma := true }).setFld F.LNK_CSMA_QMASK 255

/-- A dedicated TX link every slot with a frame between attempts. -/
def lnkTxl : State :=
  { (lnkSync.setFld (F.LNK_SF_EN 0) 1).setFld (F.LNK_SF_LEN 0) 1 with
    lnk := { lnkSync.lnk with links := [(4, (0, 0x8001))], txs := [(3, { d0 := 0x82, st := 2, plain := [0x21, 0], psdu := [0x21, 0, 1, 2] })] } }

/-- A frame that asks for no acknowledgement on the air. -/
def lnkAirBcast : State := lnkAir.setTx 3 { lnkAir.tx 3 with plain := [1, 0] }

/-- The RX ring full. -/
def lnkFull : State :=
  { lit with lnk := { lit.lnk with rx := List.replicate 16 ⟨[], 0, 0, false, 0, 0, 0, 0, 11, false, true⟩ } }

/-- A ROOT beacon a joining node may choose. -/
def meshBeacon : Beacon :=
  { kind := 2, claim := 5, rootAddr := 0x77, rootGen := 3, rank := 256, joinOpen := true, start := true, depth := 0, asn := 9, stamp := 4,
    src := 0x77, rssi := -40 }

/-- A claim beacon. -/
def meshClaim : Beacon := { meshBeacon with kind := 1, start := false }

/-- A frame of this mesh from node 0x99. -/
def meshFrame : MmpFrame :=
  { type := 2, ttl := 4, up := false, compact := false, origin := 0x99, mseq := 1, rootGen := 3, payload := [0, 0], secok := true }

/-- A part whose mesh state is m. -/
def meshAt (m : Mesh) : State := State.reset.setMesh m

/-- A claimant, a root, a child and a node that joins. -/
def meshClaiming : State := meshAt { phase := .claiming, claim := 9, sent := 4, hub := true }
def meshRoot : State := meshAt { phase := .root, claim := 9, hub := true }
def meshJoined : State := meshAt { phase := .joined, parent := 0x77, rootGen := 3, rank := 512, depth := 1 }
def meshJoining : State := meshAt { phase := .joining, cand := some meshBeacon, tries := 1 }

/-- What a node hears of a beacon of KIND k. -/
def meshHeard (k : Nat) : Heard :=
  { ie := mmpIe k 5 0x77 3 256 true (k == 2) 0, src := 0x77, rssi := -40, secok := true, stamp := 4, asn := 9 }

/-- A part with every domain ON and a mesh state. -/
def meshLit (m : Mesh) : State := lit.setMesh m

/-- A child in a cell. -/
def meshKid (a ts : Nat) : Child := { addr := a, ts := ts, choff := 0, saddr := 0 }

/-- A stream of another origin. -/
def meshStream : Stream := { origin := 1, zone := 1, cluster := 1, hi := 0, masks := [] }

/-- A record of a zone. -/
def meshRec : ZoneRecord := { origin := 1, zone := 2, cluster := 0, epoch := 3, seq := 4, data := [] }

/-- The wired link in AN, in TRAIN, and UP. -/
def wirAn : State := (lit.setFld F.WIR_CTRL_EN 1).setFld F.WIR_LINKST_STATE 1
def wirTrain : State := (lit.setFld F.WIR_CTRL_EN 1).setFld F.WIR_LINKST_STATE 2
def wirLive : State := ((lit.setFld F.WIR_CTRL_EN 1).setFld F.WIR_LINKST_STATE 3).setFld F.WIR_LINKST_UP 1

/-- Buffer 2 with a template of 14 zero bytes READY, and INFLIGHT. -/
def wirQueued : State := wirLive.setWbuf 2 { d0 := 14, st := 1 }
def wirOut : State := wirLive.setWbuf 2 { d0 := 14, st := 2, frame := macFrame (List.replicate 14 0), len := 64 }

/-- A received DATA frame with two hops left that asks for an acknowledgement. -/
def wirData : WirEntry :=
  { bytes := List.replicate 12 7 ++ [0x88, 0xB5, 0x11, 2] ++ List.replicate 12 1 ++ [0, 0x20], dup := false, secok := false, wrh := true,
    amp := 0, sqi := 0 }

/-- Port 0 (I2C) enabled for frames of 4 bytes in one read; PIR port 7 enabled; both idle. -/
def snsLive : State :=
  ((((((lit.setFld (F.SNS_PCFG_EN 0) 1).setFld (F.SNS_PLEN_LEN 0) 4).setFld (F.SNS_PBUS2_RDLEN 0) 4).setFld (F.SNS_PBUS2_NREAD 0) 0).setFld
    (F.SNS_PCFG_EN 7) 1).setFld (F.SNS_PLEN_LEN 7) 4).setFld F.SNS_PIRCFG_RATE 10

/-- Port 0 in its start delay, in capture, and with a frame to flush. -/
def snsWait : State := snsLive.setPort 0 { phase := 1 }
def snsCap : State := snsLive.setPort 0 { phase := 2 }
def snsFlush : State := snsLive.setPort 0 { flush := some [1, 2, 3, 4] }

/-- Comparator 0 watching PIR0 above 100. -/
def snsCmp : State := ((snsLive.setFld (F.SNS_CMP0_MODE 0) 1).setFld (F.SNS_CMP0_SRC 0) 0).setFld (F.SNS_CMP1_HI 0) 100

/-- Tile 3 SUSPECT in M and D. -/
def fltSuspect : State := (lit.setHealthM 3 1).setHealthD 3 1

/-- Unit 3 SUSPECT in D alone for n ticks. -/
def fltDis (n : Nat) : State := { lit.setHealthD 3 1 with disTicks := [(3, n)] }

/-- The watchdog counting, and one tick before its end. -/
def fltDog : State := (lit.setFld F.FLT_WDCFG_EN 1).setFld F.FLT_WDCFG_TIMEOUT 100
def fltDogLate : State := fltDog.setFld F.FLT_WDCNT_COUNT 99

/-- The fault log full. -/
def fltFull : State := { lit with log := List.replicate 32 ⟨1, 63, 0, 0, 0⟩ }

/-- A core halted by debug. -/
def dbgHalted : State := lit.setCore 1 { lit.core 1 with run := .halt }

/-- A core that runs. -/
def dbgRunning : State := lit.setCore 1 { lit.core 1 with run := .run }

/-- A part in the production test condition, and in FUSE. -/
def dbgTest : State := lit.setFld F.BOOT_STRAP_EFFSRC 3
def dbgFuse : State := { dbgTest with tap := { mode := 4 } }

/-- No fuse of a blow. -/
def noBlow : FuseBlow :=
  { devkey := 0, uid := 0, lifecycle := 0, dbgdis := false, fmt1dis := false, hostbootdis := false, rollback := 0, anatrim := 0,
    crc := 0 }

/-- A debug access BUSY on SEAL_VIOL. -/
def dbgBusy : State := { lit with tap := { addr := Reg.SEAL_VIOL, status := 1 } }

/-- Core 1 in WAIT after a task-start arrival that was discarded. -/
def coreHailed : State := lit.setCore 1 { (lit.core 1) with run := .wait, hail := true }

/-- Software pulse 0 stands, its channel 16 is enabled in the array's event start 39. -/
def fireAt : State :=
  { (lit.setFld (F.EVF_CHEN_EN 16) 4).setFld (F.EVF_TASK_EN 39) 2 with pulses := [80] }

/-- Sorter 2 with its raw output at 1 under a glitch filter of six cycles, two of which have passed. -/
def glitch : State :=
  { ((lit.setFld (F.EVF_SORT1_FLT 2) 1).setFld (F.EVF_SORT1_LEN 2) 5).setFld (F.EVF_SORT1_TRUTH 2) 255 with
    sortRaw := [(2, true)], sortHeld := [(2, 2)] }

theorem test_stepRunsFront :
    -- idle
    (lit.pending = []) := by
  decide +kernel

theorem test_resetValues :
    -- domains
    ((5 : Nat) < 26) := by
  decide +kernel

theorem test_identificationCode :
    -- code
    (lit.tapOn = true) := by
  decide +kernel

theorem test_resetCauses :
    -- clause 1
    (let s : State := lit;
     (s.held.por = false) ∧ (s.weather ≠ .frost)) ∧
    -- clause 2
    (let s : State := lit; let v : Word := 1;
     (s.Takes .sv Reg.FLT_WDKICK) ∧ (v ≠ 0x00A5C3)) ∧
    -- clause 3
    (let s : State := lit.setFld F.HST_LINK_UP 1;
     (s.stopped = false) ∧ (s.domOn 5 = true) ∧ (s.fld F.HST_LINK_UP = 1) ∧ (s.fld F.BOOT_STATUS_STAGE < 3 ∨ 5 < s.fld
       F.BOOT_STATUS_STAGE)) ∧
    -- clause 4
    (let s : State := lit; let c : Fin 4 := 2; let req : Fin 16 := 4;
     (s.Takes .sv Reg.CLK_CLRST) ∧ (req.val = 2 ^ c.val) ∧ (s.inClReset c = false)) ∧
    -- clause 5
    (let s : State := lit;
     (s.held.por = false) ∧ (s.weather ≠ .frost)) := by
  refine ⟨?_, ?_, ?_, ?_, ?_⟩ <;> decide +kernel

theorem test_clockRegisterWriters :
    -- clause 0
    (let s : State := lit; let a : Nat := Reg.CLK_PLLA;
     (a ∈ [Reg.CLK_CORESEL, Reg.CLK_PLLA, Reg.CLK_CLRST]) ∧ (s.domOn 0 = true)) ∧
    -- clause 1
    (let s : State := lit; let ini : Initiator := .debug; let a : Nat := Reg.CLK_PLLA;
     (a ∈ [Reg.CLK_CORESEL, Reg.CLK_PLLA, Reg.CLK_CLRST]) ∧ (ini ≠ .sv) ∧ (ini ≠ .boot) ∧ (s.stopped = false) ∧
       (s.sealedIni ini = false) ∧ (s.gate ini a true ≠ .dropped)) ∧
    -- clause 2
    (let s : State := lit; let ini : Initiator := .debug;
     (ini ≠ .sv) ∧ (ini ≠ .boot) ∧ (s.stopped = false) ∧ (s.sealedIni ini = false) ∧ (s.gate ini Reg.CLK_CORESEL true
       ≠ .dropped)) ∧
    -- clause 3
    (let s : State := lit; let ini : Initiator := .sv;
     (ini = .sv ∨ ini = .boot) ∧ (s.stopped = false) ∧ (s.sealedIni ini = false) ∧ (s.domOn 0 = true)) := by
  refine ⟨?_, ?_, ?_, ?_⟩ <;> decide +kernel

theorem test_creditOrder :
    -- order
    ((5 : Nat) ≤ zoneAvail (⟨0, 0, 10, 0, 0, 0, 3, 0, 0, 0⟩ : Zone)) ∧
    -- bound
    ((⟨0, 0, 8, 8, 8, 8, 8, 8, 33, 0⟩ : Zone).b0 ≤ (⟨0, 0, 8, 8, 8, 8, 8, 8, 33, 0⟩ : Zone).budget ∧ (⟨0, 0, 8, 8, 8,
    8, 8, 8, 33, 0⟩ : Zone).b1 ≤ (⟨0, 0, 8, 8, 8, 8, 8, 8, 33, 0⟩ : Zone).budget ∧ (⟨0, 0, 8, 8, 8, 8, 8, 8, 33, 0⟩ :
    Zone).b2 ≤ (⟨0, 0, 8, 8, 8, 8, 8, 8, 33, 0⟩ : Zone).budget ∧ (⟨0, 0, 8, 8, 8, 8, 8, 8, 33, 0⟩ : Zone).b3 ≤ (⟨0, 0,
    8, 8, 8, 8, 8, 8, 33, 0⟩ : Zone).budget ∧ (⟨0, 0, 8, 8, 8, 8, 8, 8, 33, 0⟩ : Zone).b4 ≤ (⟨0, 0, 8, 8, 8, 8, 8, 8,
    33, 0⟩ : Zone).budget) ∧
    -- debit_keeps
    ((⟨0, 0, 8, 8, 8, 8, 8, 8, 33, 0⟩ : Zone).b0 ≤ (⟨0, 0, 8, 8, 8, 8, 8, 8, 33, 0⟩ : Zone).budget ∧ (⟨0, 0, 8, 8, 8,
    8, 8, 8, 33, 0⟩ : Zone).b1 ≤ (⟨0, 0, 8, 8, 8, 8, 8, 8, 33, 0⟩ : Zone).budget ∧ (⟨0, 0, 8, 8, 8, 8, 8, 8, 33, 0⟩ :
    Zone).b2 ≤ (⟨0, 0, 8, 8, 8, 8, 8, 8, 33, 0⟩ : Zone).budget ∧ (⟨0, 0, 8, 8, 8, 8, 8, 8, 33, 0⟩ : Zone).b3 ≤ (⟨0, 0,
    8, 8, 8, 8, 8, 8, 33, 0⟩ : Zone).budget ∧ (⟨0, 0, 8, 8, 8, 8, 8, 8, 33, 0⟩ : Zone).b4 ≤ (⟨0, 0, 8, 8, 8, 8, 8, 8,
    33, 0⟩ : Zone).budget) ∧
    -- advance_keeps
    ((lit.zone (3 : Nat)).b0 ≤ (lit.zone (3 : Nat)).budget ∧ (lit.zone (3 : Nat)).b1 ≤ (lit.zone (3 : Nat)).budget ∧
    (lit.zone (3 : Nat)).b2 ≤ (lit.zone (3 : Nat)).budget ∧ (lit.zone (3 : Nat)).b3 ≤ (lit.zone (3 : Nat)).budget ∧
    (lit.zone (3 : Nat)).b4 ≤ (lit.zone (3 : Nat)).budget) := by
  refine ⟨?_, ?_, ?_, ?_⟩ <;> decide +kernel

theorem test_clockCommands :
    -- clause 0
    (let s : State := lit; let ini : Initiator := .sv;
     (s.Takes ini Reg.CLK_CORESEL)) ∧
    -- clause 1
    (let s : State := lit.setFld F.CLK_CORESEL_BUSY 1;
     (s.fld F.CLK_CORESEL_BUSY = 1) ∧ (s.fld F.CLK_CORESEL_SRC = 0 ∨ s.fld F.CLK_PLLA_LOCK = 1)) ∧
    -- clause 2
    (let s : State := lit.setFld F.CLK_CORESEL_SRC 1;
     (s.fld F.CLK_CORESEL_SRC = 1) ∧ (s.fld F.CLK_PLLA_LOCK = 0)) ∧
    -- clause 3
    (let s : State := lit;
     (s.fld F.CLK_CORESEL_BUSY = 0)) ∧
    -- clause 4
    (let s : State := lit; let ini : Initiator := .sv; let v : Word := 125 + 5 * 256 + 4096; let fb : Nat := 125;
     let pd : Nat := 5;
     (s.Takes ini Reg.CLK_PLLA) ∧ (s.fld F.CLK_CORESEL_SRC = 0) ∧ (s.fld F.CLK_PLLA_LOCK = 0) ∧ (bitsOf v.toNat 0 8 =
       fb) ∧ (bitsOf v.toNat 8 4 = pd) ∧ (100 ≤ fb) ∧ (fb ≤ 250) ∧ (2 ≤ pd) ∧ (8 * fb ≤ 500 * pd) ∧ (fb ≠ s.fld
       F.CLK_PLLA_FBDIV ∨ pd ≠ s.fld F.CLK_PLLA_POSTDIV)) ∧
    -- clause 5
    (let s : State := lit; let ini : Initiator := .sv; let v : Word := 125 + 1 * 256 + 4096; let fb : Nat := 125;
     let pd : Nat := 1;
     (s.Takes ini Reg.CLK_PLLA) ∧ (bitsOf v.toNat 12 1 = 1) ∧ (bitsOf v.toNat 0 8 = fb) ∧ (bitsOf v.toNat 8 4 = pd) ∧
       (s.fld F.CLK_CORESEL_SRC = 1 ∨ fb < 100 ∨ 250 < fb ∨ 500 * pd < 8 * fb)) ∧
    -- clause 6
    (let s : State := lit.setFld F.CLK_PLLA_EN 1;
     (s.fld F.CLK_PLLA_EN = 1)) ∧
    -- clause 7
    (let s : State := lit; let q : Fin 8 := 3;
     (s.dom (17 + q) = 2)) ∧
    -- clause 8
    (let s : State := State.reset.setFld (F.PWR_DOM_BUSY 4) 1;
     (s.fld (F.PWR_DOM_BUSY 4) = 1)) ∧
    -- clause 9
    (let s : State := (lit.setFld F.CLK_PLLA_LOCK 1).setFld F.CLK_CORESEL_SRC 1;
     (s.fld F.CLK_PLLA_LOCK = 1) ∧ (s.coreOnPll = true)) := by
  refine ⟨?_, ?_, ?_, ?_, ?_, ?_, ?_, ?_, ?_, ?_⟩ <;> decide +kernel

theorem test_domainRequests :
    -- clause 0
    (let s : State := State.reset; let ini : Initiator := .boot; let d : Fin 26 := 17; let v : Word := 2;
     (s.Takes ini (Reg.PWR_DOM d)) ∧ (d ≠ 0) ∧ (v.toNat % 4 = 2) ∧ (s.fld F.PWR_CTRL_MODE = 1 ∨ (ini = .boot ∧ s.fld
       F.BOOT_STATUS_DONE = 0) ∨ outsideBreeze (fun e => s.lit e || (e != 0 && decide (e < 26) && (withNeeds
       d).contains e)) = false)) ∧
    -- clause 0
    (let s : State := State.reset; let ini : Initiator := .sv; let d : Fin 26 := 9; let v : Word := 2;
     (s.Takes ini (Reg.PWR_DOM d)) ∧ (d ≠ 0) ∧ (v.toNat % 4 = 2) ∧ (s.fld F.PWR_CTRL_MODE = 1 ∨ (ini = .boot ∧ s.fld
       F.BOOT_STATUS_DONE = 0) ∨ outsideBreeze (fun e => s.lit e || (e != 0 && decide (e < 26) && (withNeeds
       d).contains e)) = false)) ∧
    -- clause 1
    (let s : State := State.reset; let ini : Initiator := .sv; let d : Fin 26 := 8; let v : Word := 2;
     (s.Takes ini (Reg.PWR_DOM d)) ∧ (d ≠ 0) ∧ (v.toNat % 4 = 2) ∧ (s.fld F.PWR_CTRL_MODE = 0) ∧ (ini = .boot → s.fld
       F.BOOT_STATUS_DONE = 1) ∧ (outsideBreeze (fun e => s.lit e || (e != 0 && decide (e < 26) && (withNeeds
       d).contains e)) = true)) ∧
    -- clause 2
    (let s : State := lit; let ini : Initiator := .sv; let d : Fin 26 := 7; let v : Word := 1; let r : Nat := 1;
     (s.Takes ini (Reg.PWR_DOM d)) ∧ (d ≠ 0) ∧ (v.toNat % 4 = r) ∧ (r = 0 ∧ d ≠ 1 ∨ r = 1 ∧ domTakesRet d = true) ∧ (∀
       e ∈ dependents d, s.dom e = 0 ∧ s.domBusy e = false)) ∧
    -- clause 2
    (let s : State := lit; let ini : Initiator := .sv; let d : Fin 26 := 8; let v : Word := 0; let r : Nat := 0;
     (s.Takes ini (Reg.PWR_DOM d)) ∧ (d ≠ 0) ∧ (v.toNat % 4 = r) ∧ (r = 0 ∧ d ≠ 1 ∨ r = 1 ∧ domTakesRet d = true) ∧ (∀
       e ∈ dependents d, s.dom e = 0 ∧ s.domBusy e = false)) ∧
    -- clause 3
    (let s : State := lit; let ini : Initiator := .sv; let d : Fin 26 := 3; let v : Word := 0; let e : Nat := 2;
     (s.Takes ini (Reg.PWR_DOM d)) ∧ (d ≠ 0) ∧ (v.toNat % 4 = 0 ∧ d ≠ 1 ∨ v.toNat % 4 = 1 ∧ domTakesRet d = true) ∧ (e
       ∈ dependents d) ∧ (s.dom e ≠ 0 ∨ s.domBusy e = true)) ∧
    -- clause 4
    (let s : State := lit; let ini : Initiator := .sv; let d : Fin 26 := 8; let v : Word := 1;
     (s.Takes ini (Reg.PWR_DOM d)) ∧ (d ≠ 0) ∧ (v.toNat % 4 = 3 ∨ v.toNat % 4 = 0 ∧ d = 1 ∨ v.toNat % 4 = 1 ∧
       domTakesRet d = false)) ∧
    -- clause 4
    (let s : State := lit; let ini : Initiator := .sv; let d : Fin 26 := 1; let v : Word := 0;
     (s.Takes ini (Reg.PWR_DOM d)) ∧ (d ≠ 0) ∧ (v.toNat % 4 = 3 ∨ v.toNat % 4 = 0 ∧ d = 1 ∨ v.toNat % 4 = 1 ∧
       domTakesRet d = false)) ∧
    -- clause 4
    (let s : State := lit; let ini : Initiator := .sv; let d : Fin 26 := 9; let v : Word := 3;
     (s.Takes ini (Reg.PWR_DOM d)) ∧ (d ≠ 0) ∧ (v.toNat % 4 = 3 ∨ v.toNat % 4 = 0 ∧ d = 1 ∨ v.toNat % 4 = 1 ∧
       domTakesRet d = false)) ∧
    -- clause 5
    (let s : State := lit; let d : Nat := 8; let v : Nat := 1;
     (s.domBusy d = false) ∧ (d < 26) ∧ (v < 4)) ∧
    -- clause 6
    (let s : State := lit; let ini : Initiator := .cc 2; let d : Fin 26 := 9;
     (s.stopped = false) ∧ (s.sealedIni ini = false) ∧ (ini ≠ .sv) ∧ (ini ≠ .boot) ∧ (s.gate ini (Reg.PWR_DOM d) true
       ≠ .dropped)) := by
  refine ⟨?_, ?_, ?_, ?_, ?_, ?_, ?_, ?_, ?_, ?_, ?_⟩ <;> decide +kernel

theorem test_domainTransitions :
    -- clause 0
    (let s : State := State.reset.setReq 8 2; let d : Fin 26 := 8;
     (s.waiting.contains d.val = true) ∧ (s.domBusy d = false) ∧ (s.weather = .run) ∧ (s.domReq d = 2) ∧ (∀ e ∈ needs
       d, s.domOn e = true) ∧ (s.railFree d = true) ∧ (s.inTurn d = true)) ∧
    -- clause 1
    (let s : State := lit.setReq 8 0; let d : Fin 26 := 8;
     (s.waiting.contains d.val = true) ∧ (s.domBusy d = false) ∧ (s.weather = .run) ∧ (s.domReq d ≠ 2) ∧ (∀ e ∈
       dependents d, s.dom e = 0 ∧ s.domBusy e = false) ∧ (s.domIdle d = true)) ∧
    -- clause 2
    (let d : Nat := 8;
     (d < 26)) ∧
    -- clause 3
    (let s : State := { (State.reset.setReq 17 2).beginMove 17 with pending := [] }; let d : Fin 26 := 17;
     (s.domBusy d = true) ∧ (s.domTarget d = 2) ∧ (s.pllReady d = false)) ∧
    -- clause 4
    (let s : State := State.reset.setFld (F.PWR_DOM_BUSY 8) 1; let d : Fin 26 := 8;
     (s.domBusy d = true) ∧ (s.domTarget d = 2 → s.pllReady d = true)) ∧
    -- clause 4
    (let s : State := (lit.setReq 8 0).beginMove 8; let d : Fin 26 := 8;
     (s.domBusy d = true) ∧ (s.domTarget d = 2 → s.pllReady d = true)) := by
  refine ⟨?_, ?_, ?_, ?_, ?_, ?_⟩ <;> decide +kernel

theorem test_weatherCommands :
    -- clause 0
    (let s : State := lit; let ini : Initiator := .sv; let v : Word := 1;
     (s.Takes ini Reg.PWR_CTRL) ∧ (v.toNat % 2 = 1 ∨ outsideBreeze s.lit = false)) ∧
    -- clause 1
    (let s : State := lit; let ini : Initiator := .sv; let v : Word := 0;
     (s.Takes ini Reg.PWR_CTRL) ∧ (v.toNat % 2 = 0) ∧ (outsideBreeze s.lit = true)) ∧
    -- clause 2
    (let s : State := lit; let ini : Initiator := .sv;
     (s.Takes ini Reg.PWR_CMD)) ∧
    -- clause 3
    (let s : State := (State.reset.setFld F.PWR_STATE_CALMPEND 1).setCore 4 { run := .wait };
     (s.fld F.PWR_STATE_CALMPEND = 1) ∧ (s.weather = .run) ∧ (s.calmReady = true) ∧ ((s.core 4).run = .wait) ∧
       ((s.core 4).sealedSt = false) ∧ (s.domBusy 1 = false)) ∧
    -- clause 4
    (let s : State := { State.reset with weather := .calm }; let src : WakeSource := .pin;
     (s.weather = .calm) ∧ (s.wakeEnabled src = true)) ∧
    -- clause 5
    (let s : State := { State.reset with weather := .calm }; let src : WakeSource := .pin;
     (s.weather = .calm) ∧ (s.wakeEnabled src = true)) ∧
    -- clause 6
    (let s : State := { State.reset with weather := .calm }; let src : WakeSource := .rtc;
     (s.weather = .calm) ∧ (s.wakeEnabled src = false)) ∧
    -- clause 7
    (let s : State := lit;
     (s.wakeEnabled .pin = true ∧ s.stopped = false) ∧ (s.weather = .run) ∧ (s.fld F.PWR_STATE_CALMPEND = 0)) ∧
    -- clause 8
    (let s : State := lit.setFld F.PWR_STATE_CALMPEND 1; let src : WakeSource := .pin;
     (s.stopped = false) ∧ (s.weather = .run) ∧ (s.fld F.PWR_STATE_CALMPEND = 1) ∧ (s.wakeEnabled src = true)) ∧
    -- clause 9
    (let s : State := lit; let ini : Initiator := .sv;
     (s.Takes ini Reg.PWR_FROSTARM)) ∧
    -- clause 11
    (let s : State := lit.setFld F.PWR_FROSTARM_ARM 1; let ini : Initiator := .sv;
     (s.Takes ini Reg.PWR_CMD) ∧ (s.fld F.PWR_FROSTARM_ARM = 1)) ∧
    -- clause 12
    (let s : State := lit; let ini : Initiator := .sv;
     (s.Takes ini Reg.PWR_CMD) ∧ (s.fld F.PWR_FROSTARM_ARM = 0)) := by
  refine ⟨?_, ?_, ?_, ?_, ?_, ?_, ?_, ?_, ?_, ?_, ?_, ?_⟩ <;> decide +kernel

theorem test_weatherCommands_2 :
    -- clause 13
    (let s : State := { State.reset with weather := .frost };
     (s.weather = .frost)) := by
  decide +kernel

theorem test_resetCommands :
    -- clause 1
    (let s : State := lit;
     (s.held.por = false) ∧ (s.weather ≠ .frost)) ∧
    -- clause 4
    (let s : State := { lit with held := { por := true } };
     (s.held.por = true ∨ s.held.pin = true ∨ s.held.wdog = true)) ∧
    -- clause 5
    (let s : State := lit; let ini : Initiator := .sv; let c : Fin 4 := 2; let req : Fin 16 := 4;
     (s.Takes ini Reg.CLK_CLRST) ∧ (req.val = 2 ^ c.val) ∧ (s.inClReset c = false) ∧ (s.dom (domCL c) = 2)) ∧
    -- clause 6
    (let s : State := State.reset; let ini : Initiator := .sv; let c : Fin 4 := 2; let req : Fin 16 := 4;
     (s.Takes ini Reg.CLK_CLRST) ∧ (req.val = 2 ^ c.val) ∧ (s.inClReset c = false) ∧ (s.dom (domCL c) = 0)) ∧
    -- clause 7
    (let c : Fin 4 := 1; let a : Nat := 0x200000;
     (c.val * 0x200000 ≤ a ∧ a < (c.val + 1) * 0x200000)) ∧
    -- clause 8
    (let s : State := (lit.setFld F.HST_LINK_UP 1).setFld (F.CLU_OWNER_CTX 2) 3;
     (s.stopped = false) ∧ (s.domOn 5 = true) ∧ (s.fld F.HST_LINK_UP = 1) ∧ (s.fld F.BOOT_STATUS_STAGE < 3 ∨ 5 < s.fld
       F.BOOT_STATUS_STAGE)) ∧
    -- clause 9
    (let s : State := (lit.setFld F.HST_LINK_UP 1).setFld F.BOOT_STATUS_STAGE 4;
     (s.stopped = false) ∧ (s.domOn 5 = true) ∧ (s.fld F.HST_LINK_UP = 1) ∧ (3 ≤ s.fld F.BOOT_STATUS_STAGE) ∧ (s.fld
       F.BOOT_STATUS_STAGE ≤ 5)) := by
  refine ⟨?_, ?_, ?_, ?_, ?_, ?_, ?_⟩ <;> decide +kernel

theorem test_bootStages :
    -- clause 0
    (let s : State := bootAt 0; let n : Nat := 0;
     (s.stopped = false) ∧ (s.fld F.BOOT_STATUS_STAGE = 0) ∧ (s.fld F.BOOT_STRAP_EFFSRC ≠ 3) ∧ (s.flag
       F.BOOT_FUSE_SHADOWOK = false) ∧ (s.fuses.crcOk = true) ∧ (s.fuses.lifecycle ≠ 3) ∧ (s.fld F.BOOT_STRAP_BOOTSEL
       = n) ∧ (n < 2 ∨ n = 2 ∧ s.fuses.hostbootdis = false)) ∧
    -- clause 1
    (let s : State := (bootAt 0).setFld F.BOOT_FUSE_SHADOWOK 1; let n : Nat := 0;
     (s.stopped = false) ∧ (s.fld F.BOOT_STATUS_STAGE = 0) ∧ (s.fld F.BOOT_STRAP_EFFSRC ≠ 3) ∧ (s.flag
       F.BOOT_FUSE_SHADOWOK = true) ∧ (s.fld F.BOOT_FUSE_LIFECYCLE < 3) ∧ (s.fld F.BOOT_STRAP_BOOTSEL = n) ∧ (n < 2 ∨
       n = 2 ∧ s.flag F.BOOT_FUSE_HOSTBOOTDIS = false)) ∧
    -- clause 2
    (let s : State := { bootAt 0 with fuses := { crc := 1 } };
     (s.stopped = false) ∧ (s.fld F.BOOT_STATUS_STAGE = 0) ∧ (s.fld F.BOOT_STRAP_EFFSRC ≠ 3) ∧ (s.flag
       F.BOOT_FUSE_SHADOWOK = false) ∧ (s.fld F.BOOT_STRAP_BOOTSEL ≠ 3) ∧ (s.fuses.crcOk = false ∨ s.fuses.lifecycle =
       3) ∧ (s.flrWaits = false)) ∧
    -- clause 3
    (let s : State := ((bootAt 0).setFld F.BOOT_FUSE_SHADOWOK 1).setFld F.BOOT_STRAP_BOOTSEL 3;
     (s.stopped = false) ∧ (s.fld F.BOOT_STATUS_STAGE = 0) ∧ (s.flag F.BOOT_FUSE_SHADOWOK = true) ∧ (s.fld
       F.BOOT_STRAP_EFFSRC ≠ 3) ∧ (s.fld F.BOOT_STRAP_BOOTSEL = 3) ∧ (s.fld F.BOOT_FUSE_LIFECYCLE < 2)) ∧
    -- clause 4
    (let s : State := bootAt 3;
     (s.stopped = true ∨ s.fld F.BOOT_STATUS_STAGE ≠ 0)) ∧
    -- clause 5
    (let s : State := bootAt 1; let sfdp : Sfdp := { sfdpQuad with head := [] };
     (s.stopped = false) ∧ (s.fld F.BOOT_STATUS_STAGE = 1) ∧ (sfdpSigned sfdp = false)) ∧
    -- clause 6
    (let s : State := bootAt 1; let sfdp : Sfdp := sfdpTiny;
     (s.stopped = false) ∧ (s.fld F.BOOT_STATUS_STAGE = 1) ∧ (sfdpSigned sfdp = true) ∧ (flashDensity sfdp < 20 ∨
       flashOnly4 sfdp = true)) ∧
    -- clause 7
    (let s : State := bootAt 1; let sfdp : Sfdp := sfdpQuad; let ops : List FlashOp := [.setQuad 2 1];
     (s.stopped = false) ∧ (s.fld F.BOOT_STATUS_STAGE = 1) ∧ (sfdpSigned sfdp = true) ∧ (20 ≤ flashDensity sfdp) ∧
       (flashOnly4 sfdp = false) ∧ (s.fld F.BOOT_STRAP_EFFSRC = 0) ∧ (flashFast114 sfdp = true) ∧ (flashQuadEnable
       sfdp = some ops)) ∧
    -- clause 8
    (let s : State := (bootAt 1).setFld F.BOOT_STRAP_EFFSRC 1; let sfdp : Sfdp := sfdpQuad;
     (s.stopped = false) ∧ (s.fld F.BOOT_STATUS_STAGE = 1) ∧ (sfdpSigned sfdp = true) ∧ (20 ≤ flashDensity sfdp) ∧
       (flashOnly4 sfdp = false) ∧ (s.fld F.BOOT_STRAP_EFFSRC ≠ 0 ∨ flashFast114 sfdp = false ∨ flashQuadEnable sfdp =
       none)) ∧
    -- clause 9
    (let s : State := bootAt 2;
     (s.stopped = true ∨ s.fld F.BOOT_STATUS_STAGE ≠ 1)) ∧
    -- clause 10
    (let s : State := bootAt 2; let data : List Byte := [0x48, 0x50, 0x43, 0x4C, 1, 32, 2, 0, 0x50, 0, 0, 0];
     let h : List Byte := (data ++ List.replicate 64 0xFF).take 64; let n : Nat := 80;
     (s.stopped = false) ∧ (s.fld F.BOOT_STATUS_STAGE = 2) ∧ (s.domOn 13 = true) ∧ (h = (data ++ List.replicate 64
       0xFF).take 64) ∧ (n = (if headCode h (s.flag F.BOOT_FUSE_FMT1DIS) = 0 then totLen h else if fmtOf h = 2 then 64
       else 32))) ∧
    -- clause 11
    (let s : State := bootAt 1;
     (s.stopped = true ∨ s.fld F.BOOT_STATUS_STAGE ≠ 2 ∨ s.domOn 13 = false)) := by
  refine ⟨?_, ?_, ?_, ?_, ?_, ?_, ?_, ?_, ?_, ?_, ?_, ?_⟩ <;> decide +kernel

theorem test_bootStages_2 :
    -- clause 12
    (let s : State := bootAt 3;
     (s.stopped = false) ∧ (s.fld F.BOOT_STATUS_STAGE = 3) ∧ (s.domOn 7 = true) ∧ (s.domOn 13 = true) ∧ (s.headerCode
       ≠ 0)) ∧
    -- clause 13
    (let s : State := parcelBad; let key : List Byte := parcelKey s.devkey s.parcel;
     (s.stopped = false) ∧ (s.fld F.BOOT_STATUS_STAGE = 3) ∧ (s.domOn 7 = true) ∧ (s.domOn 13 = true) ∧ (s.headerCode
       = 0) ∧ (key = parcelKey s.devkey s.parcel) ∧ (s.bodyCode key s.parcel ≠ 0)) ∧
    -- clause 15
    (let s : State := bootAt 1;
     (s.stopped = true ∨ s.fld F.BOOT_STATUS_STAGE ≠ 3 ∨ s.domOn 7 = false ∨ s.domOn 13 = false)) ∧
    -- clause 16
    (let s : State := bootAt 3;
     (numAt (s.staged 64) 0 4 ≠ 0x4C435048)) ∧
    -- clause 17
    (let key : List Byte := List.replicate 32 0; let p : List Byte := [];
     (tagOk key p = false)) ∧
    -- clause 18
    (let key : List Byte := []; let p : List Byte := smallParcel [] 0 0x22;
     (tagOk key p = true) ∧ (0x21 < numAt p 15 1)) ∧
    -- clause 19
    (let s : State := { bootAt 3 with shadow := { rollback := 5 } }; let key : List Byte := [];
     let p : List Byte := smallParcel [] 0 0;
     (tagOk key p = true) ∧ (numAt p 15 1 ≤ 0x21) ∧ (numAt p 12 1 < s.shadow.rollback)) ∧
    -- clause 20
    (let s : State := bootAt 3;
     (s.fld F.BOOT_STRAP_EFFSRC ≠ 2) ∧ (s.fld F.BOOT_STATUS_COPY = 0)) ∧
    -- clause 21
    (let s : State := (bootAt 3).setFld F.BOOT_STATUS_COPY 1;
     (s.fld F.BOOT_STRAP_EFFSRC = 2 ∨ s.fld F.BOOT_STATUS_COPY = 1)) ∧
    -- clause 22
    (let s : State := bootAt 3; let c : Nat := 7;
     (c < 256) ∧ (s.flrWaits = false)) ∧
    -- clause 23
    (let s : State := applyAt 0; let x : Sect := ⟨2, 0, 156, 4, 0⟩; let l : List Sect := [];
     (s.stopped = false) ∧ (s.fld F.BOOT_STATUS_STAGE = 4) ∧ (s.boot.apply = 0) ∧ (sectsOfType s.parcel 2 = x :: l)) ∧
    -- clause 24
    (let s : State := applySmall 0;
     (s.stopped = false) ∧ (s.fld F.BOOT_STATUS_STAGE = 4) ∧ (s.boot.apply = 0) ∧ (sectsOfType s.parcel 2 = [])) := by
  refine ⟨?_, ?_, ?_, ?_, ?_, ?_, ?_, ?_, ?_, ?_, ?_, ?_⟩ <;> decide +kernel

theorem test_bootStages_3 :
    -- clause 14
    (let s : State := parcelGood; let key : List Byte := parcelKey s.devkey s.parcel; let p : List Byte := s.parcel;
     (s.stopped = false) ∧ (s.fld F.BOOT_STATUS_STAGE = 3) ∧ (s.domOn 7 = true) ∧ (s.domOn 13 = true) ∧ (s.headerCode
       = 0) ∧ (p = s.parcel) ∧ (key = parcelKey s.devkey p) ∧ (s.bodyCode key p = 0)) := by
  decide +kernel

theorem test_bootStages_4 :
    -- clause 25
    (let s : State := applyAt 1; let x : Sect := ⟨2, 0, 156, 4, 0⟩; let l : List Sect := [];
     let b : List Byte := x.payload s.parcel;
     (s.stopped = false) ∧ (s.fld F.BOOT_STATUS_STAGE = 4) ∧ (s.boot.apply = 1) ∧ (sectsOfType s.parcel 2 = x :: l) ∧
       (b = x.payload s.parcel) ∧ (s.fld F.CLK_CORESEL_BUSY = 0)) ∧
    -- clause 26
    (let s : State := (applyAt 2).setFld F.CLK_PLLA_LOCK 1; let x : Sect := ⟨2, 0, 156, 4, 0⟩;
     let l : List Sect := []; let b : List Byte := x.payload s.parcel;
     (s.stopped = false) ∧ (s.fld F.BOOT_STATUS_STAGE = 4) ∧ (s.boot.apply = 2) ∧ (sectsOfType s.parcel 2 = x :: l) ∧
       (b = x.payload s.parcel) ∧ (s.fld F.CLK_PLLA_LOCK = 1)) ∧
    -- clause 27
    (let s : State := (applyAt 1).setFld F.CLK_CORESEL_BUSY 1; let x : Sect := ⟨2, 0, 156, 4, 0⟩;
     let l : List Sect := [];
     (s.stopped = false) ∧ (s.fld F.BOOT_STATUS_STAGE = 4) ∧ (sectsOfType s.parcel 2 = x :: l) ∧ (s.boot.apply = 1 ∧
       s.fld F.CLK_CORESEL_BUSY = 1 ∨ s.boot.apply = 2 ∧ s.fld F.CLK_PLLA_LOCK = 0)) ∧
    -- clause 27
    (let s : State := applyAt 2; let x : Sect := ⟨2, 0, 156, 4, 0⟩; let l : List Sect := [];
     (s.stopped = false) ∧ (s.fld F.BOOT_STATUS_STAGE = 4) ∧ (sectsOfType s.parcel 2 = x :: l) ∧ (s.boot.apply = 1 ∧
       s.fld F.CLK_CORESEL_BUSY = 1 ∨ s.boot.apply = 2 ∧ s.fld F.CLK_PLLA_LOCK = 0)) ∧
    -- clause 28
    (let s : State := (applyAt 3).setFld F.CLK_CORESEL_BUSY 1;
     (s.stopped = false) ∧ (s.fld F.BOOT_STATUS_STAGE = 4) ∧ (s.boot.apply = 3) ∧ (s.fld F.CLK_CORESEL_BUSY = 1 ∨
       s.domOn 7 = false)) ∧
    -- clause 29
    (let s : State := applyAt 3; let x : Sect := ⟨1, 0, 144, 11, 0⟩; let l : List Sect := [];
     let b : List Byte := x.payload s.parcel;
     (s.stopped = false) ∧ (s.fld F.BOOT_STATUS_STAGE = 4) ∧ (s.boot.apply = 3) ∧ (s.fld F.CLK_CORESEL_BUSY = 0) ∧
       (s.domOn 7 = true) ∧ (sectsOfType s.parcel 4 = []) ∧ (sectsOfType s.parcel 1 = x :: l) ∧ (b = x.payload
       s.parcel) ∧ (s.fld F.SEAL_CTRL_LOCK = 0)) ∧
    -- clause 30
    (let s : State := applyAt 3; let y : Sect := ⟨8, 0, 160, 28, 0⟩; let k : List Byte := List.replicate 16 5;
     (s.stopped = false) ∧ (s.fld F.BOOT_STATUS_STAGE = 4) ∧ (s.boot.apply = 3) ∧ (s.fld F.CLK_CORESEL_BUSY = 0) ∧
       (s.domOn 7 = true) ∧ (sectsOfType s.parcel 4 = []) ∧ (y ∈ sectsOfType s.parcel 8) ∧ (0 ∉ keySlots s.parcel) ∧
       ((keySlots s.parcel).Nodup) ∧ (keyUnwrap (wrapKey s.devkey) ((y.payload s.parcel).drop 4) = some k)) ∧
    -- clause 31
    (let s : State := ((((List.range 64).foldl (fun s z => s.setZone z { budget := 64, miniv := 1638 }) lit).setFld
       F.SEAL_VLIMIT_LIMIT 5).setFld F.SEAL_CTRL_LOCK 1);
     let p : List Byte := smallParcel [] 0 0; let x : Sect := ⟨1, 0, 64, 11, 0⟩; let l : List Sect := [];
     (s.flag F.SEAL_CTRL_LOCK = true) ∧ (sectsOfType p 1 = x :: l) ∧ (s.meterSame (x.payload p) = true)) ∧
    -- clause 32
    (let s : State := lit.setFld F.SEAL_CTRL_LOCK 1; let p : List Byte := smallParcel [] 0 0;
     let x : Sect := ⟨1, 0, 64, 11, 0⟩; let l : List Sect := [];
     (s.flag F.SEAL_CTRL_LOCK = true) ∧ (sectsOfType p 1 = x :: l) ∧ (s.meterSame (x.payload p) = false)) ∧
    -- clause 33
    (let s : State := (applyAt 4).setFld (F.PWR_DOM_ACT (domCL 1)) 0;
     (s.stopped = false) ∧ (s.fld F.BOOT_STATUS_STAGE = 4) ∧ (s.boot.apply = 4) ∧ ((namedDoms s.parcel).all s.domOn =
       false)) ∧
    -- clause 34
    (let s : State := applyAt 4; let x : Sect := ⟨7, 0, 192, 15, 0x12⟩;
     (s.stopped = false) ∧ (s.fld F.BOOT_STATUS_STAGE = 4) ∧ (s.boot.apply = 4) ∧ ((namedDoms s.parcel).all s.domOn =
       true) ∧ (sectsOfType s.parcel 7 = [x])) ∧
    -- clause 35
    (let s : State := applyAt 4; let x : Sect := ⟨5, 0, 188, 3, 1⟩;
     (s.stopped = false) ∧ (s.fld F.BOOT_STATUS_STAGE = 4) ∧ (s.boot.apply = 4) ∧ ((namedDoms s.parcel).all s.domOn =
       true) ∧ (sectsOfType s.parcel 5 ++ sectsOfType s.parcel 6 = [x]) ∧ (x.tooLong = false) ∧ (x.arg % 8 < 5) ∧
       (x.off + x.len ≤ s.parcel.length)) := by
  refine ⟨?_, ?_, ?_, ?_, ?_, ?_, ?_, ?_, ?_, ?_, ?_, ?_⟩ <;> decide +kernel

theorem test_bootStages_5 :
    -- clause 36
    (let s : State := bootAt 3;
     (s.stopped = true ∨ s.fld F.BOOT_STATUS_STAGE ≠ 4)) ∧
    -- clause 37
    (let s : State := bootAt 5;
     (s.stopped = false) ∧ (s.fld F.BOOT_STATUS_STAGE = 5) ∧ (s.boot.apply = 0)) ∧
    -- clause 38
    (let s : State := { bootAt 5 with boot := { apply := 1, advroll := true, level := 2 } };
     (s.stopped = false) ∧ (s.fld F.BOOT_STATUS_STAGE = 5) ∧ (s.boot.apply = 1) ∧ (s.boot.advroll = true) ∧
       (s.fuses.rollback < s.boot.level) ∧ (s.fuses.rollback < 32)) ∧
    -- clause 39
    (let s : State := { bootAt 5 with boot := { apply := 1 } };
     (s.stopped = false) ∧ (s.fld F.BOOT_STATUS_STAGE = 5) ∧ (s.boot.apply = 1) ∧ (s.boot.advroll = false ∨
       s.boot.level ≤ s.fuses.rollback) ∧ (s.boot.sp0 % 4 ≠ 3) ∧ (s.fld F.BOOT_STATUS_DONE = 0)) ∧
    -- clause 40
    (let s : State := bootAt 1;
     (s.stopped = true ∨ s.fld F.BOOT_STATUS_STAGE ≠ 5)) ∧
    -- clause 41
    (let s : State := { bootAt 5 with boot := { apply := 2 } };
     (s.stopped = false) ∧ (s.fld F.BOOT_STATUS_STAGE = 5) ∧ (s.boot.apply = 2) ∧ (s.flrWaits = false)) ∧
    -- clause 42
    (let s : State := bootAt 5;
     (s.stopped = false) ∧ (s.fld F.BOOT_STATUS_STAGE = 5) ∧ (s.boot.apply ≠ 2)) ∧
    -- clause 43
    (let s : State := (bootAt 7).setFld F.BOOT_STRAP_HOSTSEL 1; let spi : Bool := true;
     ((if spi then s.spiOpen else s.barOpen) = true) ∧ (s.fld F.BOOT_STATUS_STAGE = 7) ∧ (s.Takes (hostIni spi)
       Reg.BOOT_CMD)) ∧
    -- clause 44
    (let s : State := (bootAt 8).setFld F.BOOT_STRAP_HOSTSEL 1; let spi : Bool := true;
     ((if spi then s.spiOpen else s.barOpen) = true) ∧ (s.fld F.BOOT_STATUS_STAGE = 8) ∧ (s.recoveryAllowed = true) ∧
       (s.Takes (hostIni spi) Reg.BOOT_CMD)) ∧
    -- clause 45
    (let s : State := ((bootAt 8).setFld F.BOOT_STRAP_HOSTSEL 1).setFld F.BOOT_STATUS_CODE 1; let spi : Bool := true;
     ((if spi then s.spiOpen else s.barOpen) = true) ∧ (s.stopped = false) ∧ (s.fld F.BOOT_STATUS_STAGE = 8) ∧
       (s.recoveryAllowed = false) ∧ (s.boot.frozen = false)) ∧
    -- clause 46
    (let s : State := State.reset; let spi : Bool := false;
     ((if spi then s.spiOpen else s.barOpen) = false)) := by
  refine ⟨?_, ?_, ?_, ?_, ?_, ?_, ?_, ?_, ?_, ?_, ?_⟩ <;> decide +kernel

theorem test_registerWrites :
    -- clause 0
    (let s : State := lit; let ini : Initiator := .boot; let a : Nat := Reg.CLK_MEMPAGE;
     let r : RegRow := (regRow a).getD ⟨0, [], []⟩;
     (a ∈ [Reg.CLK_MEMPAGE, Reg.PST_PGSEL, Reg.LNK_NSEL, Reg.HST_IRQEN, Reg.HST_IRQSTAT, Reg.SEAL_STATUS,
       Reg.RTC_STATUS]) ∧ (regRow a = some r) ∧ (s.Takes ini a)) ∧
    -- clause 1
    (let s : State := lit; let ini : Initiator := .boot; let a : Nat := Reg.CLK_MEMPAGE; let n : Nat := 3;
     (a ∈ [Reg.CLK_MEMPAGE, Reg.PST_PGSEL, Reg.LNK_NSEL, Reg.HST_IRQEN, Reg.HST_IRQSTAT, Reg.SEAL_STATUS,
       Reg.RTC_STATUS]) ∧ (n < 4) ∧ (s.Takes ini a)) ∧
    -- clause 2
    (let s : State := sealedCore; let ini : Initiator := .cc 1; let a : Nat := Reg.CLK_MEMPAGE; let k : Nat := 1;
     (s.stopped = false) ∧ (s.sealedIni ini = true) ∧ (coreOf ini = some k) ∧ (scratchOf a = none) ∧ (sealedMay k a =
       false) ∧ (sealedEgress a = none)) ∧
    -- clause 3
    (let s : State := sealedCore; let ini : Initiator := .cc 1; let a : Nat := Reg.PST_CMD; let k : Nat := 1;
     let f : Fld := F.SEAL_EGRCNT2_PST;
     (s.stopped = false) ∧ (s.sealedIni ini = true) ∧ (coreOf ini = some k) ∧ (scratchOf a = none) ∧ (sealedMay k a =
       false) ∧ (a = Reg.PST_CMD ∧ f = F.SEAL_EGRCNT2_PST ∨ a ∈ [Reg.SNS_GPIOOE0, Reg.SNS_GPIOOUT0, Reg.SNS_GPIOSET,
       Reg.SNS_GPIOCLR] ∧ f = F.SEAL_EGRCNT2_GPIO)) ∧
    -- clause 3
    (let s : State := sealedCore; let ini : Initiator := .cc 1; let a : Nat := Reg.SNS_GPIOSET; let k : Nat := 1;
     let f : Fld := F.SEAL_EGRCNT2_GPIO;
     (s.stopped = false) ∧ (s.sealedIni ini = true) ∧ (coreOf ini = some k) ∧ (scratchOf a = none) ∧ (sealedMay k a =
       false) ∧ (a = Reg.PST_CMD ∧ f = F.SEAL_EGRCNT2_PST ∨ a ∈ [Reg.SNS_GPIOOE0, Reg.SNS_GPIOOUT0, Reg.SNS_GPIOSET,
       Reg.SNS_GPIOCLR] ∧ f = F.SEAL_EGRCNT2_GPIO)) ∧
    -- clause 4
    (let s : State := lit; let ini : Initiator := .pcie; let a : Nat := Reg.CLK_MEMPAGE;
     (s.stopped = false) ∧ (s.sealedIni ini = false) ∧ (s.verdict ini a true = .discarded)) ∧
    -- clause 5
    (let s : State := lit; let ini : Initiator := .cc 1; let a : Nat := Reg.CLK_PLLA;
     (s.stopped = false) ∧ (s.sealedIni ini = false) ∧ (scratchOf a = none) ∧ (s.verdict ini a true = .refused)) ∧
    -- clause 6
    (let s : State := State.reset; let ini : Initiator := .sv; let a : Nat := Reg.PST_PGSEL;
     (s.stopped = false) ∧ (s.sealedIni ini = false) ∧ (scratchOf a = none) ∧ (s.verdict ini a true = .dark)) ∧
    -- clause 7
    (let s : State := lit; let ini : Initiator := .cc 1; let a : Nat := 0x05FF0000; let n : Nat := 4;
     (s.stopped = false) ∧ (scratchOf a = none) ∧ (s.verdict ini a false = .refused) ∧ (n ≤ 4)) ∧
    -- clause 8
    (let s : State := lit; let ini : Initiator := .cc 1; let a : Nat := 0x05FF0000;
     let n : Nat := (initNum (.cc 1)).getD 0;
     (initNum ini = some n) ∧ (s.fld F.CLK_ADDRERR1_VALID = 0) ∧ (n < 16) ∧ (a < 2 ^ 32)) ∧
    -- clause 9
    (let s : State := lit.setFld F.CLK_ADDRERR1_VALID 1;
     (s.fld F.CLK_ADDRERR1_VALID = 1)) ∧
    -- clause 10
    (let w : Nat := 5; let lo : Nat := 3; let n : Nat := 2; let f : FldRow := ⟨3, 2, .rw, 0⟩;
     (f = ⟨lo, n, f.acc, f.rst⟩) ∧ (lo + n ≤ 24) ∧ (w < 2 ^ 24)) := by
  refine ⟨?_, ?_, ?_, ?_, ?_, ?_, ?_, ?_, ?_, ?_, ?_, ?_⟩ <;> decide +kernel

theorem test_registerWrites_2 :
    -- clause 11
    (let s : State := lit; let ini : Initiator := .sv; let a : Nat := Reg.SEAL_EGRCNT2;
     (a ∈ [Reg.SEAL_EGRCNT, Reg.SEAL_EGRCNT2, Reg.DFA_STALLCNT 0, Reg.DFA_SATCNT 1]) ∧ (s.stopped = false) ∧
       (s.portOpen ini = true) ∧ (s.verdict ini a false = .pass)) ∧
    -- clause 11
    (let s : State := lit; let ini : Initiator := .sv; let a : Nat := Reg.DFA_SATCNT 1;
     (a ∈ [Reg.SEAL_EGRCNT, Reg.SEAL_EGRCNT2, Reg.DFA_STALLCNT 0, Reg.DFA_SATCNT 1]) ∧ (s.stopped = false) ∧
       (s.portOpen ini = true) ∧ (s.verdict ini a false = .pass)) ∧
    -- clause 12
    (let s : State := lit; let ini : Initiator := .sv; let a : Nat := Reg.SEAL_EGRCNT; let lo : Nat := 1;
     let n : Nat := 2; let r : RegRow := (regRow a).getD ⟨0, [], []⟩;
     (regRow a = some r) ∧ (a % 4 = 0) ∧ (0 < n) ∧ (lo + n ≤ 4) ∧ (scratchOf (a + lo) = none) ∧ (scratchOf a = none) ∧
       (localOf a = none) ∧ (isRing a = false) ∧ (isSched a = false) ∧ (s.doorShut a = false) ∧ (a < 0x04000000 ∨
       0x04020000 ≤ a) ∧ (a ≠ Reg.DBG_CDATA) ∧ (s.stopped = false) ∧ (s.portOpen ini = true) ∧ (s.verdict ini (a + lo)
       false = .pass) ∧ (s.secretReg a = false) ∧ (s.openField a = none)) ∧
    -- clause 13
    (let s : State := lit; let ini : Initiator := .sv; let a : Nat := Reg.BOOT_CMD;
     let r : RegRow := (regRow a).getD ⟨0, [], []⟩;
     (regRow a = some r) ∧ (a < 0x05070000 ∨ 0x05080000 ≤ a) ∧ (s.shown ini a = []) ∧ (s.openField a = none)) ∧
    -- clause 15
    (let f : FldRow := ⟨8, 8, .rc, 0⟩; let w : Nat := 0xABCDEF; let _lo : Nat := 1;
     (w < 2 ^ 24) ∧ (f.lo + f.w ≤ 24)) ∧
    -- clause 16
    (let s : State := State.reset; let ini : Initiator := .pcie; let a : Nat := Reg.BOOT_STATUS;
     (s.stopped = false) ∧ (scratchOf a = none) ∧ (s.portOpen ini = false)) := by
  refine ⟨?_, ?_, ?_, ?_, ?_, ?_⟩ <;> decide +kernel

theorem test_scratchpadBytes :
    -- write
    ((([1, 2, 3] : List Byte) ≠ []) ∧ ((0x200405 : Nat) % 0x200 + ([1, 2, 3] : List Byte).length ≤ 384) ∧ ((0x200405 :
    Nat) < 0x800000)) ∧
    -- gap
    (384 ≤ (0x200580 : Nat) % 0x200) := by
  refine ⟨?_, ?_⟩ <;> decide +kernel

theorem test_hostPorts :
    -- clause 0
    (let s : State := hostUp; let off : BitVec 24 := 0x200406; let n : Fin 5 := 4;
     (s.barOpen = true) ∧ (s.fld F.BOOT_STATUS_STAGE = 6) ∧ (n ≠ 0) ∧ (off.toNat < 0x800000) ∧ (off.toNat % 0x200000 +
       n ≤ 0x200000) ∧ (s.spOn (off.toNat / 0x200000) = true) ∧ (s.clearing (off.toNat / 0x200000) = false) ∧
       (s.inClReset (off.toNat / 0x200000) = false)) ∧
    -- clause 1
    (let s : State := hostUp; let off : BitVec 24 := 0x200406; let n : Fin 5 := 4;
     (s.barOpen = true) ∧ (s.fld F.BOOT_STATUS_STAGE = 6) ∧ (n ≠ 0) ∧ (off.toNat < 0x800000) ∧ (off.toNat % 0x200000 +
       n ≤ 0x200000) ∧ (s.spOn (off.toNat / 0x200000) = true) ∧ (s.spSealed off.toNat n = false) ∧ (s.clearing
       (off.toNat / 0x200000) = false) ∧ (s.inClReset (off.toNat / 0x200000) = false)) ∧
    -- clause 2
    (let s : State := hostUp.setTag 1 2 true; let off : BitVec 24 := 0x200404; let n : Fin 5 := 4;
     (s.barOpen = true) ∧ (s.fld F.BOOT_STATUS_STAGE = 6) ∧ (n ≠ 0) ∧ (off.toNat % 4 + n ≤ 4) ∧ (off.toNat < 0x800000)
       ∧ (s.spOn (off.toNat / 0x200000) = true) ∧ (s.spSealed off.toNat n = true) ∧ (s.clearing (off.toNat / 0x200000)
       = false) ∧ (s.inClReset (off.toNat / 0x200000) = false)) ∧
    -- clause 3
    (let s : State := hostUp; let off : BitVec 24 := 0x450000; let a : Nat := 0x05050000;
     (s.barOpen = true) ∧ (s.fld F.BOOT_STATUS_STAGE = 6) ∧ (isMsix off.toNat = false) ∧ (bar0 off.toNat = some a)) ∧
    -- clause 4
    (let s : State := hostUp; let off : BitVec 24 := 0x450000; let a : Nat := 0x05050000;
     (s.barOpen = true) ∧ (s.fld F.BOOT_STATUS_STAGE = 6) ∧ (isMsix off.toNat = false) ∧ (bar0 off.toNat = some a)) ∧
    -- clause 6
    (let s : State := hostUp; let off : BitVec 24 := 0x340000;
     (s.barOpen = true) ∧ (isMsix off.toNat = false) ∧ (bar0 off.toNat = none)) ∧
    -- clause 7
    (let s : State := hostUp; let off : BitVec 24 := 0x340000;
     (s.barOpen = true) ∧ (isMsix off.toNat = false) ∧ (bar0 off.toNat = none)) ∧
    -- clause 8
    (let s : State := lit;
     (s.stopped = true ∨ s.domOn 5 = false ∨ s.fld F.CLK_STATUS_PCIEREF = 0 ∨ s.fld F.HST_LINK_UP = 0 ∨ s.fld
       F.HST_LINK_D3 = 1)) ∧
    -- clause 9
    (let s : State := hostUp;
     (s.barOpen = true) ∧ (s.fld F.BOOT_STATUS_STAGE = 6)) ∧
    -- clause 10
    (let s : State := hostUp;
     (s.domOn 5 = true) ∧ (s.fld F.CLK_STATUS_PCIEREF = 1)) ∧
    -- clause 11
    (let s : State := hostUp;
     (s.domOn 5 = true)) ∧
    -- clause 12
    (let s : State := hostUp; let ini : Initiator := .boot;
     (s.Takes ini (Reg.HST_LINKCFG))) := by
  refine ⟨?_, ?_, ?_, ?_, ?_, ?_, ?_, ?_, ?_, ?_, ?_, ?_⟩ <;> decide +kernel

theorem test_hostPorts_2 :
    -- clause 13
    (let s : State := lit;
     (s.domOn 5 = false ∨ s.fld F.CLK_STATUS_PCIEREF = 0)) ∧
    -- clause 14
    (let s : State := hostUp;
     (s.barOpen = true) ∧ (s.fld F.BOOT_STATUS_STAGE = 6)) ∧
    -- clause 15
    (let s : State := hostUp.setFld F.BOOT_STATUS_STAGE 7;
     (s.barOpen = true) ∧ (s.fld F.BOOT_STATUS_STAGE ≠ 6)) ∧
    -- clause 16
    (let s : State := hostVec; let v : Nat := 3;
     (tabGet (fun _ => false) s.msixPend v = true) ∧ (s.msixEnable = true) ∧ (s.msixMaskAll = false) ∧ ((s.msixOf
       v).masked = false) ∧ (s.fld F.HST_LINK_UP = 1)) ∧
    -- clause 17
    (let s : State := hostUp;
     (s.stopped = false) ∧ (s.fld F.HST_LINK_UP = 1)) ∧
    -- clause 18
    (let s : State := hostUp;
     (s.stopped = false) ∧ (s.fld F.HST_LINK_UP = 1)) ∧
    -- clause 19
    (let s : State := lit;
     (s.stopped = true ∨ s.fld F.HST_LINK_UP = 0)) ∧
    -- clause 20
    (let s : State := hostUp; let m : Bool := false; let len : Fin 64 := 0; let data : List Byte := [1, 2, 3, 4];
     (s.spiOpen = true) ∧ ((s.spiBegin m).spiV2 = false) ∧ (data.length = 4 * (len + 1))) ∧
    -- clause 21
    (let s : State := hostUp; let m : Bool := false; let len : Fin 64 := 0; let data : List Byte := [1, 2, 3];
     (s.spiOpen = true) ∧ ((s.spiBegin m).spiV2 = false) ∧ (data.length / 4 < (len : Nat) + 1) ∧ (data.length % 4 ≠
       0)) ∧
    -- clause 22
    (let s : State := spiUp; let m : Bool := false; let len : Fin 64 := 0; let addr : BitVec 32 := 0;
     let h : Byte := BitVec.ofNat 8 (crc8 (spiHeader 2 0 0)); let data : List Byte := [1, 2, 3, 4];
     let d : Byte := BitVec.ofNat 8 (crc8 [1, 2, 3, 4]);
     (s.spiOpen = true) ∧ ((s.spiBegin m).spiV2 = true) ∧ (crc8 (spiHeader 0x02 len addr) = h.toNat) ∧ (data.length =
       4 * (len + 1)) ∧ (crc8 data = d.toNat)) ∧
    -- clause 23
    (let s : State := spiUp; let m : Bool := false; let len : Fin 64 := 0; let addr : BitVec 32 := 0;
     let h : Byte := BitVec.ofNat 8 (crc8 (spiHeader 2 0 0)); let data : List Byte := [1, 2, 3, 4];
     let d : Byte := BitVec.ofNat 8 (crc8 [1, 2, 3, 4] + 1);
     (s.spiOpen = true) ∧ ((s.spiBegin m).spiV2 = true) ∧ (crc8 (spiHeader 0x02 len addr) = h.toNat) ∧ (data.length =
       4 * (len + 1)) ∧ (crc8 data ≠ d.toNat)) ∧
    -- clause 24
    (let s : State := spiUp; let m : Bool := false; let len : Fin 64 := 0; let addr : BitVec 32 := 0;
     let h : Byte := BitVec.ofNat 8 (crc8 (spiHeader 2 0 0) + 1);
     (s.spiOpen = true) ∧ ((s.spiBegin m).spiV2 = true) ∧ (crc8 (spiHeader 0x02 len addr) ≠ h.toNat)) := by
  refine ⟨?_, ?_, ?_, ?_, ?_, ?_, ?_, ?_, ?_, ?_, ?_, ?_⟩ <;> decide +kernel

theorem test_hostPorts_3 :
    -- clause 25
    (let s : State := spiUp; let m : Bool := false; let len : Fin 64 := 0; let addr : BitVec 32 := 0;
     let h : Byte := BitVec.ofNat 8 (crc8 (spiHeader 2 0 0));
     (s.spiOpen = true) ∧ ((s.spiBegin m).spiV2 = true) ∧ (crc8 (spiHeader 0x02 len addr) = h.toNat)) ∧
    -- clause 26
    (let s : State := hostUp; let m : Bool := false; let len : Fin 64 := 0; let addr : BitVec 32 := 0;
     let h : Byte := 0;
     (s.spiOpen = true) ∧ ((s.spiBegin m).spiV2 = false ∨ crc8 (spiHeader 0x0B len addr) = h.toNat)) ∧
    -- clause 27
    (let s : State := spiUp; let m : Bool := false; let len : Fin 64 := 0; let addr : BitVec 32 := 0;
     let h : Byte := BitVec.ofNat 8 (crc8 (spiHeader 0x0B 0 0) + 1);
     (s.spiOpen = true) ∧ ((s.spiBegin m).spiV2 = true) ∧ (crc8 (spiHeader 0x0B len addr) ≠ h.toNat)) ∧
    -- clause 28
    (let s : State := { spiUp with spiLast := [1, 2, 3, 4] }; let m : Bool := false; let len : Fin 64 := 0;
     let addr : BitVec 32 := 0; let h : Byte := BitVec.ofNat 8 (crc8 (spiHeader 0x0C 0 0));
     (s.spiOpen = true) ∧ ((s.spiBegin m).spiV2 = true) ∧ (crc8 (spiHeader 0x0C len addr) = h.toNat) ∧
       (s.spiLast.length = 4 * (len + 1))) ∧
    -- clause 29
    (let s : State := hostUp; let m : Bool := false;
     (s.spiOpen = true) ∧ ((s.spiBegin m).spiV2 = false)) ∧
    -- clause 30
    (let s : State := hostUp; let m : Bool := false; let len : Fin 64 := 0; let addr : BitVec 32 := 0;
     let h : Byte := 0;
     (s.spiOpen = true) ∧ ((s.spiBegin m).spiV2 = false ∨ crc8 (spiHeader 0x05 len addr) = h.toNat)) ∧
    -- clause 31
    (let s : State := spiUp; let m : Bool := false; let len : Fin 64 := 0; let addr : BitVec 32 := 0;
     let h : Byte := BitVec.ofNat 8 (crc8 (spiHeader 5 0 0) + 1);
     (s.spiOpen = true) ∧ ((s.spiBegin m).spiV2 = true) ∧ (crc8 (spiHeader 0x05 len addr) ≠ h.toNat)) ∧
    -- clause 32
    (let s : State := hostUp; let c : Byte := 0x77;
     (s.spiOpen = true) ∧ (c ∉ [0x02, 0x0B, 0x0C, 0x05, 0x3C, 0x3D])) ∧
    -- clause 33
    (let s : State := spiUp; let m : Bool := false;
     (s.spiOpen = true) ∧ ((s.spiBegin m).spiV2 = true)) ∧
    -- clause 34
    (let s : State := hostUp; let m : Bool := false;
     (s.spiOpen = true) ∧ ((s.spiBegin m).spiV2 = false)) ∧
    -- clause 35
    (let s : State := hostUp; let m : Bool := false; let addr : BitVec 32 := 0x56320001;
     (s.spiOpen = true) ∧ ((s.spiBegin m).spiV2 = false) ∧ (addr ≠ 0x56320000)) ∧
    -- clause 36
    (let s : State := spiUp; let m : Bool := false; let len : Fin 64 := 0; let addr : BitVec 32 := 0;
     let h : Byte := BitVec.ofNat 8 (crc8 (spiHeader 0x3D 0 0));
     (s.spiOpen = true) ∧ ((s.spiBegin m).spiV2 = true) ∧ (crc8 (spiHeader 0x3D len addr) = h.toNat)) := by
  refine ⟨?_, ?_, ?_, ?_, ?_, ?_, ?_, ?_, ?_, ?_, ?_, ?_⟩ <;> decide +kernel

theorem test_hostPorts_4 :
    -- clause 37
    (let s : State := hostUp; let m : Bool := false;
     (s.spiOpen = true) ∧ ((s.spiBegin m).spiV2 = false)) ∧
    -- clause 38
    (let s : State := State.reset;
     (s.stopped = true ∨ s.domOn 5 = false)) ∧
    -- clause 39
    (let bs : List Byte := [1, 2, 3, 4];
     (bs.length = 4)) ∧
    -- clause 40
    (let s : State := hostUp;
     (s.fld F.BOOT_STATUS_STAGE = 6)) := by
  refine ⟨?_, ?_, ?_, ?_⟩ <;> decide +kernel

theorem test_frankAndRingCommands :
    -- clause 0
    (let s : State := frankReady; let c : Fin 4 := 1; let e : TalEntry := frankEntry; let n : Nat := 0;
     let zi : Nat := 3;
     (s.unitsAct c = true) ∧ ((s.tally c).entries.zipIdx.find? (fun x => wsOpc x.1.ws == 6 && x.1.phase == .running) =
       some (e, n)) ∧ (s.frankCheck c (d1f e.ws 0 12) (d2f e.ws 0 12) (d3f e.ws 0 9) = .inr zi)) ∧
    -- clause 1
    (let s : State := frankQueued; let c : Fin 4 := 1; let e : TalEntry := frankEntry; let n : Nat := 0;
     let code : Nat := 5;
     (s.unitsAct c = true) ∧ ((s.tally c).entries.zipIdx.find? (fun x => wsOpc x.1.ws == 6 && x.1.phase == .running) =
       some (e, n)) ∧ (s.frankCheck c (d1f e.ws 0 12) (d2f e.ws 0 12) (d3f e.ws 0 9) = .inl code)) ∧
    -- clause 2
    (let s : State := (lit.setFld (F.SEAL_RINGCFG_LEN 2) 4).setFld (F.SEAL_RINGWP_WP 2) 3;
     let ini : Initiator := .cc 1; let c : Fin 4 := 2; let v : Word := 2; let p : Nat := 2;
     (s.Takes ini (Reg.SEAL_RINGRP c)) ∧ (bitsOf v.toNat 0 7 = p) ∧ (0 < s.ringLen c) ∧ ((p + 2 * s.ringLen c - s.fld
       (F.SEAL_RINGRP_RP c)) % (2 * s.ringLen c) ≤ s.ringHeld c)) ∧
    -- clause 3
    (let s : State := (lit.setFld (F.SEAL_RINGCFG_LEN 2) 4).setFld (F.SEAL_RINGWP_WP 2) 3;
     let ini : Initiator := .cc 1; let c : Fin 4 := 2; let v : Word := 4; let p : Nat := 4;
     (s.Takes ini (Reg.SEAL_RINGRP c)) ∧ (bitsOf v.toNat 0 7 = p) ∧ (0 < s.ringLen c) ∧ (s.ringHeld c < (p + 2 *
       s.ringLen c - s.fld (F.SEAL_RINGRP_RP c)) % (2 * s.ringLen c))) ∧
    -- clause 4
    (let s : State := lit; let ini : Initiator := .cc 1; let c : Fin 4 := 2; let v : Word := 100 + 4 * 4096;
     let base : Nat := 100; let len : Nat := 4;
     (s.Takes ini (Reg.SEAL_RINGCFG c)) ∧ (bitsOf v.toNat 0 12 = base) ∧ (bitsOf v.toNat 12 7 = len) ∧ (s.fld
       (F.SEAL_RINGWP_WP c) = s.fld (F.SEAL_RINGRP_RP c)) ∧ (1 ≤ len) ∧ (len ≤ 64) ∧ (base + len ≤ 4096)) ∧
    -- clause 5
    (let s : State := lit; let ini : Initiator := .cc 1; let c : Fin 4 := 2; let v : Word := 3;
     (s.Takes ini (Reg.SEAL_RINGRP c)) ∧ (s.ringLen c = 0) ∧ (bitsOf v.toNat 0 7 ≠ s.fld (F.SEAL_RINGRP_RP c))) ∧
    -- clause 6
    (let s : State := lit; let ini : Initiator := .cc 1; let c : Fin 4 := 2; let v : Word := 100;
     (s.Takes ini (Reg.SEAL_RINGCFG c)) ∧ (s.fld (F.SEAL_RINGWP_WP c) = s.fld (F.SEAL_RINGRP_RP c)) ∧ (bitsOf v.toNat
       12 7 = 0)) ∧
    -- clause 7
    (let s : State := (lit.setFld (F.SEAL_RINGCFG_LEN 2) 4).setFld (F.SEAL_RINGWP_WP 2) 3;
     let ini : Initiator := .cc 1; let c : Fin 4 := 2;
     (s.Takes ini (Reg.SEAL_RINGCFG c)) ∧ (s.fld (F.SEAL_RINGWP_WP c) ≠ s.fld (F.SEAL_RINGRP_RP c))) := by
  refine ⟨?_, ?_, ?_, ?_, ?_, ?_, ?_, ?_⟩ <;> decide +kernel

theorem test_meterChecks :
    -- clause 0
    (let s : State := lit;
     (s.fld F.SEAL_CTRL_LOCK = 0)) ∧
    -- clause 1
    (let s : State := (lit.setFld F.SEAL_CTRL_LOCK 1).setFld F.SEAL_CTRL_LOCKOUT 1;
     (s.fld F.SEAL_CTRL_LOCK = 1) ∧ (s.fld F.SEAL_CTRL_LOCKOUT = 1)) ∧
    -- clause 2
    (let s : State := lit.setFld F.SEAL_CTRL_LOCK 1; let offset : Nat := 3000; let bits : Nat := 100;
     (s.fld F.SEAL_CTRL_LOCK = 1) ∧ (s.fld F.SEAL_CTRL_LOCKOUT = 0) ∧ (bits = 0 ∨ 256 < bits ∨ 3072 < offset + bits)) ∧
    -- clause 3
    (let s : State := lit.setFld F.SEAL_CTRL_LOCK 1; let c : Nat := 0; let src : Nat := 0; let offset : Nat := 0;
     let bits : Nat := 100;
     (s.fld F.SEAL_CTRL_LOCK = 1) ∧ (s.fld F.SEAL_CTRL_LOCKOUT = 0) ∧ (1 ≤ bits) ∧ (bits ≤ 256) ∧ (offset + bits ≤
       3072) ∧ (∀ e, s.freshEntry c src = some e → e.epoch ≠ (s.zone e.zone).epoch)) ∧
    -- clause 4
    (let s : State := frankReady; let c : Nat := 1; let src : Nat := 7; let offset : Nat := 0; let bits : Nat := 8;
     let e : Fresh := ⟨7, 3, 0⟩;
     (s.fld F.SEAL_CTRL_LOCK = 1) ∧ (s.fld F.SEAL_CTRL_LOCKOUT = 0) ∧ (1 ≤ bits) ∧ (bits ≤ 256) ∧ (offset + bits ≤
       3072) ∧ (s.freshEntry c src = some e) ∧ (e.epoch = (s.zone e.zone).epoch)) ∧
    -- clause 5
    (let z : Zone := ⟨0, 0, 10, 0, 0, 0, 3, 0, 0, 0⟩; let n : Nat := 5;
     (n ≤ zoneAvail z)) := by
  refine ⟨?_, ?_, ?_, ?_, ?_, ?_⟩ <;> decide +kernel

theorem test_zoneAdvance :
    -- clause 0
    (let s : State := ((lit.setFld (F.SEAL_ADV_EN 2) 1).setFld F.SEAL_CTRL_LOCK 1).setFld F.CLK_STATUS_AONOK 1;
     let n : Fin 8 := 2; let zi : Nat := 0;
     (s.fld (F.SEAL_ADV_EN n) = 1) ∧ (s.fld F.SEAL_CTRL_LOCK = 1) ∧ (s.fld (F.SEAL_ADV_ZONE n) = zi) ∧ (s.fld
       F.CLK_STATUS_AONOK = 1) ∧ ((s.zone zi).last + (s.zone zi).miniv ≤ s.aonCycles) ∧ (∀ c : Nat, c < 4 → ∀ e ∈
       s.freshOf c, e.row < 4096)) ∧
    -- clause 1
    (let s : State := (lit.setFld (F.SEAL_ADV_EN 2) 1).setFld F.SEAL_CTRL_LOCK 1; let n : Fin 8 := 2;
     (s.fld (F.SEAL_ADV_EN n) = 1) ∧ (s.fld F.SEAL_CTRL_LOCK = 1) ∧ (s.aonCycles < (s.zone (s.fld (F.SEAL_ADV_ZONE
       n))).last + (s.zone (s.fld (F.SEAL_ADV_ZONE n))).miniv ∨ s.fld F.CLK_STATUS_AONOK = 0)) := by
  refine ⟨?_, ?_⟩ <;> decide +kernel

theorem test_roundAndOwner :
    -- clause 0
    (let s : State := withPacket (flyingWrite); let src : Fin 4 := 0; let tgt : Fin 4 := 1; let repeats : Fin 5 := 0;
     let n : Nat := 0; let p : Packet := flyingWrite;
     (s.nextPacket src tgt = some n) ∧ (s.flight[n]? = some p) ∧ (p.read = false) ∧ (p.wide = true) ∧ (repeats = 0) ∧
       (s.dropCause tgt = none)) ∧
    -- clause 1
    (let s : State := withPacket ({ flyingWrite with wide := false }); let src : Fin 4 := 0; let tgt : Fin 4 := 1;
     let repeats : Fin 5 := 0; let n : Nat := 0; let p : Packet := { flyingWrite with wide := false };
     (s.nextPacket src tgt = some n) ∧ (s.flight[n]? = some p) ∧ (p.read = false) ∧ (p.wide = false) ∧ (repeats = 0) ∧
       (s.dropCause tgt = none)) ∧
    -- clause 2
    (let s : State := { State.reset with flight := [flyingWrite] }; let src : Fin 4 := 0; let tgt : Fin 4 := 1;
     let repeats : Fin 5 := 0; let n : Nat := 0; let k : Nat := 0; let p : Packet := flyingWrite;
     (s.nextPacket src tgt = some n) ∧ (s.flight[n]? = some p) ∧ (p.read = false) ∧ (repeats = 0) ∧ (s.dropCause tgt =
       some k)) ∧
    -- clause 3
    (let s : State := withPacket (flyingWrite); let src : Fin 4 := 0; let tgt : Fin 4 := 1; let link : Fin 4 := 0;
     let repeats : Fin 5 := 4; let n : Nat := 0; let p : Packet := flyingWrite;
     (s.nextPacket src tgt = some n) ∧ (s.flight[n]? = some p) ∧ (p.read = false) ∧ (p.links.contains link.val = true)
       ∧ (repeats = 4)) ∧
    -- clause 4
    (let s : State := withPacket ({ flyingWrite with stage := .returned }); let src : Fin 4 := 0; let n : Nat := 0;
     let p : Packet := { flyingWrite with stage := .returned };
     ((s.flight.findIdx? fun q => q.src == src.val && q.stage == .returned) = some n) ∧ (s.flight[n]? = some p)) ∧
    -- clause 6
    (let s : State := withPacket { flyingWrite with stage := .accepted }; let src : Fin 4 := 0; let n : Nat := 0;
     ((s.flight.findIdx? fun q => q.src == src.val && q.stage == .accepted) = some n)) ∧
    -- clause 7
    (let s : State := withPacket (flyingRead); let src : Fin 4 := 0; let tgt : Fin 4 := 1; let repeats : Fin 5 := 0;
     let n : Nat := 0; let p : Packet := flyingRead;
     (s.nextPacket src tgt = some n) ∧ (s.flight[n]? = some p) ∧ (p.read = true) ∧ (repeats = 0)) ∧
    -- clause 8
    (let s : State := lit; let ini : Initiator := .cc 1; let c : Fin 4 := 2;
     (s.Takes ini (Reg.RND_RMPOP c))) ∧
    -- clause 9
    (let s : State := lit; let ini : Initiator := .sv; let c : Fin 4 := 1; let v : Word := 5; let o : Nat := 5;
     (s.Takes ini (Reg.CLU_OWNER c)) ∧ (bitsOf v.toNat 0 12 = o) ∧ (o ≠ s.ownerCtx c)) ∧
    -- clause 10
    (let s : State := lit; let ini : Initiator := .sv; let c : Fin 4 := 1; let v : Word := 0;
     (s.Takes ini (Reg.CLU_OWNER c)) ∧ (bitsOf v.toNat 0 12 = s.ownerCtx c)) ∧
    -- clause 11
    (let s : State := lit.setFld (F.CLU_OWNER_PEND 2) 1; let c : Fin 4 := 2;
     (s.fld (F.CLU_OWNER_PEND c) = 1) ∧ (s.unitsBusy c = false) ∧ (s.frontUses c = false) ∧ (s.outWrites c = 0) ∧
       (s.clearing c = false)) ∧
    -- clause 12
    (let s : State := lit.setFld (F.RND_PMARK_PEND 2) 1; let c : Fin 4 := 2;
     (s.fld (F.RND_PMARK_PEND c) = 1)) := by
  refine ⟨?_, ?_, ?_, ?_, ?_, ?_, ?_, ?_, ?_, ?_, ?_, ?_⟩ <;> decide +kernel

theorem test_roundAndOwner_2 :
    -- clause 13
    (let s : State := lit; let c : Fin 4 := 0;
     (s.fld (F.RND_PMARK_PEND c) = 0)) ∧
    -- clause 14
    (let s : State := lit; let c : Fin 4 := 2;
     (s.fld (F.CLU_OWNER_PEND c) = 0 ∨ s.unitsBusy c = true ∨ s.frontUses c = true ∨ s.outWrites c ≠ 0 ∨ s.clearing c
       = true)) ∧
    -- clause 15
    (let s : State := lit; let ini : Initiator := .cc 3; let c : Fin 4 := 3;
     (s.Takes ini (Reg.CLU_CLEAR c)) ∧ (s.clearing c = false)) ∧
    -- clause 16
    (let c : Nat := 2;
     (c < 4)) ∧
    -- clause 17
    (let s : State := lit.setFld (F.CLU_OWNER_CLEARING 2) 1; let c : Fin 4 := 2;
     (s.clearing c = true) ∧ (s.flrDue = []) ∧ (s.inClReset c = false)) ∧
    -- clause 18
    (let s : State := (lit.setFld (F.CLU_OWNER_CLEARING 2) 1).setFbit F.CLK_CLRST_BUSY 2 true; let c : Fin 4 := 2;
     (s.clearing c = true) ∧ (s.flrDue = []) ∧ (s.inClReset c = true) ∧ (s.fld (F.CLU_OWNER_PEND c) = 0)) := by
  refine ⟨?_, ?_, ?_, ?_, ?_, ?_⟩ <;> decide +kernel

theorem test_tileCommands :
    -- clause 0
    (let s : State := ((lit.setFld (F.TILE_PGMROWS_COUNT 8) 2).setFld (F.TILE_PGMCFG_GRPMASK 8) 1);
     let ini : Initiator := .cc 1; let t : Fin 32 := 8;
     (s.Takes ini (Reg.TILE_CMD t)) ∧ ((s.tile t).long = none) ∧ (1 ≤ s.fld (F.TILE_PGMROWS_COUNT t)) ∧ (s.fld
       (F.TILE_PGMROWS_FIRST t) + s.fld (F.TILE_PGMROWS_COUNT t) ≤ 768) ∧ (s.fld (F.TILE_PGMCFG_GRPMASK t) ≠ 0) ∧
       (s.fld (F.TILE_PGMSRC_SRCROW t) + srcRows (s.fld (F.TILE_PGMROWS_COUNT t)) ≤ 4096) ∧ ((s.tile t).genValid =
       false ∨ s.fld (F.TILE_PGMGEN_GEN t) ≠ (s.tile t).gen)) ∧
    -- clause 1
    (let t : Nat := 8;
     (t < 32)) ∧
    -- clause 2
    (let s : State := lit.setFld (F.TILE_PGMROWS_FIRST 8) 800; let ini : Initiator := .cc 1; let t : Fin 32 := 8;
     (s.Takes ini (Reg.TILE_CMD t)) ∧ ((s.tile t).long = none) ∧ ((s.tile t).front = none) ∧ (768 < s.fld
       (F.TILE_PGMROWS_FIRST t) + s.fld (F.TILE_PGMROWS_COUNT t) ∨ s.fld (F.TILE_PGMROWS_COUNT t) = 0 ∨ s.fld
       (F.TILE_PGMCFG_GRPMASK t) = 0 ∨ 4096 < s.fld (F.TILE_PGMSRC_SRCROW t) + srcRows (s.fld (F.TILE_PGMROWS_COUNT
       t)))) ∧
    -- clause 3
    (let s : State := ((lit.setFld (F.TILE_PGMROWS_COUNT 8) 2).setFld (F.TILE_PGMCFG_GRPMASK 8) 1).setTile 8 {
       genValid := true };
     let ini : Initiator := .cc 1; let t : Fin 32 := 8;
     (s.Takes ini (Reg.TILE_CMD t)) ∧ ((s.tile t).long = none) ∧ ((s.tile t).front = none) ∧ (1 ≤ s.fld
       (F.TILE_PGMROWS_COUNT t)) ∧ (s.fld (F.TILE_PGMROWS_FIRST t) + s.fld (F.TILE_PGMROWS_COUNT t) ≤ 768) ∧ (s.fld
       (F.TILE_PGMCFG_GRPMASK t) ≠ 0) ∧ (s.fld (F.TILE_PGMSRC_SRCROW t) + srcRows (s.fld (F.TILE_PGMROWS_COUNT t)) ≤
       4096) ∧ ((s.tile t).genValid = true) ∧ (s.fld (F.TILE_PGMGEN_GEN t) = (s.tile t).gen)) ∧
    -- clause 4
    (let s : State := ((lit.setFld (F.TILE_PGMROWS_COUNT 8) 2).setFld (F.TILE_PGMCFG_GRPMASK 8) 1).setCore 4 {
       lit.core 4 with run := .run, sealedSt := true };
     let t : Fin 32 := 8;
     (s.stopped = false) ∧ (s.sealedIni .sv = true) ∧ (s.verdict .sv (Reg.TILE_CMD t) true = .pass) ∧ ((s.tile t).long
       = none) ∧ ((s.tile t).front = none) ∧ (1 ≤ s.fld (F.TILE_PGMROWS_COUNT t)) ∧ (s.fld (F.TILE_PGMROWS_FIRST t) +
       s.fld (F.TILE_PGMROWS_COUNT t) ≤ 768) ∧ (s.fld (F.TILE_PGMCFG_GRPMASK t) ≠ 0) ∧ (s.fld (F.TILE_PGMSRC_SRCROW t)
       + srcRows (s.fld (F.TILE_PGMROWS_COUNT t)) ≤ 4096) ∧ ((s.tile t).genValid = false)) ∧
    -- clause 5
    (let s : State := tileWith longWipe; let ini : Initiator := .cc 1; let t : Fin 32 := 8;
     let l : LongOp := longWipe;
     (s.Takes ini (Reg.TILE_CMD t)) ∧ ((s.tile t).long = some l)) ∧
    -- clause 6
    (let s : State := tileWith (longProgram .prescan); let t : Fin 32 := 8; let l : LongOp := (longProgram .prescan);
     ((s.tile t).long = some l) ∧ (l.phase = .prescan) ∧ (s.clearing (t.val / 8) = false) ∧ (s.spOn (t.val / 8) =
       true) ∧ (s.pgmSealed (t.val / 8) l.src l.count = false) ∧ (s.pgmBad (t.val / 8) l.src (List.range l.count) =
       false)) ∧
    -- clause 7
    (let s : State := (tileWith (longProgram .prescan)).setTag 1 0 true; let t : Fin 32 := 8;
     let l : LongOp := (longProgram .prescan);
     ((s.tile t).long = some l) ∧ (l.phase = .prescan) ∧ (l.kind = .program) ∧ (s.clearing (t.val / 8) = false) ∧
       (s.pgmSealed (t.val / 8) l.src l.count = true)) ∧
    -- clause 8
    (let s : State := (tileWith (longProgram .prescan)).setBytes 0x200000 [8]; let t : Fin 32 := 8;
     let l : LongOp := (longProgram .prescan);
     ((s.tile t).long = some l) ∧ (l.phase = .prescan) ∧ (l.kind = .program) ∧ (s.clearing (t.val / 8) = false) ∧
       (s.pgmSealed (t.val / 8) l.src l.count = false) ∧ (s.pgmBad (t.val / 8) l.src (List.range l.count) = true)) ∧
    -- clause 9
    (let s : State := tileWith longWipe; let t : Fin 32 := 8; let l : LongOp := longWipe;
     ((s.tile t).long = some l) ∧ (l.phase ≠ .prescan ∨ s.clearing (t.val / 8) = true)) ∧
    -- clause 9
    (let s : State := (tileWith (longProgram .prescan)).setFld (F.CLU_OWNER_CLEARING 1) 1; let t : Fin 32 := 8;
     let l : LongOp := (longProgram .prescan);
     ((s.tile t).long = some l) ∧ (l.phase ≠ .prescan ∨ s.clearing (t.val / 8) = true)) ∧
    -- clause 11
    (let s : State := lit; let ini : Initiator := .cc 1; let t : Fin 32 := 8;
     (s.Takes ini (Reg.TILE_CMD t)) ∧ ((s.tile t).long = none)) := by
  refine ⟨?_, ?_, ?_, ?_, ?_, ?_, ?_, ?_, ?_, ?_, ?_, ?_⟩ <;> decide +kernel

theorem test_tileCommands_2 :
    -- clause 12
    (let s : State := tileWith longWipe; let ini : Initiator := .cc 1; let t : Fin 32 := 8;
     let l : LongOp := longWipe;
     (s.Takes ini (Reg.TILE_CMD t)) ∧ ((s.tile t).long = some l)) ∧
    -- clause 13
    (let s : State := tileWith { longWipe with idx := 0 }; let t : Fin 32 := 8;
     let l : LongOp := { longWipe with idx := 0 };
     ((s.tile t).long = some l) ∧ (l.kind = .wipe) ∧ (s.stepRuns t l = true) ∧ (l.abort = false) ∧ (l.idx + 1 <
       l.count) ∧ (s.fld (F.TILE_LSTAT_ROWSDONE t) < 1023)) ∧
    -- clause 14
    (let s : State := tileWith { longProgram .step with mask := 0, count := 3 }; let t : Fin 32 := 8;
     let l : LongOp := { longProgram .step with mask := 0, count := 3 };
     ((s.tile t).long = some l) ∧ (l.kind = .program) ∧ (s.stepRuns t l = true) ∧ (s.clearing (t.val / 8) = false) ∧
       (s.spOn (t.val / 8) = true) ∧ (s.stepRefused t l = none) ∧ ((s.runStep t l).stuck ≤ l.stuckok) ∧ (l.abort =
       false) ∧ (l.idx + 1 < l.count) ∧ (s.fld (F.TILE_LSTAT_ROWSDONE t) < 1023)) ∧
    -- clause 15
    (let s : State := tileWith { longProgram .step with mask := 0 }; let t : Fin 32 := 8;
     let l : LongOp := { longProgram .step with mask := 0 };
     ((s.tile t).long = some l) ∧ (l.kind = .program) ∧ (s.stepRuns t l = true) ∧ (s.clearing (t.val / 8) = false) ∧
       (s.spOn (t.val / 8) = true) ∧ (s.stepRefused t l = none) ∧ ((s.runStep t l).stuck ≤ l.stuckok) ∧ (l.abort =
       false) ∧ (l.nospare = none) ∧ (l.idx + 1 = l.count)) ∧
    -- clause 16
    (let s : State := (tileWith (longProgram .step)).setTag 1 0 true; let t : Fin 32 := 8;
     let l : LongOp := longProgram .step; let status : Nat := 4;
     ((s.tile t).long = some l) ∧ (l.kind = .program) ∧ (s.stepRuns t l = true) ∧ (s.clearing (t.val / 8) = false) ∧
       (s.stepRefused t l = some status)) ∧
    -- clause 16
    (let s : State := (tileWith (longProgram .step)).setBytes 0x200000 [8]; let t : Fin 32 := 8;
     let l : LongOp := longProgram .step; let status : Nat := 5;
     ((s.tile t).long = some l) ∧ (l.kind = .program) ∧ (s.stepRuns t l = true) ∧ (s.clearing (t.val / 8) = false) ∧
       (s.stepRefused t l = some status)) ∧
    -- clause 17
    (let l : LongOp := longProgram .step;
     (l.kind = .program)) ∧
    -- clause 18
    (let s : State := tileWith (longProgram .prescan); let t : Fin 32 := 8; let l : LongOp := (longProgram .prescan);
     ((s.tile t).long = some l) ∧ (s.stepRuns t l = false ∨ (l.kind = .program ∧ s.clearing (t.val / 8) = true))) ∧
    -- clause 18
    (let s : State := (tileWith (longProgram .step)).setFld (F.CLU_OWNER_CLEARING 1) 1; let t : Fin 32 := 8;
     let l : LongOp := longProgram .step;
     ((s.tile t).long = some l) ∧ (s.stepRuns t l = false ∨ (l.kind = .program ∧ s.clearing (t.val / 8) = true))) ∧
    -- clause 19
    (let s : State := tileWith longWipe; let ini : Initiator := .cc 1; let t : Fin 32 := 8;
     let l : LongOp := longWipe;
     (s.Takes ini (Reg.TILE_CMD t)) ∧ ((s.tile t).long = some l) ∧ (l.phase = .step)) ∧
    -- clause 20
    (let s : State := tileWith (longProgram .prescan); let ini : Initiator := .cc 1; let t : Fin 32 := 8;
     let l : LongOp := (longProgram .prescan);
     (s.Takes ini (Reg.TILE_CMD t)) ∧ ((s.tile t).long = some l) ∧ (l.phase ≠ .step)) := by
  refine ⟨?_, ?_, ?_, ?_, ?_, ?_, ?_, ?_, ?_, ?_, ?_⟩ <;> decide +kernel

theorem test_programmedWeights :
    -- clause 0
    (let s : State := tileWith longWipe; let t : Nat := 8; let l : LongOp := { longWipe with idx := 0 };
     let k : Nat := 100000;
     (k ∉ (s.stepTargets t l).map (·.1))) ∧
    -- clause 4
    (let w : Int := -3;
     (-7 ≤ w) ∧ (w ≤ 7)) ∧
    -- clause 5
    (let r1 : Nat := 7; let c1 : Nat := 5; let s1 : Nat := 1; let r2 : Nat := 7; let c2 : Nat := 5; let s2 : Nat := 1;
     (c1 < 392) ∧ (c2 < 392) ∧ (s1 < 2) ∧ (s2 < 2) ∧ (cellKey r1 c1 s1 = cellKey r2 c2 s2)) ∧
    -- clause 9
    (let n : Noise := noNoise; let g : Nat := 1; let d : Rat := 63;
     (n.force = true) ∧ (63 * (gainLsb g : Rat) ≤ 4 * d)) ∧
    -- clause 10
    (let n : Noise := noNoise; let g : Nat := 1; let d : Rat := -68;
     (n.force = true) ∧ (4 * d < -67 * (gainLsb g : Rat))) := by
  refine ⟨?_, ?_, ?_, ?_, ?_⟩ <;> decide +kernel

theorem test_tileChecks :
    -- clause 0
    (let s : State := lit; let ini : Initiator := .cc 1; let t : Fin 32 := 8;
     (s.Takes ini (Reg.TILE_CMD t)) ∧ (s.tileState t = 0) ∧ (s.tileDepth t = 0)) ∧
    -- clause 1
    (let s : State := tileWith longWipe; let ini : Initiator := .cc 1; let t : Fin 32 := 8;
     (s.Takes ini (Reg.TILE_CMD t)) ∧ (s.tileState t ≠ 0 ∨ s.tileDepth t ≠ 0)) ∧
    -- clause 2
    (let s : State := tileChecking { trim := false, sealedIn := true, bexp0 := 0x20, bexp1 := 0 };
     let t : Fin 32 := 8; let k : Check := { trim := false, sealedIn := true, bexp0 := 0x20, bexp1 := 0 };
     ((s.tile t).check = some k) ∧ (k.trim = false) ∧ (k.sealedIn = true)) ∧
    -- clause 3
    (let s : State := tileChecking { trim := false, sealedIn := false, bexp0 := 0x20, bexp1 := 0 };
     let t : Fin 32 := 8; let k : Check := { trim := false, sealedIn := false, bexp0 := 0x20, bexp1 := 0 };
     ((s.tile t).check = some k) ∧ (k.trim = false) ∧ (k.sealedIn = false)) ∧
    -- clause 4
    (let s : State := lit.setFld (F.CAL_THR_TRIPN 8) 1; let t : Fin 32 := 8;
     let k : Check := { trim := false, sealedIn := false, bexp0 := 0x20, bexp1 := 0 };
     let codes : List (Int × Bool) := [(0, true)]; let devs : List (Nat × Nat × Bool) := [(0, 0, true)];
     (devs = baroDevs k.bexp0 k.bexp1 codes) ∧ (devs.any (·.2.2) = true ∨ devs.any (fun d => decide (s.fld
       (F.CAL_THR_TRIP t) ≤ d.2.1)) = true) ∧ (s.fld (F.CAL_THR_TRIPN t) ≠ 0) ∧ (s.fld (F.CAL_THR_TRIPN t) ≤ s.fld
       (F.CAL_STAT_TRIPCNT t) + 1)) ∧
    -- clause 5
    (let s : State := lit.setFld (F.CAL_THR_TRIP 8) 3; let t : Fin 32 := 8;
     let k : Check := { trim := false, sealedIn := false, bexp0 := 0x20, bexp1 := 0 };
     let codes : List (Int × Bool) := [(1, false)]; let devs : List (Nat × Nat × Bool) := [(0, 1, false)];
     (devs = baroDevs k.bexp0 k.bexp1 codes) ∧ (devs.any (·.2.2) = false) ∧ (devs.any (fun d => decide (s.fld
       (F.CAL_THR_TRIP t) ≤ d.2.1)) = false)) ∧
    -- clause 6
    (let s : State := lit; let ini : Initiator := .sv; let t : Fin 32 := 8;
     (s.Takes ini (Reg.CAL_CMD t)) ∧ (s.domOn (domTQ t) = true) ∧ (s.tileState t = 0) ∧ (s.tileDepth t = 0)) ∧
    -- clause 7
    (let s : State := tileWith longWipe; let ini : Initiator := .sv; let t : Fin 32 := 8;
     (s.Takes ini (Reg.CAL_CMD t)) ∧ (s.domOn (domTQ t) = true) ∧ (s.tileState t ≠ 0 ∨ s.tileDepth t ≠ 0)) ∧
    -- clause 8
    (let s : State := State.reset; let ini : Initiator := .sv; let t : Fin 32 := 8;
     (s.Takes ini (Reg.CAL_CMD t)) ∧ (s.domOn (domTQ t) = false)) ∧
    -- clause 9
    (let s : State := tileChecking ⟨true, false, 0, 0⟩; let t : Fin 32 := 8; let k : Check := ⟨true, false, 0, 0⟩;
     ((s.tile t).check = some k) ∧ (k.trim = true)) ∧
    -- clause 10
    (let s : State := ((lit.setFld (F.CAL_RFROWS_COUNT 8) 2).setFld (F.CAL_RFCFG_GRPMASK 8) 1);
     let ini : Initiator := .sv; let t : Fin 32 := 8;
     (s.Takes ini (Reg.CAL_CMD t)) ∧ (s.domOn (domTQ t) = true) ∧ ((s.tile t).long = none) ∧ (1 ≤ s.fld
       (F.CAL_RFROWS_COUNT t)) ∧ (s.fld (F.CAL_RFROWS_FIRST t) + s.fld (F.CAL_RFROWS_COUNT t) ≤ 768) ∧ (s.fld
       (F.CAL_RFCFG_GRPMASK t) ≠ 0 ∨ s.fld (F.CAL_RFCFG_BARO t) = 1) ∧ (s.pairOk t = false)) ∧
    -- clause 11
    (let s : State := State.reset; let ini : Initiator := .sv; let t : Fin 32 := 8;
     (s.Takes ini (Reg.CAL_CMD t)) ∧ (s.domOn (domTQ t) = false)) := by
  refine ⟨?_, ?_, ?_, ?_, ?_, ?_, ?_, ?_, ?_, ?_, ?_, ?_⟩ <;> decide +kernel

theorem test_tileChecks_2 :
    -- clause 12
    (let s : State := pairBusy; let ini : Initiator := .sv; let t : Fin 32 := 8;
     (s.Takes ini (Reg.CAL_CMD t)) ∧ (s.domOn (domTQ t) = true) ∧ ((s.tile t).long = none) ∧ (1 ≤ s.fld
       (F.CAL_RFROWS_COUNT t)) ∧ (s.fld (F.CAL_RFROWS_FIRST t) + s.fld (F.CAL_RFROWS_COUNT t) ≤ 768) ∧ (s.fld
       (F.CAL_RFCFG_GRPMASK t) ≠ 0 ∨ s.fld (F.CAL_RFCFG_BARO t) = 1) ∧ (s.pairOk t = true) ∧ ((s.tile (s.fld
       (F.CAL_PAIR_PARTNER t))).long ≠ none)) ∧
    -- clause 13
    (let s : State := lit.setFld (F.CAL_RFROWS_COUNT 8) 0; let ini : Initiator := .sv; let t : Fin 32 := 8;
     (s.Takes ini (Reg.CAL_CMD t)) ∧ (s.domOn (domTQ t) = true) ∧ ((s.tile t).long = none) ∧ (768 < s.fld
       (F.CAL_RFROWS_FIRST t) + s.fld (F.CAL_RFROWS_COUNT t) ∨ s.fld (F.CAL_RFROWS_COUNT t) = 0 ∨ (s.fld
       (F.CAL_RFCFG_GRPMASK t) = 0 ∧ s.fld (F.CAL_RFCFG_BARO t) = 0))) ∧
    -- clause 13
    (let s : State := ((lit.setFld (F.CAL_RFROWS_COUNT 8) 1).setFld (F.CAL_RFCFG_GRPMASK 8) 0).setFld
       (F.CAL_RFCFG_BARO 8) 0;
     let ini : Initiator := .sv; let t : Fin 32 := 8;
     (s.Takes ini (Reg.CAL_CMD t)) ∧ (s.domOn (domTQ t) = true) ∧ ((s.tile t).long = none) ∧ (768 < s.fld
       (F.CAL_RFROWS_FIRST t) + s.fld (F.CAL_RFROWS_COUNT t) ∨ s.fld (F.CAL_RFROWS_COUNT t) = 0 ∨ (s.fld
       (F.CAL_RFCFG_GRPMASK t) = 0 ∧ s.fld (F.CAL_RFCFG_BARO t) = 0))) ∧
    -- clause 14
    (let s : State := tileWith { longWipe with kind := .refresh }; let t : Fin 32 := 8;
     let l : LongOp := { longWipe with kind := .refresh }; let status : Nat := 2;
     ((s.tile t).long = some l) ∧ (l.kind = .refresh) ∧ (status ≤ 7)) := by
  refine ⟨?_, ?_, ?_, ?_⟩ <;> decide +kernel

theorem test_wordSetCommands :
    -- clause 0
    (let s : State := lit; let ini : Initiator := .cc 1; let c : Fin 4 := 1; let p : Fin 3 := 0;
     let d : WordSet := goodWords 1;
     (s.Takes ini (Reg.TAL_OP_D c p 4)) ∧ (wsOk (withOpc 1 d) = true) ∧ (s.fld (F.CLU_OWNER_PEND c) = 0) ∧ ((s.tally
       c).entries.length < 16)) ∧
    -- clause 1
    (let s : State := lit; let ini : Initiator := .cc 1; let c : Fin 4 := 1; let p : Fin 3 := 0;
     let d : WordSet := goodWords 2;
     (s.Takes ini (Reg.TAL_OP_D c p 4)) ∧ (wsOk (withOpc 2 d) = true) ∧ (s.fld (F.CLU_OWNER_PEND c) = 0) ∧ ((s.tally
       c).entries.length < 16)) ∧
    -- clause 2
    (let s : State := lit; let ini : Initiator := .cc 1; let c : Fin 4 := 1; let p : Fin 3 := 0;
     let d : WordSet := goodWords 3;
     (s.Takes ini (Reg.TAL_OP_D c p 4)) ∧ (wsOk (withOpc 3 d) = true) ∧ (s.fld (F.CLU_OWNER_PEND c) = 0) ∧ ((s.tally
       c).entries.length < 16)) ∧
    -- clause 3
    (let s : State := lit; let ini : Initiator := .cc 1; let c : Fin 4 := 1; let p : Fin 3 := 0;
     let d : WordSet := goodWords 4;
     (s.Takes ini (Reg.TAL_OP_D c p 4)) ∧ (wsOk (withOpc 4 d) = true) ∧ (s.fld (F.CLU_OWNER_PEND c) = 0) ∧ ((s.tally
       c).entries.length < 16)) ∧
    -- clause 4
    (let s : State := lit; let ini : Initiator := .cc 1; let c : Fin 4 := 1; let p : Fin 3 := 0;
     let d : WordSet := goodWords 5;
     (s.Takes ini (Reg.TAL_OP_D c p 4)) ∧ (wsOk (withOpc 5 d) = true) ∧ (s.fld (F.CLU_OWNER_PEND c) = 0) ∧ ((s.tally
       c).entries.length < 16)) ∧
    -- clause 5
    (let s : State := lit; let ini : Initiator := .cc 1; let c : Fin 4 := 1; let p : Fin 3 := 0;
     let d : WordSet := goodWords 6;
     (s.Takes ini (Reg.TAL_OP_D c p 4)) ∧ (wsOk (withOpc 6 d) = true) ∧ (s.fld (F.CLU_OWNER_PEND c) = 0) ∧ ((s.tally
       c).entries.length < 16)) ∧
    -- clause 6
    (let s : State := lit; let ini : Initiator := .cc 1; let c : Fin 4 := 1; let p : Fin 3 := 0;
     let d : WordSet := goodWords 7;
     (s.Takes ini (Reg.TAL_OP_D c p 4)) ∧ (wsOk (withOpc 7 d) = true) ∧ (s.fld (F.CLU_OWNER_PEND c) = 0) ∧ ((s.tally
       c).entries.length < 16)) ∧
    -- clause 7
    (let s : State := lit.setCore 4 { lit.core 4 with run := .run, sealedSt := true }; let c : Fin 4 := 1;
     let p : Fin 3 := 1; let d : WordSet := goodWords 4; let i : Fin 7 := 3;
     (s.stopped = false) ∧ (s.sealedIni .sv = true) ∧ (sealedMay 4 (Reg.TAL_OP_D c p 4) = true) ∧ (s.verdict .sv
       (Reg.TAL_OP_D c p 4) true = .pass) ∧ (wsOk (withOpc (i.val + 1) d) = true) ∧ (s.fld (F.CLU_OWNER_PEND c) = 0) ∧
       ((s.tally c).entries.length < 16)) ∧
    -- clause 8
    (let s : State := lit.setFld (F.CLU_OWNER_PEND 1) 1; let ini : Initiator := .cc 1; let c : Fin 4 := 1;
     let p : Fin 3 := 0;
     (s.Takes ini (Reg.TAL_OP_D c p 4)) ∧ (s.fld (F.CLU_OWNER_PEND c) = 1)) ∧
    -- clause 9
    (let s : State := lit; let ini : Initiator := .cc 1; let c : Fin 4 := 1; let p : Fin 3 := 0;
     let d : WordSet := badWords; let i : Fin 7 := 0;
     (s.Takes ini (Reg.TAL_OP_D c p 4)) ∧ (s.fld (F.CLU_OWNER_PEND c) = 0) ∧ ((s.tally c).entries.length < 16) ∧ (p ≠
       2) ∧ ((s.tally c).cpl.length < 16) ∧ (wsOk (withOpc (i.val + 1) d) = false)) ∧
    -- clause 9
    (let s : State := lit; let ini : Initiator := .cc 1; let c : Fin 4 := 1; let p : Fin 3 := 0;
     let d : WordSet := badWords; let i : Fin 7 := 6;
     (s.Takes ini (Reg.TAL_OP_D c p 4)) ∧ (s.fld (F.CLU_OWNER_PEND c) = 0) ∧ ((s.tally c).entries.length < 16) ∧ (p ≠
       2) ∧ ((s.tally c).cpl.length < 16) ∧ (wsOk (withOpc (i.val + 1) d) = false)) ∧
    -- clause 10
    (let s : State := lit.setTally 1 { entries := List.replicate 16 (talEntry 7 .queued) };
     let ini : Initiator := .cc 1; let c : Fin 4 := 1; let p : Fin 3 := 0;
     (s.Takes ini (Reg.TAL_OP_D c p 4)) ∧ (s.fld (F.CLU_OWNER_PEND c) = 0) ∧ (16 ≤ (s.tally c).entries.length)) := by
  refine ⟨?_, ?_, ?_, ?_, ?_, ?_, ?_, ?_, ?_, ?_, ?_, ?_⟩ <;> decide +kernel

theorem test_wordSetCommands_2 :
    -- clause 11
    (let c : Nat := 3; let p : Nat := 2;
     (c < 4) ∧ (p < 3)) := by
  decide +kernel

theorem test_tallyProgress :
    -- clause 0
    (let s : State := talWith 1 .queued; let c : Fin 4 := 1; let n : Nat := 0; let e : TalEntry := talEntry 1 .queued;
     (s.unitsAct c = true) ∧ (s.tallyNext c (s.tally c).entries 0 [] false = some n) ∧ ((s.tally c).entries[n]? = some
       e) ∧ (wsOpc e.ws = 1 → s.domOn (domTQ (8 * c + wsTile e.ws)) = true ∧ s.fenced (8 * c + wsTile e.ws) = false)) ∧
    -- clause 0
    (let s : State := talWith 4 .queued; let c : Fin 4 := 1; let n : Nat := 0; let e : TalEntry := talEntry 4 .queued;
     (s.unitsAct c = true) ∧ (s.tallyNext c (s.tally c).entries 0 [] false = some n) ∧ ((s.tally c).entries[n]? = some
       e) ∧ (wsOpc e.ws = 1 → s.domOn (domTQ (8 * c + wsTile e.ws)) = true ∧ s.fenced (8 * c + wsTile e.ws) = false)) ∧
    -- clause 1
    (let e : TalEntry := talEntry 1 .queued;
     (wsOpc e.ws = 1)) ∧
    -- clause 2
    (let s : State := (talWith 1 .queued).setFld (F.PWR_DOM_ACT 19) 0; let c : Fin 4 := 1; let n : Nat := 0;
     let e : TalEntry := talEntry 1 .queued;
     (s.unitsAct c = true) ∧ (s.tallyNext c (s.tally c).entries 0 [] false = some n) ∧ ((s.tally c).entries[n]? = some
       e) ∧ (wsOpc e.ws = 1) ∧ (s.domOn (domTQ (8 * c + wsTile e.ws)) = false)) ∧
    -- clause 3
    (let s : State := (talWith 1 .queued).setFld ⟨Reg.FLT_MGMT 0, 16, 2⟩ 2; let c : Fin 4 := 1; let n : Nat := 0;
     let e : TalEntry := talEntry 1 .queued;
     (s.unitsAct c = true) ∧ (s.tallyNext c (s.tally c).entries 0 [] false = some n) ∧ ((s.tally c).entries[n]? = some
       e) ∧ (wsOpc e.ws = 1) ∧ (s.domOn (domTQ (8 * c + wsTile e.ws)) = true) ∧ (s.fenced (8 * c + wsTile e.ws) =
       true)) ∧
    -- clause 4
    (let s : State := lit; let c : Fin 4 := 1;
     (s.unitsAct c = false ∨ s.tallyNext c (s.tally c).entries 0 [] false = none)) ∧
    -- clause 4
    (let s : State := State.reset; let c : Fin 4 := 1;
     (s.unitsAct c = false ∨ s.tallyNext c (s.tally c).entries 0 [] false = none)) ∧
    -- clause 5
    (let s : State := talWith 1 .inTile; let t : Fin 32 := 8; let n : Nat := 0;
     let e : TalEntry := talEntry 1 .inTile;
     (s.domOn (domTQ t) = true) ∧ (s.mayCompute t = true) ∧ (firstOnTile (s.tally (t / 8)).entries t .inTile = some n)
       ∧ ((s.tally (t / 8)).entries[n]? = some e)) ∧
    -- clause 6
    (let s : State := State.reset; let t : Fin 32 := 8;
     (s.domOn (domTQ t) = false ∨ s.mayCompute t = false)) ∧
    -- clause 6
    (let s : State := tileWith longWipe; let t : Fin 32 := 8;
     (s.domOn (domTQ t) = false ∨ s.mayCompute t = false)) ∧
    -- clause 7
    (let s : State := talWith 1 .computing; let t : Fin 32 := 8; let n : Nat := 0;
     let e : TalEntry := talEntry 1 .computing;
     (firstOnTile (s.tally (t / 8)).entries t .computing = some n) ∧ ((s.tally (t / 8)).entries[n]? = some e)) ∧
    -- clause 8
    (let s : State := talWith 4 .running; let c : Fin 4 := 1; let n : Fin 16 := 0;
     let e : TalEntry := talEntry 4 .running;
     (s.unitsAct c = true) ∧ ((s.tally c).entries[n.val]? = some e) ∧ (s.tallyReady c e = true)) := by
  refine ⟨?_, ?_, ?_, ?_, ?_, ?_, ?_, ?_, ?_, ?_, ?_, ?_⟩ <;> decide +kernel

theorem test_tallyProgress_2 :
    -- clause 9
    (let s : State := talWith 4 .running; let c : Fin 4 := 1; let n : Fin 16 := 0;
     let e : TalEntry := talEntry 4 .running;
     (s.unitsAct c = true) ∧ ((s.tally c).entries[n.val]? = some e) ∧ (s.tallyReady c e = true) ∧ (s.spOn c = true) ∧
       (e.status = 0) ∧ (wsOpc e.ws = 4)) ∧
    -- clause 10
    (let s : State := talWith 2 .running; let c : Fin 4 := 1; let n : Fin 16 := 0;
     let e : TalEntry := talEntry 2 .running;
     (s.unitsAct c = true) ∧ ((s.tally c).entries[n.val]? = some e) ∧ (s.tallyReady c e = true) ∧ (s.spOn c = true) ∧
       (e.status = 0) ∧ (wsOpc e.ws = 2 ∨ wsOpc e.ws = 3)) ∧
    -- clause 10
    (let s : State := talWith 3 .running; let c : Fin 4 := 1; let n : Fin 16 := 0;
     let e : TalEntry := talEntry 3 .running;
     (s.unitsAct c = true) ∧ ((s.tally c).entries[n.val]? = some e) ∧ (s.tallyReady c e = true) ∧ (s.spOn c = true) ∧
       (e.status = 0) ∧ (wsOpc e.ws = 2 ∨ wsOpc e.ws = 3)) ∧
    -- clause 11
    (let s : State := talWith 7 .running; let c : Fin 4 := 1; let n : Fin 16 := 0;
     let e : TalEntry := talEntry 7 .running;
     (s.unitsAct c = true) ∧ ((s.tally c).entries[n.val]? = some e) ∧ (s.tallyReady c e = true) ∧ (s.spOn c = true) ∧
       (e.status = 0) ∧ (wsOpc e.ws = 7)) ∧
    -- clause 12
    (let s : State := talWith 4 .queued; let c : Fin 4 := 1; let n : Fin 16 := 0;
     let e : TalEntry := talEntry 4 .queued;
     ((s.tally c).entries[n.val]? = some e) ∧ (s.unitsAct c = false ∨ s.tallyReady c e = false)) ∧
    -- clause 13
    (let s : State := lit; let c : Nat := 1;
     let e : TalEntry := { talEntry 1 .back with lanes := List.replicate 8 0 }; let a : Nat := 0; let r : Nat := 20;
     (c < 4) ∧ (wsOk e.ws = true) ∧ (wsOpc e.ws ≠ 6) ∧ (wsOpc e.ws = 1 → e.lanes.length = d3f e.ws 9 9) ∧ (r < 4096) ∧
       (∀ x ∈ s.rowSet c e.ws, a < rowAddr c x.1 ∨ rowAddr c x.1 + 0x200 * x.2 ≤ a) ∧ (∀ x ∈ s.rowSet c e.ws, r < x.1
       ∨ x.1 + x.2 ≤ r)) ∧
    -- clause 13
    (let s : State := lit; let c : Nat := 1; let e : TalEntry := talEntry 4 .running; let a : Nat := 0x206000;
     let r : Nat := 11;
     (c < 4) ∧ (wsOk e.ws = true) ∧ (wsOpc e.ws ≠ 6) ∧ (wsOpc e.ws = 1 → e.lanes.length = d3f e.ws 9 9) ∧ (r < 4096) ∧
       (∀ x ∈ s.rowSet c e.ws, a < rowAddr c x.1 ∨ rowAddr c x.1 + 0x200 * x.2 ≤ a) ∧ (∀ x ∈ s.rowSet c e.ws, r < x.1
       ∨ x.1 + x.2 ≤ r)) ∧
    -- clause 14
    (let s : State := talWith 1 .queued; let c : Nat := 1; let e : TalEntry := talEntry 1 .queued;
     (e.port ≠ 2) ∧ ((s.tally c).cpl.length < 16) ∧ (c < 4)) ∧
    -- clause 15
    (let s : State := lit; let ini : Initiator := .cc 1; let c : Fin 4 := 1;
     (s.Takes ini (Reg.TAL_CPLPOP c))) ∧
    -- clause 16
    (let s : State := lit; let ini : Initiator := .cc 1; let c : Fin 4 := 1;
     (s.Takes ini (Reg.TAL_RSTSEED c))) := by
  refine ⟨?_, ?_, ?_, ?_, ?_, ?_, ?_, ?_, ?_, ?_⟩ <;> decide +kernel

theorem test_tallyArithmetic :
    -- trn
    (0 < (1 : Nat)) ∧
    -- rhu
    (0 < (1 : Nat)) ∧
    -- rhe
    (0 < (1 : Nat)) ∧
    -- rst
    ((0 < (1 : Nat)) ∧ ((1 : Nat) ≤ 24)) ∧
    -- fit
    ((-128 : Int) ≤ (127 : Int)) ∧
    -- maximum
    (((3 : Int) :: ([5, 5] : List Int))[(1 : Nat)]? = some (5 : Int)) ∧
    -- minimum
    (((3 : Int) :: ([1, 1] : List Int))[(1 : Nat)]? = some (1 : Int)) := by
  refine ⟨?_, ?_, ?_, ?_, ?_, ?_, ?_⟩ <;> decide +kernel

theorem test_moverCommands :
    -- clause 0
    (let s : State := lit; let ini : Initiator := .cc 1; let c : Fin 4 := 1; let p : Fin 3 := 0;
     let j : JobWords := goodJob;
     (s.Takes ini (Reg.MOV_JOB_J c p 3)) ∧ (jobOk j = true) ∧ (s.fld (F.CLU_OWNER_PEND c) = 0) ∧ ((s.mover
       c).jobs.length < 8)) ∧
    -- clause 1
    (let s : State := lit.setCore 4 { lit.core 4 with run := .run, sealedSt := true }; let c : Fin 4 := 1;
     let p : Fin 3 := 1; let j : JobWords := goodJob;
     (s.stopped = false) ∧ (s.sealedIni .sv = true) ∧ (sealedMay 4 (Reg.MOV_JOB_J c p 3) = true) ∧ (s.verdict .sv
       (Reg.MOV_JOB_J c p 3) true = .pass) ∧ (jobOk j = true) ∧ (s.fld (F.CLU_OWNER_PEND c) = 0) ∧ ((s.mover
       c).jobs.length < 8)) ∧
    -- clause 2
    (let s : State := lit; let ini : Initiator := .cc 1; let c : Fin 4 := 1; let p : Fin 3 := 0;
     let j : JobWords := ⟨1, 0, 0, 0⟩;
     (s.Takes ini (Reg.MOV_JOB_J c p 3)) ∧ (jobOk j = false) ∧ (s.fld (F.CLU_OWNER_PEND c) = 0) ∧ ((s.mover
       c).jobs.length < 8) ∧ (p ≠ 2) ∧ ((s.mover c).cpl.length < 8)) ∧
    -- clause 3
    (let s : State := lit.setFld (F.CLU_OWNER_PEND 1) 1; let ini : Initiator := .cc 1; let c : Fin 4 := 1;
     let p : Fin 3 := 0;
     (s.Takes ini (Reg.MOV_JOB_J c p 3)) ∧ (s.fld (F.CLU_OWNER_PEND c) = 1)) ∧
    -- clause 4
    (let s : State := lit.setMover 1 { jobs := List.replicate 8 (movJob goodJob false 0) };
     let ini : Initiator := .cc 1; let c : Fin 4 := 1; let p : Fin 3 := 0;
     (s.Takes ini (Reg.MOV_JOB_J c p 3)) ∧ (s.fld (F.CLU_OWNER_PEND c) = 0) ∧ (8 ≤ (s.mover c).jobs.length)) ∧
    -- clause 5
    (let c : Nat := 3; let p : Nat := 2;
     (c < 4) ∧ (p < 3)) ∧
    -- clause 6
    (let s : State := movWith (movJob goodJob false 0); let c : Fin 4 := 1; let j : MovJob := movJob goodJob false 0;
     let rest : List MovJob := [];
     (s.unitsAct c = true) ∧ ((s.mover c).jobs = j :: rest) ∧ (j.running = false)) ∧
    -- clause 7
    (let s : State := lit; let c : Fin 4 := 1;
     (s.unitsAct c = false ∨ (s.mover c).jobs = [] ∨ ((s.mover c).jobs.head?.map (·.running)) = some true)) ∧
    -- clause 7
    (let s : State := movWith (movJob goodJob true 0); let c : Fin 4 := 1;
     (s.unitsAct c = false ∨ (s.mover c).jobs = [] ∨ ((s.mover c).jobs.head?.map (·.running)) = some true)) ∧
    -- clause 7
    (let s : State := State.reset; let c : Fin 4 := 1;
     (s.unitsAct c = false ∨ (s.mover c).jobs = [] ∨ ((s.mover c).jobs.head?.map (·.running)) = some true)) ∧
    -- clause 8
    (let s : State := movWith (movJob hostJob true 1); let c : Fin 4 := 1;
     let data : List Byte := List.replicate 384 7; let j : MovJob := movJob hostJob true 1;
     let rest : List MovJob := [];
     ((s.mover c).jobs = j :: rest) ∧ (j.running = true) ∧ (sideOf (jobSrc j.jw) false = .host) ∧ (j.done < j.asked) ∧
       (j.got = []) ∧ (j.ended = false) ∧ (data.length = hostRow (jobConv j.jw))) ∧
    -- clause 9
    (let s : State := movWith (movJob hostJob true 1); let c : Fin 4 := 1; let j : MovJob := movJob hostJob true 1;
     let rest : List MovJob := [];
     ((s.mover c).jobs = j :: rest) ∧ (j.running = true) ∧ (sideOf (jobSrc j.jw) false = .host) ∧ (j.done < j.asked) ∧
       (j.got = []) ∧ (j.ended = false) ∧ (s.log.length < 32)) := by
  refine ⟨?_, ?_, ?_, ?_, ?_, ?_, ?_, ?_, ?_, ?_, ?_, ?_⟩ <;> decide +kernel

theorem test_moverCommands_2 :
    -- clause 10
    (let s : State := movWith (movJob goodJob true 0); let c : Fin 4 := 1; let j : MovJob := movJob goodJob true 0;
     let rest : List MovJob := [];
     let r : State := (State.moverRows 1 2 (movJob goodJob true 0) (movWith (movJob goodJob true 0))).1;
     let k : MovJob := (State.moverRows 1 2 (movJob goodJob true 0) (movWith (movJob goodJob true 0))).2;
     (s.unitsAct c = true) ∧ ((s.mover c).jobs = j :: rest) ∧ (j.running = true) ∧ (State.moverRows c (jobRows j.jw -
       j.done + 1) j s = (r, k))) ∧
    -- clause 11
    (let s : State := movWith (movJob goodJob true 0); let c : Fin 4 := 1; let j : MovJob := movJob goodJob true 0;
     let rest : List MovJob := [];
     (s.unitsAct c = true) ∧ (s.spOn c = true) ∧ ((s.mover c).jobs = j :: rest) ∧ (j.running = true) ∧ (j.ended =
       false) ∧ (j.status = 0) ∧ (j.port ≠ 2) ∧ ((s.mover c).cpl.length < 8) ∧ (j.done + 1 = jobRows j.jw) ∧ (sideOf
       (jobSrc j.jw) false = .sp) ∧ (sideOf (jobDst j.jw) true = .sp) ∧ ((rowAt (jobSrc j.jw + j.done * 0x200)).1 = c)
       ∧ ((rowAt (jobDst j.jw + j.done * 0x200)).1 = c)) ∧
    -- clause 12
    (let s : State := lit.setTag 1 1 true; let c : Nat := 1;
     let j : MovJob := movJob { goodJob with j1 := 0x1000, j2 := 0x400 } true 0;
     (s.spOn c = true) ∧ (sideOf (jobSrc j.jw) false = .sp) ∧ (sideOf (jobDst j.jw) true = .host) ∧ ((rowAt (jobSrc
       j.jw + j.done * 0x200)).1 = c) ∧ (s.tag c (rowAt (jobSrc j.jw + j.done * 0x200)).2 = true ∨ j.iseal = true)) ∧
    -- clause 13
    (let s : State := lit; let ini : Initiator := .cc 1; let c : Fin 4 := 1;
     (s.Takes ini (Reg.MOV_CPLPOP c))) := by
  refine ⟨?_, ?_, ?_, ?_⟩ <;> decide +kernel

theorem test_dataflowCommands :
    -- clause 0
    (let s : State := lit; let ini : Initiator := .cc 1; let c : Fin 4 := 1; let p : Fin 3 := 0;
     (s.Takes ini (Reg.DFA_START c p)) ∧ (s.fld (F.CLU_OWNER_PEND c) = 0) ∧ (s.dfaDepth c < 4)) ∧
    -- clause 1
    (let s : State := lit.setFld (F.CLU_OWNER_PEND 1) 1; let ini : Initiator := .cc 1; let c : Fin 4 := 1;
     let p : Fin 3 := 0;
     (s.Takes ini (Reg.DFA_START c p)) ∧ (s.fld (F.CLU_OWNER_PEND c) = 1)) ∧
    -- clause 2
    (let s : State := dfaWith { queue := List.replicate 4 dfaSt }; let ini : Initiator := .cc 1; let c : Fin 4 := 1;
     let p : Fin 3 := 0;
     (s.Takes ini (Reg.DFA_START c p)) ∧ (s.fld (F.CLU_OWNER_PEND c) = 0) ∧ (4 ≤ s.dfaDepth c)) ∧
    -- clause 3
    (let s : State := { lit with arriving := [38] }; let c : Fin 4 := 1; let k : Fin 4 := 2;
     (s.arriving.contains (32 + 4 * (c : Nat) + k) = true) ∧ (s.domOn (domCL c) = true) ∧ (s.dfaDepth c < 4)) ∧
    -- clause 4
    (let s : State := { (dfaWith { queue := List.replicate 4 dfaSt }) with arriving := [38] }; let c : Fin 4 := 1;
     let k : Fin 4 := 2;
     (s.arriving.contains (32 + 4 * (c : Nat) + k) = true) ∧ (s.domOn (domCL c) = false ∨ 4 ≤ s.dfaDepth c)) ∧
    -- clause 4
    (let s : State := { State.reset with arriving := [38] }; let c : Fin 4 := 1; let k : Fin 4 := 2;
     (s.arriving.contains (32 + 4 * (c : Nat) + k) = true) ∧ (s.domOn (domCL c) = false ∨ 4 ≤ s.dfaDepth c)) ∧
    -- clause 5
    (let s : State := lit; let c : Fin 4 := 1; let k : Fin 4 := 2;
     (s.arriving.contains (32 + 4 * (c : Nat) + k) = false)) ∧
    -- clause 6
    (let s : State := dfaSlot.setDfa 1 { queue := [dfaSt] }; let c : Fin 4 := 1; let st : DfaStart := dfaSt;
     let rest : List DfaStart := []; let e : Nat × Nat × Bool := (0, 1, false);
     (s.unitsAct c = true) ∧ ((s.dfa c).run = none) ∧ ((s.dfa c).queue = st :: rest) ∧ ((s.setDfa c { s.dfa c with
       queue := rest }).startOk c st.slot = true) ∧ ((s.timetable c st.slot)[0]? = some e)) ∧
    -- clause 7
    (let s : State := dfaSlot.setDfa 1 { queue := [dfaSt], bad := [(0, true)] }; let c : Fin 4 := 1;
     let st : DfaStart := dfaSt; let rest : List DfaStart := [];
     (s.unitsAct c = true) ∧ ((s.dfa c).run = none) ∧ ((s.dfa c).queue = st :: rest) ∧ ((s.setDfa c { s.dfa c with
       queue := rest }).startOk c st.slot = false) ∧ (st.src ≠ 2) ∧ ((s.dfa c).cpl.length < 8)) ∧
    -- clause 8
    (let s : State := lit; let c : Fin 4 := 1;
     (s.unitsAct c = false ∨ (s.dfa c).run ≠ none ∨ (s.dfa c).queue = [])) ∧
    -- clause 8
    (let s : State := State.reset; let c : Fin 4 := 1;
     (s.unitsAct c = false ∨ (s.dfa c).run ≠ none ∨ (s.dfa c).queue = [])) ∧
    -- clause 9
    (let s : State := dfaWith { ports := [(3, { pd0 := 0, pd1 := 0x12 })] }; let c : Fin 4 := 1; let n : Fin 16 := 1;
     let p : Fin 2 := 1; let q : DfaPort := { pd0 := 0, pd1 := 0x12 };
     (s.unitsAct c = true) ∧ ((s.dfa c).writes = []) ∧ (q = (s.dfa c).port (2 * (n : Nat) + p)) ∧ (q.en = true) ∧
       (q.writes = false) ∧ (q.arrived < q.asked)) := by
  refine ⟨?_, ?_, ?_, ?_, ?_, ?_, ?_, ?_, ?_, ?_, ?_, ?_⟩ <;> decide +kernel

theorem test_dataflowCommands_2 :
    -- clause 10
    (let s : State := dfaWith { writes := [(3, 7, List.replicate 384 5)] }; let c : Fin 4 := 1; let n : Fin 16 := 1;
     let p : Fin 2 := 1; let r : Nat := 7; let bs : List Byte := List.replicate 384 5;
     (s.unitsAct c = true) ∧ (s.spOn c = true) ∧ ((s.dfa c).writes = [(2 * (n : Nat) + p, r, bs)]) ∧ (bs.length =
       384)) ∧
    -- clause 11
    (let s : State := dfaWith { ports := [(3, { pd0 := 0, pd1 := 0x18, fill := [7], pos := 1 })] }; let c : Nat := 1;
     let q : Nat := 3; let p : DfaPort := { pd0 := 0, pd1 := 0x18, fill := [7], pos := 1 };
     (p = (s.dfa c).port q) ∧ (p.fill ≠ []) ∧ (∀ j, j < 32 → ((s.dfa c).port j).en = false ∨ ((s.dfa c).port j).writes
       = true)) ∧
    -- clause 12
    (let s : State := dfaWith { run := some { dfaRun0 with ended := true }, sealedSt := true, l := [(3, 5)] };
     let c : Fin 4 := 1; let r : DfaRun := { dfaRun0 with ended := true };
     (s.unitsAct c = true) ∧ ((s.dfa c).run = some r) ∧ (r.ended = true) ∧ (r.start.src ≠ 2) ∧ ((s.dfa c).cpl.length <
       8) ∧ ((s.dfa c).writes = []) ∧ (∀ q, q < 32 → ((s.dfa c).port q).fill = [])) ∧
    -- clause 13
    (let s : State := dfaWith { run := some { dfaRun0 with ended := true }, sealedSt := true, l := [(3, 5)] };
     let c : Fin 4 := 1; let r : DfaRun := { dfaRun0 with ended := true };
     (s.unitsAct c = true) ∧ ((s.dfa c).run = some r) ∧ (r.ended = true)) ∧
    -- clause 14
    (let s : State := dfaWith { run := some dfaRun0 }; let c : Fin 4 := 1; let r : DfaRun := dfaRun0;
     ((s.dfa c).run = some r) ∧ (r.ended = false)) ∧
    -- clause 15
    (let s : State := dfaWith { run := some dfaRun0 }; let ini : Initiator := .cc 1; let c : Fin 4 := 1;
     let r : DfaRun := dfaRun0;
     (s.Takes ini (Reg.DFA_ABORT c)) ∧ ((s.dfa c).run = some r) ∧ ((s.dfa c).queue = []) ∧ (r.start.src ≠ 2) ∧ ((s.dfa
       c).cpl.length < 8)) ∧
    -- clause 16
    (let s : State := dfaWith { queue := [dfaSt] }; let ini : Initiator := .cc 1; let c : Fin 4 := 1;
     let st : DfaStart := dfaSt;
     (s.Takes ini (Reg.DFA_ABORT c)) ∧ ((s.dfa c).queue = [st]) ∧ ((s.dfa c).run = none)) ∧
    -- clause 17
    (let s : State := lit.setFld (F.DFA_LOAD0_NROWS 1) 1; let ini : Initiator := .cc 1; let c : Fin 4 := 1;
     (s.Takes ini (Reg.DFA_LOADCMD c)) ∧ ((s.dfa c).load = none) ∧ (s.fld (F.DFA_LOAD0_NROWS c) ≠ 0) ∧ (s.fld
       (F.DFA_LOAD0_SRCROW c) + s.fld (F.DFA_LOAD0_NROWS c) ≤ 4096)) ∧
    -- clause 18
    (let s : State := lit; let ini : Initiator := .cc 1; let c : Fin 4 := 1;
     (s.Takes ini (Reg.DFA_LOADCMD c)) ∧ ((s.dfa c).load = none) ∧ (s.fld (F.DFA_LOAD0_NROWS c) = 0 ∨ 4096 < s.fld
       (F.DFA_LOAD0_SRCROW c) + s.fld (F.DFA_LOAD0_NROWS c))) ∧
    -- clause 18
    (let s : State := (lit.setFld (F.DFA_LOAD0_NROWS 1) 2).setFld (F.DFA_LOAD0_SRCROW 1) 4095;
     let ini : Initiator := .cc 1; let c : Fin 4 := 1;
     (s.Takes ini (Reg.DFA_LOADCMD c)) ∧ ((s.dfa c).load = none) ∧ (s.fld (F.DFA_LOAD0_NROWS c) = 0 ∨ 4096 < s.fld
       (F.DFA_LOAD0_SRCROW c) + s.fld (F.DFA_LOAD0_NROWS c))) ∧
    -- clause 19
    (let s : State := dfaWith { load := some ⟨0, 1, 0⟩ }; let c : Fin 4 := 1; let l : DfaLoad := ⟨0, 1, 0⟩;
     (s.unitsAct c = true) ∧ ((s.dfa c).load = some l)) ∧
    -- clause 20
    (let s : State := dfaWith { load := some ⟨0, 1, 0⟩ }; let c : Fin 4 := 1; let l : DfaLoad := ⟨0, 1, 0⟩;
     (s.unitsAct c = true) ∧ ((s.dfa c).load = some l) ∧ (l.rows = 1) ∧ (l.widx + 128 ≤ 65536) ∧ (s.unitTag c l.src =
       false) ∧ ((s.dfa c).run = none) ∧ ((s.dfa c).queue = [])) := by
  refine ⟨?_, ?_, ?_, ?_, ?_, ?_, ?_, ?_, ?_, ?_, ?_, ?_⟩ <;> decide +kernel

theorem test_dataflowCommands_3 :
    -- clause 21
    (let s : State := lit.setTag 1 3 true; let c : Nat := 1; let i : Nat := 2; let l : DfaLoad := ⟨1, 4, 0⟩;
     (s.unitTag c (l.src + i) = true)) ∧
    -- clause 22
    (let s : State := lit; let ini : Initiator := .cc 1; let c : Fin 4 := 1; let i : Fin 131072 := 0x1FFFF;
     (s.Takes ini (schedBase c + 4 * i)) ∧ (schedPlace (4 * (i : Nat)) = .none)) ∧
    -- clause 23
    (let s : State := dfaWith { queue := [dfaSt] }; let ini : Initiator := .cc 1; let c : Fin 4 := 1;
     let i : Fin 131072 := 0x10400;
     (s.Takes ini (schedBase c + 4 * i)) ∧ (schedPlace (4 * (i : Nat)) ≠ .none) ∧ (s.schedInUse c (schedPlace (4 * (i
       : Nat))) = true)) ∧
    -- clause 24
    (let s : State := lit; let ini : Initiator := .cc 1; let c : Fin 4 := 1; let i : Fin 131072 := 3;
     (s.Takes ini (schedBase c + 4 * i)) ∧ (schedPlace (4 * (i : Nat)) ≠ .none) ∧ (s.schedInUse c (schedPlace (4 * (i
       : Nat))) = false)) ∧
    -- clause 24
    (let s : State := lit; let ini : Initiator := .cc 1; let c : Fin 4 := 1; let i : Fin 131072 := 0x10400;
     (s.Takes ini (schedBase c + 4 * i)) ∧ (schedPlace (4 * (i : Nat)) ≠ .none) ∧ (s.schedInUse c (schedPlace (4 * (i
       : Nat))) = false)) ∧
    -- clause 26
    (let s : State := lit; let ini : Initiator := .cc 1; let c : Fin 4 := 1;
     (s.Takes ini (Reg.DFA_CPLPOP c))) ∧
    -- clause 27
    (let s : State := lit; let ini : Initiator := .cc 1; let c : Fin 4 := 1;
     (s.Takes ini (Reg.DFA_RSTSEED c))) ∧
    -- clause 28
    (let s : State := dfaWith { cpl := List.replicate 8 ⟨0, 0, 0, 0, false, false⟩ }; let c : Nat := 1;
     let st : DfaStart := dfaSt;
     (st.src ≠ 2) ∧ (8 ≤ (s.dfa c).cpl.length)) := by
  refine ⟨?_, ?_, ?_, ?_, ?_, ?_, ?_, ?_⟩ <;> decide +kernel

theorem test_dataflowStep :
    -- clause 0
    (let s : State := dfaGoing; let c : Fin 4 := 1; let r : DfaRun := dfaRun0;
     (s.unitsAct c = true) ∧ ((s.dfa c).run = some r) ∧ (r.ended = false) ∧ (r.switching = false) ∧ (∀ n : Nat, n < 16
       → (s.dfa c).ready n (s.dfaEntry c (((((s.timetable c r.start.slot).getD r.entry (0, 1, false)).1 * 256 +
       r.step) * 16) + n)) = true)) ∧
    -- clause 1
    (let s : State := dfaStall; let c : Fin 4 := 1; let r : DfaRun := dfaRun0; let n : Nat := 1;
     (s.unitsAct c = true) ∧ ((s.dfa c).run = some r) ∧ (r.ended = false) ∧ (r.switching = false) ∧ (n < 16) ∧ ((s.dfa
       c).ready n (s.dfaEntry c (((((s.timetable c r.start.slot).getD r.entry (0, 1, false)).1 * 256 + r.step) * 16) +
       n)) = false)) ∧
    -- clause 2
    (let d : Dfa := { ports := [(2, { pd1 := 0x10 })] }; let n : Nat := 1; let p : Nat := 0;
     let e : DfaEntry := dfaFields 0x181 0;
     (p < 2) ∧ (((e.reads p || e.pops p) = true ∧ (d.port (2 * n + p)).present = false) ∨ (e.pushes p = true ∧ d.room
       (2 * n + p) = false))) ∧
    -- clause 2
    (let d : Dfa := { ports := [(2, { pd1 := 0x18 })], writes := [(2, 0, []), (2, 1, [])] }; let n : Nat := 1;
     let p : Nat := 0; let e : DfaEntry := dfaFields 0x12001 0;
     (p < 2) ∧ (((e.reads p || e.pops p) = true ∧ (d.port (2 * n + p)).present = false) ∨ (e.pushes p = true ∧ d.room
       (2 * n + p) = false))) ∧
    -- clause 3
    (let s : State := (lit.setBytes 0x061C1004 [0, 0, 0x10]).setDfa 1 { run := some { dfaRun0 with switching := true }
       };
     let c : Fin 4 := 1; let r : DfaRun := { dfaRun0 with switching := true };
     let e : Nat × Nat × Bool := (0, 1, false);
     (s.unitsAct c = true) ∧ ((s.dfa c).run = some r) ∧ (r.ended = false) ∧ (r.switching = true) ∧ ((s.timetable c
       r.start.slot)[r.entry + 1]? = some e) ∧ (∀ q, q < 32 → ((s.dfa c).port q).fill = [])) ∧
    -- clause 4
    (let s : State := lit; let c : Fin 4 := 1;
     ((s.dfa c).run = none ∨ s.unitsAct c = false)) ∧
    -- clause 4
    (let s : State := State.reset; let c : Fin 4 := 1;
     ((s.dfa c).run = none ∨ s.unitsAct c = false)) ∧
    -- clause 5
    (let s : State := dfaSteps; let c : Nat := 1; let r : DfaRun := dfaRun0;
     ((s.dfa c).run = some r) ∧ (r.step + 1 < s.roundLen c ((s.timetable c r.start.slot).getD r.entry (0, 1,
       false)).1)) ∧
    -- clause 6
    (let s : State := dfaIters; let c : Nat := 1; let r : DfaRun := dfaRun0;
     ((s.dfa c).run = some r) ∧ (s.roundLen c ((s.timetable c r.start.slot).getD r.entry (0, 1, false)).1 ≤ r.step +
       1) ∧ (r.iter + 1 < ((s.timetable c r.start.slot).getD r.entry (0, 1, false)).2.1)) ∧
    -- clause 7
    (let s : State := (lit.setBytes 0x061C1004 [0, 0, 0x10]).setDfa 1 { run := some dfaRun0 }; let c : Nat := 1;
     let r : DfaRun := dfaRun0;
     ((s.dfa c).run = some r) ∧ (s.roundLen c ((s.timetable c r.start.slot).getD r.entry (0, 1, false)).1 ≤ r.step +
       1) ∧ (((s.timetable c r.start.slot).getD r.entry (0, 1, false)).2.1 ≤ r.iter + 1) ∧ (r.entry + 1 < (s.timetable
       c r.start.slot).length)) ∧
    -- clause 8
    (let s : State := dfaGoing; let c : Nat := 1; let r : DfaRun := dfaRun0;
     ((s.dfa c).run = some r) ∧ (s.roundLen c ((s.timetable c r.start.slot).getD r.entry (0, 1, false)).1 ≤ r.step +
       1) ∧ (((s.timetable c r.start.slot).getD r.entry (0, 1, false)).2.1 ≤ r.iter + 1) ∧ ((s.timetable c
       r.start.slot).length ≤ r.entry + 1)) ∧
    -- clause 9
    (let e : DfaEntry := dfaFields 0x2 0;
     (e.sat = false)) := by
  refine ⟨?_, ?_, ?_, ?_, ?_, ?_, ?_, ?_, ?_, ?_, ?_, ?_⟩ <;> decide +kernel

theorem test_dataflowStep_2 :
    -- clause 10
    (let e : DfaEntry := dfaFields 0x800002 0; let a : Word := 0x7FFFFF; let b : Word := 1;
     (e.op = 0x02) ∧ (e.sat = true) ∧ (8388607 < a.toInt + b.toInt)) := by
  decide +kernel

theorem test_coreIntegers :
    -- addi
    (core53.coreRuns (1 : Fin 5) = true) ∧
    -- andi
    (core53.coreRuns (1 : Fin 5) = true) ∧
    -- ori
    (core53.coreRuns (1 : Fin 5) = true) ∧
    -- xori
    (core53.coreRuns (1 : Fin 5) = true) ∧
    -- tlti
    (core53.coreRuns (1 : Fin 5) = true) ∧
    -- lih
    (core53.coreRuns (1 : Fin 5) = true) ∧
    -- shi
    (core53.coreRuns (1 : Fin 5) = true) ∧
    -- shi_illegal
    ((core53.coreRuns (1 : Fin 5) = true) ∧ (23 < (0x018 : BitVec 10).toNat % 32 ∨ (0x018 : BitVec 10).toNat / 32 % 8
    ≠ 0 ∨ (0x018 : BitVec 10).toNat / 256 = 3)) ∧
    -- alu
    ((core53.coreRuns (1 : Fin 5) = true) ∧ (Machine.alu (1 : Fin 64) ((core53.core (1 : Fin 5)).reg (1 : Fin 16))
    ((core53.core (1 : Fin 5)).reg (2 : Fin 16)) (2 : Fin 16) = some ((8 : Word), false))) ∧
    -- alu_saturated
    ((core53.coreRuns (1 : Fin 5) = true) ∧ (Machine.alu (0x15 : Fin 64) ((core53.core (1 : Fin 5)).reg (1 : Fin 16))
    ((core53.core (1 : Fin 5)).reg (0 : Fin 16)) (0 : Fin 16) = some ((0xFFFFFF : Word), true))) ∧
    -- alu_illegal
    ((core53.coreRuns (1 : Fin 5) = true) ∧ ((24 : Fin 64) ∈ [14, 15, 19] ∨ 26 < ((24 : Fin 64) : Nat) ∨ (23 < ((24 :
    Fin 64) : Nat) ∧ (2 : Fin 16) ≠ 0))) ∧
    -- retired
    (((core53.core 1 : CoreSt).stepping = false) ∧ ((core53.core 1 : CoreSt).haltWait = false)) := by
  refine ⟨?_, ?_, ?_, ?_, ?_, ?_, ?_, ?_, ?_, ?_, ?_, ?_⟩ <;> decide +kernel

theorem test_aluResults :
    -- div
    (((2 : Word) ≠ 0) ∧ (¬((0xFFFFF9 : Word) = 0x800000 ∧ (2 : Word) = 0xFFFFFF))) ∧
    -- divu
    ((2 : Word) ≠ 0) ∧
    -- rmd
    ((2 : Word) ≠ 0) ∧
    -- rmdu
    ((2 : Word) ≠ 0) ∧
    -- clz
    (((15 : Nat) ≤ 24) ∧ ((0x000100 : Word).toNat < 2 ^ (24 - (15 : Nat))) ∧ ((15 : Nat) = 24 ∨ 2 ^ (23 - (15 : Nat))
    ≤ (0x000100 : Word).toNat)) ∧
    -- cls
    (((15 : Nat) ≤ 23) ∧ (-(2 ^ (23 - (15 : Nat))) ≤ (0xFFFF00 : Word).toInt) ∧ ((0xFFFF00 : Word).toInt < 2 ^ (23 -
    (15 : Nat))) ∧ ((15 : Nat) = 23 ∨ (0xFFFF00 : Word).toInt < -(2 ^ (22 - (15 : Nat))) ∨ 2 ^ (22 - (15 : Nat)) ≤
    (0xFFFF00 : Word).toInt)) := by
  refine ⟨?_, ?_, ?_, ?_, ?_, ?_⟩ <;> decide +kernel

theorem test_coreBranches :
    -- cb
    (core53.coreRuns (1 : Fin 5) = true) ∧
    -- cz
    (core53.coreRuns (1 : Fin 5) = true) ∧
    -- call
    (core53.coreRuns (1 : Fin 5) = true) ∧
    -- callr
    (core53.coreRuns (1 : Fin 5) = true) := by
  refine ⟨?_, ?_, ?_, ?_⟩ <;> decide +kernel

theorem test_coreFixedPoint :
    -- qmul
    ((coreQ.coreRuns (1 : Fin 5) = true) ∧ (qShift (3 : Fin 8) = some (15 : Nat))) ∧
    -- qmul_illegal
    ((coreQ.coreRuns (1 : Fin 5) = true) ∧ (4 < ((5 : Fin 8) : Nat))) ∧
    -- qadd_illegal
    ((coreQ.coreRuns (1 : Fin 5) = true) ∧ ((0 : Fin 4) ≠ 0 ∨ 3 < ((2 : Fin 8) : Nat) ∨ (1 < ((2 : Fin 8) : Nat) ∧ (2
    : Fin 16) ≠ 0))) ∧
    -- qsh
    (coreQ.coreRuns (1 : Fin 5) = true) ∧
    -- qsh_illegal
    ((coreQ.coreRuns (1 : Fin 5) = true) ∧ (1 < ((1 : Fin 8) : Nat) ∨ ((1 : Fin 8) = 1 ∧ (2 : Fin 4) ≠ 0))) ∧
    -- mac_illegal
    ((coreQ.coreRuns (1 : Fin 5) = true) ∧ ((2 : Fin 4) ≠ 0 ∨ 7 < ((3 : Fin 16) : Nat) ∨ 1 < ((1 : Fin 8) : Nat))) ∧
    -- accx
    ((coreQ.coreRuns (1 : Fin 5) = true) ∧ (((1 : Fin 16) : Nat) < 2) ∧ (if (5 : Fin 8) = 5 then (0 : Nat) = min
    (((coreQ.core (1 : Fin 5)).reg (2 : Fin 16)).toNat % 64) 47 else ((2 : Fin 16) = 0 ∧ qShift (5 : Fin 8) = some (0
    : Nat)))) ∧
    -- accx_illegal
    ((coreQ.coreRuns (1 : Fin 5) = true) ∧ (1 < ((1 : Fin 16) : Nat) ∨ 5 < ((1 : Fin 8) : Nat) ∨ ((1 : Fin 8) ≠ 5 ∧ (2
    : Fin 16) ≠ 0))) ∧
    -- acc
    ((core53.coreRuns (1 : Fin 5) = true) ∧ (((1 : Fin 16) : Nat) < 2) ∧ (accFn (0 : Fin 64) (1 : Fin 16) (3 : Fin 16)
    (0 : Fin 16) (core53.core (1 : Fin 5)) = some ((core53.core 1).setReg 3 0 : CoreSt))) ∧
    -- acc_functions
    (((1 : Fin 16) : Nat) < 2) ∧
    -- acc_illegal
    ((core53.coreRuns (1 : Fin 5) = true) ∧ (1 < ((1 : Fin 16) : Nat) ∨ 9 < ((0 : Fin 64) : Nat) ∨ (((0 : Fin 64) :
    Nat) ≤ 2 ∧ (1 : Fin 16) ≠ 0) ∨ (3 ≤ ((0 : Fin 64) : Nat) ∧ (3 : Fin 16) ≠ 0) ∨ (6 ≤ ((0 : Fin 64) : Nat) ∧ ((0 :
    Fin 64) : Nat) ≤ 8 ∧ (1 : Fin 16) ≠ 0))) ∧
    -- hop
    ((core53.coreRuns (1 : Fin 5) = true) ∧ (hopFn (3 : Fin 8) (2 : Fin 16) (0 : Fin 4) false ((core53.core (1 : Fin
    5)).reg (1 : Fin 16)) ((core53.core (1 : Fin 5)).reg (2 : Fin 16)) (core53.core (1 : Fin 5)) = some ((0xFFD005,
    core53.core 1) : Word × CoreSt))) ∧
    -- hop_illegal
    ((core53.coreRuns (1 : Fin 5) = true) ∧ (5 < ((5 : Fin 8) : Nat) ∨ ((5 : Fin 8) ≠ 2 ∧ (0 : Fin 4) ≠ 0) ∨ (3 ≤ ((5
    : Fin 8) : Nat) ∧ false = true) ∨ (4 ≤ ((5 : Fin 8) : Nat) ∧ (2 : Fin 16) ≠ 0))) := by
  refine ⟨?_, ?_, ?_, ?_, ?_, ?_, ?_, ?_, ?_, ?_, ?_, ?_, ?_⟩ <;> decide +kernel

theorem test_coreCsrAndSystem :
    -- csrr
    ((core53.coreRuns (1 : Fin 5) = true) ∧ (csrListed (0x010 : BitVec 10).toNat = true)) ∧
    -- csrw
    ((core53.coreRuns (1 : Fin 5) = true) ∧ (csrListed (0x004 : BitVec 10).toNat = true) ∧ ((core53.core (1 : Fin
    5)).sealedSt = false)) ∧
    -- csrset
    ((core53.coreRuns (1 : Fin 5) = true) ∧ (csrListed (0x004 : BitVec 10).toNat = true) ∧ ((core53.core (1 : Fin
    5)).sealedSt = false)) ∧
    -- csrclr
    ((core53.coreRuns (1 : Fin 5) = true) ∧ (csrListed (0x004 : BitVec 10).toNat = true) ∧ ((core53.core (1 : Fin
    5)).sealedSt = false)) ∧
    -- csr_sealed
    ((coreSealed.coreRuns (1 : Fin 5) = true) ∧ (csrListed (0x004 : BitVec 10).toNat = true) ∧ ((coreSealed.core (1 :
    Fin 5)).sealedSt = true) ∧ ((.csrset 1 3 1 0x004 : Instr) = .csrw (1 : Fin 5) (3 : Fin 16) (1 : Fin 16) (0x004 :
    BitVec 10) ∨ (.csrset 1 3 1 0x004 : Instr) = .csrset (1 : Fin 5) (3 : Fin 16) (1 : Fin 16) (0x004 : BitVec 10) ∨
    (.csrset 1 3 1 0x004 : Instr) = .csrclr (1 : Fin 5) (3 : Fin 16) (1 : Fin 16) (0x004 : BitVec 10))) ∧
    -- csr_illegal
    ((coreSealed.coreRuns (1 : Fin 5) = true) ∧ ((.csrset 1 3 1 0x006 : Instr) = .csrr (1 : Fin 5) (3 : Fin 16) (1 :
    Fin 16) (0x006 : BitVec 10) ∧ (csrListed (0x006 : BitVec 10).toNat = false ∨ (1 : Fin 16) ≠ 0) ∨ csrListed (0x006
    : BitVec 10).toNat = false ∧ ((.csrset 1 3 1 0x006 : Instr) = .csrw (1 : Fin 5) (3 : Fin 16) (1 : Fin 16) (0x006 :
    BitVec 10) ∨ (.csrset 1 3 1 0x006 : Instr) = .csrset (1 : Fin 5) (3 : Fin 16) (1 : Fin 16) (0x006 : BitVec 10) ∨
    (.csrset 1 3 1 0x006 : Instr) = .csrclr (1 : Fin 5) (3 : Fin 16) (1 : Fin 16) (0x006 : BitVec 10)))) ∧
    -- nop
    (core53.coreRuns (1 : Fin 5) = true) ∧
    -- tend
    ((core53.coreRuns (1 : Fin 5) = true) ∧ ((core53.core (1 : Fin 5)).stores = []) ∧ ((core53.core (1 : Fin
    5)).sealedSt = false)) ∧
    -- tend_sealed
    ((coreSealed.coreRuns (1 : Fin 5) = true) ∧ ((coreSealed.core (1 : Fin 5)).stores = []) ∧ ((coreSealed.core (1 :
    Fin 5)).sealedSt = true)) ∧
    -- park
    ((core53.coreRuns (1 : Fin 5) = true) ∧ ((core53.core (1 : Fin 5)).stores = [])) ∧
    -- xback
    ((coreInx.coreRuns (1 : Fin 5) = true) ∧ ((coreInx.core (1 : Fin 5)).inx = true)) ∧
    -- xback_illegal
    ((core53.coreRuns (1 : Fin 5) = true) ∧ ((core53.core (1 : Fin 5)).inx = false)) ∧
    -- drain
    ((core53.coreRuns (1 : Fin 5) = true) ∧ ((core53.core (1 : Fin 5)).stores = [])) ∧
    -- waits_for_stores
    (((coreWith { (lit.core 1) with stores := [⟨true, 0, 3, 5, false⟩] } : State).core (1 : Fin 5)).stores ≠ []) ∧
    -- brk
    ((core53.coreRuns (1 : Fin 5) = true) ∧ (core53.fbit F.DBG_BRKEN_EN (1 : Fin 5) = false ∨ core53.debugOn = false)) ∧
    -- brk_halts
    (((core53.setFld F.DBG_BRKEN_EN 31 : State).coreRuns (1 : Fin 5) = true) ∧ ((core53.setFld F.DBG_BRKEN_EN 31 :
    State).fbit F.DBG_BRKEN_EN (1 : Fin 5) = true) ∧ ((core53.setFld F.DBG_BRKEN_EN 31 : State).debugOn = true) ∧
    (((core53.setFld F.DBG_BRKEN_EN 31 : State).core (1 : Fin 5)).stores = []) ∧ (((core53.setFld F.DBG_BRKEN_EN 31 :
    State).core (1 : Fin 5)).sealedSt = false)) ∧
    -- illegalInstruction
    ((core53.coreRuns (1 : Fin 5) = true) ∧ ((0xF80000 : Word).toNat / 2 ^ 18 ∈ [0x0A, 0x0F, 0x1E, 0x1F, 0x27, 0x2F,
    0x34, 0x3E])) ∧
    -- illegal_erased
    (core53.coreRuns (1 : Fin 5) = true) ∧
    -- raise
    (((core53.core (1 : Nat)).sealedSt = false) ∧ ((core53.core (1 : Nat)).inx = false)) ∧
    -- raise_sealed
    (((coreSealed.core (1 : Nat)).sealedSt = true) ∧ ((coreSealed.core (1 : Nat)).stores = [])) ∧
    -- raise_double
    (((coreInx.core (1 : Nat)).sealedSt = false) ∧ ((coreInx.core (1 : Nat)).inx = true) ∧ ((1 : Nat) < 16)) ∧
    -- idle
    (lit.coreRuns (1 : Fin 5) = false) := by
  refine ⟨?_, ?_, ?_, ?_, ?_, ?_, ?_, ?_, ?_, ?_, ?_, ?_, ?_, ?_, ?_, ?_, ?_, ?_, ?_, ?_, ?_, ?_⟩ <;> decide +kernel

theorem test_coreMemory :
    -- ld_own
    ((core53.coreRuns (1 : Fin 5) = true) ∧ ((core53.core (1 : Fin 5)).stores = []) ∧ (((core53.core (1 : Fin
    5)).wordAddr (1 : Fin 16) (2 : BitVec 10)) < 32768)) ∧
    -- ld_unit
    (((coreWith (((lit.core 1).setReg 1 0x100000).setCsr 0x021 0x14081) : State).coreRuns (1 : Fin 5) = true) ∧
    (((coreWith (((lit.core 1).setReg 1 0x100000).setCsr 0x021 0x14081) : State).core (1 : Fin 5)).stores = []) ∧
    (((coreWith (((lit.core 1).setReg 1 0x100000).setCsr 0x021 0x14081) : State).core (1 : Fin 5)).reach (((coreWith
    (((lit.core 1).setReg 1 0x100000).setCsr 0x021 0x14081) : State).core (1 : Fin 5)).wordAddr (1 : Fin 16) (2 :
    BitVec 10)) = some (.unit (0x05020008 : Nat) (4 : Nat))) ∧ (route (1 : Fin 5) (0x05020008 : Nat) = .map)) ∧
    -- ld_waits
    (((coreStore.core (1 : Fin 5)).stores ≠ []) ∧ ((coreStore.core (1 : Fin 5)).reach ((coreStore.core (1 : Fin
    5)).wordAddr (0 : Fin 16) (2 : BitVec 10)) = some (.own 2 : Reach))) ∧
    -- st
    ((core53.coreRuns (1 : Fin 5) = true) ∧ ((core53.core (1 : Fin 5)).stores.length < 4) ∧ ((core53.core (1 : Fin
    5)).reach ((core53.core (1 : Fin 5)).wordAddr (1 : Fin 16) (2 : BitVec 10)) = some (if (⟨true, 7, 3, 5, false⟩ :
    Store).own then .own (⟨true, 7, 3, 5, false⟩ : Store).addr else .unit (⟨true, 7, 3, 5, false⟩ : Store).addr
    (⟨true, 7, 3, 5, false⟩ : Store).width)) ∧ ((⟨true, 7, 3, 5, false⟩ : Store).own = true → (⟨true, 7, 3, 5, false⟩
    : Store).width = 3) ∧ ((⟨true, 7, 3, 5, false⟩ : Store).v = (core53.core (1 : Fin 5)).reg (1 : Fin 16)) ∧ ((⟨true,
    7, 3, 5, false⟩ : Store).sealedSt = (core53.core (1 : Fin 5)).sealedSt)) ∧
    -- st_waits
    ((4 ≤ ((coreWith { (lit.core 1) with stores := List.replicate 4 ⟨true, 5, 3, 0x123456, true⟩ } : State).core (1 :
    Fin 5)).stores.length) ∧ (((coreWith { (lit.core 1) with stores := List.replicate 4 ⟨true, 5, 3, 0x123456, true⟩ }
    : State).core (1 : Fin 5)).reach (((coreWith
    { (lit.core 1) with stores := List.replicate 4 ⟨true, 5, 3, 0x123456, true⟩ } : State).core (1 : Fin 5)).wordAddr
    (0 : Fin 16) (2 : BitVec 10)) = some (.own 2 : Reach))) ∧
    -- window_fault
    ((core53.coreRuns (1 : Fin 5) = true) ∧ ((core53.core (1 : Fin 5)).reach ((core53.core (1 : Fin 5)).wordAddr (2 :
    Fin 16) (0 : BitVec 10)) = none)) ∧
    -- reach
    ((0x100000 : Nat) < 2 ^ 24) ∧
    -- accept_own
    ((coreStore.stopped = false) ∧ (coreStore.domOn (coreDom (1 : Fin 5)) = true) ∧ ((coreStore.core (1 : Fin
    5)).stores = (⟨true, 5, 3, 0x123456, true⟩ : Store) :: ([] : List Store)) ∧ ((⟨true, 5, 3, 0x123456, true⟩ :
    Store).own = true)) ∧
    -- accept_unit
    ((coreStore.stopped = false) ∧ (coreStore.domOn (coreDom (1 : Fin 5)) = true) ∧ ((coreStore.core (1 : Fin
    5)).stores = (⟨true, 5, 3, 0x123456, true⟩ : Store) :: ([] : List Store)) ∧ ((coreStore.setCore (1 : Fin 5)
    { coreStore.core (1 : Fin 5) with stores := ([] : List Store) }).performStore (1 : Fin 5) (⟨true, 5, 3, 0x123456,
    true⟩ : Store) = some (((coreStore.setCore 1 { coreStore.core 1 with stores := [] }).performStore 1 ⟨true, 5, 3,
    0x123456, true⟩).getD lit : State))) ∧
    -- accept_none
    ((lit.core (1 : Fin 5)).stores = []) := by
  refine ⟨?_, ?_, ?_, ?_, ?_, ?_, ?_, ?_, ?_, ?_⟩ <;> decide +kernel

theorem test_coreTasks :
    -- start
    ((coreIdle.domOn (coreDom (1 : Fin 5)) = true) ∧ (coreIdle.weather = .run) ∧ ((coreIdle.core (1 : Fin 5)).run =
    .idle) ∧ ((coreIdle.core (1 : Fin 5)).haltWait = false) ∧ (coreIdle.startsOf (1 : Fin 5) = (1 : Nat) :: ([3] :
    List Nat))) ∧
    -- start_lowest
    (coreIdle.startsOf (1 : Nat) = (1 : Nat) :: ([3] : List Nat)) ∧
    -- start_none
    (lit.startsOf (1 : Fin 5) = []) ∧
    -- start_busy
    ((({ core53 with arriving := [7, 5] } : State).domOn (coreDom (1 : Fin 5)) = true) ∧
    (({ core53 with arriving := [7, 5] } : State).weather = .run) ∧ ((({ core53 with arriving := [7, 5] } :
    State).core (1 : Fin 5)).run ≠ .idle) ∧ (({ core53 with arriving := [7, 5] } : State).startsOf (1 : Fin 5) = (1 :
    Nat) :: ([3] : List Nat))) ∧
    -- wake_running
    ((({ core53 with arriving := [21] } : State).domOn (coreDom (1 : Fin 5)) = true) ∧
    (({ core53 with arriving := [21] } : State).weather = .run) ∧ (({ core53 with arriving := [21] } :
    State).arriving.contains (20 + (1 : Fin 5)) = true) ∧ ((({ core53 with arriving := [21] } : State).core (1 : Fin
    5)).run ≠ .wait)) ∧
    -- wake_waiting
    ((coreParked.domOn (coreDom (1 : Fin 5)) = true) ∧ (coreParked.weather = .run) ∧ (coreParked.arriving.contains (20
    + (1 : Fin 5)) = true) ∧ ((coreParked.core (1 : Fin 5)).run = .wait)) ∧
    -- wake_hailed
    ((coreHailed.domOn (coreDom (1 : Fin 5)) = true) ∧ (coreHailed.weather = .run) ∧ (coreHailed.arriving.contains (20
    + ((1 : Fin 5) : Nat)) = false) ∧ ((coreHailed.core (1 : Fin 5)).run = .wait) ∧
    ((coreHailed.core (1 : Fin 5)).hail = true)) ∧
    -- hailed
    (((coreHailed.core (1 : Fin 5)).run = .wait) ∧
    ((coreHailed.setFld (F.EVF_TASK_DROP 5) 1).fld (F.EVF_TASK_DROP (4 * ((1 : Fin 5) : Nat) + ((1 : Fin 4) : Nat))) =
    1)) ∧
    -- wipe_end
    (((coreWiping.core (1 : Fin 5)).run = .wipe) ∧ ((coreWiping.core (1 : Fin 5)).stores = [])) ∧
    -- wipe_memory
    ((coreWiping.Inv) ∧ ((1 : Nat) < 5)) ∧
    -- wipe_early
    ((core53.core (1 : Fin 5)).run ≠ .wipe ∨ (core53.core (1 : Fin 5)).stores ≠ []) := by
  refine ⟨?_, ?_, ?_, ?_, ?_, ?_, ?_, ?_, ?_, ?_, ?_⟩ <;> decide +kernel

theorem test_fixedPointSums :
    -- qadd
    (coreQ.coreRuns (1 : Fin 5) = true) ∧
    -- fit_in
    (false = false ∨ (-(2 ^ 23) ≤ (8388608 : Int) ∧ (8388608 : Int) ≤ 2 ^ 23 - 1)) ∧
    -- fit_high
    (2 ^ 23 - 1 < (8388608 : Int)) ∧
    -- fit_low
    ((-8388609 : Int) < -(2 ^ 23)) := by
  refine ⟨?_, ?_, ?_, ?_⟩ <;> decide +kernel

theorem test_multiplyAccumulate :
    -- mac
    ((core53.coreRuns (1 : Fin 5) = true) ∧ (macProd (0 : Fin 8) ((core53.core (1 : Fin 5)).reg (1 : Fin 16))
    ((core53.core (1 : Fin 5)).reg (2 : Fin 16)) = some (-15 : Int)) ∧ (((2 : Fin 16) : Nat) < 8)) ∧
    -- clamps
    (2 ^ 55 - 1 < (2 ^ 55 : Int)) ∧
    -- clamps_low
    ((-(2 ^ 55) - 1 : Int) < -(2 ^ 55)) := by
  refine ⟨?_, ?_, ?_⟩ <;> decide +kernel

theorem test_queueCommands :
    -- clause 0
    (let s : State := queueWith (cmdOf 0 []); let q : Fin 64 := 5; let n : Nat := 0; let x : QCmd := cmdOf 0 [];
     (s.Turn q n x) ∧ (x.opc = 0)) ∧
    -- clause 1
    (let s : State := waitState.signalFence 7 1 0; let q : Fin 64 := 5; let n : Nat := 0; let x : QCmd := waitCmd;
     (s.Turn q n x) ∧ (x.opc = 8) ∧ (s.handleOk x.waitOn = true) ∧ (s.fenceState (handleIdx x.waitOn) = 2)) ∧
    -- clause 2
    (let s : State := waitState; let q : Fin 64 := 5; let n : Nat := 0; let x : QCmd := waitCmd;
     (s.Turn q n x) ∧ (x.opc = 8) ∧ (s.handleOk x.waitOn = true) ∧ (s.fenceState (handleIdx x.waitOn) = 1)) ∧
    -- clause 3
    (let s : State := queueWith waitCmd; let q : Fin 64 := 5; let n : Nat := 0; let x : QCmd := waitCmd;
     (s.Turn q n x) ∧ (x.opc = 8) ∧ (s.handleOk x.waitOn = false)) ∧
    -- clause 4
    (let s : State := queueWith (cmdOf 1 [7]); let q : Fin 64 := 5; let n : Nat := 0; let x : QCmd := cmdOf 1 [7];
     (s.Turn q n x) ∧ (x.opc = 1) ∧ (s.domOn (domCL x.cl) = true) ∧ (s.inClReset x.cl = false) ∧ (s.tallyFull x.cl =
       false) ∧ (wsOk (wordSetOf (x.raw.drop (if x.qf2 then 16 else 9))) = true)) := by
  refine ⟨?_, ?_, ?_, ?_, ?_⟩ <;> decide +kernel

theorem test_queueCommands_2 :
    -- clause 5
    (let s : State := (queueWith (cmdOf 2 [0, 0, 1, 0])).setBytes 0 [7]; let q : Fin 64 := 5; let n : Nat := 0;
     let x : QCmd := cmdOf 2 [0, 0, 1, 0];
     (s.Turn q n x) ∧ (x.opc = 2) ∧ (x.pay 2 2 = 1) ∧ (s.domOn (domCL x.cl) = true) ∧ (s.inClReset x.cl = false) ∧
       (s.unitTag x.cl (x.pay 0 2) = false) ∧ (s.tallyFull x.cl = false) ∧ (wsOk (wordSetOf (s.unitRow x.cl (x.pay 0
       2))) = true)) ∧
    -- clause 6
    (let s : State := (queueWith (cmdOf 2 [0, 0, 1, 0])).setTag 0 0 true; let q : Fin 64 := 5; let n : Nat := 0;
     let x : QCmd := cmdOf 2 [0, 0, 1, 0];
     (s.Turn q n x) ∧ (x.opc = 2) ∧ (1 ≤ x.pay 2 2) ∧ (s.unitTag x.cl (x.pay 0 2) = true)) ∧
    -- clause 7
    (let s : State := queueWith (cmdOf 3 [0, 0, 0, 0, 0, 0, 0, 0, 0, 1, 0, 0]); let q : Fin 64 := 5; let n : Nat := 0;
     let x : QCmd := cmdOf 3 [0, 0, 0, 0, 0, 0, 0, 0, 0, 1, 0, 0];
     (s.Turn q n x) ∧ (x.opc = 3) ∧ (x.moveRows ≤ 256) ∧ (s.domOn (domCL x.cl) = true) ∧ (s.inClReset x.cl = false) ∧
       (s.moverFull x.cl = false) ∧ (jobOk x.job = true)) ∧
    -- clause 8
    (let s : State := queueWith (cmdOf 4 [0, 0]); let q : Fin 64 := 5; let n : Nat := 0;
     let x : QCmd := cmdOf 4 [0, 0];
     (s.Turn q n x) ∧ (x.opc = 4) ∧ (s.admitted x.cl (x.pay 0 1) = true) ∧ (s.domOn (domCL x.cl) = true) ∧
       (s.inClReset x.cl = false) ∧ (s.dfaDepth x.cl < 4) ∧ (x.pay 0 1 < 4)) ∧
    -- clause 9
    (let s : State := ((queueWith (cmdOf 4 [0, 0])).setBytes 0x060C1000 [0xF8, 0xFF, 0x17]).setBytes 0x060C0000
       [0xFF];
     let q : Fin 64 := 5; let n : Nat := 0; let x : QCmd := cmdOf 4 [0, 0];
     (s.Turn q n x) ∧ (x.opc = 4) ∧ (s.admitted x.cl (x.pay 0 1) = false)) := by
  refine ⟨?_, ?_, ?_, ?_, ?_⟩ <;> decide +kernel

theorem test_queueCommands_3 :
    -- clause 10
    (let s : State := lit;
     (s.coreOnPll = false)) ∧
    -- clause 11
    (let s : State := queueWith (cmdOf 5 [0, 0, 0, 0, 0, 1, 0, 0x3F, 0, 1, 0]); let q : Fin 64 := 5; let n : Nat := 0;
     let x : QCmd := cmdOf 5 [0, 0, 0, 0, 0, 1, 0, 0x3F, 0, 1, 0];
     (s.Turn q n x) ∧ (x.opc = 5) ∧ (s.domOn (domTQ x.tile) = true) ∧ (x.tile < 32) ∧ (x.pay 1 2 + srcRows (x.pay 5 2)
       ≤ 4096) ∧ (1 ≤ x.pay 5 2) ∧ (x.pay 3 2 + x.pay 5 2 ≤ 768) ∧ (1 ≤ x.pay 7 1) ∧ (x.pay 7 1 < 64) ∧ (x.pay 8 1 <
       8) ∧ ((s.tile x.tile).genValid = false ∨ x.pay 9 2 ≠ (s.tile x.tile).gen)) ∧
    -- clause 12
    (let s : State := queueWith (cmdOf 6 [0]); let q : Fin 64 := 5; let n : Nat := 0; let x : QCmd := cmdOf 6 [0];
     (s.Turn q n x) ∧ (x.opc = 6) ∧ (s.domOn (domTQ x.tile) = true) ∧ (x.tile < 32)) ∧
    -- clause 13
    (let s : State := queueWith (cmdOf 7 [0, 0, 0, 1]); let q : Fin 64 := 5; let n : Nat := 0;
     let x : QCmd := cmdOf 7 [0, 0, 0, 1];
     (s.Turn q n x) ∧ (x.opc = 7) ∧ (x.tile < 32) ∧ (x.pay 1 2 < 1024) ∧ (x.pay 3 2 < 1024) ∧ (x.pay 5 1 < 64)) ∧
    -- clause 14
    (let s : State := queueWith staleCmd; let q : Fin 64 := 5; let n : Nat := 0; let x : QCmd := staleCmd;
     let h : Nat := 0x1009; let c : Instr := .wset 5;
     (s.NextCmd q n x) ∧ (x.waitf = some h) ∧ (s.handleOk h = false) ∧ (([Instr.queNop q, .wset q, .wslist q, .move q,
       .timetable q, .tpgm q, .twipe q, .trefresh q, .wait q] : List Instr)[x.opc]? = some c)) := by
  refine ⟨?_, ?_, ?_, ?_, ?_⟩ <;> decide +kernel

theorem test_queueCommands_4 :
    -- clause 15
    (let s : State := (queueWith depCmd).fenceAlloc 7 |>.signalFence 7 9 0; let q : Fin 64 := 5; let n : Nat := 0;
     let x : QCmd := depCmd; let h : Nat := 0x1007; let c : Instr := .queNop 5;
     (s.NextCmd q n x) ∧ (x.waitf = some h) ∧ (s.handleOk h = true) ∧ (x.flagAt 4 = true) ∧ (s.fld
       (F.QUE_FSTATE_STATUS (handleIdx h)) ≠ 1) ∧ (([Instr.queNop q, .wset q, .wslist q, .move q, .timetable q, .tpgm
       q, .twipe q, .trefresh q, .wait q] : List Instr)[x.opc]? = some c)) ∧
    -- clause 16
    (let s : State := (queueWith (cmdOf 6 [0])).setHealthM 32 2; let q : Fin 64 := 5; let n : Nat := 0;
     let x : QCmd := cmdOf 6 [0]; let c : Instr := .twipe 5;
     (s.NextCmd q n x) ∧ (x.waitf = none) ∧ (x.hasUnit = true) ∧ (s.ownsCl x = true) ∧ (s.fenced (32 + x.cl) = true) ∧
       (([Instr.queNop q, .wset q, .wslist q, .move q, .timetable q, .tpgm q, .twipe q, .trefresh q, .wait q] : List
       Instr)[x.opc]? = some c)) ∧
    -- clause 17
    (let s : State := (queueWith (cmdOf 6 [0])).setFld (F.CLU_OWNER_CTX 0) 3; let q : Fin 64 := 5; let n : Nat := 0;
     let x : QCmd := cmdOf 6 [0]; let c : Instr := .twipe 5;
     (s.NextCmd q n x) ∧ (x.waitf = none) ∧ (x.hasUnit = true) ∧ (s.ownsCl x = false) ∧ (([Instr.queNop q, .wset q,
       .wslist q, .move q, .timetable q, .tpgm q, .twipe q, .trefresh q, .wait q] : List Instr)[x.opc]? = some c)) ∧
    -- clause 18
    (let s : State := lit; let q : Fin 64 := 5; let i : Nat := 8; let c : Instr := .wait 5;
     (s.nextQueue ≠ some (q : Nat)) ∧ (([Instr.queNop q, .wset q, .wslist q, .move q, .timetable q, .tpgm q, .twipe q,
       .trefresh q, .wait q] : List Instr)[i]? = some c)) ∧
    -- clause 19
    (let s : State := queueWith { cmdOf 6 [0] with phase := 2, limit := 1 }; let q : Nat := 5; let n : Nat := 0;
     let x : QCmd := { cmdOf 6 [0] with phase := 2, limit := 1 };
     ((s.queue q).cmds[n]? = some x) ∧ (x.phase = 2) ∧ (x.status = 1) ∧ (x.issued < x.limit) ∧ (x.issued < x.total) ∧
       (x.opc ≠ 2) ∧ (s.unitRoom x = true)) := by
  refine ⟨?_, ?_, ?_, ?_, ?_⟩ <;> decide +kernel

theorem test_queueCommands_5 :
    -- clause 20
    (let s : State := queueWith (cmdOf 6 [0]); let q : Nat := 5; let n : Nat := 0; let x : QCmd := cmdOf 6 [0];
     ((s.queue q).cmds[n]? = some x) ∧ (x.phase ≠ 2 ∨ x.status ≠ 1 ∨ x.limit ≤ x.issued ∨ x.total ≤ x.issued)) := by
  decide +kernel

theorem test_queueProgress :
    -- clause 0
    (let s : State := hostUp.setFld (F.QUE_QSTATE_STATE 5) 1; let ini : Initiator := .pcie; let q : Fin 64 := 5;
     (s.Takes ini (Reg.DB_TAIL q)) ∧ (s.qstate q = 1 ∨ s.qstate q = 2)) ∧
    -- clause 1
    (let s : State := hostUp; let ini : Initiator := .pcie; let q : Fin 64 := 5;
     (s.Takes ini (Reg.DB_TAIL q)) ∧ (s.qstate q ≠ 1) ∧ (s.qstate q ≠ 2)) ∧
    -- clause 2
    (let s : State := (doorUp.setFld (F.QUE_QPTR_TAIL 5) 1).setFld (F.QUE_QCFG_RINGLOG2 5) 3; let q : Fin 64 := 5;
     let data : List Byte := List.replicate 32 0;
     (s.qstate q = 1) ∧ (s.fld (F.QUE_QPTR_HEAD q) ≠ s.fld (F.QUE_QPTR_TAIL q)) ∧ (((s.queue q).cmds.filter fun x =>
       decide (x.phase < 2)).length < 2) ∧ (s.fld (F.QUE_QCFG_RINGLOC q) = 0) ∧ (data.length = s.descLen q)) ∧
    -- clause 3
    (let s : State := (doorUp.setFld (F.QUE_QPTR_TAIL 5) 1).setFld (F.QUE_QCFG_RINGLOG2 5) 3; let q : Fin 64 := 5;
     (s.qstate q = 1) ∧ (s.fld (F.QUE_QPTR_HEAD q) ≠ s.fld (F.QUE_QPTR_TAIL q)) ∧ (((s.queue q).cmds.filter fun x =>
       decide (x.phase < 2)).length < 2) ∧ (s.fld (F.QUE_QCFG_RINGLOC q) = 0)) ∧
    -- clause 4
    (let s : State := ((doorUp.setFld (F.QUE_QPTR_TAIL 5) 1).setFld (F.QUE_QCFG_RINGLOC 5) 1); let q : Fin 64 := 5;
     (s.qstate q = 1) ∧ (s.fld (F.QUE_QPTR_HEAD q) ≠ s.fld (F.QUE_QPTR_TAIL q)) ∧ (((s.queue q).cmds.filter fun x =>
       decide (x.phase < 2)).length < 2) ∧ (s.fld (F.QUE_QCFG_RINGLOC q) = 1)) := by
  refine ⟨?_, ?_, ?_, ?_, ?_⟩ <;> decide +kernel

theorem test_queueProgress_2 :
    -- clause 6
    (let s : State := lit; let q : Fin 64 := 5;
     (s.qstate q ≠ 1 ∨ s.fld (F.QUE_QPTR_HEAD q) = s.fld (F.QUE_QPTR_TAIL q))) ∧
    -- clause 7
    (let s : State := queueWith ({ cmdOf 0 [] with phase := 0 }); let q : Fin 64 := 5; let n : Nat := 0;
     let x : QCmd := { cmdOf 0 [] with phase := 0 };
     ((s.queue q).cmds.findIdx? (fun y => y.phase == 0) = some n) ∧ ((s.queue q).cmds[n]? = some x) ∧ (s.qstate q =
       1)) ∧
    -- clause 8
    (let x : QCmd := cmdOf 9 [];
     (x.formOk = false)) ∧
    -- clause 9
    (let s : State := (queueWith (cmdOf 0 [])).setFld (F.QUE_QCFG_CTX 5) 3; let q : Nat := 5;
     let x : QCmd := cmdOf 0 [];
     (x.formOk = true) ∧ (x.ctx ≠ s.fld (F.QUE_QCFG_CTX q))) ∧
    -- clause 10
    (let s : State := queueWith ({ cmdOf 0 [] with raw := [0, 2] ++ List.replicate 30 0 }); let q : Nat := 5;
     let x : QCmd := { cmdOf 0 [] with raw := [0, 2] ++ List.replicate 30 0 };
     (x.formOk = true) ∧ (x.ctx = s.fld (F.QUE_QCFG_CTX q)) ∧ (x.flagAt 1 = true) ∧ (s.sigOk q x = false)) := by
  refine ⟨?_, ?_, ?_, ?_, ?_⟩ <;> decide +kernel

theorem test_queueProgress_3 :
    -- clause 11
    (let s : State := (queueWith (cmdOf 0 [])).setQueue 5 { window := [0] }; let q : Nat := 5;
     let x : QCmd := { cmdOf 0 [] with raw := [0, 1] ++ List.replicate 30 0 };
     (x.formOk = true) ∧ (x.ctx = s.fld (F.QUE_QCFG_CTX q)) ∧ (x.flagAt 1 = false) ∧ (x.flagAt 2 = false) ∧ (x.flagAt
       0 = true) ∧ (x.ticket ∈ (s.queue q).window)) ∧
    -- clause 12
    (let s : State := queueWith ({ cmdOf 1 [] with phase := 0 }); let q : Nat := 5;
     let x : QCmd := { cmdOf 1 [] with phase := 0 };
     (x.formOk = true) ∧ (x.ctx = s.fld (F.QUE_QCFG_CTX q)) ∧ (x.flagAt 1 = false) ∧ (x.flagAt 2 = false) ∧ (x.flagAt
       0 = false) ∧ (x.hasUnit = false ∨ s.ownsCl x = true) ∧ (x.opc ≠ 7)) ∧
    -- clause 13
    (let s : State := queueWith ({ cmdOf 6 [0] with phase := 2, limit := 1, issued := 1, ids := [4] });
     let q : Fin 64 := 5; let n : Nat := 0;
     let x : QCmd := { cmdOf 6 [0] with phase := 2, limit := 1, issued := 1, ids := [4] };
     (((State.pump 8 q n s).queue q).cmds[n]? = some x) ∧ (x.phase = 2) ∧ (x.opc ≠ 8) ∧ (x.ids ≠ [])) ∧
    -- clause 14
    (let s : State := queueWith (listCmd); let q : Fin 64 := 5; let n : Nat := 0; let late : Bool := false;
     let x : QCmd := listCmd;
     (((State.pump 8 q n s).queue q).cmds[n]? = some x) ∧ (x.phase = 2) ∧ (x.opc ≠ 8) ∧ (x.ids = []) ∧ (x.status = 1)
       ∧ (x.issued = x.limit) ∧ (x.issued < x.total) ∧ (((State.pump 8 q n s).showProgress q x true late).othersWait q
       x.cl = false)) ∧
    -- clause 15
    (let s : State := queueWith ({ cmdOf 6 [0] with phase := 2, limit := 1, issued := 1, ids := [4] });
     let q : Fin 64 := 5; let n : Nat := 0;
     let x : QCmd := { cmdOf 6 [0] with phase := 2, limit := 1, issued := 1, ids := [4] };
     ((s.queue q).cmds[n]? = some x) ∧ (x.phase = 2) ∧ (x.cause = 0)) := by
  refine ⟨?_, ?_, ?_, ?_, ?_⟩ <;> decide +kernel

theorem test_queueProgress_4 :
    -- clause 16
    (let s : State := queueWith ({ waitCmd with phase := 2 }); let q : Nat := 5; let n : Nat := 0;
     let x : QCmd := { waitCmd with phase := 2 };
     ((s.queue q).cmds[n]? = some x) ∧ (x.phase = 2) ∧ (x.cause = 0) ∧ (x.status = 1) ∧ (x.opc = 8)) ∧
    -- clause 17
    (let s : State := queueWith ({ cmdOf 0 [] with phase := 3 }); let q : Fin 64 := 5;
     let x : QCmd := { cmdOf 0 [] with phase := 3 }; let rest : List QCmd := [];
     ((s.queue q).cmds = x :: rest) ∧ (x.phase = 3) ∧ (x.hasUnit = false) ∧ (x.dup = false) ∧ ((s.queue q).long ≠ some
       x.uid) ∧ (x.status = 1)) ∧
    -- clause 18
    (let s : State := queueWith ({ cmdOf 0 [] with phase := 3, dup := true }); let q : Fin 64 := 5;
     let x : QCmd := { cmdOf 0 [] with phase := 3, dup := true }; let rest : List QCmd := [];
     ((s.queue q).cmds = x :: rest) ∧ (x.phase = 3) ∧ (x.sent = false) ∧ (x.dup = true) ∧ ((s.queue q).long ≠ some
       x.uid)) ∧
    -- clause 19
    (let s : State := queueWith (cmdOf 0 []); let q : Fin 64 := 5; let x : QCmd := cmdOf 0 [];
     let rest : List QCmd := [];
     ((s.queue q).cmds = x :: rest) ∧ (x.phase ≠ 3)) ∧
    -- clause 20
    (let s : State := { queueWith unitCmd with flight := [posting] }; let q : Fin 64 := 5; let x : QCmd := unitCmd;
     let rest : List QCmd := [];
     ((s.queue q).cmds = x :: rest) ∧ (x.ranUnits = true) ∧ (s.writesOut x = true)) := by
  refine ⟨?_, ?_, ?_, ?_, ?_⟩ <;> decide +kernel

theorem test_queueProgress_5 :
    -- clause 21
    (let s : State := ((({ queueWith unitCmd with lostPosted := [(0, [2])] } : State).setFld (F.RND_PMARK_PEND 0)
       1).setFld (F.RND_PMARK_CTX 0) 0);
     let q : Fin 64 := 5; let x : QCmd := unitCmd; let rest : List QCmd := [];
     ((s.queue q).cmds = x :: rest) ∧ (x.phase = 3) ∧ (x.ranUnits = true) ∧ (x.dup = false) ∧ ((s.queue q).long ≠ some
       x.uid) ∧ (x.flagAt 1 = false) ∧ (x.status = 1) ∧ (s.writesOut x = false) ∧ (s.flag (F.RND_PMARK_PEND x.cl) =
       true) ∧ (s.fld (F.RND_PMARK_CTX x.cl) = x.ctx) ∧ ((s.lostOf x.cl).all x.coversSeq = true) ∧ (s.lostOf x.cl ≠
       [])) ∧
    -- clause 22
    (let s : State := (queueWith { cmdOf 0 [] with phase := 3, status := 9 }).setFld (F.QUE_QCFG_STOPERR 5) 1;
     let q : Fin 64 := 5; let x : QCmd := { cmdOf 0 [] with phase := 3, status := 9 }; let rest : List QCmd := [];
     ((s.queue q).cmds = x :: rest) ∧ (x.phase = 3) ∧ (x.hasUnit = false) ∧ (x.dup = false) ∧ ((s.queue q).long ≠ some
       x.uid) ∧ (x.flagAt 1 = false) ∧ (3 ≤ x.status) ∧ (x.status < 16) ∧ (s.flag (F.QUE_QCFG_STOPERR q) = true) ∧
       (s.qstate q = 1)) ∧
    -- clause 23
    (let s : State := (queueWith (cmdOf 0 [])).fenceAlloc 7; let q : Nat := 5;
     let x : QCmd := { cmdOf 0 [] with raw := [0, 2, 0, 0, 0, 0, 7, 0x10, 0] ++ List.replicate 30 0 };
     (x.flagAt 1 = true) ∧ (x.nosig = false) ∧ (s.sigOk q x = true)) ∧
    -- clause 24
    (let s : State := { lit with front := { lit.front with sv := some 3 } }; let ini : Initiator := .sv;
     let id : Nat := 3;
     (s.Takes ini (Reg.QUE_SVDONE)) ∧ (s.front.sv = some id)) := by
  refine ⟨?_, ?_, ?_, ?_⟩ <;> decide +kernel

theorem test_queueStatesAndFences_2 :
    -- refused while an ABANDON runs
    ((lit.setFld F.QUE_FCTLSTAT_BUSY 1).Takes .sv Reg.QUE_FCTL ∧ (lit.setFld F.QUE_FCTLSTAT_BUSY 1).fld F.QUE_FCTLSTAT_BUSY = 1) ∧
    -- reset of a free fence
    (lit.Takes .sv Reg.QUE_FCTL ∧ lit.fld F.QUE_FCTLSTAT_BUSY = 0 ∧ lit.fenceState (7 : Fin 4096) ≠ 2) := by
  refine ⟨?_, ?_⟩ <;> decide +kernel

theorem test_queueStatesAndFences :
    -- queueEnable
    ((lit.Takes (.sv : Initiator) (Reg.QUE_QCTL (5 : Fin 64))) ∧ (lit.qstate (5 : Fin 64) = 0)) ∧
    -- queueEnable_bad
    (((lit.setFld (F.QUE_QSTATE_STATE 5) 3 : State).Takes (.sv : Initiator) (Reg.QUE_QCTL (5 : Fin 64))) ∧
    ((lit.setFld (F.QUE_QSTATE_STATE 5) 3 : State).qstate (5 : Fin 64) ≠ 0)) ∧
    -- queueStop
    (((lit.setFld (F.QUE_QSTATE_STATE 5) 1 : State).Takes (.sv : Initiator) (Reg.QUE_QCTL (5 : Fin 64))) ∧
    ((lit.setFld (F.QUE_QSTATE_STATE 5) 1 : State).qstate (5 : Fin 64) = 1)) ∧
    -- queueStop_bad
    (((lit.setFld (F.QUE_QSTATE_STATE 5) 2 : State).Takes (.sv : Initiator) (Reg.QUE_QCTL (5 : Fin 64))) ∧
    ((lit.setFld (F.QUE_QSTATE_STATE 5) 2 : State).qstate (5 : Fin 64) ≠ 1)) ∧
    -- queueResume
    (((lit.setFld (F.QUE_QSTATE_STATE 5) 2 : State).Takes (.sv : Initiator) (Reg.QUE_QCTL (5 : Fin 64))) ∧
    ((lit.setFld (F.QUE_QSTATE_STATE 5) 2 : State).qstate (5 : Fin 64) = 2)) ∧
    -- queueResume_bad
    ((lit.Takes (.sv : Initiator) (Reg.QUE_QCTL (5 : Fin 64))) ∧ (lit.qstate (5 : Fin 64) ≠ 2)) ∧
    -- drainAbort
    (((lit.setFld (F.QUE_QSTATE_STATE 5) 1 : State).Takes (.sv : Initiator) (Reg.QUE_QCTL (5 : Fin 64))) ∧
    ((lit.setFld (F.QUE_QSTATE_STATE 5) 1 : State).qstate (5 : Fin 64) = 1 ∨ (lit.setFld (F.QUE_QSTATE_STATE 5) 1 :
    State).qstate (5 : Fin 64) = 2)) ∧
    -- drainAbort_bad
    ((lit.Takes (.sv : Initiator) (Reg.QUE_QCTL (5 : Fin 64))) ∧ (lit.qstate (5 : Fin 64) ≠ 1) ∧ (lit.qstate (5 : Fin
    64) ≠ 2)) ∧
    -- queueRevoke
    (((lit.setFld (F.QUE_QSTATE_STATE 5) 4 : State).Takes (.sv : Initiator) (Reg.QUE_QCTL (5 : Fin 64))) ∧
    ((lit.setFld (F.QUE_QSTATE_STATE 5) 4 : State).qstate (5 : Fin 64) = 4)) ∧
    -- queueRevoke_bad
    (((lit.setFld (F.QUE_QSTATE_STATE 5) 1 : State).Takes (.sv : Initiator) (Reg.QUE_QCTL (5 : Fin 64))) ∧
    ((lit.setFld (F.QUE_QSTATE_STATE 5) 1 : State).qstate (5 : Fin 64) ≠ 4)) ∧
    -- queueReset
    (((lit.setFld (F.QUE_QSTATE_STATE 5) 5 : State).Takes (.sv : Initiator) (Reg.QUE_QCTL (5 : Fin 64))) ∧
    ((lit.setFld (F.QUE_QSTATE_STATE 5) 5 : State).qstate (5 : Fin 64) ∈ [0, 4, 5] ∨ ((lit.setFld (F.QUE_QSTATE_STATE
    5) 5 : State).qstate (5 : Fin 64) = 2 ∧ (lit.setFld (F.QUE_QSTATE_STATE 5) 5 : State).flyQ (5 : Fin 64) = 0))) ∧
    -- queueReset_bad
    (((lit.setFld (F.QUE_QSTATE_STATE 5) 1 : State).Takes (.sv : Initiator) (Reg.QUE_QCTL (5 : Fin 64))) ∧
    ((lit.setFld (F.QUE_QSTATE_STATE 5) 1 : State).qstate (5 : Fin 64) ∉ [0, 4, 5]) ∧ ((lit.setFld (F.QUE_QSTATE_STATE
    5) 1 : State).qstate (5 : Fin 64) ≠ 2 ∨ (lit.setFld (F.QUE_QSTATE_STATE 5) 1 : State).flyQ (5 : Fin 64) ≠ 0)) ∧
    -- enter
    ((2 : Nat) = 1 ∨ lit.fld (F.QUE_QRING2_VECEN (5 : Nat)) = 0) ∧
    -- drain_undispatched
    ((((queueWith (cmdOf 0 []) : State).queue (5 : Fin 64)).cmds = [(cmdOf 0 [] : QCmd)]) ∧ ((cmdOf 0 [] : QCmd).phase
    < 2) ∧ ((queueWith (cmdOf 0 []) : State).fld (F.QUE_QRING2_VECEN (5 : Fin 64)) = 0)) ∧
    -- queueDrained
    (((lit.setFld (F.QUE_QSTATE_STATE 5) 3 : State).qstate (5 : Fin 64) = 3) ∧ (((lit.setFld (F.QUE_QSTATE_STATE 5) 3
    : State).queue (5 : Fin 64)).cmds = []) ∧ (∀ c ∈ ((lit.setFld (F.QUE_QSTATE_STATE 5) 3 : State).queue (5 : Fin
    64)).ran, (lit.setFld (F.QUE_QSTATE_STATE 5) 3 : State).outWrites c = 0)) ∧
    -- queueDrained_early
    (lit.qstate (5 : Fin 64) ≠ 3 ∨ (lit.queue (5 : Fin 64)).cmds ≠ []) ∧
    -- revoke_memory
    ((((lit.setBytes 0x08005400 [5]) : State).Inv) ∧ (((lit.setBytes 0x08005400 [5]) : State).fld (F.QUE_QRING2_VECEN
    (5 : Nat)) = 0) ∧ ((5 : Nat) < 64)) ∧
    -- reset_queue
    ((5 : Nat) < 64) ∧
    -- fenceAlloc
    ((lit.Takes (.sv : Initiator) (Reg.QUE_FCTL)) ∧ (lit.fld F.QUE_FCTLSTAT_BUSY = 0) ∧ (lit.fenceState (7 : Fin 4096)
    = 0)) ∧
    -- fenceFree
    ((lit.Takes (.sv : Initiator) (Reg.QUE_FCTL)) ∧ (lit.fld F.QUE_FCTLSTAT_BUSY = 0)) ∧
    -- fenceReset
    (((lit.setFld (F.QUE_FSTATE_STATE 7) 2 : State).Takes (.sv : Initiator) (Reg.QUE_FCTL)) ∧ ((lit.setFld
    (F.QUE_FSTATE_STATE 7) 2 : State).fld F.QUE_FCTLSTAT_BUSY = 0) ∧ ((lit.setFld (F.QUE_FSTATE_STATE 7) 2 :
    State).fenceState (7 : Fin 4096) = 2)) ∧
    -- fenceSignal
    (((lit.fenceAlloc 7 : State).Takes (.sv : Initiator) (Reg.QUE_FCTL)) ∧ ((lit.fenceAlloc 7 : State).fld
    F.QUE_FCTLSTAT_BUSY = 0)) ∧
    -- fenceAlloc_refused
    (((lit.fenceAlloc 7 : State).Takes (.sv : Initiator) (Reg.QUE_FCTL)) ∧ ((lit.fenceAlloc 7 : State).fld
    F.QUE_FCTLSTAT_BUSY = 1 ∨ (lit.fenceAlloc 7 : State).fenceState (7 : Fin 4096) ≠ 0)) ∧
    -- alloc
    ((lit.fenceState (7 : Nat) = 0) ∧ ((7 : Nat) < 4096)) ∧
    -- free
    ((7 : Nat) < 4096) ∧
    -- signal
    (((lit.fenceAlloc 7 : State).fenceState (7 : Nat) = 1) ∧ ((7 : Nat) < 4096) ∧ ((lit.fenceAlloc 7 : State).fld
    (F.QUE_FOWNER_IRQ (7 : Nat)) = 0)) ∧
    -- signal_again
    (lit.fenceState (7 : Nat) ≠ 1) ∧
    -- releases_wait
    ((({ waitCmd with phase := 2 } : QCmd).phase = 2) ∧ (({ waitCmd with phase := 2 } : QCmd).opc = 8) ∧ (handleIdx
    ({ waitCmd with phase := 2 } : QCmd).waitOn = (7 : Nat))) ∧
    -- abandon
    ((lit.Takes (.sv : Initiator) (Reg.QUE_FCTL)) ∧ (lit.fld F.QUE_FCTLSTAT_BUSY = 0)) ∧
    -- abandonEnd
    ((((lit.fenceAlloc 7).abandonStart : State).fld F.QUE_FCTLSTAT_BUSY = 1) ∧ (((lit.fenceAlloc 7).abandonStart :
    State).unsignalled ((lit.fenceAlloc 7).abandonStart : State).front.abandon = ([7] : List Nat))) ∧
    -- clusterAssign
    ((lit.Takes (.sv : Initiator) (Reg.QUE_CLASSIGN (1 : Fin 4))) ∧ ((lit.setFld (F.QUE_CLASSIGN_CTX (1 : Fin 4)) ((5
    : Word).toNat % 4096)).domOn (domCL (1 : Fin 4)) = true) ∧ ((lit.setFld (F.QUE_CLASSIGN_CTX (1 : Fin 4)) ((5 :
    Word).toNat % 4096)).inClReset (1 : Fin 4) = false)) := by
  refine ⟨?_, ?_, ?_, ?_, ?_, ?_, ?_, ?_, ?_, ?_, ?_, ?_, ?_, ?_, ?_, ?_, ?_, ?_, ?_, ?_, ?_, ?_, ?_, ?_, ?_, ?_, ?_, ?_, ?_, ?_, ?_⟩ <;> decide +kernel

theorem test_eventCommands :
    -- clause 0
    (let s : State := lit; let ini : Initiator := .cc 1;
     (s.Takes ini (Reg.EVF_SWFIRE))) ∧
    -- clause 1
    (let s : State := lit; let ini : Initiator := .boot; let k : Fin 32 := 16; let v : Word := 4;
     (s.Takes ini (Reg.EVF_CHEN k)) ∧ ((s.setFld (F.EVF_CHEN_EN k) v.toNat).badRoute = false)) ∧
    -- clause 2
    (let s : State := lit.setFld (F.EVF_TASK_EN 104) 1; let ini : Initiator := .boot; let k : Fin 32 := 8;
     let v : Word := 0x80;
     (s.Takes ini (Reg.EVF_CHEN k)) ∧ ((s.setFld (F.EVF_CHEN_EN k) v.toNat).badRoute = true)) ∧
    -- clause 3
    (let s : State := lit; let ini : Initiator := .boot; let u : Fin 160 := 48; let v : Word := 0x13;
     (s.Takes ini (Reg.EVF_TASK u)) ∧ (v.getLsbD 6 = false) ∧ (v.toNat % 16 ≠ 0) ∧ (((s.setFld (F.EVF_TASK_EN u)
       v.toNat).setFld (F.EVF_TASK_DROP u) (v.toNat / 16 % 2)).badRoute = false)) ∧
    -- clause 4
    (let s : State := lit; let ini : Initiator := .boot; let u : Fin 160 := 48;
     (s.Takes ini (Reg.EVF_TASK u)) ∧ (s.badRoute = false) ∧ ((((s.setFld (F.EVF_TASK_EN u) 0).setFld (F.EVF_TASK_DROP
       u) 0).setFld (F.EVF_TASK_HELD u) 0).badRoute = false)) ∧
    -- clause 5
    (let s : State := lit; let ini : Initiator := .boot; let n : Fin 16 := 2;
     (s.Takes ini (Reg.EVF_SORT1 n))) ∧
    -- clause 6
    (let s : State := lit; let ini : Initiator := .boot; let n : Fin 16 := 2; let v : Word := 0x1234;
     (s.Takes ini (Reg.EVF_SORT0 n)) ∧ (((s.setReg (Reg.EVF_SORT0 n) (v &&& 0xFFFFF)).sorterAtRest n).badRoute =
       false)) := by
  refine ⟨?_, ?_, ?_, ?_, ?_, ?_, ?_⟩ <;> decide +kernel

theorem test_eventCommands_2 :
    -- clause 7
    (let s : State := ((lit.setFld (F.EVF_TASK_EN 104) 1).setFld (F.EVF_CHEN_EN 8) 0x4000).setFld (F.EVF_CHEN_EN 16)
       8;
     let ini : Initiator := .boot; let n : Fin 16 := 0; let v : Word := 0x20810;
     (s.Takes ini (Reg.EVF_SORT0 n)) ∧ (((s.setReg (Reg.EVF_SORT0 n) (v &&& 0xFFFFF)).sorterAtRest n).badRoute =
       true)) ∧
    -- clause 8
    (let s : State := lit.setFld (F.EVF_TASK_HELD 48) 1; let u : Fin 160 := 48;
     (s.fld (F.EVF_TASK_HELD u) = 1) ∧ (s.taskBusy u = false) ∧ (s.weather = .run)) ∧
    -- clause 9
    (let s : State := lit; let u : Fin 160 := 48;
     (s.fld (F.EVF_TASK_HELD u) = 0 ∨ s.taskBusy u = true)) ∧
    -- clause 10
    (let s : State := swOld; let i : Fin 8 := 3;
     (s.fld (F.EVF_SWSTAT_STATE i) = 1) ∧ (s.evtCycles - tabGet (fun _ => 0) s.swStart i ≥ 2 ^ 32 - 1)) ∧
    -- clause 11
    (let s : State := glitch; let n : Fin 16 := 2;
     (s.weather = .run) ∧ (s.fld (F.EVF_SORT1_FLT n) = 1 ∨ s.fld (F.EVF_SORT1_FLT n) = 2) ∧ (s.fld (F.EVF_SORT1_TRUTH
       n) = 255) ∧ (s.fld (F.EVF_SORT0_REG n) = 0) ∧ (s.fld (F.EVF_SORT1_OUT n) = 0) ∧ (tabGet (fun _ => false)
       s.sortRaw n = true) ∧ (tabGet (fun _ => 0) s.sortHeld n < s.filterLen n)) ∧
    -- clause 12
    (let s : State := lit; let n : Fin 16 := 2;
     (s.weather ≠ .run ∨ (s.fld (F.EVF_SORT1_FLT n) ≠ 1 ∧ s.fld (F.EVF_SORT1_FLT n) ≠ 2) ∨ tabGet (fun _ => false)
       s.sortRaw n = s.flag (F.EVF_SORT1_OUT n))) ∧
    -- clause 12
    (let s : State := { glitch with weather := .calm }; let n : Fin 16 := 2;
     (s.weather ≠ .run ∨ (s.fld (F.EVF_SORT1_FLT n) ≠ 1 ∧ s.fld (F.EVF_SORT1_FLT n) ≠ 2) ∨ tabGet (fun _ => false)
       s.sortRaw n = s.flag (F.EVF_SORT1_OUT n))) := by
  refine ⟨?_, ?_, ?_, ?_, ?_, ?_, ?_⟩ <;> decide +kernel

theorem test_eventCommands_3 :
    -- clause 14
    (let s : State := sortWait; let n : Nat := 2;
     (s.fld (F.EVF_SORT1_OUT n) = 0)) ∧
    -- clause 15
    (let s : State := { lit with arriving := [85] }; let n : Fin 8 := 2;
     (s.arriving.contains (83 + (n : Nat)) = true)) ∧
    -- clause 16
    (let s : State := { lit with arriving := [137] }; let t : Fin 32 := 9;
     (s.arriving.contains (if (t : Nat) < 8 then 120 + t else 128 + t) = true) ∧ (s.domOn (domTQ t) = true)) ∧
    -- clause 17
    (let s : State := lit;
     (s.arriving = [])) ∧
    -- clause 18
    (let s : State := lit; let ps : List (Fin 128) := [80];
     (s.weather = .run) ∧ (s.stopped = false) ∧ (∀ p ∈ ps, s.pulses.contains (p : Nat) = false ∧ ((p : Nat) < 64 ∨ 80
       ≤ (p : Nat))) ∧ (s.arriving.contains 30 = false) ∧ (s.arriving.contains 31 = false)) ∧
    -- clause 19
    (let s : State := fireAt; let k : Nat := 16; let u : Nat := 39; let p : Fin 128 := 80;
     (s.weather = .run) ∧ (s.stopped = false) ∧ (s.sorting = false) ∧ (s.pulses.contains (p : Nat) = true) ∧
       (s.enabledIn p k = true) ∧ (k < 32) ∧ (s.listening = [u]) ∧ (k ∈ s.taskChans u) ∧ (s.taskBusy u = false) ∧
       (s.fld (F.EVF_TASK_HELD u) = 0) ∧ (crosses u = true) ∧ (u ≠ 30) ∧ (u ≠ 31) ∧ (s.arriving.contains 30 = false) ∧
       (s.arriving.contains 31 = false)) ∧
    -- clause 20
    (let s : State := fireAt.setDfa 1 { queue := List.replicate 4 dfaSt }; let k : Nat := 16; let u : Nat := 39;
     let p : Fin 128 := 80;
     (s.weather = .run) ∧ (s.stopped = false) ∧ (s.sorting = false) ∧ (s.pulses.contains (p : Nat) = true) ∧
       (s.enabledIn p k = true) ∧ (k < 32) ∧ (s.listening = [u]) ∧ (k ∈ s.taskChans u) ∧ (s.taskBusy u = true) ∧ (20 ≤
       u) ∧ (u < 48 ∨ 64 ≤ u ∧ u < 96 ∨ 104 ≤ u ∧ u < 128 ∨ 136 ≤ u) ∧ (s.fld (F.EVF_TASK_HELD u) = 0) ∧ (s.fld
       (F.EVF_TASK_DROP u) = 0) ∧ (s.arriving.contains 30 = false) ∧ (s.arriving.contains 31 = false)) := by
  refine ⟨?_, ?_, ?_, ?_, ?_, ?_, ?_⟩ <;> decide +kernel

theorem test_eventDelivery :
    -- clause 0
    (let s : State := lit; let u : Nat := 83;
     (s.taskBusy u = false) ∧ (s.fld (F.EVF_TASK_HELD u) = 0) ∧ (crosses u = true) ∧ (u ≠ 30) ∧ (u ≠ 31)) ∧
    -- clause 1
    (let s : State := lit; let u : Nat := 0;
     (s.taskBusy u = true) ∧ (s.fld (F.EVF_TASK_DROP u) = 0) ∧ (s.fld (F.EVF_TASK_HELD u) = 0) ∧ (20 ≤ u ∨ (s.core (u
       / 4)).run ≠ .wait)) ∧
    -- clause 2
    (let s : State := lit.setFld (F.EVF_TASK_DROP 0) 1; let u : Nat := 0;
     (s.taskBusy u = true) ∧ (s.fld (F.EVF_TASK_DROP u) = 1 ∨ s.fld (F.EVF_TASK_HELD u) = 1) ∧ (u < 160) ∧ (20 ≤ u ∨
       (s.core (u / 4)).run ≠ .wait)) ∧
    -- clause 3
    (let s : State := lit; let i : Nat := 3;
     (s.fld (F.EVF_SWSTAT_STATE i) ≠ 1) ∧ (i < 8)) ∧
    -- clause 4
    (let s : State := swOld; let i : Nat := 3;
     (s.fld (F.EVF_SWSTAT_STATE i) = 1) ∧ (i < 8)) ∧
    -- clause 5
    (let s : State := lit; let i : Nat := 3;
     (s.fld (F.EVF_SWSTAT_STATE i) ≠ 1)) ∧
    -- clause 6
    (let s : State := swOld; let i : Nat := 3;
     (s.fld (F.EVF_SWSTAT_STATE i) = 1) ∧ (s.fld (F.EVF_SWCFG_DBLRST i) = 0)) ∧
    -- clause 7
    (let s : State := lit; let i : Nat := 3;
     (s.fld (F.EVF_SWSTAT_STATE i) ≠ 1) ∧ (i < 8)) ∧
    -- clause 8
    (let p : Nat := 80; let k : Nat := 16;
     (p < 128) ∧ (k < 32)) ∧
    -- clause 9
    (let i : Nat := 3;
     (i < 4)) ∧
    -- clause 10
    (let s : State := lit.setFld (F.EVF_CHEN_EN 8) 0x80; let k : Nat := 8;
     (k ∈ s.tainted)) ∧
    -- clause 11
    (let u : Nat := 83;
     (crosses u = true) ∧ (u ≠ 30) ∧ (u ≠ 31)) := by
  refine ⟨?_, ?_, ?_, ?_, ?_, ?_, ?_, ?_, ?_, ?_, ?_, ?_⟩ <;> decide +kernel

theorem test_rtcCommands :
    -- snap
    ((lit.Takes (.boot : Initiator) (Reg.RTC_SNAP)) ∧ (lit.fld F.RTC_SNAPST_BUSY = 0)) ∧
    -- snap_busy
    ((rtcSnapping.Takes (.boot : Initiator) (Reg.RTC_SNAP)) ∧ (rtcSnapping.fld F.RTC_SNAPST_BUSY = 1)) ∧
    -- capture
    ((rtcSnapping.fld F.RTC_SNAPST_BUSY = 1) ∧ (rtcSnapping.fld F.CLK_STATUS_AONOK = 1) ∧ (rtcSnapping.weather = .run)
    ∧ (3906 ≤ rtcSnapping.evtCycles - rtcSnapping.rtc.snapReq) ∧ (rtcSnapping.evtCycles - rtcSnapping.rtc.snapReq ≤
    7816) ∧ (rtcSnapping.rtc.snapStale = false) ∧ (rtcSnapping.rtc.sub < 32768) ∧ (rtcSnapping.rtc.sec < 2 ^ 32)) ∧
    -- capture_early
    (lit.fld F.RTC_SNAPST_BUSY = 0 ∨ lit.evtCycles - lit.rtc.snapReq < 3906) ∧
    -- stage
    (lit.Takes (.boot : Initiator) (Reg.RTC_WCMD)) ∧
    -- cancel
    (rtcPend.Takes (.boot : Initiator) (Reg.RTC_WCMD)) ∧
    -- second
    ((rtcEdge.fld F.CLK_STATUS_AONOK = 1) ∧ (rtcEdge.weather = .run) ∧ (rtcEdge.rtc.sub = 32767) ∧ (rtcEdge.fld
    F.RTC_STATUS_WPEND = 0)) ∧
    -- second_applied
    ((rtcPend.fld F.CLK_STATUS_AONOK = 1) ∧ (rtcPend.weather = .run) ∧ (rtcPend.rtc.sub = 32767) ∧ (rtcPend.fld
    F.RTC_STATUS_WPEND = 1)) ∧
    -- second_early
    (lit.rtc.sub ≠ 32767) ∧
    -- alarm
    ((rtcRing.fld F.CLK_STATUS_AONOK = 1) ∧ (rtcRing.weather = .run) ∧ (rtcRing.fld F.RTC_ALMSUB_EN = 1) ∧ (32768 *
    rtcRing.rtc.sec + rtcRing.rtc.sub = 32768 * (rtcRing.fld F.RTC_ALM0_SEC + 2 ^ 24 * rtcRing.fld F.RTC_ALM1_SEC) +
    rtcRing.fld F.RTC_ALMSUB_SUB)) ∧
    -- alarm_off
    (lit.fld F.RTC_ALMSUB_EN = 0) ∧
    -- tick
    (((lit.setFld F.CLK_STATUS_AONOK 1 : State).fld F.CLK_STATUS_AONOK = 1) ∧ ((lit.setFld F.CLK_STATUS_AONOK 1 :
    State).weather = .run) ∧ ((lit.setFld F.CLK_STATUS_AONOK 1 : State).rtc.sub % 2 ^ (lit.setFld F.CLK_STATUS_AONOK 1
    : State).fld F.RTC_TICK_DIV = 0)) ∧
    -- tick_off
    (rtcEdge.fld F.CLK_STATUS_AONOK = 0 ∨ rtcEdge.rtc.sub % 2 ^ rtcEdge.fld F.RTC_TICK_DIV ≠ 0) := by
  refine ⟨?_, ?_, ?_, ?_, ?_, ?_, ?_, ?_, ?_, ?_, ?_, ?_, ?_⟩ <;> decide +kernel

theorem test_parameterStoreCommands :
    -- clause 0
    (let s : State := { lit with pstOp := some pstOp0 }; let ini : Initiator := .boot;
     (s.Takes ini (Reg.PST_CMD)) ∧ (s.pstOp ≠ none)) ∧
    -- clause 1
    (let s : State := lit; let ini : Initiator := .boot;
     (s.Takes ini (Reg.PST_CMD)) ∧ (s.pstOp = none)) ∧
    -- clause 3
    (let s : State := lit; let ini : Initiator := .boot;
     (s.Takes ini (Reg.PST_CMD)) ∧ (s.pstOp = none) ∧ (s.fld F.PST_STATUS_MOUNTED = 0)) ∧
    -- clause 4
    (let s : State := pstReady.setFld F.PST_LEN_LEN 12; let ini : Initiator := .boot;
     (s.Takes ini (Reg.PST_CMD)) ∧ (s.pstOp = none) ∧ (s.fld F.PST_STATUS_MOUNTED = 1) ∧ (s.fld F.PST_KEY0_TYPE = 0 ∨
       s.fld F.PST_KEY0_TYPE = 0xFFFF ∨ s.fld F.PST_LEN_LEN < 8 ∨ 472 < s.fld F.PST_LEN_LEN ∨ s.fld F.PST_LEN_LEN % 8
       ≠ 0 ∨ 4096 < s.fld F.PST_SRC_ROW + (s.fld F.PST_LEN_LEN + 383) / 384)) ∧
    -- clause 5
    (let s : State := pstReady.setFld (F.PWR_DOM_ACT 14) 0; let ini : Initiator := .boot;
     (s.Takes ini (Reg.PST_CMD)) ∧ (s.pstOp = none) ∧ (s.fld F.PST_STATUS_MOUNTED = 1) ∧ (¬(s.fld F.PST_KEY0_TYPE = 0
       ∨ s.fld F.PST_KEY0_TYPE = 0xFFFF ∨ s.fld F.PST_LEN_LEN < 8 ∨ 472 < s.fld F.PST_LEN_LEN ∨ s.fld F.PST_LEN_LEN %
       8 ≠ 0 ∨ 4096 < s.fld F.PST_SRC_ROW + (s.fld F.PST_LEN_LEN + 383) / 384)) ∧ (s.spOn (s.fld F.PST_SRC_CLUSTER) =
       false)) ∧
    -- clause 6
    (let s : State := pstReady.setTag 1 2 true; let ini : Initiator := .boot;
     (s.Takes ini (Reg.PST_CMD)) ∧ (s.pstOp = none) ∧ (s.fld F.PST_STATUS_MOUNTED = 1) ∧ (¬(s.fld F.PST_KEY0_TYPE = 0
       ∨ s.fld F.PST_KEY0_TYPE = 0xFFFF ∨ s.fld F.PST_LEN_LEN < 8 ∨ 472 < s.fld F.PST_LEN_LEN ∨ s.fld F.PST_LEN_LEN %
       8 ≠ 0 ∨ 4096 < s.fld F.PST_SRC_ROW + (s.fld F.PST_LEN_LEN + 383) / 384)) ∧ (s.spOn (s.fld F.PST_SRC_CLUSTER) =
       true) ∧ (s.prescanSealed (s.fld F.PST_SRC_CLUSTER) (s.fld F.PST_SRC_ROW) (s.fld F.PST_LEN_LEN) = true)) ∧
    -- clause 7
    (let s : State := pstReady; let ini : Initiator := .boot; let p : Nat := 0;
     (s.Takes ini (Reg.PST_CMD)) ∧ (s.pstOp = none) ∧ (s.fld F.PST_STATUS_MOUNTED = 1) ∧ (¬(s.fld F.PST_KEY0_TYPE = 0
       ∨ s.fld F.PST_KEY0_TYPE = 0xFFFF ∨ s.fld F.PST_LEN_LEN < 8 ∨ 472 < s.fld F.PST_LEN_LEN ∨ s.fld F.PST_LEN_LEN %
       8 ≠ 0 ∨ 4096 < s.fld F.PST_SRC_ROW + (s.fld F.PST_LEN_LEN + 383) / 384)) ∧ (s.spOn (s.fld F.PST_SRC_CLUSTER) =
       true) ∧ (s.prescanSealed (s.fld F.PST_SRC_CLUSTER) (s.fld F.PST_SRC_ROW) (s.fld F.PST_LEN_LEN) = false) ∧
       (s.sparePage = some p) ∧ (s.findKey (s.fld F.PST_KEY0_TYPE) (s.fld F.PST_KEY1_INST) ≠ none ∨ s.pstRecords <
       240)) := by
  refine ⟨?_, ?_, ?_, ?_, ?_, ?_, ?_⟩ <;> decide +kernel

theorem test_parameterStoreCommands_2 :
    -- clause 8
    (let s : State := pstHeld; let ini : Initiator := .boot; let p : Nat := 9;
     (s.Takes ini (Reg.PST_CMD)) ∧ (s.pstOp = none) ∧ (s.fld F.PST_STATUS_MOUNTED = 1) ∧ (s.findKey (s.fld
       F.PST_KEY0_TYPE) (s.fld F.PST_KEY1_INST) = some p)) ∧
    -- clause 9
    (let s : State := pstReady; let ini : Initiator := .boot;
     (s.Takes ini (Reg.PST_CMD)) ∧ (s.pstOp = none) ∧ (s.fld F.PST_STATUS_MOUNTED = 1) ∧ (s.findKey (s.fld
       F.PST_KEY0_TYPE) (s.fld F.PST_KEY1_INST) = none)) ∧
    -- clause 10
    (let s : State := pstHeld; let ini : Initiator := .boot; let p : Nat := 9;
     (s.Takes ini (Reg.PST_CMD)) ∧ (s.pstOp = none) ∧ (s.fld F.PST_STATUS_MOUNTED = 1) ∧ (s.findKey (s.fld
       F.PST_KEY0_TYPE) (s.fld F.PST_KEY1_INST) = some p)) ∧
    -- clause 11
    (let s : State := pstReady; let ini : Initiator := .boot;
     (s.Takes ini (Reg.PST_CMD)) ∧ (s.pstOp = none) ∧ (s.fld F.PST_STATUS_MOUNTED = 1) ∧ (s.findKey (s.fld
       F.PST_KEY0_TYPE) (s.fld F.PST_KEY1_INST) = none)) ∧
    -- clause 12
    (let s : State := { lit with pstOp := some pstOp0 }; let ini : Initiator := .cc 1; let u : Fin 32768 := 5;
     (s.stopped = false) ∧ (s.verdict ini (0x04000000 + 4 * u) false = .pass) ∧ ((s.pstOp.any fun o => o.page == (u :
       Nat) / 128) = true)) ∧
    -- clause 13
    (let s : State := lit; let ini : Initiator := .cc 1; let u : Fin 32768 := 5;
     (s.stopped = false) ∧ (s.verdict ini (0x04000000 + 4 * u) false = .pass) ∧ ((s.pstOp.any fun o => o.page == (u :
       Nat) / 128) = false)) ∧
    -- clause 13
    (let s : State := { lit with pstOp := some pstOp0 }; let ini : Initiator := .cc 1; let u : Fin 32768 := 300;
     (s.stopped = false) ∧ (s.verdict ini (0x04000000 + 4 * u) false = .pass) ∧ ((s.pstOp.any fun o => o.page == (u :
       Nat) / 128) = false)) := by
  refine ⟨?_, ?_, ?_, ?_, ?_, ?_, ?_⟩ <;> decide +kernel

theorem test_parameterStoreCommands_3 :
    -- clause 14
    (let s : State := lit; let g : Nat := 5;
     ((s.pstGroup g).ecc = 0)) ∧
    -- clause 15
    (let s : State := lit.setFld (F.PWR_DOM_ACT 7) 0; let ini : Initiator := .cc 1; let u : Fin 32768 := 5;
     (s.stopped = false) ∧ (s.verdict ini (0x04000000 + 4 * u) false = .dark)) ∧
    -- clause 16
    (let s : State := lit;
     (s.pstOp = none)) ∧
    -- clause 17
    (let s : State := { lit with pstOp := some { pstOp0 with unit := 3 } };
     let o : PstOp := { pstOp0 with unit := 3 };
     (s.pstOp = some o) ∧ (o.erasing = false)) ∧
    -- clause 18
    (let s : State := { lit with pstOp := some pstOp0 }; let o : PstOp := pstOp0;
     (s.pstOp = some o) ∧ (o.erasing = true)) := by
  refine ⟨?_, ?_, ?_, ?_, ?_⟩ <;> decide +kernel

theorem test_recordWrites :
    -- clause 0
    (let v : Nat := 7;
     (v ≠ 2 ^ 64 - 1)) ∧
    -- clause 2
    (let s : State := pstReady; let o : PstOp := pstOp0;
     (o.del = false) ∧ (o.fixes = none) ∧ (o.unit = 0) ∧ ((s.page o.spare).wear < 99999)) ∧
    -- clause 3
    (let s : State := pstReady.setPage 0 { wear := 99999 }; let o : PstOp := pstOp0;
     ((s.page o.spare).wear = 99999)) ∧
    -- clause 4
    (let s : State := pstReady; let o : PstOp := { pstOp0 with unit := 1 };
     (o.del = false) ∧ (o.fixes = none) ∧ (0 < o.unit) ∧ (o.unit ≤ o.len / 8) ∧ (s.unitTag o.cluster (o.row + 8 *
       (o.unit - 1) / 384) = false) ∧ ((s.pstUnit o).2 ≠ 2 ^ 64 - 1)) ∧
    -- clause 5
    (let s : State := pstReady.setTag 1 2 true; let o : PstOp := { pstOp0 with unit := 1 };
     (o.del = false) ∧ (o.fixes = none) ∧ (0 < o.unit) ∧ (o.unit ≤ o.len / 8) ∧ (s.unitTag o.cluster (o.row + 8 *
       (o.unit - 1) / 384) = true)) ∧
    -- clause 6
    (let o : PstOp := { pstOp0 with unit := 5 };
     (o.del = false) ∧ (o.fixes = none) ∧ (o.unit = o.len / 8 + 4)) ∧
    -- clause 7
    (let o : PstOp := { pstOp0 with unit := 5 };
     (o.del = false) ∧ (o.fixes = none) ∧ (o.unit = o.len / 8 + 4) ∧ (o.old = none)) ∧
    -- clause 8
    (let o : PstOp := { pstOp0 with old := some 9, unit := 6 }; let q : Nat := 9;
     (o.del = false) ∧ (o.fixes = none) ∧ (o.unit = o.len / 8 + 5) ∧ (o.old = some q) ∧ (q ≠ o.spare)) := by
  refine ⟨?_, ?_, ?_, ?_, ?_, ?_, ?_, ?_⟩ <;> decide +kernel

theorem test_cipherCommands :
    -- clause 0
    (let s : State := cipHeld; let ini : Initiator := .sv; let c : Instr := .cipJob .sv; let n : Nat := 1;
     (s.Takes ini (Reg.CIP_CMD)) ∧ (cipOwner ini ≠ 0) ∧ (s.fld F.CIP_LOCK_OWNER = cipOwner ini) ∧ (s.cip.op = none) ∧
       ((c, n) ∈ [(Instr.cipJob ini, 1), (Instr.cipLoad ini, 2), (Instr.cipStore ini, 3), (Instr.keyset ini, 4),
       (Instr.keyclr ini, 5), (Instr.keyuse ini, 6), (Instr.derive ini, 7), (Instr.unwrap ini, 8), (Instr.cipClear
       ini, 9)])) ∧
    -- clause 0
    (let s : State := cipHeld; let ini : Initiator := .sv; let c : Instr := .cipLoad .sv; let n : Nat := 2;
     (s.Takes ini (Reg.CIP_CMD)) ∧ (cipOwner ini ≠ 0) ∧ (s.fld F.CIP_LOCK_OWNER = cipOwner ini) ∧ (s.cip.op = none) ∧
       ((c, n) ∈ [(Instr.cipJob ini, 1), (Instr.cipLoad ini, 2), (Instr.cipStore ini, 3), (Instr.keyset ini, 4),
       (Instr.keyclr ini, 5), (Instr.keyuse ini, 6), (Instr.derive ini, 7), (Instr.unwrap ini, 8), (Instr.cipClear
       ini, 9)])) ∧
    -- clause 0
    (let s : State := cipHeld; let ini : Initiator := .sv; let c : Instr := .cipStore .sv; let n : Nat := 3;
     (s.Takes ini (Reg.CIP_CMD)) ∧ (cipOwner ini ≠ 0) ∧ (s.fld F.CIP_LOCK_OWNER = cipOwner ini) ∧ (s.cip.op = none) ∧
       ((c, n) ∈ [(Instr.cipJob ini, 1), (Instr.cipLoad ini, 2), (Instr.cipStore ini, 3), (Instr.keyset ini, 4),
       (Instr.keyclr ini, 5), (Instr.keyuse ini, 6), (Instr.derive ini, 7), (Instr.unwrap ini, 8), (Instr.cipClear
       ini, 9)])) ∧
    -- clause 0
    (let s : State := cipHeld; let ini : Initiator := .sv; let c : Instr := .keyset .sv; let n : Nat := 4;
     (s.Takes ini (Reg.CIP_CMD)) ∧ (cipOwner ini ≠ 0) ∧ (s.fld F.CIP_LOCK_OWNER = cipOwner ini) ∧ (s.cip.op = none) ∧
       ((c, n) ∈ [(Instr.cipJob ini, 1), (Instr.cipLoad ini, 2), (Instr.cipStore ini, 3), (Instr.keyset ini, 4),
       (Instr.keyclr ini, 5), (Instr.keyuse ini, 6), (Instr.derive ini, 7), (Instr.unwrap ini, 8), (Instr.cipClear
       ini, 9)])) ∧
    -- clause 0
    (let s : State := cipHeld; let ini : Initiator := .sv; let c : Instr := .keyclr .sv; let n : Nat := 5;
     (s.Takes ini (Reg.CIP_CMD)) ∧ (cipOwner ini ≠ 0) ∧ (s.fld F.CIP_LOCK_OWNER = cipOwner ini) ∧ (s.cip.op = none) ∧
       ((c, n) ∈ [(Instr.cipJob ini, 1), (Instr.cipLoad ini, 2), (Instr.cipStore ini, 3), (Instr.keyset ini, 4),
       (Instr.keyclr ini, 5), (Instr.keyuse ini, 6), (Instr.derive ini, 7), (Instr.unwrap ini, 8), (Instr.cipClear
       ini, 9)])) ∧
    -- clause 0
    (let s : State := cipHeld; let ini : Initiator := .sv; let c : Instr := .keyuse .sv; let n : Nat := 6;
     (s.Takes ini (Reg.CIP_CMD)) ∧ (cipOwner ini ≠ 0) ∧ (s.fld F.CIP_LOCK_OWNER = cipOwner ini) ∧ (s.cip.op = none) ∧
       ((c, n) ∈ [(Instr.cipJob ini, 1), (Instr.cipLoad ini, 2), (Instr.cipStore ini, 3), (Instr.keyset ini, 4),
       (Instr.keyclr ini, 5), (Instr.keyuse ini, 6), (Instr.derive ini, 7), (Instr.unwrap ini, 8), (Instr.cipClear
       ini, 9)])) := by
  refine ⟨?_, ?_, ?_, ?_, ?_, ?_⟩ <;> decide +kernel

theorem test_cipherCommands_2 :
    -- clause 0
    (let s : State := cipHeld; let ini : Initiator := .sv; let c : Instr := .derive .sv; let n : Nat := 7;
     (s.Takes ini (Reg.CIP_CMD)) ∧ (cipOwner ini ≠ 0) ∧ (s.fld F.CIP_LOCK_OWNER = cipOwner ini) ∧ (s.cip.op = none) ∧
       ((c, n) ∈ [(Instr.cipJob ini, 1), (Instr.cipLoad ini, 2), (Instr.cipStore ini, 3), (Instr.keyset ini, 4),
       (Instr.keyclr ini, 5), (Instr.keyuse ini, 6), (Instr.derive ini, 7), (Instr.unwrap ini, 8), (Instr.cipClear
       ini, 9)])) ∧
    -- clause 0
    (let s : State := cipHeld; let ini : Initiator := .sv; let c : Instr := .unwrap .sv; let n : Nat := 8;
     (s.Takes ini (Reg.CIP_CMD)) ∧ (cipOwner ini ≠ 0) ∧ (s.fld F.CIP_LOCK_OWNER = cipOwner ini) ∧ (s.cip.op = none) ∧
       ((c, n) ∈ [(Instr.cipJob ini, 1), (Instr.cipLoad ini, 2), (Instr.cipStore ini, 3), (Instr.keyset ini, 4),
       (Instr.keyclr ini, 5), (Instr.keyuse ini, 6), (Instr.derive ini, 7), (Instr.unwrap ini, 8), (Instr.cipClear
       ini, 9)])) ∧
    -- clause 0
    (let s : State := cipHeld; let ini : Initiator := .sv; let c : Instr := .cipClear .sv; let n : Nat := 9;
     (s.Takes ini (Reg.CIP_CMD)) ∧ (cipOwner ini ≠ 0) ∧ (s.fld F.CIP_LOCK_OWNER = cipOwner ini) ∧ (s.cip.op = none) ∧
       ((c, n) ∈ [(Instr.cipJob ini, 1), (Instr.cipLoad ini, 2), (Instr.cipStore ini, 3), (Instr.keyset ini, 4),
       (Instr.keyclr ini, 5), (Instr.keyuse ini, 6), (Instr.derive ini, 7), (Instr.unwrap ini, 8), (Instr.cipClear
       ini, 9)])) ∧
    -- clause 2
    (let s : State := lit; let ini : Initiator := .sv; let c : Instr := .cipJob .sv; let n : Nat := 1;
     (s.Takes ini (Reg.CIP_CMD)) ∧ (s.fld F.CIP_LOCK_OWNER ≠ cipOwner ini) ∧ ((c, n) ∈ [(Instr.cipJob ini, 1),
       (Instr.cipLoad ini, 2), (Instr.cipStore ini, 3), (Instr.keyset ini, 4), (Instr.keyclr ini, 5), (Instr.keyuse
       ini, 6), (Instr.derive ini, 7), (Instr.unwrap ini, 8), (Instr.cipClear ini, 9)])) ∧
    -- clause 3
    (let s : State := cipBusy 2; let ini : Initiator := .sv; let c : Instr := .keyset .sv; let n : Nat := 4;
     (s.Takes ini (Reg.CIP_CMD)) ∧ (cipOwner ini ≠ 0) ∧ (s.fld F.CIP_LOCK_OWNER = cipOwner ini) ∧ (s.cip.op ≠ none) ∧
       ((c, n) ∈ [(Instr.cipJob ini, 1), (Instr.cipLoad ini, 2), (Instr.cipStore ini, 3), (Instr.keyset ini, 4),
       (Instr.keyclr ini, 5), (Instr.keyuse ini, 6), (Instr.derive ini, 7), (Instr.unwrap ini, 8), (Instr.cipClear
       ini, 9)])) ∧
    -- clause 4
    (let s : State := cipBusy 9; let u : State := (cipBusy 9).cipClear; let p : CipOp := { cipOp0 9 with key := {} };
     let code : Nat := 1;
     (s.fld F.CIP_LOCK_OWNER ≠ 7) ∧ (s.cip.op = some p) ∧ (p.running = true) ∧ (p.torn = false) ∧ (s.cipRun p = (code,
       u)) ∧ (u.cip.due = .none)) := by
  refine ⟨?_, ?_, ?_, ?_, ?_, ?_⟩ <;> decide +kernel

theorem test_cipherCommands_3 :
    -- clause 5
    (let s : State := { cipBusy 9 with cip := { (cipBusy 9).cip with due := .plain } };
     let u : State := { cipBusy 9 with cip := { (cipBusy 9).cip with due := .plain } }.cipClear;
     let p : CipOp := { cipOp0 9 with key := {} }; let code : Nat := 1;
     (s.fld F.CIP_LOCK_OWNER ≠ 7) ∧ (s.cip.op = some p) ∧ (p.running = true) ∧ (p.torn = false) ∧ (s.cipRun p = (code,
       u)) ∧ (u.cip.due = .plain)) ∧
    -- clause 6
    (let s : State := lit;
     (s.fld F.CIP_LOCK_OWNER ≠ 7) ∧ ((s.cip.op.all fun p => !p.running) = true)) ∧
    -- clause 7
    (let p : CipOp := cipOp0 1;
     (p.op = 1) ∧ (p.args.job.first = true) ∧ (p.args.job.good {} = false)) ∧
    -- clause 8
    (let p : CipOp := { cipJob0 with key := {} };
     (p.op = 1) ∧ (p.args.job.first = true) ∧ (p.args.job.good {} = true) ∧ (p.key.okFor p.args.job.kslot p.owner =
       false)) ∧
    -- clause 10
    (let p : CipOp := cipOp0 4;
     (p.op = 4) ∧ (p.owner = 5 ∨ p.owner = 8) ∧ (p.args.tslot ≠ 0)) ∧
    -- clause 11
    (let p : CipOp := cipOp0 5;
     (p.op = 5) ∧ (p.owner = 5 ∨ p.owner = 8) ∧ (p.args.tslot ≠ 0)) := by
  refine ⟨?_, ?_, ?_, ?_, ?_, ?_⟩ <;> decide +kernel

theorem test_cipherCommands_4 :
    -- clause 9
    (let s : State := lit; let p : CipOp := cipJob0;
     let x : CipCtx := (jobStep cipJob0.args.job cipJob0.key.key (newCtx cipJob0.args.job cipJob0.args.iv
       cipJob0.key.key) (lit.cipBytes cipJob0.args.job.nb)).1;
     let out : List Byte := (jobStep cipJob0.args.job cipJob0.key.key (newCtx cipJob0.args.job cipJob0.args.iv
       cipJob0.key.key) (lit.cipBytes cipJob0.args.job.nb)).2;
     (s.fld F.CIP_LOCK_OWNER ≠ 7) ∧ (p.op = 1) ∧ (p.args.job.first = true) ∧ (p.args.job.last = false) ∧
       (p.args.job.good {} = true) ∧ (p.key.okFor p.args.job.kslot p.owner = true) ∧ (jobStep p.args.job p.key.key
       (newCtx p.args.job p.args.iv p.key.key) (s.cipBytes p.args.job.nb) = (x, out))) := by
  decide +kernel

theorem test_cipherCommands_5 :
    -- clause 12
    (let p : CipOp := cipOp0 6;
     (p.op = 6) ∧ (p.owner = 5 ∨ p.owner = 8) ∧ (p.args.tslot ≠ 0)) ∧
    -- clause 13
    (let p : CipOp := { cipOp0 4 with args := { cipArgs0 with tslot := 0 } };
     (p.op = 4 ∨ p.op = 5 ∨ p.op = 6 ∨ p.op = 8) ∧ (p.owner = 5 ∨ p.owner = 8) ∧ (p.args.tslot = 0)) ∧
    -- clause 14
    (let s : State := lit.setCipKey 0 ⟨true, 1, 0, List.replicate 32 7⟩; let p : CipOp := cipOp0 7;
     (p.op = 7) ∧ (p.owner = 5) ∧ (p.args.toBoot = false) ∧ (p.args.tslot ≠ 0) ∧ (p.args.label.take 2 ≠ [0x48, 0x4C])
       ∧ ((s.cipKey 0).valid = true)) ∧
    -- clause 15
    (let p : CipOp := { cipOp0 7 with args := { cipArgs0 with toBoot := true } };
     (p.op = 7) ∧ (p.owner = 5) ∧ (p.args.toBoot = true ∨ p.args.label.take 2 = [0x48, 0x4C])) ∧
    -- clause 18
    (let p : CipOp := { cipOp0 4 with owner := 1 };
     (4 ≤ p.op) ∧ (p.op ≤ 8) ∧ (p.owner ≠ 5) ∧ (p.owner ≠ 8)) ∧
    -- clause 19
    (let p : CipOp := cipOp0 9;
     (p.op = 9)) := by
  refine ⟨?_, ?_, ?_, ?_, ?_, ?_⟩ <;> decide +kernel

theorem test_cipherCommands_6 :
    -- clause 16
    (let s : State := cipWrapped; let p : CipOp := cipUnw;
     let k : List Byte := (keyUnwrap cipUnw.key.key (cipWrapped.cipBytes 24)).getD [];
     (p.op = 8) ∧ (p.owner = 5) ∧ (p.args.toBoot = false) ∧ (p.args.tslot ≠ 0) ∧ (p.key.okFor p.args.job.kslot 5 =
       true) ∧ (keyUnwrap p.key.key (s.cipBytes (keyLen p.args.size + 8)) = some k)) := by
  decide +kernel

theorem test_cipherCommands_7 :
    -- clause 17
    (let s : State := lit; let p : CipOp := cipOp0 8;
     (p.op = 8) ∧ (p.owner = 5) ∧ (p.args.toBoot = false) ∧ (p.args.tslot ≠ 0) ∧ (p.key.okFor p.args.job.kslot 5 =
       true) ∧ (keyUnwrap p.key.key (s.cipBytes (keyLen p.args.size + 8)) = none)) := by
  decide +kernel

theorem test_cipherCommands_8 :
    -- clause 20
    (let p : CipOp := { cipOp0 2 with args := { cipArgs0 with len := 0 } };
     (p.op = 2 ∨ p.op = 3) ∧ (p.args.xferBad = true)) ∧
    -- clause 21
    (let s : State := lit.setTag 1 0 true; let p : CipOp := (cipOp0 2);
     (p.op = 2) ∧ (p.args.xferBad = false) ∧ (s.spOn p.args.cluster = true) ∧ (s.clearing p.args.cluster = false) ∧
       (s.inClReset p.args.cluster = false) ∧ (s.tag p.args.cluster p.args.row = true)) ∧
    -- clause 22
    (let s : State := lit; let p : CipOp := (cipOp0 2);
     (p.op = 2) ∧ (p.args.xferBad = false) ∧ (p.args.offset + p.args.len ≤ 384) ∧ (s.spOn p.args.cluster = true) ∧
       (s.clearing p.args.cluster = false) ∧ (s.inClReset p.args.cluster = false) ∧ (s.tag p.args.cluster p.args.row =
       false)) ∧
    -- clause 23
    (let s : State := lit.setFld (F.CLU_OWNER_CLEARING 1) 1; let p : CipOp := (cipOp0 2);
     (p.op = 2) ∧ (p.args.xferBad = false) ∧ (s.spOn p.args.cluster = true) ∧ (s.clearing p.args.cluster = true ∨
       s.inClReset p.args.cluster = true)) ∧
    -- clause 24
    (let s : State := lit; let p : CipOp := cipOp0 3;
     (p.op = 3) ∧ (p.args.xferBad = false) ∧ (p.args.offset % 4 = 0) ∧ (p.args.len % 4 = 0) ∧ (p.args.offset +
       p.args.len ≤ 384) ∧ (s.spOn p.args.cluster = true) ∧ (s.clearing p.args.cluster = false) ∧ (s.inClReset
       p.args.cluster = false)) ∧
    -- clause 25
    (let s : State := lit.setFld (F.CLU_OWNER_CLEARING 1) 1; let p : CipOp := cipOp0 3;
     (p.op = 3) ∧ (p.args.xferBad = false) ∧ (p.args.offset % 4 = 0) ∧ (p.args.len % 4 = 0) ∧ (s.spOn p.args.cluster =
       true) ∧ (s.clearing p.args.cluster = true ∨ s.inClReset p.args.cluster = true)) := by
  refine ⟨?_, ?_, ?_, ?_, ?_, ?_⟩ <;> decide +kernel

theorem test_cipherCommands_9 :
    -- clause 26
    (let s : State := lit; let ini : Initiator := .sv;
     (s.Takes ini (Reg.CIP_LOCK)) ∧ (s.fld F.CIP_LOCK_OWNER ≠ cipOwner ini) ∧ ((cipOwner ini) ∉ s.cip.queue)) ∧
    -- clause 27
    (let s : State := cipHeld; let ini : Initiator := .sv;
     (s.Takes ini (Reg.CIP_LOCK)) ∧ (s.fld F.CIP_LOCK_OWNER = cipOwner ini ∨ (cipOwner ini) ∈ s.cip.queue)) ∧
    -- clause 28
    (let s : State := cipHeld; let ini : Initiator := .sv;
     (s.Takes ini (Reg.CIP_LOCK)) ∧ (s.fld F.CIP_LOCK_OWNER = cipOwner ini) ∧ (s.cip.op = none)) ∧
    -- clause 29
    (let w : Nat := 5;
     (w < 6)) ∧
    -- clause 30
    (let s : State := cipBusy 2; let ini : Initiator := .sv;
     (s.Takes ini (Reg.CIP_LOCK)) ∧ (s.fld F.CIP_LOCK_OWNER = cipOwner ini) ∧ (s.cip.op ≠ none)) ∧
    -- clause 31
    (let s : State := lit; let ini : Initiator := .sv;
     (s.Takes ini (Reg.CIP_LOCK)) ∧ (s.fld F.CIP_LOCK_OWNER ≠ cipOwner ini)) := by
  refine ⟨?_, ?_, ?_, ?_, ?_, ?_⟩ <;> decide +kernel

theorem test_cipherCommands_10 :
    -- clause 32
    (let s : State := { lit with cip := { lit.cip with queue := [2, 3] } }; let o : Nat := 2;
     let rest : List Nat := [3];
     (s.fld F.CIP_LOCK_OWNER = 0) ∧ (s.domOn 7 = true) ∧ (s.cip.queue = o :: rest)) ∧
    -- clause 33
    (let s : State := lit;
     (s.fld F.CIP_LOCK_OWNER ≠ 0 ∨ s.cip.queue = [])) ∧
    -- clause 34
    (let s : State := cipHeld.setFld F.CIP_LOCKTO_T 3;
     (s.fld F.CIP_LOCKTO_T ≠ 0) ∧ (1 ≤ s.fld F.CIP_LOCK_OWNER) ∧ (s.fld F.CIP_LOCK_OWNER ≤ 5) ∧ (s.cip.op = none)) ∧
    -- clause 35
    (let s : State := lit;
     (s.fld F.CIP_LOCKTO_T = 0 ∨ 5 < s.fld F.CIP_LOCK_OWNER)) ∧
    -- clause 36
    (let s : State := lit; let n : Fin 17 := 4; let ad : List Byte := []; let data : List Byte := [];
     (s.domOn 7 = true) ∧ (s.cip.slotJob = none) ∧ (ad.length + data.length + n ≤ 127)) ∧
    -- clause 37
    (let s : State := { lit with cip := { lit.cip with slotJob := some slotJ } }; let j : SlotJob := slotJ;
     (s.cip.slotJob = some j) ∧ (j.running = true) ∧ (j.key.okFor j.slot 6 = false)) := by
  refine ⟨?_, ?_, ?_, ?_, ?_, ?_⟩ <;> decide +kernel

theorem test_cipherCommands_11 :
    -- clause 38
    (let s : State := { lit with cip := { lit.cip with slotJob := some slotKeyed } }; let j : SlotJob := slotKeyed;
     let out : List Byte := (ccmStar slotKeyed.key.key slotKeyed.nonce slotKeyed.adata slotKeyed.data 4 true false).1;
     let tag : List Byte := (ccmStar slotKeyed.key.key slotKeyed.nonce slotKeyed.adata slotKeyed.data 4 true false).2;
     (s.cip.slotJob = some j) ∧ (j.running = true) ∧ (j.key.okFor j.slot 6 = true) ∧ (j.key.size = 0) ∧ (j.dec =
       false) ∧ (ccmStar j.key.key j.nonce j.adata j.data j.tagLen j.enc j.dec = (out, tag))) := by
  decide +kernel

theorem test_cipherFunctions :
    -- ctr_inverse
    ((⟨1, false, true, false, 2, 16, 0, 0, 0, 5, false, true, true⟩ : JobArgs).mode = 1) := by
  decide +kernel

theorem test_linkCommands :
    -- clause 0
    (let s : State := lit; let ini : Initiator := .cc 1;
     (s.Takes ini (Reg.LNK_CMD)) ∧ (s.lnkState = 0)) ∧
    -- clause 1
    (let s : State := lnkSync; let ini : Initiator := .cc 1;
     (s.Takes ini (Reg.LNK_CMD)) ∧ (s.lnkState ≠ 0)) ∧
    -- clause 2
    (let s : State := lit; let ini : Initiator := .cc 1;
     (s.Takes ini (Reg.LNK_CMD)) ∧ (s.lnkState = 0 ∨ s.lnkState = 1 ∨ s.lnkState = 4)) ∧
    -- clause 2
    (let s : State := lnkCsma; let ini : Initiator := .cc 1;
     (s.Takes ini (Reg.LNK_CMD)) ∧ (s.lnkState = 0 ∨ s.lnkState = 1 ∨ s.lnkState = 4)) ∧
    -- clause 3
    (let s : State := lnkSync; let ini : Initiator := .cc 1;
     (s.Takes ini (Reg.LNK_CMD)) ∧ (s.lnkState = 2 ∨ s.lnkState = 3)) ∧
    -- clause 4
    (let s : State := lnkSync; let ini : Initiator := .cc 1;
     (s.Takes ini (Reg.LNK_CMD))) ∧
    -- clause 5
    (let s : State := lnkAir; let ini : Initiator := .cc 1; let b : Nat := 3;
     (s.Takes ini (Reg.LNK_CMD)) ∧ (s.lnk.woke = []) ∧ (s.fld F.LNK_CFG_AUTORET = 0) ∧ (b < 16)) ∧
    -- clause 5
    (let s : State := lnkTxl; let ini : Initiator := .cc 1; let b : Nat := 3;
     (s.Takes ini (Reg.LNK_CMD)) ∧ (s.lnk.woke = []) ∧ (s.fld F.LNK_CFG_AUTORET = 0) ∧ (b < 16)) ∧
    -- clause 6
    (let s : State := lit.setTx 0 { d0 := 0x82 }; let ini : Initiator := .cc 1;
     (s.Takes ini (Reg.LNK_TXCMD)) ∧ ((s.tx s.txSel).st = 0) ∧ ((s.tx s.txSel).bad = false)) ∧
    -- clause 7
    (let s : State := lit; let ini : Initiator := .cc 1;
     (s.Takes ini (Reg.LNK_TXCMD)) ∧ ((s.tx s.txSel).st = 0) ∧ ((s.tx s.txSel).bad = true)) := by
  refine ⟨?_, ?_, ?_, ?_, ?_, ?_, ?_, ?_, ?_, ?_⟩ <;> decide +kernel

theorem test_linkCommands_2 :
    -- clause 8
    (let s : State := lit.setTx 0 { st := 1 }; let ini : Initiator := .cc 1;
     (s.Takes ini (Reg.LNK_TXCMD)) ∧ ((s.tx s.txSel).st ≠ 0)) ∧
    -- clause 10
    (let s : State := lit.setTx 0 { st := 1 }; let ini : Initiator := .cc 1;
     (s.Takes ini (Reg.LNK_TXCMD)) ∧ ((s.tx s.txSel).st = 1)) ∧
    -- clause 11
    (let s : State := lnkAir.setFld F.LNK_TXSEL_BUF 3; let ini : Initiator := .cc 1; let l : Option Bool := none;
     (s.Takes ini (Reg.LNK_TXCMD)) ∧ ((s.tx s.txSel).st = 2) ∧ (s.lnk.onAir = some (s.txSel, l))) ∧
    -- clause 12
    (let s : State := lnkTxl.setFld F.LNK_TXSEL_BUF 3; let ini : Initiator := .cc 1;
     (s.Takes ini (Reg.LNK_TXCMD)) ∧ ((s.tx s.txSel).st = 2) ∧ (s.lnk.onAir = none) ∧ ((s.tx s.txSel).csma = false)) ∧
    -- clause 13
    (let s : State := lit; let ini : Initiator := .cc 1;
     (s.Takes ini (Reg.LNK_TXCMD)) ∧ ((s.tx s.txSel).st = 0 ∨ (s.tx s.txSel).st = 3)) ∧
    -- clause 14
    (let s : State := lit; let ini : Initiator := .cc 1; let b : TxBuf := {};
     (s.Takes ini (Reg.LNK_TXCMD)) ∧ (b = s.tx s.txSel) ∧ (b.st = 0) ∧ (b.off + b.aplen ≤ 384) ∧ (b.tlen + b.aplen ≤
       127) ∧ (s.spOn b.cluster = true) ∧ (s.tag b.cluster b.row = false)) ∧
    -- clause 15
    (let s : State := lit.setTag 0 0 true; let ini : Initiator := .cc 1; let b : TxBuf := {};
     (s.Takes ini (Reg.LNK_TXCMD)) ∧ (b = s.tx s.txSel) ∧ (b.st = 0) ∧ (b.off + b.aplen ≤ 384) ∧ (b.tlen + b.aplen ≤
       127) ∧ (s.spOn b.cluster = true) ∧ (s.tag b.cluster b.row = true)) ∧
    -- clause 16
    (let s : State := lit.setTx 0 { st := 3 }; let ini : Initiator := .cc 1;
     (s.Takes ini (Reg.LNK_TXCMD)) ∧ ((s.tx s.txSel).st = 3)) ∧
    -- clause 17
    (let s : State := lit; let ini : Initiator := .cc 1;
     (s.Takes ini (Reg.LNK_TXCMD)) ∧ ((s.tx s.txSel).st ≠ 3)) ∧
    -- clause 18
    (let s : State := lit; let ini : Initiator := .cc 1;
     (s.Takes ini (Reg.LNK_RXPOP)) ∧ (s.fld F.LNK_CFG_AUTORET = 0)) := by
  refine ⟨?_, ?_, ?_, ?_, ?_, ?_, ?_, ?_, ?_, ?_⟩ <;> decide +kernel

theorem test_linkCommands_3 :
    -- clause 19
    (let s : State := lit; let ini : Initiator := .cc 1;
     (s.Takes ini (Reg.LNK_FC0))) ∧
    -- clause 20
    (let s : State := lit; let ini : Initiator := .cc 1;
     (s.Takes ini (Reg.LNK_FC1))) ∧
    -- clause 21
    (let s : State := lit; let ini : Initiator := .cc 1;
     (s.Takes ini (Reg.RAD_CHAN))) ∧
    -- clause 21
    (let s : State := lit; let ini : Initiator := .cc 1;
     (s.Takes ini (Reg.RAD_CHAN))) ∧
    -- clause 22
    (let s : State := lit; let ini : Initiator := .cc 1; let v : Word := 10; let p : Int := 10;
     (s.Takes ini (Reg.RAD_TXPWR)) ∧ ((v.truncate 6).toInt = p) ∧ (-20 ≤ p) ∧ (p ≤ 10)) ∧
    -- clause 22
    (let s : State := lit; let ini : Initiator := .cc 1; let v : Word := 44; let p : Int := -20;
     (s.Takes ini (Reg.RAD_TXPWR)) ∧ ((v.truncate 6).toInt = p) ∧ (-20 ≤ p) ∧ (p ≤ 10)) ∧
    -- clause 23
    (let s : State := lit; let ini : Initiator := .cc 1; let v : Word := 11; let p : Int := 11;
     (s.Takes ini (Reg.RAD_TXPWR)) ∧ ((v.truncate 6).toInt = p) ∧ (p < -20 ∨ 10 < p)) ∧
    -- clause 23
    (let s : State := lit; let ini : Initiator := .cc 1; let v : Word := 43; let p : Int := -21;
     (s.Takes ini (Reg.RAD_TXPWR)) ∧ ((v.truncate 6).toInt = p) ∧ (p < -20 ∨ 10 < p)) ∧
    -- clause 24
    (let s : State := lnkSync.setFld F.LNK_DESYNC_SLOTS 0;
     (s.desyncDue = true)) ∧
    -- clause 25
    (let s : State := lit;
     (s.desyncDue = false)) := by
  refine ⟨?_, ?_, ?_, ?_, ?_, ?_, ?_, ?_, ?_, ?_⟩ <;> decide +kernel

theorem test_linkCommands_4 :
    -- clause 26
    (let s : State := { lit with lnk := { lit.lnk with ed := true } }; let p : Int := -128;
     (s.lnk.ed = true) ∧ (-128 ≤ p) ∧ (p ≤ 127)) ∧
    -- clause 27
    (let s : State := lit;
     (s.lnk.ed = false)) ∧
    -- clause 28
    (let s : State := { lit with lnk := { lit.lnk with rxLink := some ⟨11, 0⟩ } }; let l : RxSlot := ⟨11, 0⟩;
     (s.lnk.rxLink = some l) ∧ (s.lnk.woke = []) ∧ (s.fld F.LNK_CFG_AUTORET = 0)) ∧
    -- clause 29
    (let s : State := lit;
     (s.lnk.rxLink = none)) := by
  refine ⟨?_, ?_, ?_, ?_⟩ <;> decide +kernel

theorem test_linkSlots :
    -- clause 0
    (let s : State := lnkSync;
     (s.lnkState = 2) ∧ (s.fld F.LNK_STATUS_HELD = 0) ∧ (1 ≤ s.dom 3) ∧ (s.weather = .run) ∧ (s.desyncDue = false) ∧
       (∀ l : Nat, l < 128 → s.linkActive ((s.asn + 1) % 2 ^ 40) l = false) ∧ (s.lnk.woke = []) ∧ (s.fld
       F.LNK_CFG_AUTORET = 0) ∧ (s.fld F.LNK_CFG_SLOTEV = 0) ∧ (∀ n : Nat, n < 4 → s.fld (F.LNK_ASNMAT0_PERIOD n) =
       0)) ∧
    -- clause 1
    (let s : State := lnkRxl; let l : Nat := 4;
     (s.lnkState = 2) ∧ (s.fld F.LNK_STATUS_HELD = 0) ∧ (1 ≤ s.dom 3) ∧ (s.weather = .run) ∧ (s.desyncDue = false) ∧
       (s.chooseLink ((s.asn + 1) % 2 ^ 40) = some l) ∧ (linkTx (s.link l) = false) ∧ (linkRx (s.link l) = true) ∧
       (s.rfOn = true) ∧ (s.lnk.onAir = none) ∧ (s.lnk.rxLink = none)) ∧
    -- clause 2
    (let s : State := lnkTxl; let cca : Cca := ⟨-200, false⟩; let l : Nat := 4; let b : Nat := 3;
     (s.lnkState = 2) ∧ (s.fld F.LNK_STATUS_HELD = 0) ∧ (1 ≤ s.dom 3) ∧ (s.weather = .run) ∧ (s.desyncDue = false) ∧
       (s.chooseLink ((s.asn + 1) % 2 ^ 40) = some l) ∧ (s.linkBuf l = some b) ∧ (b < 16) ∧ (s.rfOn = true) ∧
       (s.lnk.onAir = none) ∧ (s.lnk.rxLink = none) ∧ ((s.tx b).st = 2) ∧ ((s.tx b).secure = false) ∧ ((s.tx b).asnPos
       = 0) ∧ ((s.tx b).backoff = 0) ∧ (s.fld F.LNK_CFG_TSCHCCA = 0 ∨ linkShared (s.link l) = true ∨ s.ccaBusy cca =
       false)) ∧
    -- clause 3
    (let s : State := lit;
     (s.tsch = false)) ∧
    -- clause 4
    (let s : State := lnkSync;
     (s.tsch = true) ∧ (s.chooseLink ((s.asn + 1) % 2 ^ 40) = none)) ∧
    -- clause 5
    (let s : State := (lnkRxl.setFld (F.PWR_DOM_ACT 7) 0).setFld (F.PWR_DOM_REQ 7) 0; let l : Nat := 4;
     (s.tsch = true) ∧ (1 ≤ s.dom 3) ∧ (s.weather = .run) ∧ (s.chooseLink ((s.asn + 1) % 2 ^ 40) = some l) ∧
       ((s.requestOn (s.slotNeeds l) false).2 = false)) := by
  refine ⟨?_, ?_, ?_, ?_, ?_, ?_⟩ <;> decide +kernel

theorem test_linkSlots_2 :
    -- clause 6
    (let s : State := lnkRxl.setFld F.PWR_CTRL_MODE 1; let l : Nat := 4;
     (s.tsch = true) ∧ (1 ≤ s.dom 3) ∧ (s.weather = .run) ∧ (s.chooseLink ((s.asn + 1) % 2 ^ 40) = some l) ∧
       ((s.requestOn (s.slotNeeds l) false).2 = true)) ∧
    -- clause 7
    (let s : State := lit;
     (s.fld F.LNK_HOPCFG_LEN < 16)) ∧
    -- clause 9
    (let s : State := lit;
     (s.lnkState ≠ 1) ∧ (s.lnkState ≠ 4)) ∧
    -- clause 10
    (let s : State := lnkAcc; let b : Nat := 3; let cca : Cca := ⟨-200, false⟩;
     (s.csmaMode = true) ∧ (s.domOn 3 = true) ∧ (s.rfOn = true) ∧ (s.lnk.onAir = none) ∧ (s.oldest (s.fbit
       F.LNK_CSMA_QMASK ·) = some b) ∧ ((s.tx b).st = 2) ∧ ((s.tx b).csma = true) ∧ ((s.tx b).secure = false ∨ s.domOn
       7 = true) ∧ (s.ccaBusy cca = false)) ∧
    -- clause 11
    (let s : State := lnkAcc.setFld F.LNK_CSMA_MAXBO 4; let b : Nat := 3; let cca : Cca := ⟨127, true⟩;
     (s.csmaMode = true) ∧ (s.domOn 3 = true) ∧ (s.rfOn = true) ∧ (s.lnk.onAir = none) ∧ (s.oldest (s.fbit
       F.LNK_CSMA_QMASK ·) = some b) ∧ ((s.tx b).st = 2) ∧ ((s.tx b).csma = true) ∧ ((s.tx b).secure = false ∨ s.domOn
       7 = true) ∧ (s.ccaBusy cca = true) ∧ ((s.tx b).nb + 1 ≤ s.fld F.LNK_CSMA_MAXBO)) ∧
    -- clause 12
    (let s : State := (lnkAcc.setTx 3 { lnkAcc.tx 3 with nb := 9 }).setFld F.LNK_CSMA_MAXBO 4; let b : Nat := 3;
     let cca : Cca := ⟨127, true⟩;
     (s.csmaMode = true) ∧ (s.domOn 3 = true) ∧ (s.rfOn = true) ∧ (s.lnk.onAir = none) ∧ (s.oldest (s.fbit
       F.LNK_CSMA_QMASK ·) = some b) ∧ ((s.tx b).st = 2) ∧ ((s.tx b).csma = true) ∧ ((s.tx b).secure = false ∨ s.domOn
       7 = true) ∧ (s.ccaBusy cca = true) ∧ (s.fld F.LNK_CSMA_MAXBO < (s.tx b).nb + 1)) := by
  refine ⟨?_, ?_, ?_, ?_, ?_, ?_⟩ <;> decide +kernel

theorem test_linkSlots_3 :
    -- clause 13
    (let s : State := lnkAir; let b : Nat := 3; let l : Option Bool := none;
     (s.lnk.onAir = some (b, l)) ∧ (s.lnk.woke = []) ∧ (s.fld F.LNK_CFG_AUTORET = 0) ∧ ((mhrOf (s.tx b).plain).ackReq
       = true)) ∧
    -- clause 14
    (let s : State := lnkAirBcast; let b : Nat := 3; let l : Option Bool := none;
     (s.lnk.onAir = some (b, l)) ∧ (s.lnk.woke = []) ∧ (s.fld F.LNK_CFG_AUTORET = 0) ∧ ((mhrOf (s.tx b).plain).ackReq
       = false)) ∧
    -- clause 15
    (let s : State := lnkAir; let b : Nat := 3; let l : Option Bool := none;
     (s.lnk.onAir = some (b, l)) ∧ (s.lnk.woke = []) ∧ (s.fld F.LNK_CFG_AUTORET = 0) ∧ ((mhrOf (s.tx b).plain).ackReq
       = true) ∧ ((s.tx b).cancel = true ∨ (s.tx b).maxRetry ≤ (s.tx b).tries)) ∧
    -- clause 16
    (let s : State := lnkAir.setTx 3 { lnkAir.tx 3 with d1 := 0x180000 }; let b : Nat := 3;
     let l : Option Bool := none;
     (s.lnk.onAir = some (b, l)) ∧ (s.lnk.woke = []) ∧ (s.fld F.LNK_CFG_AUTORET = 0) ∧ ((mhrOf (s.tx b).plain).ackReq
       = true) ∧ ((s.tx b).cancel = false) ∧ ((s.tx b).tries < (s.tx b).maxRetry) ∧ ((s.tx b).csma = true)) ∧
    -- clause 17
    (let s : State := lit;
     (s.lnk.onAir = none)) ∧
    -- clause 18
    (let s : State := lnkCsma; let psdu : List Byte := [1, 2];
     (s.domOn 3 = true) ∧ (s.rfOn = true) ∧ (s.lnk.onAir = none) ∧ (s.lnk.rxLink = none) ∧ (s.csmaMode = true) ∧
       (s.lnk.woke = []) ∧ (s.fld F.LNK_CFG_AUTORET = 0) ∧ (psdu.length < 3 ∨ withFcs (psdu.take (psdu.length - 2)) ≠
       psdu)) := by
  refine ⟨?_, ?_, ?_, ?_, ?_, ?_⟩ <;> decide +kernel

theorem test_linkSlots_4 :
    -- clause 19
    (let s : State := lnkAir;
     (s.domOn 3 = false ∨ s.rfOn = false ∨ s.lnk.onAir ≠ none)) ∧
    -- clause 20
    (let s : State := lnkCsma; let bs : List Byte := [1, 0, 5, 9];
     (s.domOn 3 = true) ∧ (s.rfOn = true) ∧ (s.lnk.onAir = none) ∧ (s.lnk.rxLink = none) ∧ (s.csmaMode = true) ∧
       (s.lnk.woke = []) ∧ (s.fld F.LNK_CFG_AUTORET = 0) ∧ (1 ≤ bs.length) ∧ (bs.length ≤ 125) ∧ ((mhrOf bs).supported
       = true) ∧ (s.forMe (mhrOf bs) = true) ∧ ((mhrOf bs).level = 0) ∧ ((mhrOf bs).ackReq = false) ∧ (s.nbrOf (mhrOf
       bs).srcMode (mhrOf bs).src = none) ∧ (s.lnk.rx.length < 16)) ∧
    -- clause 21
    (let s : State := { lit with lnk := { lit.lnk with rx := List.replicate 16 ⟨[], 0, 0, false, 0, 0, 0, 0, 0, false,
       false⟩ } };
     (16 ≤ s.lnk.rx.length)) := by
  refine ⟨?_, ?_, ?_⟩ <;> decide +kernel

theorem test_meshFormation :
    -- clause 0
    (let s : State := lit; let heard : List Heard := [meshHeard 2];
     (s.mesh.phase = .scan) ∧ ((s.mesh.kept ++ heard.filterMap heardBeacon).any (fun b => (b.kind == 2 || b.kind == 3)
       && b.joinOpen) = true)) ∧
    -- clause 1
    (let s : State := lit; let heard : List Heard := [meshHeard 1];
     (s.mesh.phase = .scan) ∧ ((s.mesh.kept ++ heard.filterMap heardBeacon).any (fun b => (b.kind == 2 || b.kind == 3)
       && b.joinOpen) = false) ∧ ((s.mesh.kept ++ heard.filterMap heardBeacon).any (·.kind == 1) = true)) ∧
    -- clause 2
    (let s : State := lit;
     (s.mesh.phase = .scan) ∧ (s.mesh.kept = [])) ∧
    -- clause 3
    (let s : State := meshLit { kept := [{ meshBeacon with joinOpen := false }] }; let heard : List Heard := [];
     (s.mesh.phase = .scan) ∧ ((s.mesh.kept ++ heard.filterMap heardBeacon).any (fun b => (b.kind == 2 || b.kind == 3)
       && b.joinOpen) = false) ∧ ((s.mesh.kept ++ heard.filterMap heardBeacon).any (·.kind == 1) = false) ∧
       (s.mesh.kept ++ heard.filterMap heardBeacon ≠ [])) ∧
    -- clause 4
    (let s : State := lit; let heard : List Heard := [];
     (s.mesh.phase = .scan) ∧ ((s.mesh.kept ++ heard.filterMap heardBeacon).any (fun b => (b.kind == 2 || b.kind == 3)
       && b.joinOpen) = false) ∧ ((s.mesh.kept ++ heard.filterMap heardBeacon).any (·.kind == 1) = false)) ∧
    -- clause 5
    (let s : State := meshRoot;
     (s.mesh.phase ≠ .scan)) ∧
    -- clause 6
    (let s : State := lit;
     (s.domOn 3 = true) ∧ (s.lnkState = 0)) ∧
    -- clause 7
    (let s : State := lnkSync;
     (s.domOn 3 = true) ∧ (s.lnkState ≠ 0)) := by
  refine ⟨?_, ?_, ?_, ?_, ?_, ?_, ?_, ?_⟩ <;> decide +kernel

theorem test_meshFormation_2 :
    -- clause 8
    (let ch : Nat := 11;
     (11 ≤ ch) ∧ (ch ≤ 26)) ∧
    -- clause 8
    (let ch : Nat := 26;
     (11 ≤ ch) ∧ (ch ≤ 26)) ∧
    -- clause 9
    (let h : Heard := { meshHeard 2 with secok := false };
     (h.secok = false ∨ h.ie.length < 20)) ∧
    -- clause 9
    (let h : Heard := { meshHeard 2 with ie := [] };
     (h.secok = false ∨ h.ie.length < 20)) ∧
    -- clause 10
    (let h : Heard := { meshHeard 2 with ie := mmpIe 3 65535 (2 ^ 64 - 1) 65535 65535 true false 255 };
     let k : Nat := 3; let c : Nat := 65535; let r : Nat := 2 ^ 64 - 1; let g : Nat := 65535; let n : Nat := 65535;
     let d : Nat := 255; let j : Bool := true; let st : Bool := false;
     (1 ≤ k) ∧ (k ≤ 3) ∧ (c < 65536) ∧ (r < 2 ^ 64) ∧ (g < 65536) ∧ (n < 65536) ∧ (d < 256) ∧ (h.secok = true) ∧ (h.ie
       = mmpIe k c r g n j st d)) ∧
    -- clause 11
    (let m : Mesh := { kept := [meshBeacon] }; let a : Beacon := meshBeacon; let b : Beacon := meshBeacon;
     (b ∈ m.candidates) ∧ (a ∈ m.kept) ∧ (a.kind = 2 ∨ a.kind = 3)) ∧
    -- clause 12
    (let s : State := lit;
     (s.mesh.candidates = [])) ∧
    -- clause 13
    (let s : State := meshLit { kept := [meshBeacon] }; let b : Beacon := meshBeacon;
     (bestBeacon s.mesh.candidates = some b) ∧ (s.domOn 3 = true)) := by
  refine ⟨?_, ?_, ?_, ?_, ?_, ?_, ?_, ?_⟩ <;> decide +kernel

theorem test_meshFormation_3 :
    -- clause 15
    (let s : State := meshClaiming;
     (s.mesh.phase = .claiming)) ∧
    -- clause 16
    (let s : State := lit;
     (s.mesh.phase ≠ .claiming)) ∧
    -- clause 17
    (let s : State := meshClaiming; let h : Heard := meshHeard 1;
     let b : Beacon := { meshBeacon with kind := 1, start := false };
     (s.mesh.phase = .claiming) ∧ (heardBeacon h = some b) ∧ (b.kind = 1) ∧ (s.lowerClaim b = true)) ∧
    -- clause 18
    (let s : State := meshAt { phase := .claiming, claim := 5, sent := 4 }; let h : Heard := meshHeard 1;
     let b : Beacon := { meshBeacon with kind := 1, start := false };
     (s.mesh.phase = .claiming) ∧ (heardBeacon h = some b) ∧ (b.kind = 1) ∧ (s.lowerClaim b = false)) ∧
    -- clause 20
    (let s : State := meshClaiming; let h : Heard := (meshHeard 2); let b : Beacon := meshBeacon;
     (s.mesh.phase = .claiming ∨ s.mesh.phase = .withdrawn) ∧ (heardBeacon h = some b) ∧ (b.kind ≠ 1)) ∧
    -- clause 20
    (let s : State := meshAt { phase := .withdrawn }; let h : Heard := meshHeard 3;
     let b : Beacon := { meshBeacon with kind := 3, start := false };
     (s.mesh.phase = .claiming ∨ s.mesh.phase = .withdrawn) ∧ (heardBeacon h = some b) ∧ (b.kind ≠ 1)) ∧
    -- clause 21
    (let s : State := lit; let h : Heard := meshHeard 1;
     let b : Beacon := { meshBeacon with kind := 1, start := false };
     (s.mesh.phase = .scan) ∧ (heardBeacon h = some b) ∧ (b.kind = 1)) ∧
    -- clause 22
    (let h : Heard := { meshHeard 2 with secok := false };
     (heardBeacon h = none)) := by
  refine ⟨?_, ?_, ?_, ?_, ?_, ?_, ?_, ?_⟩ <;> decide +kernel

theorem test_meshFormation_4 :
    -- clause 23
    (let s : State := meshLit { phase := .claiming, sent := 1 };
     (s.mesh.phase = .claiming) ∧ (s.mesh.sent ≠ 0) ∧ (s.domOn 3 = true)) ∧
    -- clause 24
    (let s : State := lit;
     (s.mesh.phase ≠ .claiming ∨ s.mesh.sent = 0)) ∧
    -- clause 24
    (let s : State := meshLit { phase := .claiming };
     (s.mesh.phase ≠ .claiming ∨ s.mesh.sent = 0)) ∧
    -- clause 25
    (let s : State := meshAt { phase := .withdrawn }; let h : Heard := (meshHeard 2); let b : Beacon := meshBeacon;
     (s.mesh.phase = .withdrawn ∨ s.mesh.phase = .waiting) ∧ (heardBeacon h = some b) ∧ (b.start = true) ∧ (b.kind =
       2)) ∧
    -- clause 25
    (let s : State := meshAt { phase := .waiting }; let h : Heard := (meshHeard 2); let b : Beacon := meshBeacon;
     (s.mesh.phase = .withdrawn ∨ s.mesh.phase = .waiting) ∧ (heardBeacon h = some b) ∧ (b.start = true) ∧ (b.kind =
       2)) ∧
    -- clause 26
    (let s : State := lnkSync.setMesh { phase := .withdrawn };
     (s.mesh.phase = .withdrawn) ∧ (s.domOn 3 = true) ∧ (s.lnkState ≠ 0)) ∧
    -- clause 27
    (let s : State := lit;
     (s.mesh.phase ≠ .withdrawn)) ∧
    -- clause 28
    (let s : State := meshLit { phase := .joining, cand := some meshBeacon, tries := 3, kept := [] };
     let b : Beacon := meshBeacon;
     (s.mesh.phase = .joining) ∧ (s.mesh.cand = some b) ∧ (s.mesh.tries < 4)) := by
  refine ⟨?_, ?_, ?_, ?_, ?_, ?_, ?_, ?_⟩ <;> decide +kernel

theorem test_meshFormation_5 :
    -- clause 29
    (let s : State := meshLit { phase := .joining, cand := some meshBeacon, tries := 4, kept := [] };
     let b : Beacon := meshBeacon;
     (s.mesh.phase = .joining) ∧ (s.mesh.cand = some b) ∧ (4 ≤ s.mesh.tries) ∧ (s.mesh.kept = [])) ∧
    -- clause 30
    (let s : State := meshLit { phase := .joining, cand := some meshBeacon, tries := 4, kept := [meshBeacon] };
     let b : Beacon := meshBeacon; let d : Beacon := meshBeacon;
     (s.mesh.phase = .joining) ∧ (s.mesh.cand = some b) ∧ (4 ≤ s.mesh.tries) ∧ (bestBeacon s.mesh.kept = some d)) ∧
    -- clause 31
    (let s : State := meshLit { phase := .joining, cand := some meshBeacon, tries := 1, kept := [] };
     let b : Beacon := meshBeacon; let f : MmpFrame := { meshFrame with origin := 0x77 };
     (s.mesh.phase = .joining) ∧ (s.mesh.cand = some b) ∧ (f.secok = true) ∧ (f.origin = b.src) ∧ (frameByte f.payload
       0 = 0)) ∧
    -- clause 32
    (let s : State := meshLit { phase := .joining, cand := some meshBeacon, tries := 1, kept := [] };
     let b : Beacon := meshBeacon; let f : MmpFrame := { meshFrame with origin := 0x77, payload := [1] };
     (s.mesh.phase = .joining) ∧ (s.mesh.cand = some b) ∧ (f.secok = true) ∧ (f.origin = b.src) ∧ (frameByte f.payload
       0 ≠ 0)) ∧
    -- clause 33
    (let s : State := lit; let f : MmpFrame := meshFrame;
     (f.secok = false ∨ s.mesh.phase ≠ .joining)) ∧
    -- clause 33
    (let s : State := meshJoining; let f : MmpFrame := { meshFrame with secok := false };
     (f.secok = false ∨ s.mesh.phase ≠ .joining)) ∧
    -- clause 34
    (let s : State := meshRoot; let f : MmpFrame := meshFrame; let ts : Nat := 2;
     (f.secok = true) ∧ (s.mesh.phase = .root) ∧ (s.mesh.children.find? (·.addr == f.origin) = none) ∧
       (s.mesh.freeSlot = some ts) ∧ (s.mesh.depth = 0) ∧ (s.mesh.streams.length < 64)) ∧
    -- clause 35
    (let s : State := meshLit { phase := .root, children := (List.range 98).map fun t => meshKid t (2 + t) };
     let f : MmpFrame := { meshFrame with origin := 999 };
     (f.secok = true) ∧ (s.mesh.phase = .root) ∧ (s.mesh.children.find? (·.addr == f.origin) = none) ∧
       (s.mesh.freeSlot = none)) := by
  refine ⟨?_, ?_, ?_, ?_, ?_, ?_, ?_, ?_⟩ <;> decide +kernel

theorem test_meshFormation_6 :
    -- clause 36
    (let s : State := meshLit { phase := .root, streams := List.replicate 64 meshStream };
     let f : MmpFrame := { meshFrame with payload := [0, 1] }; let ts : Nat := 2;
     (f.secok = true) ∧ (s.mesh.phase = .root) ∧ (s.mesh.children.find? (·.addr == f.origin) = none) ∧
       (s.mesh.freeSlot = some ts) ∧ (s.mesh.depth = 0) ∧ (64 ≤ s.mesh.streams.length) ∧ (frameByte f.payload 1 ≠ 0)) ∧
    -- clause 37
    (let s : State := meshLit { phase := .joined, hub := true, depth := 2 };
     let f : MmpFrame := { meshFrame with payload := [1, 0] }; let ts : Nat := 2;
     (f.secok = true) ∧ (s.mesh.phase = .joined) ∧ (s.mesh.hub = true) ∧ (s.mesh.children.find? (·.addr == f.origin) =
       none) ∧ (s.mesh.freeSlot = some ts) ∧ ((if frameByte f.payload 0 = 1 then 1 else 2) < s.mesh.depth)) ∧
    -- clause 38
    (let m : Mesh := {}; let ts : Nat := 2;
     (m.freeSlot = some ts)) ∧
    -- clause 39
    (let s : State := lit; let f : MmpFrame := meshFrame;
     (f.secok = false ∨ (s.mesh.phase ≠ .root ∧ s.mesh.phase ≠ .joined))) ∧
    -- clause 39
    (let s : State := meshRoot; let f : MmpFrame := { meshFrame with secok := false };
     (f.secok = false ∨ (s.mesh.phase ≠ .root ∧ s.mesh.phase ≠ .joined))) := by
  refine ⟨?_, ?_, ?_, ?_, ?_⟩ <;> decide +kernel

theorem test_meshTraffic :
    -- clause 0
    (let s : State := meshRoot; let f : MmpFrame := meshFrame;
     (f.secok = true) ∧ (s.mesh.phase = .root) ∧ (frameByte f.payload 8 = 0)) ∧
    -- clause 1
    (let s : State := meshRoot; let f : MmpFrame := { meshFrame with payload := [5, 0, 0, 0, 0, 0, 0, 0, 1] };
     (f.secok = true) ∧ (s.mesh.phase = .root) ∧ (frameByte f.payload 8 ≠ 0)) ∧
    -- clause 2
    (let s : State := lit;
     (s.mesh.phase ≠ .root)) ∧
    -- clause 3
    (let s : State := meshAt { phase := .joined, hub := true, parent := 7 };
     let f : MmpFrame := { meshFrame with up := true };
     (f.secok = true) ∧ (s.mesh.phase = .joined) ∧ (s.mesh.hub = true) ∧ (f.up = true) ∧ (2 ≤ f.ttl)) ∧
    -- clause 4
    (let f : MmpFrame := { meshFrame with ttl := 1 };
     (f.ttl ≤ 1)) ∧
    -- clause 5
    (let s : State := meshRoot; let f : MmpFrame := { meshFrame with up := true };
     (s.mesh.phase = .root) ∧ (f.up = true)) ∧
    -- clause 6
    (let s : State := meshAt { phase := .root, routes := [(5, 6)], children := [meshKid 6 2] };
     let f : MmpFrame := { meshFrame with type := 6, payload := [5] }; let r : Nat := 6;
     (f.secok = true) ∧ (s.mesh.phase = .root) ∧ (f.up = false) ∧ (f.type = 6 ∨ f.type = 7) ∧ (2 ≤ f.ttl) ∧ (frameWord
       f.payload 0 8 ≠ s.uid) ∧ (s.mesh.children.any (fun u => u.addr == frameWord f.payload 0 8) = false) ∧
       ((s.mesh.routes.find? (fun u => u.1 == frameWord f.payload 0 8)) = some (frameWord f.payload 0 8, r)) ∧
       (s.mesh.children.any (fun u => u.addr == r) = true)) ∧
    -- clause 7
    (let s : State := meshAt { phase := .root, children := [meshKid 5 2] };
     let f : MmpFrame := { meshFrame with type := 6, payload := [5] };
     (f.secok = true) ∧ (s.mesh.phase = .root) ∧ (f.up = false) ∧ (f.type = 6 ∨ f.type = 7) ∧ (2 ≤ f.ttl) ∧ (frameWord
       f.payload 0 8 ≠ s.uid) ∧ (s.mesh.children.any (fun u => u.addr == frameWord f.payload 0 8) = true)) := by
  refine ⟨?_, ?_, ?_, ?_, ?_, ?_, ?_, ?_⟩ <;> decide +kernel

theorem test_meshTraffic_2 :
    -- clause 8
    (let s : State := meshAt { phase := .joined, hub := true, parent := 7 };
     let f : MmpFrame := { meshFrame with type := 6, payload := [5] };
     (f.secok = true) ∧ (s.mesh.phase = .joined) ∧ (s.mesh.hub = true) ∧ (f.up = false) ∧ (f.type = 6 ∨ f.type = 7) ∧
       (2 ≤ f.ttl) ∧ (frameWord f.payload 0 8 ≠ s.uid) ∧ (s.mesh.children = []) ∧ (s.mesh.routes = [])) ∧
    -- clause 9
    (let s : State := meshRoot; let f : MmpFrame := meshFrame;
     (f.secok = true) ∧ (s.mesh.phase = .root)) ∧
    -- clause 10
    (let s : State := meshRoot; let r : ZoneRecord := meshRec;
     (s.mesh.streams.find? (fun u => u.origin == r.origin && u.zone == r.zone && u.cluster == r.cluster) = none) ∧
       (s.mesh.streams.length < 64)) ∧
    -- clause 11
    (let s : State := meshLit { phase := .root, streams := List.replicate 64 meshStream };
     let r : ZoneRecord := meshRec;
     (s.mesh.streams.find? (fun u => u.origin == r.origin && u.zone == r.zone && u.cluster == r.cluster) = none) ∧ (64
       ≤ s.mesh.streams.length)) ∧
    -- clause 12
    (let s : State := meshLit { phase := .root, streams := [{ origin := 1, zone := 2, cluster := 0, hi := 3, masks :=
       [16] }] };
     let r : ZoneRecord := meshRec;
     let w : Stream := { origin := 1, zone := 2, cluster := 0, hi := 3, masks := [16] };
     (s.mesh.streams.find? (fun u => u.origin == r.origin && u.zone == r.zone && u.cluster == r.cluster) = some w) ∧
       (r.epoch = w.hi) ∧ (r.epoch < 65536) ∧ (bitOf (w.masks.getD 0 0) r.seq = true)) ∧
    -- clause 14
    (let s : State := meshJoined;
     (s.mesh.phase = .joined)) ∧
    -- clause 15
    (let s : State := lit;
     (s.mesh.phase ≠ .joined)) ∧
    -- clause 16
    (let s : State := meshJoined; let f : MmpFrame := { meshFrame with origin := 0x77 };
     (f.secok = true) ∧ (f.origin = s.mesh.parent) ∧ (s.mesh.phase = .joined)) := by
  refine ⟨?_, ?_, ?_, ?_, ?_, ?_, ?_, ?_⟩ <;> decide +kernel

theorem test_meshTraffic_3 :
    -- clause 17
    (let s : State := meshJoined; let f : MmpFrame := meshFrame;
     (f.origin ≠ s.mesh.parent)) ∧
    -- clause 18
    (let s : State := meshRoot; let f : MmpFrame := { meshFrame with type := 6, payload := [] };
     (f.secok = true) ∧ (frameWord f.payload 0 8 = s.uid) ∧ (s.mesh.answers = []) ∧ (s.mesh.accepted = [])) ∧
    -- clause 19
    (let s : State := meshRoot; let f : MmpFrame := { meshFrame with type := 6, payload := [] };
     (f.secok = true) ∧ (frameWord f.payload 0 8 = s.uid) ∧ (s.mesh.answers = []) ∧ (s.mesh.accepted = [])) ∧
    -- clause 20
    (let s : State := meshAt { phase := .root, answers := [(0x99, 0, 0, 1)] };
     let f : MmpFrame := { meshFrame with type := 6, payload := [] }; let st : Nat := 1;
     (f.secok = true) ∧ (frameWord f.payload 0 8 = s.uid) ∧ (s.mesh.answers = [(f.origin, frameByte f.payload 14 % 64,
       frameWord f.payload 8 2, st)])) ∧
    -- clause 21
    (let s : State := lit; let f : MmpFrame := { meshFrame with type := 6, payload := [5] };
     (frameWord f.payload 0 8 ≠ s.uid)) ∧
    -- clause 22
    (let s : State := meshLit { handOut := some ([], 0, 0) };
     let f : MmpFrame := { meshFrame with type := 6, payload := [] }; let p : List Byte := []; let h : Nat := 0;
     let n : Nat := 0;
     (f.secok = true) ∧ (frameWord f.payload 0 8 = s.uid) ∧ (s.mesh.handOut = some (p, h, n)) ∧ (frameWord f.payload 8
       2 = h)) ∧
    -- clause 23
    (let s : State := lit;
     (s.mesh.handOut = none)) ∧
    -- clause 24
    (let s : State := meshLit { handOut := some ([], 0, 7) }; let p : List Byte := []; let n : Nat := 7;
     (s.mesh.handOut = some (p, frameWord p 8 2, n)) ∧ (n < 8)) := by
  refine ⟨?_, ?_, ?_, ?_, ?_, ?_, ?_, ?_⟩ <;> decide +kernel

theorem test_meshTraffic_4 :
    -- clause 25
    (let s : State := meshLit { handOut := some ([], 0, 8) }; let p : List Byte := []; let n : Nat := 8;
     (s.mesh.handOut = some (p, frameWord p 8 2, n)) ∧ (8 ≤ n)) := by
  decide +kernel

theorem test_wiredBringUp :
    -- begin_an
    (bitOf ((lit.setReg Reg.WIR_LINKCFG 1 : State).reg Reg.WIR_LINKCFG).toNat 0 = true) ∧
    -- begin_train
    (bitOf ((lit.setReg Reg.WIR_LINKCFG 0 : State).reg Reg.WIR_LINKCFG).toNat 0 = false) ∧
    -- enable
    ((lit.Takes (.cc 1 : Initiator) (Reg.WIR_CTRL)) ∧ (lit.linkState = 0) ∧ (lit.flag F.WIR_CTRL_EN = false)) ∧
    -- enable_again
    ((wirLive.Takes (.cc 1 : Initiator) (Reg.WIR_CTRL)) ∧ (wirLive.linkState ≠ 0)) ∧
    -- disable
    (wirLive.Takes (.cc 1 : Initiator) (Reg.WIR_CTRL)) ∧
    -- restart
    ((wirLive.Takes (.cc 1 : Initiator) (Reg.WIR_CTRL)) ∧ (wirLive.linkState ≠ 0)) ∧
    -- restart_disabled
    ((lit.Takes (.cc 1 : Initiator) (Reg.WIR_CTRL)) ∧ (lit.linkState = 0)) ∧
    -- resolved
    ((wirAn.linkState = 1) ∧ (anRole (bitsOf wirAn.wir.cfg.toNat 1 2) (1 : Fin 4) (0 : Fin 3) = some true) ∧ ((0 : Fin
    3).val ≠ 2)) ∧
    -- not_resolved
    ((wirAn.linkState = 1) ∧ ((0 : Fin 3).val ≠ 2)) ∧
    -- resolved_other
    (wirLive.linkState ≠ 1) ∧
    -- again
    (wirAn.linkState = 1) ∧
    -- converged
    (wirTrain.linkState = 2) ∧
    -- timeout
    (wirTrain.linkState = 2) ∧
    -- not_training
    (wirAn.linkState ≠ 2) ∧
    -- loss
    (wirLive.linkState = 3) ∧
    -- loss_not_up
    (wirTrain.linkState ≠ 3) ∧
    -- down
    (((wirLive.setFld F.WIR_CTRL_EN 0 : State).wirUp = true) ∧ ((wirLive.setFld F.WIR_CTRL_EN 0 : State).wirLine =
    none) ∧ ((wirLive.setFld F.WIR_CTRL_EN 0 : State).flag F.WIR_CTRL_EN = false)) ∧
    -- down_inflight
    ((wirOut.wirUp = true) ∧ (wirOut.wirLine = some (2 : Nat))) ∧
    -- sqi
    (wirLive.wirUp = true) ∧
    -- sqi_values
    (((2 : Nat) < 7) ∧ (0 ≤ (14 : Int)) ∧ ((14 : Int) < 15)) ∧
    -- sqi_down
    (wirAn.wirUp = false) := by
  refine ⟨?_, ?_, ?_, ?_, ?_, ?_, ?_, ?_, ?_, ?_, ?_, ?_, ?_, ?_, ?_, ?_, ?_, ?_, ?_, ?_, ?_⟩ <;> decide +kernel

theorem test_wiredFrames :
    -- ready
    (((lit.setWbuf 0 { d0 := 14 } : State).Takes (.cc 1 : Initiator) (Reg.WIR_TXCMD)) ∧ (((lit.setWbuf 0 { d0 := 14 }
    : State).wbuf (lit.setWbuf 0 { d0 := 14 } : State).wirSel).st = 0) ∧ (((lit.setWbuf 0 { d0 := 14 } : State).wbuf
    (lit.setWbuf 0 { d0 := 14 } : State).wirSel).bad = false)) ∧
    -- ready_bad
    ((lit.Takes (.cc 1 : Initiator) (Reg.WIR_TXCMD)) ∧ ((lit.wbuf lit.wirSel).st = 0) ∧ ((lit.wbuf lit.wirSel).bad =
    true)) ∧
    -- ready_twice
    (((wirQueued.setFld F.WIR_TXSEL_BUF 2 : State).Takes (.cc 1 : Initiator) (Reg.WIR_TXCMD)) ∧ (((wirQueued.setFld
    F.WIR_TXSEL_BUF 2 : State).wbuf (wirQueued.setFld F.WIR_TXSEL_BUF 2 : State).wirSel).st ≠ 0)) ∧
    -- bad
    (({ d0 := 13 } : WirBuf).tlen < 14 ∨ ({ d0 := 13 } : WirBuf).src = 3 ∨ (({ d0 := 13 } : WirBuf).src = 1 ∧ 383 <
    ({ d0 := 13 } : WirBuf).off) ∨ ((({ d0 := 13 } : WirBuf).auto = true ∨ ({ d0 := 13 } : WirBuf).secure = true) ∧
    ({ d0 := 13 } : WirBuf).tlen < ({ d0 := 13 } : WirBuf).pos + 16)) ∧
    -- good
    ((14 ≤ ({ d0 := 14 } : WirBuf).tlen) ∧ (({ d0 := 14 } : WirBuf).src ≠ 3) ∧ (({ d0 := 14 } : WirBuf).src ≠ 1 ∨
    ({ d0 := 14 } : WirBuf).off ≤ 383) ∧ ((({ d0 := 14 } : WirBuf).auto = false ∧ ({ d0 := 14 } : WirBuf).secure =
    false) ∨ ({ d0 := 14 } : WirBuf).pos + 16 ≤ ({ d0 := 14 } : WirBuf).tlen)) ∧
    -- cancel
    (((wirQueued.setFld F.WIR_TXSEL_BUF 2 : State).Takes (.cc 1 : Initiator) (Reg.WIR_TXCMD)) ∧ (((wirQueued.setFld
    F.WIR_TXSEL_BUF 2 : State).wbuf (wirQueued.setFld F.WIR_TXSEL_BUF 2 : State).wirSel).st = 1)) ∧
    -- cancel_not
    ((lit.Takes (.cc 1 : Initiator) (Reg.WIR_TXCMD)) ∧ ((lit.wbuf lit.wirSel).st ≠ 1)) ∧
    -- resend
    (((lit.setWbuf 0 { st := 3, status := 7 } : State).Takes (.cc 1 : Initiator) (Reg.WIR_TXCMD)) ∧
    (({ st := 3, status := 7 } : WirBuf) = (lit.setWbuf 0 { st := 3, status := 7 } : State).wbuf (lit.setWbuf 0
    { st := 3, status := 7 } : State).wirSel) ∧ (({ st := 3, status := 7 } : WirBuf).st = 3) ∧
    (({ st := 3, status := 7 } : WirBuf).status = 1 ∨ ({ st := 3, status := 7 } : WirBuf).status = 7)) ∧
    -- resend_not
    ((lit.Takes (.cc 1 : Initiator) (Reg.WIR_TXCMD)) ∧ ((lit.wbuf lit.wirSel).st ≠ 3 ∨ ((lit.wbuf lit.wirSel).status ≠
    1 ∧ (lit.wbuf lit.wirSel).status ≠ 7))) ∧
    -- free
    (((lit.setWbuf 0 { st := 3, status := 7 } : State).Takes (.cc 1 : Initiator) (Reg.WIR_TXCMD)) ∧ (((lit.setWbuf 0
    { st := 3, status := 7 } : State).wbuf (lit.setWbuf 0 { st := 3, status := 7 } : State).wirSel).st = 3)) ∧
    -- free_not
    ((lit.Takes (.cc 1 : Initiator) (Reg.WIR_TXCMD)) ∧ ((lit.wbuf lit.wirSel).st ≠ 3)) ∧
    -- rxpop
    (lit.Takes (.cc 1 : Initiator) (Reg.WIR_RXPOP)) ∧
    -- dupclr
    (lit.Takes (.cc 1 : Initiator) (Reg.WIR_CFG)) ∧
    -- seq_low
    (lit.Takes (.cc 1 : Initiator) (Reg.WIR_SEQ0)) ∧
    -- seq_high
    (lit.Takes (.cc 1 : Initiator) (Reg.WIR_SEQ1)) ∧
    -- assembles
    ((wirQueued.wirUp = true) ∧ (wirQueued.domOn 4 = true) ∧ (wirQueued.wirLine = none) ∧ (wirQueued.wirReady = some
    (2 : Nat)) ∧ ((wirQueued.wbuf (2 : Nat)).frame = []) ∧ ((wirQueued.wbuf (2 : Nat)).plain = []) ∧ ((wirQueued.wbuf
    (2 : Nat)).src = 0) ∧ ((wirQueued.wbuf (2 : Nat)).auto = false) ∧ ((wirQueued.wbuf (2 : Nat)).secure = false) ∧
    ((wirQueued.wbuf (2 : Nat)).tlen ≤ 1514)) ∧
    -- sends_again
    (((wirLive.setWbuf 2 { st := 1, frame := [1, 2] } : State).wirUp = true) ∧ ((wirLive.setWbuf 2
    { st := 1, frame := [1, 2] } : State).domOn 4 = true) ∧ ((wirLive.setWbuf 2 { st := 1, frame := [1, 2] } :
    State).wirLine = none) ∧ ((wirLive.setWbuf 2 { st := 1, frame := [1, 2] } : State).wirReady = some (2 : Nat)) ∧
    (((wirLive.setWbuf 2 { st := 1, frame := [1, 2] } : State).wbuf (2 : Nat)).frame ≠ [])) ∧
    -- assembles_not
    (lit.wirUp = false ∨ lit.wirLine ≠ none ∨ lit.domOn 4 = false ∨ lit.wirReady = none) ∧
    -- sent
    ((wirOut.wirLine = some (2 : Nat)) ∧ ((wirOut.wbuf (2 : Nat)).waiting = false)) ∧
    -- ended
    (wirOut.flag F.WIR_CFG_TXDONEEV = false) ∧
    -- sent_nothing
    (lit.wirLine = none) ∧
    -- rx_down
    (lit.wirUp = false) ∧
    -- rx_fcs
    ((wirLive.wirUp = true) ∧ (([1, 2, 3, 4, 5] : List Byte).take (([1, 2, 3, 4, 5] : List Byte).length - 4) ++
    toBytes 4 (crc32 (([1, 2, 3, 4, 5] : List Byte).take (([1, 2, 3, 4, 5] : List Byte).length - 4))) ≠ ([1, 2, 3, 4,
    5] : List Byte))) ∧
    -- rx_len
    ((wirLive.wirUp = true) ∧ (([1] ++ toBytes 4 (crc32 [1]) : List Byte).take (([1] ++ toBytes 4 (crc32 [1]) : List
    Byte).length - 4) ++ toBytes 4 (crc32 (([1] ++ toBytes 4 (crc32 [1]) : List Byte).take (([1] ++ toBytes 4 (crc32
    [1]) : List Byte).length - 4))) = ([1] ++ toBytes 4 (crc32 [1]) : List Byte)) ∧ (wirLenOk ([1] ++ toBytes 4 (crc32
    [1]) : List Byte) = false)) ∧
    -- rx_plain
    (((wirLive.setReg Reg.WIR_RXCFG 0xFFFFFF : State).wirUp = true) ∧ ((macFrame (List.replicate 60 1) : List
    Byte).take ((macFrame (List.replicate 60 1) : List Byte).length - 4) ++ toBytes 4 (crc32 ((macFrame
    (List.replicate 60 1) : List Byte).take ((macFrame (List.replicate 60 1) : List Byte).length - 4))) = (macFrame
    (List.replicate 60 1) : List Byte)) ∧ (wirLenOk (macFrame (List.replicate 60 1) : List Byte) = true) ∧ (vlan
    ((macFrame (List.replicate 60 1) : List Byte).take ((macFrame (List.replicate 60 1) : List Byte).length - 4)) =
    false) ∧ ((wirLive.setReg Reg.WIR_RXCFG 0xFFFFFF : State).flag F.WIR_RXCFG_PROMISC = true) ∧ ((wirLive.setReg Reg.WIR_RXCFG 0xFFFFFF : State).wir.checks = []) ∧
    ((wirLive.setReg Reg.WIR_RXCFG 0xFFFFFF : State).wir.rx.length < 4) ∧ ((wirLive.setReg Reg.WIR_RXCFG 0xFFFFFF : State).flag F.WIR_RXCFG_PLAIN = true) ∧ (frameByte (macFrame
    (List.replicate 60 1) : List Byte) 12 * 256 + frameByte (macFrame (List.replicate 60 1) : List Byte) 13 ≠ 0x8808)
    ∧ (frameByte (macFrame (List.replicate 60 1) : List Byte) 12 * 256 + frameByte (macFrame (List.replicate 60 1) :
    List Byte) 13 ≠ 0x88B5)) ∧
    -- rx_no_room
    ((({ wirLive.setReg Reg.WIR_RXCFG 0xFFFFFF with wir := { wirLive.wir with rx := List.replicate 4 wirData } } :
    State).wirUp = true) ∧ ((macFrame (List.replicate 60 1) : List Byte).take ((macFrame (List.replicate 60 1) : List
    Byte).length - 4) ++ toBytes 4 (crc32 ((macFrame (List.replicate 60 1) : List Byte).take ((macFrame
    (List.replicate 60 1) : List Byte).length - 4))) = (macFrame (List.replicate 60 1) : List Byte)) ∧ (wirLenOk
    (macFrame (List.replicate 60 1) : List Byte) = true) ∧ (vlan ((macFrame (List.replicate 60 1) : List Byte).take
    ((macFrame (List.replicate 60 1) : List Byte).length - 4)) = false) ∧
    (({ wirLive.setReg Reg.WIR_RXCFG 0xFFFFFF with wir := { wirLive.wir with rx := List.replicate 4 wirData } } :
    State).flag F.WIR_RXCFG_PROMISC = true) ∧ (4 ≤
    ({ wirLive.setReg Reg.WIR_RXCFG 0xFFFFFF with wir := { wirLive.wir with rx := List.replicate 4 wirData } } :
    State).wir.rx.length +
    ({ wirLive.setReg Reg.WIR_RXCFG 0xFFFFFF with wir := { wirLive.wir with rx := List.replicate 4 wirData } } :
    State).wir.checks.length) ∧ (frameByte (macFrame (List.replicate 60 1) : List Byte) 12 * 256 + frameByte (macFrame
    (List.replicate 60 1) : List Byte) 13 ≠ 0x8808)) ∧
    -- judge_new
    (([] : List WirHub).find? (fun y => y.origin == (3 : Nat)) = none) ∧
    -- judge_next
    ((([{ origin := 3, hi := 9, mask := 1 }] : List WirHub).find? (fun y => y.origin == (3 : Nat)) = some
    ({ origin := 3, hi := 9, mask := 1 } : WirHub)) ∧ ((10 : Nat) = ({ origin := 3, hi := 9, mask := 1 } : WirHub).hi
    + 1) ∧ ((10 : Nat) < 2 ^ 32) ∧ (({ origin := 3, hi := 9, mask := 1 } : WirHub).mask < 256)) ∧
    -- judge_again
    ((([{ origin := 3, hi := 9, mask := 1 }] : List WirHub).find? (fun y => y.origin == (3 : Nat)) = some
    ({ origin := 3, hi := 9, mask := 1 } : WirHub)) ∧ ((9 : Nat) = ({ origin := 3, hi := 9, mask := 1 } : WirHub).hi)
    ∧ ((9 : Nat) < 2 ^ 32) ∧ (bitOf ({ origin := 3, hi := 9, mask := 1 } : WirHub).mask 0 = true)) ∧
    -- judge_stale
    ((([{ origin := 3, hi := 9, mask := 1 }] : List WirHub).find? (fun y => y.origin == (3 : Nat)) = some
    ({ origin := 3, hi := 9, mask := 1 } : WirHub)) ∧ (({ origin := 3, hi := 9, mask := 1 } : WirHub).hi < 2 ^ 32) ∧
    ((1 : Nat) + 8 ≤ ({ origin := 3, hi := 9, mask := 1 } : WirHub).hi) ∧ (({ origin := 3, hi := 9, mask := 1 } :
    WirHub).hi ≤ (1 : Nat) + 2 ^ 31)) ∧
    -- relay_none
    (lit.wir.rx = [] ∨ lit.domOn 4 = false) ∧
    -- relay
    ((({ lit with wir := { lit.wir with rx := [{ wirData with bytes := wirData.bytes.set 15 0 }] } } : State).wir.rx =
    ({ wirData with bytes := wirData.bytes.set 15 0 } : WirEntry) :: ([] : List WirEntry)) ∧
    (({ lit with wir := { lit.wir with rx := [{ wirData with bytes := wirData.bytes.set 15 0 }] } } : State).domOn 4 =
    true) ∧ (({ wirData with bytes := wirData.bytes.set 15 0 } : WirEntry).wrh = true) ∧
    (({ wirData with bytes := wirData.bytes.set 15 0 } : WirEntry).dup = false) ∧ (vlan
    ({ wirData with bytes := wirData.bytes.set 15 0 } : WirEntry).bytes = false) ∧ (frameByte
    (({ wirData with bytes := wirData.bytes.set 15 0 } : WirEntry).bytes.drop 14) 0 / 16 = 1) ∧ (frameByte
    (({ wirData with bytes := wirData.bytes.set 15 0 } : WirEntry).bytes.drop 14) 15 / 16 ≠ 0) ∧ (bitOf (frameByte
    (({ wirData with bytes := wirData.bytes.set 15 0 } : WirEntry).bytes.drop 14) 1) 0 = false) ∧ (bitOf (frameByte
    (({ wirData with bytes := wirData.bytes.set 15 0 } : WirEntry).bytes.drop 14) 1) 1 = false)) ∧
    -- relay_acks
    ((({ lit with wir := { lit.wir with rx := [{ wirData with dup := true }] } } : State).wir.rx =
    ({ wirData with dup := true } : WirEntry) :: ([] : List WirEntry)) ∧
    (({ lit with wir := { lit.wir with rx := [{ wirData with dup := true }] } } : State).domOn 4 = true) ∧
    (({ wirData with dup := true } : WirEntry).wrh = true) ∧ (({ wirData with dup := true } : WirEntry).dup = true) ∧
    (vlan ({ wirData with dup := true } : WirEntry).bytes = false) ∧ (frameByte (({ wirData with dup := true } :
    WirEntry).bytes.drop 14) 0 / 16 = 1) ∧ (bitOf (frameByte (({ wirData with dup := true } : WirEntry).bytes.drop 14)
    1) 0 = false) ∧ (bitOf (frameByte (({ wirData with dup := true } : WirEntry).bytes.drop 14) 1) 1 = true)) := by
  refine ⟨?_, ?_, ?_, ?_, ?_, ?_, ?_, ?_, ?_, ?_, ?_, ?_, ?_, ?_, ?_, ?_, ?_, ?_, ?_, ?_, ?_, ?_, ?_, ?_, ?_, ?_, ?_, ?_, ?_, ?_, ?_, ?_, ?_⟩ <;> decide +kernel

theorem test_sensorPorts :
    -- clause 0
    (let s : State := snsLive; let ini : Initiator := .cc 1; let n : Fin 11 := 0; let v : Word := 1;
     (s.Takes ini (Reg.SNS_TRIG)) ∧ (v.toNat = 2 ^ n.val) ∧ (s.portBusy n = false) ∧ (s.flag (F.SNS_PCFG_EN n) = true)
       ∧ (s.portCfgOk n = true)) ∧
    -- clause 1
    (let s : State := snsWait; let ini : Initiator := .cc 1; let n : Fin 11 := 0; let v : Word := 1;
     (s.Takes ini (Reg.SNS_TRIG)) ∧ (v.toNat = 2 ^ n.val) ∧ (s.portBusy n = true)) ∧
    -- clause 2
    (let s : State := snsLive.setFld (F.SNS_PLEN_LEN 0) 5; let ini : Initiator := .cc 1; let n : Fin 11 := 0;
     let v : Word := 1;
     (s.Takes ini (Reg.SNS_TRIG)) ∧ (v.toNat = 2 ^ n.val) ∧ (s.portBusy n = false) ∧ (s.flag (F.SNS_PCFG_EN n) = true)
       ∧ (s.portCfgOk n = false)) ∧
    -- clause 3
    (let s : State := lit; let ini : Initiator := .cc 1; let n : Fin 11 := 0; let v : Word := 1;
     (s.Takes ini (Reg.SNS_TRIG)) ∧ (v.toNat = 2 ^ n.val) ∧ (s.portBusy n = false) ∧ (s.flag (F.SNS_PCFG_EN n) =
       false)) ∧
    -- clause 4
    (let s : State := snsWait; let n : Fin 11 := 0;
     (s.domOn 6 = true) ∧ ((s.port n).phase = 1)) ∧
    -- clause 5
    (let s : State := ((snsLive.setFld (F.SNS_PBUS0_ADDR_A10 0) 127).setFld (F.SNS_PBUS0_SPEED_REGLEN 0) 0);
     let n : Nat := 0; let a : Nat := 127;
     (n < 4) ∧ (s.fld (F.SNS_PBUS0_ADDR_A10 n) = a) ∧ (a < 128) ∧ (s.fld (F.SNS_PBUS0_SPEED_REGLEN n) < 4) ∧ (s.fld
       (F.SNS_PBUS2_NREAD n) = 0)) ∧
    -- clause 6
    (let s : State := (((snsLive.setFld (F.SNS_PBUS0_ADDR_A10 3) 9).setFld (F.SNS_PBUS0_SPEED_REGLEN 3) 4).setFld
       (F.SNS_PBUS1_REG_CMD 3) 255);
     let n : Nat := 3; let a : Nat := 9; let r : Nat := 255;
     (n < 4) ∧ (s.fld (F.SNS_PBUS0_ADDR_A10 n) = a) ∧ (a < 128) ∧ (s.fld (F.SNS_PBUS0_SPEED_REGLEN n) / 4 = 1) ∧
       (s.fld (F.SNS_PBUS2_NREAD n) = 0) ∧ (s.fld (F.SNS_PBUS1_REG_CMD n) = r) ∧ (r < 256)) ∧
    -- clause 7
    (let s : State := ((snsLive.setFld (F.SNS_PBUS0_ADDR_A10 4) 768).setFld (F.SNS_PBUS0_SPEED_REGLEN 4) 0);
     let n : Nat := 4; let k : Nat := 3;
     (4 ≤ n) ∧ (n < 6) ∧ (s.fld (F.SNS_PBUS0_ADDR_A10 n) / 256 % 4 = k) ∧ (s.fld (F.SNS_PBUS2_NREAD n) = 0)) := by
  refine ⟨?_, ?_, ?_, ?_, ?_, ?_, ?_, ?_⟩ <;> decide +kernel

theorem test_sensorPorts_2 :
    -- clause 7
    (let s : State := ((snsLive.setFld (F.SNS_PBUS0_ADDR_A10 5) 0).setFld (F.SNS_PBUS0_SPEED_REGLEN 5) 0);
     let n : Nat := 5; let k : Nat := 0;
     (4 ≤ n) ∧ (n < 6) ∧ (s.fld (F.SNS_PBUS0_ADDR_A10 n) / 256 % 4 = k) ∧ (s.fld (F.SNS_PBUS2_NREAD n) = 0)) ∧
    -- clause 8
    (let s : State := snsCap; let n : Fin 11 := 0;
     (s.domOn 6 = false ∨ (s.port n).phase ≠ 1)) ∧
    -- clause 8
    (let s : State := snsWait.setFld (F.PWR_DOM_ACT 6) 0; let n : Fin 11 := 0;
     (s.domOn 6 = false ∨ (s.port n).phase ≠ 1)) ∧
    -- clause 9
    (let s : State := snsCap; let n : Fin 11 := 0;
     (s.domOn 6 = true) ∧ (n.val < 6) ∧ ((s.port n).phase = 2) ∧ (s.flag (F.SNS_PCFG_BSWAP n) = false) ∧ (s.flushNeeds
       n = [])) ∧
    -- clause 10
    (let s : State := snsCap.setFld (F.PWR_DOM_ACT 13) 0; let n : Fin 11 := 0;
     (s.domOn 6 = true) ∧ (n.val < 6) ∧ ((s.port n).phase = 2) ∧ (s.flushNeeds n ≠ [])) ∧
    -- clause 11
    (let s : State := snsCap; let n : Fin 11 := 0;
     (s.domOn 6 = true) ∧ (n.val < 6) ∧ ((s.port n).phase = 2)) ∧
    -- clause 12
    (let s : State := snsLive.setPort 7 { phase := 2, staged := [1, 2, 3, 4] }; let n : Fin 11 := 7;
     (s.domOn 6 = true) ∧ (6 ≤ n.val) ∧ ((s.port n).phase = 2) ∧ (s.portLen n ≤ (s.port n).staged.length) ∧ ((s.port
       n).flush = none)) ∧
    -- clause 13
    (let s : State := snsWait; let n : Fin 11 := 0;
     (s.domOn 6 = false ∨ (s.port n).phase ≠ 2)) := by
  refine ⟨?_, ?_, ?_, ?_, ?_, ?_, ?_, ?_⟩ <;> decide +kernel

theorem test_sensorPorts_3 :
    -- clause 14
    (let s : State := snsCap; let n : Fin 11 := 0; let code : Nat := 2;
     ((s.port n).woke = []) ∧ (s.flag (F.SNS_PCFG_RESTORE n) = false) ∧ (code < 8)) ∧
    -- clause 14
    (let s : State := snsCap; let n : Fin 11 := 0; let code : Nat := 4;
     ((s.port n).woke = []) ∧ (s.flag (F.SNS_PCFG_RESTORE n) = false) ∧ (code < 8)) ∧
    -- clause 15
    (let s : State := snsFlush; let n : Fin 11 := 0; let bs : List Byte := [1, 2, 3, 4];
     (s.domOn 6 = true) ∧ ((s.port n).flush = some bs) ∧ (s.flushNeeds n = []) ∧ (s.clearing (s.fld
       (F.SNS_PDST_CLUSTER n)) = false) ∧ (s.inClReset (s.fld (F.SNS_PDST_CLUSTER n)) = false)) ∧
    -- clause 16
    (let c : Nat := 1; let row : Nat := 4095; let bs : List Byte := [1, 2, 3, 4];
     (c < 4) ∧ (row < 4096) ∧ (0 < bs.length) ∧ (bs.length ≤ 384)) ∧
    -- clause 16
    (let c : Nat := 0; let row : Nat := 0; let bs : List Byte := List.replicate 384 7;
     (c < 4) ∧ (row < 4096) ∧ (0 < bs.length) ∧ (bs.length ≤ 384)) ∧
    -- clause 17
    (let s : State := snsFlush; let n : Fin 11 := 0;
     (n.val ≤ 6) ∧ (∀ k : Nat, k < 8 → s.flag (F.SNS_EPOCH_EN k) = false) ∧ ((s.port n).woke = []) ∧ (s.flag
       (F.SNS_PCFG_RESTORE n) = false)) ∧
    -- clause 18
    (let s : State := snsFlush.setFld (F.CLU_OWNER_CLEARING 0) 1; let n : Fin 11 := 0;
     let bs : List Byte := [1, 2, 3, 4];
     (s.domOn 6 = true) ∧ ((s.port n).flush = some bs) ∧ (s.flushNeeds n = []) ∧ (s.clearing (s.fld
       (F.SNS_PDST_CLUSTER n)) = true)) ∧
    -- clause 19
    (let s : State := (snsFlush.setFld (F.PWR_DOM_ACT 13) 1).setFld (F.PWR_DOM_REQ 13) 2; let n : Fin 11 := 0;
     let bs : List Byte := [1, 2, 3, 4];
     (s.domOn 6 = true) ∧ ((s.port n).flush = some bs) ∧ (s.flushNeeds n ≠ []) ∧ (s.lit 1 = true) ∧ (s.lit (domSP
       (s.fld (F.SNS_PDST_CLUSTER n))) = true)) := by
  refine ⟨?_, ?_, ?_, ?_, ?_, ?_, ?_, ?_⟩ <;> decide +kernel

theorem test_sensorPorts_4 :
    -- clause 20
    (let s : State := snsCap; let n : Fin 11 := 0;
     (s.domOn 6 = false ∨ (s.port n).flush = none)) ∧
    -- clause 21
    (let s : State := snsCap; let ini : Initiator := .sv; let n : Fin 11 := 0;
     (s.Takes ini (Reg.SNS_PCFG n)) ∧ (s.portBusy n = true)) ∧
    -- clause 22
    (let s : State := snsLive; let ini : Initiator := .sv; let n : Fin 11 := 0;
     (s.Takes ini (Reg.SNS_PCFG n)) ∧ (s.portBusy n = false)) := by
  refine ⟨?_, ?_, ?_⟩ <;> decide +kernel

theorem test_sensorSamples :
    -- clause 0
    (let s : State := snsLive; let p : Fin 4 := 0;
     (s.domOn 6 = true) ∧ (s.flag (F.SNS_PCFG_EN (7 + p)) = true) ∧ (s.flag F.SNS_PIRCFG_RATE = true)) ∧
    -- clause 2
    (let s : State := lit; let p : Fin 4 := 0;
     (s.domOn 6 = false ∨ s.flag (F.SNS_PCFG_EN (7 + p)) = false ∨ s.flag F.SNS_PIRCFG_RATE = false)) ∧
    -- clause 3
    (let s : State := snsLive.setFld (F.SNS_PCFG_EN 6) 1;
     (s.domOn 6 = true) ∧ (s.flag (F.SNS_PCFG_EN 6) = true)) ∧
    -- clause 5
    (let num : Nat := 1; let den : Nat := 2;
     (0 < num) ∧ (0 < den)) ∧
    -- clause 6
    (let s : State := lit;
     (s.domOn 6 = false ∨ s.flag (F.SNS_PCFG_EN 6) = false)) ∧
    -- clause 7
    (let s : State := ((snsLive.setPort 6 { phase := 2 }).setFld (F.SNS_PLEN_LEN 6) 4); let n : Nat := 6;
     (∀ k : Nat, k < 4 → s.cmpPort k ≠ n) ∧ ((s.port n).phase = 2) ∧ ((s.port n).staged.length < s.portLen n)) ∧
    -- clause 8
    (let s : State := { snsCmp with sns := { snsCmp.sns with held := [(0, 1)] } }; let n : Nat := 7;
     let code : Nat := 101; let k : Nat := 0;
     (s.cmpPort k = n) ∧ (s.cmpHolds k code = true) ∧ (tabGet (fun _ => 0) s.sns.held k = 1)) ∧
    -- clause 9
    (let s : State := snsCmp; let n : Nat := 7; let k : Nat := 0;
     (s.cmpPort k = n)) := by
  refine ⟨?_, ?_, ?_, ?_, ?_, ?_, ?_, ?_⟩ <;> decide +kernel

theorem test_sensorSamples_2 :
    -- clause 10
    (let s : State := snsCmp; let n : Nat := 7; let code : Nat := 100; let k : Nat := 0;
     (s.cmpPort k = n) ∧ (s.cmpHolds k code = false ∨ tabGet (fun _ => 0) s.sns.held k ≠ 1)) ∧
    -- clause 10
    (let s : State := snsCmp; let n : Nat := 7; let code : Nat := 101; let k : Nat := 0;
     (s.cmpPort k = n) ∧ (s.cmpHolds k code = false ∨ tabGet (fun _ => 0) s.sns.held k ≠ 1)) ∧
    -- clause 12
    (let s : State := (snsLive.setFld (F.SNS_GPINSEL_EDGE 0) 1).setFld (F.SNS_GPINSEL_PIN 0) 23; let k : Fin 2 := 0;
     let level : Bool := true;
     (s.domOn 6 = true) ∧ (s.fld (F.SNS_GPINSEL_PIN k) < 24) ∧ (s.fbit F.SNS_GPIOIN0_LEVEL (s.fld (F.SNS_GPINSEL_PIN
       k)) ≠ level) ∧ ((s.setFbit F.SNS_GPIOIN0_LEVEL (s.fld (F.SNS_GPINSEL_PIN k)) level).fbit (F.SNS_GPINSEL_EDGE k)
       (if level then 0 else 1) = true)) ∧
    -- clause 13
    (let s : State := lit; let k : Fin 2 := 0; let level : Bool := false;
     (s.fbit F.SNS_GPIOIN0_LEVEL (s.fld (F.SNS_GPINSEL_PIN k)) = level)) ∧
    -- clause 14
    (let s : State := lit; let ini : Initiator := .sv;
     (s.Takes ini (Reg.SNS_GPIOSET))) ∧
    -- clause 15
    (let s : State := lit; let ini : Initiator := .sv;
     (s.Takes ini (Reg.SNS_GPIOCLR))) ∧
    -- clause 16
    (let s : State := { lit with sns := { lit.sns with gpioPulses := [(3, true)] } }; let g : Fin 16 := 3;
     let b : Bool := true;
     (s.sns.gpioPulses = [(g.val, b)])) ∧
    -- clause 17
    (let s : State := lit;
     (s.sns.gpioPulses = [])) := by
  refine ⟨?_, ?_, ?_, ?_, ?_, ?_, ?_, ?_⟩ <;> decide +kernel

theorem test_sensorSamples_3 :
    -- clause 18
    (let s : State := lit; let ini : Initiator := .sv; let k : Fin 8 := 0;
     (s.Takes ini (Reg.SNS_EPOCH k))) := by
  decide +kernel

theorem test_faultCommands :
    -- clause 0
    (let s : State := lit; let ini : Initiator := .sv; let k : Fin 4 := 3;
     (s.Takes ini (Reg.FLT_MGMT k))) ∧
    -- clause 1
    (let u : Nat := 42; let v : Nat := 2;
     (u < 43) ∧ (v < 3)) ∧
    -- clause 1
    (let u : Nat := 0; let v : Nat := 0;
     (u < 43) ∧ (v < 3)) ∧
    -- clause 2
    (let u : Nat := 1; let w : Nat := 2;
     (u < 43) ∧ (w < 43) ∧ (u ≠ w)) ∧
    -- clause 3
    (let s : State := lit; let ini : Initiator := .sv; let v : Word := 42;
     (s.Takes ini (Reg.FLT_DPREL)) ∧ (v.toNat < 43)) ∧
    -- clause 3
    (let s : State := lit; let ini : Initiator := .sv; let v : Word := 0;
     (s.Takes ini (Reg.FLT_DPREL)) ∧ (v.toNat < 43)) ∧
    -- clause 4
    (let s : State := lit; let ini : Initiator := .sv; let v : Word := 43;
     (s.Takes ini (Reg.FLT_DPREL)) ∧ (43 ≤ v.toNat) ∧ (v.toNat < 64)) ∧
    -- clause 4
    (let s : State := lit; let ini : Initiator := .sv; let v : Word := 63;
     (s.Takes ini (Reg.FLT_DPREL)) ∧ (43 ≤ v.toNat) ∧ (v.toNat < 64)) := by
  refine ⟨?_, ?_, ?_, ?_, ?_, ?_, ?_, ?_⟩ <;> decide +kernel

theorem test_faultCommands_2 :
    -- clause 5
    (let s : State := lit; let ini : Initiator := .sv; let v : Word := 64; let u : Nat := 42;
     (s.Takes ini (Reg.FLT_DPREL)) ∧ (bitOf v.toNat 6 = true) ∧ (u < 43)) ∧
    -- clause 6
    (let s : State := lit;
     (∀ u : Nat, u < 43 → s.disagrees u = false)) ∧
    -- clause 7
    (let s : State := { lit with weather := .frost };
     (s.weather ≠ .run)) ∧
    -- clause 9
    (let s : State := fltDis 150; let n : Nat := 7;
     (s.weather = .run) ∧ (s.disDue n = [])) ∧
    -- clause 10
    (let s : State := fltDis 150; let u : Nat := 3; let n : Nat := 8;
     (s.weather = .run) ∧ (s.disDue n = [u]) ∧ (s.log.length < 32)) ∧
    -- clause 11
    (let s : State := fltFull; let ini : Initiator := .sv;
     (s.Takes ini (Reg.FLT_LOGPOP))) ∧
    -- clause 12
    (let s : State := lit; let ini : Initiator := .sv; let v : Word := 0x80;
     (s.Takes ini (Reg.FLT_LOGW1)) ∧ (0x80 ≤ v.toNat % 256)) ∧
    -- clause 12
    (let s : State := lit; let ini : Initiator := .sv; let v : Word := 0xFF;
     (s.Takes ini (Reg.FLT_LOGW1)) ∧ (0x80 ≤ v.toNat % 256)) := by
  refine ⟨?_, ?_, ?_, ?_, ?_, ?_, ?_, ?_⟩ <;> decide +kernel

theorem test_faultCommands_3 :
    -- clause 13
    (let s : State := lit; let ini : Initiator := .sv; let v : Word := 0x7F;
     (s.Takes ini (Reg.FLT_LOGW1)) ∧ (v.toNat % 256 < 0x80)) ∧
    -- clause 14
    (let s : State := lit;
     (s.log.length < 32)) ∧
    -- clause 15
    (let s : State := fltFull;
     (32 ≤ s.log.length) ∧ (s.fld F.FLT_LOGCNT_OVF = 0)) ∧
    -- clause 16
    (let s : State := lit; let ini : Initiator := .sv;
     (s.Takes ini (Reg.FLT_WDCFG)) ∧ (s.flag F.FLT_WDCFG_EN = false)) ∧
    -- clause 17
    (let s : State := fltDog; let ini : Initiator := .sv;
     (s.Takes ini (Reg.FLT_WDCFG)) ∧ (s.flag F.FLT_WDCFG_EN = true)) ∧
    -- clause 18
    (let s : State := lit; let ini : Initiator := .sv;
     (s.Takes ini (Reg.FLT_WDKICK))) ∧
    -- clause 19
    (let s : State := lit; let ini : Initiator := .sv; let v : Word := 1;
     (s.Takes ini (Reg.FLT_WDKICK)) ∧ (v.toNat ≠ 0x00A5C3)) ∧
    -- clause 20
    (let s : State := fltDog; let n : Nat := 99;
     (s.wdHeld = false) ∧ (s.fld F.FLT_WDCNT_COUNT + n < s.fld F.FLT_WDCFG_TIMEOUT)) := by
  refine ⟨?_, ?_, ?_, ?_, ?_, ?_, ?_, ?_⟩ <;> decide +kernel

theorem test_faultCommands_4 :
    -- clause 21
    (let s : State := lit;
     (s.wdHeld = true)) ∧
    -- clause 22
    (let s : State := fltDogLate; let n : Nat := 1;
     (s.wdHeld = false) ∧ (0 < s.fld F.FLT_WDCFG_TIMEOUT) ∧ (s.fld F.FLT_WDCFG_TIMEOUT ≤ s.fld F.FLT_WDCNT_COUNT + n)) ∧
    -- clause 23
    (let s : State := lit;
     (s.held.por = false) ∧ (s.weather ≠ .frost) ∧ (s.log.length < 32)) := by
  refine ⟨?_, ?_, ?_⟩ <;> decide +kernel

theorem test_tapCommands :
    -- clause 0
    (let s : State := lit;
     (s.tapOn = true)) ∧
    -- clause 1
    (let s : State := lit;
     (s.tapOn = true)) ∧
    -- clause 2
    (let s : State := lit;
     (s.tapOn = true)) ∧
    -- clause 3
    (let s : State := lit;
     (s.tapOn = true)) ∧
    -- clause 4
    (let s : State := lit;
     (s.tapOn = true)) ∧
    -- clause 5
    (let s : State := { lit with weather := .frost };
     (s.tapOn = false)) ∧
    -- clause 6
    (let s : State := lit;
     (s.tapOn = true)) ∧
    -- clause 7
    (let s : State := { lit with weather := .frost };
     (s.tapOn = false)) := by
  refine ⟨?_, ?_, ?_, ?_, ?_, ?_, ?_, ?_⟩ <;> decide +kernel

theorem test_tapCommands_2 :
    -- clause 8
    (let i : Nat := 0;
     (i < 154)) ∧
    -- clause 8
    (let i : Nat := 153;
     (i < 154)) ∧
    -- clause 9
    (let s : State := lit;
     (s.fld F.BOOT_FUSE_LIFECYCLE ≠ 2)) ∧
    -- clause 10
    (let s : State := lit.setFld F.BOOT_FUSE_LIFECYCLE 2;
     (s.fld F.BOOT_FUSE_LIFECYCLE = 2)) ∧
    -- clause 11
    (let s : State := lit;
     (s.tapOn = true) ∧ (s.tap.status ≠ 1) ∧ (s.debugOn = true)) ∧
    -- clause 12
    (let s : State := lit.setFld F.BOOT_FUSE_DBGDIS 1;
     (s.tapOn = true) ∧ (s.tap.status ≠ 1) ∧ (s.debugOn = false)) ∧
    -- clause 13
    (let s : State := dbgBusy;
     (s.tapOn = true) ∧ (s.tap.status = 1)) ∧
    -- clause 14
    (let s : State := dbgBusy;
     (s.tap.status = 1) ∧ (s.coreClock = true) ∧ (s.tap.write = false) ∧ (s.tap.lost = false) ∧ ((s.busRead .debug
       s.tap.addr 4).1.tap = s.tap)) := by
  refine ⟨?_, ?_, ?_, ?_, ?_, ?_, ?_, ?_⟩ <;> decide +kernel

theorem test_tapCommands_3 :
    -- clause 15
    (let s : State := { dbgBusy with weather := .calm };
     (s.tap.status = 1) ∧ (s.coreClock = false) ∧ (s.tap.lost = false)) ∧
    -- clause 16
    (let s : State := lit;
     (s.tap.status ≠ 1)) ∧
    -- clause 17
    (let s : State := lit;
     (s.tapOn = true) ∧ (s.tap.mode ≠ 1) ∧ (s.fld F.BOOT_STRAP_EFFSRC ≠ 3)) ∧
    -- clause 18
    (let s : State := dbgTest;
     (s.tapOn = true) ∧ (s.tap.mode ≠ 1) ∧ (s.fld F.BOOT_STRAP_EFFSRC = 3)) ∧
    -- clause 19
    (let s : State := dbgTest; let m : Fin 16 := 1;
     (s.tapOn = true) ∧ (s.tap.mode ≠ 1) ∧ (s.fld F.BOOT_STRAP_EFFSRC = 3) ∧ (m.val = 1 ∨ m.val = 4 ∨ m.val = 5)) ∧
    -- clause 19
    (let s : State := dbgTest; let m : Fin 16 := 5;
     (s.tapOn = true) ∧ (s.tap.mode ≠ 1) ∧ (s.fld F.BOOT_STRAP_EFFSRC = 3) ∧ (m.val = 1 ∨ m.val = 4 ∨ m.val = 5)) ∧
    -- clause 20
    (let s : State := { dbgTest with tap := { mode := 1 } };
     (s.tapOn = true) ∧ (s.tap.mode = 1)) ∧
    -- clause 21
    (let s : State := { dbgTest with tap := { mode := 2 } };
     (s.tapOn = true) ∧ (s.tap.mode = 2)) := by
  refine ⟨?_, ?_, ?_, ?_, ?_, ?_, ?_, ?_⟩ <;> decide +kernel

theorem test_tapCommands_4 :
    -- clause 22
    (let s : State := { dbgTest with tap := { mode := 5 } };
     (s.tapOn = true) ∧ (s.tap.mode = 5)) ∧
    -- clause 23
    (let s : State := { dbgTest with tap := { mode := 3 } }; let tl : Fin 32 := 2;
     (s.tapOn = true) ∧ (s.tap.mode = 3) ∧ (s.domOn (domTQ tl) = true)) ∧
    -- clause 24
    (let s : State := dbgFuse;
     (s.tapOn = true) ∧ (s.tap.mode = 4)) ∧
    -- clause 25
    (let s : State := lit;
     (s.tap.mode = 0)) := by
  refine ⟨?_, ?_, ?_, ?_⟩ <;> decide +kernel

theorem test_debugOfCores :
    -- clause 0
    (let s : State := dbgRunning; let ini : Initiator := .debug; let k : Fin 5 := 1; let v : Fin 32 := 2;
     (s.Takes ini (Reg.DBG_HALT)) ∧ (s.debugOn = true) ∧ (v.val = 2 ^ k.val) ∧ ((s.core k).run = .run)) ∧
    -- clause 1
    (let s : State := dbgHalted; let ini : Initiator := .debug; let k : Fin 5 := 1; let v : Fin 32 := 2;
     (s.Takes ini (Reg.DBG_HALT)) ∧ (v.val = 2 ^ k.val) ∧ (s.debugOn = false ∨ (s.core k).run = .reset ∨ (s.core
       k).run = .fault ∨ (s.core k).run = .halt)) ∧
    -- clause 1
    (let s : State := lit.setFld F.BOOT_FUSE_DBGDIS 1; let ini : Initiator := .debug; let k : Fin 5 := 1;
     let v : Fin 32 := 2;
     (s.Takes ini (Reg.DBG_HALT)) ∧ (v.val = 2 ^ k.val) ∧ (s.debugOn = false ∨ (s.core k).run = .reset ∨ (s.core
       k).run = .fault ∨ (s.core k).run = .halt)) ∧
    -- clause 2
    (let s : State := { lit with arriving := [92] }; let n : Fin 4 := 1;
     (s.arriving = [91 + n.val]) ∧ (s.debugOn = true)) ∧
    -- clause 3
    (let s : State := { (lit.setFld F.BOOT_FUSE_DBGDIS 1) with arriving := [92] }; let n : Fin 4 := 1;
     (s.arriving = [91 + n.val]) ∧ (s.debugOn = false)) ∧
    -- clause 4
    (let s : State := lit;
     (s.arriving = [])) ∧
    -- clause 5
    (let s : State := dbgHalted; let ini : Initiator := .debug; let k : Fin 5 := 1; let v : Fin 32 := 2;
     (s.Takes ini (Reg.DBG_RESUME)) ∧ (s.debugOn = true) ∧ (v.val = 2 ^ k.val) ∧ ((s.core k).run = .halt)) ∧
    -- clause 6
    (let s : State := dbgHalted; let ini : Initiator := .debug; let k : Fin 5 := 1; let v : Fin 32 := 2;
     (s.Takes ini (Reg.DBG_RESUME)) ∧ (s.debugOn = true) ∧ (v.val = 2 ^ k.val) ∧ ((s.core k).run = .halt)) := by
  refine ⟨?_, ?_, ?_, ?_, ?_, ?_, ?_, ?_⟩ <;> decide +kernel

theorem test_debugOfCores_2 :
    -- clause 7
    (let s : State := dbgRunning; let ini : Initiator := .debug; let k : Fin 5 := 1; let v : Fin 32 := 2;
     (s.Takes ini (Reg.DBG_RESUME)) ∧ (v.val = 2 ^ k.val) ∧ (s.debugOn = false ∨ (s.core k).run ≠ .halt)) ∧
    -- clause 7
    (let s : State := lit.setFld F.BOOT_FUSE_DBGDIS 1; let ini : Initiator := .debug; let k : Fin 5 := 1;
     let v : Fin 32 := 2;
     (s.Takes ini (Reg.DBG_RESUME)) ∧ (v.val = 2 ^ k.val) ∧ (s.debugOn = false ∨ (s.core k).run ≠ .halt)) ∧
    -- clause 8
    (let s : State := dbgTest; let ini : Initiator := .debug; let k : Fin 5 := 1; let v : Fin 32 := 2;
     (s.Takes ini (Reg.DBG_START)) ∧ (s.debugOn = true) ∧ (v.val = 2 ^ k.val) ∧ ((s.core k).run = .reset) ∧ (s.domOn
       (coreDom k) = true) ∧ (s.flag F.BOOT_STATUS_DONE = true ∨ s.fld F.BOOT_STRAP_EFFSRC = 3)) ∧
    -- clause 8
    (let s : State := lit.setFld F.BOOT_STATUS_DONE 1; let ini : Initiator := .debug; let k : Fin 5 := 1;
     let v : Fin 32 := 2;
     (s.Takes ini (Reg.DBG_START)) ∧ (s.debugOn = true) ∧ (v.val = 2 ^ k.val) ∧ ((s.core k).run = .reset) ∧ (s.domOn
       (coreDom k) = true) ∧ (s.flag F.BOOT_STATUS_DONE = true ∨ s.fld F.BOOT_STRAP_EFFSRC = 3)) ∧
    -- clause 9
    (let s : State := dbgHalted; let ini : Initiator := .debug; let k : Fin 5 := 1; let v : Fin 32 := 2;
     (s.Takes ini (Reg.DBG_START)) ∧ (v.val = 2 ^ k.val) ∧ (s.debugOn = false ∨ (s.core k).run ≠ .reset ∨ s.domOn
       (coreDom k) = false ∨ (s.flag F.BOOT_STATUS_DONE = false ∧ s.fld F.BOOT_STRAP_EFFSRC ≠ 3))) ∧
    -- clause 10
    (let s : State := dbgHalted.setFld F.DBG_CSEL_CORE 1;
     (s.Takes .debug Reg.DBG_CDATA) ∧ (s.debugOn = true) ∧ (s.debugHalted = true)) ∧
    -- clause 11
    (let s : State := lit;
     (s.Takes .debug Reg.DBG_CDATA) ∧ (s.debugOn = true) ∧ (s.debugHalted = false)) ∧
    -- clause 12
    (let s : State := dbgHalted.setFld F.DBG_CSEL_CORE 1;
     (s.stopped = false) ∧ (s.verdict .debug Reg.DBG_CDATA false = .pass) ∧ (s.debugOn = true) ∧ (s.debugHalted =
       true)) := by
  refine ⟨?_, ?_, ?_, ?_, ?_, ?_, ?_, ?_⟩ <;> decide +kernel

theorem test_debugOfCores_3 :
    -- clause 13
    (let s : State := lit;
     (s.stopped = false) ∧ (s.verdict .debug Reg.DBG_CDATA false = .pass) ∧ (s.debugOn = true) ∧ (s.debugHalted =
       false)) ∧
    -- clause 15
    (let s : State := lit; let ini : Initiator := .pcie;
     (s.portOpen ini = false)) ∧
    -- clause 16
    (let s : State := lit; let ini : Initiator := .sv;
     (s.portOpen ini = true)) ∧
    -- clause 17
    (let r : Fin 16 := 1;
     (0 < r.val)) := by
  refine ⟨?_, ?_, ?_, ?_⟩ <;> decide +kernel

/-! ### Ill-formed commands are refused -/

/-- A frame in range. -/
def okF : MmpFrame :=
  { type := 2, ttl := 4, up := false, compact := false, origin := 7, mseq := 1, rootGen := 0, payload := [],
    secok := true }

theorem test_wf_registerWrite : Instr.wf (.registerWrite .sv 0x05050000 4 1) = true ∧ Instr.wf (.registerWrite .sv 0x05050000 5 1) = false ∧
    Instr.wf (.registerWrite .sv 0x05050000 1 256) = false ∧ Instr.wf (.registerWrite .sv (2 ^ 32) 4 1) = false := by decide
theorem test_wf_rcFieldRead : Instr.wf (.rcFieldRead .sv 0 0) = false ∧ Instr.wf (.rcFieldRead .sv (2 ^ 32) 4) = false := by decide
theorem test_wf_hostBarAccess : Instr.wf (.hostBarAccess true 0 0 none) = false := by decide
theorem test_wf_bootStage : Instr.wf (.bootStage (List.replicate 524289 0)) = false := by
  simp only [Instr.wf, List.length_replicate]; decide
theorem test_wf_moverHostReadDone (c : Fin 4) : Instr.wf (.moverHostReadDone c true (List.replicate 769 0)) = false := by
  simp only [Instr.wf, List.length_replicate]; decide
theorem test_wf_spiWrite : Instr.wf (.spiWrite false 0 0 0 [1, 2, 3, 4, 5] none) = false := by decide
theorem test_wf_rxFrame : Instr.wf (.rxFrame (List.replicate 128 0) 0 0 0 0) = false := by decide +kernel
theorem test_wf_wirRxFrame : Instr.wf (.wirRxFrame (List.replicate 1537 0) 0) = false := by
  simp only [Instr.wf, List.length_replicate]; decide
theorem test_wf_beacon : Heard.ok (meshHeard 2) = true ∧ Instr.wf (.claimHeard { meshHeard 2 with ie := [1] }) = false ∧
    Instr.wf (.startBeaconHeard { meshHeard 2 with asn := 2 ^ 40 }) = false ∧
    Instr.wf (.scanDwellEnd true [{ meshHeard 2 with src := 2 ^ 64 }]) = false ∧
    Instr.wf (.claimHeard { meshHeard 2 with stamp := 2 ^ 32 }) = false := by decide +kernel
theorem test_wf_slotEngineRequest : Instr.wf (.slotEngineRequest 1 [0] true false 4 [] [] []) = false ∧
    Instr.wf (.slotEngineRequest 1 (List.replicate 13 0) true false 4 [] [] [1, 2, 3, 4, 5]) = false := by decide
theorem test_wf_frame : MmpFrame.ok okF = true ∧ Instr.wf (.joinreq { okF with ttl := 16 }) = false ∧
    Instr.wf (.route { okF with type := 16 }) = false ∧ Instr.wf (.zreport { okF with origin := 2 ^ 64 }) = false ∧
    Instr.wf (.handover { okF with mseq := 2 ^ 16 } true true) = false ∧ Instr.wf (.handack { okF with rootGen := 2 ^ 16 }) = false := by decide
theorem test_wf_handoverRepeat : Instr.wf (.handoverRepeat (List.replicate 128 0)) = false := by decide +kernel
theorem test_wf_boundary : Instr.wf (.samplePreload [] []) = false ∧ Instr.wf (.extest [true] []) = false := by decide
theorem test_wf_pdmWindowEnd : Instr.wf (.pdmWindowEnd 2 1) = false := by decide

/-! ### Values that the spec works out -/

/-- The next state of an outcome. -/
def got (o : Host.Outcome State Fault Refusal) : Option State := match o with
  | .next t => some t
  | _ => none

/-- R335's worked example: QMUL under TRN, RHU and RHE, and its saturation. -/
theorem test_qmul_modes :
    (got (execQmul 1 3 1 2 0 true 3 coreQ)).map (fun t => (t.core 1).reg 3) = some 0xFC3FFE ∧
    (got (execQmul 1 3 1 2 1 true 3 coreQ)).map (fun t => (t.core 1).reg 3) = some 0xFC3FFF ∧
    (got (execQmul 1 3 1 2 2 true 3 coreQ)).map (fun t => (t.core 1).reg 3) = some 0xFC3FFE := by decide +kernel
theorem test_qmul_saturates :
    (got (execQmul 1 3 1 2 2 true 3 coreQs)).map (fun t => ((t.core 1).reg 3, (t.core 1).csrOf 0x010)) = some (0x7FFFFF, 1) ∧
    (got (execQmul 1 3 1 2 2 false 3 coreQs)).map (fun t => (t.core 1).reg 3) = some 0xC80000 := by decide +kernel
/-- Words of the control cores, from the formats of Table CORE-2: QMUL g3, g1, g2 with RHE, sat and sub 3; ADD of g0; a
word of no opcode. -/
theorem test_coreDecode : encodeCore (.qmul 1 3 1 2 2 true 3) = some (1, 0x80C4AB) ∧ coreWordLegal 0x80C4AB = true ∧
    decodeCore 1 0x80C4AB = .qmul 1 3 1 2 2 true 3 ∧ decodeCore 1 0 = .alu 1 0 0 0 0 ∧ coreWordLegal 0xFFFFFF = false ∧
    decodeCore 1 0xFFFFFF = .illegalInstruction 1 0xFFFFFF := by decide +kernel
/-- LIH and ORI of 0x123456 (section 10). -/
theorem test_lih_ori :
    ((got (execLih 1 3 0x48D core53)).bind fun s => got (execOri 1 3 3 0x056 s)).map (fun t => (t.core 1).reg 3) = some 0x123456 := by
  decide +kernel
/-- The log entry of the worked example of section 21: FLT_LOG0 = 0x00D304 has CODE 0x04, UNIT 19, BOOT 1. -/
theorem test_fault_raises : ((lit.setFld F.FLT_BOOTCNT_COUNT 1).fault 0x04 19 0x23 true).log.map (fun e => (e.code, e.unit, e.detail, e.boot)) =
    [(4, 19, 0x23, 1)] ∧ ((lit.fault 0x04 19 0x23 true).healthD 19) = 1 := by decide +kernel
/-- Reset meets the invariant. -/
theorem test_reset_inv : State.reset.Inv := by decide +kernel
/-- A step that goes on from a state that meets the invariant. -/
theorem test_step_inv : State.reset.Inv ∧ step State.reset = .next State.reset.idle := ⟨by decide +kernel, rfl⟩

end Sys2Proof.Tests
end

section
/-! Scope (section 00): the step of the block, the state right after reset, and what writes and reads of a register do. -/

namespace Sys2Proof.Machine

open Sys2Proof

/-! ### Bits of numbers -/

theorem bitOf_eq_testBit (v i : Nat) : bitOf v i = v.testBit i := by
  rw [Nat.testBit_eq_decide_div_mod_eq]
  rfl

theorem testBit_bitsOf (v lo w i : Nat) : (bitsOf v lo w).testBit i = (decide (i < w) && v.testBit (lo + i)) := by
  rw [bitsOf, Nat.testBit_mod_two_pow, Nat.testBit_div_two_pow, Nat.add_comm]

/-- Bits of a replaced field are those of the value put there. -/
theorem bitOf_putBits_in (v lo w x i : Nat) (h : i < w) : bitOf (putBits v lo w x) (lo + i) = x.testBit i := by
  have hfld : (bitsOf (putBits v lo w x) lo w).testBit i = (x % 2 ^ w).testBit i := by rw [bitsOf_putBits_same]
  simpa [testBit_bitsOf, bitOf_eq_testBit, h] using hfld

/-- Bits outside a replaced field keep their values. -/
theorem bitOf_putBits_out (v lo w x i : Nat) (h : i < lo ∨ lo + w ≤ i) : bitOf (putBits v lo w x) i = bitOf v i := by
  have hbit : bitsOf (putBits v lo w x) i 1 = bitsOf v i 1 := by
    rcases h with below | above
    · exact bitsOf_putBits_below v lo w x i 1 below
    · exact bitsOf_putBits_above v lo w x i 1 above
  simpa [bitOf, bitsOf] using congrArg (· == 1) hbit

/-! ### Access codes (Table SCOPE-1) -/

theorem fldWrite_written {f : FldRow} (h : f.acc = .rw ∨ f.acc = .wo) (w v : Nat) :
    fldWrite w v f = putBits w f.lo f.w (bitsOf v f.lo f.w) := by
  rcases h with h | h <;> simp only [fldWrite, h]

theorem fldWrite_kept {f : FldRow} (h : f.acc = .ro ∨ f.acc = .rc) (w v : Nat) : fldWrite w v f = w := by
  rcases h with h | h <;> simp only [fldWrite, h]

theorem bitOf_fldWrite_w1c {f : FldRow} (h : f.acc = .w1c) (w v i : Nat) (hi : i < f.w) :
    bitOf (fldWrite w v f) (f.lo + i) = (bitOf w (f.lo + i) && !bitOf v (f.lo + i)) := by
  have hcompl : (2 ^ f.w - 1 - bitsOf v f.lo f.w).testBit i = !v.testBit (f.lo + i) := by
    rw [Nat.sub_sub, Nat.add_comm 1, Nat.testBit_two_pow_sub_succ (bitsOf_lt v f.lo f.w), testBit_bitsOf]
    simp [hi]
  simp only [fldWrite, h]
  rw [bitOf_putBits_in _ _ _ _ _ hi, Nat.testBit_and, hcompl, testBit_bitsOf]
  simp [hi, bitOf_eq_testBit]

theorem bitOf_fldWrite_w1s {f : FldRow} (h : f.acc = .w1s) (w v i : Nat) (hi : i < f.w) :
    bitOf (fldWrite w v f) (f.lo + i) = (bitOf w (f.lo + i) || bitOf v (f.lo + i)) := by
  simp only [fldWrite, h]
  rw [bitOf_putBits_in _ _ _ _ _ hi, Nat.testBit_or, testBit_bitsOf, testBit_bitsOf]
  simp [hi, bitOf_eq_testBit]

/-- Whatever its access code, a field's write leaves the bits outside the field. -/
theorem bitOf_fldWrite_out (w v : Nat) (f : FldRow) (i : Nat) (h : i < f.lo ∨ f.lo + f.w ≤ i) :
    bitOf (fldWrite w v f) i = bitOf w i := by
  cases hacc : f.acc with
  | ro | rc => rw [fldWrite_kept (by simp [hacc])]
  | rw | wo => rw [fldWrite_written (by simp [hacc]), bitOf_putBits_out _ _ _ _ _ h]
  | w1c | w1s => simp only [fldWrite, hacc]; rw [bitOf_putBits_out _ _ _ _ _ h]

theorem rowAfterRead_single_hit {f : FldRow} {lo n : Nat} (hrc : f.acc = .rc) (h1 : f.lo < 8 * (lo + n))
    (h2 : 8 * lo < f.lo + f.w) (w : Nat) : rowAfterRead lo n [f] w = putBits w f.lo f.w 0 := by
  simp [rowAfterRead, FldRow.inBytes, hrc, h1, h2]

theorem rowAfterRead_single_miss {f : FldRow} {lo n : Nat}
    (h : f.acc ≠ .rc ∨ 8 * (lo + n) ≤ f.lo ∨ f.lo + f.w ≤ 8 * lo) (w : Nat) : rowAfterRead lo n [f] w = w := by
  have hmiss : ¬ (f.acc = .rc ∧ f.inBytes lo n = true) := by
    rintro ⟨hrc, hin⟩
    simp only [FldRow.inBytes, Bool.and_eq_true, decide_eq_true_eq] at hin
    obtain ⟨h1, h2⟩ := hin
    rcases h with h | h | h
    · exact h hrc
    · omega
    · omega
  simp only [rowAfterRead, if_neg hmiss]

/-! ### Bytes of an access (R8, R14) -/

@[simp] theorem length_toBytes (n v : Nat) : (toBytes n v).length = n := by
  induction n generalizing v with
  | zero => rfl
  | succ n ih => simp [toBytes, ih]

theorem ofBytes_toBytes (n v : Nat) : ofBytes (toBytes n v) = v % 2 ^ (8 * n) := by
  induction n generalizing v with
  | zero => simp [toBytes, ofBytes, Nat.mod_one]
  | succ n ih =>
    have hsplit : v % (2 ^ 8 * 2 ^ (8 * n)) = v % 2 ^ 8 + 2 ^ 8 * (v / 2 ^ 8 % 2 ^ (8 * n)) := Nat.mod_mul
    simp only [toBytes, ofBytes, ih, BitVec.toNat_ofNat]
    rw [show 8 * (n + 1) = 8 + 8 * n by ring, pow_add, hsplit]
    rfl

/-- An access within one aligned unit is not cut. -/
theorem cutUnits_within {a lo n : Nat} (ha : a % 4 = 0) (hn : 0 < n) (h : lo + n ≤ 4) :
    cutUnits (a + lo) n = [(a, lo, n)] := by
  have hunit : (a + lo) / 4 * 4 = a := by omega
  have hlo : (a + lo) % 4 = lo := by omega
  have hk : min n (4 - lo) = n := by omega
  simp [cutUnits, hunit, hlo, hk, Nat.pos_iff_ne_zero.mp hn]

/-! ### Registers among the units of the map (Table CLK-7) -/

/-- No scratchpad, window or memory holds the unit at `u`, and its doorbell page, where it lies in one, is not revoked:
an access of it goes to the register bank. -/
structure State.RegUnit (s : State) (u : Nat) : Prop where
  noScratch : scratchOf u = none
  noLocal : localOf u = none
  noRing : isRing u = false
  noSched : isSched u = false
  notShut : s.doorShut u = false
  noWindow : ¬ (0x04000000 ≤ u ∧ u < 0x04020000)

/-- The ranges of Table CLK-7 between the parameter store's window and the doorbell pages hold registers. -/
theorem State.RegUnit.of_range (s : State) {u : Nat} (h1 : 0x04020000 ≤ u) (h2 : u < 0x08000000) (h3 : isSched u = false) :
    s.RegUnit u where
  noScratch := if_neg (by omega)
  noLocal := if_neg (by omega)
  noRing := by simp [isRing, Nat.not_le.mpr h2]
  noSched := h3
  notShut := by simp [State.doorShut, Nat.not_le.mpr h2]
  noWindow := by omega

variable {s : State} {ini : Initiator} {a lo n v : Nat}

/-! ### Writes -/

/-- A register write is a write of its initiator in the state it is in, of the units its bytes cover (R11, R40). -/
theorem exec_registerWrite (h : scratchOf a = none) :
    exec (.registerWrite ini a n v) s = .next (s.cmdWrite ini a fun t =>
      t.writeUnits ini (s.sealedIni ini) (toBytes (min n 4) v) (cutUnits a (min n 4))) := by
  simp [exec, execRegisterWrite, h, State.busWrite, State.cmdWrite]

/-- A row of a scratchpad is no register: the write has no effect. -/
theorem exec_registerWrite_row {c : Nat} (h : scratchOf a = some c) : exec (.registerWrite ini a n v) s = .next s := by
  simp [exec, execRegisterWrite, h]

section
variable {f : State → State} (hs : s.stopped = false)
include hs

/-- What a core in sealed state may not write is discarded (R42). -/
theorem State.cmdWrite_sealed {k : Nat} (hsl : s.sealedIni ini = true) (hk : coreOf ini = some k)
    (hm : sealedMay k a = false) : s.cmdWrite ini a f = s.sealedDiscard a := by
  simp [State.cmdWrite, State.onWrite, hs, hsl, hk, hm]

variable (hsl : s.sealedIni ini = false)
include hsl

theorem State.cmdWrite_refused (hv : s.verdict ini a true = .refused) : s.cmdWrite ini a f = s.addrErr ini a true := by
  simp [State.cmdWrite, State.onWrite, hs, hsl, hv]

theorem State.cmdWrite_dark (hv : s.verdict ini a true = .dark) : s.cmdWrite ini a f = s.dark ini a true := by
  simp [State.cmdWrite, State.onWrite, hs, hsl, hv]

theorem State.cmdWrite_discarded (hv : s.verdict ini a true = .discarded) : s.cmdWrite ini a f = s := by
  simp [State.cmdWrite, State.onWrite, hs, hsl, hv]

end

/-- A register takes the low 24 bits of a write of its 4 bytes (R8, R11). -/
theorem State.RegUnit.writeUnit_whole (h : s.RegUnit a) (b : Bool) :
    s.writeUnit ini b a 0 (toBytes 4 v) = s.writeReg ini b a (v % 2 ^ 24) := by
  have hword : ofBytes ((toBytes 4 v).take 3) = v % 2 ^ 24 := ofBytes_toBytes 3 v
  simp [State.writeUnit, h.noScratch, h.notShut, h.noWindow, h.noRing, h.noSched, h.noLocal, hword]

/-- A register keeps its word under a write of fewer than its 4 bytes (R14). -/
theorem State.RegUnit.writeUnit_short (h : s.RegUnit a) (b : Bool) (bs : List Byte) (hbs : bs.length ≠ 4) :
    s.writeUnit ini b a lo bs = s := by
  simp [State.writeUnit, h.noScratch, hbs]

/-- A write of a whole register that reaches it is the register's own effect. -/
theorem State.RegUnit.exec_registerWrite_whole (h : s.RegUnit a) (ha : a % 4 = 0) (ht : s.Takes ini a) :
    exec (.registerWrite ini a 4 v) s = .next (s.writeReg ini (s.sealedIni ini) a (v % 2 ^ 24)) := by
  have hcut : cutUnits a 4 = [(a, 0, 4)] := cutUnits_within (lo := 0) ha (by decide) (by decide)
  have htake : (toBytes 4 v).take 4 = toBytes 4 v := rfl
  rw [exec_registerWrite h.noScratch, State.cmdWrite_takes _ _ _ _ ht]
  simp only [Nat.min_self, hcut, State.writeUnits, htake, h.writeUnit_whole]

/-- A write of part of a register changes nothing. -/
theorem State.RegUnit.exec_registerWrite_short (h : s.RegUnit a) (ha : a % 4 = 0) (hn : n < 4) (ht : s.Takes ini a) :
    exec (.registerWrite ini a n v) s = .next s := by
  rw [exec_registerWrite h.noScratch, State.cmdWrite_takes _ _ _ _ ht, Nat.min_eq_left hn.le]
  rcases Nat.eq_zero_or_pos n with rfl | hpos
  · rfl
  · have hcut : cutUnits a n = [(a, 0, n)] := cutUnits_within (lo := 0) ha hpos (by omega)
    have hlen : ((toBytes n v).take n).length ≠ 4 := by simp; omega
    simp only [hcut, State.writeUnits, h.writeUnit_short _ _ hlen]

/-- Registers of seven blocks whose write has no effect of its own. -/
def plainAddrs : List Nat := [Reg.CLK_MEMPAGE, Reg.PST_PGSEL, Reg.LNK_NSEL, Reg.HST_IRQEN, Reg.HST_IRQSTAT, Reg.SEAL_STATUS,
  Reg.RTC_STATUS]

/-- They lie at aligned addresses of the blocks of Table CLK-7. -/
theorem plainAddrs_block : ∀ a ∈ plainAddrs, a % 4 = 0 ∧ 0x05000000 ≤ a ∧ a < 0x06000000 := by decide

theorem regUnit_of_plain (s : State) (ha : a ∈ plainAddrs) : s.RegUnit a := by
  obtain ⟨-, h1, h2⟩ := plainAddrs_block a ha
  exact .of_range s (by omega) (by omega) (by simp [isSched, Nat.not_le.mpr h2])

/-- A write of one of them goes by its fields' access codes alone. -/
theorem State.writeReg_of_plain (ha : a ∈ plainAddrs) (b : Bool) : s.writeReg ini b a v = s.writePlain a v := by
  simp only [plainAddrs, List.mem_cons, List.not_mem_nil, or_false] at ha
  rcases ha with rfl | rfl | rfl | rfl | rfl | rfl | rfl <;> rfl

theorem State.writePlain_of_row {r : RegRow} (hr : regRow a = some r) :
    s.writePlain a v = s.setReg a (BitVec.ofNat 24 (rowWrite r.flds (s.reg a).toNat v)) := by
  simp [State.writePlain, hr]

/-- The registers that drive a GPIO ball. -/
def gpioDrive : List Nat := [Reg.SNS_GPIOOE0, Reg.SNS_GPIOOUT0, Reg.SNS_GPIOSET, Reg.SNS_GPIOCLR]

theorem sealedEgress_of {f : Fld} (h : a = Reg.PST_CMD ∧ f = F.SEAL_EGRCNT2_PST ∨ a ∈ gpioDrive ∧ f = F.SEAL_EGRCNT2_GPIO) :
    sealedEgress a = some f := by
  rcases h with ⟨rfl, rfl⟩ | ⟨ha, rfl⟩
  · rfl
  · revert a
    decide

/-! ### The record of an access that may not be made (R95) -/

/-- With a record held, MULTI alone is set. -/
theorem State.addrErr_held (h : s.fld F.CLK_ADDRERR1_VALID = 1) (wr : Bool) :
    s.addrErr ini a wr = s.setFld F.CLK_ADDRERR1_MULTI 1 := by
  simp [State.addrErr, State.addrErrN, State.flag, h]

/-- With none held, the access is recorded under its initiator's number. -/
theorem State.addrErr_new (hi : initNum ini = some n) (h : s.fld F.CLK_ADDRERR1_VALID = 0) (wr : Bool) :
    s.addrErr ini a wr = ((((s.setFld F.CLK_ADDRERR0_ADDR a).setFld F.CLK_ADDRERR1_ADDRHI (a / 2 ^ 24)).setFld
      F.CLK_ADDRERR1_WR (b2n wr)).setFld F.CLK_ADDRERR1_VALID 1).setFld F.CLK_ADDRERR1_INIT n := by
  simp [State.addrErr, State.addrErrN, State.flag, h, hi]

/-- The record holds the access's address, direction and initiator, and nothing else is changed. -/
theorem State.addrErr_record (hi : initNum ini = some n) (h : s.fld F.CLK_ADDRERR1_VALID = 0) (hn : n < 16)
    (ha : a < 2 ^ 32) (wr : Bool) :
    (s.addrErr ini a wr).fld F.CLK_ADDRERR0_ADDR = a % 2 ^ 24 ∧
    (s.addrErr ini a wr).fld F.CLK_ADDRERR1_ADDRHI = a / 2 ^ 24 ∧
    (s.addrErr ini a wr).fld F.CLK_ADDRERR1_WR = b2n wr ∧ (s.addrErr ini a wr).fld F.CLK_ADDRERR1_VALID = 1 ∧
    (s.addrErr ini a wr).fld F.CLK_ADDRERR1_INIT = n ∧
    s.OnlyRegs (s.addrErr ini a wr) [Reg.CLK_ADDRERR0, Reg.CLK_ADDRERR1] := by
  have hhi : a / 16777216 < 256 := by omega
  have hwr : b2n wr ≤ 1 := by cases wr <;> decide
  rw [State.addrErr_new hi h]
  refine ⟨?_, ?_, ?_, ?_, ?_, ?onlyRegs⟩
  case onlyRegs =>
    exact (((((State.OnlyRegs.refl _).setFld _ _ (by decide)).setFld _ _ (by decide)).setFld _ _ (by decide)).setFld _ _
      (by decide)).setFld _ _ (by decide)
  all_goals simp [State.fld_setFld, State.fld_setFld_bits, State.fld_setFld_addr, hhi, hn, hwr]

/-! ### Reads -/

theorem exec_rcFieldRead_shut (h : scratchOf a = none) (hp : s.portOpen ini = false) :
    exec (.rcFieldRead ini a n) s = .next s := by
  simp [exec, execRcFieldRead, h, hp]

theorem exec_rcFieldRead (h : scratchOf a = none) (hp : s.portOpen ini = true) (hn : n ≤ 4) :
    exec (.rcFieldRead ini a n) s = .next { (s.busRead ini a n).1 with readData := (s.busRead ini a n).2 } := by
  simp [exec, execRcFieldRead, h, hp, Nat.min_eq_left hn]

/-- Over a host port that does not answer, every access is lost (R439). -/
theorem State.verdict_of_port_shut (hp : s.portOpen ini = false) (wr : Bool) : s.verdict ini a wr = .discarded := by
  cases ini with
  | pcie =>
    have hbar : s.barOpen = false := hp
    simp [State.verdict, State.gate, hbar]
  | spi =>
    have hspi : s.spiOpen = false := hp
    simp [State.verdict, State.gate, hspi]
  | _ => cases hp

/-- A refused read is recorded and returns zero (R11, R95). -/
theorem State.busRead_refused (hs : s.stopped = false) (hv : s.verdict ini a false = .refused) :
    s.busRead ini a n = (s.addrErr ini a false, List.replicate n 0) := by
  simp [State.busRead, hs, hv]

/-- A read that may be made of bytes of one register. -/
theorem State.RegUnit.busRead_pass (h : s.RegUnit a) (ha : a % 4 = 0) (hn : 0 < n) (hlo : lo + n ≤ 4)
    (hs : s.stopped = false) (hv : s.verdict ini (a + lo) false = .pass) :
    s.busRead ini (a + lo) n = ((s.readReg ini a lo n).1, ((toBytes 4 (s.readReg ini a lo n).2).drop lo).take n) := by
  simp [State.busRead, hs, hv, cutUnits_within ha hn hlo, State.readUnits, State.readUnit, h.noScratch, h.noWindow,
    h.notShut, h.noRing, h.noSched, h.noLocal]

theorem State.readReg_open (hs : s.secretReg a = false) (ha : a ≠ Reg.DBG_CDATA) :
    s.readReg ini a lo n = (s.afterRead a lo n, s.viewWord ini a) := by
  simp [State.readReg, hs, ha]

theorem State.afterRead_rc {r : RegRow} (hr : regRow a = some r) (ho : s.openField a = none) (hc : rowHasRc r.flds = true) :
    s.afterRead a lo n = s.setReg a (BitVec.ofNat 24 (rowAfterRead lo n r.flds (s.reg a).toNat)) := by
  simp [State.afterRead, hr, ho, hc]

theorem State.afterRead_no_rc {r : RegRow} (hr : regRow a = some r) (ho : s.openField a = none)
    (hc : rowHasRc r.flds = false) : s.afterRead a lo n = s := by
  simp [State.afterRead, hr, ho, hc]

/-- What a read of bytes of an open register that no unit withholds answers. -/
theorem State.RegUnit.exec_rcFieldRead_pass (h : s.RegUnit a) (ha : a % 4 = 0) (hn : 0 < n) (hlo : lo + n ≤ 4)
    (hsc : scratchOf (a + lo) = none) (hs : s.stopped = false) (hp : s.portOpen ini = true)
    (hv : s.verdict ini (a + lo) false = .pass) (hsec : s.secretReg a = false) (hd : a ≠ Reg.DBG_CDATA) :
    exec (.rcFieldRead ini (a + lo) n) s =
      .next { s.afterRead a lo n with readData := ((toBytes 4 (s.viewWord ini a)).drop lo).take n } := by
  rw [exec_rcFieldRead hsc hp (by omega), h.busRead_pass ha hn hlo hs hv, State.readReg_open hsec hd]

/-- No computed field of a list lies in the register. -/
theorem overlay_of_elsewhere {w : Nat} {l : Shown} (h : ∀ e ∈ l, e.1.addr ≠ a) : overlay a w l = w := by
  induction l with
  | nil => rfl
  | cons e l ih =>
    rw [overlay, if_neg (h e (by simp)), ih fun x hx => h x (by simp [hx])]

/-- Outside the AES engine, a register with no open field shows its stored word with the computed fields in it. -/
theorem State.viewWord_stored {r : RegRow} (hr : regRow a = some r) (hc : a < 0x05070000 ∨ 0x05080000 ≤ a)
    (ho : s.openField a = none) :
    s.viewWord ini a = rowRead r.flds (overlay a (s.reg a).toNat (s.shown ini a)) := by
  have hcip : ¬ (0x05070000 ≤ a ∧ a < 0x05080000 ∧ cipSecret a ∧ (cipOwner ini = 0 ∨ cipOwner ini ≠ s.cipHolder)) := by
    rintro ⟨h1, h2, -⟩
    omega
  simp only [State.viewWord, hr, if_neg hcip, ho]

/-- A read of a register with no RC field changes no register, one with an RC field clears what it returned of it. -/
theorem State.RegUnit.rcFieldRead_effect {r : RegRow} (h : s.RegUnit a) (hr : regRow a = some r) (ha : a % 4 = 0)
    (hn : 0 < n) (hlo : lo + n ≤ 4) (hsc : scratchOf (a + lo) = none) (hs : s.stopped = false)
    (hp : s.portOpen ini = true) (hv : s.verdict ini (a + lo) false = .pass) (hsec : s.secretReg a = false)
    (hd : a ≠ Reg.DBG_CDATA) (ho : s.openField a = none) :
    Gives (.rcFieldRead ini (a + lo) n) s fun t =>
      t.readData = ((toBytes 4 (s.viewWord ini a)).drop lo).take n ∧
      (rowHasRc r.flds = true → t = { s.setReg a (BitVec.ofNat 24 (rowAfterRead lo n r.flds (s.reg a).toNat)) with
        readData := t.readData }) ∧
      (rowHasRc r.flds = false → t = { s with readData := t.readData }) := by
  refine ⟨_, h.exec_rcFieldRead_pass ha hn hlo hsc hs hp hv hsec hd, rfl, fun hrc => ?_, fun hrc => ?_⟩
  · rw [State.afterRead_rc hr ho hrc]
  · rw [State.afterRead_no_rc hr ho hrc]

/-! ### Counters that a read clears -/

/-- Counter registers of the SEAL and DFA blocks: their fields are RC and fill the register. -/
def counterAddrs : List Nat := [Reg.SEAL_EGRCNT, Reg.SEAL_EGRCNT2, Reg.DFA_STALLCNT 0, Reg.DFA_SATCNT 1]

/-- The fields of such a register: three counters of 8 bits (Table SEAL-7) or one of 24 (Table DFA). -/
def counterFlds : List (List FldRow) := [[⟨0, 8, .rc, 0⟩, ⟨8, 8, .rc, 0⟩, ⟨16, 8, .rc, 0⟩], [⟨0, 24, .rc, 0⟩]]

theorem regRow_of_counter : ∀ a ∈ counterAddrs, ∃ r, regRow a = some r ∧ r.flds ∈ counterFlds := by
  simp only [counterAddrs, List.forall_mem_cons]
  refine ⟨⟨_, rfl, ?_⟩, ⟨_, rfl, ?_⟩, ⟨_, rfl, ?_⟩, ⟨_, rfl, ?_⟩, by simp⟩ <;> decide

theorem rowHasRc_of_counter : ∀ fs ∈ counterFlds, rowHasRc fs = true := by decide

/-- A read of a counter register returns its whole word. -/
theorem rowRead_of_counter {fs : List FldRow} (h : fs ∈ counterFlds) (w : Word) : rowRead fs w.toNat = w.toNat := by
  have hw : w.toNat < 16777216 := w.isLt
  simp only [counterFlds, List.mem_cons, List.not_mem_nil, or_false] at h
  rcases h with rfl | rfl <;> simp [rowRead, fldRead, bitsOf] <;> omega

/-- A read of all its bytes leaves it zero. -/
theorem rowAfterRead_of_counter {fs : List FldRow} (h : fs ∈ counterFlds) (w : Word) : rowAfterRead 0 4 fs w.toNat = 0 := by
  have hw : w.toNat < 16777216 := w.isLt
  simp only [counterFlds, List.mem_cons, List.not_mem_nil, or_false] at h
  rcases h with rfl | rfl <;> simp [rowAfterRead, FldRow.inBytes, putBits, bitsOf] <;> omega

theorem counterAddrs_range : ∀ a ∈ counterAddrs,
    a % 4 = 0 ∧ 0x04020000 ≤ a ∧ a < 0x08000000 ∧ isSched a = false ∧ (a < 0x05070000 ∨ 0x05080000 ≤ a) ∧
      a ≠ Reg.DBG_CDATA := by decide

/-- The registers of the SEAL block with computed fields, for the units of cluster c. -/
def sealShown (c : Nat) : List Nat := [Reg.SEAL_CREDIT, Reg.SEAL_EPOCH, Reg.SEAL_BUDGET, Reg.SEAL_MINIV, Reg.SEAL_UNITST c,
  Reg.SEAL_SVST]

/-- The registers of the DFA block of cluster c with computed fields. -/
def dfaShown (c : Nat) : List Nat := [Reg.DFA_STATUS c, Reg.DFA_CPLCNT c, Reg.DFA_RBAD c, Reg.DFA_POS c, Reg.DFA_CPL c]

theorem State.showSeal_addr (s : State) (c : Nat) : ∀ e ∈ s.showSeal c, e.1.addr ∈ sealShown c := by
  simp [State.showSeal, sealShown]

theorem State.showDfa_addr (s : State) (c : Nat) : ∀ e ∈ s.showDfa c, e.1.addr ∈ dfaShown c := by
  cases hrun : (s.dfa c).run <;> cases hcpl : (s.dfa c).cpl <;> simp [State.showDfa, dfaShown, hrun, hcpl]

/-- What a read of a counter register looks at beside the register: no unit withholds it (R45, R63), the spec leaves no
field of it open, and its block computes none. -/
theorem State.counter_stored (s : State) (ini : Initiator) (ha : a ∈ counterAddrs) :
    s.secretReg a = false ∧ s.openField a = none ∧ ∀ e ∈ s.shown ini a, e.1.addr ≠ a := by
  simp only [counterAddrs, List.mem_cons, List.not_mem_nil, or_false] at ha
  rcases ha with rfl | rfl | rfl | rfl
  · exact ⟨rfl, rfl, fun e he => ne_of_mem_of_not_mem (s.showSeal_addr 0 e he) (by decide)⟩
  · exact ⟨rfl, rfl, fun e he => ne_of_mem_of_not_mem (s.showSeal_addr 0 e he) (by decide)⟩
  · exact ⟨rfl, rfl, fun e he => ne_of_mem_of_not_mem (s.showDfa_addr 0 e he) (by decide)⟩
  · exact ⟨rfl, rfl, fun e he => ne_of_mem_of_not_mem (s.showDfa_addr 1 e he) (by decide)⟩

/-- A read of a whole counter register returns its word and leaves it zero. -/
theorem exec_rcFieldRead_counter (ha : a ∈ counterAddrs) (hs : s.stopped = false) (hp : s.portOpen ini = true)
    (hv : s.verdict ini a false = .pass) :
    exec (.rcFieldRead ini a 4) s = .next { s.setReg a 0 with readData := toBytes 4 (s.reg a).toNat } := by
  obtain ⟨r, hr, hflds⟩ := regRow_of_counter a ha
  obtain ⟨h4, h1, h2, hsched, hcip, hd⟩ := counterAddrs_range a ha
  obtain ⟨hsec, ho, hshown⟩ := s.counter_stored ini ha
  have hu : s.RegUnit a := .of_range s h1 h2 hsched
  have hview : s.viewWord ini a = (s.reg a).toNat := by
    rw [State.viewWord_stored hr hcip ho, overlay_of_elsewhere hshown, rowRead_of_counter hflds]
  have hafter : s.afterRead a 0 4 = s.setReg a 0 := by
    rw [State.afterRead_rc hr ho (rowHasRc_of_counter _ hflds), rowAfterRead_of_counter hflds]
    rfl
  have hread := hu.exec_rcFieldRead_pass (lo := 0) (n := 4) h4 (by decide) (by decide) hu.noScratch hs hp hv hsec hd
  rwa [hview, hafter] at hread

/-! ### The state right after reset -/

/-- The reset value of PWR_DOMd is that of domain d (Table PWR-8). -/
theorem regReset_dom {d : Nat} (hd : d < 26) : regReset (Reg.PWR_DOM d) = BitVec.ofNat 24 (pwrDomReset d) := by
  have haddr : Reg.PWR_DOM d = 0x05000100 + 4 * d := rfl
  have hrange : 0x05000100 ≤ Reg.PWR_DOM d ∧ Reg.PWR_DOM d < 0x05000168 ∧ Reg.PWR_DOM d % 4 = 0 := by omega
  have hidx : (Reg.PWR_DOM d - 0x05000100) / 4 = d := by omega
  rw [regReset, if_pos hrange, hidx]

/-- AON and SUP are ON after reset, the other domains OFF (R108). -/
theorem State.dom_reset {d : Nat} (hd : d < 26) : State.reset.dom d = if d < 2 then 2 else 0 := by
  have hfld : State.reset.dom d = bitsOf (regReset (Reg.PWR_DOM d)).toNat 2 2 := rfl
  rw [hfld, regReset_dom hd, pwrDomReset]
  split <;> cases domTakesRet d <;> rfl

/-! ### The statements -/

/-- Settles O1: both clauses are the two cases of the queue that `step` distinguishes. -/
theorem stepRunsFront : Obligations.StepRunsFront := by
  refine ⟨fun s c rest => rfl, fun s h => ?_⟩
  simp only [step, h]

/-- Settles O2: after reset every table is empty, so each reader gives its default; of the registers that is the Reset
column of their tables (R10). -/
theorem resetValues : Obligations.ResetValues := by
  unfold Obligations.ResetValues
  refine ⟨?domains, ?registers, ?bytes, ?seals, ?cores, ?clock, ?fields⟩
  case domains => exact fun d hd => State.dom_reset hd
  case registers => exact fun a => rfl
  case bytes => exact fun a => rfl
  case seals => exact fun c r => ⟨rfl, rfl, rfl⟩
  case cores => exact fun k => ⟨rfl, rfl⟩
  case clock => decide
  case fields => decide

/-- Settles O15, clause by clause from the rules above on writes, records and reads. -/
theorem registerWrites : Obligations.RegisterWrites := by
  unfold Obligations.RegisterWrites
  refine ⟨?whole, ?short, ?sealedW, ?egress, ?discarded, ?refused, ?dark, ?readRefused, ?record, ?held, ?codes, ?counter,
    ?read, ?view, ?rowRead, ?rowAfterRead, ?portShut⟩
  case whole =>
    intro s ini a v r ha hr ht
    have ha4 := (plainAddrs_block a ha).1
    rw [Becomes, (regUnit_of_plain s ha).exec_registerWrite_whole ha4 ht, State.writeReg_of_plain ha,
      State.writePlain_of_row hr]
  case short =>
    intro s ini a n v ha hn ht
    exact (regUnit_of_plain s ha).exec_registerWrite_short (plainAddrs_block a ha).1 hn ht
  case sealedW =>
    intro s ini a n v k hs hsl hk hsc hm he
    rw [Becomes, exec_registerWrite hsc, State.cmdWrite_sealed hs hsl hk hm, State.sealedDiscard, he]
  case egress =>
    intro s ini a n v k f hs hsl hk hsc hm he
    rw [Becomes, exec_registerWrite hsc, State.cmdWrite_sealed hs hsl hk hm, State.sealedDiscard, sealedEgress_of he]
  case discarded =>
    intro s ini a n v hs hsl hv
    cases hsc : scratchOf a with
    | some c => exact exec_registerWrite_row hsc
    | none => rw [Becomes, exec_registerWrite hsc, State.cmdWrite_discarded hs hsl hv]
  case refused =>
    intro s ini a n v hs hsl hsc hv
    rw [Becomes, exec_registerWrite hsc, State.cmdWrite_refused hs hsl hv]
  case dark =>
    intro s ini a n v hs hsl hsc hv
    rw [Becomes, exec_registerWrite hsc, State.cmdWrite_dark hs hsl hv, State.dark]
  case readRefused =>
    intro s ini a n hs hsc hv hn
    have hp : s.portOpen ini = true := by
      by_contra hshut
      have hlost := State.verdict_of_port_shut (a := a) (Bool.eq_false_iff.mpr hshut) false
      simp [hv] at hlost
    rw [Becomes, exec_rcFieldRead hsc hp hn, State.busRead_refused hs hv]
  case record => exact fun s ini a n wr hi h hn ha => State.addrErr_record hi h hn ha wr
  case held => exact fun s ini a wr h => State.addrErr_held h wr
  case codes =>
    intro w v lo n f hf hlo hw
    obtain rfl : f.lo = lo := congrArg FldRow.lo hf
    obtain rfl : f.w = n := congrArg FldRow.w hf
    refine ⟨fun h => ?_, fun h => fldWrite_kept h w v, fun h i hi => bitOf_fldWrite_w1c h w v i hi,
      fun h i hi => bitOf_fldWrite_w1s h w v i hi, fun i _ hi => bitOf_fldWrite_out w v f i hi⟩
    rw [fldWrite_written h, bitsOf_putBits_same, Nat.mod_eq_of_lt (bitsOf_lt v f.lo f.w)]
  case counter => exact fun s ini a ha hs hp hv => exec_rcFieldRead_counter ha hs hp hv
  case read =>
    intro s ini a lo n r hr h4 hn hlo hsc hsc0 hloc hring hsched hdoor hwin hd hs hp hv hsec ho
    have hu : s.RegUnit a := ⟨hsc0, hloc, hring, hsched, hdoor, by omega⟩
    exact hu.rcFieldRead_effect hr h4 hn hlo hsc hs hp hv hsec hd ho
  case view =>
    intro s ini a r hr hc hshown ho
    rw [State.viewWord_stored hr hc ho, hshown, overlay]
  case rowRead => exact fun f fs w => ⟨rfl, rfl⟩
  case rowAfterRead =>
    intro f w lo n hw hf
    refine ⟨fun hrc h1 h2 => ?_, fun h => rowAfterRead_single_miss h w⟩
    rw [rowAfterRead_single_hit hrc h1 h2, bitsOf_putBits_same]
    exact ⟨Nat.zero_mod _, fun i _ hi => bitOf_putBits_out w f.lo f.w 0 i hi⟩
  case portShut => exact fun s ini a n _ hsc hp => exec_rcFieldRead_shut hsc hp

end Sys2Proof.Machine
end

section
/-! The seal and the franking meter (section 02): zones and their credit, the checks of a FRANK, epochs, rings, and
partial writes of rows. -/

namespace Sys2Proof.Machine

open Sys2Proof

/-! ### Credit (R56) -/

/-- No bucket of the zone exceeds its budget. -/
def Zone.Bounded (z : Zone) : Prop :=
  z.b0 ≤ z.budget ∧ z.b1 ≤ z.budget ∧ z.b2 ≤ z.budget ∧ z.b3 ≤ z.budget ∧ z.b4 ≤ z.budget

/-- What a debit leaves in each bucket: an older one gives first. -/
theorem zoneDebit_buckets (z : Zone) (n : Nat) :
    (zoneDebit z n).b4 = z.b4 - n ∧ (zoneDebit z n).b3 = z.b3 - (n - z.b4) ∧
    (zoneDebit z n).b2 = z.b2 - (n - z.b4 - z.b3) ∧ (zoneDebit z n).b1 = z.b1 - (n - z.b4 - z.b3 - z.b2) ∧
    (zoneDebit z n).b0 = z.b0 - (n - z.b4 - z.b3 - z.b2 - z.b1) := ⟨rfl, rfl, rfl, rfl, rfl⟩

/-- A debit within the credit lowers it by the bits debited. -/
theorem zoneAvail_zoneDebit {z : Zone} {n : Nat} (h : n ≤ zoneAvail z) : zoneAvail (zoneDebit z n) + n = zoneAvail z := by
  simp only [zoneAvail, zoneDebit] at h ⊢
  omega

/-- A bucket gives bits of a debit only when the older one is left empty. -/
theorem older_empty_of_taken {old young m : Nat} (h : young - (m - old) < young) : old - m = 0 := by omega

theorem Zone.Bounded.avail_le {z : Zone} (h : z.Bounded) : zoneAvail z ≤ 5 * z.budget := by
  obtain ⟨h0, h1, h2, h3, h4⟩ := h
  simp only [zoneAvail]
  omega

theorem Zone.Bounded.debit {z : Zone} (h : z.Bounded) (n : Nat) : (zoneDebit z n).Bounded := by
  obtain ⟨h0, h1, h2, h3, h4⟩ := h
  exact ⟨(Nat.sub_le ..).trans h0, (Nat.sub_le ..).trans h1, (Nat.sub_le ..).trans h2, (Nat.sub_le ..).trans h3,
    (Nat.sub_le ..).trans h4⟩

/-- The zone after an advance at a clk_aon cycle: buckets one older, B0 granted the budget (R55, R56). -/
def Zone.advanced (z : Zone) (now : Nat) : Zone :=
  { z with epoch := (z.epoch + 1) % 65536, b4 := z.b3, b3 := z.b2, b2 := z.b1, b1 := z.b0, b0 := z.budget, seq := 0,
           last := now }

theorem Zone.Bounded.advanced {z : Zone} (h : z.Bounded) (now : Nat) : (z.advanced now).Bounded := by
  obtain ⟨h0, h1, h2, h3, -⟩ := h
  exact ⟨le_rfl, h0, h1, h2, h3⟩

/-! ### Fresh marks and lists (R47, R48) -/

variable {s t u : State} {c d r z : Nat} {e : Fresh}

/-- Nothing but fresh marks and fresh lists differs between `s` and `t`. -/
def State.OnlyFresh (s t : State) : Prop := t = { s with marks := t.marks, fresh := t.fresh }

theorem State.OnlyFresh.refl (s : State) : s.OnlyFresh s := rfl

theorem State.OnlyFresh.trans (h : s.OnlyFresh t) (h' : t.OnlyFresh u) : s.OnlyFresh u := by
  rw [State.OnlyFresh] at h h' ⊢
  rw [h', h]

theorem State.onlyFresh_clearFresh (s : State) (c r : Nat) : s.OnlyFresh (s.clearFresh c r) := rfl

theorem State.onlyFresh_foldl {α : Type} {f : State → α → State} (hf : ∀ (s : State) (x : α), s.OnlyFresh (f s x)) (l : List α) (s : State) :
    s.OnlyFresh (l.foldl f s) := by
  induction l generalizing s with
  | nil => exact .refl s
  | cons x l ih => exact (hf s x).trans (ih (f s x))

theorem State.freshOf_clearFresh (s : State) (c r d : Nat) :
    (s.clearFresh c r).freshOf d = if d = c then (s.freshOf c).filter (fun e => e.row != r % 4096) else s.freshOf d :=
  tabGet_tabSet (fun _ => []) s.fresh c d _

/-- An entry stands after a row is no longer fresh if it stood before and is not of that row. -/
theorem State.mem_freshOf_clearFresh :
    e ∈ (s.clearFresh c r).freshOf d ↔ e ∈ s.freshOf d ∧ (d = c → e.row ≠ r % 4096) := by
  rw [State.freshOf_clearFresh]
  by_cases h : d = c <;> simp [h]

/-- The fresh entries of zone z dropped in one cluster. -/
def State.dropZoneIn (z : Nat) (s : State) (c : Nat) : State :=
  ((s.freshOf c).filter fun e => e.zone == z).foldl (fun s e => s.clearFresh c e.row) s

theorem State.dropZone_eq (s : State) (z : Nat) : s.dropZone z = (List.range 4).foldl (State.dropZoneIn z) s := rfl

theorem State.onlyFresh_dropZoneIn (z : Nat) (s : State) (c : Nat) : s.OnlyFresh (s.dropZoneIn z c) :=
  State.onlyFresh_foldl (fun (s : State) (e : Fresh) => s.onlyFresh_clearFresh c e.row) _ s

theorem State.onlyFresh_dropZone (s : State) (z : Nat) : s.OnlyFresh (s.dropZone z) :=
  State.onlyFresh_foldl (State.onlyFresh_dropZoneIn z) _ s

theorem State.mem_freshOf_foldl_clearFresh (l : List Fresh) (s : State) :
    e ∈ (l.foldl (fun s x => s.clearFresh c x.row) s).freshOf d ↔
      e ∈ s.freshOf d ∧ (d = c → ∀ x ∈ l, e.row ≠ x.row % 4096) := by
  induction l generalizing s with
  | nil => simp
  | cons x l ih =>
    rw [List.foldl_cons, ih, State.mem_freshOf_clearFresh, List.forall_mem_cons]
    tauto

theorem State.mem_of_mem_dropZoneIn (h : e ∈ (s.dropZoneIn z c).freshOf d) : e ∈ s.freshOf d :=
  ((State.mem_freshOf_foldl_clearFresh _ s).mp h).1

/-- Where a list holds rows of a scratchpad, no entry of the zone is left in it. -/
theorem State.zone_ne_of_mem_dropZoneIn (hrow : ∀ x ∈ s.freshOf c, x.row < 4096) (h : e ∈ (s.dropZoneIn z c).freshOf c) :
    e.zone ≠ z := by
  obtain ⟨hmem, hgone⟩ := (State.mem_freshOf_foldl_clearFresh _ s).mp h
  intro hz
  refine hgone rfl e (List.mem_filter.mpr ⟨hmem, by simpa using hz⟩) ?_
  rw [Nat.mod_eq_of_lt (hrow e hmem)]

theorem State.mem_of_mem_foldl_dropZoneIn (cs : List Nat) (s : State)
    (h : e ∈ (cs.foldl (State.dropZoneIn z) s).freshOf d) : e ∈ s.freshOf d := by
  induction cs generalizing s with
  | nil => exact h
  | cons c cs ih => exact State.mem_of_mem_dropZoneIn (ih _ h)

theorem State.zone_ne_of_mem_foldl_dropZoneIn (cs : List Nat) (s : State) (hd : d ∈ cs)
    (hrow : ∀ x ∈ s.freshOf d, x.row < 4096) (h : e ∈ (cs.foldl (State.dropZoneIn z) s).freshOf d) : e.zone ≠ z := by
  induction cs generalizing s with
  | nil => simp at hd
  | cons c cs ih =>
    rcases List.mem_cons.mp hd with rfl | hd
    · exact State.zone_ne_of_mem_dropZoneIn hrow (State.mem_of_mem_foldl_dropZoneIn cs _ h)
    · exact ih _ hd (fun x hx => hrow x (State.mem_of_mem_dropZoneIn hx)) h

/-- No entry of a dropped zone is left in any cluster's list. -/
theorem State.zone_ne_of_mem_dropZone (hd : d < 4) (hrow : ∀ x ∈ s.freshOf d, x.row < 4096)
    (h : e ∈ (s.dropZone z).freshOf d) : e.zone ≠ z :=
  State.zone_ne_of_mem_foldl_dropZoneIn (List.range 4) s (List.mem_range.mpr hd) hrow h

/-! ### Fields as flags -/

theorem State.flag_of_one {f : Fld} (h : s.fld f = 1) : s.flag f = true := by simp [State.flag, h]

theorem State.flag_of_zero {f : Fld} (h : s.fld f = 0) : s.flag f = false := by simp [State.flag, h]

/-! ### Epochs (R55) -/

section
variable {n : Nat} (hen : s.fld (F.SEAL_ADV_EN n) = 1) (hlock : s.fld F.SEAL_CTRL_LOCK = 1)
include hen hlock

/-- An arrival at a task whose binding is enabled after LOCK comes too early, or advances its zone. -/
theorem State.sealAdvance_enabled : s.sealAdvance n =
    let zi := s.fld (F.SEAL_ADV_ZONE n)
    if s.aonCycles < (s.zone zi).last + (s.zone zi).miniv ∨ s.fld F.CLK_STATUS_AONOK = 0 then
      s.setFld F.SEAL_STATUS_ADVEARLY 1
    else (s.setZone zi ((s.zone zi).advanced s.aonCycles)).dropZone zi := by
  simp [State.sealAdvance, State.flag, hen, hlock, Zone.advanced]

/-- An arrival that comes too early, or without the crystal, is only marked (R55, R105). -/
theorem State.sealAdvance_early (h : s.aonCycles < (s.zone (s.fld (F.SEAL_ADV_ZONE n))).last +
    (s.zone (s.fld (F.SEAL_ADV_ZONE n))).miniv ∨ s.fld F.CLK_STATUS_AONOK = 0) :
    s.sealAdvance n = s.setFld F.SEAL_STATUS_ADVEARLY 1 := by
  rw [State.sealAdvance_enabled hen hlock]
  exact if_pos h

/-- An arrival in time advances the zone and drops its fresh entries. -/
theorem State.sealAdvance_due (hz : s.fld (F.SEAL_ADV_ZONE n) = z) (haon : s.fld F.CLK_STATUS_AONOK = 1)
    (hdue : (s.zone z).last + (s.zone z).miniv ≤ s.aonCycles) :
    s.sealAdvance n = (s.setZone z ((s.zone z).advanced s.aonCycles)).dropZone z := by
  subst hz
  rw [State.sealAdvance_enabled hen hlock]
  exact if_neg (by omega)

end

/-- What an arrival at an advance task can do: nothing, an early mark, or an advance. -/
theorem State.sealAdvance_cases (s : State) (n : Nat) :
    s.sealAdvance n = s ∨ s.sealAdvance n = s.setFld F.SEAL_STATUS_ADVEARLY 1 ∨
    ∃ z, s.sealAdvance n = (s.setZone z ((s.zone z).advanced s.aonCycles)).dropZone z := by
  rw [State.sealAdvance]
  split
  · exact .inl rfl
  · dsimp only
    split
    · exact .inr (.inl rfl)
    · exact .inr (.inr ⟨_, rfl⟩)

theorem State.zone_dropZone (s : State) (z j : Nat) : (s.dropZone z).zone j = s.zone j := by
  have hzones : (s.dropZone z).zones = s.zones := by rw [s.onlyFresh_dropZone z]
  simp only [State.zone, hzones]

theorem State.bounded_sealAdvance (n : Nat) {zi : Nat} (h : (s.zone zi).Bounded) : ((s.sealAdvance n).zone zi).Bounded := by
  rcases s.sealAdvance_cases n with hs | hs | ⟨z, hs⟩ <;> rw [hs]
  · exact h
  · exact h
  · rw [State.zone_dropZone, State.zone_setZone]
    split
    · next heq => exact heq ▸ h.advanced _
    · exact h

/-- Settles O8: a debit takes from the oldest bucket first, and both a debit and an advance keep every bucket within the
budget. -/
theorem creditOrder : Obligations.CreditOrder := by
  unfold Obligations.CreditOrder
  refine ⟨fun z => rfl, fun z n h => ?debit, fun z h => Zone.Bounded.avail_le h, fun z n h => Zone.Bounded.debit h n,
    fun s n zi h => State.bounded_sealAdvance n h⟩
  case debit =>
    obtain ⟨h4, h3, h2, h1, h0⟩ := zoneDebit_buckets z n
    exact ⟨h4, h3, h2, h1, h0, zoneAvail_zoneDebit h⟩

theorem State.regs_dropZone (s : State) (z : Nat) : (s.dropZone z).regs = s.regs := by
  rw [s.onlyFresh_dropZone z]

theorem State.mem_dropZone (s : State) (z : Nat) : (s.dropZone z).mem = s.mem := by
  rw [s.onlyFresh_dropZone z]

theorem State.tags_dropZone (s : State) (z : Nat) : (s.dropZone z).tags = s.tags := by
  rw [s.onlyFresh_dropZone z]

/-- Settles O20, from what an advance in time and an early one do. -/
theorem zoneAdvance : Obligations.ZoneAdvance := by
  unfold Obligations.ZoneAdvance
  refine ⟨?due, ?early⟩
  case early => exact fun s n hen hlock h => State.sealAdvance_early hen hlock h
  case due =>
    intro s n zi hen hlock hz haon hdue hrow
    rw [State.sealAdvance_due hen hlock hz haon hdue]
    refine ⟨?zone, fun j hj => ?others, fun c hc e he => ?fresh, State.regs_dropZone _ _, State.mem_dropZone _ _, State.tags_dropZone _ _⟩
    case zone =>
      rw [State.zone_dropZone, State.zone_setZone_same]
      rfl
    case fresh => exact State.zone_ne_of_mem_dropZone hc (by simpa using hrow c hc) he
    case others => rw [State.zone_dropZone, State.zone_setZone, if_neg hj]

/-! ### The checks of a FRANK (R50) -/

section
variable {src offset bits : Nat} (hlock : s.fld F.SEAL_CTRL_LOCK = 1) (hout : s.fld F.SEAL_CTRL_LOCKOUT = 0)
include hlock hout

theorem State.frankCheck_range (h : bits = 0 ∨ 256 < bits ∨ 3072 < offset + bits) :
    s.frankCheck c src offset bits = .inl 7 := by
  simp [State.frankCheck, State.flag_of_one hlock, State.flag_of_zero hout, h]

variable (h1 : 1 ≤ bits) (h2 : bits ≤ 256) (h3 : offset + bits ≤ 3072)
include h1 h2 h3

/-- With the meter locked, not locked out, and the field in range, the checks go by the row's fresh entry. -/
theorem State.frankCheck_entry : s.frankCheck c src offset bits =
    match s.freshEntry c src with
    | none => .inl 8
    | some e =>
      if e.epoch ≠ (s.zone e.zone).epoch then .inl 8
      else if 16 ≤ (s.zone e.zone).seq then .inl 9
      else if s.ringFull c then .inl 10
      else if zoneAvail (s.zone e.zone) < bits then .inl 11
      else .inr e.zone := by
  have hrange : ¬ (bits = 0 ∨ 256 < bits ∨ 3072 < offset + bits) := by omega
  simp only [State.frankCheck, State.flag_of_one hlock, State.flag_of_zero hout, if_neg hrange]
  rfl

theorem State.frankCheck_stale (h : ∀ e, s.freshEntry c src = some e → e.epoch ≠ (s.zone e.zone).epoch) :
    s.frankCheck c src offset bits = .inl 8 := by
  rw [State.frankCheck_entry hlock hout h1 h2 h3]
  cases hf : s.freshEntry c src with
  | none => rfl
  | some e => exact if_pos (h e hf)

theorem State.frankCheck_fresh (hf : s.freshEntry c src = some e) (he : e.epoch = (s.zone e.zone).epoch) :
    s.frankCheck c src offset bits =
      if 16 ≤ (s.zone e.zone).seq then .inl 9
      else if s.ringLen c = 0 ∨ s.ringHeld c = s.ringLen c then .inl 10
      else if zoneAvail (s.zone e.zone) < bits then .inl 11 else .inr e.zone := by
  simp [State.frankCheck_entry hlock hout h1 h2 h3, hf, he, State.ringFull]

end

/-- Settles O19: each refusal stands behind the checks that passed, and a debit drains the older bucket before it
touches the younger. -/
theorem meterChecks : Obligations.MeterChecks := by
  unfold Obligations.MeterChecks
  refine ⟨?unlocked, ?lockout, fun s c src offset bits hl ho h => State.frankCheck_range hl ho h,
    fun s c src offset bits hl ho h1 h2 h3 h => State.frankCheck_stale hl ho h1 h2 h3 h,
    fun s c src offset bits e hl ho h1 h2 h3 hf he => State.frankCheck_fresh hl ho h1 h2 h3 hf he, ?debit⟩
  case unlocked =>
    intro s c src offset bits h
    simp [State.frankCheck, State.flag_of_zero h]
  case lockout =>
    intro s c src offset bits hl ho
    simp [State.frankCheck, State.flag_of_one hl, State.flag_of_one ho]
  case debit =>
    intro z n h
    exact ⟨Nat.eq_sub_of_add_eq (zoneAvail_zoneDebit h), older_empty_of_taken, older_empty_of_taken, older_empty_of_taken,
      older_empty_of_taken, rfl, rfl, rfl⟩

end Sys2Proof.Machine
end

section
/-! Partial writes of rows, FRANK at the meter, and writes to a ring's registers. -/

namespace Sys2Proof.Machine

open Sys2Proof

/-! ### Tables -/

section
variable {α : Type}

theorem filter_tabInsert (m : Tab α) (k : Nat) (v : α) :
    (tabInsert k v m).filter (fun e => e.1 != k) = m.filter fun e => e.1 != k := by
  induction m with
  | nil => simp [tabInsert]
  | cons e t ih =>
    simp only [tabInsert]
    split
    · simp
    · simp [List.filter_cons, ih]

/-- Of two writes at one key the second counts. -/
theorem tabSet_tabSet [DecidableEq α] (d : Nat → α) (m : Tab α) (k : Nat) (v w : α) :
    tabSet d (tabSet d m k v) k w = tabSet d m k w := by
  have hgone : (tabSet d m k v).filter (fun e => e.1 != k) = m.filter fun e => e.1 != k := by
    simp only [tabSet]
    split
    · simp
    · rw [filter_tabInsert]
      simp
  simp only [tabSet] at hgone ⊢
  rw [hgone]

end

variable {s : State} {a c r : Nat} {t : Bool} {bs : List Byte}

@[simp] theorem State.setTally_setTally (s : State) (c : Nat) (x y : Tally) : (s.setTally c x).setTally c y = s.setTally c y := by
  simp only [State.setTally, tabSet_tabSet]

/-! ### Partial writes (R38, R48) -/

theorem populated_of_row (ha : a < 0x800000) (h : a % 0x200 < 384) : populated a = true := by
  simp [populated, ha, h]

/-- The row an address lies in begins at the multiple of 0x200 below it. -/
theorem rowAddr_rowAt (a : Nat) : rowAddr (rowAt a).1 (rowAt a).2 + a % 0x200 = a := by
  simp only [rowAddr, rowAt]
  omega

theorem State.writePart_regs (s : State) (c r off : Nat) (bs : List Byte) (t : Bool) : (s.writePart c r off bs t).regs = s.regs := rfl

theorem State.tags_writePart (s : State) (c r off : Nat) (bs : List Byte) (t : Bool) :
    (s.writePart c r off bs t).tags = tabSet (fun _ => false) s.tags (rowKey c r) (s.tag c r || t) := rfl

theorem State.tag_writePart (s : State) (c r off : Nat) (bs : List Byte) (t : Bool) :
    (s.writePart c r off bs t).tag c r = (s.tag c r || t) := tabGet_tabSet_same ..

theorem State.mark_clearFresh (s : State) (c r : Nat) : (s.clearFresh c r).mark c r = false :=
  tabGet_tabSet_same (fun _ => false) s.marks (rowKey c r) false

theorem State.mark_writePart (s : State) (c r off : Nat) (bs : List Byte) (t : Bool) :
    (s.writePart c r off bs t).mark c r = false := State.mark_clearFresh ..

theorem State.byte_writePart (s : State) (c r off : Nat) (bs : List Byte) (t : Bool) (b : Nat) :
    (s.writePart c r off bs t).byte b = (s.setBytes (rowAddr c r + off) (bs.take (384 - off))).byte b := rfl

/-- A second partial write of the row, behind the first, is one write of the bytes of both. -/
theorem State.writePart_writePart (s : State) (c r off : Nat) (b : Byte) (bs : List Byte) (t : Bool)
    (h : off + (bs.length + 1) ≤ 384) :
    (s.writePart c r off [b] t).writePart c r (off + 1) bs t = s.writePart c r off (b :: bs) t := by
  have hb : ([b] : List Byte).take (384 - off) = [b] := List.take_of_length_le (by simp; omega)
  have hbs : bs.take (384 - (off + 1)) = bs := List.take_of_length_le (by omega)
  have hbbs : (b :: bs).take (384 - off) = b :: bs := List.take_of_length_le (by simp; omega)
  have htag : (s.writePart c r off [b] t).tag c r = (s.tag c r || t) := s.tag_writePart ..
  rw [State.writePart, htag]
  simp only [State.writePart, State.clearFresh, State.setFresh, State.freshOf, State.setTag, State.setBytes, hb, hbs, hbbs,
    tabSet_tabSet, tabGet_tabSet_same, List.filter_filter, Bool.and_self, Bool.or_assoc, Bool.or_self, tabSetList,
    Nat.add_assoc]

/-- A write of bytes that lie in one row is one partial write of the row. -/
theorem State.spWrite_in_row (hne : bs ≠ []) (hrow : a % 0x200 + bs.length ≤ 384) (ha : a < 0x800000) :
    s.spWrite a t bs = s.writePart (rowAt a).1 (rowAt a).2 (a % 0x200) bs t := by
  induction bs generalizing s a with
  | nil => exact absurd rfl hne
  | cons b bs ih =>
    rw [List.length_cons] at hrow
    have hput : s.spPut a b t = s.writePart (rowAt a).1 (rowAt a).2 (a % 0x200) [b] t := by
      rw [State.spPut, if_pos (populated_of_row ha (by omega))]
    rw [State.spWrite, hput]
    rcases eq_or_ne bs [] with rfl | hbs
    · rfl
    · have hlen : 0 < bs.length := List.length_pos_of_ne_nil hbs
      have hoff : (a + 1) % 0x200 = a % 0x200 + 1 := by omega
      have hat : rowAt (a + 1) = rowAt a := by simp only [rowAt, Prod.mk.injEq]; omega
      rw [ih hbs (by omega) (by omega), hat, hoff, State.writePart_writePart _ _ _ _ _ _ _ hrow]

/-- Settles O16: the write is one partial write of its row. -/
theorem scratchpadBytes : Obligations.ScratchpadBytes := by
  unfold Obligations.ScratchpadBytes
  refine ⟨?row, ?gap⟩
  case gap =>
    intro s a t b h
    have hno : populated a = false := by simp [populated]; omega
    simp [State.spWrite, State.spPut, hno]
  case row =>
    intro s a t bs hne hrow ha
    have hbyte (b : Nat) : (s.spWrite a t bs).byte b = (s.setBytes a bs).byte b := by
      rw [State.spWrite_in_row hne hrow ha, State.byte_writePart, rowAddr_rowAt, List.take_of_length_le (by omega)]
    dsimp only
    refine ⟨fun i hi => ?_, fun b hb => ?_, ?_, ?_, fun k hk => ?_, ?_⟩
    · rw [hbyte, State.byte_setBytes_in _ _ _ _ hi, List.getD_eq_getElem _ _ hi]
    · rw [hbyte, State.byte_setBytes_out _ _ _ _ hb]
    all_goals rw [State.spWrite_in_row hne hrow ha]
    · exact s.tag_writePart ..
    · exact s.mark_writePart ..
    · rw [State.tags_writePart, tabGet_tabSet_ne _ _ _ _ _ hk]
    · exact s.writePart_regs ..

/-! ### FRANK at the meter (R50, R52) -/

theorem State.tally_setZone_clearFresh (s : State) (zi : Nat) (z : Zone) (c r d : Nat) :
    ((s.setZone zi z).clearFresh c r).tally d = s.tally d := rfl

section
variable {e : TalEntry} {n : Nat} (hact : s.unitsAct c = true)
  (hfind : (s.tally c).entries.zipIdx.find? (fun x => wsOpc x.1.ws == 6 && x.1.phase == .running) = some (e, n))
include hact hfind

/-- A FRANK that runs meets the check, and its entry takes the outcome. -/
theorem State.tallyDebit_running : s.tallyDebit c =
    let o := s.frankDebit c (d1f e.ws 0 12) (d2f e.ws 0 12) (d3f e.ws 0 9)
    o.1.setTally c { o.1.tally c with
      entries := (o.1.tally c).entries.set n { e with phase := .back, status := o.2.1, elems := o.2.2.map (·.toNat) } } := by
  simp only [State.tallyDebit, hact, hfind]
  rfl

end

/-! ### The ring's registers (R53) -/

section
variable {v : Nat}

theorem State.writeRp_accepted (hlen : 0 < s.ringLen c)
    (h : (v + 2 * s.ringLen c - s.fld (F.SEAL_RINGRP_RP c)) % (2 * s.ringLen c) ≤ s.ringHeld c) :
    s.writeRp c v = s.setFld (F.SEAL_RINGRP_RP c) (v % (2 * s.ringLen c)) := by
  simp [State.writeRp, Nat.pos_iff_ne_zero.mp hlen, h]

theorem State.writeRp_beyond (hlen : 0 < s.ringLen c)
    (h : s.ringHeld c < (v + 2 * s.ringLen c - s.fld (F.SEAL_RINGRP_RP c)) % (2 * s.ringLen c)) :
    s.writeRp c v = s.setFld F.SEAL_STATUS_RPBAD 1 := by
  simp [State.writeRp, Nat.pos_iff_ne_zero.mp hlen, Nat.not_le.mpr h]

theorem State.writeRp_no_ring (hlen : s.ringLen c = 0) (h : v ≠ s.fld (F.SEAL_RINGRP_RP c)) :
    s.writeRp c v = s.setFld F.SEAL_STATUS_RPBAD 1 := by
  simp [State.writeRp, hlen, h]

theorem State.writeRingCfg_busy (h : s.fld (F.SEAL_RINGWP_WP c) ≠ s.fld (F.SEAL_RINGRP_RP c)) :
    s.writeRingCfg c v = s.setFld F.SEAL_STATUS_RINGBUSY 1 := if_pos h

/-- With the pointers equal, a ring that fits is set and the pointers go on modulo twice its length. -/
theorem State.writeRingCfg_set (h : s.fld (F.SEAL_RINGWP_WP c) = s.fld (F.SEAL_RINGRP_RP c)) (hlen : bitsOf v 12 7 ≤ 64)
    (hfit : bitsOf v 0 12 + bitsOf v 12 7 ≤ 4096) :
    s.writeRingCfg c v =
      let w := if bitsOf v 12 7 = 0 then 0 else s.fld (F.SEAL_RINGWP_WP c) % (2 * bitsOf v 12 7)
      (((s.setFld (F.SEAL_RINGCFG_BASE c) (bitsOf v 0 12)).setFld (F.SEAL_RINGCFG_LEN c) (bitsOf v 12 7)).setFld
        (F.SEAL_RINGWP_WP c) w).setFld (F.SEAL_RINGRP_RP c) w := by
  have hok : ¬ (64 < bitsOf v 12 7 ∨ 4096 < bitsOf v 0 12 + bitsOf v 12 7) := by omega
  simp only [State.writeRingCfg, if_neg (not_not_intro h), if_neg hok]

end

theorem becomes_ringRpWrite {ini : Initiator} {c : Fin 4} (v : Word) (h : s.Takes ini (Reg.SEAL_RINGRP c)) :
    Becomes (.ringRpWrite ini c v) s (s.writeRp c (bitsOf v.toNat 0 7)) := by
  simp only [Becomes, exec, execRingRpWrite, State.cmdWrite_takes _ _ _ _ h]

theorem becomes_ringCfgWrite {ini : Initiator} {c : Fin 4} (v : Word) (h : s.Takes ini (Reg.SEAL_RINGCFG c)) :
    Becomes (.ringCfgWrite ini c v) s (s.writeRingCfg c v.toNat) := by
  simp only [Becomes, exec, execRingCfgWrite, State.cmdWrite_takes _ _ _ _ h]

/-- Settles O18: a FRANK that runs takes the outcome of the check, and a ring's registers that of their write. -/
theorem frankAndRingCommands : Obligations.FrankAndRingCommands := by
  unfold Obligations.FrankAndRingCommands
  refine ⟨?passed, ?refused, ?rp, ?rpBad, ?cfg, ?rpNoRing, ?cfgNone, ?cfgBusy⟩
  case passed =>
    intro s c e n zi hact hfind hcheck
    simp only [Becomes, exec, execFrankDebit, State.tallyDebit_running hact hfind, State.frankDebit, hcheck,
      State.tally_setZone_clearFresh]
  case refused =>
    intro s c e n code hact hfind hcheck
    simp only [Becomes, exec, execFrankDebit, State.tallyDebit_running hact hfind, State.frankDebit, hcheck,
      State.tally_incFld, List.map_nil]
  case rp =>
    rintro s ini c v _ ht rfl hlen h
    exact State.writeRp_accepted hlen h ▸ becomes_ringRpWrite v ht
  case rpBad =>
    rintro s ini c v _ ht rfl hlen h
    exact State.writeRp_beyond hlen h ▸ becomes_ringRpWrite v ht
  case rpNoRing =>
    intro s ini c v ht hlen h
    exact State.writeRp_no_ring hlen h ▸ becomes_ringRpWrite v ht
  case cfg =>
    rintro s ini c v _ _ ht rfl rfl hptr h1 h2 h3
    have hset := State.writeRingCfg_set hptr h2 h3
    simp only [if_neg (Nat.pos_iff_ne_zero.mp h1)] at hset
    dsimp only
    exact hset ▸ becomes_ringCfgWrite v ht
  case cfgNone =>
    intro s ini c v ht hptr hlen
    have hset := State.writeRingCfg_set hptr (v := v.toNat) (by omega) (by have := bitsOf_lt v.toNat 0 12; omega)
    simp only [hlen, if_true] at hset
    exact hset ▸ becomes_ringCfgWrite v ht
  case cfgBusy =>
    intro s ini c v ht hptr
    exact State.writeRingCfg_busy hptr ▸ becomes_ringCfgWrite v ht

end Sys2Proof.Machine
end

section
/-! Task starts and wakes of the control cores, and the end of a wipe (R43, R342-R345). -/

namespace Sys2Proof.Machine

open Sys2Proof

variable {s : State} {c : CoreSt} {k j : Nat} {rest : List Nat}

/-! ### Halts that do not wait -/

theorem CoreSt.settle_of_no_halt (h : c.haltWait = false) : c.settle = c := by simp [CoreSt.settle, h]

/-! ### Task starts (R342, R343) -/

theorem State.coreListens_of (hdom : s.domOn (coreDom k) = true) (hrun : s.weather = .run) : s.coreListens k = true := by
  simp [State.coreListens, hdom, hrun]

/-- The task that starts is the first of the core's four that has an arrival. -/
theorem State.startsOf_first (h : s.startsOf k = j :: rest) :
    j < 4 ∧ (s.arriving.contains (4 * k + j) ∨ s.flag (F.EVF_TASK_HELD (4 * k + j))) ∧
    ∀ i : Nat, i < j → s.arriving.contains (4 * k + i) = false ∧ s.flag (F.EVF_TASK_HELD (4 * k + i)) = false := by
  have hmem (i : Nat) : i ∈ j :: rest ↔
      i < 4 ∧ (s.arriving.contains (4 * k + i) || s.flag (F.EVF_TASK_HELD (4 * k + i))) = true := by
    rw [← h, State.startsOf, List.mem_filter, List.mem_range]
  obtain ⟨hj, harr⟩ := (hmem j).mp (List.mem_cons_self ..)
  have hsorted : (j :: rest).Pairwise (· < ·) := h ▸ List.pairwise_lt_range.filter _
  refine ⟨hj, by simpa using harr, fun i hi => ?_⟩
  by_contra hnot
  have hi' : i ∈ j :: rest := (hmem i).mpr ⟨by omega, by
    rw [Bool.or_eq_true]
    by_contra hno
    exact hnot ⟨by simp_all, by simp_all⟩⟩
  rcases List.mem_cons.mp hi' with rfl | hrest
  · exact absurd hi (lt_irrefl _)
  · have := List.rel_of_pairwise_cons hsorted hrest
    omega

section
variable (hl : s.coreListens k = true) (hst : s.startsOf k = j :: rest)
include hl hst

theorem State.taskStart_idle (hidle : (s.core k).run = .idle) (hhalt : (s.core k).haltWait = false) :
    s.taskStart k = ((s.consumeStart (4 * k + j)).setCore k
      { s.core k with run := .run, pc := ((s.core k).csrOf (8 + j)).truncate 16, task := j, tvalid := true }).parkStarts k := by
  simp only [State.taskStart, hl, hst, hidle, if_true]
  rw [CoreSt.settle_of_no_halt (by exact hhalt)]
  rfl

theorem State.taskStart_busy (hbusy : (s.core k).run ≠ .idle) : s.taskStart k = s.parkStarts k := by
  simp [State.taskStart, hl, hst, hbusy]

end

theorem State.taskStart_none (h : s.startsOf k = []) : s.taskStart k = s := by simp [State.taskStart, h]

/-! ### Wakes (R344, R345) -/

/-- The state once the wake of core k is taken. -/
def State.wakeTaken (s : State) (k : Nat) : State :=
  { s with arriving := s.arriving.filter (· != 20 + k) }.setCore k { s.core k with wake := true }

theorem State.core_wakeTaken (s : State) (k : Nat) : (s.wakeTaken k).core k = { s.core k with wake := true } :=
  State.core_setCore_same ..

/-- TPEND is not 0 once a wake is taken. -/
theorem State.tpend_wakeTaken (s : State) (k : Nat) : (s.wakeTaken k).tpend k ≠ 0 := by
  simp [State.tpend, State.core_wakeTaken]

section
variable (hl : s.coreListens k = true)
include hl

theorem State.coreWake_running (harr : s.arriving.contains (20 + k) = true) (hrun : (s.core k).run ≠ .wait) :
    s.coreWake k = s.wakeTaken k := by
  simp only [State.coreWake, hl, harr, if_true]
  exact if_neg (by simp [hrun])

theorem State.coreWake_waiting (harr : s.arriving.contains (20 + k) = true) (hrun : (s.core k).run = .wait) :
    s.coreWake k = (s.wakeTaken k).setCore k { s.core k with run := .run, wake := false, hail := false } := by
  have hgo : (s.core k).run = .wait ∧ ((s.wakeTaken k).tpend k ≠ 0 ∨ (s.core k).hail = true) :=
    ⟨hrun, .inl (s.tpend_wakeTaken k)⟩
  have hcore := s.core_wakeTaken k
  rw [State.wakeTaken] at hgo hcore
  simp only [State.coreWake, hl, harr, if_true, if_pos hgo, hcore, State.wakeTaken]

theorem State.coreWake_hailed (harr : s.arriving.contains (20 + k) = false) (hrun : (s.core k).run = .wait)
    (hhail : (s.core k).hail = true) :
    s.coreWake k = s.setCore k { s.core k with run := .run, wake := false, hail := false } := by
  simp only [State.coreWake, hl, harr, if_true, Bool.false_eq_true, if_false]
  exact if_pos ⟨hrun, .inr hhail⟩

end

theorem State.core_returnArrival (s : State) (u k : Nat) : (s.returnArrival u).core k = s.core k := by
  simp [State.returnArrival]

/-- A task-start arrival that is discarded still reaches the core in WAIT. -/
theorem State.hail_holdArrival (hk : k < 5) (hj : j < 4) (hrun : (s.core k).run = .wait)
    (hdrop : s.fld (F.EVF_TASK_DROP (4 * k + j)) = 1) : ((s.holdArrival (4 * k + j)).core k).hail = true := by
  have hcore : (4 * k + j) / 4 = k := by omega
  have hu : 4 * k + j < 20 := by omega
  have hhold : s.holdArrival (4 * k + j) = (s.hailCore (4 * k + j)).returnArrival (4 * k + j) := if_neg (by simp [hdrop])
  rw [hhold, State.core_returnArrival, State.hailCore, hcore, if_pos ⟨hu, hrun⟩, State.core_setCore_same]

/-! ### The end of a wipe (R43) -/

theorem CoreSt.endWipe_clears (c : CoreSt) (r : Nat) :
    c.endWipe.reg r = 0 ∧ c.endWipe.acc0 = 0 ∧ c.endWipe.acc1 = 0 ∧ c.endWipe.csrOf 0x010 = 0 ∧ c.endWipe.dirty = [] := by
  have hreg : ∀ x : CoreSt, x.g = [] → x.reg r = 0 := fun x hx => by simp [CoreSt.reg, hx, tabGet]
  have hsat : (c.setCsr 0x010 0).csrOf 0x010 = 0 := by simp [CoreSt.csrOf_setCsr]
  cases h : c.haltWait <;> simp only [CoreSt.endWipe, CoreSt.setCsr, h] <;> exact ⟨hreg _ rfl, rfl, rfl, hsat, rfl⟩

theorem CoreSt.endWipe_idle (h : c.haltWait = false) : c.endWipe.run = .idle ∧ c.endWipe.pc = c.pc := by
  simp [CoreSt.endWipe, CoreSt.setCsr, h]

theorem CoreSt.endWipe_halt (h : c.haltWait = true) :
    c.endWipe.run = .halt ∧ c.endWipe.pc = 0 ∧ c.endWipe.tvalid = false := by
  simp [CoreSt.endWipe, CoreSt.setCsr, h]

/-- The bytes of dirty blocks read zero, every other byte what it was. -/
theorem State.byte_wipeBlocks (s : State) (k a : Nat) :
    (s.wipeBlocks k).byte a = if dataAddr k 0 ≤ a ∧ a < dataAddr k 32768 ∧
      tabGet (fun _ => false) (s.core k).dirty ((a - dataAddr k 0) / 256) then 0 else s.byte a := by
  rw [State.byte, State.wipeBlocks, tabGet_tabClear]
  simp only [Bool.and_eq_true, decide_eq_true_eq, and_assoc]
  rfl

/-- Settles O37, from what a start, a wake and the end of a wipe do to their core. -/
theorem coreTasks : Obligations.CoreTasks := by
  unfold Obligations.CoreTasks
  refine ⟨?start, fun s k j rest h => State.startsOf_first h, ?none, ?busy, ?wakeRuns, ?wakeWaits, ?hailed,
    fun s k j hrun hdrop => State.hail_holdArrival k.isLt j.isLt hrun hdrop, ?wipeEnd, ?core,
    fun s k a _ _ => s.byte_wipeBlocks k a, ?noWipe⟩
  case start =>
    intro s k j rest hdom hw hidle hhalt hst
    exact congrArg ok (State.taskStart_idle (State.coreListens_of hdom hw) hst hidle hhalt)
  case none => exact fun s k h => congrArg ok (State.taskStart_none h)
  case busy =>
    exact fun s k j rest hdom hw hbusy hst => congrArg ok (State.taskStart_busy (State.coreListens_of hdom hw) hst hbusy)
  case wakeRuns =>
    exact fun s k hdom hw harr hrun => congrArg ok (State.coreWake_running (State.coreListens_of hdom hw) harr hrun)
  case wakeWaits =>
    intro s k hdom hw harr hrun
    refine ⟨_, congrArg ok (State.coreWake_waiting (State.coreListens_of hdom hw) harr hrun), ?_⟩
    beta_reduce
    rw [State.core_setCore_same]
    exact ⟨rfl, rfl, rfl, rfl, rfl, rfl⟩
  case hailed =>
    exact fun s k hdom hw harr hrun hhail =>
      congrArg ok (State.coreWake_hailed (State.coreListens_of hdom hw) harr hrun hhail)
  case wipeEnd => exact fun s k hrun hst => congrArg ok (if_pos ⟨hrun, hst⟩)
  case core =>
    intro c r
    obtain ⟨hg, h0, h1, hsat, hdirty⟩ := c.endWipe_clears r
    exact ⟨hg, h0, h1, hsat, hdirty, CoreSt.endWipe_idle, CoreSt.endWipe_halt⟩
  case noWipe => exact fun s k h => congrArg ok (if_neg (by tauto))

end Sys2Proof.Machine
end

section
/-! The instruction words of the control cores (R325-R327): a word is determined by the fields of its format, and a legal
word stands for the one command it encodes. -/

namespace Sys2Proof

/-! ### Words and their fields (Table CORE-2) -/

variable {w : Word} {k : Fin 5}

theorem ofNat_eq_iff {m n : Nat} {x : BitVec m} (h : n < 2 ^ m) : BitVec.ofNat m n = x ↔ n = x.toNat := by
  rw [← BitVec.toNat_inj, BitVec.toNat_ofNat, Nat.mod_eq_of_lt h]

theorem coreBits_lt (w : Word) (lo n : Nat) : coreBits w lo n < 2 ^ n := Nat.mod_lt _ (Nat.two_pow_pos n)

/-- A word is made up of its opcode, two register fields and ten low bits. -/
theorem toNat_eq_fields (w : Word) :
    w.toNat = coreOp w * 2 ^ 18 + fieldA w * 2 ^ 14 + fieldB w * 2 ^ 10 + coreBits w 0 10 := by
  have hw : w.toNat < 16777216 := w.isLt
  simp only [coreOp, fieldA, fieldB, coreReg, coreBits, Fin.ofNat]
  omega

/-- The ten low bits of a word of QF or RR are a register field and six bits. -/
theorem lowBits_eq_fields (w : Word) : coreBits w 0 10 = fieldC w * 64 + coreBits w 0 6 := by
  simp only [fieldC, coreReg, coreBits, Fin.ofNat]
  omega

/-- A word of RR, RI, CB or CZ is its opcode, two register fields and ten low bits. -/
theorem coreWord_eq_iff {op low : Nat} (hop : op < 64) (a b : Fin 16) (hlow : low < 1024) :
    coreWord op a b low = w ↔ coreOp w = op ∧ fieldA w = a ∧ fieldB w = b ∧ coreBits w 0 10 = low := by
  have hlow' : coreBits w 0 10 < 1024 := coreBits_lt w 0 10
  rw [coreWord, ofNat_eq_iff (by omega), toNat_eq_fields w, Fin.ext_iff, Fin.ext_iff]
  omega

/-- A word of JL or LIH is its opcode, a register field and fourteen low bits. -/
theorem coreWord14_eq_iff {op : Nat} (hop : op < 64) (a : Fin 16) (imm : BitVec 14) :
    coreWord op a 0 imm.toNat = w ↔ coreOp w = op ∧ fieldA w = a ∧ coreImm14 w = imm := by
  have hw : w.toNat < 16777216 := w.isLt
  have himm : imm.toNat < 16384 := imm.isLt
  rw [coreWord, ofNat_eq_iff (by omega), coreImm14, ofNat_eq_iff (coreBits_lt w 0 14)]
  simp only [coreOp, fieldA, coreReg, coreBits, Fin.ext_iff, Fin.ofNat]
  omega

theorem riWord_eq_iff {op : Nat} (hop : op < 64) (a b : Fin 16) (imm : BitVec 10) :
    coreWord op a b imm.toNat = w ↔ coreOp w = op ∧ fieldA w = a ∧ fieldB w = b ∧ coreImm10 w = imm := by
  rw [coreWord_eq_iff hop a b imm.isLt, coreImm10, ofNat_eq_iff (coreBits_lt w 0 10)]

theorem cbWord_eq_iff (cond : Fin 6) (a b : Fin 16) (off : BitVec 10) :
    coreWord (0x10 + cond) a b off.toNat = w ↔
      coreOp w = 0x10 + cond ∧ fieldA w = a ∧ fieldB w = b ∧ coreImm10 w = off := riWord_eq_iff (by omega) a b off

theorem czWord_eq_iff (cond : Fin 6) (a : Fin 16) (imm : BitVec 4) (off : BitVec 10) :
    coreWord (0x16 + cond) a imm.toNat off.toNat = w ↔
      coreOp w = 0x16 + cond ∧ fieldA w = a ∧ coreImm4 w = imm ∧ coreImm10 w = off := by
  rw [coreImm4, ofNat_eq_iff (coreBits_lt w 10 4)]
  simpa [fieldB, coreReg, Fin.ext_iff, Fin.ofNat, coreBits] using
    riWord_eq_iff (w := w) (op := 0x16 + cond) (by omega) a imm.toFin off

theorem rrWord_eq_iff {op : Nat} (hop : op < 64) (a b c : Fin 16) (fn : Fin 64) :
    coreWord op a b (c * 64 + fn) = w ↔ coreOp w = op ∧ fieldA w = a ∧ fieldB w = b ∧ fieldC w = c ∧ coreFn w = fn := by
  have hfn : (coreFn w : Nat) = coreBits w 0 6 := Nat.mod_eq_of_lt (coreBits_lt w 0 6)
  rw [coreWord_eq_iff hop a b (by omega), lowBits_eq_fields, ← hfn, Fin.ext_iff (a := fieldC w), Fin.ext_iff (a := coreFn w)]
  omega

/-- The six low bits of a word of QF are rm, sat and sub. -/
theorem qfBits_eq_fields (w : Word) : coreBits w 0 6 = coreRm w * 16 + (if coreSat w then 8 else 0) + coreSub w := by
  have hsat : (if coreSat w then 8 else 0) = 8 * coreBits w 3 1 := by
    have := coreBits_lt w 3 1
    simp only [coreSat, beq_iff_eq]
    split <;> omega
  rw [hsat]
  simp only [coreRm, coreSub, coreBits, Fin.ofNat]
  omega

theorem qfWord_eq_iff {op : Nat} (hop : op < 64) (a b c : Fin 16) (rm : Fin 4) (sat : Bool) (sub : Fin 8) :
    qfWord op a b c rm sat sub = w ↔ coreOp w = op ∧ fieldA w = a ∧ fieldB w = b ∧ fieldC w = c ∧ coreRm w = rm ∧
      coreSat w = sat ∧ coreSub w = sub := by
  have hlow : (c : Nat) * 64 + rm * 16 + (if sat then 8 else 0) + sub < 1024 := by split <;> omega
  rw [qfWord, coreWord_eq_iff hop a b hlow, lowBits_eq_fields, qfBits_eq_fields, Fin.ext_iff (a := fieldC w),
    Fin.ext_iff (a := coreRm w), Fin.ext_iff (a := coreSub w)]
  cases sat <;> cases coreSat w <;> simp <;> omega

theorem sysWord_eq_iff {fn : Nat} (h : fn < 64) :
    coreWord 0x3F 0 0 fn = w ↔ coreOp w = 0x3F ∧ coreBits w 6 12 = 0 ∧ coreBits w 0 6 = fn := by
  have hw : w.toNat < 16777216 := w.isLt
  rw [coreWord, ofNat_eq_iff (by omega)]
  simp only [coreOp, coreBits]
  omega

/-! ### Legal words (R326) -/

/-- The opcodes of legal words; a SYS word has a zero field and a function of Table CORE-8. -/
theorem coreOp_of_legal (h : coreWordLegal w = true) :
    coreOp w ≤ 0x09 ∨ (0x10 ≤ coreOp w ∧ coreOp w ≤ 0x1D) ∨ (0x20 ≤ coreOp w ∧ coreOp w ≤ 0x26) ∨
    (0x30 ≤ coreOp w ∧ coreOp w ≤ 0x33) ∨ (coreOp w = 0x3F ∧ coreBits w 6 12 = 0 ∧ coreBits w 0 6 ≤ 5) := by
  simp only [coreWordLegal] at h
  split_ifs at h
  case neg => simp_all
  all_goals omega

theorem coreWordLegal_of_opcode (h : w.toNat / 2 ^ 18 ∈ [0x0A, 0x0F, 0x1E, 0x1F, 0x27, 0x2F, 0x34, 0x3E]) :
    coreWordLegal w = false := by
  have hop : coreOp w = w.toNat / 2 ^ 18 := by
    have := w.isLt
    simp only [coreOp, coreBits]
    omega
  simp only [List.mem_cons, List.not_mem_nil, or_false] at h
  by_contra hl
  have := coreOp_of_legal (Bool.of_not_eq_false hl)
  omega

theorem decodeCore_cb (hl : coreWordLegal w = true) (h1 : 0x10 ≤ coreOp w) (h2 : coreOp w ≤ 0x15) :
    decodeCore k w = .cbBranch k (Fin.ofNat 6 (coreOp w - 0x10)) (fieldA w) (fieldB w) (coreImm10 w) := by
  interval_cases hop : coreOp w <;> simp [decodeCore, hl, hop]

theorem decodeCore_cz (hl : coreWordLegal w = true) (h1 : 0x16 ≤ coreOp w) (h2 : coreOp w ≤ 0x1B) :
    decodeCore k w = .czBranch k (Fin.ofNat 6 (coreOp w - 0x16)) (fieldA w) (coreImm4 w) (coreImm10 w) := by
  interval_cases hop : coreOp w <;> simp [decodeCore, hl, hop]

theorem decodeCore_illegal (hl : coreWordLegal w = false) : decodeCore k w = .illegalInstruction k w := by
  simp [decodeCore, hl]

/-! ### Decoding and encoding -/

section
variable {op : Nat} (hlt : op < 64) (hop : coreOp w = op)
include hlt hop

theorem encodes_ri {mk : Fin 16 → Fin 16 → BitVec 10 → Instr}
    (h : ∀ a b imm, encodeCore (mk a b imm) = some (k, coreWord op a b imm.toNat)) : ∃ c, encodeCore c = some (k, w) :=
  ⟨mk (fieldA w) (fieldB w) (coreImm10 w), by rw [h, (riWord_eq_iff hlt _ _ _).mpr ⟨hop, rfl, rfl, rfl⟩]⟩

theorem encodes_jl {mk : Fin 16 → BitVec 14 → Instr}
    (h : ∀ a imm, encodeCore (mk a imm) = some (k, coreWord op a 0 imm.toNat)) : ∃ c, encodeCore c = some (k, w) :=
  ⟨mk (fieldA w) (coreImm14 w), by rw [h, (coreWord14_eq_iff hlt _ _).mpr ⟨hop, rfl, rfl⟩]⟩

theorem encodes_rr {mk : Fin 16 → Fin 16 → Fin 16 → Fin 64 → Instr}
    (h : ∀ a b c fn, encodeCore (mk a b c fn) = some (k, coreWord op a b (c * 64 + fn))) : ∃ c, encodeCore c = some (k, w) :=
  ⟨mk (fieldA w) (fieldB w) (fieldC w) (coreFn w), by
    rw [h, (rrWord_eq_iff hlt _ _ _ _).mpr ⟨hop, rfl, rfl, rfl, rfl⟩]⟩

theorem encodes_qf {mk : Fin 16 → Fin 16 → Fin 16 → Fin 4 → Bool → Fin 8 → Instr}
    (h : ∀ a b c rm sat sub, encodeCore (mk a b c rm sat sub) = some (k, qfWord op a b c rm sat sub)) :
    ∃ c, encodeCore c = some (k, w) :=
  ⟨mk (fieldA w) (fieldB w) (fieldC w) (coreRm w) (coreSat w) (coreSub w), by
    rw [h, (qfWord_eq_iff hlt _ _ _ _ _ _).mpr ⟨hop, rfl, rfl, rfl, rfl, rfl, rfl⟩]⟩

end

theorem encodes_cb (h1 : 0x10 ≤ coreOp w) (h2 : coreOp w ≤ 0x15) : ∃ c, encodeCore c = some (k, w) :=
  ⟨.cbBranch k ⟨coreOp w - 0x10, by omega⟩ (fieldA w) (fieldB w) (coreImm10 w), by
    rw [encodeCore, (cbWord_eq_iff _ _ _ _).mpr ⟨by simp only; omega, rfl, rfl, rfl⟩]⟩

theorem encodes_cz (h1 : 0x16 ≤ coreOp w) (h2 : coreOp w ≤ 0x1B) : ∃ c, encodeCore c = some (k, w) :=
  ⟨.czBranch k ⟨coreOp w - 0x16, by omega⟩ (fieldA w) (coreImm4 w) (coreImm10 w), by
    rw [encodeCore, (czWord_eq_iff _ _ _ _).mpr ⟨by simp only; omega, rfl, rfl, rfl⟩]⟩

theorem encodes_sys (hop : coreOp w = 0x3F) (hz : coreBits w 6 12 = 0) (hfn : coreBits w 0 6 ≤ 5) :
    ∃ c, encodeCore c = some (k, w) := by
  have hword : coreWord 0x3F 0 0 (coreBits w 0 6) = w := (sysWord_eq_iff (by omega)).mpr ⟨hop, hz, rfl⟩
  interval_cases coreBits w 0 6
  · exact ⟨.sysNop k, by rw [encodeCore, hword]⟩
  · exact ⟨.tend k, by rw [encodeCore, hword]⟩
  · exact ⟨.park k, by rw [encodeCore, hword]⟩
  · exact ⟨.xback k, by rw [encodeCore, hword]⟩
  · exact ⟨.brk k, by rw [encodeCore, hword]⟩
  · exact ⟨.drain k, by rw [encodeCore, hword]⟩

/-- Every legal word is the word of a command, the opcode saying which. -/
theorem exists_encodeCore (k : Fin 5) (hl : coreWordLegal w = true) : ∃ c, encodeCore c = some (k, w) := by
  obtain h | ⟨h1, h2⟩ | ⟨h1, h2⟩ | ⟨h1, h2⟩ | ⟨hop, hz, hfn⟩ := coreOp_of_legal hl
  · interval_cases hop : coreOp w
    · exact encodes_rr (mk := fun a b c fn => .alu k fn a b c) (by decide) hop fun _ _ _ _ => rfl
    · exact encodes_ri (mk := .addi k) (by decide) hop fun _ _ _ => rfl
    · exact encodes_ri (mk := .andi k) (by decide) hop fun _ _ _ => rfl
    · exact encodes_ri (mk := .ori k) (by decide) hop fun _ _ _ => rfl
    · exact encodes_ri (mk := .xori k) (by decide) hop fun _ _ _ => rfl
    · exact encodes_ri (mk := .tlti k) (by decide) hop fun _ _ _ => rfl
    · exact encodes_ri (mk := .shi k) (by decide) hop fun _ _ _ => rfl
    · exact encodes_jl (mk := .lih k) (by decide) hop fun _ _ => rfl
    · exact encodes_ri (mk := .ld k) (by decide) hop fun _ _ _ => rfl
    · exact encodes_ri (mk := .st k) (by decide) hop fun _ _ _ => rfl
  · rcases Nat.lt_or_ge (coreOp w) 0x16 with hcb | hcb
    · exact encodes_cb h1 (by omega)
    rcases Nat.lt_or_ge (coreOp w) 0x1C with hcz | hcz
    · exact encodes_cz hcb (by omega)
    interval_cases hop : coreOp w
    · exact encodes_jl (mk := .call k) (by decide) hop fun _ _ => rfl
    · exact encodes_ri (mk := .callr k) (by decide) hop fun _ _ _ => rfl
  · interval_cases hop : coreOp w
    · exact encodes_qf (mk := .qmul k) (by decide) hop fun _ _ _ _ _ _ => rfl
    · exact encodes_qf (mk := .qadd k) (by decide) hop fun _ _ _ _ _ _ => rfl
    · exact encodes_qf (mk := .qsh k) (by decide) hop fun _ _ _ _ _ _ => rfl
    · exact encodes_qf (mk := .mac k) (by decide) hop fun _ _ _ _ _ _ => rfl
    · exact encodes_qf (mk := .accx k) (by decide) hop fun _ _ _ _ _ _ => rfl
    · exact encodes_rr (mk := .acc k) (by decide) hop fun _ _ _ _ => rfl
    · exact encodes_qf (mk := .hop k) (by decide) hop fun _ _ _ _ _ _ => rfl
  · interval_cases hop : coreOp w
    · exact encodes_ri (mk := .csrr k) (by decide) hop fun _ _ _ => rfl
    · exact encodes_ri (mk := .csrw k) (by decide) hop fun _ _ _ => rfl
    · exact encodes_ri (mk := .csrset k) (by decide) hop fun _ _ _ => rfl
    · exact encodes_ri (mk := .csrclr k) (by decide) hop fun _ _ _ => rfl
  · exact encodes_sys hop hz hfn

/-- A command whose word is legal is the command of that word. -/
theorem decodeCore_of_encodeCore {c : Instr} (h : encodeCore c = some (k, w)) (hl : coreWordLegal w = true) :
    decodeCore k w = c := by
  unfold encodeCore at h
  split at h
  case h_11 k' cond a b off =>
    obtain ⟨rfl, hw⟩ : k' = k ∧ coreWord (0x10 + cond) a b off.toNat = w := by simpa using h
    obtain ⟨hop, rfl, rfl, rfl⟩ := (cbWord_eq_iff cond a b off).mp hw
    rw [decodeCore_cb hl (by omega) (by omega)]
    simp [hop]
  case h_12 k' cond a imm off =>
    obtain ⟨rfl, hw⟩ : k' = k ∧ coreWord (0x16 + cond) a imm.toNat off.toNat = w := by simpa using h
    obtain ⟨hop, rfl, rfl, rfl⟩ := (czWord_eq_iff cond a imm off).mp hw
    rw [decodeCore_cz hl (by omega) (by omega)]
    simp [hop]
  case h_32 k' v =>
    obtain ⟨hno, rfl, rfl⟩ : coreWordLegal v = false ∧ k' = k ∧ v = w := by simpa using h
    rw [hl] at hno
    cases hno
  case h_33 => cases h
  all_goals
    obtain ⟨rfl, hw⟩ := Prod.mk.inj (Option.some.inj h)
    simp only [riWord_eq_iff, rrWord_eq_iff, coreWord14_eq_iff, qfWord_eq_iff, sysWord_eq_iff, Nat.reduceLT] at hw
    simp [decodeCore, hl, hw, decodeSys]

/-- The command of a legal word has that word. -/
theorem encodeCore_decodeCore (hl : coreWordLegal w = true) : encodeCore (decodeCore k w) = some (k, w) := by
  obtain ⟨c, hc⟩ := exists_encodeCore k hl
  rw [decodeCore_of_encodeCore hc hl, hc]

end Sys2Proof
end

section
/-! CSR and SYS instructions, exceptions and illegal words of the control cores (R42, R345-R353). -/

namespace Sys2Proof.Machine

open Sys2Proof

variable {s : State} {c : CoreSt} {k rd rs1 i : Nat}

/-! ### One instruction of a core that runs -/

/-- A core that runs takes the instruction's effect, or ILLEGAL where it has none. -/
theorem State.instr_runs (h : s.coreRuns k = true) (body : CoreSt → Option CoreSt) :
    s.instr k body = ((body (s.core k)).map fun c => s.setCore k c.retired).getD (s.illegal k) := by
  simp only [State.instr, h, if_true]
  cases body (s.core k) <;> rfl

theorem State.instr_stalled (h : s.coreRuns k = false) (body : CoreSt → Option CoreSt) : s.instr k body = s := by
  simp [State.instr, h]

/-- What a core that runs is in. -/
theorem State.coreRuns_core (h : s.coreRuns k = true) :
    (s.core k).run = .run ∧ (s.core k).load = none ∧ (s.core k).haltWait = false := by
  simp only [State.coreRuns, Bool.and_eq_true, beq_iff_eq, Option.isNone_iff_eq_none, Bool.not_eq_true'] at h
  obtain ⟨⟨⟨⟨hrun, hload⟩, hhalt⟩, -⟩, -⟩ := h
  exact ⟨hrun, hload, hhalt⟩

/-! ### CSRs (R351, R353) -/

section
variable {f : Word → Word → Word} (h : s.coreRuns k = true)
include h

theorem State.csrWrite_open (hi : csrListed i = true) (ho : (s.core k).sealedSt = false) :
    s.csrWrite k rd rs1 i f = s.setCore k
      (((s.core k).writeCsr i (f (s.csr k i) ((s.core k).reg rs1))).setReg rd (s.csr k i)).next.retired := by
  simp [State.csrWrite, h, hi, ho]

theorem State.csrWrite_sealed (hi : csrListed i = true) (hs : (s.core k).sealedSt = true) :
    s.csrWrite k rd rs1 i f =
      (s.setCore k ((s.core k).setReg rd (s.csr k i)).next.retired).violate.setFld F.SEAL_STATUS_SSWRITE 1 := by
  simp [State.csrWrite, h, hi, hs]

theorem State.csrWrite_unlisted (hi : csrListed i = false) : s.csrWrite k rd rs1 i f = s.illegal k := by
  simp [State.csrWrite, h, hi]

end

/-- The low n bits of a word, as a mask leaves them. -/
theorem ofNat_mod_two_pow (v : Word) {n : Nat} (h : n ≤ 24) :
    BitVec.ofNat 24 (v.toNat % 2 ^ n) = v &&& BitVec.ofNat 24 (2 ^ n - 1) := by
  have hpow : 2 ^ n ≤ 2 ^ 24 := Nat.pow_le_pow_right (by decide) h
  have hmask : (2 ^ n - 1) % 2 ^ 24 = 2 ^ n - 1 := Nat.mod_eq_of_lt (by omega)
  have hlow : v.toNat % 2 ^ n % 2 ^ 24 = v.toNat % 2 ^ n :=
    Nat.mod_eq_of_lt ((Nat.mod_lt _ (Nat.two_pow_pos n)).trans_le hpow)
  rw [← BitVec.toNat_inj, BitVec.toNat_and, BitVec.toNat_ofNat, BitVec.toNat_ofNat, hmask, hlow,
    Nat.and_two_pow_sub_one_eq_mod]

theorem ofNat_lfsrLoad (v : Word) : BitVec.ofNat 24 (lfsrLoad v.toNat) = if v = 0 then 1 else v := by
  have hv : v.toNat % 16777216 = v.toNat := Nat.mod_eq_of_lt v.isLt
  have hz : v.toNat = 0 ↔ v = 0 := by simp [← BitVec.toNat_inj]
  simp only [lfsrLoad, Nat.reducePow, hv, hz]
  split <;> simp

/-- What a CSR takes of a write, by its access code (Table CORE-12). -/
theorem CoreSt.writeCsr_cases (c : CoreSt) (i : Nat) (v : Word) :
    (i ∈ [0x001, 0x004, 0x008, 0x009, 0x00A, 0x00B] → c.writeCsr i v = c.setCsr i (v &&& 0x00FFFF)) ∧
    (i = 0x010 → c.writeCsr i v = c.setCsr i v) ∧
    (i = 0x011 → c.writeCsr i v = c.setCsr i (if v = 0 then 1 else v)) ∧
    (0x021 ≤ i ∧ i ≤ 0x02F → c.writeCsr i v = c.setCsr i (v &&& 0x3FFFFF)) ∧
    (i ∈ [0x000, 0x002, 0x003, 0x005, 0x018, 0x019, 0x01A, 0x020] → c.writeCsr i v = c) := by
  have h16 : BitVec.ofNat 24 (v.toNat % 2 ^ 16) = v &&& 0x00FFFF := ofNat_mod_two_pow v (n := 16) (by decide)
  have h22 : BitVec.ofNat 24 (v.toNat % 2 ^ 22) = v &&& 0x3FFFFF := ofNat_mod_two_pow v (n := 22) (by decide)
  refine ⟨fun hi => ?_, ?_, ?_, fun hi => ?_, fun hi => ?_⟩
  · simp only [List.mem_cons, List.not_mem_nil, or_false] at hi
    rw [CoreSt.writeCsr, if_pos (by omega), h16]
  · rintro rfl
    rfl
  · rintro rfl
    rw [← ofNat_lfsrLoad]
    rfl
  · rw [CoreSt.writeCsr, if_neg (by omega), if_neg (by omega), if_neg (by omega), if_pos hi, h22]
  · simp only [List.mem_cons, List.not_mem_nil, or_false] at hi
    rw [CoreSt.writeCsr, if_neg (by omega), if_neg (by omega), if_neg (by omega), if_neg (by omega)]

/-! ### Exceptions (R348-R350) -/

theorem State.raise_open (ho : (s.core k).sealedSt = false) (hx : (s.core k).inx = false) (code xaddr : Nat) :
    let c := (((s.core k).setCsr 1 ((s.core k).pc.zeroExtend 24)).setCsr 2 (BitVec.ofNat 24 code)).setCsr 3
      (BitVec.ofNat 24 xaddr)
    s.raise k code xaddr = s.setCore k { c with inx := true, pc := (c.csrOf 4).truncate 16 }.boundary := by
  have hpc : BitVec.zeroExtend 24 (s.core k).pc = BitVec.ofNat 24 (s.core k).pc.toNat := (BitVec.ofNat_toNat 24 _).symm
  simp only [State.raise, ho, hx, hpc]
  rfl

theorem State.raise_sealed (hs : (s.core k).sealedSt = true) (hst : (s.core k).stores = []) (code xaddr : Nat) :
    let c := (((s.core k).setCsr 1 0).setCsr 3 0).setCsr 2 4
    s.raise k code xaddr = ((s.setCore k { c with run := .wipe, sealedSt := false, inx := false }.boundary).fire (52
      + k)).fault 0x08 (coreUnit k) 4 false := by
  simp only [State.raise, hs, hst]
  rfl

theorem State.raise_double (ho : (s.core k).sealedSt = false) (hx : (s.core k).inx = true) (code xaddr : Nat) :
    let c := ((s.core k).setCsr 2 (BitVec.ofNat 24 (code + 16))).setCsr 3 (BitVec.ofNat 24 xaddr)
    s.raise k code xaddr = ((s.setCore k { c with run := .fault, stepping := false, haltWait := false }).fire (52 +
      k)).fault 0x08 (coreUnit k) code (decide (k < 4)) := by
  simp only [State.raise, ho, hx]
  rfl

/-! ### BRK (R754, R755) -/

theorem CoreSt.settle_halts (hrun : c.run = .run) (hload : c.load = none) (hst : c.stores = []) (ho : c.sealedSt = false)
    (hhalt : c.haltWait = false) :
    ({ c with haltWait := true, stepping := false } : CoreSt).settle = { c with stepping := false, run := .halt } := by
  simp [CoreSt.settle, hrun, hload, hst, ho, hhalt]

/-- Settles O35: CSR and SYS instructions by what one instruction of a core that runs does, words by their formats. -/
theorem coreCsrAndSystem : Obligations.CoreCsrAndSystem := by
  unfold Obligations.CoreCsrAndSystem
  refine ⟨?csrr, ?csrw, ?csrset, ?csrclr, ?sealedCsr, ?badCsr, CoreSt.writeCsr_cases, ?nop, ?tend, ?tendSealed, ?park,
    ?xback, ?xbackBad, ?drain, ?waits, ?brk, ?brkHalts, ?badOpcode, ?allOnes,
    fun s k code xaddr ho hx => State.raise_open ho hx code xaddr,
    fun s k code xaddr hs hst => State.raise_sealed hs hst code xaddr,
    fun s k code xaddr ho hx _ => State.raise_double ho hx code xaddr, ?stalled,
    fun c k w h hl => decodeCore_of_encodeCore h hl, fun k w hl => encodeCore_decodeCore hl,
    fun k w hl => decodeCore_illegal hl⟩
  case csrr =>
    intro s k rd imm h hi
    simp [Becomes, exec, execCsrr, h, hi]
  case csrw => exact fun s k rd rs1 imm h hi ho => congrArg ok (State.csrWrite_open h hi ho)
  case csrset => exact fun s k rd rs1 imm h hi ho => congrArg ok (State.csrWrite_open h hi ho)
  case csrclr => exact fun s k rd rs1 imm h hi ho => congrArg ok (State.csrWrite_open h hi ho)
  case sealedCsr =>
    rintro s k rd rs1 imm c h hi hs (rfl | rfl | rfl) <;> exact congrArg ok (State.csrWrite_sealed h hi hs)
  case badCsr =>
    rintro s k rd rs1 imm c h (⟨rfl, hbad⟩ | ⟨hi, rfl | rfl | rfl⟩)
    · have hno : (csrListed imm.toNat && rs1 == 0) = false := by rcases hbad with hi | hr <;> simp [*]
      simp [Becomes, exec, execCsrr, h, hno]
    all_goals exact congrArg ok (State.csrWrite_unlisted h hi)
  case nop => exact fun s k h => congrArg ok (State.instr_runs h _)
  case tend =>
    intro s k h hst ho
    simp [Becomes, exec, execTend, hst, State.instr_runs h, ho]
  case tendSealed =>
    intro s k h hst hs
    simp [Becomes, exec, execTend, hst, State.instr_runs h, hs, CoreSt.beginWipe]
  case park =>
    intro s k h hst
    simp [Becomes, exec, execPark, hst, State.instr_runs h]
  case xback =>
    intro s k h hx
    simp [Becomes, exec, execXback, State.instr_runs h, hx]
  case xbackBad =>
    intro s k h hx
    simp [Becomes, exec, execXback, State.instr_runs h, hx]
  case drain =>
    intro s k h hst
    simp [Becomes, exec, execDrain, hst, State.instr_runs h]
  case waits =>
    intro s k hst
    simp [Becomes, exec, execDrain, execTend, execPark, List.isEmpty_iff, hst]
  case brk =>
    intro s k h hno
    have hoff : (s.debugOn && s.fbit F.DBG_BRKEN_EN k) = false := by rcases hno with h | h <;> simp [h]
    simp [Becomes, exec, execBrk, h, hoff]
  case brkHalts =>
    intro s k h hen hdbg hst ho
    obtain ⟨hrun, hload, hhalt⟩ := State.coreRuns_core h
    simp only [Becomes, exec, execBrk, h, hen, hdbg, Bool.and_self, if_true, CoreSt.settle_halts hrun hload hst ho hhalt]
  case badOpcode =>
    intro s k w h hop
    simp [Becomes, exec, execIllegalInstruction, h, coreWordLegal_of_opcode hop]
  case allOnes =>
    intro s k h
    have hno : coreWordLegal 0xFFFFFF = false := by decide
    exact congrArg ok (if_pos (by rw [h, hno]; rfl))
  case stalled =>
    intro s k h
    simp [Becomes, exec, execSysNop, execBrk, execXback, State.instr_stalled, h]

end Sys2Proof.Machine
end

section
/-! What the units of a cluster leave when they write rows and report (R114, R169, R269): the rules the tally unit's
operations are proved from. -/

namespace Sys2Proof.Machine

open Sys2Proof

variable {s t u : State} {a c r r' n : Nat} {b : Bool} {bs : List Byte} {e : TalEntry}

/-! ### States that differ in fresh marks and lists only -/

section
variable (h : s.OnlyFresh t)
include h

theorem State.OnlyFresh.regs : t.regs = s.regs := by rw [h]
theorem State.OnlyFresh.mem : t.mem = s.mem := by rw [h]
theorem State.OnlyFresh.tags : t.tags = s.tags := by rw [h]
theorem State.OnlyFresh.tallies : t.tallies = s.tallies := by rw [h]

end

theorem State.onlyFresh_setFresh (s : State) (c : Nat) (l : List Fresh) : s.OnlyFresh (s.setFresh c l) := rfl

theorem State.onlyFresh_marks (s : State) (m : Tab Bool) : s.OnlyFresh { s with marks := m } := rfl

theorem State.onlyFresh_setFreshMark (s : State) (c r z : Nat) : s.OnlyFresh (s.setFreshMark c r z) := by
  unfold State.setFreshMark
  dsimp only
  refine .trans (.trans ?_ (State.onlyFresh_marks _ _)) (State.onlyFresh_setFresh _ _ _)
  refine (s.onlyFresh_clearFresh c r).trans ?_
  split
  · split
    · exact .refl _
    · exact (State.onlyFresh_marks _ _).trans (State.onlyFresh_setFresh _ _ _)
  · exact .refl _

/-! ### States that differ in registers only -/

section
variable {l : List Nat} (h : s.OnlyRegs t l)
include h

theorem State.OnlyRegs.mem : t.mem = s.mem := by rw [h.1]
theorem State.OnlyRegs.tags : t.tags = s.tags := by rw [h.1]
theorem State.OnlyRegs.tallies : t.tallies = s.tallies := by rw [h.1]
theorem State.OnlyRegs.tally (c : Nat) : t.tally c = s.tally c := by simp only [State.tally, h.tallies]
theorem State.OnlyRegs.tile (n : Nat) : t.tile n = s.tile n := by
  rw [h.1]
  rfl

theorem State.OnlyRegs.incFld (f : Fld) (n : Nat) (hf : f.addr ∈ l) : s.OnlyRegs (t.incFld f n) l := h.setFld f _ hf

end

theorem State.KeepsRegs.fld {l : List Nat} (h : s.KeepsRegs t l) {f : Fld} (hf : f.addr ∉ l) : t.fld f = s.fld f := by
  simp only [State.fld, h f.addr hf]

/-! ### Bytes and tags a write leaves -/

/-- The byte at `a` and the tag of row `r` of cluster c are what they were. -/
def State.KeepsCell (s t : State) (c a r : Nat) : Prop := t.byte a = s.byte a ∧ t.tag c r = s.tag c r

theorem State.KeepsCell.refl (s : State) (c a r : Nat) : s.KeepsCell s c a r := ⟨rfl, rfl⟩

theorem State.KeepsCell.trans (h : s.KeepsCell t c a r) (h' : t.KeepsCell u c a r) : s.KeepsCell u c a r :=
  ⟨h'.1.trans h.1, h'.2.trans h.2⟩

theorem State.KeepsCell.of_eq (hm : t.mem = s.mem) (ht : t.tags = s.tags) : s.KeepsCell t c a r := by
  simp only [State.KeepsCell, State.byte, State.tag, hm, ht, and_self]

theorem State.KeepsCell.foldl {α : Type} {f : TalOut → α → TalOut} (l : List α)
    (hf : ∀ k ∈ l, ∀ o : TalOut, o.1.KeepsCell (f o k).1 c a r) (o : TalOut) : o.1.KeepsCell (l.foldl f o).1 c a r := by
  induction l generalizing o with
  | nil => exact .refl _ _ _ _
  | cons k l ih =>
    exact (hf k (List.mem_cons_self ..) o).trans (ih (fun x hx => hf x (List.mem_cons_of_mem _ hx)) _)

/-- The byte at `a` and row `r` lie outside `x.2` rows from row `x.1` on. -/
def Outside (c a r : Nat) (x : Nat × Nat) : Prop :=
  (a < rowAddr c x.1 ∨ rowAddr c x.1 + 0x200 * x.2 ≤ a) ∧ (r < x.1 ∨ x.1 + x.2 ≤ r)

/-- What lies outside a range of rows lies outside each of them. -/
theorem Outside.row {x : Nat × Nat} {k : Nat} (h : Outside c a r x) (hk : k < x.2) (hx : x.1 + x.2 ≤ 4096) :
    Outside c a r (x.1 + k, 1) := by
  obtain ⟨hbyte, hrow⟩ := h
  have haddr : rowAddr c (x.1 + k) = rowAddr c x.1 + 0x200 * k := by
    simp only [rowAddr, Nat.mod_eq_of_lt (show x.1 + k < 4096 by omega), Nat.mod_eq_of_lt (show x.1 < 4096 by omega)]
    omega
  exact ⟨by simp only [haddr]; omega, by simp only; omega⟩

/-! ### Wide writes (R169) -/

theorem State.rowBytes_congr (h : t.mem = s.mem) : t.rowBytes c r = s.rowBytes c r := by
  simp only [State.rowBytes, State.bytes, h]

theorem State.tag_congr (h : t.tags = s.tags) : t.tag c r = s.tag c r := by simp only [State.tag, h]

/-- Bytes stored read back together. -/
theorem State.bytes_setBytes (s : State) (a : Nat) (bs : List Byte) : (s.setBytes a bs).bytes a bs.length = bs := by
  refine List.ext_getElem (by simp [State.bytes, tabGetList]) fun i h1 h2 => ?_
  simpa [State.bytes, tabGetList, State.byte] using s.byte_setBytes_in a i bs h2

theorem State.rowBytes_writeWide (s : State) (c r : Nat) (b : Bool) (hlen : bs.length = 384) :
    (s.writeWide c r bs b).rowBytes c r = bs := by
  have hstored := s.bytes_setBytes (rowAddr c r) bs
  rw [hlen] at hstored
  rw [State.writeWide, List.take_of_length_le hlen.le]
  exact hstored

theorem State.tag_writeWide (s : State) (c r : Nat) (bs : List Byte) (b : Bool) : (s.writeWide c r bs b).tag c r = b :=
  tabGet_tabSet_same (fun _ => false) s.tags (rowKey c r) b

theorem State.keepsCell_writeWide (h : Outside c a r' (r, 1)) (hr : r < 4096) (hr' : r' < 4096) :
    s.KeepsCell (s.writeWide c r bs b) c a r' := by
  obtain ⟨hbyte, hrow⟩ := h
  simp only at hbyte hrow
  refine ⟨s.byte_setBytes_out _ _ _ ?_, ?_⟩
  · have := List.length_take_le 384 bs
    omega
  · refine tabGet_tabSet_ne (fun _ => false) s.tags _ _ b ?_
    simp only [rowKey]
    omega

/-! ### Rows of a scratchpad that is not ON (R114) -/

/-- The record of an access changes registers alone, and where its initiator has no number takes a free value. -/
theorem State.addrErrN_only (s : State) (n : Option Nat) (a : Nat) (wr : Bool) : ∃ t,
    s.OnlyRegs t [Reg.CLK_ADDRERR0, Reg.CLK_ADDRERR1] ∧ (s.addrErrN n a wr = t ∨ s.addrErrN n a wr = t.drawn) := by
  have hrecord := ((((State.OnlyRegs.refl [Reg.CLK_ADDRERR0, Reg.CLK_ADDRERR1] (s := s)).setFld F.CLK_ADDRERR0_ADDR a
    (by decide)).setFld F.CLK_ADDRERR1_ADDRHI (a / 2 ^ 24) (by decide)).setFld F.CLK_ADDRERR1_WR (b2n wr) (by decide)).setFld
    F.CLK_ADDRERR1_VALID 1 (by decide)
  rw [State.addrErrN]
  split
  · exact ⟨_, (State.OnlyRegs.refl _).setFld _ _ (by decide), .inl rfl⟩
  · cases n with
    | some n => exact ⟨_, hrecord.setFld _ _ (by decide), .inl rfl⟩
    | none => exact ⟨_, hrecord.setFld _ _ (by decide), .inr rfl⟩

theorem State.unitDark_only (s : State) (c r : Nat) (wr : Bool) :
    (s.unitDark c r wr).mem = s.mem ∧ (s.unitDark c r wr).tags = s.tags ∧ (s.unitDark c r wr).tallies = s.tallies := by
  obtain ⟨t, ht, h⟩ := s.addrErrN_only none (rowAddr c r) wr
  rw [State.unitDark]
  split
  · exact ⟨rfl, rfl, rfl⟩
  · rw [State.setFld_mem, State.setFld_tags, State.setFld_tallies]
    rcases h with h | h <;> rw [h] <;> exact ⟨ht.mem, ht.tags, ht.tallies⟩

theorem State.keepsCell_unitWrite (h : Outside c a r' (r, 1)) (hr : r < 4096) (hr' : r' < 4096) :
    s.KeepsCell (s.unitWrite c r bs b) c a r' := by
  rw [State.unitWrite]
  split
  · exact State.keepsCell_writeWide h hr hr'
  · obtain ⟨hmem, htags, -⟩ := s.unitDark_only c r true
    exact .of_eq hmem htags

/-! ### Rows the tally unit writes (R47, R263) -/

/-- A row written by an entry is a unit's write, with a fresh mark at most. -/
theorem State.onlyFresh_tallyRow (s : State) (c r : Nat) (w : WordSet) (bs : List Byte) (b : Bool) :
    (s.unitWrite c r bs b).OnlyFresh (s.tallyRow c r w bs b) := by
  rw [State.tallyRow]
  split
  · exact State.onlyFresh_setFreshMark _ _ _ _
  · exact .refl _

theorem State.keepsCell_tallyRow {w : WordSet} (h : Outside c a r' (r, 1)) (hr : r < 4096) (hr' : r' < 4096) :
    s.KeepsCell (s.tallyRow c r w bs b) c a r' :=
  (State.keepsCell_unitWrite h hr hr').trans
    (.of_eq (s.onlyFresh_tallyRow c r w bs b).mem (s.onlyFresh_tallyRow c r w bs b).tags)

theorem State.tallies_unitWrite (s : State) (c r : Nat) (bs : List Byte) (b : Bool) :
    (s.unitWrite c r bs b).tallies = s.tallies := by
  rw [State.unitWrite]
  split
  · rfl
  · exact (s.unitDark_only c r true).2.2

theorem State.tally_tallyRow (s : State) (c r : Nat) (w : WordSet) (bs : List Byte) (b : Bool) (d : Nat) :
    (s.tallyRow c r w bs b).tally d = s.tally d := by
  have h := (s.onlyFresh_tallyRow c r w bs b).tallies.trans (s.tallies_unitWrite c r bs b)
  simp only [State.tally, h]

/-- With the scratchpad ON, the row holds the bytes and the tag written, and no register is touched. -/
theorem State.tallyRow_on (hon : s.spOn c = true) (w : WordSet) (hlen : bs.length = 384) (b : Bool) :
    (s.tallyRow c r w bs b).rowBytes c r = bs ∧ (s.tallyRow c r w bs b).tag c r = b ∧
    (s.tallyRow c r w bs b).regs = s.regs := by
  have h := s.onlyFresh_tallyRow c r w bs b
  rw [State.unitWrite, if_pos hon] at h
  exact ⟨(State.rowBytes_congr h.mem).trans (s.rowBytes_writeWide c r b hlen),
    (State.tag_congr h.tags).trans (s.tag_writeWide c r bs b), h.regs⟩

/-! ### Completions (R269) -/

/-- Registers of the tally unit that a completion may change. -/
def cplRegs (c : Nat) : List Nat := [Reg.TAL_DONECNT c, Reg.TAL_CPLCNT c, Reg.TAL_STATUS c]

/-- The completion is counted, and its event fired where the word set asks for it. -/
def State.counted (s : State) (c : Nat) (e : TalEntry) : State :=
  let s1 := s.setFld (F.TAL_DONECNT_COUNT c) (s.fld (F.TAL_DONECNT_COUNT c) + 1)
  if d0f e.ws 10 1 = 1 then s1.fire (32 + c) else s1

theorem State.counted_frame (s : State) (c : Nat) (e : TalEntry) :
    (s.counted c e).mem = s.mem ∧ (s.counted c e).tags = s.tags ∧ (∀ d, (s.counted c e).tally d = s.tally d) ∧
    s.KeepsRegs (s.counted c e) [Reg.TAL_DONECNT c] := by
  have h := (State.OnlyRegs.refl [Reg.TAL_DONECNT c] (s := s)).setFld (F.TAL_DONECNT_COUNT c)
    (s.fld (F.TAL_DONECNT_COUNT c) + 1) (List.mem_singleton_self _)
  rw [State.counted]
  split
  · exact ⟨h.mem, h.tags, h.tally, h.2⟩
  · exact ⟨h.mem, h.tags, h.tally, h.2⟩

theorem State.fld_counted (s : State) (c : Nat) (e : TalEntry) :
    (s.counted c e).fld (F.TAL_DONECNT_COUNT c) = (s.fld (F.TAL_DONECNT_COUNT c) + 1) % 2 ^ 24 := by
  have hfld := s.fld_setFld (F.TAL_DONECNT_COUNT c) (s.fld (F.TAL_DONECNT_COUNT c) + 1) le_rfl
  rw [State.counted]
  split
  · exact hfld
  · exact hfld

theorem State.pulses_counted (s : State) (c : Nat) (e : TalEntry) :
    (s.counted c e).pulses = if d0f e.ws 10 1 = 1 then s.pulses ++ [32 + c] else s.pulses := by
  rw [State.counted]
  split <;> rfl

/-- The report a completion enters into the FIFO (Table TOP-15). -/
def cplOf (e : TalEntry) (st : Nat) (b : Bool) : TalCpl :=
  ⟨d0f e.ws 4 6, st, wsOpc e.ws, wsOpc e.ws == 1 && e.mixed, b, e.port⟩

/-- A report of a port with a FIFO that has room enters it. -/
theorem State.tallyReport_fifo (hp : e.port ≠ 2) (hroom : (s.tally c).cpl.length < 16) (st : Nat) (b : Bool) :
    s.tallyReport c e st b =
      (s.counted c e).setTally c { s.tally c with cpl := (s.tally c).cpl ++ [cplOf e st b] } := by
  have htally := (s.counted_frame c e).2.2.1 c
  rw [State.counted] at htally ⊢
  simp only [State.tallyReport, if_neg hp, htally, if_pos hroom]
  rfl

/-- A completion changes no memory, no tag, no entry and no register but the unit's counts and status. -/
theorem State.tallyReport_frame (s : State) (c : Nat) (e : TalEntry) (st : Nat) (b : Bool) :
    (s.tallyReport c e st b).mem = s.mem ∧ (s.tallyReport c e st b).tags = s.tags ∧
    ((s.tallyReport c e st b).tally c).entries = (s.tally c).entries ∧ s.KeepsRegs (s.tallyReport c e st b) (cplRegs c) := by
  obtain ⟨hmem, htags, htally, hcount⟩ := s.counted_frame c e
  have hregs : s.KeepsRegs (s.counted c e) (cplRegs c) := fun x hx => hcount x (by
    simp only [cplRegs, List.mem_cons, not_or] at hx ⊢
    exact ⟨hx.1, by simp⟩)
  have hreport : s.tallyReport c e st b =
      if e.port = 2 then (s.counted c e).unitDone e.id 1 st (wsOpc e.ws == 1 && e.mixed)
      else if ((s.counted c e).tally c).cpl.length < 16 then
        (s.counted c e).setTally c { (s.counted c e).tally c with cpl := ((s.counted c e).tally c).cpl ++ [cplOf e st b] }
      else ((s.counted c e).incFld (F.TAL_CPLCNT_OVF c) 1).setFld (F.TAL_STATUS_CPLOVF c) 1 := rfl
  rw [hreport, htally c]
  split
  · exact ⟨hmem, htags, congrArg _ (htally c), hregs⟩
  split
  · exact ⟨hmem, htags, by rw [State.tally_setTally_same], hregs⟩
  · exact ⟨by simpa using hmem, by simpa using htags, by simp [htally c],
      (hregs.setFld _ _ (by simp [cplRegs])).setFld _ _ (by simp [cplRegs])⟩

/-- An entry that leaves the queue changes nothing else that its report does not. -/
theorem State.tallyFinish_frame (s : State) (c n : Nat) (e : TalEntry) (st : Nat) (b : Bool) :
    (s.tallyFinish c n e st b).mem = s.mem ∧ (s.tallyFinish c n e st b).tags = s.tags ∧
    ((s.tallyFinish c n e st b).tally c).entries = (s.tally c).entries.eraseIdx n ∧
    s.KeepsRegs (s.tallyFinish c n e st b) (cplRegs c) := by
  obtain ⟨hmem, htags, hentries, hregs⟩ :=
    (s.setTally c { s.tally c with entries := (s.tally c).entries.eraseIdx n }).tallyReport_frame c e st b
  rw [State.tally_setTally_same] at hentries
  exact ⟨hmem, htags, hentries, hregs⟩

end Sys2Proof.Machine
end

section
/-! The tally unit: the start of an entry, its tile operation, its writes and its completion (section 08). -/

namespace Sys2Proof.Machine

open Sys2Proof

variable {s : State} {a c r n t : Nat} {e : TalEntry}

/-! ### Start (R248) -/

section
variable (hact : s.unitsAct c = true) (hnext : s.tallyNext c (s.tally c).entries 0 [] false = some n)
  (he : (s.tally c).entries[n]? = some e)
include hact hnext he

theorem State.tallyStart_next : s.tallyStart c = s.tallyBegin c n e := by
  simp [State.tallyStart, hact, hnext, he]

end

/-- The entry once it has started, as the s-th start of its unit. -/
theorem State.tallyBegin_starts (h : wsOpc e.ws = 1 → s.domOn (domTQ (8 * c + wsTile e.ws)) = true ∧
    s.fenced (8 * c + wsTile e.ws) = false) :
    s.tallyBegin c n e =
      let top := wsOpc e.ws = 1
      let b := { e with phase := if top then .inTile else .running, seq := (s.tally c).starts,
                        elems := if top then s.topElems c e else [],
                        inSealed := if top then s.topSealed c e else e.iseal }
      s.setTally c { s.tally c with
        entries := (s.tally c).entries.set n b, starts := (s.tally c).starts + 1, sealedFlag := s.inputSealed c e } := by
  have hlit : ¬ (wsOpc e.ws = 1 ∧ ¬ s.domOn (domTQ (8 * c + wsTile e.ws)) = true) := fun ⟨h1, h2⟩ => h2 (h h1).1
  have hhealthy : ¬ (wsOpc e.ws = 1 ∧ s.fenced (8 * c + wsTile e.ws) = true) := fun ⟨h1, h2⟩ => by simp [(h h1).2] at h2
  simp only [State.tallyBegin, if_neg hlit, if_neg hhealthy, State.tallySeal, State.tally_setTally_same,
    State.setTally_setTally]

theorem State.tallyBegin_dark (h1 : wsOpc e.ws = 1) (hoff : s.domOn (domTQ (8 * c + wsTile e.ws)) = false) :
    s.tallyBegin c n e = s.tallyFinish c n e 3 false := if_pos ⟨h1, by simp [hoff]⟩

theorem State.tallyBegin_fenced (h1 : wsOpc e.ws = 1) (hon : s.domOn (domTQ (8 * c + wsTile e.ws)) = true)
    (hf : s.fenced (8 * c + wsTile e.ws) = true) : s.tallyBegin c n e = s.tallyFinish c n e 4 false := by
  simp [State.tallyBegin, h1, hon, hf]

theorem State.tallyStart_none (h : s.unitsAct c = false ∨ s.tallyNext c (s.tally c).entries 0 [] false = none) :
    s.tallyStart c = s := by
  rcases h with h | h <;> simp [State.tallyStart, h]

/-! ### Seals of inputs (R45, R259) -/

theorem State.topSealed_iff : s.topSealed c e = true ↔ e.iseal = true ∨
    (∃ k, k < topInRows e.ws ∧ s.unitTag c (d2f e.ws 0 12 + k) = true) ∨ ∃ r ∈ mergeRows e.ws, s.unitTag c r = true := by
  simp [State.topSealed, State.unitTags, State.mergeSealed, or_assoc]

theorem State.inputSealed_top_iff (h : wsOpc e.ws = 1) : s.inputSealed c e = true ↔ s.topSealed c e = true ∨
    (wsAdd e.ws = true ∧ ∃ k, k < pairRows (d3f e.ws 9 9) ∧ s.unitTag c (d4f e.ws 0 12 + k) = true) := by
  have hissue : e.iseal = true → s.topSealed c e = true := fun hi => State.topSealed_iff.mpr (.inl hi)
  simp only [State.inputSealed, h, State.unitTags, Bool.or_eq_true, Bool.and_eq_true, List.any_eq_true, List.mem_range]
  tauto

/-! ### In the tile (R210, R212) -/

theorem State.KeepsRegs.setTile {u : State} {l : List Nat} (h : s.KeepsRegs u l) (t : Nat) (x : Tile) :
    s.KeepsRegs (u.setTile t x) l := h

theorem State.KeepsRegs.setTally {u : State} {l : List Nat} (h : s.KeepsRegs u l) (c : Nat) (x : Tally) :
    s.KeepsRegs (u.setTally c x) l := h

theorem State.onlyRegs_clip (s : State) (t clips groups : Nat) : s.OnlyRegs
    ((s.setFld (F.TILE_CLIP_COUNT t) clips).setFld (F.TILE_CLIP_GRP t) groups) [Reg.TILE_CLIP t] :=
  ((State.OnlyRegs.refl _).setFld _ _ (List.mem_singleton_self _)).setFld _ _ (List.mem_singleton_self _)

theorem State.fld_clip (s : State) (t clips groups : Nat) :
    ((s.setFld (F.TILE_CLIP_COUNT t) clips).setFld (F.TILE_CLIP_GRP t) groups).fld (F.TILE_CLIP_COUNT t) = clips % 2 ^ 16 ∧
    ((s.setFld (F.TILE_CLIP_COUNT t) clips).setFld (F.TILE_CLIP_GRP t) groups).fld (F.TILE_CLIP_GRP t) = groups % 2 ^ 6 := by
  refine ⟨?_, State.fld_setFld _ _ _ (by simp)⟩
  rw [State.fld_setFld_bits _ (F.TILE_CLIP_GRP t) (F.TILE_CLIP_COUNT t) _ (by simp) rfl (by simp), State.fld_setFld _ _ _ (by simp)]

theorem State.tile_zeroAcc (s : State) (t : Nat) : (s.zeroAcc t).tile t = { s.tile t with acc := [] } := by
  rw [State.zeroAcc, State.tile_setTile_same, (s.onlyRegs_clip t 0 0).tile]

theorem State.zeroAcc_frame (s : State) (t : Nat) :
    (s.zeroAcc t).mem = s.mem ∧ (s.zeroAcc t).tags = s.tags ∧ (∀ c, (s.zeroAcc t).tally c = s.tally c) ∧
    s.KeepsRegs (s.zeroAcc t) [Reg.TILE_CLIP t] := by
  have h := s.onlyRegs_clip t 0 0
  rw [State.zeroAcc]
  refine ⟨?_, ?_, fun c => ?_, h.2.setTile _ _⟩
  · rw [State.setTile_mem, h.mem]
  · rw [State.setTile_tags, h.tags]
  · rw [State.tally_setTile, h.tally]

theorem State.clip_zeroAcc (s : State) (t : Nat) :
    (s.zeroAcc t).fld (F.TILE_CLIP_COUNT t) = 0 ∧ (s.zeroAcc t).fld (F.TILE_CLIP_GRP t) = 0 := by
  rw [State.zeroAcc, State.fld_setTile, State.fld_setTile]
  exact s.fld_clip t 0 0

/-- The registers at the end of an operation's passes; a sealed one counts in none of the totals. -/
def State.passRecord (s : State) (t : Nat) (e : TalEntry) (r : PassResult) : State :=
  let s1 := (s.setFld (F.TILE_CLIP_COUNT t) (min 65535 r.clips)).setFld (F.TILE_CLIP_GRP t) r.groups
  if e.inSealed then s1
  else ((s1.incFld (F.TILE_CLIPTOT_COUNT t) r.clips).incFld (F.TILE_SKIPTOT_COUNT t) r.skipped).incFld
    (F.TILE_PASSTOT_COUNT t) r.converted

theorem State.onlyRegs_passRecord (s : State) (t : Nat) (e : TalEntry) (r : PassResult) : s.OnlyRegs (s.passRecord t e r)
    [Reg.TILE_CLIP t, Reg.TILE_CLIPTOT t, Reg.TILE_SKIPTOT t, Reg.TILE_PASSTOT t] := by
  have h := ((State.OnlyRegs.refl [Reg.TILE_CLIP t, Reg.TILE_CLIPTOT t, Reg.TILE_SKIPTOT t, Reg.TILE_PASSTOT t]
    (s := s)).setFld (F.TILE_CLIP_COUNT t) (min 65535 r.clips) (by simp)).setFld (F.TILE_CLIP_GRP t) r.groups (by simp)
  rw [State.passRecord]
  split
  · exact h
  · exact ((h.incFld _ _ (by simp)).incFld _ _ (by simp)).incFld _ _ (by simp)

theorem State.clip_passRecord (s : State) (t : Nat) (e : TalEntry) (r : PassResult) :
    (s.passRecord t e r).fld (F.TILE_CLIP_GRP t) = r.groups % 2 ^ 6 ∧
    (s.passRecord t e r).fld (F.TILE_CLIP_COUNT t) = min 65535 r.clips := by
  obtain ⟨hcount, hgrp⟩ := s.fld_clip t (min 65535 r.clips) r.groups
  rw [Nat.mod_eq_of_lt (by omega)] at hcount
  rw [State.passRecord]
  split
  · exact ⟨hgrp, hcount⟩
  · have htotals (u : State) : u.KeepsRegs (((u.incFld (F.TILE_CLIPTOT_COUNT t) r.clips).incFld (F.TILE_SKIPTOT_COUNT t)
        r.skipped).incFld (F.TILE_PASSTOT_COUNT t) r.converted)
        [Reg.TILE_CLIPTOT t, Reg.TILE_SKIPTOT t, Reg.TILE_PASSTOT t] :=
      ((((State.OnlyRegs.refl _).incFld _ _ (by simp)).incFld _ _ (by simp)).incFld _ _ (by simp)).2
    exact ⟨((htotals _).fld (by simp)).trans hgrp, ((htotals _).fld (by simp)).trans hcount⟩

theorem State.keepsRegs_passRecord (s : State) (t : Nat) (r : PassResult) (h : e.inSealed = true) :
    s.KeepsRegs (s.passRecord t e r) [Reg.TILE_CLIP t] := by
  rw [State.passRecord, if_pos h]
  exact (s.onlyRegs_clip t _ _).2

/-- Free values drawn, so that a state has used `k` of them. -/
def State.withFree (s : State) (k : Nat) : State := { s with free := k }

theorem State.withFree_mem (s : State) (k : Nat) : (s.withFree k).mem = s.mem := rfl
theorem State.withFree_tags (s : State) (k : Nat) : (s.withFree k).tags = s.tags := rfl
theorem State.fld_withFree (s : State) (k : Nat) (f : Fld) : (s.withFree k).fld f = s.fld f := rfl
theorem State.tile_withFree (s : State) (k t : Nat) : (s.withFree k).tile t = s.tile t := rfl
theorem State.tally_withFree (s : State) (k c : Nat) : (s.withFree k).tally c = s.tally c := rfl

theorem State.KeepsRegs.withFree {u : State} {l : List Nat} (h : s.KeepsRegs u l) (k : Nat) : s.KeepsRegs (u.withFree k) l := h

/-- What the end of an operation's passes leaves: its record, its lanes in the tally unit, its sums in the tile. -/
theorem State.computeDone_eq (hf : firstOnTile (s.tally (t / 8)).entries t .computing = some n)
    (he : (s.tally (t / 8)).entries[n]? = some e) :
    let r := s.passes t (d1f e.ws 3 3) (d1f e.ws 6 2) (d1f e.ws 12 4) e.elems
    let lanes := (List.range (d3f e.ws 9 9)).map fun i => accLane r.acc (d1f e.ws 8 1 == 1) (d3f e.ws 0 9 + i)
    ∃ long free, s.computeDone t = (((s.passRecord t e r).setTally (t / 8) { s.tally (t / 8) with
        entries := (s.tally (t / 8)).entries.set n
          { e with phase := .back, lanes := lanes, mixed := e.mixed || !(s.tile t).genValid } }).setTile t
      { s.tile t with acc := r.acc, long := long }).withFree free := by
  intro r lanes
  rw [← (s.onlyRegs_passRecord t e r).tally (t / 8)]
  simp only [State.computeDone, hf, he]
  exact ⟨_, _, rfl⟩

theorem State.computeStart_idle (h : s.domOn (domTQ t) = false ∨ s.mayCompute t = false) : s.computeStart t = s := by
  rcases h with h | h <;> simp [State.computeStart, h]

/-- What the start of an operation leaves: zeroed sums, its seal and the trims that stand in the tile, and its entry. -/
theorem State.computeStart_eq (hon : s.domOn (domTQ t) = true) (hmay : s.mayCompute t = true)
    (hf : firstOnTile (s.tally (t / 8)).entries t .inTile = some n) (he : (s.tally (t / 8)).entries[n]? = some e) :
    ∃ long, s.computeStart t = ((s.zeroAcc t).setTile t { s.tile t with
        acc := [], sealedFlag := e.inSealed, trims := s.trimBytes t, long := long }).setTally (t / 8)
      { s.tally (t / 8) with
        entries := (s.tally (t / 8)).entries.set n { e with phase := .computing, mixed := !(s.tile t).genValid } } := by
  have htile := s.tile_zeroAcc t
  have htally := (s.zeroAcc_frame t).2.2.1 (t / 8)
  simp only [State.computeStart, hon, hmay, hf, he]
  generalize s.zeroAcc t = z at htile htally ⊢
  rw [htile, State.tally_setTile, htally]
  exact ⟨_, rfl⟩

theorem State.computeStart_frame (hon : s.domOn (domTQ t) = true) (hmay : s.mayCompute t = true)
    (hf : firstOnTile (s.tally (t / 8)).entries t .inTile = some n) (he : (s.tally (t / 8)).entries[n]? = some e) :
    let u := s.computeStart t
    (u.tile t).acc = [] ∧ (u.tile t).sealedFlag = e.inSealed ∧ (u.tile t).trims = s.trimBytes t ∧
    (u.tile t).cells = (s.tile t).cells ∧ (u.tally (t / 8)).entries = (s.tally (t / 8)).entries.set n
      { e with phase := .computing, mixed := !(s.tile t).genValid } ∧
    u.fld (F.TILE_CLIP_COUNT t) = 0 ∧ u.fld (F.TILE_CLIP_GRP t) = 0 ∧
    s.KeepsRegs u [Reg.TILE_CLIP t] ∧ u.mem = s.mem ∧ u.tags = s.tags := by
  obtain ⟨long, hstart⟩ := State.computeStart_eq hon hmay hf he
  obtain ⟨hmem, htags, -, hregs⟩ := s.zeroAcc_frame t
  obtain ⟨hcount, hgrp⟩ := s.clip_zeroAcc t
  dsimp only
  rw [hstart]
  generalize s.trimBytes t = trims
  generalize s.zeroAcc t = z at hmem htags hregs hcount hgrp ⊢
  simp only [State.tile_setTally, State.tile_setTile_same, State.tally_setTally_same, State.fld_setTally,
    State.fld_setTile, State.setTally_mem, State.setTile_mem, State.setTally_tags, State.setTile_tags, true_and]
  exact ⟨hcount, hgrp, (hregs.setTile _ _).setTally _ _, hmem, htags⟩

theorem State.computeDone_frame (hf : firstOnTile (s.tally (t / 8)).entries t .computing = some n)
    (he : (s.tally (t / 8)).entries[n]? = some e) :
    let r := s.passes t (d1f e.ws 3 3) (d1f e.ws 6 2) (d1f e.ws 12 4) e.elems
    let lanes := (List.range (d3f e.ws 9 9)).map fun i => accLane r.acc (d1f e.ws 8 1 == 1) (d3f e.ws 0 9 + i)
    let u := s.computeDone t
    (u.tile t).acc = r.acc ∧ u.fld (F.TILE_CLIP_GRP t) = r.groups % 2 ^ 6 ∧
    u.fld (F.TILE_CLIP_COUNT t) = min 65535 r.clips ∧
    (u.tally (t / 8)).entries = (s.tally (t / 8)).entries.set n
      { e with phase := .back, lanes := lanes, mixed := e.mixed || !(s.tile t).genValid } ∧
    (e.inSealed = true → s.KeepsRegs u [Reg.TILE_CLIP t]) ∧ (u.tile t).cells = (s.tile t).cells ∧
    u.mem = s.mem ∧ u.tags = s.tags := by
  intro r lanes u
  obtain ⟨long, free, hdone⟩ := State.computeDone_eq hf he
  have honly := s.onlyRegs_passRecord t e r
  obtain ⟨hgrp, hcount⟩ := s.clip_passRecord t e r
  have hu : u = _ := hdone
  rw [hu]
  simp only [State.tile_withFree, State.fld_withFree, State.tally_withFree, State.withFree_mem, State.withFree_tags,
    State.tile_setTile_same, State.fld_setTile, State.fld_setTally, State.tally_setTile, State.tally_setTally_same,
    State.setTile_mem, State.setTally_mem, State.setTile_tags, State.setTally_tags, true_and]
  exact ⟨rfl, hgrp, hcount, rfl, fun h => (((s.keepsRegs_passRecord t r h).setTally _ _).setTile _ _).withFree _,
    honly.mem, honly.tags⟩

end Sys2Proof.Machine
end

section
/-! What the writes of a tally entry leave, and the progress of its entries (R257-R269). -/

namespace Sys2Proof.Machine

open Sys2Proof

variable {s : State} {a c r n : Nat} {e : TalEntry} {w : WordSet}

/-! ### Rows of a checked word set (R249, R250) -/

theorem d4f_lt (w : WordSet) : d4f w 0 12 < 4096 := bitsOf_lt _ 0 12

/-- The pair rows of a TOP without FIN end within the scratchpad. -/
theorem pairRows_within (hok : wsOk w = true) (h1 : wsOpc w = 1) (hfin : wsFin w = false) :
    d4f w 0 12 + pairRows (d3f w 9 9) ≤ 4096 := by
  simp only [wsOk, h1, topOk, hfin, Bool.and_eq_true, decide_eq_true_eq, Bool.false_eq_true, if_false] at hok
  omega

/-- So do the output rows of a FIN. -/
theorem finRows_within (hok : wsOk w = true) (h : wsOpc w = 1 ∧ wsFin w = true ∨ wsOpc w = 5) :
    d4f w 12 12 + finRows (wsOfmt w) (d3f w 9 9) ≤ 4096 := by
  rcases h with ⟨h1, hfin⟩ | h5
  · simp only [wsOk, h1, topOk, hfin, Bool.and_eq_true, decide_eq_true_eq, if_true] at hok
    omega
  · simp only [wsOk, h5, finrOk, Bool.and_eq_true, decide_eq_true_eq] at hok
    omega

/-! ### Bytes and tags outside an entry's rows -/

theorem State.keepsCell_ite_setFld (s : State) (p : Prop) [Decidable p] (f : Fld) (v : Nat) :
    s.KeepsCell (if p then s.setFld f v else s) c a r := by
  split
  · exact .of_eq rfl rfl
  · exact .refl _ _ _ _

/-- Rounding touches the LFSR and the draws alone. -/
theorem State.finRound_only (s : State) (c : Nat) (e : TalEntry) (vs : List Int) :
    (s.finRound c e vs).2.2.mem = s.mem ∧ (s.finRound c e vs).2.2.tags = s.tags := by
  rw [State.finRound]
  split
  · split <;> simp
  · simp

section
variable (hr : r < 4096)
include hr

theorem State.keepsCell_writePair (vs : List Int) (b : Bool) (o : TalOut) (k : Nat)
    (hlo : Outside c a r (d4f e.ws 0 12 + 2 * k, 1)) (hhi : Outside c a r (d4f e.ws 0 12 + 2 * k + 1, 1))
    (hrows : d4f e.ws 0 12 + 2 * k + 1 < 4096) :
    o.1.KeepsCell (State.writePair c e vs b o k).1 c a r := by
  unfold State.writePair
  exact .trans (.trans (State.keepsCell_ite_setFld _ _ _ _) (State.keepsCell_tallyRow hlo (by omega) hr))
    (State.keepsCell_tallyRow hhi hrows hr)

theorem State.keepsCell_writeOut (words : List Nat) (b : Bool) (o : TalOut) (k : Nat)
    (hout : Outside c a r (d4f e.ws 12 12 + k, 1)) (hrows : d4f e.ws 12 12 + k < 4096) :
    o.1.KeepsCell (State.writeOut c e words b o k).1 c a r := State.keepsCell_tallyRow hout hrows hr

theorem State.keepsCell_finish (vs : List Int) (b : Bool)
    (hrows : d4f e.ws 12 12 + finRows (wsOfmt e.ws) vs.length ≤ 4096)
    (hout : Outside c a r (d4f e.ws 12 12, finRows (wsOfmt e.ws) vs.length)) :
    s.KeepsCell (s.finish c e vs b).1 c a r := by
  obtain ⟨hmem, htags⟩ := s.finRound_only c e vs
  rw [State.finish]
  refine .trans (.of_eq ?_ ?_) (State.KeepsCell.foldl _ (fun k hk o => ?_) _)
  · simpa using hmem
  · simpa using htags
  · have hk' := List.mem_range.mp hk
    exact State.keepsCell_writeOut hr _ _ _ _ (hout.row hk' hrows) (by omega)

theorem State.keepsCell_completeTop (hok : wsOk e.ws = true) (h1 : wsOpc e.ws = 1) (hlen : e.lanes.length = d3f e.ws 9 9)
    (hout : ∀ x ∈ s.rowSet c e.ws, Outside c a r x) : s.KeepsCell (s.completeTop c e).1 c a r := by
  rw [State.completeTop]
  simp only [State.rowSet, h1] at hout
  cases hfin : wsFin e.ws with
  | true =>
    have hrows := finRows_within hok (.inl ⟨h1, hfin⟩)
    have hfinOut : Outside c a r (d4f e.ws 12 12, finRows (wsOfmt e.ws) (d3f e.ws 9 9)) := hout _ (by simp [hfin])
    have hsum (old : List Int) (hold : old.length = d3f e.ws 9 9) :
        (List.zipWith (· + ·) old e.lanes).length = d3f e.ws 9 9 := by simp [hold, hlen]
    simp only [if_true]
    split
    · have hvs := hsum (s.pairLanes c (d4f e.ws 0 12) (d3f e.ws 9 9)) (by simp [State.pairLanes])
      exact State.keepsCell_finish hr _ _ (by rwa [hvs]) (by rwa [hvs])
    · exact State.keepsCell_finish hr _ _ (by rwa [hlen]) (by rwa [hlen])
  | false =>
    have hrows := pairRows_within hok h1 hfin
    have hpair : Outside c a r (d4f e.ws 0 12, pairRows (d3f e.ws 9 9)) := hout _ (by simp [hfin])
    simp only [Bool.false_eq_true, if_false]
    refine State.KeepsCell.foldl _ (fun k hk o => ?_) (s, false)
    have hk' := List.mem_range.mp hk
    have hpairs : 2 * k + 1 < pairRows (d3f e.ws 9 9) := by
      simp only [pairRows]
      omega
    exact State.keepsCell_writePair hr _ _ _ _ (hpair.row (by simp only; omega) hrows)
      (by simpa only [Nat.add_assoc] using hpair.row hpairs hrows) (by omega)

/-- An entry's writes stay within its rows. -/
theorem State.keepsCell_tallyWrites (hok : wsOk e.ws = true) (h6 : wsOpc e.ws ≠ 6)
    (hlen : wsOpc e.ws = 1 → e.lanes.length = d3f e.ws 9 9) (hout : ∀ x ∈ s.rowSet c e.ws, Outside c a r x) :
    s.KeepsCell (s.tallyWrites c e).1 c a r := by
  rw [State.tallyWrites]
  split
  · exact .refl _ _ _ _
  split
  · next h1 => exact State.keepsCell_completeTop hr hok h1 (hlen h1) hout
  · next h2 =>
    exact .trans (.of_eq (by simp) (by simp))
      (State.keepsCell_tallyRow (hout _ (by simp [State.rowSet, h2])) (d4f_lt _) hr)
  · next h3 =>
    exact .trans (.of_eq (by simp) (by simp))
      (State.keepsCell_tallyRow (hout _ (by simp [State.rowSet, h3])) (d4f_lt _) hr)
  · next h4 => exact State.keepsCell_tallyRow (hout _ (by simp [State.rowSet, h4])) (d4f_lt _) hr
  · next h5 =>
    have hvs : (s.pairLanes c (d4f e.ws 0 12) (d3f e.ws 9 9)).length = d3f e.ws 9 9 := by simp [State.pairLanes]
    have hfin : Outside c a r (d4f e.ws 12 12, finRows (wsOfmt e.ws) (d3f e.ws 9 9)) :=
      hout _ (by simp [State.rowSet, h5])
    exact State.keepsCell_finish hr _ _ (by rw [hvs]; exact finRows_within hok (.inr h5)) (by rwa [hvs])
  · next h => exact absurd h h6
  · exact .refl _ _ _ _

end

/-! ### Completion of an entry (R269) -/

/-- An entry whose results are there performs its writes, sets the unit's sealed flag where one was sealed, and leaves. -/
def entryCompleted (o : TalOut) (c n : Nat) (e : TalEntry) : State :=
  (if o.2 then o.1.tallySeal c true else o.1).tallyFinish c n e e.status o.2

theorem entryCompleted_frame (o : TalOut) (c n : Nat) (e : TalEntry) :
    (entryCompleted o c n e).mem = o.1.mem ∧ (entryCompleted o c n e).tags = o.1.tags ∧
    ((entryCompleted o c n e).tally c).entries = (o.1.tally c).entries.eraseIdx n ∧
    o.1.KeepsRegs (entryCompleted o c n e) (cplRegs c) := by
  obtain ⟨t, b⟩ := o
  cases b with
  | false => exact t.tallyFinish_frame c n e e.status false
  | true =>
    obtain ⟨hmem, htags, hentries, hregs⟩ := (t.tallySeal c true).tallyFinish_frame c n e e.status true
    rw [State.tallySeal, State.tally_setTally_same] at hentries
    exact ⟨hmem, htags, hentries, hregs⟩

theorem State.tallyComplete_ready (hact : s.unitsAct c = true) (he : (s.tally c).entries[n]? = some e)
    (hr : s.tallyReady c e = true) : s.tallyComplete c n = entryCompleted (s.tallyWrites c e) c n e := by
  simp only [State.tallyComplete, he, hact, hr, Bool.and_self, if_true, entryCompleted]

theorem State.tallyComplete_waits (he : (s.tally c).entries[n]? = some e)
    (h : s.unitsAct c = false ∨ s.tallyReady c e = false) : s.tallyComplete c n = s := by
  rcases h with h | h <;> simp [State.tallyComplete, he, h]

/-- The entry's one output row after its completion: the bytes, their tag, the registers, and the queue without it. -/
theorem entryCompleted_tallyRow {bs : List Byte} {b : Bool} {u : State} (hon : u.spOn c = true) (hlen : bs.length = 384)
    (hu : u.tally c = s.tally c) (hw : s.tallyWrites c e = (u.tallyRow c r e.ws bs b, b)) :
    let t := entryCompleted (s.tallyWrites c e) c n e
    t.rowBytes c r = bs ∧ t.tag c r = b ∧ u.KeepsRegs t (cplRegs c) ∧
    (t.tally c).entries = (s.tally c).entries.eraseIdx n := by
  obtain ⟨hmem, htags, hentries, hregs⟩ := entryCompleted_frame (s.tallyWrites c e) c n e
  rw [hw] at hmem htags hentries hregs ⊢
  obtain ⟨hrow, htag, hregs'⟩ := State.tallyRow_on (r := r) hon e.ws hlen b
  refine ⟨(State.rowBytes_congr hmem).trans hrow, (State.tag_congr htags).trans htag, fun x hx => ?_, ?_⟩
  · rw [hregs x hx, State.reg, hregs', State.reg]
  · rw [hentries, State.tally_tallyRow, hu]

/-! ### Inserts and reductions (R264, R266) -/

@[simp] theorem length_rowField (old : List Byte) (merge : Bool) (pos width v : Nat) :
    (rowField old merge pos width v).length = 384 := length_toBytes ..

theorem State.unitRow_on (hon : s.spOn c = true) (r : Nat) : s.unitRow c r = s.rowBytes c r := if_pos hon

/-- The registers of a reduction's result (Table TOP-15). -/
def State.redResult (s : State) (c : Nat) (x : Int × Nat) : State :=
  (((s.setFld (F.TAL_REDIDX_IDX c) x.2).setFld (F.TAL_REDIDX_VALID c) 1).setFld (F.TAL_REDVAL0_VAL c)
    (unsigned 48 x.1 % 2 ^ 24)).setFld (F.TAL_REDVAL1_VAL c) (unsigned 48 x.1 / 2 ^ 24)

theorem State.fld_redResult (s : State) (c : Nat) (x : Int × Nat) :
    (s.redResult c x).fld (F.TAL_REDIDX_IDX c) = x.2 % 2 ^ 9 ∧ (s.redResult c x).fld (F.TAL_REDIDX_VALID c) = 1 := by
  simp [State.redResult, State.fld_setFld, State.fld_setFld_bits, State.fld_setFld_addr]

theorem State.domOn_setFld {f : Fld} {d : Nat} (h : Reg.PWR_DOM d ≠ f.addr) (s : State) (v : Nat) :
    (s.setFld f v).domOn d = s.domOn d := by
  have hact : (s.setFld f v).fld (F.PWR_DOM_ACT d) = s.fld (F.PWR_DOM_ACT d) := s.fld_setFld_addr _ _ _ h
  have hbusy : (s.setFld f v).fld (F.PWR_DOM_BUSY d) = s.fld (F.PWR_DOM_BUSY d) := s.fld_setFld_addr _ _ _ h
  simp only [State.domOn, State.dom, State.flag, hact, hbusy, State.setFld_target]

/-- A reduction's result lies in no register of the power domains. -/
theorem State.spOn_redResult (s : State) (c : Nat) (x : Int × Nat) : (s.redResult c x).spOn c = s.spOn c := by
  have hne {k : Nat} (hk : 0x06020000 ≤ k) : Reg.PWR_DOM (domSP c) ≠ k + 0x100000 * c := by
    simp only [domSP, Reg.PWR_DOM]
    omega
  simp only [State.spOn, State.redResult]
  rw [State.domOn_setFld (hne (by decide)), State.domOn_setFld (hne (by decide)), State.domOn_setFld (hne (by decide)),
    State.domOn_setFld (hne (by decide))]

section
variable (hact : s.unitsAct c = true) (he : (s.tally c).entries[n]? = some e) (hr : s.tallyReady c e = true)
  (hon : s.spOn c = true) (hst : e.status = 0)
include hact he hr hon hst

theorem State.tallyComplete_ins (h4 : wsOpc e.ws = 4) :
    let v := bitsOf (ofBytes (s.rowBytes c (d2f e.ws 0 12))) (d3f e.ws 0 12) (d1f e.ws 0 5)
    let keep := if d1f e.ws 5 1 = 1 then ofBytes (s.rowBytes c (d4f e.ws 0 12)) else 0
    let t := s.tallyComplete c n
    t.rowBytes c (d4f e.ws 0 12) = toBytes 384 (putBits keep (d4f e.ws 12 12) (d1f e.ws 0 5) v) ∧
    t.tag c (d4f e.ws 0 12) = s.inputSealed c e ∧ (t.tally c).entries = (s.tally c).entries.eraseIdx n := by
  have hw : s.tallyWrites c e = s.completeIns c e := by simp [State.tallyWrites, hst, h4]
  obtain ⟨hrow, htag, -, hentries⟩ :=
    entryCompleted_tallyRow (n := n) (r := d4f e.ws 0 12) hon (length_rowField _ _ _ _ _) rfl hw
  dsimp only
  rw [State.tallyComplete_ready hact he hr]
  refine ⟨?_, htag, hentries⟩
  simpa [rowField, State.unitRow_on hon] using hrow

theorem State.tallyComplete_red (h : wsOpc e.ws = 2 ∨ wsOpc e.ws = 3) :
    let lane := redLane (d1f e.ws 0 2) (s.rowBytes c (d2f e.ws 0 12)) (s.rowBytes c (d2f e.ws 0 12 + 1))
    let vs := (List.range (d3f e.ws 0 9)).map fun i =>
      if d1f e.ws 2 1 = 1 ∧ d3f e.ws 9 9 ≤ i then redPad (d1f e.ws 0 2) e.pad else lane (d2f e.ws 12 9 + i)
    let b := winner (wsOpc e.ws == 2) vs
    let keep := if d1f e.ws 10 1 = 1 then ofBytes (s.rowBytes c (d4f e.ws 0 12)) else 0
    let t := s.tallyComplete c n
    t.rowBytes c (d4f e.ws 0 12) = toBytes 384 (putBits keep (d4f e.ws 12 12) (d1f e.ws 5 5) b.2) ∧
    t.tag c (d4f e.ws 0 12) = s.inputSealed c e ∧ t.fld (F.TAL_REDIDX_IDX c) = b.2 % 2 ^ (F.TAL_REDIDX_IDX c).w ∧
    t.fld (F.TAL_REDIDX_VALID c) = 1 ∧ (t.tally c).entries = (s.tally c).entries.eraseIdx n := by
  intro lane vs b keep
  have hred : s.tallyWrites c e = s.completeRed c e := by
    rcases h with h | h <;> simp [State.tallyWrites, hst, h]
  have hw : s.tallyWrites c e = ((s.redResult c b).tallyRow c (d4f e.ws 0 12) e.ws
      (rowField (s.rowBytes c (d4f e.ws 0 12)) (d1f e.ws 10 1 == 1) (d4f e.ws 12 12) (d1f e.ws 5 5) b.2)
      (s.inputSealed c e), s.inputSealed c e) := by
    rw [hred]
    simp only [State.completeRed, State.unitRow_on hon]
    rfl
  obtain ⟨hrow, htag, hregs, hentries⟩ := entryCompleted_tallyRow (n := n) (r := d4f e.ws 0 12)
    ((s.spOn_redResult c b).trans hon) (length_rowField _ _ _ _ _) (by simp [State.redResult]) hw
  obtain ⟨hidx, hvalid⟩ := s.fld_redResult c b
  have hfar : Reg.TAL_REDIDX c ∉ cplRegs c := by simp [cplRegs]
  dsimp only
  rw [State.tallyComplete_ready hact he hr]
  refine ⟨?_, htag, (hregs.fld hfar).trans hidx, (hregs.fld hfar).trans hvalid, hentries⟩
  simpa [rowField] using hrow

end

/-! ### Reports and the LFSR's seed (R262, R269) -/

/-- What leaves with an entry whose port has a FIFO with room: its count, its event, its report. -/
theorem State.tallyFinish_fifo (hp : e.port ≠ 2) (hroom : (s.tally c).cpl.length < 16) (n st : Nat) (b : Bool) :
    let t := s.tallyFinish c n e st b
    t.fld (F.TAL_DONECNT_COUNT c) = (s.fld (F.TAL_DONECNT_COUNT c) + 1) % 2 ^ 24 ∧
    (t.tally c).entries = (s.tally c).entries.eraseIdx n ∧ (t.tally c).cpl = (s.tally c).cpl ++ [cplOf e st b] ∧
    t.pulses = (if d0f e.ws 10 1 = 1 then s.pulses ++ [32 + c] else s.pulses) ∧
    s.KeepsRegs t [Reg.TAL_DONECNT c] ∧ t.mem = s.mem ∧ t.tags = s.tags := by
  have htally : (s.setTally c { s.tally c with entries := (s.tally c).entries.eraseIdx n }).tally c =
      { s.tally c with entries := (s.tally c).entries.eraseIdx n } := State.tally_setTally_same ..
  obtain ⟨hmem, htags, -, hregs⟩ :=
    (s.setTally c { s.tally c with entries := (s.tally c).entries.eraseIdx n }).counted_frame c e
  dsimp only
  rw [State.tallyFinish, State.tallyReport_fifo hp (by rw [htally]; exact hroom), htally]
  refine ⟨State.fld_counted _ c e, ?_, ?_, State.pulses_counted _ c e, hregs, hmem, htags⟩
  · rw [State.tally_setTally_same]
  · rw [State.tally_setTally_same]

theorem lfsrLoad_toNat (v : Word) : lfsrLoad v.toNat % 2 ^ 24 = if v.toNat = 0 then 1 else v.toNat := by
  have hv : v.toNat % 2 ^ 24 = v.toNat := Nat.mod_eq_of_lt v.isLt
  rw [lfsrLoad, hv]
  split
  · rfl
  · exact hv

/-- A seed write loads the LFSR and leaves entries and completions. -/
theorem State.writeSeed_frame (s : State) (c v : Nat) :
    (s.writeSeed c v).fld (F.TAL_RSTSEED_STATE c) = lfsrLoad v % 2 ^ 24 ∧
    ((s.writeSeed c v).tally c).entries = (s.tally c).entries ∧ ((s.writeSeed c v).tally c).cpl = (s.tally c).cpl ∧
    s.KeepsRegs (s.writeSeed c v) [Reg.TAL_RSTSEED c] ∧ (s.writeSeed c v).mem = s.mem ∧ (s.writeSeed c v).tags = s.tags := by
  have hregs (x : Tally) : s.KeepsRegs (s.setTally c x) [Reg.TAL_RSTSEED c] := (State.KeepsRegs.refl _).setTally c x
  rw [State.writeSeed]
  refine ⟨State.fld_setFld _ _ _ le_rfl, ?_⟩
  split
  · exact ⟨by simp, by simp, (hregs _).setFld _ _ (by simp), by simp, by simp⟩
  · exact ⟨by simp, by simp, (State.KeepsRegs.refl _).setFld _ _ (by simp), by simp, by simp⟩

/-- Settles O26: starts, tile operations and completions by the rules above, the frame by the rows an entry writes. -/
theorem tallyProgress : Obligations.TallyProgress := by
  unfold Obligations.TallyProgress
  refine ⟨?start, fun s c e h => ⟨State.topSealed_iff, State.inputSealed_top_iff h⟩, ?dark, ?fenced, ?noStart, ?tileStart,
    ?tileIdle, ?tileDone, ?complete, ?ins, ?red, ?sync, ?waits, ?frame, ?finish, ?pop, ?seed⟩
  case start =>
    intro s c n e hact hnext he h
    exact congrArg ok ((State.tallyStart_next hact hnext he).trans (State.tallyBegin_starts h))
  case dark =>
    intro s c n e hact hnext he h1 hoff
    exact congrArg ok ((State.tallyStart_next hact hnext he).trans (State.tallyBegin_dark h1 hoff))
  case fenced =>
    intro s c n e hact hnext he h1 hon hf
    exact congrArg ok ((State.tallyStart_next hact hnext he).trans (State.tallyBegin_fenced h1 hon hf))
  case noStart => exact fun s c h => congrArg ok (State.tallyStart_none h)
  case tileStart => exact fun s t n e hon hmay hf he => ⟨_, rfl, State.computeStart_frame hon hmay hf he⟩
  case tileIdle => exact fun s t h => congrArg ok (State.computeStart_idle h)
  case tileDone => exact fun s t n e hf he => ⟨_, rfl, State.computeDone_frame hf he⟩
  case complete => exact fun s c n e hact he hr => congrArg ok (State.tallyComplete_ready hact he hr)
  case ins =>
    intro s c n e hact he hr hon hst h4
    exact ⟨_, rfl, State.tallyComplete_ins hact he hr hon hst h4⟩
  case red =>
    intro s c n e hact he hr hon hst h
    exact ⟨_, rfl, State.tallyComplete_red hact he hr hon hst h⟩
  case sync =>
    intro s c n e hact he hr _ hst h7
    have hw : s.tallyWrites c e = (s, false) := by simp [State.tallyWrites, hst, h7]
    refine congrArg ok ((State.tallyComplete_ready hact he hr).trans ?_)
    rw [hw, entryCompleted, hst]
    rfl
  case waits => exact fun s c n e he h => congrArg ok (State.tallyComplete_waits he h)
  case frame =>
    intro s c e a r _ hok h6 hlen hr hbytes hrows
    exact State.keepsCell_tallyWrites hr hok h6 hlen fun x hx => ⟨hbytes x hx, hrows x hx⟩
  case finish => exact fun s c n e st b hp hroom _ => State.tallyFinish_fifo hp hroom n st b
  case pop => exact fun s ini c ht => congrArg ok (State.cmdWrite_takes _ _ _ _ ht)
  case seed =>
    intro s ini c v ht
    refine ok_cmdWrite ht ?_
    rw [← lfsrLoad_toNat]
    exact s.writeSeed_frame c v.toNat

end Sys2Proof.Machine
end

section
/-! Clocks, resets and the map (section 03): who writes the clock registers, and what the clock commands do. -/

namespace Sys2Proof.Machine

open Sys2Proof

variable {s : State} {ini : Initiator} {a v : Nat}

/-! ### Writers of the clock registers (R82) -/

/-- The registers that SV and the boot loader alone write. -/
def clockAddrs : List Nat := [Reg.CLK_CORESEL, Reg.CLK_PLLA, Reg.CLK_CLRST]

/-- They lie in the CLK block, in domain AON, and belong to no tile, core or cluster. -/
theorem clockAddrs_block : ∀ a ∈ clockAddrs, 0x05050000 ≤ a ∧ a < 0x05060000 ∧ a % 4 = 0 ∧ domainOf a = 0 ∧
    tileOf a = none ∧ localOf a = none ∧ clusterOf a = none := by decide

theorem mayReach_clock : ∀ a ∈ clockAddrs, mayReach .sv a = true ∧ mayReach .boot a = true := by decide

theorem State.mayWrite_clock (s : State) (ini : Initiator) (ha : a ∈ clockAddrs) : s.mayWrite ini a = isSvBoot ini := by
  obtain ⟨h1, h2, -, -, ht, -, hc⟩ := clockAddrs_block a ha
  have hlisted : (a == Reg.CLK_CORESEL || a == Reg.CLK_PLLA || a == Reg.CLK_CLRST) = true := by
    simpa [clockAddrs, or_assoc] using ha
  simp only [State.mayWrite, ht, hc, hlisted, Bool.not_true, Bool.or_false]
  rw [if_neg (by omega), if_neg (by omega), if_neg (by omega), if_neg (by omega), if_neg (by omega), if_neg (by omega),
    if_pos (by omega)]

/-- The map lets the two write them wherever AON is ON. -/
theorem State.mapVerdict_clock_pass (ha : a ∈ clockAddrs) (h : isSvBoot ini = true) (hon : s.domOn 0 = true) :
    s.mapVerdict ini a true = .pass := by
  obtain ⟨-, -, -, hd, -, hl, hc⟩ := clockAddrs_block a ha
  have hr : mayReach ini a = true := by
    have hini : ini = .sv ∨ ini = .boot := by simpa [isSvBoot] using h
    rcases hini with rfl | rfl
    · exact (mayReach_clock a ha).1
    · exact (mayReach_clock a ha).2
  simp [State.mapVerdict, hr, State.mayWrite_clock s ini ha, h, hd, hon, hl, hc]

theorem State.mapVerdict_clock_refused (ha : a ∈ clockAddrs) (h : isSvBoot ini = false) :
    s.mapVerdict ini a true = .refused := by
  obtain ⟨h1, -⟩ := clockAddrs_block a ha
  have hbus : 0x01000000 ≤ a := by omega
  cases hr : mayReach ini a <;> simp [State.mapVerdict, hr, State.mayWrite_clock s ini ha, h, hbus]

theorem State.gate_svBoot (h : isSvBoot ini = true) (wr : Bool) : s.gate ini a wr = .live := by
  have hini : ini = .sv ∨ ini = .boot := by simpa [isSvBoot] using h
  rcases hini with rfl | rfl <;> rfl

/-- Of the writes of the clock registers, those of SV and the boot loader pass. -/
theorem State.verdict_clock_iff (ha : a ∈ clockAddrs) (hon : s.domOn 0 = true) :
    s.verdict ini a true = .pass ↔ ini = .sv ∨ ini = .boot := by
  have hini : isSvBoot ini = true ↔ ini = .sv ∨ ini = .boot := by simp [isSvBoot]
  rw [← hini]
  cases h : isSvBoot ini with
  | true => simp [State.verdict, State.gate_svBoot h, State.mapVerdict_clock_pass ha h hon]
  | false => cases hg : s.gate ini a true <;> simp [State.verdict, hg, State.mapVerdict_clock_refused ha h]

/-- Another's write that its host port does not drop is refused. -/
theorem State.verdict_clock_refused (ha : a ∈ clockAddrs) (hsv : ini ≠ .sv) (hboot : ini ≠ .boot)
    (hg : s.gate ini a true ≠ .dropped) : s.verdict ini a true = .refused := by
  have h : isSvBoot ini = false := by simp [isSvBoot, hsv, hboot]
  cases hgate : s.gate ini a true with
  | dropped => exact absurd hgate hg
  | _ => simp [State.verdict, hgate, State.mapVerdict_clock_refused ha h]

/-- What the boot loader's state makes of a host's write of one of them does not depend on which. -/
theorem State.gate_clock (s : State) (ini : Initiator) (ha : a ∈ clockAddrs) :
    s.gate ini a true = s.gate ini Reg.CLK_CORESEL true := by
  simp only [clockAddrs, List.mem_cons, List.not_mem_nil, or_false] at ha
  rcases ha with rfl | rfl | rfl <;> cases ini <;> rfl

/-- A write of such a register, as a command of its own or as a register write, is recorded when it is another's. -/
theorem State.cmdWrite_clock_refused {f : State → State} (ha : a ∈ clockAddrs) (hsv : ini ≠ .sv) (hboot : ini ≠ .boot)
    (hs : s.stopped = false) (hsl : s.sealedIni ini = false) (hg : s.gate ini a true ≠ .dropped) :
    s.cmdWrite ini a f = s.addrErr ini a true :=
  State.cmdWrite_refused hs hsl (State.verdict_clock_refused ha hsv hboot hg)

theorem regUnit_of_clock (s : State) (ha : a ∈ clockAddrs) : s.RegUnit a := by
  obtain ⟨h1, h2, -⟩ := clockAddrs_block a ha
  exact .of_range s (by omega) (by omega) (by simp [isSched, Nat.not_le.mpr (h2.trans (by decide : 0x05060000 < 0x06000000))])

/-- A request in bits that CLK_CLRST does not have resets nothing. -/
theorem State.writeClrst_mod (s : State) (v : Nat) : s.writeClrst (v % 16) = s.writeClrst v := by
  have hbit : (List.range 4).filter (bitOf (v % 16)) = (List.range 4).filter (bitOf v) := by
    refine List.filter_congr fun i hi => ?_
    rw [bitOf_eq_testBit, bitOf_eq_testBit, show 16 = 2 ^ 4 from rfl, Nat.testBit_mod_two_pow]
    simp [List.mem_range.mp hi]
  rw [State.writeClrst, hbit, State.writeClrst]

/-- A whole register write of a word that reaches it. -/
theorem becomes_registerWrite_clock (ha : a ∈ clockAddrs) (ht : s.Takes ini a) (v : Word) :
    Becomes (.registerWrite ini a 4 v.toNat) s (s.writeSystem ini a v.toNat) := by
  obtain ⟨h1, h2, h4, -⟩ := clockAddrs_block a ha
  have hv : v.toNat % 2 ^ 24 = v.toNat := Nat.mod_eq_of_lt v.isLt
  have hreg : s.writeReg ini (s.sealedIni ini) a v.toNat = s.writeSystem ini a v.toNat := by
    simp only [clockAddrs, List.mem_cons, List.not_mem_nil, or_false] at ha
    rcases ha with rfl | rfl | rfl <;> rfl
  rw [Becomes, (regUnit_of_clock s ha).exec_registerWrite_whole h4 ht, hv, hreg]

/-- R82 with the first clause's equivalence under its hypotheses: who may write the clock registers, what another's write
does and what a write that passes does. -/
theorem clockRegisterWriters_grouped :
    (∀ (s : State) (ini : Initiator), ∀ a ∈ clockAddrs, s.domOn 0 = true →
      (s.verdict ini a true = .pass ↔ ini = .sv ∨ ini = .boot)) ∧
    (∀ (s : State) (ini : Initiator) (n v : Nat), ∀ a ∈ clockAddrs, ini ≠ .sv → ini ≠ .boot → s.stopped = false →
      s.sealedIni ini = false → s.gate ini a true ≠ .dropped →
      Becomes (.registerWrite ini a n v) s (s.addrErr ini a true)) ∧
    (∀ (s : State) (ini : Initiator) (v : Word) (req : Fin 16), ini ≠ .sv → ini ≠ .boot → s.stopped = false →
      s.sealedIni ini = false → s.gate ini Reg.CLK_CORESEL true ≠ .dropped →
      Becomes (.clkCoreselWrite ini v) s (s.addrErr ini Reg.CLK_CORESEL true) ∧
      Becomes (.clkPllaWrite ini v) s (s.addrErr ini Reg.CLK_PLLA true) ∧
      Becomes (.clusterReset ini req) s (s.addrErr ini Reg.CLK_CLRST true)) ∧
    (∀ (s : State) (ini : Initiator) (v : Word), (ini = .sv ∨ ini = .boot) → s.stopped = false →
      s.sealedIni ini = false → s.domOn 0 = true →
      Becomes (.clkCoreselWrite ini v) s (s.writeCoresel v.toNat) ∧
      Becomes (.clkPllaWrite ini v) s (s.writePlla v.toNat) ∧
      Becomes (.registerWrite ini Reg.CLK_CORESEL 4 v.toNat) s (s.writeCoresel v.toNat) ∧
      Becomes (.registerWrite ini Reg.CLK_PLLA 4 v.toNat) s (s.writePlla v.toNat) ∧
      Becomes (.registerWrite ini Reg.CLK_CLRST 4 v.toNat) s (s.writeClrst (v.toNat % 16))) := by
  have hsel : Reg.CLK_CORESEL ∈ clockAddrs := by decide
  have hpll : Reg.CLK_PLLA ∈ clockAddrs := by decide
  have hrst : Reg.CLK_CLRST ∈ clockAddrs := by decide
  refine ⟨fun s ini a ha hon => State.verdict_clock_iff ha hon, ?registerWrite, ?commands, ?taken⟩
  case registerWrite =>
    intro s ini n v a ha hsv hboot hs hsl hg
    rw [Becomes, exec_registerWrite (regUnit_of_clock s ha).noScratch, State.cmdWrite_clock_refused ha hsv hboot hs hsl hg]
  case commands =>
    intro s ini v req hsv hboot hs hsl hg
    have refused {a : Nat} (ha : a ∈ clockAddrs) (f : State → State) : s.cmdWrite ini a f = s.addrErr ini a true :=
      State.cmdWrite_clock_refused ha hsv hboot hs hsl (s.gate_clock ini ha ▸ hg)
    exact ⟨congrArg ok (refused hsel _), congrArg ok (refused hpll _), congrArg ok (refused hrst _)⟩
  case taken =>
    intro s ini v hini hs hsl hon
    have ht {a : Nat} (ha : a ∈ clockAddrs) : s.Takes ini a := ⟨hs, hsl, (State.verdict_clock_iff ha hon).mpr hini⟩
    refine ⟨congrArg ok (State.cmdWrite_takes _ _ _ _ (ht hsel)), congrArg ok (State.cmdWrite_takes _ _ _ _ (ht hpll)),
      becomes_registerWrite_clock hsel (ht hsel) v, becomes_registerWrite_clock hpll (ht hpll) v, ?_⟩
    rw [State.writeClrst_mod]
    exact becomes_registerWrite_clock hrst (ht hrst) v

/-- Refutes O7: its first clause, as it is grouped, says that the writers are SV and the boot loader alone of every address,
where it lets addresses other than those of the three registers go free; address 0 written by a core is no exception to
the hypotheses, and a core is neither. -/
theorem not_clockRegisterWriters : ¬ Obligations.ClockRegisterWriters := by
  unfold Obligations.ClockRegisterWriters
  rintro ⟨hwriters, -⟩
  have hcore : Initiator.cc 0 = .sv ∨ Initiator.cc 0 = .boot :=
    (hwriters State.reset (.cc 0) 0).mp fun ha => absurd ha (by decide)
  revert hcore
  decide

/-! ### Clock commands (R78-R85, R105) -/

/-- A field of a register write and a flag differ from what is asked: the pending switch (R83). -/
theorem b2n_bne (a b : Bool) : b2n (a != b) = if a = b then 0 else 1 := by cases a <;> cases b <;> rfl

theorem State.writeCoresel_eq (s : State) (v : Nat) : s.writeCoresel v =
    (s.setFld F.CLK_CORESEL_BUSY (if (v % 2 == 1) = s.coreOnPll then 0 else 1)).setFld F.CLK_CORESEL_SRC (v % 2) := by
  rw [State.writeCoresel, b2n_bne]

theorem State.clockSwitch_pending (hb : s.fld F.CLK_CORESEL_BUSY = 1)
    (h : s.fld F.CLK_CORESEL_SRC = 0 ∨ s.fld F.CLK_PLLA_LOCK = 1) : s.clockSwitch = s.setFld F.CLK_CORESEL_BUSY 0 :=
  if_pos ⟨State.flag_of_one hb, h.imp_right State.flag_of_one⟩

theorem State.clockSwitch_unlocked (hsrc : s.fld F.CLK_CORESEL_SRC = 1) (hl : s.fld F.CLK_PLLA_LOCK = 0) :
    s.clockSwitch = s :=
  if_neg (by simp [hsrc, State.flag_of_zero hl])

theorem State.clockSwitch_idle (hb : s.fld F.CLK_CORESEL_BUSY = 0) : s.clockSwitch = s :=
  if_neg (by simp [State.flag_of_zero hb])

/-- A setting within R80 of an unlocked PLL_A that does not drive clk_core is taken. -/
theorem State.writePlla_taken (hsrc : s.fld F.CLK_CORESEL_SRC = 0) (hl : s.fld F.CLK_PLLA_LOCK = 0)
    (h1 : 100 ≤ bitsOf v 0 8) (h2 : bitsOf v 0 8 ≤ 250) (h3 : 2 ≤ bitsOf v 8 4) (h4 : 8 * bitsOf v 0 8 ≤ 500 * bitsOf v 8 4)
    (hnew : bitsOf v 0 8 ≠ s.fld F.CLK_PLLA_FBDIV ∨ bitsOf v 8 4 ≠ s.fld F.CLK_PLLA_POSTDIV) :
    s.writePlla v = (((s.setFld F.CLK_PLLA_FBDIV (bitsOf v 0 8)).setFld F.CLK_PLLA_POSTDIV (bitsOf v 8 4)).setFld
      F.CLK_PLLA_EN (bitsOf v 12 1)).setFld F.CLK_PLLA_LOCK 0 := by
  have h5 : bitsOf v 8 4 ≤ 15 := by have := bitsOf_lt v 8 4; omega
  have hok : pllaOk (bitsOf v 0 8) (bitsOf v 8 4) = true := by simp [pllaOk, *]
  have hchanged : (bitsOf v 0 8 != s.fld F.CLK_PLLA_FBDIV || bitsOf v 8 4 != s.fld F.CLK_PLLA_POSTDIV) = true := by
    simpa [bne_iff_ne] using hnew
  simp [State.writePlla, State.flag_of_zero hsrc, State.flag_of_zero hl, hok, hchanged]

/-- A setting outside R80, or one while SRC is 1, changes no divider. -/
theorem State.writePlla_ignored (hen : bitsOf v 12 1 = 1) (hbad : s.fld F.CLK_CORESEL_SRC = 1 ∨ bitsOf v 0 8 < 100 ∨
    250 < bitsOf v 0 8 ∨ 500 * bitsOf v 8 4 < 8 * bitsOf v 0 8) :
    s.writePlla v = (s.setFld F.CLK_STATUS_BADCFG 1).setFld F.CLK_PLLA_EN 1 := by
  have hno : (s.flag F.CLK_CORESEL_SRC || !pllaOk (bitsOf v 0 8) (bitsOf v 8 4)) = true := by
    rcases hbad with h | h | h | h
    · simp [State.flag_of_one h]
    all_goals simp [pllaOk, Nat.not_le.mpr h]
  simp [State.writePlla, hno, hen]

theorem State.quadLit_of_on {q : Fin 8} (h : s.dom (17 + q) = 2) : s.quadLit = true :=
  List.any_eq_true.mpr ⟨q, List.mem_range.mpr q.isLt, by simp [h]⟩

theorem State.pllLost_driving (h : s.coreOnPll = true) : s.pllLost =
    ((((s.setFld F.CLK_PLLA_LOCK 0).setFld F.CLK_CORESEL_SRC 0).setFld F.CLK_CORESEL_BUSY 0).setFld
      F.CLK_STATUS_ALOST 1).logEntry 0x02 63 0 := by
  simp [State.pllLost, h, State.fault]

/-- Settles O9: each command is its function of the model in the case its hypotheses describe. -/
theorem clockCommands : Obligations.ClockCommands := by
  unfold Obligations.ClockCommands
  refine ⟨?coresel, fun s hb h => congrArg ok (State.clockSwitch_pending hb h),
    fun s hsrc hl => congrArg ok (State.clockSwitch_unlocked hsrc hl), fun s hb => congrArg ok (State.clockSwitch_idle hb),
    ?plla, ?pllaBad, fun s hen => congrArg ok (if_pos (State.flag_of_one hen)),
    fun s q hq => congrArg ok (if_pos (State.quadLit_of_on hq)),
    fun s hb => congrArg ok (if_pos (.inr (State.flag_of_one hb))), ?loss, ?crystal, fun s => rfl, fun s => rfl⟩
  case coresel =>
    intro s ini v ht
    rw [← State.writeCoresel_eq]
    exact congrArg ok (State.cmdWrite_takes _ _ _ _ ht)
  case plla =>
    rintro s ini v _ _ ht hsrc hl rfl rfl h1 h2 h3 h4 hnew
    rw [← State.writePlla_taken hsrc hl h1 h2 h3 h4 hnew]
    exact congrArg ok (State.cmdWrite_takes _ _ _ _ ht)
  case pllaBad =>
    rintro s ini v _ _ ht hen rfl rfl hbad
    rw [← State.writePlla_ignored hen hbad]
    exact congrArg ok (State.cmdWrite_takes _ _ _ _ ht)
  case loss =>
    intro s hl hpll
    exact congrArg ok ((if_pos (State.flag_of_one hl)).trans (State.pllLost_driving hpll))
  case crystal => exact fun s on => by cases on <;> rfl

end Sys2Proof.Machine
end

section
/-! What a reset clears and what stands through it (Tables CLK-5 and CLK-6): frames of the operations that the resets of
the part, of a cluster and of the PCI Express function are made of. -/

namespace Sys2Proof.Machine

open Sys2Proof

variable {s t u : State} {p q : Nat → Prop} {c n : Nat}

/-! ### Registers that stand -/

/-- The registers `p` picks hold in `t` what they hold in `s`. -/
def State.HoldsRegs (p : Nat → Prop) (s t : State) : Prop := ∀ a, p a → t.reg a = s.reg a

theorem State.HoldsRegs.refl (s : State) : s.HoldsRegs p s := fun _ _ => rfl

theorem State.HoldsRegs.trans (h : s.HoldsRegs p t) (h' : t.HoldsRegs p u) : s.HoldsRegs p u :=
  fun a ha => (h' a ha).trans (h a ha)

theorem State.HoldsRegs.mono (h : s.HoldsRegs p t) (hq : ∀ a, q a → p a) : s.HoldsRegs q t := fun a ha => h a (hq a ha)

theorem State.HoldsRegs.fld (h : s.HoldsRegs p t) {f : Fld} (hf : p f.addr) : t.fld f = s.fld f := by
  simp only [State.fld, h f.addr hf]

theorem State.HoldsRegs.setReg (h : s.HoldsRegs p t) {a : Nat} (ha : ¬ p a) (w : Word) : s.HoldsRegs p (t.setReg a w) :=
  fun b hb => by rw [State.reg_setReg_ne _ _ _ _ (ne_of_mem_of_not_mem (s := {x | p x}) hb ha), h b hb]

theorem State.HoldsRegs.setFld (h : s.HoldsRegs p t) {f : Fld} (hf : ¬ p f.addr) (v : Nat) :
    s.HoldsRegs p (t.setFld f v) := h.setReg hf _

theorem State.reg_clearRegs (s : State) (lo hi a : Nat) :
    (s.clearRegs lo hi).reg a = if lo ≤ a ∧ a < hi then regReset a else s.reg a := by
  rw [State.reg, State.clearRegs, tabGet_tabClear]
  simp only [Bool.and_eq_true, decide_eq_true_eq]
  rfl

theorem State.HoldsRegs.clearRegs (h : s.HoldsRegs p t) {lo hi : Nat} (hp : ∀ a, p a → a < lo ∨ hi ≤ a) :
    s.HoldsRegs p (t.clearRegs lo hi) := fun a ha => by
  have := hp a ha
  rw [State.reg_clearRegs, if_neg (by omega), h a ha]

/-! ### What the units of a reset part leave

The registers no unit touches on its way to rest: the reset causes, the domains' and the owners'. -/

/-- CLK_RSTCAUSE and PWR_DOM0-25. -/
abbrev keptAtReset (a : Nat) : Prop := a = 0x05050010 ∨ (0x05000100 ≤ a ∧ a < 0x05000168)

/-- Those, and CLU_OWNER of each cluster. -/
abbrev keptByUnits (a : Nat) : Prop := keptAtReset a ∨ (0x06000000 ≤ a ∧ a < 0x06400000 ∧ a % 0x100000 = 4)

theorem keptByUnits_of_keptAtReset (a : Nat) (h : keptAtReset a) : keptByUnits a := .inl h

theorem keptByUnits_rstcause : keptByUnits Reg.CLK_RSTCAUSE := .inl (.inl rfl)

theorem keptByUnits_owner {c : Nat} (hc : c < 4) : keptByUnits (Reg.CLU_OWNER c) :=
  .inr (by dsimp only [Reg.CLU_OWNER]; omega)

/-- The registers of a tile lie elsewhere. -/
theorem not_keptByUnits_tile {b t : Nat} (h1 : 0x01000000 ≤ b) (h2 : b < 0x01010000) (ht : t < 256) :
    ¬ keptByUnits (b + 0x10000 * t) := by
  simp only [keptByUnits, keptAtReset]
  omega

/-- So do those of a cluster's units, and its rings' pointers. -/
theorem not_keptByUnits_unit {b c : Nat} (h1 : 0x06010000 ≤ b) (h2 : b < 0x06100000) (hc : c < 4) :
    ¬ keptByUnits (b + 0x100000 * c) := by
  simp only [keptByUnits, keptAtReset]
  omega

/-- So do those of the SEAL block and of the FLT block. -/
theorem not_keptByUnits_block {a : Nat} (h1 : 0x05020000 ≤ a) (h2 : a < 0x05040000 ∨ 0x05060000 ≤ a) (h3 : a < 0x06000000) :
    ¬ keptByUnits a := by
  simp only [keptByUnits, keptAtReset]
  omega

/-! ### What stands beside those registers -/

/-- Meter, RTC, held resets, weather and the registers `p` picks are in `t` what they are in `s`. -/
def State.Spares (p : Nat → Prop) (s t : State) : Prop :=
  t.zones = s.zones ∧ t.rtc = s.rtc ∧ t.held = s.held ∧ t.weather = s.weather ∧ s.HoldsRegs p t

theorem State.Spares.refl (s : State) : s.Spares p s := ⟨rfl, rfl, rfl, rfl, .refl s⟩

theorem State.Spares.trans (h : s.Spares p t) (h' : t.Spares p u) : s.Spares p u := by
  obtain ⟨hz, hr, hh, hw, hp⟩ := h
  obtain ⟨hz', hr', hh', hw', hp'⟩ := h'
  exact ⟨hz'.trans hz, hr'.trans hr, hh'.trans hh, hw'.trans hw, hp.trans hp'⟩

theorem State.Spares.holds (h : s.Spares p t) : s.HoldsRegs p t := h.2.2.2.2

theorem State.Spares.setReg (h : s.Spares p t) {a : Nat} (ha : ¬ p a) (w : Word) : s.Spares p (t.setReg a w) :=
  h.trans ⟨rfl, rfl, rfl, rfl, (State.HoldsRegs.refl t).setReg ha w⟩

theorem State.Spares.setFld (h : s.Spares p t) {f : Fld} (hf : ¬ p f.addr) (v : Nat) : s.Spares p (t.setFld f v) :=
  h.setReg hf _

theorem State.Spares.incFld (h : s.Spares p t) {f : Fld} (hf : ¬ p f.addr) (n : Nat) : s.Spares p (t.incFld f n) :=
  h.setReg hf _

theorem State.Spares.setFbit (h : s.Spares p t) {f : Fld} (hf : ¬ p f.addr) (i : Nat) (b : Bool) :
    s.Spares p (t.setFbit f i b) := h.setReg hf _

theorem State.Spares.clearRegs (h : s.Spares p t) {lo hi : Nat} (hp : ∀ a, p a → a < lo ∨ hi ≤ a) :
    s.Spares p (t.clearRegs lo hi) := h.trans ⟨rfl, rfl, rfl, rfl, (State.HoldsRegs.refl t).clearRegs hp⟩

theorem State.Spares.foldl {α : Type} {f : State → α → State} {l : List α} (h : s.Spares p t)
    (hf : ∀ (u : State), ∀ x ∈ l, u.Spares p (f u x)) : s.Spares p (l.foldl f t) :=
  List.foldlRecOn l f h fun u hu x hx => hu.trans (hf u x hx)

theorem State.Spares.ite {b : Prop} [Decidable b] (h : s.Spares p t) (h' : s.Spares p u) :
    s.Spares p (if b then t else u) := by
  split
  · exact h
  · exact h'

/-! Updates of what is neither of them. -/

theorem State.Spares.fire (h : s.Spares p t) (n : Nat) : s.Spares p (t.fire n) := h

theorem State.Spares.setTile (h : s.Spares p t) (n : Nat) (x : Tile) : s.Spares p (t.setTile n x) := h

theorem State.Spares.setTally (h : s.Spares p t) (n : Nat) (x : Tally) : s.Spares p (t.setTally n x) := h

theorem State.Spares.setMover (h : s.Spares p t) (n : Nat) (x : Mover) : s.Spares p (t.setMover n x) := h

theorem State.Spares.setDfa (h : s.Spares p t) (n : Nat) (x : Dfa) : s.Spares p (t.setDfa n x) := h

theorem State.Spares.mapCmds (h : s.Spares p t) (f : QCmd → QCmd) : s.Spares p (t.mapCmds f) := h

/-! ### Events to the host, the log, violations -/

theorem vpendFld_addr (v : Nat) : (vpendFld v).addr ∈ [Reg.HST_VPEND0, Reg.HST_VPEND1, Reg.HST_VPEND2] := by
  rw [vpendFld]
  split_ifs <;> simp

theorem State.Spares.sendVec (h : s.Spares keptByUnits t) (v : Nat) : s.Spares keptByUnits (t.sendVec v) := by
  have hpend : ∀ a ∈ [Reg.HST_VPEND0, Reg.HST_VPEND1, Reg.HST_VPEND2], ¬ keptByUnits a := by decide
  rw [State.sendVec]
  split_ifs
  · exact h
  · exact h.setFld (hpend _ (vpendFld_addr v)) _
  · exact h
  · exact h

theorem State.Spares.hostEvent (h : s.Spares keptByUnits t) (i : Nat) : s.Spares keptByUnits (t.hostEvent i) := by
  have hbit := h.setFbit (f := ⟨Reg.HST_IRQSTAT, 0, 6⟩) (by decide) i true
  rw [State.hostEvent]
  split_ifs
  · exact h
  · exact hbit.sendVec _
  · exact hbit

theorem State.Spares.logEntry (h : s.Spares keptByUnits t) (code unit detail : Nat) :
    s.Spares keptByUnits (t.logEntry code unit detail) := by
  rw [State.logEntry]
  refine .hostEvent (.setFld (f := F.FLT_STATUS_LOGANY) ?_ (by decide) _) _
  split_ifs
  · exact h
  · exact h
  · exact h.incFld (f := F.FLT_LOGCNT_OVF) (by decide) _

theorem State.Spares.setHealthD (h : s.Spares keptByUnits t) {u : Nat} (hu : u < 256) (v : Nat) :
    s.Spares keptByUnits (t.setHealthD u v) := by
  have hdp : ¬ keptByUnits (Reg.FLT_DP (u / 12)) := by
    dsimp only [Reg.FLT_DP]
    exact not_keptByUnits_block (by omega) (by omega) (by omega)
  rw [State.setHealthD, State.settleUnit]
  split_ifs
  · exact h.setFld hdp _
  · exact h.setFld hdp _

theorem State.Spares.fault (h : s.Spares keptByUnits t) (code : Nat) {u : Nat} (hu : u < 256) (detail : Nat) (raises : Bool) :
    s.Spares keptByUnits (t.fault code u detail raises) := by
  have hlog := h.logEntry code u detail
  rw [State.fault]
  split_ifs
  · rw [State.raiseD]
    split_ifs
    · exact (hlog.setHealthD hu 1).setFld (f := F.FLT_STATUS_DPCHG) (by decide) _
    · exact hlog
  · exact hlog

theorem State.Spares.violate (h : s.Spares keptByUnits t) : s.Spares keptByUnits t.violate := by
  have hcount := h.incFld (f := F.SEAL_VIOL_COUNT) (by decide) 1
  rw [State.violate]
  split_ifs
  · exact (((hcount.setFld (f := F.SEAL_CTRL_LOCKOUT) (by decide) 1).fire 61).fault 0x03 (by decide) 0 false).hostEvent 2
  · exact hcount

/-- Egress counts stand in the SEAL block. -/
theorem State.Spares.refuseEgress (h : s.Spares keptByUnits t) {f : Fld} (hf : ¬ keptByUnits f.addr) :
    s.Spares keptByUnits (t.refuseEgress f) :=
  (h.violate.setFld (f := F.SEAL_STATUS_EGRESS) (by decide) 1).incFld hf 1

/-! ### Aborts of a cluster's units (R236, R285, R384) -/

theorem State.Spares.refreshOver (h : s.Spares keptByUnits t) {n : Nat} (hn : n < 256) :
    s.Spares keptByUnits (t.refreshOver n) := by
  have hact := h.setFld (f := F.CAL_STAT_RFACT n) (not_keptByUnits_tile (by decide) (by decide) hn) 0
  rw [State.refreshOver]
  split_ifs
  · exact hact.setTile _ _
  · exact hact

theorem State.Spares.longErr (h : s.Spares keptByUnits t) {n : Nat} (hn : n < 256) (st : Nat) :
    s.Spares keptByUnits (t.longErr n st) := by
  have hbit (i : Nat) : ¬ keptByUnits (⟨Reg.TILE_ERR n, i, 1⟩ : Fld).addr :=
    not_keptByUnits_tile (by decide) (by decide) hn
  rw [State.longErr]
  split_ifs
  · exact h.setFld (hbit 4) 1
  · exact (h.setFld (hbit 3) 1).refuseEgress (by decide)
  · exact h.setFld (hbit 1) 1
  · exact h.setFld (hbit 2) 1
  · exact h

theorem State.Spares.longDone (h : s.Spares keptByUnits t) {n : Nat} (hn : n < 256) (st : Nat) :
    s.Spares keptByUnits (t.longDone n st) :=
  (h.setFld (f := F.TILE_LSTAT_STATUS n) (not_keptByUnits_tile (by decide) (by decide) hn) st).fire n

theorem State.Spares.frontTile (h : s.Spares keptByUnits t) (n st : Nat) : s.Spares keptByUnits (t.frontTile n st) := by
  rw [State.frontTile]
  split
  · exact (h.setTile _ _).mapCmds _
  · exact h

theorem State.Spares.endLong (h : s.Spares keptByUnits t) {n : Nat} (hn : n < 256) (st : Nat) :
    s.Spares keptByUnits (t.endLong n st) := by
  have hstat (i w : Nat) : ¬ keptByUnits (⟨Reg.CAL_STAT n, i, w⟩ : Fld).addr :=
    not_keptByUnits_tile (by decide) (by decide) hn
  rw [State.endLong]
  split
  · exact h
  next l _ =>
    have htile := h.setTile n { t.tile n with
      long := none
      gen := if l.kind = .program ∧ st = 2 then l.gen else (t.tile n).gen
      genValid := if l.kind = .program ∧ st = 2 then true else (t.tile n).genValid }
    have hover := htile.refreshOver hn
    have hcount := State.Spares.ite (b := st = 2) (hover.setFld (f := F.CAL_STAT_TRIPCNT n) (hstat 5 2) 0) hover
    have hrefresh := State.Spares.ite (b := l.kind = .refresh)
      (.ite (b := st = 2 ∧ l.first = 0 ∧ l.count = 768 ∧ l.mask = 0x3F)
        (hcount.incFld (f := F.CAL_STAT_FULLRF n) (hstat 10 8) 1) hcount) htile
    refine .frontTile (.longDone (.longErr ?_ hn _) hn _) _ _
    split
    · exact .ite (hrefresh.fault 0x06 hn _ true) hrefresh
    · exact hrefresh

theorem State.Spares.tileAbort (h : s.Spares keptByUnits t) {n : Nat} (hn : n < 256) :
    s.Spares keptByUnits (t.tileAbort n) := by
  rw [State.tileAbort]
  split
  · exact .ite (h.setTile _ _) (h.endLong hn _)
  · exact h

theorem State.Spares.tallyReport (h : s.Spares keptByUnits t) (hc : c < 4) (e : TalEntry) (st : Nat) (b : Bool) :
    s.Spares keptByUnits (t.tallyReport c e st b) := by
  have hcount := h.setFld (f := F.TAL_DONECNT_COUNT c) (not_keptByUnits_unit (by decide) (by decide) hc)
    (t.fld (F.TAL_DONECNT_COUNT c) + 1)
  have hfired := State.Spares.ite (b := d0f e.ws 10 1 = 1) (hcount.fire (32 + c)) hcount
  rw [State.tallyReport]
  exact .ite (hfired.mapCmds _) (.ite (hfired.setTally _ _)
    ((hfired.incFld (f := F.TAL_CPLCNT_OVF c) (not_keptByUnits_unit (by decide) (by decide) hc) 1).setFld
      (f := F.TAL_STATUS_CPLOVF c) (not_keptByUnits_unit (by decide) (by decide) hc) 1))

theorem State.Spares.tallyAbort (h : s.Spares keptByUnits t) (hc : c < 4) (gone : TalEntry → Bool) :
    s.Spares keptByUnits (t.tallyAbort c gone) :=
  (h.setTally _ _).foldl fun u e _ => (State.Spares.refl u).tallyReport hc e 2 false

theorem State.Spares.moverReport (h : s.Spares keptByUnits t) (hc : c < 4) (port : Nat) (j : JobWords) (st rows id : Nat) :
    s.Spares keptByUnits (t.moverReport c port j st rows id) := by
  have hfired := State.Spares.ite (b := bitOf j.j1.toNat 22 = true) (h.fire (36 + c)) h
  rw [State.moverReport]
  exact .ite (hfired.mapCmds _) (.ite (hfired.setMover _ _)
    ((hfired.incFld (f := F.MOV_CPLCNT_OVF c) (not_keptByUnits_unit (by decide) (by decide) hc) 1).setFld
      (f := F.MOV_STATUS_CPLOVF c) (not_keptByUnits_unit (by decide) (by decide) hc) 1))

theorem State.Spares.moverAbort (h : s.Spares keptByUnits t) (hc : c < 4) (gone : MovJob → Bool) :
    s.Spares keptByUnits (t.moverAbort c gone) := by
  have hqueue := h.setMover c { t.mover c with jobs := (t.mover c).jobs.filter fun j => !gone j }
  rw [State.moverAbort]
  exact .foldl (.ite hqueue hqueue) fun u j _ => (State.Spares.refl u).moverReport hc j.port j.jw 4 j.done j.id

theorem State.Spares.dfaReport (h : s.Spares keptByUnits t) (hc : c < 4) (st : DfaStart) (status : Nat) (a b : Bool) :
    s.Spares keptByUnits (t.dfaReport c st status a b) := by
  have hfired := State.Spares.ite (b := st.notify = true) (h.fire (40 + c)) h
  rw [State.dfaReport]
  exact .ite (hfired.mapCmds _) (.ite (hfired.setDfa _ _)
    ((hfired.incFld (f := F.DFA_CPLCNT_OVF c) (not_keptByUnits_unit (by decide) (by decide) hc) 1).setFld
      (f := F.DFA_STATUS_CPLOVF c) (not_keptByUnits_unit (by decide) (by decide) hc) 1))

theorem State.Spares.dfaAbort (h : s.Spares keptByUnits t) (hc : c < 4) (gone : DfaStart → Bool) :
    s.Spares keptByUnits (t.dfaAbort c gone) := by
  have hqueue := h.setDfa c { t.dfa c with queue := (t.dfa c).queue.filter fun x => !gone x }
  rw [State.dfaAbort]
  refine .foldl ?_ fun u x _ => (State.Spares.refl u).dfaReport hc x 2 false false
  split
  · exact .ite (((hqueue.setDfa _ _).setDfa _ _).dfaReport hc _ 2 _ _) hqueue
  · exact hqueue

theorem ofBytes_lt (bs : List Byte) : ofBytes bs < 2 ^ (8 * bs.length) := by
  induction bs with
  | nil => simp [ofBytes]
  | cons b bs ih =>
    have hb : b.toNat < 256 := b.isLt
    rw [ofBytes, List.length_cons, show 8 * (bs.length + 1) = 8 + 8 * bs.length by ring, pow_add]
    omega

/-- A command names a tile by one byte. -/
theorem QCmd.tile_lt (x : QCmd) : x.tile < 256 := by
  have hlen : ((x.raw.drop ((if x.qf2 then 16 else 9) + 0)).take 1).length ≤ 1 := List.length_take_le 1 _
  have hpow := Nat.pow_le_pow_right (n := 2) (by decide) (Nat.mul_le_mul_left 8 hlen)
  exact (ofBytes_lt _).trans_le hpow

theorem QCmd.cl_lt (x : QCmd) : x.cl < 4 := bitsOf_lt _ 12 2

theorem State.Spares.abortUnits (h : s.Spares keptByUnits t) (x : QCmd) : s.Spares keptByUnits (t.abortUnits x) := by
  rw [State.abortUnits]
  split
  · exact h.tallyAbort x.cl_lt _
  · exact h.tallyAbort x.cl_lt _
  · exact h.moverAbort x.cl_lt _
  · exact h.dfaAbort x.cl_lt _
  · exact .ite (h.tileAbort x.tile_lt) h
  · exact .ite (h.tileAbort x.tile_lt) h
  · exact .ite (h.setFld (f := F.QUE_SVREQ0_ABORT) (by decide) 1) h
  · exact h

theorem State.Spares.abortHost (h : s.Spares keptByUnits t) : s.Spares keptByUnits t.abortHost :=
  h.foldl fun u x _ => .ite ((State.Spares.refl u).abortUnits x) (.refl u)

/-! ### The parts of a reset -/

/-- Nothing but tiles, registers and free values drawn differs between `s` and `t`. -/
def State.OnlyTiles (s t : State) : Prop := t = { s with regs := t.regs, tiles := t.tiles, free := t.free }

theorem State.OnlyTiles.refl (s : State) : s.OnlyTiles s := rfl

theorem State.OnlyTiles.trans (h : s.OnlyTiles t) (h' : t.OnlyTiles u) : s.OnlyTiles u := by
  rw [State.OnlyTiles] at h h' ⊢
  rw [h', h]

theorem State.OnlyTiles.foldl {α : Type} {f : State → α → State} {l : List α}
    (hf : ∀ (u : State) (x : α), u.OnlyTiles (f u x)) (s : State) : s.OnlyTiles (l.foldl f s) :=
  List.foldlRecOn l f (.refl s) fun u hu x _ => hu.trans (hf u x)

theorem State.onlyTiles_cutStep (s : State) (n : Nat) : s.OnlyTiles (s.cutStep n) := by
  rw [State.cutStep]
  split
  · split <;> rfl
  · rfl

theorem State.onlyTiles_refreshOver (s : State) (n : Nat) : s.OnlyTiles (s.refreshOver n) := by
  rw [State.refreshOver]
  split <;> rfl

theorem State.onlyTiles_clearTile (s : State) (n : Nat) : s.OnlyTiles (s.clearTile n) := by
  have hcut := s.onlyTiles_cutStep n
  rw [State.clearTile]
  split
  · split
    · exact (hcut.trans (State.onlyTiles_refreshOver _ n)).trans rfl
    · exact hcut.trans rfl
  · exact hcut.trans rfl

theorem State.Spares.cutStep (h : s.Spares p t) (n : Nat) : s.Spares p (t.cutStep n) := by
  rw [State.cutStep]
  split
  · exact .ite h h
  · exact h

theorem State.Spares.clearTile (h : s.Spares keptByUnits t) {n : Nat} (hn : n < 256) :
    s.Spares keptByUnits (t.clearTile n) := by
  have hcut := h.cutStep n
  have hregs : ∀ a, keptByUnits a → a < Reg.TILE_CMD n - 0xC ∨ Reg.TILE_CMD n - 0xC + 0x8000 ≤ a := by
    simp only [keptByUnits, keptAtReset, Reg.TILE_CMD]
    omega
  rw [State.clearTile]
  split
  · exact State.Spares.clearRegs (.setTile (.ite (hcut.refreshOver hn) hcut) _ _) hregs
  · exact State.Spares.clearRegs (.setTile hcut _ _) hregs

/-- Nothing differs between `s` and `t` but the registers, the messages to the host and the function-level reset that
waits for owners. -/
def State.OnlyHost (s t : State) : Prop :=
  t = { s with regs := t.regs, messages := t.messages, msixPend := t.msixPend, flrDue := t.flrDue }

theorem State.OnlyHost.trans (h : s.OnlyHost t) (h' : t.OnlyHost u) : s.OnlyHost u := by
  rw [State.OnlyHost] at h h' ⊢
  rw [h', h]

theorem State.onlyHost_sendVec (s : State) (v : Nat) : s.OnlyHost (s.sendVec v) := by
  rw [State.sendVec]
  split_ifs <;> rfl

theorem State.onlyHost_hostEvent (s : State) (i : Nat) : s.OnlyHost (s.hostEvent i) := by
  have hbit : s.OnlyHost (s.setFbit ⟨Reg.HST_IRQSTAT, 0, 6⟩ i true) := rfl
  rw [State.hostEvent]
  split_ifs
  · rfl
  · exact hbit.trans (State.onlyHost_sendVec _ _)
  · exact hbit

theorem State.onlyHost_flrSettle (s : State) : s.OnlyHost s.flrSettle := by
  have hdue : s.OnlyHost { s with flrDue := [] } := rfl
  rw [State.flrSettle]
  split_ifs
  · exact hdue.trans (State.onlyHost_hostEvent _ _)
  · rfl

theorem State.Spares.flrSettle (h : s.Spares keptByUnits t) : s.Spares keptByUnits t.flrSettle := by
  have hdue : s.Spares keptByUnits { t with flrDue := [] } := h
  rw [State.flrSettle]
  exact .ite (hdue.hostEvent 5) h

/-- Nothing differs between `s` and `t` but the registers, the memory of the map, what the units and the cores hold, the
parameter store and what is on its way to the host. -/
def State.OnlyUnits (s t : State) : Prop :=
  t = { s with regs := t.regs, mem := t.mem, free := t.free, tiles := t.tiles, tallies := t.tallies, movers := t.movers,
               dfas := t.dfas, cores := t.cores, fresh := t.fresh, pst := t.pst, pstOp := t.pstOp,
               messages := t.messages, msixPend := t.msixPend, flrDue := t.flrDue }

theorem State.OnlyUnits.refl (s : State) : s.OnlyUnits s := rfl

theorem State.OnlyUnits.trans (h : s.OnlyUnits t) (h' : t.OnlyUnits u) : s.OnlyUnits u := by
  rw [State.OnlyUnits] at h h' ⊢
  rw [h', h]

theorem State.OnlyUnits.foldl {α : Type} {f : State → α → State} {l : List α}
    (hf : ∀ (u : State) (x : α), u.OnlyUnits (f u x)) (s : State) : s.OnlyUnits (l.foldl f s) :=
  List.foldlRecOn l f (.refl s) fun u hu x _ => hu.trans (hf u x)

theorem State.OnlyTiles.onlyUnits (h : s.OnlyTiles t) : s.OnlyUnits t := by
  rw [State.OnlyTiles] at h
  rw [State.OnlyUnits, h]

theorem State.OnlyHost.onlyUnits (h : s.OnlyHost t) : s.OnlyUnits t := by
  rw [State.OnlyHost] at h
  rw [State.OnlyUnits, h]

theorem State.onlyUnits_tornFit (s : State) (o : PstOp) (g : Nat) : s.OnlyUnits (s.tornFit o g) := by
  rw [State.tornFit]
  split_ifs <;> rfl

theorem State.onlyUnits_pstAbort (s : State) : s.OnlyUnits s.pstAbort := by
  rw [State.pstAbort]
  split
  · rfl
  next o _ =>
    have hend : s.OnlyUnits { s with pstOp := none } := rfl
    have htear (u : State) (g : Nat) : u.OnlyUnits (u.tearGroup g) := rfl
    split
    · exact (hend.trans (State.OnlyUnits.foldl (fun u i => htear u _) _)).trans (State.onlyUnits_tornFit _ _ _)
    dsimp only
    split
    · exact hend
    · exact (hend.trans (htear _ _)).trans (State.onlyUnits_tornFit _ _ _)

theorem State.onlyUnits_clearMem (s : State) (lo hi : Nat) : s.OnlyUnits (s.clearMem lo hi) := rfl

theorem State.onlyUnits_clearRegs (s : State) (lo hi : Nat) : s.OnlyUnits (s.clearRegs lo hi) := rfl

theorem State.onlyUnits_clearUnits (s : State) (c : Nat) : s.OnlyUnits (s.clearUnits c) := by
  have htally : s.OnlyUnits (s.setTally c {}) := rfl
  have hmover (u : State) : u.OnlyUnits (u.setMover c {}) := rfl
  have hdfa (u : State) : u.OnlyUnits (u.setDfa c {}) := rfl
  exact ((htally.trans (hmover _)).trans (hdfa _)).trans (State.onlyUnits_clearRegs _ _ _)

theorem State.onlyUnits_clearLocal (s : State) (k : Nat) : s.OnlyUnits (s.clearLocal k) := rfl

theorem State.onlyUnits_clearCore (s : State) (k : Nat) : s.OnlyUnits (s.clearCore k) := rfl

theorem State.onlyUnits_setFresh (s : State) (c : Nat) (l : List Fresh) : s.OnlyUnits (s.setFresh c l) := rfl

theorem State.onlyUnits_loseCl (s : State) (c : Nat) : s.OnlyUnits (s.loseCl c) :=
  (((((s.onlyUnits_clearUnits c).trans (State.onlyUnits_clearMem _ _ _)).trans (State.onlyUnits_clearLocal _ c)).trans
    (State.onlyUnits_clearCore _ c)).trans (State.onlyUnits_setFresh _ c [])).trans (State.onlyHost_flrSettle _).onlyUnits

/-! ### RESET_N and the watchdog (R90, R99) -/

/-- What a reset makes of the units of the four clusters and of the tiles' calibration registers. -/
def State.resetUnits (s : State) : State :=
  (List.range 32).foldl (fun s t => s.clearRegs (0x01008000 + 0x10000 * t) (0x01010000 + 0x10000 * t))
    ((List.range 4).foldl State.loseCl s)

/-- What a reset makes of the links, the host's blocks, the sensors, SEC and NET. -/
def State.resetLinks (s : State) : State := s.loseLnk.loseWir.loseHst.loseSns.loseSec.loseNet

/-- What a reset makes of the class registers, the debug block, the watchdog, the Sorting Office and SV's data memory. -/
def State.resetSupervisor (s : State) : State :=
  let s1 := (s.clearRegs 0x050D0000 0x050D0004).clearRegs 0x050F0000 0x05100000
  let s2 := ((s1.setReg Reg.FLT_WDCFG (regReset Reg.FLT_WDCFG)).setFld F.FLT_WDCNT_COUNT 0).clearRegs 0x05020000 0x05030000
  s2.clearMem (dataAddr 4 0) (dataAddr 4 32768)

/-- What a reset makes of the state that stands in no register: cores, pulses, arrivals, mesh, boot loader. -/
def State.resetRest (s : State) : State :=
  { s with
    cores := [], pulses := [], arriving := [], sortRaw := [], sortHeld := [], swStart := [], mesh := {}, nextCtx := [], boot := {}
    trimSets := [], flrWaits := false, flrDue := [] }

theorem State.chipReset_eq (s : State) : s.chipReset =
    s.clearTiles.pstAbort.clearPower.clearClk.clearBoot.clearScratchpads.resetUnits.resetLinks.resetSupervisor.resetRest := by
  simp only [State.chipReset, State.resetUnits, State.resetLinks, State.resetSupervisor, State.resetRest]

/-- Nothing differs between `s` and `t` but registers, rows, tags, marks and fresh lists. -/
def State.OnlyScratch (s t : State) : Prop :=
  t = { s with regs := t.regs, mem := t.mem, tags := t.tags, marks := t.marks, fresh := t.fresh }

theorem State.OnlyScratch.refl (s : State) : s.OnlyScratch s := rfl

theorem State.OnlyScratch.trans (h : s.OnlyScratch t) (h' : t.OnlyScratch u) : s.OnlyScratch u := by
  rw [State.OnlyScratch] at h h' ⊢
  rw [h', h]

theorem State.OnlyScratch.setReg (h : s.OnlyScratch t) (a : Nat) (w : Word) : s.OnlyScratch (t.setReg a w) := h.trans rfl

theorem State.OnlyScratch.setFld (h : s.OnlyScratch t) (f : Fld) (v : Nat) : s.OnlyScratch (t.setFld f v) := h.setReg _ _

theorem State.OnlyScratch.clearRegs (h : s.OnlyScratch t) (lo hi : Nat) : s.OnlyScratch (t.clearRegs lo hi) := h.trans rfl

theorem State.onlyScratch_clearClk (s : State) : s.OnlyScratch s.clearClk :=
  (((((State.OnlyScratch.refl s).clearRegs _ _).setReg _ _).setFld _ _).setFld _ _).setFld _ _

theorem State.onlyScratch_clearBoot (s : State) : s.OnlyScratch s.clearBoot := by
  have hcleared := ((State.OnlyScratch.refl s).clearRegs 0x05040000 Reg.BOOT_UID0).setFld F.BOOT_TIME_US 0
  rw [State.clearBoot]
  split_ifs
  · exact hcleared.setFld _ _
  · exact hcleared

theorem State.onlyScratch_clearScratchpads (s : State) : s.OnlyScratch s.clearScratchpads := by
  have hrows (u : State) (c : Nat) : u.OnlyScratch (u.zeroRows c) := rfl
  have hfresh (u : State) (c : Nat) : u.OnlyScratch (u.setFresh c []) := rfl
  have hring (u : State) (c : Nat) : u.OnlyScratch (u.resetRing c) := ((hfresh u c).setFld _ _).setFld _ _
  exact List.foldlRecOn _ _ (.refl s) fun u hu c _ => hu.trans ((hrows u c).trans (hring _ c))

theorem State.onlyScratch_resetSupervisor (s : State) : s.OnlyScratch s.resetSupervisor := by
  have hregs := (((((State.OnlyScratch.refl s).clearRegs 0x050D0000 0x050D0004).clearRegs 0x050F0000 0x05100000).setReg
    Reg.FLT_WDCFG (regReset Reg.FLT_WDCFG)).setFld F.FLT_WDCNT_COUNT 0).clearRegs 0x05020000 0x05030000
  exact hregs.trans rfl

theorem State.onlyUnits_clearTiles (s : State) : s.OnlyUnits s.clearTiles :=
  State.OnlyUnits.foldl (fun u n => (u.onlyTiles_clearTile n).onlyUnits) s

theorem State.onlyUnits_resetUnits (s : State) : s.OnlyUnits s.resetUnits := by
  rw [State.resetUnits]
  exact (State.OnlyUnits.foldl State.onlyUnits_loseCl s).trans (.foldl (fun u _ => u.onlyUnits_clearRegs _ _) _)

/-- What such a reset keeps, from the clearing of the domains on. -/
structure State.Survives (s t : State) : Prop where
  weather : t.weather = s.weather
  zones : t.zones = s.zones
  rtc : t.rtc = s.rtc
  log : t.log = s.log
  fuses : t.fuses = s.fuses
  held : t.held = s.held

theorem State.Survives.trans (h : s.Survives t) (h' : t.Survives u) : s.Survives u :=
  ⟨h'.weather.trans h.weather, h'.zones.trans h.zones, h'.rtc.trans h.rtc, h'.log.trans h.log, h'.fuses.trans h.fuses,
    h'.held.trans h.held⟩

theorem State.OnlyUnits.survives (h : s.OnlyUnits t) : s.Survives t := by
  constructor <;> rw [h]

theorem State.OnlyScratch.survives (h : s.OnlyScratch t) : s.Survives t := by
  constructor <;> rw [h]

theorem State.survives_loseLnk (s : State) : s.Survives s.loseLnk := ⟨rfl, rfl, rfl, rfl, rfl, rfl⟩

theorem State.survives_loseWir (s : State) : s.Survives s.loseWir := ⟨rfl, rfl, rfl, rfl, rfl, rfl⟩

theorem State.survives_loseHst (s : State) : s.Survives s.loseHst := ⟨rfl, rfl, rfl, rfl, rfl, rfl⟩

theorem State.survives_loseSns (s : State) : s.Survives s.loseSns := ⟨rfl, rfl, rfl, rfl, rfl, rfl⟩

theorem State.survives_loseSec (s : State) : s.Survives s.loseSec := ⟨rfl, rfl, rfl, rfl, rfl, rfl⟩

theorem State.survives_loseNet (s : State) : s.Survives s.loseNet := ⟨rfl, rfl, rfl, rfl, rfl, rfl⟩

theorem State.survives_resetLinks (s : State) : s.Survives s.resetLinks :=
  (((((s.survives_loseLnk).trans (State.survives_loseWir _)).trans (State.survives_loseHst _)).trans
    (State.survives_loseSns _)).trans (State.survives_loseSec _)).trans (State.survives_loseNet _)

theorem State.survives_resetRest (s : State) : s.Survives s.resetRest := ⟨rfl, rfl, rfl, rfl, rfl, rfl⟩

theorem State.survives_chipReset (s : State) : s.clearTiles.pstAbort.clearPower.Survives s.chipReset := by
  rw [State.chipReset_eq]
  exact ((((((State.onlyScratch_clearClk _).survives.trans (State.onlyScratch_clearBoot _).survives).trans
    (State.onlyScratch_clearScratchpads _).survives).trans (State.onlyUnits_resetUnits _).survives).trans
    (State.survives_resetLinks _)).trans (State.onlyScratch_resetSupervisor _).survives).trans (State.survives_resetRest _)

theorem State.clearPower_keeps (s : State) : s.clearPower.weather = .run ∧ s.clearPower.zones = s.zones ∧
    s.clearPower.rtc = s.rtc ∧ s.clearPower.log = s.log ∧ s.clearPower.fuses = s.fuses ∧ s.clearPower.held = s.held :=
  ⟨rfl, rfl, rfl, rfl, rfl, rfl⟩

/-- The weather is RUN; the meter, the RTC, the fault log and the fuses survive. -/
theorem State.chipReset_survives (s : State) : s.chipReset.weather = .run ∧ s.chipReset.zones = s.zones ∧
    s.chipReset.rtc = s.rtc ∧ s.chipReset.log = s.log ∧ s.chipReset.fuses = s.fuses ∧ s.chipReset.held = s.held := by
  obtain ⟨-, hz, hr, hl, hf, hh⟩ := (s.onlyUnits_clearTiles.trans (State.onlyUnits_pstAbort _)).survives
  obtain ⟨hw', hz', hr', hl', hf', hh'⟩ := s.clearTiles.pstAbort.clearPower_keeps
  obtain ⟨hw'', hz'', hr'', hl'', hf'', hh''⟩ := s.survives_chipReset
  rw [hw'', hz'', hr'', hl'', hf'', hh'', hw', hz', hr', hl', hf', hh', hz, hr, hl, hf, hh]
  exact ⟨rfl, rfl, rfl, rfl, rfl, rfl⟩

/-! Registers. -/

theorem State.HoldsRegs.foldl {α : Type} {f : State → α → State} {l : List α} (h : s.HoldsRegs p t)
    (hf : ∀ (u : State), ∀ x ∈ l, u.HoldsRegs p (f u x)) : s.HoldsRegs p (l.foldl f t) :=
  List.foldlRecOn l f h fun u hu x hx => hu.trans (hf u x hx)

theorem State.holdsRegs_clearClk (s : State) : s.HoldsRegs keptAtReset s.clearClk := by
  have hstatus (u : State) (i w v : Nat) : u.HoldsRegs keptAtReset (u.setFld ⟨Reg.CLK_STATUS, i, w⟩ v) :=
    (State.HoldsRegs.refl u).setFld (by simp only [keptAtReset]; decide) v
  refine .trans ?_ ((hstatus _ _ _ _).trans ((hstatus _ _ _ _).trans (hstatus _ _ _ _)))
  rintro a (rfl | ha)
  · rw [State.reg_setReg_same]
  · rw [State.reg_setReg_ne _ _ _ _ (by dsimp only [Reg.CLK_RSTCAUSE]; omega), State.reg_clearRegs, if_neg (by omega)]

theorem State.holdsRegs_clearBoot (s : State) : s.HoldsRegs keptAtReset s.clearBoot := by
  have hcleared : s.HoldsRegs keptAtReset ((s.clearRegs 0x05040000 Reg.BOOT_UID0).setFld F.BOOT_TIME_US 0) :=
    ((State.HoldsRegs.refl s).clearRegs (by dsimp only [keptAtReset, Reg.BOOT_UID0]; omega)).setFld (by decide) 0
  rw [State.clearBoot]
  split_ifs
  · exact hcleared.setFld (by decide) 3
  · exact hcleared

theorem State.holdsRegs_clearScratchpads (s : State) : s.HoldsRegs keptAtReset s.clearScratchpads := by
  refine (State.HoldsRegs.refl s).foldl fun u c hc => ?_
  have hrows : u.HoldsRegs keptAtReset ((u.zeroRows c).setFresh c []) := .refl u
  have hring (b : Nat) (h1 : 0x05030000 ≤ b) (h2 : b < 0x05030120) : ¬ keptAtReset (b + 0x20 * c) := by
    have := List.mem_range.mp hc
    simp only [keptAtReset]
    omega
  exact (hrows.setFld (f := F.SEAL_RINGWP_WP c) (hring _ (by decide) (by decide)) 0).setFld (f := F.SEAL_RINGRP_RP c)
    (hring _ (by decide) (by decide)) 0

theorem State.holdsRegs_clearUnits (s : State) (hc : c < 4) : s.HoldsRegs keptAtReset (s.clearUnits c) := by
  have hunits : s.HoldsRegs keptAtReset (((s.setTally c {}).setMover c {}).setDfa c {}) := fun _ _ => rfl
  rw [State.clearUnits]
  exact hunits.clearRegs (by simp only [keptAtReset]; omega)

theorem State.holdsRegs_loseCl (s : State) (hc : c < 4) : s.HoldsRegs keptAtReset (s.loseCl c) := by
  have hmem (u : State) (lo hi : Nat) : u.HoldsRegs keptAtReset (u.clearMem lo hi) := fun _ _ => rfl
  have hlocal (u : State) : u.HoldsRegs keptAtReset (u.clearLocal c) := fun _ _ => rfl
  have hcore (u : State) : u.HoldsRegs keptAtReset (u.clearCore c) := fun _ _ => rfl
  have hfresh (u : State) : u.HoldsRegs keptAtReset (u.setFresh c []) := fun _ _ => rfl
  have hsettle (u : State) : u.HoldsRegs keptAtReset u.flrSettle :=
    (State.Spares.refl u).flrSettle.holds.mono keptByUnits_of_keptAtReset
  exact (((((s.holdsRegs_clearUnits hc).trans (hmem _ _ _)).trans (hlocal _)).trans (hcore _)).trans (hfresh _)).trans
    (hsettle _)

/-- The calibration registers of a tile, which a reset clears even where the tile is OFF. -/
theorem State.holdsRegs_clearCal (s : State) (n : Nat) :
    s.HoldsRegs keptAtReset (s.clearRegs (0x01008000 + 0x10000 * n) (0x01010000 + 0x10000 * n)) :=
  (State.HoldsRegs.refl s).clearRegs (by simp only [keptAtReset]; omega)

theorem State.holdsRegs_resetUnits (s : State) : s.HoldsRegs keptAtReset s.resetUnits := by
  have hcl : s.HoldsRegs keptAtReset ((List.range 4).foldl State.loseCl s) :=
    State.HoldsRegs.foldl (.refl s) fun u c hc => u.holdsRegs_loseCl (List.mem_range.mp hc)
  rw [State.resetUnits]
  generalize (List.range 4).foldl State.loseCl s = t at hcl
  exact State.HoldsRegs.foldl hcl fun u n _ => u.holdsRegs_clearCal n

theorem State.holdsRegs_loseNet (s : State) : s.HoldsRegs keptAtReset s.loseNet := by
  intro a ha
  have hout : (decide (0x06400000 ≤ a) && decide (a < 0x06410000) && !rndAon a) = false := by
    simp only [keptAtReset] at ha
    simp only [Bool.and_eq_false_iff, decide_eq_false_iff_not]
    omega
  rw [State.reg, State.loseNet, tabGet_tabClear, hout]
  rfl

theorem State.holdsRegs_resetLinks (s : State) : s.HoldsRegs keptAtReset s.resetLinks := by
  have cleared (u : State) (lo hi : Nat) (h : 0x05050014 ≤ lo) : u.HoldsRegs keptAtReset (u.clearRegs lo hi) :=
    (State.HoldsRegs.refl u).clearRegs (by simp only [keptAtReset]; omega)
  have hwir (u : State) : u.HoldsRegs keptAtReset u.loseWir :=
    (cleared { u with wir := {} } 0x050A0000 0x050B0000 (by decide)).setFld (by decide) 0
  have hhst (u : State) : u.HoldsRegs keptAtReset u.loseHst :=
    (cleared u 0x050B0000 0x050D0000 (by decide)).trans (cleared _ 0x08000000 0x08040000 (by decide))
  exact (((((cleared { s with lnk := {} } 0x05080000 0x050A0000 (by decide)).trans (hwir _)).trans (hhst _)).trans
    (cleared { s.loseLnk.loseWir.loseHst with sns := {} } 0x050D0004 0x050E0000 (by decide))).trans
    (cleared { s.loseLnk.loseWir.loseHst.loseSns with cip := {}, pstPages := [], pstOp := none } 0x05060000 0x05080000
      (by decide))).trans (State.holdsRegs_loseNet _)

theorem State.holdsRegs_resetSupervisor (s : State) : s.HoldsRegs keptAtReset s.resetSupervisor := by
  have hregs := (((((State.HoldsRegs.refl (p := keptAtReset) s).clearRegs (lo := 0x050D0000) (hi := 0x050D0004) (by omega)).clearRegs
    (lo := 0x050F0000) (hi := 0x05100000) (by omega)).setReg (a := Reg.FLT_WDCFG) (by decide) (regReset Reg.FLT_WDCFG)).setFld
    (f := F.FLT_WDCNT_COUNT) (by decide) 0).clearRegs (lo := 0x05020000) (hi := 0x05030000) (by omega)
  exact hregs

theorem State.holdsRegs_resetRest (s : State) : s.HoldsRegs p s.resetRest := fun _ _ => rfl

/-- The domains' registers and the reset causes, from the clearing of the domains on. -/
theorem State.holdsRegs_chipReset (s : State) :
    s.clearTiles.pstAbort.clearPower.HoldsRegs keptAtReset s.chipReset := by
  rw [State.chipReset_eq]
  exact ((((((State.holdsRegs_clearClk _).trans (State.holdsRegs_clearBoot _)).trans
    (State.holdsRegs_clearScratchpads _)).trans (State.holdsRegs_resetUnits _)).trans (State.holdsRegs_resetLinks _)).trans
    (State.holdsRegs_resetSupervisor _)).trans (State.holdsRegs_resetRest _)

end Sys2Proof.Machine
end

section
/-! The reset causes (R92). -/

namespace Sys2Proof.Machine

open Sys2Proof

variable {s t u : State} {p : Nat → Prop} {c n : Nat}

/-! ### Setting one bit -/

/-- Setting a one-bit field sets that bit. -/
theorem putBits_one (v i : Nat) : putBits v i 1 1 = v ||| 2 ^ i := by
  refine Nat.eq_of_testBit_eq fun j => ?_
  rw [Nat.testBit_or, Nat.testBit_two_pow, ← bitOf_eq_testBit]
  obtain rfl | hne := eq_or_ne i j
  · rw [← Nat.add_zero i, bitOf_putBits_in v (i + 0) 1 1 0 (by decide)]
    simp
  · rw [bitOf_putBits_out v i 1 1 j (by omega), bitOf_eq_testBit]
    simp [hne]

/-- Setting one bit of a field sets that bit of its register. -/
theorem putBits_bit (v : Nat) {lo w i : Nat} (h : i < w) :
    putBits v lo w (putBits (bitsOf v lo w) i 1 1) = v ||| 2 ^ (lo + i) := by
  refine Nat.eq_of_testBit_eq fun j => ?_
  rw [Nat.testBit_or, Nat.testBit_two_pow, ← bitOf_eq_testBit]
  by_cases hj : lo ≤ j ∧ j < lo + w
  · obtain ⟨k, rfl⟩ := Nat.exists_eq_add_of_le hj.1
    have hk : k < w := by omega
    rw [bitOf_putBits_in v lo w _ k hk, putBits_one, Nat.testBit_or, Nat.testBit_two_pow, testBit_bitsOf]
    simp [hk]
  · rw [bitOf_putBits_out v lo w _ j (by omega), bitOf_eq_testBit]
    have hne : lo + i ≠ j := by omega
    simp [hne]

theorem ofNat_toNat_or (w : Word) (n : Nat) : BitVec.ofNat 24 (w.toNat ||| n) = w ||| BitVec.ofNat 24 n := by
  rw [BitVec.ofNat_or, BitVec.ofNat_toNat, BitVec.setWidth_eq]

theorem State.reg_setFld_one (s : State) (a i : Nat) :
    (s.setFld ⟨a, i, 1⟩ 1).reg a = s.reg a ||| BitVec.ofNat 24 (2 ^ i) := by
  rw [State.setFld, State.reg_setReg_same, putBits_one, ofNat_toNat_or]

theorem State.reg_setFbit_true (s : State) (f : Fld) (h : n < f.w) :
    (s.setFbit f n true).reg f.addr = s.reg f.addr ||| BitVec.ofNat 24 (2 ^ (f.lo + n)) := by
  rw [State.setFbit, State.setFld, State.reg_setReg_same, State.fld, show b2n true = 1 from rfl, putBits_bit _ h, ofNat_toNat_or]

/-! ### What keeps the causes -/

/-- The reset causes of `t` are those of `s`. -/
abbrev State.SameCauses (s t : State) : Prop := s.HoldsRegs (· = Reg.CLK_RSTCAUSE) t

theorem State.HoldsRegs.sameCauses (h : s.HoldsRegs keptAtReset t) : s.SameCauses t := h.mono fun _ ha => .inl ha

theorem State.Spares.sameCauses (h : s.Spares keptByUnits t) : s.SameCauses t := h.holds.mono fun _ ha => .inl (.inl ha)

theorem State.pstAbort_regs (s : State) : s.pstAbort.regs = s.regs := by
  have htorn (u : State) (o : PstOp) (g : Nat) : (u.tornFit o g).regs = u.regs := by
    rw [State.tornFit]
    split_ifs <;> rfl
  rw [State.pstAbort]
  split
  · rfl
  split
  · rw [htorn]
    exact List.foldlRecOn (motive := fun u : State => u.regs = s.regs) _ _ rfl fun u hu _ _ => hu
  dsimp only
  split
  · rfl
  · rw [htorn]
    rfl

theorem State.spares_clearTiles (s : State) : s.Spares keptByUnits s.clearTiles :=
  (State.Spares.refl s).foldl fun u _ hn => (State.Spares.refl u).clearTile ((List.mem_range.mp hn).trans (by decide))

theorem State.sameCauses_clearPower (s : State) : s.SameCauses s.clearPower := by
  have hcleared : s.SameCauses { s.clearRegs 0x05000000 0x05010000 with
      weather := .run, waiting := [], target := [], wakeDue := [] } :=
    (State.HoldsRegs.refl s).clearRegs (by rintro _ rfl; decide)
  exact hcleared.setFld (f := F.PWR_STATUS_FROSTEXIT) (by decide) _

/-- RESET_N and the watchdog keep the causes already recorded. -/
theorem State.sameCauses_chipReset (s : State) : s.SameCauses s.chipReset := by
  have habort : s.clearTiles.SameCauses s.clearTiles.pstAbort := fun a _ => by rw [State.reg, State.pstAbort_regs, State.reg]
  exact ((s.spares_clearTiles.sameCauses.trans habort).trans (State.sameCauses_clearPower _)).trans
    (State.holdsRegs_chipReset s).sameCauses

/-- The recorded cause is the bit that the reset sets after all is cleared. -/
theorem State.SameCauses.reg_setFld_one (h : s.SameCauses t) (i : Nat) :
    (t.setFld ⟨Reg.CLK_RSTCAUSE, i, 1⟩ 1).reg Reg.CLK_RSTCAUSE = s.reg Reg.CLK_RSTCAUSE ||| BitVec.ofNat 24 (2 ^ i) := by
  rw [State.reg_setFld_one, h _ rfl]

theorem State.pinReset_eq (hp : s.held.por = false) (hw : s.weather ≠ .frost) :
    s.pinReset = { s.chipReset.setFld F.CLK_RSTCAUSE_PIN 1 with held := { s.held with pin := true } } :=
  if_neg (by simp [hp, hw])

theorem State.wdogReset_eq (hp : s.held.por = false) (hw : s.weather ≠ .frost) :
    s.wdogReset = { s.chipReset.setFld F.CLK_RSTCAUSE_WDOG 1 with held := { s.held with wdog := true } } :=
  if_neg (by simp [hp, hw])

/-- A part that RESET_N holds has no power-on reset, and its weather is RUN. -/
theorem State.pinReset_running (hp : s.held.por = false) (hw : s.weather ≠ .frost) :
    s.pinReset.held.por = false ∧ s.pinReset.weather = .run := by
  obtain ⟨hrun, -⟩ := s.chipReset_survives
  rw [State.pinReset_eq hp hw]
  generalize s.chipReset = t at hrun ⊢
  exact ⟨hp, hrun⟩

theorem State.reg_pinReset (hp : s.held.por = false) (hw : s.weather ≠ .frost) :
    s.pinReset.reg Reg.CLK_RSTCAUSE = s.reg Reg.CLK_RSTCAUSE ||| 2 := by
  have hsame := s.sameCauses_chipReset
  rw [State.pinReset_eq hp hw]
  generalize s.chipReset = t at hsame ⊢
  exact hsame.reg_setFld_one 1

theorem State.reg_wdogReset (hp : s.held.por = false) (hw : s.weather ≠ .frost) :
    s.wdogReset.reg Reg.CLK_RSTCAUSE = s.reg Reg.CLK_RSTCAUSE ||| 4 := by
  have hsame := s.sameCauses_chipReset
  rw [State.wdogReset_eq hp hw]
  generalize s.chipReset = t at hsame ⊢
  exact hsame.reg_setFld_one 2

/-! ### Cluster resets (R91) -/

theorem State.OnlyRegs.spares {but : List Nat} (h : s.OnlyRegs t but) (hbut : ∀ a ∈ but, ¬ p a) : s.Spares p t := by
  obtain ⟨heq, hregs⟩ := h
  have hold : s.HoldsRegs p t := fun a ha => hregs a fun hm => hbut a hm ha
  rw [heq] at hold ⊢
  exact ⟨rfl, rfl, rfl, rfl, hold⟩

theorem State.Spares.addrErrN (h : s.Spares keptByUnits t) (o : Option Nat) (a : Nat) (wr : Bool) :
    s.Spares keptByUnits (t.addrErrN o a wr) := by
  obtain ⟨u, honly, hu⟩ := t.addrErrN_only o a wr
  have hspares := h.trans (honly.spares (p := keptByUnits) (by decide))
  rcases hu with hu | hu
  · rwa [hu]
  · rw [hu]
    exact hspares

theorem State.Spares.writeWide (h : s.Spares p t) (c r : Nat) (bs : List Byte) (b : Bool) :
    s.Spares p (t.writeWide c r bs b) := h

theorem State.Spares.unitWrite (h : s.Spares keptByUnits t) (c r : Nat) (bs : List Byte) (b : Bool) :
    s.Spares keptByUnits (t.unitWrite c r bs b) := by
  rw [State.unitWrite, State.unitDark]
  exact .ite (h.writeWide c r bs b)
    (.ite h ((h.addrErrN none (rowAddr c r) true).setFld (f := F.PWR_STATUS_DARK) (by decide) 1))

theorem not_keptByUnits_ring {b : Nat} (h1 : 0x05030000 ≤ b) (h2 : b < 0x05030200) (hc : c < 4) :
    ¬ keptByUnits (b + 0x20 * c) :=
  not_keptByUnits_block (by omega) (by omega) (by omega)

theorem State.Spares.frankWrite (h : s.Spares keptByUnits t) (hc : c < 4) (bs : List Byte) :
    s.Spares keptByUnits (t.frankWrite c bs) := by
  rw [State.frankWrite]
  exact ((h.unitWrite _ _ _ _).setFld (f := F.SEAL_RINGWP_WP c) (not_keptByUnits_ring (by decide) (by decide) hc) _).fire _

theorem State.Spares.tallyReset (h : s.Spares keptByUnits t) (hc : c < 4) : s.Spares keptByUnits (t.tallyReset c) := by
  refine h.foldl fun u e _ => ?_
  split_ifs with he
  · have hwrites : u.Spares keptByUnits (u.tallyWrites c e).1 := by
      rw [State.tallyWrites, he.1]
      split
      · exact .refl u
      · exact (State.Spares.refl u).frankWrite hc _
    exact hwrites.tallyReport hc e _ _
  · exact (State.Spares.refl u).tallyReport hc e 2 false

theorem State.Spares.releaseLock (h : s.Spares keptByUnits t) : s.Spares keptByUnits t.releaseLock := by
  have hclear : s.Spares keptByUnits t.cipClear := by
    refine h.trans ⟨rfl, rfl, rfl, rfl, fun a ha => ?_⟩
    exact State.HoldsRegs.clearRegs (.refl t) (lo := Reg.CIP_IV 0) (hi := Reg.CIP_LBL 0)
      (by simp only [keptByUnits, keptAtReset, Reg.CIP_IV, Reg.CIP_LBL]; omega) a ha
  exact (hclear.setReg (a := Reg.CIP_MODE) (by decide) 0).setFld (f := F.CIP_LOCK_OWNER) (by decide) 0

theorem State.Spares.ownerGone (h : s.Spares keptByUnits t) (o : Nat) : s.Spares keptByUnits (t.ownerGone o) := by
  have hqueue : s.Spares keptByUnits { t with cip := { t.cip with queue := t.cip.queue.filter (· != o) } } := h
  rw [State.ownerGone]
  refine .ite ?_ hqueue
  rw [State.dropLock, if_neg (show ¬ false = true from Bool.false_ne_true)]
  exact .ite hqueue hqueue.releaseLock

theorem State.Spares.clearScratch (h : s.Spares keptByUnits t) (hc : c < 4) : s.Spares keptByUnits (t.clearScratch c) := by
  have hrows : s.Spares keptByUnits ((t.zeroRows c).setFresh c []) := h
  have hring := (hrows.setFld (f := F.SEAL_RINGWP_WP c) (not_keptByUnits_ring (by decide) (by decide) hc) 0).setFld
    (f := F.SEAL_RINGRP_RP c) (not_keptByUnits_ring (by decide) (by decide) hc) 0
  exact hring.incFld (f := F.SPD_CLRCNT_COUNT c) (not_keptByUnits_unit (by decide) (by decide) hc) 1

/-- REQ and PEND stand in the domain's register. -/
theorem State.sameCauses_setReq (s : State) {d : Nat} (hd : d < 26) (v : Nat) : s.SameCauses (s.setReq d v) := by
  have hdom : ¬ Reg.PWR_DOM d = Reg.CLK_RSTCAUSE := by
    dsimp only [Reg.PWR_DOM, Reg.CLK_RSTCAUSE]
    omega
  have hreq := (State.HoldsRegs.refl (p := (· = Reg.CLK_RSTCAUSE)) s).setFld (f := F.PWR_DOM_REQ d) hdom v
  rw [State.setReq]
  split_ifs
  · exact hreq
  · exact hreq.setFld (f := F.PWR_DOM_PEND d) hdom _

theorem State.sameCauses_resetCluster (s : State) (hc : c < 4) : s.SameCauses (s.resetCluster c) := by
  have hunits : s.Spares keptByUnits (((s.frontReset c).tallyReset c).moverAbort c fun _ => true) :=
    (((State.Spares.refl s).mapCmds _).tallyReset hc).moverAbort hc _
  rw [State.resetCluster]
  generalize ((s.frontReset c).tallyReset c).moverAbort c (fun _ => true) = s1 at hunits
  have hregs : s.Spares keptByUnits ((((s1.setTally c {}).setMover c {}).setDfa c { bad := (s1.dfa c).bad }).clearRegs
      (0x06010000 + 0x100000 * c) (0x06040000 + 0x100000 * c)) :=
    (((hunits.setTally c {}).setMover c {}).setDfa c _).clearRegs (by simp only [keptByUnits, keptAtReset]; omega)
  generalize (((s1.setTally c {}).setMover c {}).setDfa c { bad := (s1.dfa c).bad }).clearRegs
      (0x06010000 + 0x100000 * c) (0x06040000 + 0x100000 * c) = s2 at hregs
  have htiles : s.Spares keptByUnits ((List.range 8).foldl (fun s i => s.clearTile (8 * c + i)) s2) :=
    hregs.foldl fun u i hi => (State.Spares.refl u).clearTile (by have := List.mem_range.mp hi; omega)
  generalize (List.range 8).foldl (fun s i => s.clearTile (8 * c + i)) s2 = s3 at htiles
  have hcore : s.Spares keptByUnits ((s3.clearMem (dataAddr c 0) (dataAddr c 32768)).clearCore c) := htiles
  exact (((hcore.ownerGone (c + 1)).clearScratch hc).sameCauses).setFld (f := F.CLU_OWNER_CLEARING c)
    (by dsimp only [Reg.CLU_OWNER, Reg.CLK_RSTCAUSE]; omega) 1

/-! ### The function-level reset (R92, R463) -/

/-- What a function-level reset makes of the host's commands and blocks: the link stands, D3hot ends. -/
def State.hostLost (s : State) : State :=
  (s.abortHost.loseHst.setReg Reg.HST_LINK (s.reg Reg.HST_LINK)).setFld F.HST_LINK_D3 0

/-- The clusters of a context. -/
def State.owned (s : State) : List Nat := (List.range 4).filter fun c => s.ownerCtx c != 0

/-- What a function-level reset makes of owners: each cluster of a context is to go to context 0. -/
def State.handOver (s : State) : State := { s.owned.foldl (fun s c => s.writeOwner c 0) s with flrDue := s.owned }

/-- The function-level reset, from its record on. -/
def State.flrRecorded (s : State) : State := (s.hostLost.setFld F.CLK_RSTCAUSE_FLR 1).fire 62

theorem State.functionReset_eq (s : State) : s.functionReset =
    let u := s.flrRecorded.handOver
    let v := if u.hostBootOpen && u.recoveryAllowed then u.enterHostwait else u
    if s.flrRecorded.owned.isEmpty then v.hostEvent 5 else v := rfl

theorem State.spares_loseHst (s : State) : s.Spares keptByUnits s.loseHst := by
  have hblocks := ((State.HoldsRegs.refl (p := keptByUnits) s).clearRegs (lo := 0x050B0000) (hi := 0x050D0000)
    (by simp only [keptByUnits, keptAtReset]; omega)).clearRegs (lo := 0x08000000) (hi := 0x08040000)
    (by simp only [keptByUnits, keptAtReset]; omega)
  exact ⟨rfl, rfl, rfl, rfl, fun a ha => hblocks a ha⟩

theorem State.spares_hostLost (s : State) : s.Spares keptByUnits s.hostLost :=
  (((State.Spares.refl s).abortHost.trans (State.spares_loseHst _)).setReg (a := Reg.HST_LINK) (by decide) _).setFld
    (f := F.HST_LINK_D3) (by decide) 0

/-- No interrupt to the host is enabled in a block that has lost its registers. -/
theorem State.irqen_hostLost (s : State) : s.hostLost.reg Reg.HST_IRQEN = 0 := by
  have hcleared (u : State) : u.loseHst.reg Reg.HST_IRQEN = 0 := by
    have hhost : ((u.clearRegs 0x050B0000 0x050D0000).clearRegs 0x08000000 0x08040000).reg Reg.HST_IRQEN = 0 := by
      rw [State.reg_clearRegs, if_neg (by decide), State.reg_clearRegs, if_pos (by decide)]
      decide
    exact hhost
  rw [State.hostLost, State.setFld, State.reg_setReg_ne _ _ _ _ (by decide), State.reg_setReg_ne _ _ _ _ (by decide)]
  exact hcleared _

/-- CLK_RSTCAUSE and HST_IRQEN. -/
abbrev flrKept (a : Nat) : Prop := a = Reg.CLK_RSTCAUSE ∨ a = Reg.HST_IRQEN

/-- The host's queues and messages, the meter, the RTC, the reset causes and the enables are in `t` what they are in `s`. -/
structure State.KeepsHost (s t : State) : Prop where
  queues : t.queues = s.queues
  msix : t.msix = s.msix
  msixPend : t.msixPend = s.msixPend
  msixEnable : t.msixEnable = s.msixEnable
  flrDue : t.flrDue = s.flrDue
  zones : t.zones = s.zones
  rtc : t.rtc = s.rtc
  regs : s.HoldsRegs flrKept t

theorem State.KeepsHost.refl (s : State) : s.KeepsHost s := ⟨rfl, rfl, rfl, rfl, rfl, rfl, rfl, .refl s⟩

theorem State.KeepsHost.trans (h : s.KeepsHost t) (h' : t.KeepsHost u) : s.KeepsHost u :=
  ⟨h'.queues.trans h.queues, h'.msix.trans h.msix, h'.msixPend.trans h.msixPend, h'.msixEnable.trans h.msixEnable,
    h'.flrDue.trans h.flrDue, h'.zones.trans h.zones, h'.rtc.trans h.rtc, h.regs.trans h'.regs⟩

theorem State.KeepsHost.setFld (h : s.KeepsHost t) {f : Fld} (hf : ¬ flrKept f.addr) (v : Nat) : s.KeepsHost (t.setFld f v) :=
  h.trans ⟨rfl, rfl, rfl, rfl, rfl, rfl, rfl, (State.HoldsRegs.refl t).setFld hf v⟩

theorem State.KeepsHost.setNextCtx (h : s.KeepsHost t) (l : List (Nat × Nat)) : s.KeepsHost { t with nextCtx := l } :=
  h.trans ⟨rfl, rfl, rfl, rfl, rfl, rfl, rfl, fun _ _ => rfl⟩

theorem State.KeepsHost.setBoot (h : s.KeepsHost t) (b : BootSt) : s.KeepsHost { t with boot := b } :=
  h.trans ⟨rfl, rfl, rfl, rfl, rfl, rfl, rfl, fun _ _ => rfl⟩

theorem State.keepsHost_writeOwner (s : State) (hc : c < 4) (v : Nat) : s.KeepsHost (s.writeOwner c v) := by
  have hpend := (State.KeepsHost.refl s).setFld (f := F.CLU_OWNER_PEND c)
    (by dsimp only [flrKept, Reg.CLU_OWNER, Reg.CLK_RSTCAUSE, Reg.HST_IRQEN]; omega) 1
  rw [State.writeOwner]
  split
  · exact .refl s
  · exact hpend.setNextCtx _

theorem State.mem_owned (h : c ∈ s.owned) : c < 4 := List.mem_range.mp (List.mem_of_mem_filter h)

theorem State.keepsHost_handOver (s : State) : ({ s with flrDue := s.owned } : State).KeepsHost s.handOver := by
  have hfold : s.KeepsHost (s.owned.foldl (fun s c => s.writeOwner c 0) s) :=
    List.foldlRecOn (motive := s.KeepsHost) _ _ (.refl s) fun u hu c hc =>
      hu.trans (u.keepsHost_writeOwner (State.mem_owned hc) 0)
  obtain ⟨hq, hm, hp, he, -, hz, hr, hregs⟩ := hfold
  exact ⟨hq, hm, hp, he, rfl, hz, hr, fun a ha => hregs a ha⟩

theorem State.keepsHost_enterHostwait (s : State) : s.KeepsHost s.enterHostwait := by
  have hrows : s.KeepsHost ((s.zeroRows 0).setFresh 0 []) := ⟨rfl, rfl, rfl, rfl, rfl, rfl, rfl, fun _ _ => rfl⟩
  have hscratch : s.KeepsHost (s.clearScratch 0) :=
    ((hrows.setFld (f := F.SEAL_RINGWP_WP 0) (by decide) 0).setFld (f := F.SEAL_RINGRP_RP 0) (by decide) 0).setFld
      (f := F.SPD_CLRCNT_COUNT 0) (by decide) _
  have hboot := ((((hscratch.setFld (f := F.BOOT_HOSTLEN_LEN) (by decide) 0).setFld (f := F.BOOT_STATUS_STAGE) (by decide)
    7).setFld (f := F.BOOT_STATUS_HOLD) (by decide) 0).setFld (f := F.BOOT_STRAP_EFFSRC) (by decide) 2).setFld
    (f := F.BOOT_CMD_RETRY) (by decide) 0
  exact hboot.setBoot _

/-- An event that is not enabled sends no message. -/
theorem State.keepsHost_hostEvent (h : s.reg Reg.HST_IRQEN = 0) (i : Nat) : s.KeepsHost (s.hostEvent i) := by
  have hen : s.fbit F.HST_IRQEN_EN i = false := by
    rw [State.fbit, State.fld, h]
    simp [bitOf, bitsOf]
  rw [State.hostEvent, hen]
  split
  · exact .refl s
  · exact (State.KeepsHost.refl s).setFld (f := ⟨Reg.HST_IRQSTAT, 0, 6⟩) (by decide) _

/-- What is recorded and lost stands to the end of a function-level reset. -/
theorem State.keepsHost_functionReset (s : State) :
    ({ s.flrRecorded with flrDue := s.flrRecorded.owned } : State).KeepsHost s.functionReset := by
  have hirqen : s.flrRecorded.reg Reg.HST_IRQEN = 0 := by
    refine Eq.trans ?_ s.irqen_hostLost
    exact State.reg_setReg_ne _ _ _ _ (by decide)
  rw [State.functionReset_eq]
  generalize s.flrRecorded = r at hirqen ⊢
  have hhand := r.keepsHost_handOver
  have hwait : ({ r with flrDue := r.owned } : State).KeepsHost
      (if r.handOver.hostBootOpen && r.handOver.recoveryAllowed then r.handOver.enterHostwait else r.handOver) := by
    split
    · exact hhand.trans (State.keepsHost_enterHostwait _)
    · exact hhand
  dsimp only
  split
  · exact hwait.trans (State.keepsHost_hostEvent ((hwait.regs _ (.inr rfl)).trans hirqen) 5)
  · exact hwait

theorem State.reg_functionReset (s : State) :
    s.functionReset.reg Reg.CLK_RSTCAUSE = s.reg Reg.CLK_RSTCAUSE ||| 8 := by
  refine (s.keepsHost_functionReset.regs _ (.inl rfl)).trans ?_
  exact s.spares_hostLost.sameCauses.reg_setFld_one 3

/-! ### The causes of every reset -/

theorem State.takes_running {ini : Initiator} {a : Nat} (h : s.Takes ini a) : s.held.por = false ∧ s.weather ≠ .frost := by
  have hs := h.1
  simp only [State.stopped, Bool.or_eq_false_iff, beq_eq_false_iff_ne] at hs
  exact ⟨hs.1.1.1.1, hs.1.2⟩

theorem State.reg_wdExpire (hp : s.held.por = false) (hw : s.weather ≠ .frost) :
    s.wdExpire.reg Reg.CLK_RSTCAUSE = s.reg Reg.CLK_RSTCAUSE ||| 4 := by
  have hlogged := ((State.Spares.refl s).fault 0x01 (u := 63) (by decide)
    (if (s.core 4).sealedSt then 0 else (s.core 4).pc.toNat) false).incFld (f := F.FLT_WDCNT_RESETS) (by decide) 1
  obtain ⟨-, -, hheld, hweather, hregs⟩ := hlogged
  rw [State.wdExpire, State.reg_wdogReset (hheld ▸ hp) (hweather ▸ hw), hregs _ keptByUnits_rstcause]

/-- A request for one cluster asks for that one. -/
theorem State.writeClrst_two_pow (s : State) (hc : c < 4) : s.writeClrst (2 ^ c) = s.requestClReset c := by
  have hbits : (List.range 4).filter (bitOf (2 ^ c)) = [c] := by
    have : ∀ c < 4, (List.range 4).filter (bitOf (2 ^ c)) = [c] := by decide
    exact this c hc
  rw [State.writeClrst, hbits]
  rfl

theorem State.reg_requestClReset (hc : c < 4) (h : s.inClReset c = false) :
    (s.requestClReset c).reg Reg.CLK_RSTCAUSE = s.reg Reg.CLK_RSTCAUSE ||| BitVec.ofNat 24 (16 * 2 ^ c) := by
  have hrecord : (s.setFbit F.CLK_RSTCAUSE_CLRST c true).reg Reg.CLK_RSTCAUSE =
      s.reg Reg.CLK_RSTCAUSE ||| BitVec.ofNat 24 (16 * 2 ^ c) := by
    rw [show 16 * 2 ^ c = 2 ^ (4 + c) from (pow_add 2 4 c).symm]
    exact s.reg_setFbit_true F.CLK_RSTCAUSE_CLRST hc
  have hbusy : (s.setFbit F.CLK_RSTCAUSE_CLRST c true).SameCauses
      ((s.setFbit F.CLK_RSTCAUSE_CLRST c true).setFbit F.CLK_CLRST_BUSY c true) :=
    (State.HoldsRegs.refl _).setFld (f := F.CLK_CLRST_BUSY) (by decide) _
  rw [State.requestClReset, h, if_neg Bool.false_ne_true]
  dsimp only
  split_ifs
  · exact hrecord
  · exact ((hbusy.trans (State.sameCauses_setReq _ (by dsimp only [domCL]; omega) 2)) _ rfl).trans hrecord
  · exact ((hbusy.trans (State.sameCauses_resetCluster _ hc)) _ rfl).trans hrecord

theorem State.flr_runs (hs : s.stopped = false) (hon : s.domOn 5 = true) (hup : s.fld F.HST_LINK_UP = 1)
    (hst : s.fld F.BOOT_STATUS_STAGE < 3 ∨ 5 < s.fld F.BOOT_STATUS_STAGE) : s.flr = s.functionReset := by
  rw [State.flr, hs, hon, State.flag_of_one hup, if_neg (by decide), if_neg (by omega)]

theorem State.supplyLost_regs (s : State) : s.supplyLost.regs = [] := rfl

theorem State.reg_supplyLost (s : State) : s.supplyLost.reg Reg.CLK_RSTCAUSE = 1 := by
  rw [State.reg, State.supplyLost_regs]
  decide

theorem State.wdKick_other {v : Nat} (h : v ≠ 0x00A5C3) : s.wdKick v = s.wdExpire := if_neg h

/-- Settles O6: what each reset clears leaves CLK_RSTCAUSE as it is, and then its own bit is set. -/
theorem resetCauses : Obligations.ResetCauses := by
  unfold Obligations.ResetCauses
  refine ⟨fun s => ⟨_, rfl, s.reg_supplyLost⟩, fun s hp hw => ⟨_, rfl, State.reg_pinReset hp hw⟩, ?wdog, ?flr, ?cluster, ?both⟩
  case wdog =>
    intro s v ht hv
    obtain ⟨hp, hw⟩ := State.takes_running ht
    have hkick : v.toNat ≠ 0x00A5C3 := fun h => hv (BitVec.eq_of_toNat_eq h)
    refine ⟨s.wdExpire, ?_, State.reg_wdExpire hp hw⟩
    rw [← State.wdKick_other hkick]
    exact congrArg ok (State.cmdWrite_takes _ _ _ _ ht)
  case flr =>
    intro s hs hon hup hst
    exact ⟨_, congrArg ok (State.flr_runs hs hon hup hst), s.reg_functionReset⟩
  case cluster =>
    intro s c req ht hreq hb
    refine ⟨s.requestClReset c, ?_, State.reg_requestClReset c.isLt hb⟩
    rw [← s.writeClrst_two_pow c.isLt, ← hreq]
    exact congrArg ok (State.cmdWrite_takes _ _ _ _ ht)
  case both =>
    intro s hp hw
    obtain ⟨hheld, hweather⟩ := State.pinReset_running hp hw
    rw [State.reg_wdogReset hheld (by simp [hweather]), State.reg_pinReset hp hw, BitVec.or_assoc]
    rfl

end Sys2Proof.Machine
end

section
/-! What the resets of the part clear, keep and record (R89, R91, R92, R100, R123, R463). -/

namespace Sys2Proof.Machine

open Sys2Proof

variable {s t u : State} {c n : Nat}

/-! ### The supply's return -/

/-- The cut of the supply tears what is being written and leaves deliveries pending and fuses alone. -/
theorem State.supplyLost_keeps (s : State) : s.supplyLost.pending = s.pending ∧ s.supplyLost.fuses = s.fuses := by
  have hcut : s.OnlyUnits s.pstAbort.supplyCut :=
    s.onlyUnits_pstAbort.trans (State.OnlyUnits.foldl (fun u n => (u.onlyTiles_cutStep n).onlyUnits) _)
  rw [State.supplyLost, State.powerOn]
  generalize s.pstAbort.supplyCut = t at hcut ⊢
  rw [State.OnlyUnits] at hcut
  rw [hcut]
  exact ⟨rfl, rfl⟩

/-! ### A held part -/

theorem State.dom_clearPower (s : State) (h : n < 26) : s.clearPower.dom n = if n < 2 then 2 else 0 := by
  have hreg : s.clearPower.reg (Reg.PWR_DOM n) = regReset (Reg.PWR_DOM n) := by
    have hcleared : (s.clearRegs 0x05000000 0x05010000).reg (Reg.PWR_DOM n) = regReset (Reg.PWR_DOM n) := by
      rw [State.reg_clearRegs, if_pos (by dsimp only [Reg.PWR_DOM]; omega)]
    rw [← hcleared]
    exact State.reg_setReg_ne _ _ _ _ (by dsimp only [Reg.PWR_DOM, Reg.PWR_STATUS]; omega)
  rw [← State.dom_reset h, State.dom, State.fld, hreg]
  rfl

theorem State.dom_chipReset (s : State) (h : n < 26) : s.chipReset.dom n = if n < 2 then 2 else 0 := by
  rw [← State.dom_clearPower s.clearTiles.pstAbort h]
  exact s.holdsRegs_chipReset.fld (f := F.PWR_DOM_ACT n) (by simp only [keptAtReset, Reg.PWR_DOM]; omega)

theorem State.queues_resetLinks (s : State) : s.resetLinks.queues = [] := rfl

theorem State.OnlyScratch.queues (h : s.OnlyScratch t) : t.queues = s.queues := by rw [h]

/-- No core has begun, and no command is left. -/
theorem State.chipReset_empty (s : State) : s.chipReset.cores = [] ∧ s.chipReset.queues = [] := by
  rw [State.chipReset_eq]
  generalize s.clearTiles.pstAbort.clearPower.clearClk.clearBoot.clearScratchpads.resetUnits = r
  have hqueues := (State.onlyScratch_resetSupervisor r.resetLinks).queues
  exact ⟨rfl, hqueues.trans r.queues_resetLinks⟩

theorem State.freshOf_setFresh (s : State) (c n : Nat) (l : List Fresh) :
    (s.setFresh n l).freshOf c = if c = n then l else s.freshOf c := tabGet_tabSet (fun _ => []) s.fresh n c l

/-- The fresh list of SPc is empty and its rows are open. -/
def State.CleanSP (c : Nat) (s : State) : Prop := s.freshOf c = [] ∧ ∀ r : Nat, r < 4096 → s.tag c r = false

theorem State.CleanSP.of_eq (h : s.CleanSP c) (hf : t.fresh = s.fresh) (ht : t.tags = s.tags) : t.CleanSP c := by
  rw [State.CleanSP, State.freshOf, hf]
  simp only [State.tag, ht]
  exact h

theorem State.CleanSP.setFresh_nil (h : s.CleanSP c) (n : Nat) : (s.setFresh n []).CleanSP c := by
  obtain ⟨hfresh, htag⟩ := h
  refine ⟨?_, htag⟩
  rw [State.freshOf_setFresh]
  split
  · rfl
  · exact hfresh

/-- What a reset makes of SPn. -/
def State.wipe (s : State) (n : Nat) : State := (s.zeroRows n).resetRing n

theorem State.clearScratchpads_eq (s : State) : s.clearScratchpads = (List.range 4).foldl State.wipe s := rfl

theorem State.tag_wipe (s : State) (n r : Nat) : (s.wipe n).tag c r = (s.tag c r && !(rowKey c r / 4096 == n)) := by
  have htag : (s.wipe n).tag c r = tabGet (fun _ => false) (tabClear (fun k => k / 4096 == n) s.tags) (rowKey c r) := rfl
  rw [htag, tabGet_tabClear]
  cases h : rowKey c r / 4096 == n <;> simp [State.tag]

theorem State.freshOf_wipe (s : State) (n : Nat) : (s.wipe n).freshOf c = if c = n then [] else s.freshOf c :=
  (s.zeroRows n).freshOf_setFresh c n []

theorem State.CleanSP.wipe (h : s.CleanSP c) (n : Nat) : (s.wipe n).CleanSP c := by
  obtain ⟨hfresh, htag⟩ := h
  refine ⟨?_, fun r hr => by rw [State.tag_wipe, htag r hr, Bool.false_and]⟩
  rw [State.freshOf_wipe, hfresh, ite_self]

theorem State.cleanSP_wipe (s : State) (c : Nat) : (s.wipe c).CleanSP c := by
  refine ⟨by rw [State.freshOf_wipe, if_pos rfl], fun r hr => ?_⟩
  have hkey : rowKey c r / 4096 = c := by
    rw [rowKey]
    omega
  rw [State.tag_wipe, hkey]
  simp

theorem State.cleanSP_clearScratchpads (s : State) (hc : c < 4) : s.clearScratchpads.CleanSP c := by
  have hfold (l : List Nat) (u : State) (h : c ∈ l ∨ u.CleanSP c) : (l.foldl State.wipe u).CleanSP c := by
    induction l generalizing u with
    | nil => exact h.resolve_left (List.not_mem_nil)
    | cons n l ih =>
      refine ih _ ?_
      rcases h with h | h
      · rcases List.mem_cons.mp h with rfl | h
        · exact .inr (u.cleanSP_wipe _)
        · exact .inl h
      · exact .inr (h.wipe n)
  rw [State.clearScratchpads_eq]
  exact hfold _ s (.inl (List.mem_range.mpr hc))

theorem State.OnlyHost.cleanSP (h : s.OnlyHost t) (hs : s.CleanSP c) : t.CleanSP c := by
  rw [State.OnlyHost] at h
  exact hs.of_eq (by rw [h]) (by rw [h])

theorem State.CleanSP.loseCl (h : s.CleanSP c) (n : Nat) : (s.loseCl n).CleanSP c := by
  have hunits : (s.clearUnits n).CleanSP c := h
  have hmem (u : State) (lo hi : Nat) (hu : u.CleanSP c) : (u.clearMem lo hi).CleanSP c := hu
  have hlocal (u : State) (hu : u.CleanSP c) : (u.clearLocal n).CleanSP c := hu
  have hcore (u : State) (hu : u.CleanSP c) : (u.clearCore n).CleanSP c := hu
  exact (State.onlyHost_flrSettle _).cleanSP ((hcore _ (hlocal _ (hmem _ _ _ hunits))).setFresh_nil n)

theorem State.CleanSP.resetUnits (h : s.CleanSP c) : s.resetUnits.CleanSP c := by
  have hcl : ((List.range 4).foldl State.loseCl s).CleanSP c := List.foldlRecOn _ _ h fun u hu n _ => hu.loseCl n
  have hregs (u : State) (lo hi : Nat) (hu : u.CleanSP c) : (u.clearRegs lo hi).CleanSP c := hu
  rw [State.resetUnits]
  exact List.foldlRecOn _ _ hcl fun u hu n _ => hregs u _ _ hu

theorem State.CleanSP.resetLinks (h : s.CleanSP c) : s.resetLinks.CleanSP c := by
  have hlnk : s.loseLnk.CleanSP c := h
  have hwir : s.loseLnk.loseWir.CleanSP c := hlnk
  have hhst (u : State) (hu : u.CleanSP c) : u.loseHst.CleanSP c := hu
  have hsns (u : State) (hu : u.CleanSP c) : u.loseSns.CleanSP c := hu
  have hsec (u : State) (hu : u.CleanSP c) : u.loseSec.CleanSP c := hu
  have hnet (u : State) (hu : u.CleanSP c) : u.loseNet.CleanSP c := hu
  exact hnet _ (hsec _ (hsns _ (hhst _ hwir)))

theorem State.CleanSP.resetSupervisor (h : s.CleanSP c) : s.resetSupervisor.CleanSP c := h.of_eq rfl rfl

theorem State.CleanSP.resetRest (h : s.CleanSP c) : s.resetRest.CleanSP c := h.of_eq rfl rfl

theorem State.cleanSP_chipReset (s : State) (hc : c < 4) : s.chipReset.CleanSP c := by
  rw [State.chipReset_eq]
  exact (State.cleanSP_clearScratchpads _ hc).resetUnits.resetLinks.resetSupervisor.resetRest

/-! ### A cluster in reset -/

/-- What a cluster reset makes of the cluster's sequencers, its data memory and its core's hold on the CIP. -/
def State.resetSequencers (s : State) (c : Nat) : State :=
  ((((List.range 8).foldl (fun s i => s.clearTile (8 * c + i)) s).clearMem (dataAddr c 0) (dataAddr c 32768)).clearCore
    c).ownerGone (c + 1)

/-- What it makes of the cluster's units, their reports made. -/
def State.unitsAtRest (s : State) (c : Nat) : State :=
  (((s.setTally c {}).setMover c {}).setDfa c { bad := (s.dfa c).bad }).clearRegs (0x06010000 + 0x100000 * c)
    (0x06040000 + 0x100000 * c)

theorem State.resetCluster_eq (s : State) (c : Nat) : s.resetCluster c =
    (((((s.frontReset c).tallyReset c).moverAbort c fun _ => true).unitsAtRest c).resetSequencers c).beginClearing c := rfl

/-- Tallies and Movers of `t` are those of `s`. -/
def State.SameUnits (s t : State) : Prop := t.tallies = s.tallies ∧ t.movers = s.movers

theorem State.SameUnits.trans (h : s.SameUnits t) (h' : t.SameUnits u) : s.SameUnits u :=
  ⟨h'.1.trans h.1, h'.2.trans h.2⟩

theorem State.OnlyTiles.sameUnits (h : s.OnlyTiles t) : s.SameUnits t := by
  rw [State.OnlyTiles] at h
  rw [State.SameUnits, h]
  exact ⟨rfl, rfl⟩

theorem State.sameUnits_ownerGone (s : State) (o : Nat) : s.SameUnits (s.ownerGone o) := by
  rw [State.ownerGone]
  dsimp only
  split
  · rw [State.dropLock, if_neg (show ¬ false = true from Bool.false_ne_true)]
    split
    · exact ⟨rfl, rfl⟩
    · exact ⟨rfl, rfl⟩
  · exact ⟨rfl, rfl⟩

theorem State.sameUnits_resetSequencers (s : State) (c : Nat) : s.SameUnits (s.resetSequencers c) := by
  have htiles : s.SameUnits ((List.range 8).foldl (fun s i => s.clearTile (8 * c + i)) s) :=
    (State.OnlyTiles.foldl (fun u i => u.onlyTiles_clearTile (8 * c + i)) s).sameUnits
  have hmem (u : State) : u.SameUnits (u.clearMem (dataAddr c 0) (dataAddr c 32768)) := ⟨rfl, rfl⟩
  have hcore (u : State) : u.SameUnits (u.clearCore c) := ⟨rfl, rfl⟩
  exact ((htiles.trans (hmem _)).trans (hcore _)).trans (State.sameUnits_ownerGone _ _)

theorem State.SameUnits.setFld (h : s.SameUnits t) (f : Fld) (v : Nat) : s.SameUnits (t.setFld f v) := h.trans ⟨rfl, rfl⟩

theorem State.sameUnits_beginClearing (s : State) (c : Nat) : s.SameUnits (s.beginClearing c) := by
  have hrows : s.SameUnits ((s.zeroRows c).setFresh c []) := ⟨rfl, rfl⟩
  exact (((hrows.setFld (F.SEAL_RINGWP_WP c) 0).setFld (F.SEAL_RINGRP_RP c) 0).setFld (F.SPD_CLRCNT_COUNT c) _).setFld
    (F.CLU_OWNER_CLEARING c) 1

theorem State.unitsAtRest_units (s : State) (c : Nat) :
    (s.unitsAtRest c).tally c = {} ∧ (s.unitsAtRest c).mover c = {} :=
  ⟨s.tally_setTally_same c {}, (s.setTally c {}).mover_setMover_same c {}⟩

theorem State.resetCluster_units (s : State) (c : Nat) :
    (s.resetCluster c).tally c = {} ∧ (s.resetCluster c).mover c = {} := by
  rw [State.resetCluster_eq]
  generalize ((s.frontReset c).tallyReset c).moverAbort c (fun _ => true) = r
  obtain ⟨ht, hm⟩ := (State.sameUnits_resetSequencers (r.unitsAtRest c) c).trans (State.sameUnits_beginClearing _ c)
  simp only [State.tally, State.mover, ht, hm]
  exact r.unitsAtRest_units c

/-- A clearing that begins shows, and every byte of the scratchpad is zero. -/
theorem State.beginClearing_clears (s : State) {a : Nat} (h : c * 0x200000 ≤ a ∧ a < (c + 1) * 0x200000) :
    (s.beginClearing c).byte a = 0 ∧ (s.beginClearing c).clearing c = true := by
  have hbyte : (s.beginClearing c).byte a = (s.zeroRows c).byte a := by
    rw [State.beginClearing, State.clearScratch, State.resetRing, State.incFld]
    simp only [State.byte_setFld]
    rfl
  refine ⟨?_, ?_⟩
  · rw [hbyte, State.byte, State.zeroRows, tabGet_tabClear]
    simp [h, memReset]
  · rw [State.clearing, State.flag, State.beginClearing, State.fld_setFld _ _ _ (show 13 + 1 ≤ 24 by decide)]
    rfl

/-! ### What the commands do -/

theorem State.clusterReset_on (h : s.inClReset c = false) (hd : s.dom (domCL c) = 2) : s.requestClReset c =
    ((s.setFbit F.CLK_RSTCAUSE_CLRST c true).setFbit F.CLK_CLRST_BUSY c true).resetCluster c := by
  rw [State.requestClReset, h, if_neg Bool.false_ne_true, hd]
  rfl

theorem State.clusterReset_off (h : s.inClReset c = false) (hd : s.dom (domCL c) = 0) :
    s.requestClReset c = s.setFbit F.CLK_RSTCAUSE_CLRST c true := by
  rw [State.requestClReset, h, if_neg Bool.false_ne_true, hd]
  rfl

theorem State.flr_waits (hs : s.stopped = false) (hon : s.domOn 5 = true) (hup : s.fld F.HST_LINK_UP = 1)
    (hlo : 3 ≤ s.fld F.BOOT_STATUS_STAGE) (hhi : s.fld F.BOOT_STATUS_STAGE ≤ 5) : s.flr = { s with flrWaits := true } := by
  rw [State.flr, hs, hon, State.flag_of_one hup, if_neg (by decide), if_pos ⟨hlo, hhi⟩]

theorem State.hostLost_empty (s : State) : s.hostLost.queues = [] ∧ s.hostLost.msix = [] ∧ s.hostLost.msixPend = [] ∧
    s.hostLost.msixEnable = false := by
  rw [State.hostLost]
  generalize s.abortHost = r
  exact ⟨rfl, rfl, rfl, rfl⟩

/-- The reset of the host's commands moves no owner. -/
theorem State.owned_flrRecorded (s : State) : s.flrRecorded.owned = s.owned := by
  refine List.filter_congr fun c hc => ?_
  have hrecorded : s.Spares keptByUnits s.hostLost := s.spares_hostLost
  have howner : s.flrRecorded.reg (Reg.CLU_OWNER c) = s.reg (Reg.CLU_OWNER c) := by
    refine Eq.trans ?_ (hrecorded.holds _ (keptByUnits_owner (List.mem_range.mp hc)))
    exact State.reg_setReg_ne _ _ _ _ (by dsimp only [Reg.CLU_OWNER, Reg.CLK_RSTCAUSE]; omega)
  simp only [State.ownerCtx, State.fld, howner]

theorem State.functionReset_leaves (s : State) :
    s.functionReset.queues = [] ∧ s.functionReset.msix = [] ∧ s.functionReset.msixPend = [] ∧
    s.functionReset.msixEnable = false ∧ s.functionReset.fld F.CLK_RSTCAUSE_FLR = 1 ∧ s.functionReset.flrDue = s.owned ∧
    s.functionReset.zones = s.zones ∧ s.functionReset.rtc = s.rtc := by
  obtain ⟨hq, hm, hp, he, hdue, hz, hr, hregs⟩ := s.keepsHost_functionReset
  obtain ⟨hq', hm', hp', he'⟩ := s.hostLost_empty
  obtain ⟨hz', hr', -⟩ := s.spares_hostLost
  have hflr : s.flrRecorded.fld F.CLK_RSTCAUSE_FLR = 1 := s.hostLost.fld_setFld F.CLK_RSTCAUSE_FLR 1 (by decide)
  refine ⟨hq.trans hq', hm.trans hm', hp.trans hp', he.trans he', ?_, hdue.trans s.owned_flrRecorded, hz.trans hz', hr.trans hr'⟩
  exact (hregs.fld (f := F.CLK_RSTCAUSE_FLR) (.inl rfl)).trans hflr

/-- What a long pulse of RESET_N clears, keeps and records. -/
theorem State.pinReset_leaves (hp : s.held.por = false) (hw : s.weather ≠ .frost) :
    s.pinReset.held = { s.held with pin := true } ∧ s.pinReset.fld F.CLK_RSTCAUSE_PIN = 1 ∧
    (∀ c : Nat, c < 4 → s.pinReset.freshOf c = [] ∧ ∀ r : Nat, r < 4096 → s.pinReset.tag c r = false) ∧
    (∀ d : Nat, d < 26 → s.pinReset.dom d = if d < 2 then 2 else 0) ∧ s.pinReset.cores = [] ∧ s.pinReset.queues = [] ∧
    s.pinReset.zones = s.zones ∧ s.pinReset.rtc = s.rtc ∧ s.pinReset.log = s.log ∧ s.pinReset.fuses = s.fuses ∧
    s.pinReset.weather = .run := by
  have hdom (d : Nat) (hd : d < 26) := s.dom_chipReset hd
  have hclean (c : Nat) (hc : c < 4) := s.cleanSP_chipReset hc
  obtain ⟨hcores, hqueues⟩ := s.chipReset_empty
  obtain ⟨hrun, hz, hr, hl, hf, -⟩ := s.chipReset_survives
  rw [State.pinReset_eq hp hw]
  generalize s.chipReset = t at hdom hclean hcores hqueues hrun hz hr hl hf ⊢
  refine ⟨rfl, t.fld_setFld F.CLK_RSTCAUSE_PIN 1 (by decide), fun c hc => hclean c hc, fun d hd => ?_, hcores, hqueues, hz, hr,
    hl, hf, hrun⟩
  refine Eq.trans ?_ (hdom d hd)
  exact t.fld_setFld_addr F.CLK_RSTCAUSE_PIN (F.PWR_DOM_ACT d) 1 (by dsimp only [Reg.PWR_DOM, Reg.CLK_RSTCAUSE]; omega)

/-- Settles O13: each command is its function of the model in the case its hypotheses describe, and what that function
clears and keeps is said above. -/
theorem resetCommands : Obligations.ResetCommands := by
  unfold Obligations.ResetCommands
  refine ⟨?por, fun s hp hw => ⟨_, rfl, State.pinReset_leaves hp hw⟩, fun s => rfl, fun s => rfl, ?release, ?on, ?off, ?cluster,
    fun s hs hon hup hst => ⟨_, congrArg ok (State.flr_runs hs hon hup hst), s.functionReset_leaves⟩,
    fun s hs hon hup hlo hhi => congrArg ok (State.flr_waits hs hon hup hlo hhi)⟩
  case por =>
    intro s
    obtain ⟨hpending, hfuses⟩ := s.supplyLost_keeps
    refine ⟨s.supplyLost, rfl, fun a _ => ?_, rfl, rfl, rfl, rfl, rfl, rfl, rfl, rfl, rfl, rfl, rfl, hpending, hfuses⟩
    rw [State.reg, State.supplyLost_regs]
    rfl
  case release =>
    intro s bootsel hostsel h
    have hheld : (s.held.por || s.held.pin || s.held.wdog) = true := by simpa [or_assoc] using h
    exact congrArg ok (if_pos hheld)
  case on =>
    intro s ini c req ht hreq hb hd
    rw [← State.clusterReset_on hb hd, ← s.writeClrst_two_pow c.isLt, ← hreq]
    exact congrArg ok (State.cmdWrite_takes _ _ _ _ ht)
  case off =>
    intro s ini c req ht hreq hb hd
    rw [← State.clusterReset_off hb hd, ← s.writeClrst_two_pow c.isLt, ← hreq]
    exact congrArg ok (State.cmdWrite_takes _ _ _ _ ht)
  case cluster =>
    intro s c a ha
    obtain ⟨htally, hmover⟩ := s.resetCluster_units c
    have hcleared (r : State) := r.beginClearing_clears ha
    refine ⟨?_, htally, hmover, ?_⟩
    · rw [State.resetCluster_eq]
      exact (hcleared _).1
    · rw [State.resetCluster_eq]
      exact (hcleared _).2

end Sys2Proof.Machine
end

section
/-! Loads, stores and their acceptance (R97, R98, R330, R331, R42). -/

namespace Sys2Proof.Machine

open Sys2Proof

variable {s : State} {k : Fin 5} {rd rs1 : Fin 16} {imm : BitVec 10} {r : Reach} {c : CoreSt} {wa : Nat}

/-! ### Windows (R97, R98, Table CLK-9) -/

/-- The base that a window's register gives. -/
def windowBase (w : Word) : Nat := w.toNat / 4 % 2 ^ 20 * 0x1000

theorem CoreSt.reach_own (h : wa < 2 ^ 20) : c.reach wa = if wa < 32768 then some (.own wa) else none := by
  have hdiv : wa / 0x100000 = 0 := Nat.div_eq_of_lt h
  have hmod : wa % 0x100000 = wa := Nat.mod_eq_of_lt h
  simp only [CoreSt.reach, hdiv, hmod, if_true]

/-- Where an address of a window other than the first leads, by the window's mode. -/
def windowReach (w : Word) (i : Nat) : Nat → Option Reach
  | 0 => none
  | 1 => some (.unit ((windowBase w + 4 * i) % 2 ^ 32) 4)
  | 2 => if windowBase w < 0x800000 then some (.unit (windowBase w + i / 128 * 512 + 3 * (i % 128)) 3) else none
  | _ => some (.unit ((windowBase w + 3 * i) % 2 ^ 32) 3)

theorem CoreSt.reach_window (h : 2 ^ 20 ≤ wa) : c.reach wa =
    windowReach (c.csrOf (0x020 + wa / 2 ^ 20)) (wa % 2 ^ 20) ((c.csrOf (0x020 + wa / 2 ^ 20)).toNat % 4) := by
  have hdiv : ¬ wa / 0x100000 = 0 := by omega
  have hmode (v : Nat) : bitsOf v 0 2 = v % 4 := by simp [bitsOf]
  rw [CoreSt.reach, if_neg hdiv, hmode]
  rfl

/-! ### Loads and stores -/

theorem exec_ld (h : (s.core k).reach ((s.core k).wordAddr rs1 imm) = some r) : exec (.ld k rd rs1 imm) s =
    ok (if s.coreRuns k then if (s.core k).stores.isEmpty then s.load k rd r else s else s) := by
  change ok _ = _
  simp only [h]

theorem becomes_ld (hr : s.coreRuns k = true) (hs : (s.core k).stores = [])
    (h : (s.core k).reach ((s.core k).wordAddr rs1 imm) = some r) : Becomes (.ld k rd rs1 imm) s (s.load k rd r) := by
  rw [Becomes, exec_ld h, hr, hs]
  rfl

/-- What a store leaves in the buffer. -/
def CoreSt.storeOf (c : CoreSt) (rd : Nat) : Reach → Store
  | .own i => { own := true, addr := i, width := 3, v := c.reg rd, sealedSt := c.sealedSt }
  | .unit a width => { own := false, addr := a, width := width, v := c.reg rd, sealedSt := c.sealedSt }

theorem exec_st (h : (s.core k).reach ((s.core k).wordAddr rs1 imm) = some r) : exec (.st k rd rs1 imm) s =
    ok (if s.coreRuns k then if 4 ≤ (s.core k).stores.length then s else
      s.setCore k { s.core k with stores := (s.core k).stores ++ [(s.core k).storeOf rd r] }.next.retired else s) := by
  change ok _ = _
  cases r <;> simp only [h] <;> rfl

/-- A store is what its address, its width, its register and the core's state make it. -/
theorem CoreSt.storeOf_eq {rd : Nat} {st : Store} (hw : st.own = true → st.width = 3) (hv : st.v = c.reg rd)
    (hs : st.sealedSt = c.sealedSt) : c.storeOf rd (if st.own then .own st.addr else .unit st.addr st.width) = st := by
  obtain ⟨own, addr, width, v, sealedSt⟩ := st
  obtain rfl : v = c.reg rd := hv
  obtain rfl : sealedSt = c.sealedSt := hs
  cases own with
  | true =>
    obtain rfl : width = 3 := hw rfl
    rfl
  | false => rfl

theorem becomes_window (hr : s.coreRuns k = true) (h : (s.core k).reach ((s.core k).wordAddr rs1 imm) = none) :
    Becomes (.ld k rd rs1 imm) s (s.raise k 2 ((s.core k).wordAddr rs1 imm)) ∧
    Becomes (.st k rd rs1 imm) s (s.raise k 2 ((s.core k).wordAddr rs1 imm)) := by
  constructor
  · change ok _ = _
    simp only [h, hr, if_true]
  · change ok _ = _
    simp only [h, hr, if_true]

/-! ### Acceptance (R331) -/

theorem State.storeAccept_performed {t : State} {st : Store} {rest : List Store} (hs : s.stopped = false)
    (hon : s.domOn (coreDom k) = true) (hst : (s.core k).stores = st :: rest)
    (h : (s.setCore k { s.core k with stores := rest }).performStore k st = some t) :
    s.storeAccept k = t.setCore k (t.core k).settle := by
  simp only [State.storeAccept, hst, hs, hon, h]
  rfl

/-- Settles O36: each clause is a case of the command. -/
theorem coreMemory : Obligations.CoreMemory := by
  unfold Obligations.CoreMemory
  refine ⟨?ldOwn, ?ldUnit, ?ldWaits, ?st, ?stWaits, fun s k rd rs1 imm hr h => becomes_window hr h, ?reach, ?own,
    fun s r k st rest hs hon hst h => congrArg ok (State.storeAccept_performed hs hon hst h), ?idle⟩
  case ldOwn =>
    intro s k rd rs1 imm hr hs hwa
    exact becomes_ld hr hs ((CoreSt.reach_own (hwa.trans (by decide))).trans (if_pos hwa))
  case ldUnit =>
    intro s k rd rs1 imm a width hr hs hreach hroute
    have hload : s.load k rd (.unit a width) = s.unitLoad k rd a width := by simp only [State.load, hroute]
    have hld := becomes_ld (rd := rd) hr hs hreach
    rw [hload] at hld
    exact hld
  case ldWaits =>
    intro s k rd rs1 imm r hs hreach
    rw [Becomes, exec_ld hreach, if_neg (show ¬ (s.core k).stores.isEmpty = true by simpa using hs), ite_self]
  case st =>
    intro s k rd rs1 imm st hr hlen hreach hw hv hsealed
    rw [Becomes, exec_st hreach, CoreSt.storeOf_eq hw hv hsealed, if_pos hr, if_neg (by omega)]
  case stWaits =>
    intro s k rd rs1 imm r hlen hreach
    rw [Becomes, exec_st hreach, if_pos hlen, ite_self]
  case reach =>
    intro c wa _
    dsimp only
    refine ⟨fun h => ?_, fun h h' => ?_, fun h hm => ?_, fun h hm => ?_, fun h hm hb => ?_, fun h hm hb => ?_,
      fun h hm => ?_⟩
    · rw [CoreSt.reach_own (h.trans (by decide)), if_pos h]
    · rw [CoreSt.reach_own h', if_neg (by omega)]
    · rw [CoreSt.reach_window h, hm]
      rfl
    · rw [CoreSt.reach_window h, hm]
      rfl
    · rw [CoreSt.reach_window h, hm]
      exact if_pos hb
    · rw [CoreSt.reach_window h, hm]
      exact if_neg (Nat.not_lt.mpr hb)
    · rw [CoreSt.reach_window h, hm]
      rfl
  case own =>
    intro s k st rest hs hon hst hown
    exact congrArg ok (State.storeAccept_performed hs hon hst (by rw [State.performStore, hown]; rfl))
  case idle =>
    intro s k hst
    refine congrArg ok ?_
    simp only [State.storeAccept, hst]

end Sys2Proof.Machine
end

section
/-! The PCI Express port: BAR accesses, the link, MSI-X and the configuration space (R94, R427-R435). -/

namespace Sys2Proof.Machine

open Sys2Proof

variable {s : State} {a n off lo : Nat} {t : Bool} {bs bs' : List Byte} {v : BitVec 32}

/-! ### Rows over the port (R94, R170, R171) -/

/-- The host's rows: the part has reached DONE, the endpoint answers, and SPc is ON and neither clearing nor in reset. -/
structure State.RowsLive (s : State) (c : Nat) : Prop where
  bar : s.barOpen = true
  stage : s.fld F.BOOT_STATUS_STAGE = 6
  on : s.spOn c = true
  clear : s.clearing c = false
  out : s.inClReset c = false

theorem State.barOpen_running (h : s.barOpen = true) : s.stopped = false := by
  simp only [State.barOpen, Bool.and_eq_true, Bool.not_eq_true'] at h
  exact h.1.1.1.1

/-- After DONE the port takes every access. -/
theorem State.gate_pcie (hb : s.barOpen = true) (hst : s.fld F.BOOT_STATUS_STAGE = 6) (wr : Bool) :
    s.gate .pcie a wr = .live := by
  simp only [State.gate, hb, if_true, State.hostGate, hst]

theorem State.RowsLive.verdict (h : s.RowsLive (off / 0x200000)) (hoff : off < 0x800000) (wr : Bool) :
    s.verdict .pcie off wr = .pass := by
  have hreach : mayReach .pcie off = true := if_pos hoff
  have hlow : ¬ 0x01000000 ≤ off := by omega
  have hdom : domainOf off = domSP (off / 0x200000) := by rw [domainOf, scratchOf, if_pos hoff]
  have hlocal : localOf off = none := if_neg (by omega)
  have hcluster : clusterOf off = none := if_neg (by omega)
  have hon : s.domOn (domSP (off / 0x200000)) = true := h.on
  rw [State.verdict, State.gate_pcie h.bar h.stage]
  simp [State.mapVerdict, hreach, hlow, hdom, hon, hlocal, hcluster]

theorem State.regs_spPut (s : State) (a : Nat) (b : Byte) (t : Bool) : (s.spPut a b t).regs = s.regs := by
  rw [State.spPut]
  split <;> rfl

theorem State.regs_spWrite (s : State) (a : Nat) (t : Bool) (bs : List Byte) : (s.spWrite a t bs).regs = s.regs := by
  induction bs generalizing s a with
  | nil => rfl
  | cons b bs ih => exact (ih _ _).trans (s.regs_spPut a b t)

theorem State.clearing_spWrite (s : State) (a : Nat) (t : Bool) (bs : List Byte) (c : Nat) :
    (s.spWrite a t bs).clearing c = s.clearing c := by
  simp only [State.clearing, State.flag, State.fld, State.reg, State.regs_spWrite]

theorem State.inClReset_spWrite (s : State) (a : Nat) (t : Bool) (bs : List Byte) (c : Nat) :
    (s.spWrite a t bs).inClReset c = s.inClReset c := by
  simp only [State.inClReset, State.fbit, State.fld, State.reg, State.regs_spWrite]

theorem State.spWrite_append (s : State) (a : Nat) (t : Bool) (bs bs' : List Byte) :
    s.spWrite a t (bs ++ bs') = (s.spWrite a t bs).spWrite (a + bs.length) t bs' := by
  induction bs generalizing s a with
  | nil => rfl
  | cons b bs ih =>
    rw [List.cons_append, State.spWrite, ih, List.length_cons, show a + (bs.length + 1) = a + 1 + bs.length by omega]
    rfl

/-- A write of bytes of a row's unit, in open state, where the scratchpad takes it. -/
theorem State.writeUnit_row {ini : Initiator} {u : Nat} (hu : u < 0x800000) (hc : s.clearing (u / 0x200000) = false)
    (hr : s.inClReset (u / 0x200000) = false) : s.writeUnit ini t u lo bs = s.spWrite (u + lo) t bs := by
  have hrow : (scratchOf u).isSome = true := by
    rw [scratchOf, if_pos hu]
    rfl
  rw [State.writeUnit, if_pos hrow, hc, hr]
  rfl

/-- The units of an access that stays in one scratchpad, one or two of them. -/
theorem cutUnits_cases (hn : n ≠ 0) : (off % 4 + n ≤ 4 ∧ cutUnits off n = [(off / 4 * 4, off % 4, n)]) ∨
    (4 < off % 4 + n ∧ cutUnits off n = [(off / 4 * 4, off % 4, 4 - off % 4), (off / 4 * 4 + 4, 0, n - (4 - off % 4))]) := by
  rw [cutUnits, if_neg hn]
  by_cases h : off % 4 + n ≤ 4
  · have hk : min n (4 - off % 4) = n := by omega
    exact .inl ⟨h, by simp [hk]⟩
  · have hk : min n (4 - off % 4) = 4 - off % 4 := by omega
    have hlt : 4 - off % 4 < n := by omega
    exact .inr ⟨by omega, by simp [hk, hlt]⟩

/-- The host's write of bytes of rows is a partial write of open bytes. -/
theorem State.RowsLive.hostStore (h : s.RowsLive (off / 0x200000)) (hoff : off < 0x800000) (hne : bs.length ≠ 0)
    (hin : off % 0x200000 + bs.length ≤ 0x200000) : s.hostStore false off bs = s.spWrite off false bs := by
  have hbus : s.hostStore false off bs = s.writeUnits .pcie false bs (cutUnits off bs.length) := by
    rw [State.hostStore, State.busWrite, State.onWrite, State.barOpen_running h.bar, Bool.false_and,
      if_neg Bool.false_ne_true, if_neg Bool.false_ne_true, show hostIni false = .pcie from rfl, h.verdict hoff]
  have hsp : off / 4 * 4 / 0x200000 = off / 0x200000 := by omega
  have hfirst (k : Nat) : s.writeUnit .pcie false (off / 4 * 4) (off % 4) (bs.take k) = s.spWrite off false (bs.take k) := by
    rw [State.writeUnit_row (by omega) (by rw [hsp, h.clear]) (by rw [hsp, h.out]), Nat.div_add_mod' off 4]
  rw [hbus]
  obtain ⟨-, hcut⟩ | ⟨hlong, hcut⟩ := cutUnits_cases (off := off) hne
  · rw [hcut]
    have hwhole := hfirst bs.length
    rw [List.take_length] at hwhole
    simp only [State.writeUnits, List.take_length, hwhole]
  · have hsp' : (off / 4 * 4 + 4) / 0x200000 = off / 0x200000 := by omega
    have hrest : (bs.drop (4 - off % 4)).take (bs.length - (4 - off % 4)) = bs.drop (4 - off % 4) :=
      List.take_of_length_le (by simp)
    have hnext : off + (bs.take (4 - off % 4)).length = off / 4 * 4 + 4 := by
      rw [List.length_take]
      omega
    rw [hcut]
    simp only [State.writeUnits, hfirst, hrest]
    rw [State.writeUnit_row (by omega) (by rw [hsp', State.clearing_spWrite, h.clear])
      (by rw [hsp', State.inClReset_spWrite, h.out]), Nat.add_zero, ← hnext, ← State.spWrite_append,
      List.take_append_drop]

/-- What a read of rows by the host answers. -/
theorem State.RowsLive.hostRead (h : s.RowsLive (off / 0x200000)) (hoff : off < 0x800000) :
    s.hostRead false off n = s.readUnits .pcie (cutUnits off n) := by
  rw [State.hostRead, State.busRead, State.barOpen_running h.bar, if_neg Bool.false_ne_true,
    show hostIni false = .pcie from rfl, h.verdict hoff]

theorem State.readUnit_row {ini : Initiator} {u : Nat} (hu : u < 0x800000) :
    s.readUnit ini u lo n = s.readRows ini (u + lo) n := by
  have hrow : (scratchOf u).isSome = true := by
    rw [scratchOf, if_pos hu]
    rfl
  rw [State.readUnit, if_pos hrow]

theorem State.RowsLive.readRows_open (h : s.RowsLive (a / 0x200000)) (hopen : s.spSealed a n = false) :
    s.readRows .pcie a n = (s, s.spBytes a n) := by
  rw [State.readRows, h.clear, h.out, hopen]
  rfl

theorem State.RowsLive.readRows_sealed (h : s.RowsLive (a / 0x200000)) (hsealed : s.spSealed a n = true) :
    s.readRows .pcie a n = (s.refuseEgress F.SEAL_EGRCNT_HOST, List.replicate n 0) := by
  rw [State.readRows, h.clear, h.out, hsealed]
  rfl

theorem State.spBytes_add (s : State) (a m n : Nat) : s.spBytes a (m + n) = s.spBytes a m ++ s.spBytes (a + m) n := by
  simp only [State.spBytes, List.range_add, List.map_append, List.map_map]
  congr 1
  exact List.map_congr_left fun i _ => by rw [Function.comp_apply, Nat.add_assoc]

theorem State.spSealed_add (s : State) (a m n : Nat) :
    s.spSealed a (m + n) = (s.spSealed a m || s.spSealed (a + m) n) := by
  simp only [State.spSealed, List.range_add, List.any_append, List.any_map]
  congr 1
  exact List.any_congr rfl fun i => by rw [Function.comp_apply, Nat.add_assoc]

/-- The host reads open rows as they are. -/
theorem State.RowsLive.hostRead_open (h : s.RowsLive (off / 0x200000)) (hoff : off < 0x800000) (hne : n ≠ 0)
    (hin : off % 0x200000 + n ≤ 0x200000) (hopen : s.spSealed off n = false) :
    s.hostRead false off n = (s, s.spBytes off n) := by
  have hfirst : off / 4 * 4 + off % 4 = off := Nat.div_add_mod' off 4
  rw [h.hostRead hoff]
  obtain ⟨-, hcut⟩ | ⟨hlong, hcut⟩ := cutUnits_cases (off := off) hne
  · rw [hcut]
    simp only [State.readUnits, State.readUnit_row (show off / 4 * 4 < 0x800000 by omega), hfirst, h.readRows_open hopen,
      List.append_nil]
  · obtain ⟨m, rfl⟩ := Nat.exists_eq_add_of_le (show 4 - off % 4 ≤ n by omega)
    have hnext : off / 4 * 4 + 4 = off + (4 - off % 4) := by omega
    have hsp : s.RowsLive ((off + (4 - off % 4)) / 0x200000) := by
      rwa [show (off + (4 - off % 4)) / 0x200000 = off / 0x200000 by omega]
    obtain ⟨hopen1, hopen2⟩ : s.spSealed off (4 - off % 4) = false ∧ s.spSealed (off + (4 - off % 4)) m = false := by
      rwa [State.spSealed_add, Bool.or_eq_false_iff] at hopen
    have hsecond : s.readUnit .pcie (off + (4 - off % 4)) 0 m = (s, s.spBytes (off + (4 - off % 4)) m) := by
      rw [State.readUnit_row (by omega), Nat.add_zero, hsp.readRows_open hopen2]
    rw [hcut, Nat.add_sub_cancel_left, s.spBytes_add]
    simp only [State.readUnits, State.readUnit_row (show off / 4 * 4 < 0x800000 by omega), hfirst, hnext,
      h.readRows_open hopen1, hsecond, List.append_nil]

/-- Of a sealed row it reads zeros, and the refusal counts. -/
theorem State.RowsLive.hostRead_sealed (h : s.RowsLive (off / 0x200000)) (hoff : off < 0x800000) (hne : n ≠ 0)
    (hin : off % 4 + n ≤ 4) (hsealed : s.spSealed off n = true) :
    s.hostRead false off n = (s.refuseEgress F.SEAL_EGRCNT_HOST, List.replicate n 0) := by
  have hfirst : off / 4 * 4 + off % 4 = off := Nat.div_add_mod' off 4
  have hcut : cutUnits off n = [(off / 4 * 4, off % 4, n)] := by
    conv_lhs => rw [← hfirst]
    exact cutUnits_within (by omega) (by omega) hin
  rw [h.hostRead hoff, hcut]
  simp only [State.readUnits, State.readUnit_row (show off / 4 * 4 < 0x800000 by omega), hfirst, h.readRows_sealed hsealed,
    List.append_nil]

/-! ### Accesses of the BARs (R429-R431, Table HOST-1) -/

theorem exec_barWrite (h : s.barOpen = true) (bar2 : Bool) (off : BitVec 24) (n : Fin 5) (v : BitVec 32) :
    exec (.hostBarAccess bar2 off n (some v)) s = ok (s.barWrite bar2 off.toNat (toBytes n v.toNat)) :=
  congrArg ok (if_neg (by simp [h]))

theorem exec_barRead (h : s.barOpen = true) (bar2 : Bool) (off : BitVec 24) (n : Fin 5) :
    exec (.hostBarAccess bar2 off n none) s =
      ok { (s.barRead bar2 off.toNat n).1 with readData := (s.barRead bar2 off.toNat n).2 } :=
  congrArg ok (if_neg (by simp [h]))

theorem exec_barClosed (h : s.barOpen = false) (bar2 : Bool) (off : BitVec 24) (n : Fin 5) (v : Option (BitVec 32)) :
    exec (.hostBarAccess bar2 off n v) s = ok s :=
  congrArg ok (if_pos (by simp [h]))

theorem State.barOpen_eq_false (h : s.stopped = true ∨ s.domOn 5 = false ∨ s.fld F.CLK_STATUS_PCIEREF = 0 ∨
    s.fld F.HST_LINK_UP = 0 ∨ s.fld F.HST_LINK_D3 = 1) : s.barOpen = false := by
  rcases h with h | h | h | h | h <;> simp [State.barOpen, State.flag, h]

theorem State.barWrite_rows (hoff : off < 0x800000) : s.barWrite true off bs = s.hostStore false off bs := by
  rw [State.barWrite, if_pos rfl, if_pos hoff]

theorem State.barRead_rows (hoff : off < 0x800000) : s.barRead true off n = s.hostRead false off n := by
  rw [State.barRead, if_pos rfl, if_pos hoff]

theorem State.barWrite_mapped (hm : isMsix off = false) (h : bar0 off = some a) :
    s.barWrite false off bs = s.busWrite .pcie false a bs := by
  rw [State.barWrite, if_neg Bool.false_ne_true, hm, if_neg Bool.false_ne_true, h]
  rfl

theorem State.barRead_mapped (hm : isMsix off = false) (h : bar0 off = some a) :
    s.barRead false off n = s.busRead .pcie a n := by
  rw [State.barRead, if_neg Bool.false_ne_true, hm, if_neg Bool.false_ne_true, h]
  rfl

theorem State.barWrite_unlisted (hm : isMsix off = false) (h : bar0 off = none) :
    s.barWrite false off bs = s.drawn.addrErr .pcie (s.open_ (2 ^ 32)) true := by
  rw [State.barWrite, if_neg Bool.false_ne_true, hm, if_neg Bool.false_ne_true, h]
  rfl

theorem State.barRead_unlisted (hm : isMsix off = false) (h : bar0 off = none) :
    s.barRead false off n = (s.drawn.addrErr .pcie (s.open_ (2 ^ 32)) false, List.replicate n 0) := by
  rw [State.barRead, if_neg Bool.false_ne_true, hm, if_neg Bool.false_ne_true, h]
  rfl

/-- A table entry's data doubleword, whole. -/
theorem State.barWrite_msixData (hst : s.fld F.BOOT_STATUS_STAGE = 6) (hn : n < 64) (v : BitVec 32) :
    s.barWrite false (0xF00008 + 16 * n) (toBytes 4 v.toNat) = s.setMsix n { s.msixOf n with data := v.toNat } := by
  have hmsix : isMsix (0xF00008 + 16 * n) = true := by
    simp only [isMsix, Bool.or_eq_true, Bool.and_eq_true, decide_eq_true_eq]
    omega
  have hlive : s.hostLive = true := by simp [State.hostLive, hst]
  have hentry : (0xF00008 + 16 * n - 0xF00000) / 16 = n := by omega
  have hword : (0xF00008 + 16 * n) / 4 % 4 = 2 := by omega
  have hdata : ofBytes (toBytes 4 v.toNat) = v.toNat := by
    rw [ofBytes_toBytes]
    exact Nat.mod_eq_of_lt v.isLt
  rw [State.barWrite, if_neg Bool.false_ne_true, hmsix, if_pos rfl, hlive, if_neg (by simp),
    if_pos ⟨by omega, length_toBytes 4 _⟩, State.msixWrite, if_pos (by omega), hentry, hword, hdata]
  rfl

end Sys2Proof.Machine
end

section
/-! The link and the configuration space (R427, R434, R435), the SPI host port (R436-R438), and what both ports do. -/

namespace Sys2Proof.Machine

open Sys2Proof

variable {s : State} {m : Bool} {cmd len dw : Nat} {addr : BitVec 32} {hcrc dcrc : Byte} {data : List Byte} {d : Option Byte}

/-! ### Link, masks, configuration (R427, R434, R435) -/

theorem State.linkChange_up (hon : s.domOn 5 = true) (hclk : s.fld F.CLK_STATUS_PCIEREF = 1) (speed : Nat) (x2 : Bool) :
    s.linkChange true speed x2 = s.train speed x2 := by
  rw [State.linkChange, hon, State.flag_of_one hclk]
  rfl

theorem State.linkChange_down (hon : s.domOn 5 = true) (speed : Nat) (x2 : Bool) :
    s.linkChange false speed x2 = s.pcieDown := by
  rw [State.linkChange, hon]
  rfl

theorem State.linkChange_dark (h : s.domOn 5 = false ∨ s.fld F.CLK_STATUS_PCIEREF = 0) (speed : Nat) (x2 : Bool) :
    s.linkChange true speed x2 = s := by
  rcases h with h | h
  · rw [State.linkChange, h]
    rfl
  · rw [State.linkChange, State.flag_of_zero h]
    exact ite_self s

/-- The width is two lanes where the partner offers them and X1ONLY does not forbid it. -/
theorem State.train_eq (s : State) (speed : Nat) (x2 : Bool) : s.train speed x2 =
    (((s.setFld F.HST_LINK_SPEED (min (max 1 speed) (max 1 (s.fld F.HST_LINKCFG_MAXSPD)))).setFld F.HST_LINK_WIDTH
      (if x2 = true ∧ s.fld F.HST_LINKCFG_X1ONLY = 0 then 2 else 1)).setFld F.HST_LINK_UP 1) := by
  have hwide : ((x2 && !s.flag F.HST_LINKCFG_X1ONLY) = true) = (x2 = true ∧ s.fld F.HST_LINKCFG_X1ONLY = 0) := by
    simp [State.flag]
  rw [State.train, if_congr (iff_of_eq hwide) rfl rfl]

theorem State.retrain_eq (s : State) (speed : Nat) (x2 : Bool) :
    (if s.flag F.HST_LINK_UP then s.train speed x2 else s) = if s.fld F.HST_LINK_UP = 0 then s else s.train speed x2 := by
  by_cases h : s.fld F.HST_LINK_UP = 0
  · rw [State.flag_of_zero h, if_pos h]
    rfl
  · rw [if_neg h, if_pos (by simp [State.flag, h])]

/-- A request that reaches the function has its effect. -/
theorem State.config_running (hs : s.stopped = false) (hup : s.fld F.HST_LINK_UP = 1) :
    ¬ (s.stopped || !s.flag F.HST_LINK_UP) = true := by
  simp [hs, State.flag_of_one hup]

theorem State.config_lost (h : s.stopped = true ∨ s.fld F.HST_LINK_UP = 0) (a : PcieConfig) : s.config a = s :=
  if_pos (by rcases h with h | h <;> simp [State.flag, h])

theorem State.configRead_found {b : CfgBits} (h : s.cfgBits.find? (·.dw == dw) = some b) : s.configRead dw =
    { s.drawn with readData := toBytes 4 (b.value ||| (s.open_ (2 ^ 32) &&& (2 ^ 32 - 1 - b.mask))) } := by
  rw [State.configRead, h]

/-- A doubleword of which the spec fixes every bit. -/
theorem State.configRead_fixed {v : Nat} (h : s.cfgBits.find? (·.dw == dw) = some ⟨dw, 2 ^ 32 - 1, v⟩) :
    s.configRead dw = { s.drawn with readData := toBytes 4 v } := by
  rw [State.configRead_found h, Nat.sub_self, Nat.and_zero, Nat.or_zero]

/-- The upper half of a doubleword, by bytes. -/
theorem toBytes_drop_two (lo hi : Nat) (h : lo < 2 ^ 16) :
    (toBytes 4 (lo + 2 ^ 16 * hi)).drop 2 = [BitVec.ofNat 8 hi, BitVec.ofNat 8 (hi / 256)] := by
  have hhi : (lo + 2 ^ 16 * hi) / 256 / 256 = hi := by omega
  simp only [toBytes, hhi, List.drop_succ_cons, List.drop_zero]

/-- Bits that a mask fixes at zero read zero: the third byte under 0x00FF0000. -/
theorem toBytes_third_masked (x : Nat) : (toBytes 4 (0 ||| (x &&& (2 ^ 32 - 1 - 0x00FF0000)))).getD 2 1 = 0 := by
  have hbyte : (0 ||| (x &&& (2 ^ 32 - 1 - 0x00FF0000))) / 256 / 256 % 2 ^ 8 = 0 := by
    rw [Nat.zero_or, Nat.div_div_eq_div_mul, show 256 * 256 = 2 ^ 16 from rfl, Nat.and_div_two_pow, Nat.and_mod_two_pow]
    exact Nat.and_zero _
  have hget : (toBytes 4 (0 ||| (x &&& (2 ^ 32 - 1 - 0x00FF0000)))).getD 2 1 =
      BitVec.ofNat 8 ((0 ||| (x &&& (2 ^ 32 - 1 - 0x00FF0000))) / 256 / 256) := rfl
  rw [hget]
  exact BitVec.eq_of_toNat_eq hbyte

/-! ### Transactions of the SPI host port (R436-R438) -/

theorem State.spiTransact_closed (h : s.stopped = true ∨ s.domOn 5 = false) :
    s.spiTransact m cmd len addr hcrc data d = s :=
  if_pos (by rcases h with h | h <;> simp [State.spiOpen, h])

theorem State.spiTransact_write (h : s.spiOpen = true) (hc : spiCmd (s.spiBegin m).spiV2 cmd = some .write) :
    s.spiTransact m cmd len addr hcrc data d = (s.spiBegin m).spiWrite len addr hcrc data d := by
  simp only [State.spiTransact, h, hc]
  rfl

theorem State.spiTransact_read (h : s.spiOpen = true) (hc : spiCmd (s.spiBegin m).spiV2 cmd = some .read) :
    s.spiTransact m cmd len addr hcrc data d = (s.spiBegin m).spiRead len addr hcrc := by
  simp only [State.spiTransact, h, hc]
  rfl

theorem State.spiTransact_replay (h : s.spiOpen = true) (hc : spiCmd (s.spiBegin m).spiV2 cmd = some .replay) :
    s.spiTransact m cmd len addr hcrc data d = (s.spiBegin m).spiReplay len addr hcrc := by
  simp only [State.spiTransact, h, hc]
  rfl

theorem State.spiTransact_status (h : s.spiOpen = true) (hc : spiCmd (s.spiBegin m).spiV2 cmd = some .status) :
    s.spiTransact m cmd len addr hcrc data d = (s.spiBegin m).spiStatus len addr hcrc := by
  simp only [State.spiTransact, h, hc]
  rfl

theorem State.spiTransact_enterV2 (h : s.spiOpen = true) (hc : spiCmd (s.spiBegin m).spiV2 cmd = some .enterV2) :
    s.spiTransact m cmd len addr hcrc data d =
      if addr = 0x56320000 then (s.spiBegin m).setFld F.HST_SPISTAT_PROTO 1 else s.spiBegin m := by
  simp only [State.spiTransact, h, hc]
  rfl

theorem State.spiTransact_exitV2 (h : s.spiOpen = true) (hc : spiCmd (s.spiBegin m).spiV2 cmd = some .exitV2) :
    s.spiTransact m cmd len addr hcrc data d =
      if (s.spiBegin m).hcrcOk 0x3D len addr hcrc then (s.spiBegin m).setFld F.HST_SPISTAT_PROTO 0
      else (s.spiBegin m).spiError F.HST_SPIERR_HCRC := by
  simp only [State.spiTransact, h, hc]
  rfl

theorem State.spiTransact_unknown (h : s.spiOpen = true) (hc : spiCmd (s.spiBegin m).spiV2 cmd = none) :
    s.spiTransact m cmd len addr hcrc data d = (s.spiBegin m).spiError F.HST_SPIERR_FRAME := by
  simp only [State.spiTransact, h, hc]
  rfl

/-- REPLAY and EXIT_V2 are v2's alone, ENTER_V2 is v1's (Table HOST-3). -/
theorem spiCmd_replay (v2 : Bool) : spiCmd v2 0x0C = if v2 then some .replay else none := rfl

theorem spiCmd_enterV2 (v2 : Bool) : spiCmd v2 0x3C = if v2 then none else some .enterV2 := rfl

theorem spiCmd_exitV2 (v2 : Bool) : spiCmd v2 0x3D = if v2 then some .exitV2 else none := rfl

theorem spiCmd_unlisted {c : Byte} (h : c ∉ [0x02, 0x0B, 0x0C, 0x05, 0x3C, 0x3D]) (v2 : Bool) : spiCmd v2 c.toNat = none := by
  have hne {k : Byte} (hk : c ≠ k) : c.toNat ≠ k.toNat := mt BitVec.eq_of_toNat_eq hk
  simp only [List.mem_cons, List.not_mem_nil, or_false, not_or] at h
  obtain ⟨h1, h2, h3, h4, h5, h6⟩ := h
  exact (if_neg (hne h1)).trans ((if_neg (hne h2)).trans ((if_neg (hne h3)).trans ((if_neg (hne h4)).trans
    ((if_neg (hne h5)).trans (if_neg (hne h6))))))

theorem State.hcrcOk_good (h : s.spiV2 = false ∨ crc8 (spiHeader cmd len addr) = hcrc.toNat) :
    s.hcrcOk cmd len addr hcrc = true := by
  rcases h with h | h <;> simp [State.hcrcOk, h]

theorem State.hcrcOk_bad (hv : s.spiV2 = true) (h : crc8 (spiHeader cmd len addr) ≠ hcrc.toNat) :
    s.hcrcOk cmd len addr hcrc = false := by
  simp [State.hcrcOk, hv, h]

/-- Under v1 the whole units that came are stored; a part of a unit in place of the rest counts. -/
theorem State.spiWrite_v1 (hv : s.spiV2 = false) (hlen : data.length = 4 * (len + 1)) :
    s.spiWrite len addr hcrc data d = s.spiUnits (addr.toNat / 4 * 4) data (len + 1) := by
  have hn : min (len + 1) (data.length / 4) = len + 1 := by omega
  simp [State.spiWrite, hv, hn]

theorem State.spiWrite_v1_short (hv : s.spiV2 = false) (hlen : data.length / 4 < len + 1) (hpart : data.length % 4 ≠ 0) :
    s.spiWrite len addr hcrc data d =
      (s.spiUnits (addr.toNat / 4 * 4) data (data.length / 4)).spiError F.HST_SPIERR_FRAME := by
  have hn : min (len + 1) (data.length / 4) = data.length / 4 := by omega
  simp [State.spiWrite, hv, hn, hlen, hpart]

/-- Under v2 they are stored once both checks are good. -/
theorem State.spiWrite_v2 (hv : s.spiV2 = true) (hh : crc8 (spiHeader 0x02 len addr) = hcrc.toNat)
    (hlen : data.length = 4 * (len + 1)) (hd : crc8 data = dcrc.toNat) : s.spiWrite len addr hcrc data (some dcrc) =
      { s.spiUnits (addr.toNat / 4 * 4) data (len + 1) with readData := [0xA0] } :=
  (if_pos hv).trans ((if_neg (by simp [State.hcrcOk_good (.inr hh)])).trans
    ((if_neg (not_not.mpr hlen)).trans (if_neg (not_not.mpr hd))))

theorem State.spiWrite_v2_badData (hv : s.spiV2 = true) (hh : crc8 (spiHeader 0x02 len addr) = hcrc.toNat)
    (hlen : data.length = 4 * (len + 1)) (hd : crc8 data ≠ dcrc.toNat) : s.spiWrite len addr hcrc data (some dcrc) =
      { s.spiError F.HST_SPIERR_DCRC with readData := [0xE2] } :=
  (if_pos hv).trans ((if_neg (by simp [State.hcrcOk_good (.inr hh)])).trans ((if_neg (not_not.mpr hlen)).trans (if_pos hd)))

theorem State.spiWrite_v2_badHeader (hv : s.spiV2 = true) (hh : crc8 (spiHeader 0x02 len addr) ≠ hcrc.toNat) :
    s.spiWrite len addr hcrc data d = { s.spiError F.HST_SPIERR_HCRC with readData := [0xE1] } :=
  (if_pos hv).trans (if_pos (by simp [State.hcrcOk_bad hv hh]))

theorem State.spiWrite_v2_cut (hv : s.spiV2 = true) (hh : crc8 (spiHeader 0x02 len addr) = hcrc.toNat) :
    s.spiWrite len addr hcrc data none = s.spiError F.HST_SPIERR_FRAME :=
  (if_pos hv).trans (if_neg (by simp [State.hcrcOk_good (.inr hh)]))

theorem State.spiRead_good (h : s.spiV2 = false ∨ crc8 (spiHeader 0x0B len addr) = hcrc.toNat) :
    s.spiRead len addr hcrc =
      let q := s.spiReads (addr.toNat / 4 * 4) (len + 1)
      { q.1 with spiLast := q.2, readData := [0xA5] ++ q.2 ++ (if q.1.spiV2 then [BitVec.ofNat 8 (crc8 q.2)] else []) } := by
  rw [State.spiRead, if_pos (State.hcrcOk_good h)]
  rfl

theorem State.spiRead_bad (hv : s.spiV2 = true) (h : crc8 (spiHeader 0x0B len addr) ≠ hcrc.toNat) :
    s.spiRead len addr hcrc = { s.spiError F.HST_SPIERR_HCRC with readData := [0xE1] } := by
  rw [State.spiRead, State.hcrcOk_bad hv h]
  rfl

theorem State.spiReplay_good (hv : s.spiV2 = true) (h : crc8 (spiHeader 0x0C len addr) = hcrc.toNat)
    (hlen : s.spiLast.length = 4 * (len + 1)) :
    s.spiReplay len addr hcrc = { s with readData := [0xA5] ++ s.spiLast ++ [BitVec.ofNat 8 (crc8 s.spiLast)] } := by
  rw [State.spiReplay, State.hcrcOk_good (.inr h), if_neg (by decide), if_pos hlen, State.spiAnswer, hv]
  rfl

theorem State.spiStatus_good (h : s.spiV2 = false ∨ crc8 (spiHeader 0x05 len addr) = hcrc.toNat) :
    s.spiStatus len addr hcrc = { s with readData := toBytes 1 (s.viewWord .spi Reg.HST_SPISTAT) } :=
  if_pos (State.hcrcOk_good h)

theorem State.spiStatus_bad (hv : s.spiV2 = true) (h : crc8 (spiHeader 0x05 len addr) ≠ hcrc.toNat) :
    s.spiStatus len addr hcrc = { (s.spiError F.HST_SPIERR_HCRC).drawn with readData := toBytes 1 (s.open_ 256) } :=
  if_neg (by simp [State.hcrcOk_bad hv h])

/-! ### What both ports do -/

/-- Table HOST-1. -/
theorem bar0_ranges (o : Nat) :
    (o < 0x200000 → bar0 o = some (0x01000000 + o)) ∧
    (0x200000 ≤ o → o < 0x340000 → bar0 o = some (0x02E00000 + o)) ∧
    (0x400000 ≤ o → o < 0x500000 → bar0 o = some (0x04C00000 + o)) ∧
    (0x500000 ≤ o → o < 0x520000 → bar0 o = some (0x03B00000 + o)) ∧
    (0x600000 ≤ o → o < 0xA10000 → bar0 o = some (0x05A00000 + o)) ∧
    (0xC00000 ≤ o → o < 0xC40000 → bar0 o = some (0x07400000 + o)) ∧
    (0x340000 ≤ o → o < 0x400000 → bar0 o = none) ∧ (0xC40000 ≤ o → bar0 o = none) := by
  refine ⟨fun h => if_pos h, fun h h' => ?_, fun h h' => ?_, fun h h' => ?_, fun h h' => ?_, fun h h' => ?_, fun h h' => ?_,
    fun h => ?_⟩
  · rw [bar0, if_neg (by omega), if_pos h', Option.some_inj]
    omega
  · rw [bar0, if_neg (by omega), if_neg (by omega), if_neg (by omega), if_pos h', Option.some_inj]
    omega
  · rw [bar0, if_neg (by omega), if_neg (by omega), if_neg (by omega), if_neg (by omega), if_pos h', Option.some_inj]
    omega
  · rw [bar0, if_neg (by omega), if_neg (by omega), if_neg (by omega), if_neg (by omega), if_neg (by omega), if_neg (by omega),
      if_pos h', Option.some_inj]
    omega
  · rw [bar0, if_neg (by omega), if_neg (by omega), if_neg (by omega), if_neg (by omega), if_neg (by omega), if_neg (by omega),
      if_neg (by omega), if_neg (by omega), if_pos h', Option.some_inj]
    omega
  · rw [bar0, if_neg (by omega), if_neg (by omega), if_pos h']
  · rw [bar0, if_neg (by omega), if_neg (by omega), if_neg (by omega), if_neg (by omega), if_neg (by omega), if_neg (by omega),
      if_neg (by omega), if_neg (by omega), if_neg (by omega)]

/-- Settles O17: accesses of the BARs by what their offset maps to, requests to the link and the function one by one, and
transactions of the SPI host port by their command and the checks they pass. -/
theorem hostPorts : Obligations.HostPorts := by
  unfold Obligations.HostPorts
  refine ⟨?rowWrite, ?rowRead, ?rowSealed, ?mappedWrite, ?mappedRead, bar0_ranges, ?unlistedWrite, ?unlistedRead, ?closed,
    ?msixData, ?up, ?down, ?retrain, ?dark, ?unmask, ?unmaskEarly, ?flush, ?config, ?configRead, ?configLost, ?write1,
    ?write1Short, ?write2, ?write2Data, ?write2Header, ?write2Cut, ?read, ?readBad, ?replay, ?replay1, ?status, ?statusBad,
    ?unknown, ?enter2, ?enter, ?enterOther, ?exit, ?exit1, ?shut, ?oneUnit, ?live⟩
  case rowWrite =>
    intro s off n v hb hst hn hoff hin hon hc hr
    have hlive : s.RowsLive (off.toNat / 0x200000) := ⟨hb, hst, hon, hc, hr⟩
    have hlen : (toBytes n v.toNat).length = n := length_toBytes _ _
    rw [Becomes, exec_barWrite hb, State.barWrite_rows hoff, hlive.hostStore hoff (by omega) (by omega)]
  case rowRead =>
    intro s off n hb hst hn hoff hin hon hopen hc hr
    have hlive : s.RowsLive (off.toNat / 0x200000) := ⟨hb, hst, hon, hc, hr⟩
    rw [Becomes, exec_barRead hb, State.barRead_rows hoff, hlive.hostRead_open hoff (by omega) hin hopen]
  case rowSealed =>
    intro s off n hb hst hn hin hoff hon hsealed hc hr
    have hlive : s.RowsLive (off.toNat / 0x200000) := ⟨hb, hst, hon, hc, hr⟩
    rw [Becomes, exec_barRead hb, State.barRead_rows hoff, hlive.hostRead_sealed hoff (by omega) hin hsealed]
  case mappedWrite =>
    intro s off n v a hb _ hm ha
    rw [Becomes, exec_barWrite hb, State.barWrite_mapped hm ha]
  case mappedRead =>
    intro s off n a hb _ hm ha
    dsimp only
    rw [Becomes, exec_barRead hb, State.barRead_mapped hm ha]
  case unlistedWrite =>
    intro s off n v hb hm ha
    rw [Becomes, exec_barWrite hb, State.barWrite_unlisted hm ha]
  case unlistedRead =>
    intro s off n hb hm ha
    rw [Becomes, exec_barRead hb, State.barRead_unlisted hm ha]
  case closed => exact fun s b off n v h => exec_barClosed (State.barOpen_eq_false h) b off n v
  case msixData =>
    intro s i v hb hst
    have hoff : (BitVec.ofNat 24 (0xF00008 + 16 * (i : Nat))).toNat = 0xF00008 + 16 * (i : Nat) :=
      Nat.mod_eq_of_lt (by omega)
    rw [Becomes, exec_barWrite hb, hoff]
    exact congrArg ok (State.barWrite_msixData hst i.isLt v)
  case up =>
    intro s speed x2 hon hclk
    rw [← State.train_eq]
    exact congrArg ok (State.linkChange_up hon hclk speed x2)
  case down => exact fun s speed x2 hon => congrArg ok (State.linkChange_down hon speed x2)
  case retrain =>
    intro s ini speed x2 ht
    rw [← State.retrain_eq]
    exact congrArg ok (State.cmdWrite_takes _ _ _ _ ht)
  case dark => exact fun s speed x2 h => congrArg ok (State.linkChange_dark h speed x2)
  case unmask =>
    intro s v hb hst
    have hlive : s.hostLive = true := by simp [State.hostLive, hst]
    exact congrArg ok ((if_neg (by simp [hb])).trans (if_pos hlive))
  case unmaskEarly =>
    intro s v hb hst
    have hlive : ¬ s.hostLive = true := by simp [State.hostLive, hst]
    exact congrArg ok ((if_neg (by simp [hb])).trans (if_neg hlive))
  case flush =>
    intro s v hp he hm hv hup
    exact if_pos (by simp [hp, he, hm, hv, State.flag_of_one hup])
  case config =>
    intro s hs hup
    have hrun := State.config_running hs hup
    exact ⟨congrArg ok (if_neg hrun), congrArg ok (if_neg hrun), fun e m => congrArg ok (if_neg hrun),
      fun a c m => congrArg ok (if_neg hrun), fun v => ⟨congrArg ok (if_neg hrun), congrArg ok (if_neg hrun)⟩⟩
  case configRead =>
    intro s hs hup
    have hread (dw : Fin 1024) : exec (.pcieConfigAccess (.read dw)) s = ok (s.configRead dw) :=
      congrArg ok (if_neg (State.config_running hs hup))
    have hfixed (dw : Fin 1024) (v : Nat) (h : s.cfgBits.find? (·.dw == dw.val) = some ⟨dw, 2 ^ 32 - 1, v⟩) :
        Becomes (.pcieConfigAccess (.read dw)) s { s.drawn with readData := toBytes 4 v } :=
      (hread dw).trans (congrArg ok (State.configRead_fixed h))
    refine ⟨⟨_, hfixed 0 _ rfl, ?_, rfl⟩, hfixed 2 _ rfl,
      ⟨_, (hread 3).trans (congrArg ok (State.configRead_found rfl)), ?_⟩, hfixed 4 _ rfl, hfixed 5 _ rfl, hfixed 6 _ rfl, hfixed 7 _ rfl⟩
    · exact toBytes_drop_two _ 0x3248 (Nat.mod_lt _ (by decide))
    · exact toBytes_third_masked _
  case configLost => exact fun s a h => congrArg ok (State.config_lost h a)
  case write1 =>
    intro s m len addr h data d ho hv hlen
    exact congrArg ok ((State.spiTransact_write ho rfl).trans (State.spiWrite_v1 hv hlen))
  case write1Short =>
    intro s m len addr h data d ho hv hlen hpart
    exact congrArg ok ((State.spiTransact_write ho rfl).trans (State.spiWrite_v1_short hv hlen hpart))
  case write2 =>
    intro s m len addr h data d ho hv hh hlen hd
    exact congrArg ok ((State.spiTransact_write ho rfl).trans (State.spiWrite_v2 hv hh hlen hd))
  case write2Data =>
    intro s m len addr h data d ho hv hh hlen hd
    exact congrArg ok ((State.spiTransact_write ho rfl).trans (State.spiWrite_v2_badData hv hh hlen hd))
  case write2Header =>
    intro s m len addr h data d ho hv hh
    exact congrArg ok ((State.spiTransact_write ho rfl).trans (State.spiWrite_v2_badHeader hv hh))
  case write2Cut =>
    intro s m len addr h data ho hv hh
    exact congrArg ok ((State.spiTransact_write ho rfl).trans (State.spiWrite_v2_cut hv hh))
  case read =>
    intro s m len addr h ho hh
    exact congrArg ok ((State.spiTransact_read ho rfl).trans (State.spiRead_good hh))
  case readBad =>
    intro s m len addr h ho hv hh
    exact congrArg ok ((State.spiTransact_read ho rfl).trans (State.spiRead_bad hv hh))
  case replay =>
    intro s m len addr h ho hv hh hlen
    have hcmd : spiCmd (s.spiBegin m).spiV2 0x0C = some .replay := by rw [spiCmd_replay, if_pos hv]
    exact congrArg ok ((State.spiTransact_replay ho hcmd).trans (State.spiReplay_good (s := s.spiBegin m) hv hh hlen))
  case replay1 =>
    intro s m len addr h ho hv
    have hcmd : spiCmd (s.spiBegin m).spiV2 0x0C = none := by rw [spiCmd_replay, if_neg (by simp [hv])]
    exact congrArg ok (State.spiTransact_unknown ho hcmd)
  case status =>
    intro s m len addr h ho hh
    exact congrArg ok ((State.spiTransact_status ho rfl).trans (State.spiStatus_good hh))
  case statusBad =>
    intro s m len addr h ho hv hh
    exact ⟨_, congrArg ok ((State.spiTransact_status ho rfl).trans (State.spiStatus_bad hv hh)), rfl, rfl⟩
  case unknown =>
    intro s m c len addr h ho hc
    exact congrArg ok (State.spiTransact_unknown ho (spiCmd_unlisted hc _))
  case enter2 =>
    intro s m addr ho hv
    have hcmd : spiCmd (s.spiBegin m).spiV2 0x3C = none := by rw [spiCmd_enterV2, if_pos hv]
    exact congrArg ok (State.spiTransact_unknown ho hcmd)
  case enter =>
    intro s m ho hv
    have hcmd : spiCmd (s.spiBegin m).spiV2 0x3C = some .enterV2 := by rw [spiCmd_enterV2, if_neg (by simp [hv])]
    exact congrArg ok ((State.spiTransact_enterV2 ho hcmd).trans (if_pos rfl))
  case enterOther =>
    intro s m addr ho hv haddr
    have hcmd : spiCmd (s.spiBegin m).spiV2 0x3C = some .enterV2 := by rw [spiCmd_enterV2, if_neg (by simp [hv])]
    exact congrArg ok ((State.spiTransact_enterV2 ho hcmd).trans (if_neg haddr))
  case exit =>
    intro s m len addr h ho hv hh
    have hcmd : spiCmd (s.spiBegin m).spiV2 0x3D = some .exitV2 := by rw [spiCmd_exitV2, if_pos hv]
    exact congrArg ok ((State.spiTransact_exitV2 ho hcmd).trans (if_pos (State.hcrcOk_good (.inr hh))))
  case exit1 =>
    intro s m len addr h ho hv
    have hcmd : spiCmd (s.spiBegin m).spiV2 0x3D = none := by rw [spiCmd_exitV2, if_neg (by simp [hv])]
    exact congrArg ok (State.spiTransact_unknown ho hcmd)
  case shut =>
    intro s m h
    exact ⟨fun c len addr hcrc => congrArg ok (State.spiTransact_closed h), congrArg ok (State.spiTransact_closed h)⟩
  case oneUnit =>
    intro s a bs hlen
    have hwhole : bs.take 4 = bs := List.take_of_length_le hlen.le
    rw [State.spiUnits, hwhole]
    rfl
  case live =>
    intro s spi a n bs _
    cases spi <;> exact ⟨rfl, rfl⟩

end Sys2Proof.Machine
end

section
/-! Requests for domain states (section 04): what a write of PWR_DOMd asks for, and who may make it (R95, R107, R108,
R110, R111, R119). -/

namespace Sys2Proof.Machine

open Sys2Proof

variable {s : State} {ini : Initiator} {a d e v : Nat}

/-! ### Fields that share no bit -/

theorem State.fld_setFld_apart (s : State) (f g : Fld) (v : Nat) (hf : f.lo + f.w ≤ 24)
    (h : g.addr ≠ f.addr ∨ g.lo + g.w ≤ f.lo ∨ f.lo + f.w ≤ g.lo) : (s.setFld f v).fld g = s.fld g := by
  by_cases ha : g.addr = f.addr
  · exact s.fld_setFld_bits f g v hf ha (h.resolve_left (not_not.mpr ha))
  · exact s.fld_setFld_addr f g v ha

/-- A write of fields other than REQ, ACT and BUSY of a domain moves no domain into or out of the lit set. -/
theorem State.domain_setFld (s : State) {a lo w : Nat} (hf : lo + w ≤ 24) (h : 5 ≤ lo ∨ Reg.PWR_DOM e ≠ a) (v : Nat) :
    (s.setFld ⟨a, lo, w⟩ v).dom e = s.dom e ∧ (s.setFld ⟨a, lo, w⟩ v).domReq e = s.domReq e ∧
    (s.setFld ⟨a, lo, w⟩ v).domBusy e = s.domBusy e := by
  have keeps {i n : Nat} (hn : i + n ≤ 5) :
      (s.setFld ⟨a, lo, w⟩ v).fld ⟨Reg.PWR_DOM e, i, n⟩ = s.fld ⟨Reg.PWR_DOM e, i, n⟩ :=
    s.fld_setFld_apart _ _ v hf (h.symm.imp_right fun h5 => .inl (hn.trans h5))
  exact ⟨keeps (by decide), keeps (by decide), congrArg (· != 0) (keeps (by decide))⟩

/-! ### SLEEPRET and KEEPCALM -/

/-- PWR_DOMd with SLEEPRET and KEEPCALM as a written value has them. -/
def State.domModes (s : State) (d v : Nat) : State :=
  (s.setFld (F.PWR_DOM_SLEEPRET d) (bitsOf v 7 1)).setFld (F.PWR_DOM_KEEPCALM d) (bitsOf v 8 1)

theorem State.domain_domModes (s : State) (d v e : Nat) : (s.domModes d v).dom e = s.dom e ∧
    (s.domModes d v).domReq e = s.domReq e ∧ (s.domModes d v).domBusy e = s.domBusy e := by
  have other (u : State) {lo x : Nat} (hw : lo + 1 ≤ 24) (h5 : 5 ≤ lo) :=
    u.domain_setFld (a := Reg.PWR_DOM d) (e := e) hw (.inl h5) x
  obtain ⟨hdom, hreq, hbusy⟩ := other s (lo := 7) (x := bitsOf v 7 1) (by decide) (by decide)
  obtain ⟨hdom', hreq', hbusy'⟩ := other (s.setFld (F.PWR_DOM_SLEEPRET d) (bitsOf v 7 1)) (lo := 8) (x := bitsOf v 8 1)
    (by decide) (by decide)
  exact ⟨hdom'.trans hdom, hreq'.trans hreq, hbusy'.trans hbusy⟩

theorem State.lit_domModes (s : State) (d v e : Nat) : (s.domModes d v).lit e = s.lit e := by
  obtain ⟨hdom, hreq, hbusy⟩ := s.domain_domModes d v e
  rw [State.lit, hdom, hreq, hbusy]
  rfl

theorem State.mode_domModes (s : State) (d v : Nat) : (s.domModes d v).fld F.PWR_CTRL_MODE = s.fld F.PWR_CTRL_MODE := by
  have hmode (u : State) (lo w x : Nat) : (u.setFld ⟨Reg.PWR_DOM d, lo, w⟩ x).fld F.PWR_CTRL_MODE = u.fld F.PWR_CTRL_MODE :=
    u.fld_setFld_addr _ _ _ (by dsimp only [Reg.PWR_DOM, Reg.PWR_CTRL]; omega)
  exact (hmode _ _ _ _).trans (hmode _ _ _ _)

/-! ### Requests for ON (R111, R119) -/

/-- Domain e is asked for by a request for ON of domain d. -/
def askedBy (d e : Nat) : Bool := e != 0 && decide (e < 26) && (withNeeds d).contains e

/-- The domains a request for ON of domain d asks for. -/
def asked (d : Nat) : List Nat := (List.range 26).filter fun e => e != 0 && (withNeeds d).contains e

theorem contains_asked (d e : Nat) : (asked d).contains e = askedBy d e := by
  rw [Bool.eq_iff_iff]
  simp [asked, askedBy, and_assoc, and_left_comm]

/-- The lit set that a request for ON of domain d makes lies outside the Breeze limits. -/
def State.overBreeze (s : State) (d : Nat) : Bool := outsideBreeze fun e => s.lit e || askedBy d e

theorem State.requestOn_one (s : State) (d : Nat) (exempt : Bool) : s.requestOn [d] exempt =
    if !exempt && s.fld F.PWR_CTRL_MODE == 0 && s.overBreeze d then (s.setFld F.PWR_STATUS_DENIED 1, false)
    else ((asked d).foldl (fun t e => t.setReq e 2) s, true) := by
  have hfull : ((List.range domains).filter fun e => e != 0 && ([d].flatMap withNeeds).contains e) = asked d := by
    rw [List.flatMap_singleton]
    rfl
  rw [State.requestOn]
  simp only [hfull, contains_asked]
  rfl

theorem State.overBreeze_domModes (s : State) (d v : Nat) : (s.domModes d v).overBreeze d = s.overBreeze d := by
  simp only [State.overBreeze, State.lit_domModes]

section
variable {own : Bool} (hd : d ≠ 0) (hv : v % 4 = 2)
include hd hv

theorem State.writeDom_on (s : State) (own : Bool) : s.writeDom d v own =
    if !(own && s.booting) && s.fld F.PWR_CTRL_MODE == 0 && s.overBreeze d then (s.domModes d v).setFld F.PWR_STATUS_DENIED 1
    else ((asked d).foldl (fun t e => t.setReq e 2) (s.domModes d v)).forgetWoke [d] := by
  have hreq := (s.domModes d v).requestOn_one d (own && s.booting)
  rw [State.mode_domModes, State.overBreeze_domModes] at hreq
  have hwrite : s.writeDom d v own =
      if ((s.domModes d v).requestOn [d] (own && s.booting)).2
      then ((s.domModes d v).requestOn [d] (own && s.booting)).1.forgetWoke [d]
      else ((s.domModes d v).requestOn [d] (own && s.booting)).1 := by
    simp only [State.writeDom, hd, hv]
    rfl
  rw [hwrite, hreq]
  split <;> rfl

theorem State.writeDom_on_taken (h : s.fld F.PWR_CTRL_MODE = 1 ∨ (own = true ∧ s.fld F.BOOT_STATUS_DONE = 0) ∨
    s.overBreeze d = false) :
    s.writeDom d v own = ((asked d).foldl (fun t e => t.setReq e 2) (s.domModes d v)).forgetWoke [d] := by
  have hopen : ¬ (!(own && s.booting) && s.fld F.PWR_CTRL_MODE == 0 && s.overBreeze d) = true := by
    rcases h with hgale | ⟨hown, hdone⟩ | hin
    · simp [hgale]
    · simp [hown, State.booting, State.flag_of_zero hdone]
    · simp [hin]
  rw [State.writeDom_on hd hv, if_neg hopen]

theorem State.writeDom_on_denied (hmode : s.fld F.PWR_CTRL_MODE = 0) (hown : own = true → s.fld F.BOOT_STATUS_DONE = 1)
    (hout : s.overBreeze d = true) : s.writeDom d v own = (s.domModes d v).setFld F.PWR_STATUS_DENIED 1 := by
  have hbound : (own && s.booting) = false := by
    cases own with
    | false => rfl
    | true => simp [State.booting, State.flag_of_one (hown rfl)]
  rw [State.writeDom_on hd hv, if_pos (by simp [hbound, hmode, hout])]

end

/-! ### Requests for RET and OFF (R107, R108, R111) -/

/-- No domain needs itself. -/
theorem ne_of_mem_dependents (h : e ∈ dependents d) : e ≠ d := by
  rintro rfl
  have hself : e ∈ needs e := by simpa using (List.mem_filter.mp h).2
  rw [needs] at hself
  split_ifs at hself
  · simp only [List.mem_singleton] at hself
    omega
  · simp only [List.mem_singleton] at hself
    omega
  · simp only [List.mem_cons, List.not_mem_nil, or_false] at hself
    omega
  · exact List.not_mem_nil hself

theorem State.holdsUp_one (h : e ≠ d) (s : State) (r : Nat) :
    s.holdsUp [(d, r)] e = true ↔ s.dom e ≠ 0 ∨ s.domBusy e = true := by
  simp [State.holdsUp, h]

section
variable {r : Nat} (hd : d ≠ 0)
include hd

theorem State.requestLeave_one (s : State) (r : Nat) : s.requestLeave [(d, r)] =
    if (r = 1 ∧ domTakesRet d = false) ∨ (d = 1 ∧ r = 0) then s.setFld F.PWR_STATUS_DENIED 1
    else if (dependents d).any (s.holdsUp [(d, r)]) then s.setFld F.PWR_STATUS_DEPEND 1
    else s.setReq d r :=
  if_neg hd

theorem State.requestLeave_refused (h : (r = 1 ∧ domTakesRet d = false) ∨ (d = 1 ∧ r = 0)) (s : State) :
    s.requestLeave [(d, r)] = s.setFld F.PWR_STATUS_DENIED 1 :=
  (s.requestLeave_one hd r).trans (if_pos h)

section
variable (hr : (r = 0 ∧ d ≠ 1) ∨ (r = 1 ∧ domTakesRet d = true))
include hr

theorem State.requestLeave_allowed (s : State) : s.requestLeave [(d, r)] =
    if (dependents d).any (s.holdsUp [(d, r)]) then s.setFld F.PWR_STATUS_DEPEND 1 else s.setReq d r := by
  have hallowed : ¬ ((r = 1 ∧ domTakesRet d = false) ∨ (d = 1 ∧ r = 0)) := by
    rcases hr with ⟨rfl, h1⟩ | ⟨rfl, hret⟩
    · simp [h1]
    · simp [hret]
  exact (s.requestLeave_one hd r).trans (if_neg hallowed)

theorem State.requestLeave_held (he : e ∈ dependents d) (hup : s.dom e ≠ 0 ∨ s.domBusy e = true) :
    s.requestLeave [(d, r)] = s.setFld F.PWR_STATUS_DEPEND 1 :=
  (s.requestLeave_allowed hd hr).trans
    (if_pos (List.any_eq_true.mpr ⟨e, he, (s.holdsUp_one (ne_of_mem_dependents he) r).mpr hup⟩))

theorem State.requestLeave_taken (h : ∀ e ∈ dependents d, s.dom e = 0 ∧ s.domBusy e = false) :
    s.requestLeave [(d, r)] = s.setReq d r := by
  refine (s.requestLeave_allowed hd hr).trans (if_neg ?_)
  rw [List.any_eq_true]
  rintro ⟨e, he, hup⟩
  obtain ⟨hoff, hrest⟩ := h e he
  simpa [hoff, hrest] using (s.holdsUp_one (ne_of_mem_dependents he) r).mp hup

end

theorem State.writeDom_leave (hv : v % 4 = r) (hr : r ≤ 1) (s : State) (own : Bool) :
    s.writeDom d v own = (s.domModes d v).requestLeave [(d, r)] := by
  have hcase : r = 0 ∨ r = 1 := by omega
  rcases hcase with rfl | rfl
  · simp only [State.writeDom, hd, hv]
    rfl
  · simp only [State.writeDom, hd, hv]
    rfl

theorem State.writeDom_unlisted (hv : v % 4 = 3) (s : State) (own : Bool) :
    s.writeDom d v own = (s.domModes d v).setFld F.PWR_STATUS_DENIED 1 := by
  simp only [State.writeDom, hd, hv]
  rfl

end

/-! ### What a request leaves (R112, R117) -/

theorem State.contains_queueReq (s : State) (d v : Nat) (go : Bool) : (s.queueReq d v go).contains d = go := by
  cases go with
  | false => simp [State.queueReq]
  | true =>
    rw [State.queueReq, if_neg (by decide)]
    split_ifs with hsame
    · exact (Bool.and_eq_true_iff.mp hsame).1
    · simp

theorem State.setReq_idle (hb : s.domBusy d = false) (v : Nat) : s.setReq d v =
    { (s.setFld (F.PWR_DOM_REQ d) v).setFld (F.PWR_DOM_PEND d) (b2n (s.mustMove d v)) with
      waiting := s.queueReq d v (s.mustMove d v) } := by
  rw [State.setReq, hb]
  rfl

theorem State.fld_setReq (hb : s.domBusy d = false) (v : Nat) (g : Fld) : (s.setReq d v).fld g =
    ((s.setFld (F.PWR_DOM_REQ d) v).setFld (F.PWR_DOM_PEND d) (b2n (s.mustMove d v))).fld g := by
  rw [State.setReq_idle hb]
  rfl

theorem State.dom_setReq (hb : s.domBusy d = false) (v e : Nat) : (s.setReq d v).dom e = s.dom e := by
  have hreq := s.fld_setFld_apart (F.PWR_DOM_REQ d) (F.PWR_DOM_ACT e) v (show 0 + 2 ≤ 24 by decide)
    (.inr (.inr (show 0 + 2 ≤ 2 by decide)))
  have hpend := (s.setFld (F.PWR_DOM_REQ d) v).fld_setFld_apart (F.PWR_DOM_PEND d) (F.PWR_DOM_ACT e)
    (b2n (s.mustMove d v)) (show 5 + 1 ≤ 24 by decide) (.inr (.inl (show 2 + 2 ≤ 5 by decide)))
  rw [State.dom, State.fld_setReq hb, hpend, hreq, State.dom]

theorem State.domReq_setReq (hb : s.domBusy d = false) (hv : v < 4) : (s.setReq d v).domReq d = v := by
  have hreq := s.fld_setFld (F.PWR_DOM_REQ d) v (show 0 + 2 ≤ 24 by decide)
  have hpend := (s.setFld (F.PWR_DOM_REQ d) v).fld_setFld_apart (F.PWR_DOM_PEND d) (F.PWR_DOM_REQ d)
    (b2n (s.mustMove d v)) (show 5 + 1 ≤ 24 by decide) (.inr (.inl (show 0 + 2 ≤ 5 by decide)))
  rw [State.domReq, State.fld_setReq hb, hpend, hreq]
  exact Nat.mod_eq_of_lt hv

theorem State.pend_setReq (hb : s.domBusy d = false) (v : Nat) : (s.setReq d v).flag (F.PWR_DOM_PEND d) = s.mustMove d v := by
  have hpend := (s.setFld (F.PWR_DOM_REQ d) v).fld_setFld (F.PWR_DOM_PEND d) (b2n (s.mustMove d v))
    (show 5 + 1 ≤ 24 by decide)
  rw [State.flag, State.fld_setReq hb, hpend]
  cases s.mustMove d v <;> rfl

theorem State.waiting_setReq (hb : s.domBusy d = false) (v : Nat) : (s.setReq d v).waiting.contains d = s.mustMove d v := by
  rw [State.setReq_idle hb]
  exact s.contains_queueReq d v _

theorem State.mustMove_iff (s : State) (d v : Nat) : s.mustMove d v = true ↔ s.dom d ≠ v ∧ ¬(s.dom d = 0 ∧ v = 1) := by
  rw [State.mustMove, Bool.and_eq_true, bne_iff_ne, Bool.not_eq_true', ← Bool.not_eq_true, Bool.and_eq_true, beq_iff_eq,
    beq_iff_eq]

/-! ### Writers of the PWR block (R110) -/

/-- A write of one who may not make it is refused, unless its host port drops it. -/
theorem State.verdict_not_mayWrite (hbus : 0x01000000 ≤ a) (h : s.mayWrite ini a = false)
    (hg : s.gate ini a true ≠ .dropped) : s.verdict ini a true = .refused := by
  have hmap : s.mapVerdict ini a true = .refused := by
    cases hr : mayReach ini a <;> simp [State.mapVerdict, hr, hbus, h]
  cases hgate : s.gate ini a true with
  | dropped => exact absurd hgate hg
  | live => simp [State.verdict, hgate, hmap]
  | refused => simp [State.verdict, hgate]

theorem State.mayWrite_power (h1 : 0x05000000 ≤ a) (h2 : a < 0x05010000) (s : State) (ini : Initiator) :
    s.mayWrite ini a = isSvBoot ini := by
  have htile : tileOf a = none := if_neg (by omega)
  have hcluster : clusterOf a = none := if_neg (by omega)
  simp only [State.mayWrite, htile, hcluster]
  rw [if_neg (by omega), if_pos h2]

/-- Settles O10: a write of PWR_DOMd by the state it asks for, what the request leaves, and the write of another. -/
theorem domainRequests : Obligations.DomainRequests := by
  unfold Obligations.DomainRequests
  have hne {d : Fin 26} (hd : d ≠ 0) : d.val ≠ 0 := Fin.val_ne_zero_iff.mpr hd
  have write {s : State} {ini : Initiator} {d : Fin 26} {v : Word} {t : State} (ht : s.Takes ini (Reg.PWR_DOM d))
      (h : s.writeDom d v.toNat (ini == .boot) = t) : Becomes (.pwrDomRequest ini d v) s t :=
    congrArg ok ((State.cmdWrite_takes _ _ _ _ ht).trans h)
  refine ⟨?on, ?onDenied, ?leave, ?depend, ?denied, ?left, ?other⟩
  case on =>
    intro s ini d v ht hd hv h
    exact write ht (State.writeDom_on_taken (hne hd) hv (h.imp_right (.imp_left (.imp_left beq_iff_eq.mpr))))
  case onDenied =>
    intro s ini d v ht hd hv hmode hown hout
    exact write ht (State.writeDom_on_denied (hne hd) hv hmode (fun h => hown (beq_iff_eq.mp h)) hout)
  case leave =>
    intro s ini d v r ht hd hv hr hdown
    have hr' : r = 0 ∧ d.val ≠ 1 ∨ r = 1 ∧ domTakesRet d = true := hr.imp_left (.imp_right fun h h1 => h (Fin.ext h1))
    have hle : r ≤ 1 := by omega
    refine write ht ((State.writeDom_leave (hne hd) hv hle s _).trans (State.requestLeave_taken (hne hd) hr' fun e he => ?_))
    obtain ⟨hdom, -, hbusy⟩ := s.domain_domModes d v.toNat e
    rw [hdom, hbusy]
    exact hdown e he
  case depend =>
    intro s ini d v e ht hd hr he hup
    have hr' : v.toNat % 4 = 0 ∧ d.val ≠ 1 ∨ v.toNat % 4 = 1 ∧ domTakesRet d = true :=
      hr.imp_left (.imp_right fun h h1 => h (Fin.ext h1))
    have hle : v.toNat % 4 ≤ 1 := by omega
    refine write ht ((State.writeDom_leave (hne hd) rfl hle s _).trans (State.requestLeave_held (hne hd) hr' he ?_))
    obtain ⟨hdom, -, hbusy⟩ := s.domain_domModes d v.toNat e
    rw [hdom, hbusy]
    exact hup
  case denied =>
    intro s ini d v ht hd h
    rcases h with h3 | ⟨h0, rfl⟩ | ⟨h1, hret⟩
    · exact write ht (State.writeDom_unlisted (hne hd) h3 s _)
    · exact write ht ((State.writeDom_leave (hne hd) h0 (by decide) s _).trans
        (State.requestLeave_refused (hne hd) (.inr ⟨rfl, rfl⟩) _))
    · exact write ht ((State.writeDom_leave (hne hd) h1 (by decide) s _).trans
        (State.requestLeave_refused (hne hd) (.inl ⟨rfl, hret⟩) _))
  case left =>
    intro s d v e hb _ hv
    have hmove := s.mustMove_iff d v
    rw [← State.waiting_setReq hb v] at hmove
    exact ⟨State.domReq_setReq hb hv, State.dom_setReq hb v e,
      (State.pend_setReq hb v).trans (State.waiting_setReq hb v).symm, hmove⟩
  case other =>
    intro s ini d v hs hsl hsv hboot hg
    have hd := d.isLt
    have hmay : s.mayWrite ini (Reg.PWR_DOM d) = false := by
      rw [State.mayWrite_power (by dsimp only [Reg.PWR_DOM]; omega) (by dsimp only [Reg.PWR_DOM]; omega)]
      simp [isSvBoot, hsv, hboot]
    exact congrArg ok (State.cmdWrite_refused hs hsl
      (State.verdict_not_mayWrite (by dsimp only [Reg.PWR_DOM]; omega) hmay hg))

end Sys2Proof.Machine
end

section
/-! Transitions of domains (section 04): when one starts, what it shows while it runs, and how it ends (R109, R112, R115,
R117, R127). -/

namespace Sys2Proof.Machine

open Sys2Proof

variable {s : State} {d : Nat}

/-! ### Start (R112, R117) -/

section
variable (hw : s.waiting.contains d = true) (hb : s.domBusy d = false) (hrun : s.weather = .run)
include hw hb hrun

theorem State.moveStart_ready : s.moveStart d =
    if s.domReq d = 2 then if s.wouldRamp d && s.railFree d && s.inTurn d then s.beginMove d else s
    else if (dependents d).all (fun e => s.dom e == 0 && !s.domBusy e) && (s.dom d != 2 || s.domIdle d) then
      (s.beforeLeave d).beginMove d
    else s :=
  if_neg (by simp only [hw, hb, hrun]; decide)

theorem State.moveStart_ramps (hreq : s.domReq d = 2) (hneeds : ∀ e ∈ needs d, s.domOn e = true)
    (hrail : s.railFree d = true) (hturn : s.inTurn d = true) : s.moveStart d = s.beginMove d := by
  have hramp : s.wouldRamp d = true := by
    simp only [State.wouldRamp, hreq, hb, List.all_eq_true.mpr hneeds]
    decide
  rw [State.moveStart_ready hw hb hrun, if_pos hreq, if_pos (by simp only [hramp, hrail, hturn, Bool.and_true])]

theorem State.moveStart_leaves (hreq : s.domReq d ≠ 2) (hdown : ∀ e ∈ dependents d, s.dom e = 0 ∧ s.domBusy e = false)
    (hidle : s.domIdle d = true) : s.moveStart d = (s.beforeLeave d).beginMove d := by
  have hall : (dependents d).all (fun e => s.dom e == 0 && !s.domBusy e) = true :=
    List.all_eq_true.mpr fun e he => by
      obtain ⟨hoff, hrest⟩ := hdown e he
      rw [hoff, hrest]
      rfl
  rw [State.moveStart_ready hw hb hrun, if_neg hreq, if_pos (by simp only [hall, hidle, Bool.or_true, Bool.and_true])]

end

/-! ### While it runs (R115) -/

/-- BUSY in place of PEND. -/
def State.showMove (s : State) (d : Nat) : State := (s.setFld (F.PWR_DOM_PEND d) 0).setFld (F.PWR_DOM_BUSY d) 1

theorem State.beginMove_eq (s : State) (d : Nat) : s.beginMove d =
    { s.showMove d with
      waiting := s.waiting.filter (· != d), target := tabSet (fun _ => 2) s.target d (s.domReq d) } := rfl

theorem State.fld_beginMove (s : State) (d : Nat) (g : Fld) : (s.beginMove d).fld g = (s.showMove d).fld g := by
  rw [State.beginMove_eq]
  rfl

theorem State.fld_showMove_busy (s : State) (d : Nat) : (s.showMove d).fld (F.PWR_DOM_BUSY d) = 1 :=
  (s.setFld (F.PWR_DOM_PEND d) 0).fld_setFld (F.PWR_DOM_BUSY d) 1 (show 4 + 1 ≤ 24 by decide)

theorem State.fld_showMove_pend (s : State) (d : Nat) : (s.showMove d).fld (F.PWR_DOM_PEND d) = 0 :=
  ((s.setFld (F.PWR_DOM_PEND d) 0).fld_setFld_apart (F.PWR_DOM_BUSY d) (F.PWR_DOM_PEND d) 1 (show 4 + 1 ≤ 24 by decide)
    (.inr (.inr (show 4 + 1 ≤ 5 by decide)))).trans (s.fld_setFld (F.PWR_DOM_PEND d) 0 (show 5 + 1 ≤ 24 by decide))

theorem State.fld_showMove_act (s : State) (d : Nat) : (s.showMove d).fld (F.PWR_DOM_ACT d) = s.fld (F.PWR_DOM_ACT d) :=
  ((s.setFld (F.PWR_DOM_PEND d) 0).fld_setFld_apart (F.PWR_DOM_BUSY d) (F.PWR_DOM_ACT d) 1 (show 4 + 1 ≤ 24 by decide)
    (.inr (.inl (show 2 + 2 ≤ 4 by decide)))).trans
    (s.fld_setFld_apart (F.PWR_DOM_PEND d) (F.PWR_DOM_ACT d) 0 (show 5 + 1 ≤ 24 by decide)
      (.inr (.inl (show 2 + 2 ≤ 5 by decide))))

theorem State.beginMove_shows (s : State) (d : Nat) : (s.beginMove d).domBusy d = true ∧
    (s.beginMove d).fld (F.PWR_DOM_PEND d) = 0 ∧ (s.beginMove d).dom d = s.dom d ∧
    (s.beginMove d).waiting = s.waiting.filter (· != d) ∧ (s.beginMove d).domTarget d = s.domReq d := by
  have hbusy := (s.fld_beginMove d (F.PWR_DOM_BUSY d)).trans (s.fld_showMove_busy d)
  have hpend := (s.fld_beginMove d (F.PWR_DOM_PEND d)).trans (s.fld_showMove_pend d)
  have hact := (s.fld_beginMove d (F.PWR_DOM_ACT d)).trans (s.fld_showMove_act d)
  refine ⟨State.flag_of_one hbusy, hpend, hact, by rw [State.beginMove_eq], ?_⟩
  rw [State.domTarget, State.beginMove_eq, tabGet_tabSet_same]

/-! ### End (R81, R115, R127) -/

theorem State.moveDone_unlocked (htarget : s.domTarget d = 2) (hpll : s.pllReady d = false) : s.moveDone d = s :=
  if_neg (by simp [htarget, hpll])

theorem State.moveDone_ends (hb : s.domBusy d = true) (h : s.domTarget d = 2 → s.pllReady d = true) :
    (s.domBusy d && (s.domTarget d != 2 || s.pllReady d)) = true := by
  rcases eq_or_ne (s.domTarget d) 2 with htarget | htarget
  · simp [hb, h htarget]
  · simp [hb, htarget]

/-- Settles O11: a start in the two cases of the state asked for, what shows while the transition runs, and its end before
and after the lock of the PLL. -/
theorem domainTransitions : Obligations.DomainTransitions := by
  unfold Obligations.DomainTransitions
  refine ⟨fun s d hw hb hrun hreq hneeds hrail hturn =>
      congrArg ok (State.moveStart_ramps hw hb hrun hreq hneeds hrail hturn),
    fun s d hw hb hrun hreq hdown hidle => congrArg ok (State.moveStart_leaves hw hb hrun hreq hdown hidle),
    fun s d _ => s.beginMove_shows d, fun s d _ htarget hpll => congrArg ok (State.moveDone_unlocked htarget hpll), ?done⟩
  case done => exact fun s d hb h => congrArg ok (if_pos (State.moveDone_ends hb h))

end Sys2Proof.Machine
end

section
/-! What the loss of VDD_CORE and the loss of a domain leave of the PWR block (R109, R793). -/

namespace Sys2Proof.Machine

open Sys2Proof

variable {s t u : State} {p : Nat → Prop} {c d e n : Nat}

/-! ### The PWR block -/

/-- An address of the PWR block (Table PWR-8). -/
abbrev inPwr (a : Nat) : Prop := 0x05000000 ≤ a ∧ a < 0x05010000

theorem inPwr_dom (h : d < 26) : inPwr (Reg.PWR_DOM d) := by
  dsimp only [inPwr, Reg.PWR_DOM]
  omega

/-- The registers `p` picks and the producers that have fired are in `t` what they are in `s`. -/
def State.KeepsPower (p : Nat → Prop) (s t : State) : Prop := t.pulses = s.pulses ∧ s.HoldsRegs p t

theorem State.KeepsPower.refl (s : State) : s.KeepsPower p s := ⟨rfl, .refl s⟩

theorem State.KeepsPower.trans (h : s.KeepsPower p t) (h' : t.KeepsPower p u) : s.KeepsPower p u :=
  ⟨h'.1.trans h.1, h.2.trans h'.2⟩

theorem State.KeepsPower.mono {q : Nat → Prop} (h : s.KeepsPower p t) (hq : ∀ a, q a → p a) : s.KeepsPower q t :=
  ⟨h.1, h.2.mono hq⟩

theorem State.KeepsPower.fld (h : s.KeepsPower p t) {f : Fld} (hf : p f.addr) : t.fld f = s.fld f := h.2.fld hf

theorem State.KeepsPower.foldl {α : Type} {f : State → α → State} {l : List α}
    (hf : ∀ (u : State), ∀ x ∈ l, u.KeepsPower p (f u x)) (s : State) : s.KeepsPower p (l.foldl f s) :=
  List.foldlRecOn l f (.refl s) fun u hu x hx => hu.trans (hf u x hx)

theorem State.keepsPower_setFld (s : State) {f : Fld} (hf : ¬ p f.addr) (v : Nat) : s.KeepsPower p (s.setFld f v) :=
  ⟨rfl, (State.HoldsRegs.refl s).setFld hf v⟩

theorem State.keepsPower_clearRegs (s : State) {lo : Nat} (h : 0x05010000 ≤ lo) (hi : Nat) :
    s.KeepsPower inPwr (s.clearRegs lo hi) := ⟨rfl, (State.HoldsRegs.refl s).clearRegs fun _ ha => by omega⟩

/-- The tiles' blocks lie below the PWR block. -/
theorem State.keepsPower_clearBelow (s : State) {hi : Nat} (h : hi ≤ 0x05000000) (lo : Nat) :
    s.KeepsPower inPwr (s.clearRegs lo hi) := ⟨rfl, (State.HoldsRegs.refl s).clearRegs fun _ ha => by omega⟩

/-! ### Events to the host -/

theorem State.keepsPower_sendVec (s : State) (v : Nat) : s.KeepsPower inPwr (s.sendVec v) := by
  have hpend : ∀ a ∈ [Reg.HST_VPEND0, Reg.HST_VPEND1, Reg.HST_VPEND2], ¬ inPwr a := by decide
  rw [State.sendVec]
  split_ifs
  · exact .refl s
  · exact s.keepsPower_setFld (hpend _ (vpendFld_addr v)) 1
  · exact ⟨rfl, fun _ _ => rfl⟩
  · exact ⟨rfl, fun _ _ => rfl⟩

theorem State.keepsPower_hostEvent (s : State) (i : Nat) : s.KeepsPower inPwr (s.hostEvent i) := by
  have hbit : s.KeepsPower inPwr (s.setFbit ⟨Reg.HST_IRQSTAT, 0, 6⟩ i true) := s.keepsPower_setFld (by decide) _
  rw [State.hostEvent]
  split_ifs
  · exact .refl s
  · exact hbit.trans (State.keepsPower_sendVec _ _)
  · exact hbit

theorem State.keepsPower_flrSettle (s : State) : s.KeepsPower inPwr s.flrSettle := by
  have hdue : s.KeepsPower inPwr { s with flrDue := [] } := .refl s
  rw [State.flrSettle]
  split_ifs
  · exact hdue.trans (State.keepsPower_hostEvent _ 5)
  · exact .refl s

/-! ### The loss of a domain (R109) -/

theorem State.keepsPower_cutStep (s : State) (n : Nat) : s.KeepsPower p (s.cutStep n) := by
  rw [State.cutStep]
  split
  · split
    · exact .refl s
    · exact .refl s
  · exact .refl s

theorem State.keepsPower_refreshOver (s : State) (h : n < 32) : s.KeepsPower inPwr (s.refreshOver n) := by
  have hact := s.keepsPower_setFld (p := inPwr) (f := F.CAL_STAT_RFACT n) (by dsimp only [inPwr, Reg.CAL_STAT]; omega) 0
  rw [State.refreshOver]
  split_ifs
  · exact hact
  · exact hact

theorem State.keepsPower_clearTile (s : State) (h : n < 32) : s.KeepsPower inPwr (s.clearTile n) := by
  have hregs (v : State) (x : Tile) :
      v.KeepsPower inPwr ((v.setTile n x).clearRegs (Reg.TILE_CMD n - 0xC) (Reg.TILE_CMD n - 0xC + 0x8000)) :=
    (v.setTile n x).keepsPower_clearBelow (by dsimp only [Reg.TILE_CMD]; omega) _
  have hcut := s.keepsPower_cutStep (p := inPwr) n
  rw [State.clearTile]
  split
  · split
    · exact (hcut.trans (State.keepsPower_refreshOver _ h)).trans (hregs _ _)
    · exact hcut.trans (hregs _ _)
  · exact hcut.trans (hregs _ _)

theorem State.keepsPower_loseQuad (s : State) (h : n < 8) : s.KeepsPower inPwr (s.loseQuad n) := by
  have htiles : s.KeepsPower inPwr ((List.range 4).foldl (fun s i => s.clearTile (4 * n + i)) s) :=
    .foldl (fun u i hi => u.keepsPower_clearTile (by have := List.mem_range.mp hi; omega)) s
  rw [State.loseQuad]
  split_ifs
  · exact htiles
  · exact htiles.trans (State.keepsPower_setFld _ (f := F.CLK_PLLBC_BLOCK) (by decide) 0)

theorem State.keepsPower_clearUnits (s : State) (c : Nat) : s.KeepsPower inPwr (s.clearUnits c) := by
  have htally : s.KeepsPower inPwr (s.setTally c {}) := ⟨rfl, fun _ _ => rfl⟩
  have hmover (u : State) : u.KeepsPower inPwr (u.setMover c {}) := ⟨rfl, fun _ _ => rfl⟩
  have hdfa (u : State) : u.KeepsPower inPwr (u.setDfa c {}) := ⟨rfl, fun _ _ => rfl⟩
  rw [State.clearUnits]
  exact ((htally.trans (hmover _)).trans (hdfa _)).trans (State.keepsPower_clearRegs _ (by omega) _)

theorem State.keepsPower_loseCl (s : State) (c : Nat) : s.KeepsPower inPwr (s.loseCl c) := by
  have hmem (u : State) (lo hi : Nat) : u.KeepsPower inPwr (u.clearMem lo hi) := ⟨rfl, fun _ _ => rfl⟩
  have hlocal (u : State) : u.KeepsPower inPwr (u.clearLocal c) := ⟨rfl, fun _ _ => rfl⟩
  have hcore (u : State) : u.KeepsPower inPwr (u.clearCore c) := ⟨rfl, fun _ _ => rfl⟩
  have hfresh (u : State) : u.KeepsPower inPwr (u.setFresh c []) := ⟨rfl, fun _ _ => rfl⟩
  exact (((((s.keepsPower_clearUnits c).trans (hmem _ _ _)).trans (hlocal _)).trans (hcore _)).trans (hfresh _)).trans
    (State.keepsPower_flrSettle _)

theorem State.keepsPower_loseWir (s : State) : s.KeepsPower inPwr s.loseWir :=
  (State.keepsPower_clearRegs { s with wir := {} } (by decide) _).trans
    (State.keepsPower_setFld _ (f := F.CLK_PLLBC_CLOCK) (by decide) 0)

theorem State.keepsPower_loseHst (s : State) : s.KeepsPower inPwr s.loseHst :=
  (s.keepsPower_clearRegs (by decide) 0x050D0000).trans
    ((s.clearRegs 0x050B0000 0x050D0000).keepsPower_clearRegs (by decide) 0x08040000)

theorem State.keepsPower_loseNet (s : State) : s.KeepsPower inPwr s.loseNet := by
  refine ⟨rfl, fun a ha => ?_⟩
  have hout : (decide (0x06400000 ≤ a) && decide (a < 0x06410000) && !rndAon a) = false := by
    simp only [Bool.and_eq_false_iff, decide_eq_false_iff_not]
    omega
  rw [State.reg, State.loseNet, tabGet_tabClear, hout]
  rfl

/-- What a domain holds lies outside the PWR block. -/
theorem State.keepsPower_lose (s : State) (d : Nat) : s.KeepsPower inPwr (s.lose d) := by
  rw [State.lose]
  split_ifs
  · exact State.keepsPower_clearRegs { s with lnk := {} } (by decide) _
  · exact s.keepsPower_loseWir
  · exact s.keepsPower_loseHst
  · exact State.keepsPower_clearRegs { s with sns := {} } (by decide) _
  · exact State.keepsPower_clearRegs { s with cip := {}, pstPages := [], pstOp := none } (by decide) _
  · exact s.keepsPower_loseNet
  · exact s.keepsPower_loseCl _
  · exact .refl s
  · exact s.keepsPower_loseQuad (by omega)
  · exact .refl s

/-! ### The loss of VDD_CORE in Calm (R793) -/

/-- A domain that Calm kept in RET has lost what it kept. -/
def State.loseRet (s : State) (d : Nat) : State := if s.dom d = 1 then (s.setFld (F.PWR_DOM_ACT d) 0).lose d else s

/-- Every domain that Calm kept in RET has lost what it kept. -/
def State.loseRets (s : State) : State := ((List.range domains).drop 2).foldl State.loseRet s

/-- The tiles' CAL registers are lost. -/
def State.loseCal (s : State) : State :=
  (List.range 32).foldl (fun s n => s.clearRegs (0x01008000 + 0x10000 * n) (0x01010000 + 0x10000 * n)) s

/-- SUP has lost its trim sets, memories and registers, and SV, parked, has its pc at 0. -/
def State.loseSup (s : State) : State :=
  let t := { s with trimSets := [] }
  (t.clearLocal 4).setCore 4 { start := (t.core 4).start, run := (t.core 4).run }

theorem State.loseVddCore_eq (s : State) : s.loseVddCore = s.loseRets.loseCal.loseSup := by
  unfold State.loseVddCore State.loseSup State.loseCal State.loseRets State.loseRet
  rfl

theorem State.keepsPower_loseCal (s : State) : s.KeepsPower inPwr s.loseCal :=
  .foldl (fun u n hn => u.keepsPower_clearBelow (by have := List.mem_range.mp hn; omega) _) s

theorem State.keepsPower_loseSup (s : State) : s.KeepsPower p s.loseSup := ⟨rfl, fun _ _ => rfl⟩

/-- The registers of the PWR block below those of the domains. -/
abbrev pwrControl (a : Nat) : Prop := 0x05000000 ≤ a ∧ a < 0x05000100

theorem inPwr_of_pwrControl (a : Nat) (h : pwrControl a) : inPwr a := ⟨h.1, by omega⟩

theorem State.keepsPower_loseRet (s : State) (d : Nat) : s.KeepsPower pwrControl (s.loseRet d) := by
  rw [State.loseRet]
  split_ifs
  · exact (s.keepsPower_setFld (f := F.PWR_DOM_ACT d) (by dsimp only [pwrControl, Reg.PWR_DOM]; omega) 0).trans
      ((State.keepsPower_lose _ d).mono inPwr_of_pwrControl)
  · exact .refl s

theorem State.dom_loseRet (s : State) (d : Nat) (he : e < 26) :
    (s.loseRet d).dom e = if e = d ∧ s.dom d = 1 then 0 else s.dom e := by
  rw [State.loseRet]
  split_ifs with hret hboth hboth
  · obtain ⟨rfl, -⟩ := hboth
    exact ((State.keepsPower_lose _ e).fld (inPwr_dom he)).trans (s.fld_setFld (F.PWR_DOM_ACT e) 0 (show 2 + 2 ≤ 24 by decide))
  · have hne : e ≠ d := fun h => hboth ⟨h, hret⟩
    exact ((State.keepsPower_lose _ d).fld (f := F.PWR_DOM_ACT e) (inPwr_dom he)).trans
      (s.fld_setFld_addr (F.PWR_DOM_ACT d) (F.PWR_DOM_ACT e) 0 (by dsimp only [Reg.PWR_DOM]; omega))
  · exact absurd hboth.2 hret
  · rfl

/-- A domain that stood in RET is OFF once its turn has come, and stays OFF. -/
theorem State.dom_foldl_loseRet (he : e < 26) (l : List Nat) (s : State) (h : s.dom e = 0 ∨ (s.dom e = 1 ∧ e ∈ l)) :
    (l.foldl State.loseRet s).dom e = 0 := by
  induction l generalizing s with
  | nil => exact h.resolve_right fun h => List.not_mem_nil h.2
  | cons d l ih =>
    refine ih _ ?_
    rw [s.dom_loseRet d he]
    rcases h with h | ⟨h, hmem⟩
    · exact .inl (by rw [h, ite_self])
    · rcases List.mem_cons.mp hmem with rfl | hmem
      · exact .inl (if_pos ⟨rfl, h⟩)
      · split_ifs
        · exact .inl rfl
        · exact .inr ⟨h, hmem⟩

theorem State.dom_loseVddCore (h2 : 2 ≤ d) (hd : d < 26) (h : s.dom d = 1) : s.loseVddCore.dom d = 0 := by
  have hmem : d ∈ (List.range domains).drop 2 := by
    have hlist : ∀ n < 26, 2 ≤ n → n ∈ (List.range domains).drop 2 := by decide
    exact hlist d hd h2
  have hrets : s.loseRets.dom d = 0 := State.dom_foldl_loseRet hd _ s (.inr ⟨h, hmem⟩)
  rw [State.loseVddCore_eq, ← hrets]
  exact ((State.keepsPower_loseCal _).trans (State.keepsPower_loseSup _)).fld (f := F.PWR_DOM_ACT d) (inPwr_dom hd)

theorem State.keepsPower_loseVddCore (s : State) : s.KeepsPower pwrControl s.loseVddCore := by
  have hrets : s.KeepsPower pwrControl s.loseRets := .foldl (fun u d _ => u.keepsPower_loseRet d) s
  rw [State.loseVddCore_eq]
  exact (hrets.trans ((State.keepsPower_loseCal _).mono inPwr_of_pwrControl)).trans (State.keepsPower_loseSup _)

theorem State.pc_loseVddCore (s : State) : (s.loseVddCore.core 4).pc = 0 := by
  rw [State.loseVddCore_eq, State.loseSup, State.core_setCore_same]

end Sys2Proof.Machine
end

section
/-! The weather states (section 04): Breeze and Gale, Calm and its end, Frost (R109, R119-R123, R130, R793). -/

namespace Sys2Proof.Machine

open Sys2Proof

variable {s t : State} {d e v : Nat}

/-! ### MODE and CALM (R120, R121) -/

theorem State.writeMode_taken (h : v % 2 = 1 ∨ outsideBreeze s.lit = false) :
    s.writeMode v = s.setFld F.PWR_CTRL_MODE (v % 2) := by
  refine if_neg ?_
  rintro ⟨hzero, hout⟩
  rcases h with h | h
  · omega
  · simp [h] at hout

/-- CALMPEND with Frost no longer armed. -/
def State.calmAsked (s : State) : State := (s.setFld F.PWR_FROSTARM_ARM 0).setFld F.PWR_STATE_CALMPEND 1

theorem State.keepcalm_calmAsked (s : State) (d : Nat) :
    s.calmAsked.flag (F.PWR_DOM_KEEPCALM d) = s.flag (F.PWR_DOM_KEEPCALM d) := by
  have hkeep (u : State) {a lo w x : Nat} (ha : a < 0x05000100) :
      (u.setFld ⟨a, lo, w⟩ x).fld (F.PWR_DOM_KEEPCALM d) = u.fld (F.PWR_DOM_KEEPCALM d) :=
    u.fld_setFld_addr _ _ _ (by dsimp only [Reg.PWR_DOM]; omega)
  rw [State.flag, State.calmAsked, hkeep _ (by decide), hkeep _ (by decide), State.flag]

theorem State.calmBegin_eq (s : State) : s.calmBegin = s.calmAsked.requestLeave (((List.range 26).drop 2).map fun d =>
    (d, b2n (s.calmAsked.flag (F.PWR_DOM_KEEPCALM d) && domTakesRet d))) := by
  simp only [State.keepcalm_calmAsked]
  rfl

/-! ### Calm is entered (R121) -/

/-- Memory, tags and zones of `t` are those of `s`. -/
def State.SameRows (s t : State) : Prop := t.mem = s.mem ∧ t.tags = s.tags ∧ t.zones = s.zones

theorem State.SameRows.refl (s : State) : s.SameRows s := ⟨rfl, rfl, rfl⟩

theorem State.SameRows.trans {u : State} (h : s.SameRows t) (h' : t.SameRows u) : s.SameRows u :=
  ⟨h'.1.trans h.1, h'.2.1.trans h.2.1, h'.2.2.trans h.2.2⟩

theorem State.SameRows.setFld (h : s.SameRows t) (f : Fld) (v : Nat) : s.SameRows (t.setFld f v) := h.trans ⟨rfl, rfl, rfl⟩

/-- Armed stopwatches note that their clock stops. -/
def State.noteClkstop (s : State) : State :=
  (List.range 8).foldl (fun s i => if s.fld (F.EVF_SWSTAT_STATE i) = 1 then s.setFld (F.EVF_SWSTAT_CLKSTOP i) 1 else s) s

theorem State.sameRows_noteClkstop (s : State) : s.SameRows s.noteClkstop := by
  refine List.foldlRecOn (motive := s.SameRows) _ _ (.refl s) fun u hu i _ => ?_
  split_ifs
  · exact hu.setFld _ 1
  · exact hu

theorem State.sameRows_lnkHold (s : State) : s.SameRows s.lnkHold := by
  rw [State.lnkHold]
  split_ifs
  · exact .setFld ⟨rfl, rfl, rfl⟩ _ 1
  · exact .refl s

/-- The radio link takes its reference where Calm finds it in RET. -/
def State.linkReference (s : State) : State := if s.dom 3 = 1 then s.lnkHold else s

theorem State.sameRows_linkReference (s : State) : s.SameRows s.linkReference := by
  rw [State.linkReference]
  split_ifs
  · exact s.sameRows_lnkHold
  · exact .refl s

/-- SUP goes to RET; PLL_A and the XO stop. -/
def State.supToRet (s : State) : State :=
  ((((((s.setFld F.PWR_STATE_CALMPEND 0).setFld (F.PWR_DOM_ACT 1) 1).setFld F.CLK_PLLA_EN 0).setFld F.CLK_PLLA_LOCK
    0).setFld F.CLK_STATUS_XOOK 0).setFld F.CLK_CORESEL_SRC 0).setFld F.CLK_CORESEL_BUSY 0

theorem State.sameRows_supToRet (s : State) : s.SameRows s.supToRet :=
  (((((((State.SameRows.refl s).setFld _ 0).setFld _ 1).setFld _ 0).setFld _ 0).setFld _ 0).setFld _ 0).setFld _ 0

theorem State.supToRet_shows (s : State) : s.supToRet.dom 1 = 1 ∧ s.supToRet.fld F.PWR_STATE_CALMPEND = 0 ∧
    s.supToRet.fld F.CLK_PLLA_EN = 0 ∧ s.supToRet.fld F.CLK_PLLA_LOCK = 0 ∧ s.supToRet.fld F.CLK_CORESEL_SRC = 0 := by
  simp [State.supToRet, State.dom, State.fld_setFld, State.fld_setFld_addr, State.fld_setFld_bits, Reg.PWR_DOM]

theorem State.calmEnter_enters (hp : s.fld F.PWR_STATE_CALMPEND = 1) (hrun : s.weather = .run) (hready : s.calmReady = true)
    (hwait : (s.core 4).run = .wait) (hopen : (s.core 4).sealedSt = false) (hb : s.domBusy 1 = false) :
    s.calmEnter = { s.noteClkstop.linkReference.supToRet with weather := .calm } := by
  have hidle : s.domIdle 1 = true := by simp [State.domIdle, hwait, hopen]
  rw [State.calmEnter, if_pos (by simp only [State.flag_of_one hp, hrun, hready, hidle, hb]; decide)]
  rfl

/-! ### The end of Calm (R122, R793) -/

/-- An enabled source has ended Calm, before SV goes on. -/
def State.supToOn (s : State) (src : WakeSource) : State :=
  (({ s with weather := .run }.setFld (F.PWR_DOM_ACT 1) 2).setFld F.CLK_STATUS_XOOK 1).setFld F.PWR_WAKECAUSE_CAUSE
    (2 ^ wakeBit src)

/-- A core that waits runs. -/
def CoreSt.resumed (c : CoreSt) : CoreSt := if c.run = .wait then { c with run := .run, wake := false } else c

theorem CoreSt.resumed_run (c : CoreSt) (h : c.run = .wait) : c.resumed.run = .run := by rw [CoreSt.resumed, if_pos h]

theorem CoreSt.resumed_pc (c : CoreSt) : c.resumed.pc = c.pc := by
  rw [CoreSt.resumed]
  split_ifs <;> rfl

theorem State.calmExit_eq (s : State) (src : WakeSource) :
    s.calmExit src = ((s.supToOn src).setCore 4 ((s.supToOn src).core 4).resumed).fire (wakeProducer src) := by
  unfold State.calmExit State.supToOn CoreSt.resumed
  rfl

theorem State.core_supToOn (s : State) (src : WakeSource) (k : Nat) : (s.supToOn src).core k = s.core k := by
  rw [State.supToOn, State.core_setFld, State.core_setFld, State.core_setFld]
  rfl

theorem State.core_calmExit (s : State) (src : WakeSource) : (s.calmExit src).core 4 = (s.core 4).resumed := by
  rw [State.calmExit_eq, State.core_fire, State.core_setCore_same, State.core_supToOn]

/-- The weather is RUN, the producer fired, and neither rows nor tags moved. -/
theorem State.calmExit_leaves (s : State) (src : WakeSource) : (s.calmExit src).weather = .run ∧
    (s.calmExit src).pulses = s.pulses ++ [wakeProducer src] ∧ (s.calmExit src).mem = s.mem ∧
    (s.calmExit src).tags = s.tags := by
  rw [State.calmExit_eq]
  simp [State.supToOn, State.fire]

theorem State.reg_calmExit (s : State) (src : WakeSource) (a : Nat) : (s.calmExit src).reg a = (s.supToOn src).reg a := by
  rw [State.calmExit_eq]
  rfl

theorem State.fld_calmExit (s : State) (src : WakeSource) (g : Fld) : (s.calmExit src).fld g = (s.supToOn src).fld g := by
  rw [State.fld, State.reg_calmExit, State.fld]

theorem wakeBit_lt (src : WakeSource) : wakeBit src < 4 := by cases src <;> simp [wakeBit]

theorem State.calmExit_shows (s : State) (src : WakeSource) :
    (s.calmExit src).dom 1 = 2 ∧ (s.calmExit src).fld F.PWR_WAKECAUSE_CAUSE = 2 ^ wakeBit src := by
  have hcause : 2 ^ wakeBit src < 2 ^ 4 := Nat.pow_lt_pow_right (by decide) (wakeBit_lt src)
  rw [State.dom, State.fld_calmExit, State.fld_calmExit]
  refine ⟨?_, (State.fld_setFld _ _ _ (by decide)).trans (Nat.mod_eq_of_lt hcause)⟩
  simp [State.supToOn, State.fld_setFld, State.fld_setFld_addr, Reg.PWR_DOM]

theorem State.keepsRegs_calmExit (s : State) (src : WakeSource) :
    s.KeepsRegs (s.calmExit src) [Reg.PWR_DOM 1, Reg.PWR_WAKECAUSE, Reg.CLK_STATUS] := by
  have hrun : s.KeepsRegs { s with weather := .run } [Reg.PWR_DOM 1, Reg.PWR_WAKECAUSE, Reg.CLK_STATUS] := fun _ _ => rfl
  have hon := ((hrun.setFld (F.PWR_DOM_ACT 1) 2 (by decide)).setFld F.CLK_STATUS_XOOK 1 (by decide)).setFld
    F.PWR_WAKECAUSE_CAUSE (2 ^ wakeBit src) (by decide)
  exact fun a ha => (s.reg_calmExit src a).trans (hon a ha)

theorem State.dom_calmExit (s : State) (src : WakeSource) (h2 : 2 ≤ d) (hd : d < 26) : (s.calmExit src).dom d = s.dom d := by
  have hnot : Reg.PWR_DOM d ∉ [Reg.PWR_DOM 1, Reg.PWR_WAKECAUSE, Reg.CLK_STATUS] := by
    simp only [List.mem_cons, List.not_mem_nil, Reg.PWR_DOM, Reg.PWR_WAKECAUSE, Reg.CLK_STATUS, or_false]
    omega
  exact (s.keepsRegs_calmExit src).fld (f := F.PWR_DOM_ACT d) hnot

theorem State.wakeEnabled_loseVddCore (s : State) (src : WakeSource) : s.loseVddCore.wakeEnabled src = s.wakeEnabled src := by
  obtain ⟨-, hregs⟩ := s.keepsPower_loseVddCore
  have hgpio : s.loseVddCore.reg Reg.PWR_GPIOWAKE = s.reg Reg.PWR_GPIOWAKE := hregs _ (by decide)
  have hen : s.loseVddCore.reg Reg.PWR_WAKEEN = s.reg Reg.PWR_WAKEEN := hregs _ (by decide)
  have hsel : s.loseVddCore.wakeSelected src = s.wakeSelected src := by
    cases src with
    | gpio g rise => simp only [State.wakeSelected, State.fbit, State.fld, hgpio]
    | _ => rfl
  rw [State.wakeEnabled, hsel, hen, State.wakeEnabled]

theorem State.calmWake_calm (hw : s.weather = .calm) (src : WakeSource) (lost : Bool) : s.calmWake src lost =
    if (if lost then s.loseVddCore else s).wakeEnabled src then (if lost then s.loseVddCore else s).calmExit src
    else if lost then s.loseVddCore else s := by
  rw [State.calmWake, hw]

theorem State.calmWake_lost (hw : s.weather = .calm) {src : WakeSource} (he : s.wakeEnabled src = true) :
    s.calmWake src true = s.loseVddCore.calmExit src := by
  rw [State.calmWake_calm hw, if_pos rfl, if_pos (by rw [State.wakeEnabled_loseVddCore, he])]

theorem State.calmWake_running (hw : s.weather = .run) (hs : s.stopped = false) (src : WakeSource) (lost : Bool) :
    s.calmWake src lost =
      if s.flag F.PWR_STATE_CALMPEND && s.wakeEnabled src then
        ((s.cancelLeaves.setFld F.PWR_STATE_CALMPEND 0).setFld F.PWR_STATUS_CALMABORT 1).fire (wakeProducer src)
      else if src ≠ .rtc ∧ s.wakeSelected src = true then s.fire (wakeProducer src)
      else s := by
  rw [State.calmWake, hw]
  exact if_neg (by simp [hs])

/-! ### Frost (R120, R123) -/

/-- ACT and REQ of a domain at OFF. -/
def State.putOff (s : State) (d : Nat) : State := (s.setFld (F.PWR_DOM_ACT d) 0).setFld (F.PWR_DOM_REQ d) 0

theorem State.putOff_shows (s : State) (d e : Nat) : (s.putOff d).dom e = (if e = d then 0 else s.dom e) ∧
    (s.putOff d).domReq e = if e = d then 0 else s.domReq e := by
  rcases eq_or_ne e d with rfl | hne
  · simp [State.putOff, State.dom, State.domReq, State.fld_setFld, State.fld_setFld_bits]
  · have haddr : ¬ Reg.PWR_DOM e = Reg.PWR_DOM d := by
      dsimp only [Reg.PWR_DOM]
      omega
    simp [State.putOff, State.dom, State.domReq, State.fld_setFld_addr, hne]

theorem State.foldl_putOff_shows (l : List Nat) (s : State) (h : e ∈ l ∨ (s.dom e = 0 ∧ s.domReq e = 0)) :
    (l.foldl State.putOff s).dom e = 0 ∧ (l.foldl State.putOff s).domReq e = 0 := by
  induction l generalizing s with
  | nil => exact h.resolve_left List.not_mem_nil
  | cons d l ih =>
    obtain ⟨hdom, hreq⟩ := s.putOff_shows d e
    refine ih _ ?_
    rw [hdom, hreq]
    rcases eq_or_ne e d with rfl | hne
    · simp
    · simpa [hne] using h

/-- Nothing but registers differs between `s` and `t`. -/
def State.RegsOnly (s t : State) : Prop := t = { s with regs := t.regs }

theorem State.regsOnly_foldl_putOff (l : List Nat) (s : State) : s.RegsOnly (l.foldl State.putOff s) := by
  refine List.foldlRecOn (motive := s.RegsOnly) _ _ rfl fun u hu d _ => ?_
  rw [State.RegsOnly] at hu ⊢
  rw [hu]
  rfl

/-- What Frost leaves, the domains' states apart. -/
def State.frozen (s : State) : State := { s.powerOn with weather := .frost }

theorem State.frost_armed (h : s.fld F.PWR_FROSTARM_ARM = 1) : s.frost = (List.range 26).foldl State.putOff s.frozen :=
  if_pos (State.flag_of_one h)

/-- The supply's return leaves nothing volatile, and the fuses. -/
theorem State.powerOn_leaves (s : State) : s.powerOn.weather = .run ∧ s.powerOn.regs = State.reset.regs ∧
    s.powerOn.mem = [] ∧ s.powerOn.tags = [] ∧ s.powerOn.zones = [] ∧ s.powerOn.rtc = {} ∧ s.powerOn.cores = [] ∧
    s.powerOn.fuses = s.fuses := by
  obtain ⟨-, hfuses⟩ := s.supplyLost_keeps
  dsimp only [State.supplyLost] at hfuses
  exact ⟨rfl, rfl, rfl, rfl, rfl, rfl, rfl, hfuses⟩

theorem State.frost_leaves (h : s.fld F.PWR_FROSTARM_ARM = 1) : s.frost.weather = .frost ∧
    (∀ d : Nat, d < 26 → s.frost.dom d = 0 ∧ s.frost.domReq d = 0) ∧ s.frost.mem = [] ∧ s.frost.tags = [] ∧
    s.frost.zones = [] ∧ s.frost.rtc = {} ∧ s.frost.cores = [] ∧ s.frost.fuses = s.fuses := by
  obtain ⟨-, -, hm, ht, hz, hr, hc, hf⟩ := s.powerOn_leaves
  have hoff (d : Nat) (hd : d < 26) := State.foldl_putOff_shows (List.range 26) s.frozen (.inl (List.mem_range.mpr hd))
  have honly := State.regsOnly_foldl_putOff (List.range 26) s.frozen
  rw [State.frost_armed h]
  rw [State.frozen] at hoff honly ⊢
  generalize s.powerOn = r at *
  refine ⟨?_, hoff, ?_, ?_, ?_, ?_, ?_, ?_⟩
  · rw [honly]
  all_goals
    rw [honly]
    assumption

theorem State.frostWake_eq (h : s.weather = .frost) :
    s.frostWake = { s.powerOn.setFld F.PWR_STATUS_FROSTEXIT 1 with held := { por := true } } := if_pos h

theorem State.frostWake_leaves (h : s.weather = .frost) : s.frostWake.held = { por := true } ∧ s.frostWake.weather = .run ∧
    s.frostWake.fld F.PWR_STATUS_FROSTEXIT = 1 ∧ (∀ d : Nat, d < 26 → s.frostWake.dom d = if d < 2 then 2 else 0) ∧
    s.frostWake.zones = [] ∧ s.frostWake.rtc = {} ∧ s.frostWake.fuses = s.fuses := by
  obtain ⟨hw, hregs, -, -, hz, hr, -, hf⟩ := s.powerOn_leaves
  rw [State.frostWake_eq h]
  generalize s.powerOn = r at hw hregs hz hr hf ⊢
  refine ⟨rfl, hw, r.fld_setFld F.PWR_STATUS_FROSTEXIT 1 (by decide), fun d hd => ?_, hz, hr, hf⟩
  have hexit := r.fld_setFld_addr F.PWR_STATUS_FROSTEXIT (F.PWR_DOM_ACT d) 1 (by dsimp only [Reg.PWR_DOM, Reg.PWR_STATUS]; omega)
  rw [← State.dom_reset hd]
  exact hexit.trans (State.fld_congr State.reset r _ hregs)

/-! ### What the commands do -/

/-- Settles O12: each command is its function of the model in the case its hypotheses describe, and what the entry of Calm,
its end and Frost leave is said above. -/
theorem weatherCommands : Obligations.WeatherCommands := by
  unfold Obligations.WeatherCommands
  have takes {s : State} {ini : Initiator} {a : Nat} {f : State → State} {t : State} (ht : s.Takes ini a) (h : f s = t) :
      (ok (s.cmdWrite ini a f) : Host.Outcome State Fault Refusal) = .next t :=
    congrArg ok ((State.cmdWrite_takes _ _ _ _ ht).trans h)
  refine ⟨fun s ini v ht h => takes ht (State.writeMode_taken h), fun s ini v ht hv hout => takes ht (if_pos ⟨hv, hout⟩),
    fun s ini ht => takes ht s.calmBegin_eq, ?enter, ?wake, ?wakeLost, ?asleep, ?pin, ?abort, fun s ini ht => takes ht rfl,
    fun s => rfl, fun s ini ht h => ok_cmdWrite ht (State.frost_leaves h),
    fun s ini ht h => takes ht (if_neg (by simp [State.flag_of_zero h])), ?frostWake⟩
  case enter =>
    intro s hp hrun hready hwait hopen hb
    obtain ⟨hdom, hpend, hen, hlock, hsrc⟩ := s.noteClkstop.linkReference.supToRet_shows
    obtain ⟨hmem, htags, hzones⟩ := (s.sameRows_noteClkstop.trans (State.sameRows_linkReference _)).trans
      (State.sameRows_supToRet _)
    have henter := State.calmEnter_enters hp hrun hready hwait hopen hb
    generalize s.noteClkstop.linkReference.supToRet = r at hdom hpend hen hlock hsrc hmem htags hzones henter
    exact ⟨_, congrArg ok henter, rfl, hdom, hpend, hen, hlock, hsrc, hmem, htags, hzones⟩
  case wake =>
    intro s src hw he
    obtain ⟨hdom, hcause⟩ := s.calmExit_shows src
    obtain ⟨hrun, hpulses, hmem, htags⟩ := s.calmExit_leaves src
    have hcore : (s.core 4).run = .wait → ((s.calmExit src).core 4).run = .run := fun h => by
      rw [State.core_calmExit, CoreSt.resumed_run _ h]
    exact ⟨s.calmExit src, congrArg ok ((State.calmWake_calm hw src false).trans (if_pos he)), hrun, hdom, hcause, hpulses,
      hcore, s.keepsRegs_calmExit src, hmem, htags⟩
  case wakeLost =>
    intro s src hw he
    obtain ⟨hdom, -⟩ := s.loseVddCore.calmExit_shows src
    obtain ⟨hrun, hpulses, -⟩ := s.loseVddCore.calmExit_leaves src
    obtain ⟨hkept, -⟩ := s.keepsPower_loseVddCore
    rw [hkept] at hpulses
    have hoff (d : Nat) (h2 : 2 ≤ d) (hd : d < 26) (hret : s.dom d = 1) : (s.loseVddCore.calmExit src).dom d = 0 := by
      rw [State.dom_calmExit _ src h2 hd, State.dom_loseVddCore h2 hd hret]
    have hpc : ((s.loseVddCore.calmExit src).core 4).pc = 0 := by
      rw [State.core_calmExit, CoreSt.resumed_pc, State.pc_loseVddCore]
    exact ⟨_, congrArg ok (State.calmWake_lost hw he), hrun, hdom, hpulses, hoff, hpc⟩
  case asleep =>
    intro s src hw he
    exact congrArg ok ((State.calmWake_calm hw src false).trans (if_neg (by simp [he])))
  case pin =>
    rintro s lost ⟨he, hs⟩ hw hp
    refine congrArg ok ((State.calmWake_running hw hs .pin lost).trans ?_)
    rw [if_neg (by simp [State.flag_of_zero hp])]
    rfl
  case abort =>
    intro s src lost hs hw hp he
    exact congrArg ok ((State.calmWake_running hw hs src lost).trans (if_pos (by rw [State.flag_of_one hp, he]; rfl)))
  case frostWake =>
    intro s h
    obtain ⟨hheld, hrun, hexit, hdom, hzones, hrtc, hfuses⟩ := State.frostWake_leaves h
    exact ⟨s.frostWake, rfl, hheld, hrun, hexit, hdom 1 (by decide),
      fun d hd h2 => (hdom d hd).trans (if_neg (Nat.not_lt.mpr h2)), hzones, hrtc, hfuses⟩

end Sys2Proof.Machine
end

section
/-! What the commands of the boot loader are made of (section 05): updates of the loader's own record, requests for ON,
rows cleared, and the stage a command acts in (R137). -/

namespace Sys2Proof.Machine

open Sys2Proof

variable {s t u : State} {p : Nat → Prop} {l m : List Nat} {a c d n : Nat}

/-! ### Registers that stand -/

theorem State.KeepsRegs.trans (h : s.KeepsRegs t l) (h' : t.KeepsRegs u l) : s.KeepsRegs u l :=
  fun a ha => (h' a ha).trans (h a ha)

theorem State.KeepsRegs.mono (h : s.KeepsRegs t l) (hm : ∀ a ∈ l, a ∈ m) : s.KeepsRegs t m :=
  fun a ha => h a fun hl => ha (hm a hl)

theorem State.KeepsRegs.flag (h : s.KeepsRegs t l) {f : Fld} (hf : f.addr ∉ l) : t.flag f = s.flag f := by
  rw [State.flag, h.fld hf, State.flag]

theorem State.KeepsRegs.foldl {α : Type} {f : State → α → State} {xs : List α} (h : s.KeepsRegs t l)
    (hf : ∀ (u : State), ∀ x ∈ xs, u.KeepsRegs (f u x) l) : s.KeepsRegs (xs.foldl f t) l :=
  State.HoldsRegs.foldl (p := (· ∉ l)) h hf

theorem State.flag_setFld (s : State) (f : Fld) (h : f.lo + f.w ≤ 24) (hw : f.w ≠ 0) (b : Bool) :
    (s.setFld f (b2n b)).flag f = b := by
  have hpow : 2 ≤ 2 ^ f.w := Nat.pow_le_pow_right (n := 2) (by decide) (Nat.one_le_iff_ne_zero.mpr hw)
  rw [State.flag, s.fld_setFld f _ h]
  cases b with
  | false => rfl
  | true => rw [b2n_true, Nat.mod_eq_of_lt (by omega)]; rfl

/-- Whether a domain is ON stands in its register and in the table of targets. -/
theorem State.domOn_congr (hreg : t.reg (Reg.PWR_DOM d) = s.reg (Reg.PWR_DOM d)) (htarget : t.target = s.target) :
    t.domOn d = s.domOn d := by
  have hfld (lo w : Nat) : t.fld ⟨Reg.PWR_DOM d, lo, w⟩ = s.fld ⟨Reg.PWR_DOM d, lo, w⟩ := by
    simp only [State.fld, hreg]
  rw [State.domOn, State.dom, State.flag, hfld, hfld, htarget]
  rfl

/-! ### The loader's own record -/

/-- The loader's record set. -/
def State.setBoot (s : State) (b : BootSt) : State := { s with boot := b }

@[simp] theorem State.setBoot_boot (s : State) (b : BootSt) : (s.setBoot b).boot = b := rfl
@[simp] theorem State.setBoot_mem (s : State) (b : BootSt) : (s.setBoot b).mem = s.mem := rfl
@[simp] theorem State.setBoot_tags (s : State) (b : BootSt) : (s.setBoot b).tags = s.tags := rfl
@[simp] theorem State.setBoot_cores (s : State) (b : BootSt) : (s.setBoot b).cores = s.cores := rfl
@[simp] theorem State.setBoot_zones (s : State) (b : BootSt) : (s.setBoot b).zones = s.zones := rfl
@[simp] theorem State.setBoot_cip (s : State) (b : BootSt) : (s.setBoot b).cip = s.cip := rfl
@[simp] theorem State.setBoot_fuses (s : State) (b : BootSt) : (s.setBoot b).fuses = s.fuses := rfl
@[simp] theorem State.setBoot_shadow (s : State) (b : BootSt) : (s.setBoot b).shadow = s.shadow := rfl
@[simp] theorem State.setBoot_target (s : State) (b : BootSt) : (s.setBoot b).target = s.target := rfl
@[simp] theorem State.setBoot_flrWaits (s : State) (b : BootSt) : (s.setBoot b).flrWaits = s.flrWaits := rfl
@[simp] theorem State.fld_setBoot (s : State) (b : BootSt) (f : Fld) : (s.setBoot b).fld f = s.fld f := rfl
@[simp] theorem State.byte_setBoot (s : State) (b : BootSt) (a : Nat) : (s.setBoot b).byte a = s.byte a := rfl

theorem State.KeepsRegs.setBoot (h : s.KeepsRegs t l) (b : BootSt) : s.KeepsRegs (t.setBoot b) l := h

theorem State.flashDo_eq (s : State) (ops : List FlashOp) :
    s.flashDo ops = s.setBoot { s.boot with flash := s.boot.flash ++ ops } := rfl

theorem State.flashDo_flashDo (s : State) (ops ops' : List FlashOp) :
    (s.flashDo ops).flashDo ops' = s.flashDo (ops ++ ops') := by
  simp only [State.flashDo, List.append_assoc]

theorem State.floatFlash_eq (s : State) : s.floatFlash =
    s.setBoot { s.boot with flash := s.boot.flash ++ [.csHigh, .floating], floating := true } := rfl

/-! ### Requests for ON (R111) -/

/-- The domains a request for ON of several domains asks for. -/
def askedAll (ds : List Nat) : List Nat :=
  (List.range domains).filter fun d => d != 0 && (ds.flatMap withNeeds).contains d

/-- Domains asked to be ON. -/
def State.askOn (s : State) (l : List Nat) : State := l.foldl (fun t d => t.setReq d 2) s

/-- The loader's own requests before DONE are outside the Breeze limits (R119, R153). -/
theorem State.requestOn_exempt (s : State) (ds : List Nat) : (s.requestOn ds true).1 = s.askOn (askedAll ds) := rfl

theorem mem_askedAll {ds : List Nat} (h : d ∈ ds) (h0 : d ≠ 0) (hd : d < 26) : d ∈ askedAll ds := by
  have hneeds : d ∈ ds.flatMap withNeeds := List.mem_flatMap.mpr ⟨d, h, List.mem_cons_self⟩
  exact List.mem_filter.mpr ⟨List.mem_range.mpr hd, by simp [h0, hneeds]⟩

theorem lt_of_mem_askedAll {ds : List Nat} (h : d ∈ askedAll ds) : d < 26 :=
  List.mem_range.mp (List.mem_of_mem_filter h)

/-- Nothing but registers and the order of waiting requests differs between `s` and `t`. -/
def State.OnlyAsks (s t : State) : Prop := t = { s with regs := t.regs, waiting := t.waiting }

theorem State.OnlyAsks.trans (h : s.OnlyAsks t) (h' : t.OnlyAsks u) : s.OnlyAsks u := by
  rw [State.OnlyAsks] at h h' ⊢
  rw [h', h]

theorem State.OnlyAsks.setFld (h : s.OnlyAsks t) (f : Fld) (v : Nat) : s.OnlyAsks (t.setFld f v) := h.trans rfl

theorem State.onlyAsks_setReq (s : State) (d v : Nat) : s.OnlyAsks (s.setReq d v) := by
  rw [State.setReq]
  split_ifs <;> rfl

theorem State.onlyAsks_askOn (s : State) (l : List Nat) : s.OnlyAsks (s.askOn l) :=
  List.foldlRecOn (motive := s.OnlyAsks) l _ rfl fun u hu d _ => hu.trans (u.onlyAsks_setReq d 2)

theorem State.keepsRegs_setReq (s : State) (d v : Nat) : s.KeepsRegs (s.setReq d v) [Reg.PWR_DOM d] := by
  have hreq := (State.KeepsRegs.refl (s := s) [Reg.PWR_DOM d]).setFld (F.PWR_DOM_REQ d) v List.mem_cons_self
  rw [State.setReq]
  split_ifs
  · exact hreq
  · exact hreq.setFld (F.PWR_DOM_PEND d) _ List.mem_cons_self

theorem State.keepsRegs_askOn (s : State) (l : List Nat) : s.KeepsRegs (s.askOn l) (l.map Reg.PWR_DOM) :=
  (State.KeepsRegs.refl _).foldl fun u d hd => (u.keepsRegs_setReq d 2).mono fun a ha => by
    rw [List.mem_singleton.mp ha]
    exact List.mem_map_of_mem hd

/-- A request stands in REQ whether a transition runs or not (R127). -/
theorem State.req_setReq (s : State) (d v : Nat) : (s.setReq d v).domReq d = v % 4 := by
  have hreq := s.fld_setFld (F.PWR_DOM_REQ d) v (show 0 + 2 ≤ 24 by decide)
  have hpend (x : Nat) := (s.setFld (F.PWR_DOM_REQ d) v).fld_setFld_apart (F.PWR_DOM_PEND d) (F.PWR_DOM_REQ d) x
    (show 5 + 1 ≤ 24 by decide) (.inr (.inl (show 0 + 2 ≤ 5 by decide)))
  rw [State.setReq]
  split_ifs
  · exact hreq
  · exact (hpend _).trans hreq

theorem State.req_setReq_other (s : State) {e : Nat} (h : e ≠ d) (v : Nat) : (s.setReq e v).domReq d = s.domReq d :=
  (s.keepsRegs_setReq e v).fld (f := F.PWR_DOM_REQ d) fun hmem => by
    have := List.mem_singleton.mp hmem
    dsimp only [Reg.PWR_DOM] at this
    omega

theorem State.domReq_askOn (h : d ∈ l) (s : State) : (s.askOn l).domReq d = 2 := by
  have later (l : List Nat) (u : State) (hu : u.domReq d = 2) : (u.askOn l).domReq d = 2 :=
    List.foldlRecOn (motive := fun v : State => v.domReq d = 2) l _ hu fun v hv e _ => by
      rcases eq_or_ne e d with rfl | hne
      · exact v.req_setReq e 2
      · exact (v.req_setReq_other hne 2).trans hv
  induction l generalizing s with
  | nil => exact absurd h List.not_mem_nil
  | cons e l ih =>
    rcases List.mem_cons.mp h with rfl | h
    · exact later l _ (s.req_setReq d 2)
    · exact ih h _

/-- Outside the domains' own registers nothing shows a request. -/
theorem State.reg_askOn_apart (hl : ∀ d ∈ l, d < 26) (ha : a < 0x05000100 ∨ 0x05000168 ≤ a) (s : State) :
    (s.askOn l).reg a = s.reg a := by
  refine s.keepsRegs_askOn l a fun hmem => ?_
  obtain ⟨d, hd, hda⟩ := List.mem_map.mp hmem
  have hlt := hl d hd
  dsimp only [Reg.PWR_DOM] at hda
  omega

theorem State.fld_askOn_apart (hl : ∀ d ∈ l, d < 26) {f : Fld} (hf : f.addr < 0x05000100 ∨ 0x05000168 ≤ f.addr)
    (s : State) : (s.askOn l).fld f = s.fld f := by
  rw [State.fld, State.reg_askOn_apart hl hf, State.fld]

/-! ### Rows cleared (R174) -/

/-- Registers that a clearing of SPc writes. -/
abbrev clearRegsOf (c : Nat) : List Nat := [Reg.SPD_CLRCNT c, Reg.SEAL_RINGWP c, Reg.SEAL_RINGRP c]

theorem State.keepsRegs_clearScratch (s : State) (c : Nat) : s.KeepsRegs (s.clearScratch c) (clearRegsOf c) := by
  have hrows : s.KeepsRegs ((s.zeroRows c).setFresh c []) (clearRegsOf c) := fun _ _ => rfl
  exact ((hrows.setFld (F.SEAL_RINGWP_WP c) 0 (by simp)).setFld (F.SEAL_RINGRP_RP c) 0 (by simp)).setFld
    (F.SPD_CLRCNT_COUNT c) _ (by simp)

theorem State.onlyScratch_clearScratch (s : State) (c : Nat) : s.OnlyScratch (s.clearScratch c) := by
  have hrows : s.OnlyScratch ((s.zeroRows c).setFresh c []) := rfl
  exact ((hrows.setFld (F.SEAL_RINGWP_WP c) 0).setFld (F.SEAL_RINGRP_RP c) 0).setFld (F.SPD_CLRCNT_COUNT c) _

theorem State.byte_clearScratch (s : State) (c a : Nat) :
    (s.clearScratch c).byte a = if c * 0x200000 ≤ a ∧ a < (c + 1) * 0x200000 then 0 else s.byte a := by
  have hrows : (s.clearScratch c).byte a = (s.zeroRows c).byte a := by
    rw [State.clearScratch, State.resetRing, State.incFld]
    simp only [State.byte_setFld]
    rfl
  rw [hrows, State.byte, State.zeroRows, tabGet_tabClear]
  simp only [Bool.and_eq_true, decide_eq_true_eq]
  rfl

/-- SP0 takes the first 2 MiB of the map. -/
theorem State.byte_clearScratch_zero (s : State) (h : a < 0x200000) : (s.clearScratch 0).byte a = 0 := by
  rw [s.byte_clearScratch, if_pos (by omega)]

theorem State.byte_clearScratch_above (s : State) (h : 0x200000 ≤ a) : (s.clearScratch 0).byte a = s.byte a := by
  rw [s.byte_clearScratch, if_neg (by omega)]

/-! ### Stages (R137) -/

theorem State.bootStep_runs (hs : s.stopped = false) (hst : s.fld F.BOOT_STATUS_STAGE = n) (go : State → State) :
    s.bootStep n go = go s := if_neg (by simp [hs, hst])

theorem State.bootStep_other (h : s.stopped = true ∨ s.fld F.BOOT_STATUS_STAGE ≠ n) (go : State → State) :
    s.bootStep n go = s := if_pos (by rcases h with h | h <;> simp [h])

end Sys2Proof.Machine
end

section
/-! FUSE and HOLD (R139, R140, R159): where the boot loader boots from, and how it ends without a parcel. -/

namespace Sys2Proof.Machine

open Sys2Proof

variable {s t u : State} {n : Nat} {x : Sfdp}

/-! ### The fuse shadow (R140) -/

/-- Registers that show the fuse shadow. -/
abbrev shadowRegs : List Nat := [Reg.BOOT_UID0, Reg.BOOT_UID1, Reg.BOOT_UID2, Reg.BOOT_FUSE, Reg.BOOT_ROLLBACK]

theorem State.loadShadow_kept (h : s.flag F.BOOT_FUSE_SHADOWOK = true) : s.loadShadow = s := if_pos h

/-- Nothing but registers and the fuse shadow differs between `s` and `t`. -/
def State.OnlyShadow (s t : State) : Prop := t = { s with regs := t.regs, shadow := t.shadow }

theorem State.OnlyShadow.setReg (h : s.OnlyShadow t) (a : Nat) (w : Word) : s.OnlyShadow (t.setReg a w) := by
  rw [State.OnlyShadow] at h ⊢
  rw [h]
  rfl

theorem State.OnlyShadow.setFld (h : s.OnlyShadow t) (f : Fld) (v : Nat) : s.OnlyShadow (t.setFld f v) := h.setReg _ _

theorem State.onlyShadow_loadShadow (s : State) : s.OnlyShadow s.loadShadow := by
  have hshadow : s.OnlyShadow { s with shadow := s.fuses } := rfl
  rw [State.loadShadow]
  split
  · exact rfl
  · exact ((((((((hshadow.setReg _ _).setReg _ _).setFld _ _).setFld _ _).setFld _ _).setFld _ _).setFld _ _).setFld _
      _).setFld _ _

theorem State.keepsRegs_loadShadow (s : State) : s.KeepsRegs s.loadShadow shadowRegs := by
  have hshadow : s.KeepsRegs { s with shadow := s.fuses } shadowRegs := fun _ _ => rfl
  rw [State.loadShadow]
  split
  · exact .refl _
  · exact (((((((hshadow.setReg Reg.BOOT_UID0 _ (by decide)).setReg Reg.BOOT_UID1 _ (by decide)).setFld F.BOOT_UID2_UID _
      (by decide)).setFld F.BOOT_FUSE_DBGDIS _ (by decide)).setFld F.BOOT_FUSE_FMT1DIS _ (by decide)).setFld
      F.BOOT_FUSE_HOSTBOOTDIS _ (by decide)).setFld F.BOOT_FUSE_LIFECYCLE _ (by decide)).setFld F.BOOT_FUSE_SHADOWOK _
      (by decide) |>.setFld F.BOOT_ROLLBACK_LEVEL _ (by decide)

/-- The visible fields of a shadow loaded from the fuses. -/
structure State.ShowsFuses (s : State) (f : Fuses) : Prop where
  uid : (s.reg Reg.BOOT_UID0).toNat + 2 ^ 24 * (s.reg Reg.BOOT_UID1).toNat + 2 ^ 48 * s.fld F.BOOT_UID2_UID = f.uid.toNat
  dbgdis : s.flag F.BOOT_FUSE_DBGDIS = f.dbgdis
  fmt1dis : s.flag F.BOOT_FUSE_FMT1DIS = f.fmt1dis
  hostbootdis : s.flag F.BOOT_FUSE_HOSTBOOTDIS = f.hostbootdis
  lifecycle : s.fld F.BOOT_FUSE_LIFECYCLE = f.lifecycle.toNat
  shadowok : s.flag F.BOOT_FUSE_SHADOWOK = f.crcOk
  rollback : s.fld F.BOOT_ROLLBACK_LEVEL = f.rollback % 64

theorem State.KeepsRegs.showsFuses {l : List Nat} {f : Fuses} (h : s.KeepsRegs t l) (hs : s.ShowsFuses f)
    (hl : ∀ a ∈ shadowRegs, a ∉ l) : t.ShowsFuses f where
  uid := by
    rw [h _ (hl _ (by decide)), h _ (hl _ (by decide)), h.fld (f := F.BOOT_UID2_UID) (hl _ (by decide)), hs.uid]
  dbgdis := (h.flag (hl _ (by decide))).trans hs.dbgdis
  fmt1dis := (h.flag (hl _ (by decide))).trans hs.fmt1dis
  hostbootdis := (h.flag (hl _ (by decide))).trans hs.hostbootdis
  lifecycle := (h.fld (hl _ (by decide))).trans hs.lifecycle
  shadowok := (h.flag (hl _ (by decide))).trans hs.shadowok
  rollback := (h.fld (hl _ (by decide))).trans hs.rollback

/-- 64 bits are two words of 24 and one of 16. -/
theorem uid_words (v : BitVec 64) :
    (BitVec.ofNat 24 v.toNat).toNat + 2 ^ 24 * (BitVec.ofNat 24 (v.toNat / 2 ^ 24)).toNat + 2 ^ 48 * (v.toNat / 2 ^ 48 % 2 ^ 16)
      = v.toNat := by
  have hv := v.isLt
  simp only [BitVec.toNat_ofNat]
  omega

theorem State.loadShadow_shows (h : s.flag F.BOOT_FUSE_SHADOWOK = false) :
    s.loadShadow.shadow = s.fuses ∧ s.loadShadow.ShowsFuses s.fuses := by
  have hlife := s.fuses.lifecycle.isLt
  rw [State.loadShadow, if_neg (by simp [h])]
  refine ⟨rfl, ?_, ?_, ?_, ?_, ?_, ?_, ?_⟩
  · simp (disch := decide) only [State.reg_setFld_ne, State.fld_setFld_apart, State.fld_setFld, State.reg_setReg_ne,
      State.reg_setReg_same]
    exact uid_words _
  · simp (disch := decide) only [State.flag, State.fld_setFld_apart]
    exact State.flag_setFld _ F.BOOT_FUSE_DBGDIS (by decide) (by decide) _
  · simp (disch := decide) only [State.flag, State.fld_setFld_apart]
    exact State.flag_setFld _ F.BOOT_FUSE_FMT1DIS (by decide) (by decide) _
  · simp (disch := decide) only [State.flag, State.fld_setFld_apart]
    exact State.flag_setFld _ F.BOOT_FUSE_HOSTBOOTDIS (by decide) (by decide) _
  · simp (disch := decide) only [State.fld_setFld_apart, State.fld_setFld]
    exact Nat.mod_eq_of_lt hlife
  · simp (disch := decide) only [State.flag, State.fld_setFld_apart]
    exact State.flag_setFld _ F.BOOT_FUSE_SHADOWOK (by decide) (by decide) _
  · simp (disch := decide) only [State.fld_setFld]
    rfl

/-! ### FUSE (R139) -/

/-- The run counted and the source in use recorded, in the stage the loader goes on to. -/
def State.bootSourced (s : State) (n : Nat) : State :=
  (((s.setFld F.BOOT_STRAP_EFFSRC n).setFld F.BOOT_STATUS_TESTSTRAP 0).countBoot).setFld F.BOOT_STATUS_STAGE
    (if n = 2 then 7 else 1)

/-- The boot loader goes on from source n, its domains asked for. -/
def State.bootFrom (s : State) (n : Nat) : State :=
  (s.bootSourced n).askOn (if n = 2 then [1, 5, 7, 13] else [1, 7, 13])

/-- Registers that going on writes. -/
abbrev sourceRegs : List Nat := [Reg.BOOT_STRAP, Reg.BOOT_STATUS, Reg.FLT_BOOTCNT, Reg.PWR_DOM 1, Reg.PWR_DOM 5,
  Reg.PWR_DOM 7, Reg.PWR_DOM 13]

theorem State.onlyAsks_bootFrom (s : State) (n : Nat) : s.OnlyAsks (s.bootFrom n) := by
  have hself : s.OnlyAsks s := rfl
  exact ((((hself.setFld _ _).setFld _ _).setFld _ _).setFld _ _).trans (State.onlyAsks_askOn _ _)

theorem State.keepsRegs_bootFrom (s : State) (n : Nat) : s.KeepsRegs (s.bootFrom n) sourceRegs := by
  have hsourced : s.KeepsRegs (s.bootSourced n) sourceRegs :=
    ((((State.KeepsRegs.refl _).setFld F.BOOT_STRAP_EFFSRC _ (by decide)).setFld F.BOOT_STATUS_TESTSTRAP _ (by decide)).setFld
      F.FLT_BOOTCNT_COUNT _ (by decide)).setFld F.BOOT_STATUS_STAGE _ (by decide)
  have hasked (l : List Nat) (hl : ∀ a ∈ l.map Reg.PWR_DOM, a ∈ sourceRegs) :
      s.KeepsRegs ((s.bootSourced n).askOn l) sourceRegs := hsourced.trans ((State.keepsRegs_askOn _ l).mono hl)
  rw [State.bootFrom]
  split_ifs
  · exact hasked _ (by decide)
  · exact hasked _ (by decide)

theorem State.bootFrom_asks (s : State) (n : Nat) : (s.bootFrom n).domReq 7 = 2 ∧ (s.bootFrom n).domReq 13 = 2 ∧
    (n = 2 → (s.bootFrom n).domReq 5 = 2) := by
  rw [State.bootFrom]
  split_ifs with hn
  · exact ⟨State.domReq_askOn (by decide) _, State.domReq_askOn (by decide) _, fun _ => State.domReq_askOn (by decide) _⟩
  · exact ⟨State.domReq_askOn (by decide) _, State.domReq_askOn (by decide) _, fun h => absurd h hn⟩

theorem State.bootFrom_shows (s : State) (hn : n ≤ 2) : (s.bootFrom n).fld F.BOOT_STRAP_EFFSRC = n ∧
    (s.bootFrom n).fld F.BOOT_STATUS_TESTSTRAP = 0 ∧ (s.bootFrom n).fld F.BOOT_STATUS_STAGE = (if n = 2 then 7 else 1) ∧
    (s.bootFrom n).fld F.FLT_BOOTCNT_COUNT = (s.fld F.FLT_BOOTCNT_COUNT + 1) % 256 := by
  have hasked (f : Fld) (hf : f.addr < 0x05000100 ∨ 0x05000168 ≤ f.addr) :
      (s.bootFrom n).fld f = (s.bootSourced n).fld f := by
    have hall : ∀ d ∈ (if n = 2 then [1, 5, 7, 13] else [1, 7, 13]), d < 26 := by split_ifs <;> decide
    exact State.fld_askOn_apart hall hf _
  have hstage : (if n = 2 then 7 else 1) % 2 ^ 4 = if n = 2 then 7 else 1 := by split_ifs <;> rfl
  refine ⟨(hasked _ (by decide)).trans ?_, (hasked _ (by decide)).trans ?_, (hasked _ (by decide)).trans ?_,
    (hasked _ (by decide)).trans ?_⟩
  · rw [State.bootSourced, State.countBoot]
    simp (disch := decide) only [State.fld_setFld_apart, State.fld_setFld]
    exact Nat.mod_eq_of_lt (by omega)
  · rw [State.bootSourced, State.countBoot]
    simp (disch := decide) only [State.fld_setFld_apart, State.fld_setFld]
    rfl
  · rw [State.bootSourced, State.fld_setFld _ _ _ (show 8 + 4 ≤ 24 by decide)]
    exact hstage
  · rw [State.bootSourced, State.countBoot]
    simp (disch := decide) only [State.fld_setFld_apart, State.fld_setFld]
    rfl

section
variable (heff : s.fld F.BOOT_STRAP_EFFSRC ≠ 3)
include heff

theorem State.bootFuse_source (hok : s.loadShadow.flag F.BOOT_FUSE_SHADOWOK = true)
    (hlife : s.loadShadow.fld F.BOOT_FUSE_LIFECYCLE ≠ 3) (hsel : s.fld F.BOOT_STRAP_BOOTSEL = n)
    (hn : n < 2 ∨ n = 2 ∧ s.loadShadow.flag F.BOOT_FUSE_HOSTBOOTDIS = false) : s.bootFuse = s.loadShadow.bootFrom n := by
  have hsel' : s.loadShadow.fld F.BOOT_STRAP_BOOTSEL = n := (s.keepsRegs_loadShadow.fld (by decide)).trans hsel
  have htest : ¬ (s.loadShadow.fld F.BOOT_STRAP_BOOTSEL = 3 ∧ s.loadShadow.fld F.BOOT_FUSE_LIFECYCLE < 2) := by omega
  have hgood : ¬ (!s.loadShadow.flag F.BOOT_FUSE_SHADOWOK || s.loadShadow.fld F.BOOT_FUSE_LIFECYCLE == 3) = true := by
    simp [hok, hlife]
  have hsource : s.loadShadow.bootSource = (n, false) := by
    have hcase : n = 0 ∨ n = 1 ∨ n = 2 := by omega
    rcases hcase with rfl | rfl | rfl
    · simp only [State.bootSource, hsel']
    · simp only [State.bootSource, hsel']
    · have hhost := (hn.resolve_left (by decide)).2
      simp only [State.bootSource, hsel', hhost]
      rfl
  rw [State.bootFuse, if_neg heff]
  simp only [htest, hgood, if_false, hsource]
  have hcase : n = 0 ∨ n = 1 ∨ n = 2 := by omega
  rcases hcase with rfl | rfl | rfl <;> rfl

theorem State.bootFuse_hold (hsel : s.fld F.BOOT_STRAP_BOOTSEL ≠ 3)
    (hbad : s.loadShadow.flag F.BOOT_FUSE_SHADOWOK = false ∨ s.loadShadow.fld F.BOOT_FUSE_LIFECYCLE = 3) :
    s.bootFuse = s.loadShadow.countBoot.enterHold 1 := by
  have hsel' : s.loadShadow.fld F.BOOT_STRAP_BOOTSEL ≠ 3 := by rwa [s.keepsRegs_loadShadow.fld (by decide)]
  rw [State.bootFuse, if_neg heff]
  dsimp only
  rw [if_neg fun h => hsel' h.1, if_pos (by rcases hbad with h | h <;> simp [h])]

/-- The test strap stops the loader in FUSE (R756). -/
theorem State.bootFuse_test (hsel : s.fld F.BOOT_STRAP_BOOTSEL = 3) (hlife : s.fld F.BOOT_FUSE_LIFECYCLE < 2)
    (hok : s.flag F.BOOT_FUSE_SHADOWOK = true) :
    s.bootFuse = (s.setFld F.BOOT_STRAP_EFFSRC 3).askOn [1, 7] := by
  rw [State.bootFuse, if_neg heff, State.loadShadow_kept hok]
  exact if_pos ⟨hsel, hlife⟩

end

theorem State.OnlyShadow.parts (h : s.OnlyShadow t) : t.fuses = s.fuses ∧ t.mem = s.mem ∧ t.cip = s.cip ∧
    t.cores = s.cores ∧ t.boot = s.boot ∧ t.flrWaits = s.flrWaits := by
  rw [State.OnlyShadow] at h
  rw [h]
  exact ⟨rfl, rfl, rfl, rfl, rfl, rfl⟩

theorem State.OnlyAsks.parts (h : s.OnlyAsks t) : t.fuses = s.fuses ∧ t.mem = s.mem ∧ t.cip = s.cip ∧
    t.cores = s.cores ∧ t.boot = s.boot ∧ t.shadow = s.shadow := by
  rw [State.OnlyAsks] at h
  rw [h]
  exact ⟨rfl, rfl, rfl, rfl, rfl, rfl⟩

theorem State.bootFrom_frame (s : State) (n : Nat) : (s.loadShadow.bootFrom n).fuses = s.fuses ∧
    (s.loadShadow.bootFrom n).mem = s.mem ∧ (s.loadShadow.bootFrom n).cip = s.cip ∧
    (s.loadShadow.bootFrom n).cores = s.cores ∧ (s.loadShadow.bootFrom n).boot = s.boot ∧
    (s.loadShadow.bootFrom n).shadow = s.loadShadow.shadow := by
  obtain ⟨hfuses, hmem, hcip, hcores, hboot, -⟩ := s.onlyShadow_loadShadow.parts
  obtain ⟨hfuses', hmem', hcip', hcores', hboot', hshadow⟩ := (s.loadShadow.onlyAsks_bootFrom n).parts
  exact ⟨hfuses'.trans hfuses, hmem'.trans hmem, hcip'.trans hcip, hcores'.trans hcores, hboot'.trans hboot, hshadow⟩

/-! ### HOLD (R159) -/

/-- Addresses of the CIP block. -/
abbrev inCip (a : Nat) : Prop := 0x05070000 ≤ a ∧ a < 0x05080000

/-- Nothing but registers and the AES engine differs between `s` and `t`. -/
def State.OnlyCip (s t : State) : Prop := t = { s with regs := t.regs, cip := t.cip }

theorem State.onlyCip_releaseLock (s : State) : s.OnlyCip s.releaseLock := rfl

theorem State.holdsRegs_releaseLock (s : State) : s.HoldsRegs (¬ inCip ·) s.releaseLock := by
  have hclear : s.HoldsRegs (¬ inCip ·) s.cipClear := (State.HoldsRegs.refl s).clearRegs (lo := Reg.CIP_IV 0)
    (hi := Reg.CIP_LBL 0) fun a ha => by
      dsimp only [inCip, Reg.CIP_IV, Reg.CIP_LBL] at ha ⊢
      omega
  exact (hclear.setReg (a := Reg.CIP_MODE) (by decide) 0).setFld (f := F.CIP_LOCK_OWNER) (by decide) 0

/-- The lock that the loader holds given up. -/
def State.bootUnlocked (s : State) : State := if s.cipHolder = 8 then s.dropLock false else s

theorem State.dropBootKey_eq (s : State) :
    s.dropBootKey = { s.bootUnlocked with cip := { s.bootUnlocked.cip with boot := [] } } := rfl

/-- The lock stays where it is not the loader's, goes when the command in progress ends, or goes at once (R559). -/
theorem State.bootUnlocked_cases (s : State) : s.bootUnlocked = s ∨
    s.bootUnlocked = { s with cip := { s.cip with due := .plain } } ∨ s.bootUnlocked = s.releaseLock := by
  rw [State.bootUnlocked, State.dropLock]
  by_cases hheld : s.cipHolder = 8
  · by_cases hop : s.cip.op.isSome = true
    · exact .inr (.inl (by rw [if_pos hheld, if_pos hop]; rfl))
    · exact .inr (.inr (by rw [if_pos hheld, if_neg hop]; rfl))
  · exact .inl (if_neg hheld)

theorem State.onlyCip_bootUnlocked (s : State) : s.OnlyCip s.bootUnlocked := by
  rcases s.bootUnlocked_cases with h | h | h
  · rw [h]; exact rfl
  · rw [h]; exact rfl
  · rw [h]; exact s.onlyCip_releaseLock

theorem State.onlyCip_dropBootKey (s : State) : s.OnlyCip s.dropBootKey := by
  have h := s.onlyCip_bootUnlocked
  rw [State.OnlyCip] at h ⊢
  rw [State.dropBootKey_eq, h]

theorem State.holdsRegs_dropBootKey (s : State) : s.HoldsRegs (¬ inCip ·) s.dropBootKey := by
  suffices h : s.HoldsRegs (¬ inCip ·) s.bootUnlocked from h
  rcases s.bootUnlocked_cases with h | h | h
  · rw [h]; exact .refl s
  · rw [h]; exact .refl s
  · rw [h]; exact s.holdsRegs_releaseLock

theorem State.dropBootKey_boot (s : State) : s.dropBootKey.cip.boot = [] := rfl

/-- HOLD shown with its code, and the flash let go. -/
def State.holdBegun (s : State) (code : Nat) : State :=
  (((s.setFld F.BOOT_STATUS_CODE code).setFld F.BOOT_STATUS_STAGE 8).setFld F.BOOT_STATUS_HOLD 1).bootTime.floatFlash

/-- SP0 cleared where it is ON. -/
def State.sweptSP0 (s : State) : State := if s.domOn 13 then s.clearScratch 0 else s

/-- HST asked for where the host may recover the part. -/
def State.askRecovery (s : State) : State := if s.recoveryAllowed then s.askOn [1, 5] else s

/-- HOLD, a function-level reset that waited aside. -/
def State.holdEntered (s : State) (code : Nat) : State := (s.holdBegun code).dropBootKey.sweptSP0.askRecovery

theorem State.enterHold_eq (s : State) (code : Nat) : s.enterHold code = (s.holdEntered code).flrResume := rfl

/-- What clearing SP0 and asking for HST may change. -/
def State.OnlySweep (s t : State) : Prop :=
  t = { s with regs := t.regs, mem := t.mem, tags := t.tags, marks := t.marks, fresh := t.fresh, waiting := t.waiting }

theorem State.onlyScratch_sweptSP0 (s : State) : s.OnlyScratch s.sweptSP0 := by
  rw [State.sweptSP0]
  split_ifs
  · exact s.onlyScratch_clearScratch 0
  · exact .refl s

theorem State.onlySweep_hold (s : State) : s.OnlySweep s.sweptSP0.askRecovery := by
  have hsweep := s.onlyScratch_sweptSP0
  have hask : s.sweptSP0.OnlyAsks s.sweptSP0.askRecovery := by
    rw [State.askRecovery]
    split_ifs
    · exact State.onlyAsks_askOn _ _
    · rfl
  rw [State.OnlyScratch] at hsweep
  rw [State.OnlyAsks] at hask
  rw [State.OnlySweep, hask, hsweep]

/-- Registers that clearing SP0 and asking for HST write. -/
abbrev sweepRegs : List Nat := [Reg.SPD_CLRCNT 0, Reg.SEAL_RINGWP 0, Reg.SEAL_RINGRP 0, Reg.PWR_DOM 1, Reg.PWR_DOM 5]

theorem State.keepsRegs_sweptSP0 (s : State) : s.KeepsRegs s.sweptSP0 (clearRegsOf 0) := by
  rw [State.sweptSP0]
  split_ifs
  · exact s.keepsRegs_clearScratch 0
  · exact .refl _

theorem State.keepsRegs_askRecovery (s : State) : s.KeepsRegs s.askRecovery sweepRegs := by
  rw [State.askRecovery]
  split_ifs
  · exact (s.keepsRegs_askOn [1, 5]).mono (by decide)
  · exact .refl _

theorem State.keepsRegs_holdBegun (s : State) (code : Nat) :
    s.KeepsRegs (s.holdBegun code) [Reg.BOOT_STATUS, Reg.BOOT_TIME] := by
  have hshown := (((State.KeepsRegs.refl (s := s) [Reg.BOOT_STATUS, Reg.BOOT_TIME]).setFld F.BOOT_STATUS_CODE code
    (by decide)).setFld F.BOOT_STATUS_STAGE 8 (by decide)).setFld F.BOOT_STATUS_HOLD 1 (by decide)
  rw [State.holdBegun, State.bootTime, State.floatFlash_eq]
  exact (hshown.setFld F.BOOT_TIME_US _ (by decide)).setBoot _

/-- Registers that HOLD leaves once it has begun. -/
abbrev keptInHold (a : Nat) : Prop := ¬ inCip a ∧ a ∉ sweepRegs

theorem State.holdsRegs_holdEntered (s : State) (code : Nat) :
    (s.holdBegun code).HoldsRegs keptInHold (s.holdEntered code) := by
  have hdrop : (s.holdBegun code).HoldsRegs keptInHold (s.holdBegun code).dropBootKey :=
    (State.holdsRegs_dropBootKey _).mono fun _ h => h.1
  have hsweep : (s.holdBegun code).dropBootKey.KeepsRegs (s.holdEntered code) sweepRegs :=
    ((State.keepsRegs_sweptSP0 _).mono (by decide)).trans (State.keepsRegs_askRecovery _)
  exact hdrop.trans fun a ha => hsweep a ha.2

theorem State.holdBegun_parts (s : State) (code : Nat) : (s.holdBegun code).fuses = s.fuses ∧
    (s.holdBegun code).shadow = s.shadow ∧ (s.holdBegun code).flrWaits = s.flrWaits ∧
    (s.holdBegun code).boot = { s.boot with flash := s.boot.flash ++ [.csHigh, .floating], floating := true } ∧
    (s.holdBegun code).target = s.target := by
  rw [State.holdBegun, State.bootTime, State.floatFlash_eq]
  refine ⟨?_, ?_, ?_, ?_, ?_⟩
  · rw [State.setBoot_fuses]
    simp only [State.setFld_fuses]
  · rw [State.setBoot_shadow]
    simp only [State.setFld_shadow]
  · rw [State.setBoot_flrWaits]
    simp only [State.setFld_flrWaits]
  · rw [State.setBoot_boot]
    simp only [State.setFld_boot]
  · rw [State.setBoot_target]
    simp only [State.setFld_target]

theorem State.domOn_holdBegun (s : State) (code : Nat) : (s.holdBegun code).domOn 13 = s.domOn 13 := by
  obtain ⟨-, -, -, -, htarget⟩ := s.holdBegun_parts code
  exact State.domOn_congr (s.keepsRegs_holdBegun code _ (by decide)) htarget

theorem State.holdBegun_shows (s : State) {code : Nat} (hcode : code < 256) :
    (s.holdBegun code).fld F.BOOT_STATUS_CODE = code ∧ (s.holdBegun code).fld F.BOOT_STATUS_STAGE = 8 ∧
    (s.holdBegun code).fld F.BOOT_STATUS_HOLD = 1 := by
  rw [State.holdBegun, State.bootTime, State.floatFlash_eq]
  simp (disch := decide) only [State.fld_setBoot, State.fld_setFld_apart, State.fld_setFld]
  exact ⟨Nat.mod_eq_of_lt hcode, rfl, rfl⟩

theorem State.OnlyCip.parts (h : s.OnlyCip t) : t.fuses = s.fuses ∧ t.shadow = s.shadow ∧ t.flrWaits = s.flrWaits ∧
    t.boot = s.boot ∧ t.target = s.target := by
  rw [State.OnlyCip] at h
  rw [h]
  exact ⟨rfl, rfl, rfl, rfl, rfl⟩

theorem State.OnlyCip.memories (h : s.OnlyCip t) : t.mem = s.mem ∧ t.cores = s.cores ∧ t.zones = s.zones := by
  rw [State.OnlyCip] at h
  rw [h]
  exact ⟨rfl, rfl, rfl⟩

theorem State.OnlySweep.parts (h : s.OnlySweep t) : t.cip = s.cip ∧ t.fuses = s.fuses ∧ t.shadow = s.shadow ∧
    t.flrWaits = s.flrWaits ∧ t.boot = s.boot := by
  rw [State.OnlySweep] at h
  rw [h]
  exact ⟨rfl, rfl, rfl, rfl, rfl⟩

/-- What HOLD leaves outside the registers and the memories. -/
theorem State.holdEntered_parts (s : State) (code : Nat) : (s.holdEntered code).cip.boot = [] ∧
    (s.holdEntered code).fuses = s.fuses ∧ (s.holdEntered code).shadow = s.shadow ∧
    (s.holdEntered code).flrWaits = s.flrWaits ∧
    (s.holdEntered code).boot = { s.boot with flash := s.boot.flash ++ [.csHigh, .floating], floating := true } := by
  have hsweep : (s.holdBegun code).dropBootKey.OnlySweep (s.holdEntered code) := State.onlySweep_hold _
  obtain ⟨hcip, hfuses, hshadow, hflr, hboot⟩ := hsweep.parts
  obtain ⟨hfuses', hshadow', hflr', hboot', -⟩ := (s.holdBegun code).onlyCip_dropBootKey.parts
  obtain ⟨hfuses₀, hshadow₀, hflr₀, hboot₀, -⟩ := s.holdBegun_parts code
  refine ⟨?_, hfuses.trans (hfuses'.trans hfuses₀), hshadow.trans (hshadow'.trans hshadow₀),
    hflr.trans (hflr'.trans hflr₀), hboot.trans (hboot'.trans hboot₀)⟩
  rw [hcip, State.dropBootKey_boot]

section
variable (hwaits : s.flrWaits = false)
include hwaits

theorem State.enterHold_of_idle (code : Nat) : s.enterHold code = s.holdEntered code := by
  obtain ⟨-, -, -, hflr, -⟩ := s.holdEntered_parts code
  rw [State.enterHold_eq, State.flrResume, if_neg (by rw [hflr, hwaits]; decide)]

theorem State.enterHold_parts (code : Nat) : (s.enterHold code).cip.boot = [] ∧ (s.enterHold code).fuses = s.fuses ∧
    (s.enterHold code).shadow = s.shadow ∧
    (s.enterHold code).boot = { s.boot with flash := s.boot.flash ++ [.csHigh, .floating], floating := true } := by
  obtain ⟨hkey, hfuses, hshadow, -, hboot⟩ := s.holdEntered_parts code
  rw [State.enterHold_of_idle hwaits]
  exact ⟨hkey, hfuses, hshadow, hboot⟩

theorem State.enterHold_shows {code : Nat} (hcode : code < 256) : (s.enterHold code).fld F.BOOT_STATUS_CODE = code ∧
    (s.enterHold code).fld F.BOOT_STATUS_STAGE = 8 ∧ (s.enterHold code).fld F.BOOT_STATUS_HOLD = 1 := by
  obtain ⟨hc, hstage, hhold⟩ := s.holdBegun_shows hcode
  have hkept := s.holdsRegs_holdEntered code
  rw [State.enterHold_of_idle hwaits]
  exact ⟨(hkept.fld (by decide)).trans hc, (hkept.fld (by decide)).trans hstage, (hkept.fld (by decide)).trans hhold⟩

theorem State.flag_enterHold (code : Nat) {f : Fld} (hf : f.addr ≠ Reg.BOOT_STATUS ∧ f.addr ≠ Reg.BOOT_TIME)
    (hkept : keptInHold f.addr) : (s.enterHold code).flag f = s.flag f := by
  have hentered := (s.holdsRegs_holdEntered code).fld hkept
  have hbegun := (s.keepsRegs_holdBegun code).fld (f := f) (by simp [hf])
  rw [State.enterHold_of_idle hwaits, State.flag, hentered, hbegun, State.flag]

theorem State.byte_enterHold (code : Nat) (hon : s.domOn 13 = true) {a : Nat} (ha : a < 0x200000) :
    (s.enterHold code).byte a = 0 := by
  obtain ⟨-, -, -, -, htarget⟩ := (s.holdBegun code).onlyCip_dropBootKey.parts
  have hdom : (s.holdBegun code).dropBootKey.domOn 13 = true := by
    rw [State.domOn_congr (State.holdsRegs_dropBootKey _ _ (by decide)) htarget, State.domOn_holdBegun, hon]
  have hask (u : State) : u.askRecovery.byte a = u.byte a := by
    rw [State.askRecovery]
    split_ifs
    · have h := u.onlyAsks_askOn [1, 5]
      rw [State.OnlyAsks] at h
      rw [h]
      rfl
    · rfl
  rw [State.enterHold_of_idle hwaits, State.holdEntered, hask, State.sweptSP0, if_pos hdom]
  exact State.byte_clearScratch_zero _ ha

theorem State.enterHold_asks {code : Nat} (hcode : code < 256) (hbad : code ≠ 1)
    (hhost : s.flag F.BOOT_FUSE_HOSTBOOTDIS = false) : (s.enterHold code).domReq 5 = 2 := by
  have hkept : (s.holdBegun code).HoldsRegs keptInHold (s.holdBegun code).dropBootKey.sweptSP0 :=
    ((State.holdsRegs_dropBootKey _).mono fun _ h => h.1).trans fun a ha =>
      (State.keepsRegs_sweptSP0 _).mono (m := sweepRegs) (by decide) a ha.2
  have hflag : (s.holdBegun code).dropBootKey.sweptSP0.flag F.BOOT_FUSE_HOSTBOOTDIS = false := by
    rw [State.flag, hkept.fld (by decide), (s.keepsRegs_holdBegun code).fld (by decide)]
    exact hhost
  have hcode' : (s.holdBegun code).dropBootKey.sweptSP0.fld F.BOOT_STATUS_CODE = code :=
    (hkept.fld (by decide)).trans (s.holdBegun_shows hcode).1
  have hallowed : (s.holdBegun code).dropBootKey.sweptSP0.recoveryAllowed = true := by
    rw [State.recoveryAllowed, hflag, hcode']
    simp [hbad]
  rw [State.enterHold_of_idle hwaits, State.holdEntered, State.askRecovery, if_pos hallowed]
  exact State.domReq_askOn (by decide) _

end

end Sys2Proof.Machine
end

section
/-! DISCOVER, STAGE and CHECK (R141-R143, R150): what the flash answers, the copy in SP0, and the checks of a parcel. -/

namespace Sys2Proof.Machine

open Sys2Proof

variable {s t u : State} {x : Sfdp} {ops : List FlashOp} {c n : Nat}

/-! ### DISCOVER (R141, R142) -/

theorem State.discover_unsigned (h : sfdpSigned x = false) :
    s.discover x = (s.flashDo [.cmd 0x66, .cmd 0x99, .cmd 0xAB, .read 0x5A 8 0]).enterHold 2 := by
  rw [State.discover, h]
  rfl

/-- What DISCOVER has read, and the density it shows. -/
def State.probed (s : State) (x : Sfdp) : State :=
  (s.flashDo [.cmd 0x66, .cmd 0x99, .cmd 0xAB, .read 0x5A 8 0, .read 0x5A 8 (bfptAt x)]).setFld F.BOOT_FLASH_DENSITY
    (min 255 (flashDensity x))

section
variable (h : sfdpSigned x = true)
include h

theorem State.discover_signed : s.discover x =
    if flashDensity x < 20 ∨ flashOnly4 x = true then (s.probed x).enterHold 3
    else match flashQuadEnable x with
      | some ops =>
        if s.fld F.BOOT_STRAP_EFFSRC = 0 ∧ flashFast114 x = true then
          (((((s.probed x).setFld F.BOOT_STATUS_STAGE 2).flashDo ops).setFld F.BOOT_FLASH_QUAD 1).setFld
            F.BOOT_STATUS_SINGLE 0).setBoot { s.boot with
              flash := s.boot.flash ++ [.cmd 0x66, .cmd 0x99, .cmd 0xAB, .read 0x5A 8 0, .read 0x5A 8 (bfptAt x)] ++ ops
              readOp := bitsOf (bfptWord x 3) 24 8, waits := bitsOf (bfptWord x 3) 16 5 }
        else ((s.probed x).setFld F.BOOT_STATUS_STAGE 2).singleRead
      | none => ((s.probed x).setFld F.BOOT_STATUS_STAGE 2).singleRead := by
  have hprobe : ((s.flashDo [.cmd 0x66, .cmd 0x99, .cmd 0xAB, .read 0x5A 8 0]).flashDo [.read 0x5A 8 (bfptAt x)]).setFld
      F.BOOT_FLASH_DENSITY (min 255 (flashDensity x)) = s.probed x := by
    rw [State.flashDo_flashDo]
    rfl
  rw [State.discover, h]
  dsimp only
  rw [hprobe, Bool.not_true, if_neg Bool.false_ne_true]
  rfl

theorem State.discover_refused (hbad : flashDensity x < 20 ∨ flashOnly4 x = true) :
    s.discover x = (s.probed x).enterHold 3 := by
  rw [State.discover_signed h, if_pos hbad]

variable (hsize : 20 ≤ flashDensity x) (haddr : flashOnly4 x = false)
include hsize haddr

theorem State.discover_quad (heff : s.fld F.BOOT_STRAP_EFFSRC = 0) (hfast : flashFast114 x = true)
    (hquad : flashQuadEnable x = some ops) : s.discover x =
    (((((s.probed x).setFld F.BOOT_STATUS_STAGE 2).flashDo ops).setFld F.BOOT_FLASH_QUAD 1).setFld
      F.BOOT_STATUS_SINGLE 0).setBoot { s.boot with
        flash := s.boot.flash ++ [.cmd 0x66, .cmd 0x99, .cmd 0xAB, .read 0x5A 8 0, .read 0x5A 8 (bfptAt x)] ++ ops
        readOp := bitsOf (bfptWord x 3) 24 8, waits := bitsOf (bfptWord x 3) 16 5 } := by
  rw [State.discover_signed h, if_neg (by simp [haddr]; omega), hquad]
  exact if_pos ⟨heff, hfast⟩

theorem State.discover_single (hno : s.fld F.BOOT_STRAP_EFFSRC ≠ 0 ∨ flashFast114 x = false ∨ flashQuadEnable x = none) :
    s.discover x = ((s.probed x).setFld F.BOOT_STATUS_STAGE 2).singleRead := by
  rw [State.discover_signed h, if_neg (by simp [haddr]; omega)]
  cases hquad : flashQuadEnable x with
  | none => rfl
  | some ops =>
    refine if_neg fun hfast => ?_
    rcases hno with hno | hno | hno
    · exact hno hfast.1
    · simp [hno] at hfast
    · simp [hno] at hquad

end

/-- Registers that DISCOVER writes where it goes on. -/
abbrev discoverRegs : List Nat := [Reg.BOOT_STATUS, Reg.BOOT_FLASH]

theorem State.keepsRegs_probed (s : State) (x : Sfdp) (v : Nat) :
    s.KeepsRegs ((s.probed x).setFld F.BOOT_STATUS_STAGE v) discoverRegs := by
  have hflash : s.KeepsRegs (s.flashDo [.cmd 0x66, .cmd 0x99, .cmd 0xAB, .read 0x5A 8 0, .read 0x5A 8 (bfptAt x)])
      discoverRegs := fun _ _ => rfl
  exact (hflash.setFld F.BOOT_FLASH_DENSITY _ (by decide)).setFld F.BOOT_STATUS_STAGE v (by decide)

theorem flashDensity_shown (d : Nat) : min 255 d % 2 ^ 8 = min 255 d := Nat.mod_eq_of_lt (by omega)

/-- The flash to be read as its tables say. -/
def State.flashFound (s : State) (x : Sfdp) (quad single : Nat) (b : BootSt) : State :=
  ((((s.probed x).setFld F.BOOT_STATUS_STAGE 2).setFld F.BOOT_FLASH_QUAD quad).setFld F.BOOT_STATUS_SINGLE single).setBoot b

theorem State.flashFound_shows (s : State) (x : Sfdp) (quad single : Nat) (b : BootSt) :
    (s.flashFound x quad single b).fld F.BOOT_STATUS_STAGE = 2 ∧
    (s.flashFound x quad single b).fld F.BOOT_FLASH_QUAD = quad % 2 ∧
    (s.flashFound x quad single b).fld F.BOOT_STATUS_SINGLE = single % 2 ∧
    (s.flashFound x quad single b).fld F.BOOT_FLASH_DENSITY = min 255 (flashDensity x) := by
  rw [State.flashFound, State.probed]
  simp (disch := decide) only [State.fld_setBoot, State.fld_setFld_apart, State.fld_setFld]
  exact ⟨rfl, rfl, rfl, flashDensity_shown _⟩

theorem State.flashFound_frame (s : State) (x : Sfdp) (quad single : Nat) (b : BootSt) :
    (s.flashFound x quad single b).boot = b ∧ s.KeepsRegs (s.flashFound x quad single b) discoverRegs ∧
    (s.flashFound x quad single b).mem = s.mem ∧ (s.flashFound x quad single b).fuses = s.fuses := by
  have hregs := ((s.keepsRegs_probed x 2).setFld F.BOOT_FLASH_QUAD quad (by decide)).setFld F.BOOT_STATUS_SINGLE single
    (by decide)
  rw [State.flashFound]
  refine ⟨State.setBoot_boot _ _, hregs.setBoot b, ?_, ?_⟩
  · simp only [State.setBoot_mem, State.setFld_mem, State.probed, State.flashDo_eq]
  · simp only [State.setBoot_fuses, State.setFld_fuses, State.probed, State.flashDo_eq]

theorem State.setFld_flashDo (s : State) (l : List FlashOp) (f : Fld) (v : Nat) :
    (s.flashDo l).setFld f v = (s.setFld f v).flashDo l := rfl

theorem State.setBoot_flashDo (s : State) (l : List FlashOp) (b : BootSt) : (s.flashDo l).setBoot b = s.setBoot b := rfl

theorem State.discover_quad_eq (h : sfdpSigned x = true) (hsize : 20 ≤ flashDensity x) (haddr : flashOnly4 x = false)
    (heff : s.fld F.BOOT_STRAP_EFFSRC = 0) (hfast : flashFast114 x = true) (hquad : flashQuadEnable x = some ops) :
    s.discover x = s.flashFound x 1 0 { s.boot with
      flash := s.boot.flash ++ [.cmd 0x66, .cmd 0x99, .cmd 0xAB, .read 0x5A 8 0, .read 0x5A 8 (bfptAt x)] ++ ops
      readOp := bitsOf (bfptWord x 3) 24 8, waits := bitsOf (bfptWord x 3) 16 5 } := by
  rw [State.discover_quad h hsize haddr heff hfast hquad, State.setFld_flashDo, State.setFld_flashDo, State.setBoot_flashDo,
    State.flashFound]

theorem State.discover_single_eq (h : sfdpSigned x = true) (hsize : 20 ≤ flashDensity x) (haddr : flashOnly4 x = false)
    (hno : s.fld F.BOOT_STRAP_EFFSRC ≠ 0 ∨ flashFast114 x = false ∨ flashQuadEnable x = none) :
    s.discover x = s.flashFound x 0 1 { s.boot with
      flash := s.boot.flash ++ [.cmd 0x66, .cmd 0x99, .cmd 0xAB, .read 0x5A 8 0, .read 0x5A 8 (bfptAt x)]
      readOp := 3, waits := 0 } := by
  rw [State.discover_single h hsize haddr hno]
  rfl

/-! ### STAGE (R143) -/

theorem rowAddr_zero (h : n < 4096) : rowAddr 0 n = n * 0x200 := by
  rw [rowAddr, Nat.mod_eq_of_lt h, Nat.zero_mul, Nat.zero_add]

/-- The rows of SP0 from row 0 on, as far as row n, written with bytes. -/
def State.stageRows (s : State) (bs : List Byte) (n : Nat) : State :=
  (List.range n).foldl (fun s r => s.writePart 0 r 0 ((bs.drop (384 * r)).take 384) false) s

theorem State.stage_eq (s : State) (bs : List Byte) : s.stage bs = s.stageRows bs ((bs.length + 383) / 384) := rfl

theorem State.stageRows_succ (s : State) (bs : List Byte) (n : Nat) :
    s.stageRows bs (n + 1) = (s.stageRows bs n).writePart 0 n 0 ((bs.drop (384 * n)).take 384) false := by
  simp only [State.stageRows, List.range_succ, List.foldl_append, List.foldl_cons, List.foldl_nil]

theorem State.onlyScratch_stageRows (s : State) (bs : List Byte) (n : Nat) : s.OnlyScratch (s.stageRows bs n) :=
  List.foldlRecOn (motive := s.OnlyScratch) _ _ (.refl s) fun _ hu _ _ => hu.trans rfl

theorem State.regs_stageRows (s : State) (bs : List Byte) (n : Nat) : (s.stageRows bs n).regs = s.regs :=
  List.foldlRecOn (motive := fun u : State => u.regs = s.regs) _ _ rfl fun _ hu _ _ => hu

theorem State.byte_stageRow (s : State) (bs : List Byte) {a : Nat} (hn : n < 4096) :
    (s.writePart 0 n 0 ((bs.drop (384 * n)).take 384) false).byte a =
      (s.setBytes (n * 0x200) ((bs.drop (384 * n)).take 384)).byte a := by
  rw [State.byte_writePart, rowAddr_zero hn, Nat.add_zero, Nat.sub_zero, List.take_take, Nat.min_self]

/-- The rows written lie below their end. -/
theorem State.byte_stageRows_above (s : State) (bs : List Byte) {a : Nat} (hn : n ≤ 4096) (ha : n * 0x200 ≤ a) :
    (s.stageRows bs n).byte a = s.byte a := by
  induction n with
  | zero => rfl
  | succ n ih =>
    have hlen : ((bs.drop (384 * n)).take 384).length ≤ 384 := List.length_take_le _ _
    have hlow := ih (by omega) (le_trans (Nat.mul_le_mul_right _ n.le_succ) ha)
    rw [State.stageRows_succ, State.byte_stageRow _ _ (by omega), State.byte_setBytes_out _ _ _ _ (by omega), hlow]

theorem State.byte_stageRows (s : State) (bs : List Byte) {i : Nat} (hn : n ≤ 4096) (hi : i < bs.length)
    (hrow : i < 384 * n) : (s.stageRows bs n).byte (i / 384 * 0x200 + i % 384) = bs[i] := by
  induction n with
  | zero => omega
  | succ n ih =>
    have hlen : ((bs.drop (384 * n)).take 384).length ≤ 384 := List.length_take_le _ _
    rw [State.stageRows_succ, State.byte_stageRow _ _ (by omega)]
    rcases Nat.lt_or_ge i (384 * n) with hlt | hge
    · rw [State.byte_setBytes_out _ _ _ _ (by omega), ih (by omega) hlt]
    · have hin : i % 384 < ((bs.drop (384 * n)).take 384).length := by
        rw [List.length_take, List.length_drop]
        omega
      have hdiv : i / 384 = n := by omega
      rw [hdiv, State.byte_setBytes_in _ _ _ _ hin, List.getElem_take, List.getElem_drop]
      congr 1
      omega

/-- The bytes the copy takes of what the flash answers. -/
def stagedBytes (data : List Byte) (n : Nat) : List Byte := (data ++ List.replicate n 0xFF).take n

theorem length_stagedBytes (data : List Byte) (n : Nat) : (stagedBytes data n).length = n := by
  rw [stagedBytes, List.length_take, List.length_append, List.length_replicate]
  omega

theorem getElem_stagedBytes (data : List Byte) {n i : Nat} (h : i < (stagedBytes data n).length) :
    (stagedBytes data n)[i] = data.getD i 0xFF := by
  have hi : i < n := by rwa [length_stagedBytes] at h
  simp only [stagedBytes, List.getElem_take, List.getD_eq_getElem?_getD]
  rcases Nat.lt_or_ge i data.length with hlt | hge
  · rw [List.getElem_append_left hlt, List.getElem?_eq_getElem hlt, Option.getD_some]
  · rw [List.getElem_append_right hge, List.getElem_replicate, List.getElem?_eq_none hge, Option.getD_none]

/-- The bytes STAGE copies: the parcel, or the header alone where it fails. -/
def stageLen (h : List Byte) (fmt1dis : Bool) : Nat :=
  if headCode h fmt1dis = 0 then totLen h else if fmtOf h = 2 then 64 else 32

theorem totLen_le_of_headCode {p : List Byte} {b : Bool} (h : headCode p b = 0) : totLen p ≤ 524288 := by
  rw [headCode] at h
  split_ifs at h with _ _ hlen
  omega

theorem stageLen_le (h : List Byte) (b : Bool) : stageLen h b ≤ 524288 := by
  rw [stageLen]
  split_ifs with h0
  · exact totLen_le_of_headCode h0
  · decide
  · decide

theorem State.stageCopy_eq (hon : s.domOn 13 = true) (data : List Byte) : s.stageCopy data =
    ((s.flashDo [.read s.boot.readOp s.boot.waits (0x80000 * s.fld F.BOOT_STATUS_COPY)]).stage (stagedBytes data
      (stageLen ((data ++ List.replicate 64 0xFF).take 64) (s.flag F.BOOT_FUSE_FMT1DIS)))).setFld F.BOOT_STATUS_STAGE 3 := by
  have hlen (h : List Byte) : hdrLen (if fmtOf h = 2 then 2 else 1) = if fmtOf h = 2 then 64 else 32 := by
    split_ifs <;> rfl
  rw [State.stageCopy, hon]
  simp only [hlen]
  rfl

theorem State.stageCopy_off (h : s.domOn 13 = false) (data : List Byte) : s.stageCopy data = s := by
  rw [State.stageCopy, h]
  rfl

/-- The copy stands in SP0 row by row, and nothing above it changes. -/
theorem State.byte_stage (s : State) {bs : List Byte} (h : bs.length ≤ 524288) :
    (∀ i (hi : i < bs.length), (s.stage bs).byte (rowAddr 0 (i / 384) + i % 384) = bs[i]) ∧
    ∀ a : Nat, 0x200000 ≤ a → (s.stage bs).byte a = s.byte a := by
  rw [State.stage_eq]
  refine ⟨fun i hi => ?_, fun a ha => State.byte_stageRows_above s bs (by omega) (by omega)⟩
  rw [rowAddr_zero (by omega)]
  exact State.byte_stageRows s bs (by omega) hi (by omega)

/-- Nothing but the rows of the scratchpads, the registers and the loader's record differs after STAGE. -/
theorem State.stageCopy_frame (hon : s.domOn 13 = true) (data : List Byte) :
    (s.stageCopy data).fld F.BOOT_STATUS_STAGE = 3 ∧ s.KeepsRegs (s.stageCopy data) [Reg.BOOT_STATUS] ∧
    (s.stageCopy data).boot = { s.boot with
      flash := s.boot.flash ++ [.read s.boot.readOp s.boot.waits (0x80000 * s.fld F.BOOT_STATUS_COPY)] } ∧
    (s.stageCopy data).cip = s.cip ∧ (s.stageCopy data).fuses = s.fuses ∧ (s.stageCopy data).cores = s.cores := by
  rw [State.stageCopy_eq hon, State.stage_eq]
  generalize hread : s.flashDo [.read s.boot.readOp s.boot.waits (0x80000 * s.fld F.BOOT_STATUS_COPY)] = r
  generalize stagedBytes data _ = bs
  have hrows := r.onlyScratch_stageRows bs ((bs.length + 383) / 384)
  have hregs : s.KeepsRegs (r.stageRows bs ((bs.length + 383) / 384)) [Reg.BOOT_STATUS] := fun a _ => by
    rw [State.reg, r.regs_stageRows, ← hread]
    rfl
  generalize r.stageRows bs _ = u at hrows hregs
  rw [State.OnlyScratch] at hrows
  refine ⟨State.fld_setFld _ F.BOOT_STATUS_STAGE 3 (by decide), hregs.setFld F.BOOT_STATUS_STAGE 3 (by decide), ?_, ?_, ?_, ?_⟩
  · rw [State.setFld_boot, hrows, ← hread]
    rfl
  · rw [State.setFld_cip, hrows, ← hread]
    rfl
  · rw [State.setFld_fuses, hrows, ← hread]
    rfl
  · rw [State.setFld_cores, hrows, ← hread]
    rfl

theorem State.byte_stageCopy (hon : s.domOn 13 = true) (data : List Byte) :
    (∀ i, i < stageLen ((data ++ List.replicate 64 0xFF).take 64) (s.flag F.BOOT_FUSE_FMT1DIS) →
      (s.stageCopy data).byte (rowAddr 0 (i / 384) + i % 384) = data.getD i 0xFF) ∧
    ∀ a : Nat, 0x200000 ≤ a → (s.stageCopy data).byte a = s.byte a := by
  rw [State.stageCopy_eq hon]
  generalize hn : stageLen ((data ++ List.replicate 64 0xFF).take 64) (s.flag F.BOOT_FUSE_FMT1DIS) = n
  have hle : n ≤ 524288 := hn ▸ stageLen_le _ _
  obtain ⟨hrows, habove⟩ := State.byte_stage
    (s.flashDo [.read s.boot.readOp s.boot.waits (0x80000 * s.fld F.BOOT_STATUS_COPY)]) (bs := stagedBytes data n)
    (by rwa [length_stagedBytes])
  refine ⟨fun i hi => ?_, fun a ha => ?_⟩
  · have hin : i < (stagedBytes data n).length := by rwa [length_stagedBytes]
    rw [State.byte_setFld, hrows i hin, getElem_stagedBytes]
  · rw [State.byte_setFld, habove a ha]
    rfl

/-! ### CHECK (R150) -/

theorem State.bodyCode_takeBootKey (s : State) (key k p : List Byte) :
    (s.takeBootKey key).bodyCode k p = s.bodyCode k p := by
  have hdevkey : (s.takeBootKey key).devkey = s.devkey := rfl
  have hshadow : (s.takeBootKey key).shadow = s.shadow := rfl
  rw [State.bodyCode, hdevkey, hshadow, State.bodyCode]

section
variable (h7 : s.domOn 7 = true) (h13 : s.domOn 13 = true)
include h7 h13

theorem State.check_header (h : s.headerCode ≠ 0) : s.check = s.checkFailed s.headerCode := by
  rw [State.check, h7, h13]
  exact if_pos h

theorem State.check_body (h : s.headerCode = 0) : s.check =
    if s.bodyCode (parcelKey s.devkey s.parcel) s.parcel = 0
    then (s.takeBootKey (parcelKey s.devkey s.parcel)).checkPassed s.parcel
    else (s.takeBootKey (parcelKey s.devkey s.parcel)).checkFailed (s.bodyCode (parcelKey s.devkey s.parcel) s.parcel) := by
  rw [State.check, h7, h13, if_neg (by decide), if_neg (by rw [h]; decide)]
  dsimp only
  rw [State.bodyCode_takeBootKey]

end

theorem State.check_off (h : s.domOn 7 = false ∨ s.domOn 13 = false) : s.check = s :=
  if_pos (by rcases h with h | h <;> simp [h])

theorem State.headerCode_magic (h : numAt (s.staged 64) 0 4 ≠ 0x4C435048) : s.headerCode = 4 := by
  have hcode (b : Bool) : headCode (s.staged 64) b = 4 := if_pos h
  rw [State.headerCode]
  simp only [hcode]
  rfl

section
variable {key p : List Byte}

theorem State.bodyCode_tag (h : tagOk key p = false) : s.bodyCode key p = 7 := by
  rw [State.bodyCode, h]
  rfl

variable (htag : tagOk key p = true)
include htag

theorem State.bodyCode_version (h : 0x21 < numAt p 15 1) : s.bodyCode key p = 8 := by
  rw [State.bodyCode, htag]
  exact if_pos h

theorem State.bodyCode_rollback (h : numAt p 15 1 ≤ 0x21) (hroll : numAt p 12 1 < s.shadow.rollback) :
    s.bodyCode key p = 9 := by
  rw [State.bodyCode, htag]
  exact (if_neg (Nat.not_lt.mpr h)).trans (if_pos hroll)

end

theorem State.checkFailed_backup (heff : s.fld F.BOOT_STRAP_EFFSRC ≠ 2) (hcopy : s.fld F.BOOT_STATUS_COPY = 0) (code : Nat) :
    s.checkFailed code = ((s.setFld F.BOOT_STATUS_FALLBACK 1).setFld F.BOOT_STATUS_COPY 1).setFld F.BOOT_STATUS_STAGE 2 :=
  if_pos ⟨heff, hcopy⟩

theorem State.checkFailed_last (h : s.fld F.BOOT_STRAP_EFFSRC = 2 ∨ s.fld F.BOOT_STATUS_COPY = 1) (code : Nat) :
    s.checkFailed code = s.enterHold code := if_neg (by rintro ⟨heff, hcopy⟩; omega)

theorem numAt_lt (p : List Byte) (o k : Nat) : numAt p o k < 2 ^ (8 * k) := by
  have hlen : ((p.drop o).take k).length ≤ k := List.length_take_le _ _
  exact (ofBytes_lt _).trans_le (Nat.pow_le_pow_right (by decide) (Nat.mul_le_mul_left 8 hlen))

/-- Registers that a parcel that passes fills. -/
abbrev passRegs : List Nat := [Reg.BOOT_STATUS, Reg.BOOT_FMT, Reg.BOOT_BUILDLO, Reg.BOOT_BUILDHI, Reg.CIP_LOCK]

/-- The fields of a header that BOOT_FMT and BOOT_BUILD show, and the stage that follows. -/
def State.parcelShown (s : State) (p : List Byte) : State :=
  (((((s.setFld F.BOOT_FMT_FORMAT (fmtOf p)).setFld F.BOOT_FMT_ROLLLVL (numAt p 12 1)).setFld F.BOOT_FMT_KEYGEN
    (if fmtOf p = 2 then numAt p 14 1 else 0)).setFld F.BOOT_BUILDLO_BUILD (if fmtOf p = 2 then numAt p 16 3 else 0)).setFld
    F.BOOT_BUILDHI_BUILD (if fmtOf p = 2 then numAt p 19 1 else 0)).setFld F.BOOT_STATUS_STAGE 4

theorem State.checkPassed_eq (s : State) (p : List Byte) : s.checkPassed p = (s.parcelShown p).setBoot { s.boot with
    apply := 0, sp0 := 0, dpd := bitOf (numAt p 13 1) 0, advroll := fmtOf p == 2 && bitOf (numAt p 13 1) 1,
    level := numAt p 12 1 } := by
  have htwo (v : Nat) : (if (fmtOf p == 2) = true then v else 0) = if fmtOf p = 2 then v else 0 := by simp
  rw [State.checkPassed]
  simp only [htwo]
  rfl

theorem State.keepsRegs_parcelShown (s : State) (p : List Byte) : s.KeepsRegs (s.parcelShown p) passRegs :=
  ((((((State.KeepsRegs.refl _).setFld F.BOOT_FMT_FORMAT _ (by decide)).setFld F.BOOT_FMT_ROLLLVL _ (by decide)).setFld
    F.BOOT_FMT_KEYGEN _ (by decide)).setFld F.BOOT_BUILDLO_BUILD _ (by decide)).setFld F.BOOT_BUILDHI_BUILD _
    (by decide)).setFld F.BOOT_STATUS_STAGE _ (by decide)

theorem State.parcelShown_shows (s : State) (p : List Byte) :
    (s.parcelShown p).fld F.BOOT_STATUS_STAGE = 4 ∧ (s.parcelShown p).fld F.BOOT_FMT_FORMAT = fmtOf p % 16 ∧
    (s.parcelShown p).fld F.BOOT_FMT_ROLLLVL = numAt p 12 1 % 64 ∧
    (s.parcelShown p).fld F.BOOT_FMT_KEYGEN = (if fmtOf p = 2 then numAt p 14 1 else 0) ∧
    (s.parcelShown p).fld F.BOOT_BUILDLO_BUILD = (if fmtOf p = 2 then numAt p 16 3 else 0) ∧
    (s.parcelShown p).fld F.BOOT_BUILDHI_BUILD = (if fmtOf p = 2 then numAt p 19 1 else 0) := by
  have hfits (o k : Nat) : (if fmtOf p = 2 then numAt p o k else 0) % 2 ^ (8 * k) = if fmtOf p = 2 then numAt p o k else 0 :=
    Nat.mod_eq_of_lt (by split_ifs; exacts [numAt_lt p o k, Nat.two_pow_pos _])
  rw [State.parcelShown]
  simp (disch := decide) only [State.fld_setFld_apart, State.fld_setFld]
  exact ⟨rfl, rfl, rfl, hfits 14 1, hfits 16 3, hfits 19 1⟩

theorem State.takeBootKey_eq (s : State) (key : List Byte) :
    s.takeBootKey key = ({ s with cip := { s.cip with boot := key } } : State).setFld F.CIP_LOCK_OWNER 8 := rfl

/-- A parcel that passes, under its key. -/
theorem State.checkPassed_shows (s : State) (key p : List Byte) :
    ((s.takeBootKey key).checkPassed p).fld F.BOOT_STATUS_STAGE = 4 ∧
    ((s.takeBootKey key).checkPassed p).fld F.BOOT_FMT_FORMAT = fmtOf p % 16 ∧
    ((s.takeBootKey key).checkPassed p).fld F.BOOT_FMT_ROLLLVL = numAt p 12 1 % 64 ∧
    ((s.takeBootKey key).checkPassed p).fld F.BOOT_FMT_KEYGEN = (if fmtOf p = 2 then numAt p 14 1 else 0) ∧
    ((s.takeBootKey key).checkPassed p).fld F.BOOT_BUILDLO_BUILD = (if fmtOf p = 2 then numAt p 16 3 else 0) ∧
    ((s.takeBootKey key).checkPassed p).fld F.BOOT_BUILDHI_BUILD = (if fmtOf p = 2 then numAt p 19 1 else 0) ∧
    ((s.takeBootKey key).checkPassed p).fld F.CIP_LOCK_OWNER = 8 := by
  obtain ⟨hstage, hfmt, hroll, hgen, hlo, hhi⟩ := (s.takeBootKey key).parcelShown_shows p
  rw [State.checkPassed_eq]
  simp only [State.fld_setBoot]
  refine ⟨hstage, hfmt, hroll, hgen, hlo, hhi, ?_⟩
  rw [State.parcelShown, State.takeBootKey_eq]
  simp (disch := decide) only [State.fld_setFld_apart, State.fld_setFld]
  rfl

theorem State.checkPassed_frame (s : State) (key p : List Byte) :
    ((s.takeBootKey key).checkPassed p).cip = { s.cip with boot := key } ∧
    ((s.takeBootKey key).checkPassed p).boot = { s.boot with
      apply := 0, sp0 := 0, dpd := bitOf (numAt p 13 1) 0, advroll := fmtOf p == 2 && bitOf (numAt p 13 1) 1
      level := numAt p 12 1 } ∧
    s.KeepsRegs ((s.takeBootKey key).checkPassed p) passRegs ∧ ((s.takeBootKey key).checkPassed p).mem = s.mem ∧
    ((s.takeBootKey key).checkPassed p).tags = s.tags ∧ ((s.takeBootKey key).checkPassed p).fuses = s.fuses := by
  have htake : s.KeepsRegs (s.takeBootKey key) passRegs := by
    have hkey : s.KeepsRegs ({ s with cip := { s.cip with boot := key } } : State) passRegs := fun _ _ => rfl
    rw [State.takeBootKey_eq]
    exact hkey.setFld F.CIP_LOCK_OWNER 8 (by decide)
  rw [State.checkPassed_eq]
  refine ⟨?_, ?_, (htake.trans (State.keepsRegs_parcelShown _ p)).setBoot _, ?_, ?_, ?_⟩
  · simp only [State.setBoot_cip, State.parcelShown, State.setFld_cip, State.takeBootKey_eq]
  · simp only [State.setBoot_boot, State.setFld_boot, State.takeBootKey_eq]
  · simp only [State.setBoot_mem, State.parcelShown, State.setFld_mem, State.takeBootKey_eq]
  · simp only [State.setBoot_tags, State.parcelShown, State.setFld_tags, State.takeBootKey_eq]
  · simp only [State.setBoot_fuses, State.parcelShown, State.setFld_fuses, State.takeBootKey_eq]

end Sys2Proof.Machine
end

section
/-! What the mount of the parameter store and the noise cards change (R296, R527): the rules APPLY's second step needs. -/

namespace Sys2Proof.Machine

open Sys2Proof

variable {s t u : State} {n : Nat}

/-! ### What the store leaves unchanged -/

/-- Registers of the blocks that neither the store nor a log entry writes: PWR, RTC, EVF, SEAL, BOOT, CLK and SNS. -/
abbrev apartFromStore (a : Nat) : Prop := (0x05000000 ≤ a ∧ a < 0x05060000) ∨ (0x050D0000 ≤ a ∧ a < 0x050E0000)

/-- Nothing differs between `s` and `t` but the store, the tiles' trims, the log, what is on its way to the host, free
values drawn, and the registers of their blocks. -/
structure State.OnlyStore (s t : State) : Prop where
  rest : t = { s with
    regs := t.regs, pst := t.pst, pstPages := t.pstPages, pstOp := t.pstOp, trimSets := t.trimSets, free := t.free,
    log := t.log, disTicks := t.disTicks, messages := t.messages, msixPend := t.msixPend, flrDue := t.flrDue }
  regs : s.HoldsRegs apartFromStore t

theorem State.OnlyStore.refl (s : State) : s.OnlyStore s := ⟨rfl, .refl s⟩

theorem State.OnlyStore.trans (h : s.OnlyStore t) (h' : t.OnlyStore u) : s.OnlyStore u := by
  refine ⟨?_, h.regs.trans h'.regs⟩
  have hr := h.rest
  have hr' := h'.rest
  rw [hr] at hr'
  exact hr'

theorem State.OnlyStore.foldl {α : Type} {f : State → α → State} {l : List α}
    (hf : ∀ (u : State), ∀ x ∈ l, u.OnlyStore (f u x)) (s : State) : s.OnlyStore (l.foldl f s) :=
  List.foldlRecOn l f (.refl s) fun u hu x hx => hu.trans (hf u x hx)

theorem State.onlyStore_setReg (s : State) {a : Nat} (ha : ¬ apartFromStore a) (w : Word) : s.OnlyStore (s.setReg a w) :=
  ⟨rfl, (State.HoldsRegs.refl s).setReg ha w⟩

theorem State.OnlyStore.setReg (h : s.OnlyStore t) {a : Nat} (ha : ¬ apartFromStore a) (w : Word) :
    s.OnlyStore (t.setReg a w) := h.trans (t.onlyStore_setReg ha w)

theorem State.OnlyStore.setFld (h : s.OnlyStore t) {f : Fld} (hf : ¬ apartFromStore f.addr) (v : Nat) :
    s.OnlyStore (t.setFld f v) := h.setReg hf _

theorem State.onlyStore_setFld (s : State) {f : Fld} (hf : ¬ apartFromStore f.addr) (v : Nat) :
    s.OnlyStore (s.setFld f v) := s.onlyStore_setReg hf _

theorem State.onlyStore_drawn (s : State) : s.OnlyStore s.drawn := ⟨rfl, fun _ _ => rfl⟩

theorem State.onlyStore_setPage (s : State) (p : Nat) (x : PstPage) : s.OnlyStore (s.setPage p x) := ⟨rfl, fun _ _ => rfl⟩

theorem State.onlyStore_setOp (s : State) (o : Option PstOp) : s.OnlyStore { s with pstOp := o } := ⟨rfl, fun _ _ => rfl⟩

/-! ### Log entries (R727, R728) -/

theorem State.onlyStore_sendVec (s : State) (v : Nat) : s.OnlyStore (s.sendVec v) := by
  have hpend : ∀ a ∈ [Reg.HST_VPEND0, Reg.HST_VPEND1, Reg.HST_VPEND2], ¬ apartFromStore a := by decide
  rw [State.sendVec]
  split_ifs
  · exact .refl s
  · exact s.onlyStore_setFld (hpend _ (vpendFld_addr v)) 1
  · exact ⟨rfl, fun _ _ => rfl⟩
  · exact ⟨rfl, fun _ _ => rfl⟩

theorem State.onlyStore_hostEvent (s : State) (i : Nat) : s.OnlyStore (s.hostEvent i) := by
  have hbit : s.OnlyStore (s.setFbit ⟨Reg.HST_IRQSTAT, 0, 6⟩ i true) := s.onlyStore_setFld (by decide) _
  rw [State.hostEvent]
  split_ifs
  · exact .refl s
  · exact hbit.trans (State.onlyStore_sendVec _ _)
  · exact hbit

theorem State.onlyStore_logEntry (s : State) (code unit detail : Nat) : s.OnlyStore (s.logEntry code unit detail) := by
  have hput (e : LogEntry) :
      s.OnlyStore (if s.log.length < 32 then { s with log := s.log ++ [e] } else s.incFld F.FLT_LOGCNT_OVF 1) := by
    split_ifs
    · exact ⟨rfl, fun _ _ => rfl⟩
    · exact s.onlyStore_setFld (by decide) _
  exact ((hput _).setFld (f := F.FLT_STATUS_LOGANY) (by decide) 1).trans (State.onlyStore_hostEvent _ 3)

theorem State.onlyStore_setHealthD (s : State) {n : Nat} (_ : n < 256) (v : Nat) : s.OnlyStore (s.setHealthD n v) := by
  have hdp : ¬ apartFromStore (Reg.FLT_DP (n / 12)) := by
    dsimp only [apartFromStore, Reg.FLT_DP]
    omega
  have hset := s.onlyStore_setFld (f := ⟨Reg.FLT_DP (n / 12), 2 * (n % 12), 2⟩) hdp v
  rw [State.setHealthD, State.settleUnit]
  split_ifs
  · exact hset
  · exact hset.trans ⟨rfl, fun _ _ => rfl⟩

theorem State.onlyStore_fault (s : State) (code : Nat) (h : n < 256) (detail : Nat) (raises : Bool) :
    s.OnlyStore (s.fault code n detail raises) := by
  have hlog := s.onlyStore_logEntry code n detail
  rw [State.fault, State.raiseD]
  split_ifs
  · exact (hlog.trans (State.onlyStore_setHealthD _ h 1)).setFld (f := F.FLT_STATUS_DPCHG) (by decide) 1
  · exact hlog
  · exact hlog

/-! ### Reads of groups (R514) -/

theorem State.onlyStore_eccRead (s : State) (g : Nat) : s.OnlyStore (s.eccRead g) := by
  have haddr (u : State) (v : Nat) : u.OnlyStore (((u.setFld F.PST_ECCADDR_GROUP g).setFld F.PST_ECCADDR_UE v).setFld
      F.PST_ECCADDR_VALID 1) :=
    ((u.onlyStore_setFld (by decide) g).setFld (by decide) v).setFld (by decide) 1
  have hce : s.OnlyStore (s.incFld F.PST_ECC_CE 1) := s.onlyStore_setFld (by decide) _
  have hue : s.OnlyStore (s.incFld F.PST_ECC_UE 1) := s.onlyStore_setFld (by decide) _
  rw [State.eccRead]
  split
  · exact .refl s
  · dsimp only
    split_ifs
    · exact hce
    · exact hce.trans (haddr _ 0)
  · dsimp only
    refine .trans ?_ (State.onlyStore_fault _ 0x09 (by decide) g false)
    split_ifs
    · exact hue
    · exact hue.trans (haddr _ 1)

theorem State.onlyStore_eccReads (s : State) (gs : List Nat) : s.OnlyStore (s.eccReads gs) :=
  .foldl (fun u g _ => u.onlyStore_eccRead g) s

/-! ### The mount (R527) -/

theorem State.onlyStore_mountPage (w0 w1 : Nat) (s : State) (p : Nat) : s.OnlyStore (State.mountPage w0 w1 s p) := by
  have hhead := s.onlyStore_eccReads ((List.range 5).map fun i => 64 * p + 59 + i)
  rw [State.mountPage]
  refine .trans ?_ (State.onlyStore_setPage _ p _)
  split_ifs
  · exact hhead.trans (State.onlyStore_eccReads _ _)
  · exact hhead

theorem State.onlyStore_keeper (a : State × Nat) (q : Nat) : a.1.OnlyStore (State.keeper a q).1 := by
  rw [State.keeper, apply_ite Prod.fst]
  split
  · exact a.1.onlyStore_drawn
  · exact .refl _

theorem State.onlyStore_keepers (l : List Nat) (a : State × Nat) : a.1.OnlyStore (l.foldl State.keeper a).1 :=
  List.foldlRecOn (motive := fun b : State × Nat => a.1.OnlyStore b.1) l _ (.refl _) fun b hb q _ =>
    hb.trans (State.onlyStore_keeper b q)

theorem State.onlyStore_mountFixes (l seen : List Nat) (s : State) : s.OnlyStore (State.mountFixes l seen s).1 := by
  induction l generalizing seen s with
  | nil => exact .refl s
  | cons p l ih =>
    rw [State.mountFixes]
    split_ifs
    · exact ih _ _
    · exact (State.onlyStore_keepers _ (s, p)).trans (ih _ _)

theorem State.onlyStore_pstEnd (s : State) (cmd code : Nat) : s.OnlyStore (s.pstEnd cmd code) :=
  (s.onlyStore_setFld (f := F.PST_RESULT_CODE) (by decide) code).setFld (f := F.PST_RESULT_CMD) (by decide) cmd

theorem State.onlyStore_pstStop (s : State) (o : PstOp) (code : Nat) : s.OnlyStore (s.pstStop o code) :=
  (s.onlyStore_setOp none).trans (State.onlyStore_pstEnd _ _ _)

theorem State.onlyStore_mountFinish (s : State) (fixes : List Nat) : s.OnlyStore (s.mountFinish fixes) := by
  rw [State.mountFinish]
  refine .trans (.setFld (f := F.PST_STATUS_MOUNTED) (.trans ?_ (State.onlyStore_setOp _ none)) (by decide) 1)
    (State.onlyStore_pstEnd _ 1 1)
  have hinfo := ((s.onlyStore_setFld (f := F.PST_MOUNTINFO_DIRTY) (by decide) (min 255
    ((List.range 256).filter fun p => (s.page p).cls == 3).length)).setFld (f := F.PST_MOUNTINFO_LOST) (by decide)
    (min 255 s.lostKeys.length)).setFld (f := F.PST_MOUNTINFO_REPAIR) (by decide) (b2n (decide (fixes ≠ [])))
  split_ifs
  · exact hinfo
  · exact hinfo.trans (State.onlyStore_fault _ 0x0A (by decide) _ false)

/-- The command in progress is a mount with a page left to supersede. -/
def State.Mounting (s : State) : Prop := ∀ o, s.pstOp = some o → ∃ l, o.fixes = some l ∧ o.unit < l.length

theorem State.Mounting.of_none (h : s.pstOp = none) : s.Mounting := fun o ho => by simp [h] at ho

theorem State.onlyStore_pstMark (s : State) (o : PstOp) (p : Nat) : s.OnlyStore (s.pstMark o p) := by
  rw [State.pstMark]
  split_ifs
  · exact s.onlyStore_setPage _ _
  · exact s.onlyStore_setPage _ _
  · exact .refl s

section
variable {o : PstOp} {l : List Nat} (hfix : o.fixes = some l) (hunit : o.unit < l.length)
include hfix

theorem PstOp.erasing_of_fixes : o.erasing = false := by simp [PstOp.erasing, hfix]

theorem State.pstFail_mount (s : State) (p : Nat) :
    s.pstFail o p = (s.setPage p { s.page p with retired := true }).pstStop o 9 := by
  rw [State.pstFail]
  dsimp only
  rw [if_neg (by simp [hfix])]

include hunit

/-- A mount programs the SUPERSEDE of the page at hand, and ends with the last or with one that fails. -/
theorem State.pstDo_mount (s : State) (fail : Bool) : s.OnlyStore (s.pstDo o fail) ∧ (s.pstDo o fail).Mounting := by
  have hsup : o.superseding.isNone = false := by simp [PstOp.superseding, hfix, hunit]
  have hprogram (g v : Nat) : s.OnlyStore (s.program g v fail) := by
    rw [State.program]
    split_ifs
    · exact .refl s
    · exact ⟨rfl, fun _ _ => rfl⟩
  have hmark (g v : Nat) (p : Nat) := (hprogram g v).trans (State.onlyStore_pstMark _ o p)
  rw [State.pstDo, PstOp.erasing_of_fixes hfix, hsup]
  simp only [Bool.false_and, Bool.false_eq_true, if_false]
  split_ifs with hfail hlast
  · rw [State.pstFail_mount hfix]
    exact ⟨((hmark _ _ _).trans (State.onlyStore_setPage _ _ _)).trans (State.onlyStore_pstStop _ o 9), .of_none rfl⟩
  · rw [State.pstFinish, hfix]
    exact ⟨(hmark _ _ _).trans (State.onlyStore_mountFinish _ l), .of_none rfl⟩
  · refine ⟨(hmark _ _ _).trans (State.onlyStore_setOp _ _), ?_⟩
    rintro o' ho'
    obtain rfl := Option.some.inj ho'
    have hmore : o.unit + 1 ≠ l.length := by simpa [PstOp.units, hfix] using hlast
    exact ⟨l, hfix, show o.unit + 1 < l.length by omega⟩

end

theorem State.onlyStore_pstAdvance (n : Nat) (h : s.Mounting) : s.OnlyStore (s.pstAdvance .chance n) := by
  induction n generalizing s with
  | zero => exact .refl s
  | succ n ih =>
    rw [State.pstAdvance]
    split
    · exact .refl s
    next o ho =>
      obtain ⟨l, hfix, hunit⟩ := h o ho
      obtain ⟨honly, hmount⟩ := State.pstDo_mount hfix hunit s.drawn (s.open_ 2 == 1)
      have hstep : s.pstChance = s.drawn.pstDo o (s.open_ 2 == 1) := by rw [State.pstChance, ho]
      dsimp only
      rw [hstep]
      exact (s.onlyStore_drawn.trans honly).trans (ih hmount)

theorem State.onlyStore_pstMount (s : State) : s.OnlyStore (s.pstMount .chance) := by
  have hstart : s.OnlyStore (({ s with pstPages := [] } : State).setFld F.PST_STATUS_MOUNTED 0) :=
    .setFld (t := { s with pstPages := [] }) ⟨rfl, fun _ _ => rfl⟩ (by decide) 0
  have hpages := hstart.trans (.foldl (l := List.range 256)
    (fun u p _ => u.onlyStore_mountPage (s.bankWear 0) (s.bankWear 1) p) _)
  rw [State.pstMount]
  generalize (List.range 256).foldl _ _ = u at hpages ⊢
  have hfixes := hpages.trans (u.onlyStore_mountFixes ((List.range 256).filter fun p => (u.page p).cls == 1) [])
  generalize State.mountFixes _ _ _ = v at hfixes ⊢
  split_ifs with hnone
  · exact hfixes.trans (State.onlyStore_mountFinish _ [])
  · refine hfixes.trans ((State.onlyStore_setOp _ _).trans (State.onlyStore_pstAdvance 300 ?_))
    rintro o ho
    obtain rfl := Option.some.inj ho
    exact ⟨v.2, rfl, List.length_pos_iff.mpr hnone⟩

/-! ### The noise cards (R296) -/

theorem State.onlyStore_setTrimSet (s : State) (n : Nat) (x : TrimSet) : s.OnlyStore (s.setTrimSet n x) :=
  ⟨rfl, fun _ _ => rfl⟩

theorem State.onlyStore_setTrims (s : State) (h : n < 32) (b : List Byte) : s.OnlyStore (s.setTrims n b) := by
  have htile {a : Nat} (h1 : 0x01000000 ≤ a) (h2 : a < 0x01010000) : ¬ apartFromStore (a + 0x10000 * n) := by
    dsimp only [apartFromStore]
    omega
  have htrims : s.OnlyStore ((List.range 131).foldl (fun s k =>
      s.setReg (Reg.CAL_TRIM n k) (BitVec.ofNat 24 (numAt b (48 + 3 * k) (if k = 130 then 2 else 3)))) s) :=
    .foldl (fun u k hk => u.onlyStore_setReg (by
      have := List.mem_range.mp hk
      dsimp only [apartFromStore, Reg.CAL_TRIM]
      omega) _) s
  rw [State.setTrims]
  generalize (List.range 131).foldl _ s = u at htrims ⊢
  exact ((htrims.trans (u.onlyStore_setTrimSet n _)).trans (State.onlyStore_drawn _)).setFld
    (f := F.CAL_STAT_TRIMOK n) (htile (by decide) (by decide)) 1

theorem State.onlyStore_loadCard (s : State) (h : n < 32) : s.OnlyStore (s.loadCard n) := by
  have hbad : ¬ apartFromStore (F.CAL_STAT_CARDBAD n).addr := by
    dsimp only [apartFromStore, Reg.CAL_STAT]
    omega
  have hlost (u : State) : u.OnlyStore ((u.setFld (F.CAL_STAT_CARDBAD n) 1).fault 0x05 n 0 true) :=
    (u.onlyStore_setFld hbad 1).trans (State.onlyStore_fault _ 0x05 (by omega) 0 true)
  rw [State.loadCard]
  split
  · have hreads := s.onlyStore_eccReads (groupsOf (512 * ‹Nat›) 448)
    dsimp only
    split_ifs
    · exact hreads.trans (State.onlyStore_setTrims _ h _)
    · exact hreads.trans (hlost _)
  · exact hlost s

/-- The store mounted and the cards read. -/
def State.cardsRead (s : State) : State := (List.range 32).foldl State.loadCard (s.pstMount .chance)

theorem State.onlyStore_cardsRead (s : State) : s.OnlyStore s.cardsRead :=
  s.onlyStore_pstMount.trans (.foldl (fun u _ ht => u.onlyStore_loadCard (List.mem_range.mp ht)) _)

end Sys2Proof.Machine
end

section
/-! APPLY (R151-R154): the clock's sequence, the class and the meter locked, the keys, and the code copied. -/

namespace Sys2Proof.Machine

open Sys2Proof

variable {s t u : State} {p b : List Byte} {x : Sect} {l : List Sect} {d k n z : Nat}

/-! ### Steps that establish one fact each -/

/-- Step k of the first n establishes `P k` and keeps what the others establish: at the end all hold. -/
theorem foldl_range_establishes {P : Nat → State → Prop} {f : State → Nat → State} (n : Nat)
    (hset : ∀ u, ∀ k < n, P k (f u k)) (hkeep : ∀ u, ∀ j < n, ∀ k < n, j ≠ k → P j u → P j (f u k)) (s : State) :
    ∀ k < n, P k ((List.range n).foldl f s) := by
  have upto (m : Nat) (hm : m ≤ n) : ∀ k < m, P k ((List.range m).foldl f s) := by
    induction m with
    | zero => exact fun k hk => absurd hk (Nat.not_lt_zero k)
    | succ m ih =>
      intro k hk
      rw [List.range_succ, List.foldl_append]
      rcases eq_or_ne k m with rfl | hne
      · exact hset _ k hm
      · exact hkeep _ k (by omega) m hm hne (ih (by omega) k (by omega))
  exact upto n le_rfl

/-- A step per core, each changing its own core by what that core holds. -/
theorem core_foldl_range {f : State → Nat → State} {g : Nat → CoreSt → CoreSt}
    (hf : ∀ u k j, (f u k).core j = if j = k then g k (u.core k) else u.core j) (n : Nat) (s : State) (j : Nat) :
    ((List.range n).foldl f s).core j = if j < n then g j (s.core j) else s.core j := by
  induction n with
  | zero => rfl
  | succ n ih =>
    rw [List.range_succ, List.foldl_append, List.foldl_cons, List.foldl_nil, hf]
    rcases eq_or_ne j n with rfl | hne
    · rw [if_pos rfl, ih, if_neg (lt_irrefl j), if_pos (Nat.lt_succ_self j)]
    · rw [if_neg hne, ih]
      exact if_congr (by omega) rfl rfl

/-! ### The class and the meter (R57, R154, R691) -/

theorem State.keepsRegs_applyClass (s : State) (p : List Byte) : s.KeepsRegs (s.applyClass p) [Reg.SNS_CLASS] :=
  ((State.KeepsRegs.refl _).setFld F.SNS_CLASS_CLASS _ (by decide)).setFld F.SNS_CLASS_LOCKED 1 (by decide)

theorem State.applyClass_locked (s : State) (p : List Byte) : (s.applyClass p).fld F.SNS_CLASS_LOCKED = 1 :=
  State.fld_setFld _ F.SNS_CLASS_LOCKED 1 (by decide)

theorem State.applySeal_same (hlock : s.flag F.SEAL_CTRL_LOCK = true) (hx : sectsOfType p 1 = x :: l)
    (h : s.meterSame (x.payload p) = true) : s.applySeal p = s := by
  rw [State.applySeal, hx]
  simp only [hlock, h, if_true]

theorem State.applySeal_differs (hlock : s.flag F.SEAL_CTRL_LOCK = true) (hx : sectsOfType p 1 = x :: l)
    (h : s.meterSame (x.payload p) = false) : s.applySeal p = s.setFld F.BOOT_STATUS_SEALDIFF 1 := by
  rw [State.applySeal, hx]
  simp only [hlock, h, if_true, if_false, Bool.false_eq_true]

theorem State.applySeal_open (hlock : s.fld F.SEAL_CTRL_LOCK = 0) (hx : sectsOfType p 1 = x :: l) :
    s.applySeal p = s.lockMeter (x.payload p) := by
  rw [State.applySeal, hx]
  simp only [State.flag_of_zero hlock, if_false, Bool.false_eq_true]

/-- Nothing differs between `s` and `t` but the meter's registers and zones. -/
structure State.OnlyMeter (s t : State) : Prop where
  rest : t = { s with regs := t.regs, zones := t.zones }
  regs : s.HoldsRegs (fun a => ¬ (0x05030000 ≤ a ∧ a < 0x05030100)) t

theorem State.OnlyMeter.refl (s : State) : s.OnlyMeter s := ⟨rfl, .refl s⟩

theorem State.OnlyMeter.trans (h : s.OnlyMeter t) (h' : t.OnlyMeter u) : s.OnlyMeter u := by
  refine ⟨?_, h.regs.trans h'.regs⟩
  have hr := h.rest
  have hr' := h'.rest
  rw [hr] at hr'
  exact hr'

theorem State.onlyMeter_setFld (s : State) {f : Fld} (hf : 0x05030000 ≤ f.addr ∧ f.addr < 0x05030100) (v : Nat) :
    s.OnlyMeter (s.setFld f v) := ⟨rfl, (State.HoldsRegs.refl s).setFld (fun h => h hf) v⟩

/-- An advance task bound to its zone (R57). -/
def State.bindAdvance (b : List Byte) (s : State) (n : Nat) : State :=
  (s.setFld (F.SEAL_ADV_ZONE n) (bitsOf (numAt b (2 + n) 1) 0 6)).setFld (F.SEAL_ADV_EN n) (bitsOf (numAt b (2 + n) 1) 7 1)

/-- A zone as the SEAL section sets it up, its budget granted. -/
def zoneSet (b : List Byte) (now z : Nat) : Zone :=
  { epoch := 0, seq := 0, b0 := (zoneTerms b z).1, b1 := 0, b2 := 0, b3 := 0, b4 := 0, budget := (zoneTerms b z).1
    miniv := (zoneTerms b z).2, last := now }

/-- A zone set up (R58). -/
def State.grantZone (b : List Byte) (s : State) (z : Nat) : State := s.setZone z (zoneSet b s.aonCycles z)

/-- The advance tasks bound. -/
def State.bindAdvances (s : State) (b : List Byte) : State := (List.range 8).foldl (State.bindAdvance b) s

/-- The zones set up. -/
def State.grantZones (s : State) (b : List Byte) : State := (List.range 64).foldl (State.grantZone b) s

theorem State.lockMeter_eq (s : State) (b : List Byte) : s.lockMeter b =
    (((s.setFld F.SEAL_VLIMIT_LIMIT (numAt b 0 2)).bindAdvances b).grantZones b).setFld F.SEAL_CTRL_LOCK 1 := rfl

theorem State.onlyMeter_bindAdvance (s : State) (b : List Byte) (h : n < 8) : s.OnlyMeter (s.bindAdvance b n) := by
  have haddr : 0x05030000 ≤ Reg.SEAL_ADV n ∧ Reg.SEAL_ADV n < 0x05030100 := by
    dsimp only [Reg.SEAL_ADV]
    omega
  exact (s.onlyMeter_setFld (f := F.SEAL_ADV_ZONE n) haddr _).trans (State.onlyMeter_setFld _ (f := F.SEAL_ADV_EN n) haddr _)

theorem State.onlyMeter_bindAdvances (s : State) (b : List Byte) : s.OnlyMeter (s.bindAdvances b) :=
  List.foldlRecOn (motive := s.OnlyMeter) _ _ (.refl s) fun u hu _ hn =>
    hu.trans (u.onlyMeter_bindAdvance b (List.mem_range.mp hn))

theorem State.onlyMeter_grantZones (s : State) (b : List Byte) : s.OnlyMeter (s.grantZones b) :=
  List.foldlRecOn (motive := s.OnlyMeter) _ _ (.refl s) fun _ hu _ _ => hu.trans ⟨rfl, fun _ _ => rfl⟩

theorem State.onlyMeter_lockMeter (s : State) (b : List Byte) : s.OnlyMeter (s.lockMeter b) :=
  (((s.onlyMeter_setFld (f := F.SEAL_VLIMIT_LIMIT) (by decide) _).trans (State.onlyMeter_bindAdvances _ b)).trans
    (State.onlyMeter_grantZones _ b)).trans (State.onlyMeter_setFld _ (f := F.SEAL_CTRL_LOCK) (by decide) 1)

theorem State.regs_grantZones (s : State) (b : List Byte) : (s.grantZones b).regs = s.regs :=
  List.foldlRecOn (motive := fun u : State => u.regs = s.regs) _ _ rfl fun _ hu _ _ => hu

/-- The binding an advance task shows. -/
def State.AdvanceBound (b : List Byte) (n : Nat) (s : State) : Prop :=
  s.fld (F.SEAL_ADV_ZONE n) = bitsOf (numAt b (2 + n) 1) 0 6 ∧ s.fld (F.SEAL_ADV_EN n) = bitsOf (numAt b (2 + n) 1) 7 1

theorem State.advanceBound_of_reg (h : s.AdvanceBound b n) (hr : t.reg (Reg.SEAL_ADV n) = s.reg (Reg.SEAL_ADV n)) :
    t.AdvanceBound b n := by
  obtain ⟨hzone, hen⟩ := h
  refine ⟨hzone ▸ ?_, hen ▸ ?_⟩
  · simp only [State.fld, hr]
  · simp only [State.fld, hr]

theorem State.advanceBound_bindAdvance (b : List Byte) (s : State) (n : Nat) : (s.bindAdvance b n).AdvanceBound b n := by
  have hzone := s.fld_setFld (F.SEAL_ADV_ZONE n) (bitsOf (numAt b (2 + n) 1) 0 6) (show 0 + 6 ≤ 24 by decide)
  refine ⟨?_, ?_⟩
  · rw [State.bindAdvance, State.fld_setFld_apart _ _ (F.SEAL_ADV_ZONE n) _ (show 6 + 1 ≤ 24 by decide)
      (.inr (.inl (show 0 + 6 ≤ 6 by decide))), hzone]
    exact Nat.mod_eq_of_lt (bitsOf_lt _ 0 6)
  · rw [State.bindAdvance, State.fld_setFld _ _ _ (show 6 + 1 ≤ 24 by decide)]
    exact Nat.mod_eq_of_lt (bitsOf_lt _ 7 1)

theorem State.advanceBound_bindAdvances (s : State) (b : List Byte) (hn : n < 8) : (s.bindAdvances b).AdvanceBound b n := by
  refine foldl_range_establishes (P := State.AdvanceBound b) 8 (fun u k _ => u.advanceBound_bindAdvance b k) ?_ s n hn
  intro u j _ k _ hne hu
  have hother : Reg.SEAL_ADV j ≠ Reg.SEAL_ADV k := by
    dsimp only [Reg.SEAL_ADV]
    omega
  exact State.advanceBound_of_reg hu
    ((State.reg_setReg_ne _ _ _ _ hother).trans (State.reg_setReg_ne _ _ _ _ hother))

theorem State.zone_grantZones (s : State) (b : List Byte) (hz : z < 64) :
    ∃ now, (s.grantZones b).zone z = zoneSet b now z := by
  refine foldl_range_establishes (P := fun z (u : State) => ∃ now, u.zone z = zoneSet b now z) 64
    (fun u k _ => ⟨u.aonCycles, u.zone_setZone_same k _⟩) ?_ s z hz
  rintro u j _ k _ hne ⟨now, hu⟩
  have hother : (u.grantZone b k).zone j = u.zone j := (u.zone_setZone j k _).trans (if_neg hne)
  exact ⟨now, hother.trans hu⟩

/-- What a locked meter shows of the SEAL section (R57). -/
structure State.MeterLocked (s : State) (b : List Byte) : Prop where
  lock : s.fld F.SEAL_CTRL_LOCK = 1
  limit : s.fld F.SEAL_VLIMIT_LIMIT = numAt b 0 2
  advance : ∀ n < 8, s.AdvanceBound b n
  zones : ∀ z < 64, ∃ now, s.zone z = zoneSet b now z

theorem State.meterLocked_lockMeter (s : State) (b : List Byte) : (s.lockMeter b).MeterLocked b := by
  have hregs := State.regs_grantZones ((s.setFld F.SEAL_VLIMIT_LIMIT (numAt b 0 2)).bindAdvances b) b
  have hreg (a : Nat) (ha : a ≠ Reg.SEAL_CTRL) :
      (s.lockMeter b).reg a = ((s.setFld F.SEAL_VLIMIT_LIMIT (numAt b 0 2)).bindAdvances b).reg a := by
    rw [State.lockMeter_eq, State.reg_setFld_ne _ _ _ _ ha, State.reg, hregs, State.reg]
  have hlimit (u : State) : (u.bindAdvances b).reg Reg.SEAL_VLIMIT = u.reg Reg.SEAL_VLIMIT :=
    List.foldlRecOn (motive := fun v : State => v.reg Reg.SEAL_VLIMIT = u.reg Reg.SEAL_VLIMIT) _ _ rfl fun v hv n _ => by
      have hother : Reg.SEAL_VLIMIT ≠ Reg.SEAL_ADV n := by
        dsimp only [Reg.SEAL_VLIMIT, Reg.SEAL_ADV]
        omega
      exact ((State.reg_setReg_ne _ _ _ _ hother).trans (State.reg_setReg_ne _ _ _ _ hother)).trans hv
  refine ⟨?_, ?_, fun n hn => ?_, fun z hz => ?_⟩
  · rw [State.lockMeter_eq, State.fld_setFld _ F.SEAL_CTRL_LOCK 1 (by decide)]
    rfl
  · have hset := s.fld_setFld F.SEAL_VLIMIT_LIMIT (numAt b 0 2) (by decide)
    rw [State.fld, hreg _ (by decide), hlimit]
    exact hset.trans (Nat.mod_eq_of_lt (numAt_lt b 0 2))
  · exact State.advanceBound_of_reg (State.advanceBound_bindAdvances _ b hn) (hreg _ (by
      dsimp only [Reg.SEAL_ADV, Reg.SEAL_CTRL]
      omega))
  · rw [State.lockMeter_eq, State.zone_setFld]
    exact State.zone_grantZones _ b hz

/-! ### Keys (R552) -/

theorem State.cipKey_setCipKey (s : State) (j k : Nat) (v : CipKey) :
    (s.setCipKey k v).cipKey j = if j = k then v else s.cipKey j :=
  tabGet_tabSet (fun _ => ({} : CipKey)) s.cip.keys k j v

/-- The slot a KEY payload names. -/
abbrev slotOf (b : List Byte) : Nat := numAt b 0 1

/-- What a key slot holds of a KEY payload. -/
def slotKey (b key : List Byte) : CipKey := { valid := true, size := b2n (numAt b 1 1 == 32), use := 0x7F, key := key }

theorem State.cipKey_applyKey_other (s : State) (h : k ≠ slotOf b) : (s.applyKey b).cipKey k = s.cipKey k := by
  rw [State.applyKey]
  split
  · rw [State.cipKey_setCipKey, if_neg h]
  · rfl

theorem State.cipKey_applyKey (s : State) {key : List Byte} (h : keyUnwrap (wrapKey s.devkey) (b.drop 4) = some key) :
    (s.applyKey b).cipKey (slotOf b) = slotKey b key := by
  rw [State.applyKey, h]
  exact (s.cipKey_setCipKey _ _ _).trans (if_pos rfl)

/-- The KEY payloads of a list taken into their slots. -/
def State.applyKeys (s : State) (l : List (List Byte)) : State := l.foldl State.applyKey s

theorem State.applyKeys_only (s : State) (l : List (List Byte)) : s.applyKeys l = { s with cip := (s.applyKeys l).cip } :=
  List.foldlRecOn (motive := fun u : State => u = { s with cip := u.cip }) l _ rfl fun u hu b _ => by
    have hkey : u.applyKey b = { u with cip := (u.applyKey b).cip } := by
      rw [State.applyKey]
      split <;> rfl
    rw [hkey, hu]

theorem State.cipKey_applyKeys_other (s : State) (l : List (List Byte)) (h : k ∉ l.map slotOf) :
    (s.applyKeys l).cipKey k = s.cipKey k := by
  induction l generalizing s with
  | nil => rfl
  | cons b l ih =>
    obtain ⟨hne, hl⟩ := not_or.mp (List.mem_cons.not.mp h)
    exact (ih _ hl).trans (s.cipKey_applyKey_other hne)

/-- Where no KEY section names slot 0 and none a slot twice, each has its key in its slot. -/
theorem State.cipKey_applyKeys (s : State) (l : List (List Byte)) {key : List Byte} (h0 : 0 ∉ l.map slotOf)
    (hnodup : (l.map slotOf).Nodup) (hb : b ∈ l) (hkey : keyUnwrap (wrapKey s.devkey) (b.drop 4) = some key) :
    (s.applyKeys l).cipKey (slotOf b) = slotKey b key := by
  induction l generalizing s with
  | nil => exact absurd hb List.not_mem_nil
  | cons c l ih =>
    obtain ⟨hc, hl⟩ := List.nodup_cons.mp hnodup
    obtain ⟨hc0, hl0⟩ := not_or.mp (List.mem_cons.not.mp h0)
    rcases List.mem_cons.mp hb with rfl | hb
    · exact ((s.applyKey b).cipKey_applyKeys_other l hc).trans (s.cipKey_applyKey hkey)
    · refine ih (s.applyKey c) hl0 hl hb ?_
      have hdev : (s.applyKey c).devkey = s.devkey := congrArg CipKey.key (s.cipKey_applyKey_other hc0)
      rw [hdev, hkey]

/-! ### Steps 2 to 7 (R151) -/

/-- Steps 2 to 5: cards, class, meter and keys. -/
def State.applied (s : State) (p : List Byte) : State :=
  ((s.cardsRead.applyClass p).applySeal p).applyKeys ((sectsOfType p 8).map fun x => x.payload p)

/-- What neither the cards, the class, the meter nor the keys change. -/
def State.SameLoader (s t : State) : Prop :=
  t.boot = s.boot ∧ t.fuses = s.fuses ∧ t.held = s.held ∧ t.weather = s.weather ∧ t.tap = s.tap

theorem State.SameLoader.trans (h : s.SameLoader t) (h' : t.SameLoader u) : s.SameLoader u := by
  obtain ⟨hb, hf, hh, hw, ht⟩ := h
  obtain ⟨hb', hf', hh', hw', ht'⟩ := h'
  exact ⟨hb'.trans hb, hf'.trans hf, hh'.trans hh, hw'.trans hw, ht'.trans ht⟩

theorem State.SameLoader.refl (s : State) : s.SameLoader s := ⟨rfl, rfl, rfl, rfl, rfl⟩

theorem State.SameLoader.setFld (h : s.SameLoader t) (f : Fld) (v : Nat) : s.SameLoader (t.setFld f v) :=
  h.trans ⟨rfl, rfl, rfl, rfl, rfl⟩

theorem State.SameLoader.stopped (h : s.SameLoader t) : t.stopped = s.stopped := by
  obtain ⟨-, -, hh, hw, ht⟩ := h
  rw [State.stopped, hh, hw, ht, State.stopped]

theorem State.OnlyStore.sameLoader (h : s.OnlyStore t) : s.SameLoader t := by
  rw [h.rest]
  exact ⟨rfl, rfl, rfl, rfl, rfl⟩

theorem State.OnlyMeter.sameLoader (h : s.OnlyMeter t) : s.SameLoader t := by
  rw [h.rest]
  exact ⟨rfl, rfl, rfl, rfl, rfl⟩

theorem State.sameLoader_applySeal (s : State) (p : List Byte) : s.SameLoader (s.applySeal p) := by
  rw [State.applySeal]
  split
  · split_ifs
    · exact .refl s
    · exact (State.SameLoader.refl s).setFld _ _
    · exact (State.onlyMeter_lockMeter _ _).sameLoader
  · exact .refl s

theorem State.sameLoader_applyKeys (s : State) (l : List (List Byte)) : s.SameLoader (s.applyKeys l) := by
  rw [State.applyKeys_only]
  exact ⟨rfl, rfl, rfl, rfl, rfl⟩

theorem State.sameLoader_applied (s : State) (p : List Byte) : s.SameLoader (s.applied p) := by
  have hclass (u : State) : u.SameLoader (u.applyClass p) := ((State.SameLoader.refl u).setFld _ _).setFld _ _
  exact ((s.onlyStore_cardsRead.sameLoader.trans (hclass _)).trans (State.sameLoader_applySeal _ p)).trans
    (State.sameLoader_applyKeys _ _)

/-- A parcel without REG sections: its domains are asked for once the rest of it is applied. -/
theorem State.applyBody_no_reg (hs : s.stopped = false) (hreg : sectsOfType p 4 = []) : s.applyBody p =
    ((s.applied p).askOn (askedAll (namedDoms p))).setBoot { s.boot with apply := 4 } := by
  have hsame := s.sameLoader_applied p
  have hrun : (s.applied p).stopped = false := hsame.stopped.trans hs
  have hkeys (u : State) : (sectsOfType p 8).foldl (fun s x => s.applyKey (x.payload p)) u =
      u.applyKeys ((sectsOfType p 8).map fun x => x.payload p) := by
    rw [State.applyKeys, List.foldl_map]
  have hbody : s.applyBody p = if (s.applied p).stopped then s.applied p
      else ((s.applied p).requestOn (namedDoms p) true).1.setBoot { (s.applied p).boot with apply := 4 } := by
    rw [State.applyBody, hreg]
    simp only [List.flatMap_nil, List.foldl_nil, hkeys]
    rfl
  rw [hbody, hrun, hsame.1, State.requestOn_exempt]
  rfl

theorem lt_of_mem_namedDoms (h : d ∈ namedDoms p) : d ≠ 0 ∧ d < 26 := by
  obtain ⟨c, hc, rfl⟩ := List.mem_map.mp h
  have hc4 : c < 4 := by simpa using (List.mem_filter.mp hc).2
  rw [domCL]
  omega

theorem State.applied_sets (hx : sectsOfType p 1 = x :: l) (hlock : s.fld F.SEAL_CTRL_LOCK = 0) :
    (s.applied p).fld F.SNS_CLASS_LOCKED = 1 ∧ (s.applied p).MeterLocked (x.payload p) ∧
    (s.applied p).fld F.BOOT_STATUS_STAGE = s.fld F.BOOT_STATUS_STAGE := by
  have hkeys (u : State) (m : List (List Byte)) : (u.applyKeys m).regs = u.regs ∧ (u.applyKeys m).zones = u.zones := by
    rw [State.applyKeys_only]
    exact ⟨rfl, rfl⟩
  have hclass := s.cardsRead.keepsRegs_applyClass p
  have hopen : (s.cardsRead.applyClass p).fld F.SEAL_CTRL_LOCK = 0 :=
    ((hclass.fld (by decide)).trans (s.onlyStore_cardsRead.regs.fld (.inl (by decide)))).trans hlock
  obtain ⟨hregs, hzones⟩ := hkeys ((s.cardsRead.applyClass p).applySeal p) ((sectsOfType p 8).map fun x => x.payload p)
  rw [State.applied]
  generalize ((s.cardsRead.applyClass p).applySeal p).applyKeys _ = t at hregs hzones ⊢
  rw [State.applySeal_open hopen hx] at hregs hzones
  have hmeter := (s.cardsRead.applyClass p).onlyMeter_lockMeter (x.payload p)
  have hshown := (s.cardsRead.applyClass p).meterLocked_lockMeter (x.payload p)
  have hfld (f : Fld) : t.fld f = ((s.cardsRead.applyClass p).lockMeter (x.payload p)).fld f := State.fld_congr _ _ _ hregs
  refine ⟨?_, ⟨(hfld _).trans hshown.lock, (hfld _).trans hshown.limit, fun n hn => ?_, fun z hz => ?_⟩, ?_⟩
  · rw [hfld, hmeter.regs.fld (by decide), State.applyClass_locked]
  · obtain ⟨hzone, hen⟩ := hshown.advance n hn
    exact ⟨(hfld _).trans hzone, (hfld _).trans hen⟩
  · obtain ⟨now, hnow⟩ := hshown.zones z hz
    exact ⟨now, by rw [State.zone, hzones, ← hnow, State.zone]⟩
  · rw [hfld, hmeter.regs.fld (by decide), hclass.fld (by decide), s.onlyStore_cardsRead.regs.fld (.inl (by decide))]

theorem State.cip_applySeal (s : State) (p : List Byte) : (s.applySeal p).cip = s.cip := by
  rw [State.applySeal]
  split
  · split_ifs
    · rfl
    · exact State.setFld_cip _ _ _
    · rw [(State.onlyMeter_lockMeter _ _).rest]
  · rfl

theorem State.cipKey_applied (s : State) (p : List Byte) {y : Sect} {key : List Byte} (hy : y ∈ sectsOfType p 8)
    (h0 : 0 ∉ keySlots p) (hnodup : (keySlots p).Nodup)
    (hkey : keyUnwrap (wrapKey s.devkey) ((y.payload p).drop 4) = some key) :
    (s.applied p).cipKey (slotOf (y.payload p)) = slotKey (y.payload p) key := by
  have hslots : ((sectsOfType p 8).map fun x => x.payload p).map slotOf = keySlots p := by
    rw [List.map_map]
    rfl
  have hcip : ((s.cardsRead.applyClass p).applySeal p).cip = s.cip := by
    rw [State.cip_applySeal, State.applyClass, State.setFld_cip, State.setFld_cip, s.onlyStore_cardsRead.rest]
  refine State.cipKey_applyKeys _ _ (by rwa [hslots]) (by rwa [hslots]) (List.mem_map_of_mem hy) ?_
  rwa [State.devkey, State.cipKey, hcip]

/-- What shows once the body of a parcel without REG sections is applied to a meter that is not locked. -/
theorem State.applyBody_shows (hs : s.stopped = false) (hreg : sectsOfType p 4 = []) (hx : sectsOfType p 1 = x :: l)
    (hlock : s.fld F.SEAL_CTRL_LOCK = 0) : (s.applyBody p).boot = { s.boot with apply := 4 } ∧
    (s.applyBody p).fld F.BOOT_STATUS_STAGE = s.fld F.BOOT_STATUS_STAGE ∧
    (s.applyBody p).fld F.SNS_CLASS_LOCKED = 1 ∧ (s.applyBody p).MeterLocked (x.payload p) ∧
    (∀ d ∈ namedDoms p, (s.applyBody p).domReq d = 2) ∧ (s.applyBody p).fuses = s.fuses := by
  obtain ⟨hclass, hmeter, hstage⟩ := State.applied_sets hx hlock
  obtain ⟨-, hfuses, -⟩ := s.sameLoader_applied p
  have hlt : ∀ d ∈ askedAll (namedDoms p), d < 26 := fun _ => lt_of_mem_askedAll
  have honly := (s.applied p).onlyAsks_askOn (askedAll (namedDoms p))
  have hfld {f : Fld} (hf : f.addr < 0x05000100 ∨ 0x05000168 ≤ f.addr) := State.fld_askOn_apart hlt hf (s.applied p)
  have hreg' {a : Nat} (ha : a < 0x05000100 ∨ 0x05000168 ≤ a) := State.reg_askOn_apart hlt ha (s.applied p)
  rw [State.applyBody_no_reg hs hreg]
  refine ⟨rfl, (hfld (by decide)).trans hstage, (hfld (by decide)).trans hclass, ⟨(hfld (by decide)).trans hmeter.lock,
    (hfld (by decide)).trans hmeter.limit, fun n hn => ?_, fun z hz => ?_⟩, fun d hd => ?_, ?_⟩
  · exact State.advanceBound_of_reg (hmeter.advance n hn) (hreg' (.inr (by dsimp only [Reg.SEAL_ADV]; omega)))
  · obtain ⟨now, hnow⟩ := hmeter.zones z hz
    have hzones : ((s.applied p).askOn (askedAll (namedDoms p))).zones = (s.applied p).zones := by rw [honly]
    exact ⟨now, (congrArg (fun m => tabGet _ m z) hzones).trans hnow⟩
  · obtain ⟨h0, hd26⟩ := lt_of_mem_namedDoms hd
    exact State.domReq_askOn (mem_askedAll hd h0 hd26) _
  · rw [State.setBoot_fuses, honly, hfuses]

theorem State.cipKey_applyBody (hs : s.stopped = false) (hreg : sectsOfType p 4 = []) {y : Sect} {key : List Byte}
    (hy : y ∈ sectsOfType p 8) (h0 : 0 ∉ keySlots p) (hnodup : (keySlots p).Nodup)
    (hkey : keyUnwrap (wrapKey s.devkey) ((y.payload p).drop 4) = some key) :
    (s.applyBody p).cipKey (slotOf (y.payload p)) = slotKey (y.payload p) key := by
  have honly := (s.applied p).onlyAsks_askOn (askedAll (namedDoms p))
  have hcip : ((s.applied p).askOn (askedAll (namedDoms p))).cip = (s.applied p).cip := by rw [honly]
  rw [State.applyBody_no_reg hs hreg, State.cipKey, State.setBoot_cip, hcip]
  exact s.cipKey_applied p hy h0 hnodup hkey

/-! ### The clock, and what APPLY waits for (R84, R151) -/

theorem State.sameLoader_pllLost (s : State) : s.SameLoader s.pllLost := by
  have hunlocked := (State.SameLoader.refl s).setFld F.CLK_PLLA_LOCK 0
  rw [State.pllLost]
  split_ifs
  · exact (((hunlocked.setFld _ _).setFld _ _).setFld _ _).trans (State.onlyStore_fault _ 0x02 (by decide) 0 false).sameLoader
  · exact hunlocked

theorem State.sameLoader_writePlla (s : State) (v : Nat) : s.SameLoader (s.writePlla v) := by
  have hdividers (bad : Bool) : s.SameLoader (if bad then s.setFld F.CLK_STATUS_BADCFG 1
      else (s.setFld F.CLK_PLLA_FBDIV (bitsOf v 0 8)).setFld F.CLK_PLLA_POSTDIV (bitsOf v 8 4)) := by
    split_ifs
    · exact (State.SameLoader.refl s).setFld _ _
    · exact ((State.SameLoader.refl s).setFld _ _).setFld _ _
  have henabled := fun bad => (hdividers bad).setFld F.CLK_PLLA_EN (bitsOf v 12 1)
  rw [State.writePlla]
  split
  · exact (henabled _).trans (State.sameLoader_pllLost _)
  · split
    · exact (henabled _).setFld _ _
    · exact henabled _

theorem State.applyParcel_first (h : s.boot.apply = 0) (hx : sectsOfType s.parcel 2 = x :: l) :
    s.applyParcel = (s.writeCoresel 0).setBoot { s.boot with apply := 1 } := by
  rw [State.applyParcel]
  simp only [h, hx]
  rfl

theorem State.applyParcel_no_clock (h : s.boot.apply = 0) (hx : sectsOfType s.parcel 2 = []) :
    s.applyParcel = s.setBoot { s.boot with apply := 3 } := by
  rw [State.applyParcel]
  simp only [h, hx]
  rfl

section
variable (hx : sectsOfType s.parcel 2 = x :: l)
include hx

theorem State.applyParcel_pll (h : s.boot.apply = 1) : s.applyParcel = if s.flag F.CLK_CORESEL_BUSY then s
    else (s.writePlla (numAt (x.payload s.parcel) 0 1 + 2 ^ 8 * numAt (x.payload s.parcel) 1 1 + 2 ^ 12)).setBoot
      { s.boot with apply := 2 } := by
  rw [State.applyParcel]
  simp only [h, hx, List.head?_cons, Option.map_some, (State.sameLoader_writePlla _ _).1]
  rfl

theorem State.applyParcel_switch (h : s.boot.apply = 2) : s.applyParcel = if s.flag F.CLK_PLLA_LOCK then
    (s.writeCoresel (numAt (x.payload s.parcel) 2 1)).setBoot { s.boot with apply := 3 } else s := by
  rw [State.applyParcel]
  simp only [h, hx, List.head?_cons, Option.map_some]
  rfl

end

theorem State.applyParcel_body (h : s.boot.apply = 3) : s.applyParcel =
    if s.flag F.CLK_CORESEL_BUSY || !s.domOn 7 then s else s.applyBody s.parcel := by
  rw [State.applyParcel]
  simp only [h]

/-- The sections copied and the starts noted. -/
def State.copied (s : State) : State :=
  ((sectsOfType s.parcel 5 ++ sectsOfType s.parcel 6).foldl (fun t x => t.copySect x s.parcel) s).setStarts s.parcel

theorem State.applyParcel_copy (h : s.boot.apply = 4) : s.applyParcel =
    if (namedDoms s.parcel).all s.domOn then
      (s.copied.dropBootKey.setFld F.BOOT_STATUS_STAGE 5).setBoot
        { (s.copied.dropBootKey.setFld F.BOOT_STATUS_STAGE 5).boot with apply := 0 }
    else s := by
  rw [State.applyParcel]
  simp only [h]
  rfl

/-! ### Code and starts (R157, R347) -/

theorem State.copySect_only (s : State) (x : Sect) (p : List Byte) : s.copySect x p = { s with mem := (s.copySect x p).mem } :=
  List.foldlRecOn (motive := fun u : State => u = { s with mem := u.mem }) _ _ rfl fun u hu i _ => by
    rw [State.setBytes, hu]

theorem State.setStarts_only (s : State) (p : List Byte) : s.setStarts p = { s with cores := (s.setStarts p).cores } := by
  rw [State.setStarts]
  split
  · exact List.foldlRecOn (motive := fun u : State => u = { s with cores := u.cores }) _ _ rfl fun u hu k _ => by
      rw [State.setCore, hu]
  · rfl

theorem State.copied_only (s : State) : s.copied = { s with mem := s.copied.mem, cores := s.copied.cores } := by
  have hcopy : ∀ m : List Sect, m.foldl (fun t x => t.copySect x s.parcel) s =
      { s with mem := (m.foldl (fun t x => t.copySect x s.parcel) s).mem } := fun m =>
    List.foldlRecOn (motive := fun u : State => u = { s with mem := u.mem }) m _ rfl fun u hu y _ => by
      rw [u.copySect_only, hu]
  rw [State.copied, State.setStarts_only, hcopy]

theorem State.mem_setStarts (s : State) (p : List Byte) : (s.setStarts p).mem = s.mem := by
  rw [State.setStarts_only]

/-- Where the START section has a core begin. -/
def startOf (x : Sect) (p : List Byte) (k : Nat) : Option (BitVec 16) :=
  if bitOf x.arg k then some (BitVec.ofNat 16 (numAt (x.payload p) (3 * k) 3)) else none

theorem State.start_setStarts (s : State) (hx : sectsOfType p 7 = [x]) (hk : k < 5) :
    ((s.setStarts p).core k).start = startOf x p k := by
  have hstep (u : State) (i j : Nat) : (u.setCore i { u.core i with start := startOf x p i }).core j =
      if j = i then { u.core i with start := startOf x p i } else u.core j := u.core_setCore j i _
  have hfold := core_foldl_range (g := fun i c => { c with start := startOf x p i }) hstep 5 s k
  rw [if_pos hk] at hfold
  rw [State.setStarts, hx]
  exact congrArg CoreSt.start hfold

/-- Words of one section go to places of their own. -/
theorem loadAddr_apart {c i j : Nat} {code : Bool} (hi : i < if code then 65536 else 32768)
    (hj : j < if code then 65536 else 32768) (hne : i ≠ j) :
    loadAddr c code i + 3 ≤ loadAddr c code j ∨ loadAddr c code j + 3 ≤ loadAddr c code i := by
  cases code with
  | false =>
    simp only [loadAddr, dataAddr, Bool.false_eq_true, if_false]
    omega
  | true =>
    simp only [if_true] at hi hj
    simp only [loadAddr, if_true]
    split_ifs <;> omega

theorem getD_payload (x : Sect) {i : Nat} (hi : i < x.len) (hlen : x.off + x.len ≤ p.length) :
    (x.payload p).getD i 0 = p.getD (x.off + i) 0 := by
  have hin : i < (x.payload p).length := by
    rw [Sect.payload, List.length_take, List.length_drop]
    omega
  have hp : x.off + i < p.length := by omega
  rw [List.getD_eq_getElem _ _ hin, List.getD_eq_getElem _ _ hp]
  simp only [Sect.payload, List.getElem_take, List.getElem_drop]

/-- A section's words stand in the core's memory, three bytes each. -/
theorem State.byte_copySect (s : State) {i j : Nat} (hlong : x.tooLong = false) (hlen : x.off + x.len ≤ p.length) (hi : i < x.len / 3) (hj : j < 3) :
    (s.copySect x p).byte (loadAddr (x.arg % 8) (x.type == 5) (x.arg / 256 + i) + j) = p.getD (x.off + 3 * i + j) 0 := by
  have hroom (m : Nat) (hm : m < x.len / 3) : x.arg / 256 + m < if (x.type == 5) = true then 65536 else 32768 := by
    have hpos : 0 < x.len := by omega
    have hfit : x.arg / 256 + x.len / 3 ≤ if x.type = 5 then 65536 else 32768 := by
      simpa [Sect.tooLong, hpos] using hlong
    simp only [beq_iff_eq]
    omega
  have hword (m : Nat) : (((x.payload p).drop (3 * m)).take 3).length ≤ 3 := List.length_take_le _ _
  refine foldl_range_establishes (P := fun m (u : State) => ∀ j < 3,
    u.byte (loadAddr (x.arg % 8) (x.type == 5) (x.arg / 256 + m) + j) = p.getD (x.off + 3 * m + j) 0) (x.len / 3)
    (fun u m hm j hj => ?_) (fun u m hm m' hm' hne hu j hj => ?_) s i hi j hj
  · have hin : j < (((x.payload p).drop (3 * m)).take 3).length := by
      rw [List.length_take, List.length_drop, Sect.payload, List.length_take, List.length_drop]
      omega
    rw [State.byte_setBytes_in _ _ _ _ hin, List.getElem_take, List.getElem_drop, ← List.getD_eq_getElem _ 0,
      getD_payload x (by omega) hlen, Nat.add_assoc]
  · have hapart := loadAddr_apart (c := x.arg % 8) (hroom m hm) (hroom m' hm') (by omega)
    have hle := hword m'
    rw [State.byte_setBytes_out _ _ _ _ (by omega), hu j hj]

/-- The memories copied and the starts noted, the loader goes on to RELEASE without its key. -/
theorem State.applyParcel_copies (h : s.boot.apply = 4) (hon : (namedDoms s.parcel).all s.domOn = true) :
    s.applyParcel.fld F.BOOT_STATUS_STAGE = 5 ∧ s.applyParcel.boot = { s.boot with apply := 0 } ∧
    s.applyParcel.cip.boot = [] ∧ s.applyParcel.cores = s.copied.cores ∧ s.applyParcel.mem = s.copied.mem ∧
    s.applyParcel.fuses = s.fuses ∧ s.applyParcel.zones = s.zones := by
  have hcopied := s.copied_only
  have hboot : s.copied.boot = s.boot := by rw [hcopied]
  have hfuses : s.copied.fuses = s.fuses := by rw [hcopied]
  have hzones : s.copied.zones = s.zones := by rw [hcopied]
  obtain ⟨hfuses', -, -, hboot', -⟩ := s.copied.onlyCip_dropBootKey.parts
  obtain ⟨hmem', hcores', hzones'⟩ := s.copied.onlyCip_dropBootKey.memories
  rw [State.applyParcel_copy h, if_pos hon]
  refine ⟨?_, ?_, ?_, ?_, ?_, ?_, ?_⟩
  · rw [State.fld_setBoot]
    exact State.fld_setFld _ F.BOOT_STATUS_STAGE 5 (by decide)
  · rw [State.setBoot_boot, State.setFld_boot, hboot', hboot]
  · rw [State.setBoot_cip, State.setFld_cip, State.dropBootKey_boot]
  · rw [State.setBoot_cores, State.setFld_cores, hcores']
  · rw [State.setBoot_mem, State.setFld_mem, hmem']
  · rw [State.setBoot_fuses, State.setFld_fuses, hfuses', hfuses]
  · rw [State.setBoot_zones, State.setFld_zones, hzones', hzones]

theorem State.start_copied (s : State) (hx : sectsOfType s.parcel 7 = [x]) (hk : k < 5) :
    (s.copied.core k).start = startOf x s.parcel k := State.start_setStarts _ hx hk

theorem State.start_applyParcel (h : s.boot.apply = 4) (hon : (namedDoms s.parcel).all s.domOn = true)
    (hx : sectsOfType s.parcel 7 = [x]) (hk : k < 5) : (s.applyParcel.core k).start = startOf x s.parcel k := by
  obtain ⟨-, -, -, hcores, -, -, -⟩ := State.applyParcel_copies h hon
  have hcore : s.applyParcel.core k = s.copied.core k := congrArg (fun m => tabGet _ m k) hcores
  rw [hcore, s.start_copied hx hk]

/-- A parcel with one section of code or data: its bytes stand in the core's memory. -/
theorem State.byte_copied (s : State) (hx : sectsOfType s.parcel 5 ++ sectsOfType s.parcel 6 = [x]) {i j : Nat}
    (hlong : x.tooLong = false) (hlen : x.off + x.len ≤ s.parcel.length) (hi : i < x.len / 3) (hj : j < 3) :
    s.copied.byte (loadAddr (x.arg % 8) (x.type == 5) (x.arg / 256 + i) + j) = s.parcel.getD (x.off + 3 * i + j) 0 := by
  have hcopy := s.byte_copySect hlong hlen hi hj
  rw [State.copied, hx, State.byte, State.mem_setStarts]
  exact hcopy

end Sys2Proof.Machine
end

section
/-! RELEASE, DONE and the host's commands (R153, R155-R159). -/

namespace Sys2Proof.Machine

open Sys2Proof

variable {s t u : State} {v : Nat} {spi : Bool}

/-! ### RELEASE (R155, R156) -/

theorem State.releaseFlash_float (h : s.boot.apply = 0) : s.releaseFlash =
    ((if s.boot.dpd then (s.flashDo [.cmd 0xB9]).setFld F.BOOT_FLASH_DPD 1 else s).floatFlash.setFld
      F.BOOT_FLASH_RELEASED 1).setBoot
        { (if s.boot.dpd then (s.flashDo [.cmd 0xB9]).setFld F.BOOT_FLASH_DPD 1 else s).floatFlash.boot with apply := 1 } := by
  rw [State.releaseFlash]
  simp only [h]
  rfl

/-- The flash sent to deep power-down where the parcel asks for it. -/
def State.flashSlept (s : State) : State := if s.boot.dpd then (s.flashDo [.cmd 0xB9]).setFld F.BOOT_FLASH_DPD 1 else s

theorem State.flashSlept_boot (s : State) :
    s.flashSlept.boot = { s.boot with flash := s.boot.flash ++ if s.boot.dpd then [.cmd 0xB9] else [] } := by
  rw [State.flashSlept]
  split
  · rw [State.setFld_boot]
    rfl
  · rw [List.append_nil]

/-- Nothing but registers and the loader's record differs between `s` and `t`. -/
def State.OnlyLoader (s t : State) : Prop := t = { s with regs := t.regs, boot := t.boot }

theorem State.OnlyLoader.trans (h : s.OnlyLoader t) (h' : t.OnlyLoader u) : s.OnlyLoader u := by
  rw [State.OnlyLoader] at h h' ⊢
  rw [h', h]

theorem State.OnlyLoader.setFld (h : s.OnlyLoader t) (f : Fld) (v : Nat) : s.OnlyLoader (t.setFld f v) := h.trans rfl

theorem State.OnlyLoader.setBoot (h : s.OnlyLoader t) (b : BootSt) : s.OnlyLoader (t.setBoot b) := h.trans rfl

theorem State.OnlyLoader.parts (h : s.OnlyLoader t) : t.mem = s.mem ∧ t.fuses = s.fuses ∧ t.cores = s.cores ∧
    t.flrWaits = s.flrWaits := by
  rw [State.OnlyLoader] at h
  rw [h]
  exact ⟨rfl, rfl, rfl, rfl⟩

theorem State.flashSlept_frame (s : State) : s.OnlyLoader s.flashSlept ∧ s.KeepsRegs s.flashSlept [Reg.BOOT_FLASH] := by
  have hdo : s.OnlyLoader (s.flashDo [.cmd 0xB9]) := rfl
  have hregs : s.KeepsRegs (s.flashDo [.cmd 0xB9]) [Reg.BOOT_FLASH] := fun _ _ => rfl
  rw [State.flashSlept]
  split_ifs
  · exact ⟨hdo.setFld _ _, hregs.setFld F.BOOT_FLASH_DPD 1 (by decide)⟩
  · exact ⟨rfl, .refl _⟩

theorem State.dpd_flashSlept (s : State) :
    s.flashSlept.fld F.BOOT_FLASH_DPD = if s.boot.dpd then 1 else s.fld F.BOOT_FLASH_DPD := by
  rw [State.flashSlept]
  split
  · exact State.fld_setFld _ F.BOOT_FLASH_DPD 1 (by decide)
  · rfl

/-- The flash let go, and the loader on its way to the next step. -/
theorem State.releaseFlash_shows (h : s.boot.apply = 0) : s.releaseFlash.fld F.BOOT_FLASH_RELEASED = 1 ∧
    s.releaseFlash.fld F.BOOT_FLASH_DPD = (if s.boot.dpd then 1 else s.fld F.BOOT_FLASH_DPD) ∧
    s.releaseFlash.boot = { s.boot with
      flash := s.boot.flash ++ (if s.boot.dpd then [.cmd 0xB9] else []) ++ [.csHigh, .floating], floating := true, apply := 1 } ∧
    s.KeepsRegs s.releaseFlash [Reg.BOOT_FLASH] ∧ s.releaseFlash.mem = s.mem ∧ s.releaseFlash.fuses = s.fuses := by
  obtain ⟨honly, hregs⟩ := s.flashSlept_frame
  have heq : s.releaseFlash = (s.flashSlept.floatFlash.setFld F.BOOT_FLASH_RELEASED 1).setBoot
      { s.flashSlept.floatFlash.boot with apply := 1 } := State.releaseFlash_float h
  rw [State.floatFlash_eq] at heq
  obtain ⟨hmem, hfuses, -, -⟩ := (((honly.setBoot _).setFld F.BOOT_FLASH_RELEASED 1).setBoot _).parts
  rw [heq]
  refine ⟨?_, ?_, ?_, ((hregs.setBoot _).setFld F.BOOT_FLASH_RELEASED 1 (by decide)).setBoot _, hmem, hfuses⟩
  · exact State.fld_setFld _ F.BOOT_FLASH_RELEASED 1 (by decide)
  · rw [State.fld_setBoot, State.fld_setFld_apart _ _ _ _ (by decide) (by decide), State.fld_setBoot, State.dpd_flashSlept]
  · rw [State.setBoot_boot, State.setBoot_boot, State.flashSlept_boot]

/-- One ROLLBACK bit blown. -/
def State.blowRollback (s : State) : State :=
  { s with
    fuses := { s.fuses with rollback := s.fuses.rollback + 1 }
    shadow := { s.shadow with rollback := s.fuses.rollback + 1 } }

theorem State.releaseFlash_blow (h : s.boot.apply = 1) (hadv : s.boot.advroll = true)
    (hlevel : s.fuses.rollback < s.boot.level) :
    s.releaseFlash = s.blowRollback.setFld F.BOOT_ROLLBACK_LEVEL (s.fuses.rollback + 1) := by
  rw [State.releaseFlash]
  simp only [h]
  exact if_pos ⟨hadv, hlevel⟩

theorem State.releaseFlash_leave (h : s.boot.apply = 1)
    (hdone : s.boot.advroll = false ∨ s.boot.level ≤ s.fuses.rollback) : s.releaseFlash =
    (s.sweptSP0.writeDom 13 s.boot.sp0 true).setBoot { (s.sweptSP0.writeDom 13 s.boot.sp0 true).boot with apply := 2 } := by
  have hblown : ¬ (s.boot.advroll = true ∧ s.fuses.rollback < s.boot.level) := by
    rcases hdone with hadv | hlevel
    · simp [hadv]
    · omega
  rw [State.releaseFlash]
  simp only [h]
  exact if_neg hblown

/-- What a request of the loader for a state of SP0 leaves unchanged. -/
def State.OnlyRequest (s t : State) : Prop :=
  t = { s with regs := t.regs, waiting := t.waiting, lnk := t.lnk, sns := t.sns }

theorem State.OnlyRequest.parts (h : s.OnlyRequest t) : t.mem = s.mem ∧ t.boot = s.boot ∧ t.fuses = s.fuses := by
  rw [State.OnlyRequest] at h
  rw [h]
  exact ⟨rfl, rfl, rfl⟩

/-- Before DONE the loader's request for SP0 is taken, whatever the Breeze limits say (R119, R153). -/
theorem State.writeDom_sp0 (hdone : s.fld F.BOOT_STATUS_DONE = 0) (hv : v % 4 ≠ 3) :
    (s.writeDom 13 v true).domReq 13 = v % 4 ∧ s.KeepsRegs (s.writeDom 13 v true) [Reg.PWR_DOM 13] ∧
    s.OnlyRequest (s.writeDom 13 v true) := by
  have hmodes : s.OnlyAsks (s.domModes 13 v) := by
    have hself : s.OnlyAsks s := rfl
    exact (hself.setFld _ _).setFld _ _
  have hregs : s.KeepsRegs (s.domModes 13 v) [Reg.PWR_DOM 13] :=
    ((State.KeepsRegs.refl _).setFld (F.PWR_DOM_SLEEPRET 13) _ (by decide)).setFld (F.PWR_DOM_KEEPCALM 13) _ (by decide)
  have hset (x : Nat) : s.OnlyAsks ((s.domModes 13 v).setReq 13 x) ∧
      s.KeepsRegs ((s.domModes 13 v).setReq 13 x) [Reg.PWR_DOM 13] :=
    ⟨hmodes.trans (State.onlyAsks_setReq _ 13 x), hregs.trans (State.keepsRegs_setReq _ 13 x)⟩
  have hcase : v % 4 = 2 ∨ v % 4 ≤ 1 := by omega
  rcases hcase with hon | hleave
  · obtain ⟨honly, hkeeps⟩ := hset 2
    have hasked : asked 13 = [13] := by decide
    rw [State.writeDom_on_taken (by decide) hon (.inr (.inl ⟨rfl, hdone⟩)), hasked, hon]
    refine ⟨State.req_setReq _ 13 2, hkeeps, ?_⟩
    rw [State.OnlyAsks] at honly
    rw [State.OnlyRequest, List.foldl_cons, List.foldl_nil, State.forgetWoke, honly]
  · obtain ⟨honly, hkeeps⟩ := hset (v % 4)
    have hallowed : (v % 4 = 0 ∧ 13 ≠ 1) ∨ (v % 4 = 1 ∧ domTakesRet 13 = true) := by
      have hcase : v % 4 = 0 ∨ v % 4 = 1 := by omega
      exact hcase.imp (fun h => ⟨h, by decide⟩) fun h => ⟨h, by decide⟩
    have hfree : dependents 13 = [] := by decide
    rw [State.writeDom_leave (by decide) rfl hleave, State.requestLeave_taken (by decide) hallowed (by simp [hfree])]
    refine ⟨(State.req_setReq _ 13 _).trans (Nat.mod_mod _ _), hkeeps, ?_⟩
    rw [State.OnlyAsks] at honly
    rw [State.OnlyRequest, honly]

theorem State.byte_sweptSP0 (s : State) : (s.domOn 13 = true → ∀ a < 0x200000, s.sweptSP0.byte a = 0) ∧
    ∀ a, 0x200000 ≤ a → s.sweptSP0.byte a = s.byte a := by
  rw [State.sweptSP0]
  refine ⟨fun hon a ha => ?_, fun a ha => ?_⟩
  · rw [if_pos hon]
    exact s.byte_clearScratch_zero ha
  · split_ifs
    · exact s.byte_clearScratch_above ha
    · rfl

theorem State.byte_congr (h : t.mem = s.mem) (a : Nat) : t.byte a = s.byte a := by rw [State.byte, h, State.byte]

/-- SP0 cleared, and its state asked for: the loader has only DONE before it. -/
theorem State.releaseFlash_shows_leave (h : s.boot.apply = 1)
    (hblown : s.boot.advroll = false ∨ s.boot.level ≤ s.fuses.rollback) (hsp0 : s.boot.sp0 % 4 ≠ 3)
    (hdone : s.fld F.BOOT_STATUS_DONE = 0) : s.releaseFlash.boot = { s.boot with apply := 2 } ∧
    s.releaseFlash.domReq 13 = s.boot.sp0 % 4 ∧ (s.domOn 13 = true → ∀ a < 0x200000, s.releaseFlash.byte a = 0) ∧
    (∀ a, 0x200000 ≤ a → s.releaseFlash.byte a = s.byte a) ∧
    s.KeepsRegs s.releaseFlash [Reg.PWR_DOM 13, Reg.SPD_CLRCNT 0, Reg.SEAL_RINGWP 0, Reg.SEAL_RINGRP 0] ∧
    s.releaseFlash.fuses = s.fuses := by
  have hswept := s.keepsRegs_sweptSP0
  have hscratch := s.onlyScratch_sweptSP0
  obtain ⟨hlow, hhigh⟩ := s.byte_sweptSP0
  obtain ⟨hreq, hregs, honly⟩ := State.writeDom_sp0 (s := s.sweptSP0) ((hswept.fld (by decide)).trans hdone) hsp0
  obtain ⟨hmem, hboot, hfuses⟩ := honly.parts
  have hboot' : s.sweptSP0.boot = s.boot := by rw [hscratch]
  have hfuses' : s.sweptSP0.fuses = s.fuses := by rw [hscratch]
  rw [State.releaseFlash_leave h hblown]
  refine ⟨?_, hreq, fun hon a ha => ?_, fun a ha => ?_, ?_, hfuses.trans hfuses'⟩
  · rw [State.setBoot_boot, hboot, hboot']
  · exact (State.byte_congr hmem a).trans (hlow hon a ha)
  · exact (State.byte_congr hmem a).trans (hhigh a ha)
  · exact ((hswept.mono (by simp)).trans (hregs.mono (by simp))).setBoot _

/-! ### DONE (R153, R157) -/

/-- A core from its entry address, where it has one. -/
def CoreSt.started (c : CoreSt) : CoreSt :=
  match c.start with
  | some pc => { c with pc := pc, run := .run, tvalid := false }
  | none => c

theorem State.core_startCore (s : State) (k j : Nat) :
    (s.startCore k).core j = if j = k then (s.core k).started else s.core j := by
  cases hstart : (s.core k).start with
  | some pc =>
    simp only [State.startCore, CoreSt.started, hstart]
    exact s.core_setCore j k _
  | none =>
    simp only [State.startCore, CoreSt.started, hstart]
    split_ifs with hj
    · rw [hj]
    · rfl

/-- The cores started that have an entry address. -/
def State.startCores (s : State) : State := (List.range 5).foldl State.startCore s

theorem State.core_startCores (s : State) {k : Nat} (hk : k < 5) : s.startCores.core k = (s.core k).started :=
  (core_foldl_range (g := fun _ c => c.started) State.core_startCore 5 s k).trans (if_pos hk)

/-- Nothing but the cores differs between `s` and `t`. -/
def State.OnlyCores (s t : State) : Prop := t = { s with cores := t.cores }

theorem State.onlyCores_startCores (s : State) : s.OnlyCores s.startCores :=
  List.foldlRecOn (motive := s.OnlyCores) _ _ rfl fun u hu k _ => by
    rw [State.OnlyCores] at hu ⊢
    rw [State.startCore]
    split
    · rw [State.setCore, hu]
    · exact hu

theorem outsideBreeze_congr {l l' : Nat → Bool} (h : ∀ d < 26, l d = l' d) : outsideBreeze l = outsideBreeze l' := by
  have hclusters : (List.range 4).filter (fun c => l (9 + c)) = (List.range 4).filter fun c => l' (9 + c) :=
    List.filter_congr fun c hc => h _ (by have := List.mem_range.mp hc; omega)
  have hquads : (List.range 8).filter (fun q => l (17 + q)) = (List.range 8).filter fun q => l' (17 + q) :=
    List.filter_congr fun q hq => h _ (by have := List.mem_range.mp hq; omega)
  rw [outsideBreeze, hclusters, hquads, h 8 (by decide), h 5 (by decide), h 4 (by decide), outsideBreeze]

/-- DONE shown, and the time it took. -/
def State.doneShown (s : State) : State :=
  (((s.setFld F.BOOT_STATUS_STAGE 6).setFld F.BOOT_STATUS_CODE 0).setFld F.BOOT_STATUS_DONE 1).bootTime

/-- Gale mode set where the lit set is outside the Breeze limits. -/
def State.modeForced (s : State) : State :=
  if s.fld F.PWR_CTRL_MODE = 0 ∧ outsideBreeze s.lit = true then
    (s.setFld F.PWR_CTRL_MODE 1).setFld F.BOOT_STATUS_FORCEGALE 1
  else s

theorem State.bootDone_eq (h : s.boot.apply = 2) : s.bootDone = s.doneShown.modeForced.startCores.flrResume :=
  if_neg (not_not_intro h)

theorem State.keepsRegs_doneShown (s : State) : s.KeepsRegs s.doneShown [Reg.BOOT_STATUS, Reg.BOOT_TIME] := by
  have hshown := (((State.KeepsRegs.refl (s := s) [Reg.BOOT_STATUS, Reg.BOOT_TIME]).setFld F.BOOT_STATUS_STAGE 6
    (by decide)).setFld F.BOOT_STATUS_CODE 0 (by decide)).setFld F.BOOT_STATUS_DONE 1 (by decide)
  rw [State.doneShown, State.bootTime]
  exact hshown.setFld F.BOOT_TIME_US _ (by decide)

theorem State.onlyLoader_doneShown (s : State) : s.OnlyLoader s.doneShown := by
  have hself : s.OnlyLoader s := rfl
  rw [State.doneShown, State.bootTime]
  exact (((hself.setFld _ _).setFld _ _).setFld _ _).setFld _ _

theorem State.doneShown_shows (s : State) : s.doneShown.fld F.BOOT_STATUS_DONE = 1 ∧ s.doneShown.fld F.BOOT_STATUS_CODE = 0 ∧
    s.doneShown.fld F.BOOT_STATUS_STAGE = 6 ∧ s.doneShown.fld F.BOOT_STATUS_FORCEGALE = s.fld F.BOOT_STATUS_FORCEGALE := by
  rw [State.doneShown, State.bootTime]
  simp (disch := decide) only [State.fld_setFld_apart, State.fld_setFld]
  decide

theorem State.outsideBreeze_doneShown (s : State) : outsideBreeze s.doneShown.lit = outsideBreeze s.lit := by
  refine outsideBreeze_congr fun d hd => ?_
  have htarget : s.doneShown.target = s.target := by rw [s.onlyLoader_doneShown]
  have hfld (lo w : Nat) : s.doneShown.fld ⟨Reg.PWR_DOM d, lo, w⟩ = s.fld ⟨Reg.PWR_DOM d, lo, w⟩ :=
    s.keepsRegs_doneShown.fld (f := ⟨Reg.PWR_DOM d, lo, w⟩) (by
      simp only [List.mem_cons, List.not_mem_nil, or_false, Reg.PWR_DOM, Reg.BOOT_STATUS, Reg.BOOT_TIME]
      omega)
  simp only [State.lit, State.dom, State.domReq, State.domBusy, State.flag, State.domTarget, hfld, htarget]

theorem State.modeForced_sets (hmode : s.fld F.PWR_CTRL_MODE = 0) (hout : outsideBreeze s.lit = true) :
    s.modeForced = (s.setFld F.PWR_CTRL_MODE 1).setFld F.BOOT_STATUS_FORCEGALE 1 := if_pos ⟨hmode, hout⟩

theorem State.modeForced_keeps (h : s.fld F.PWR_CTRL_MODE = 1 ∨ outsideBreeze s.lit = false) : s.modeForced = s :=
  if_neg fun ⟨hmode, hout⟩ => by
    rcases h with hgale | hin
    · omega
    · simp [hin] at hout

/-- What forcing Gale mode leaves: all but MODE and FORCEGALE. -/
theorem State.modeForced_frame (s : State) : s.OnlyLoader s.modeForced ∧
    s.KeepsRegs s.modeForced [Reg.BOOT_STATUS, Reg.PWR_CTRL] ∧
    (∀ f : Fld, f.addr ≠ Reg.PWR_CTRL → (f.addr ≠ Reg.BOOT_STATUS ∨ f.lo + f.w ≤ F.BOOT_STATUS_FORCEGALE.lo ∨
      F.BOOT_STATUS_FORCEGALE.lo + 1 ≤ f.lo) → s.modeForced.fld f = s.fld f) ∧ s.modeForced.boot = s.boot := by
  have hself : s.OnlyLoader s := rfl
  rw [State.modeForced]
  split_ifs
  · refine ⟨(hself.setFld _ _).setFld _ _, ((State.KeepsRegs.refl _).setFld F.PWR_CTRL_MODE _ (by decide)).setFld
      F.BOOT_STATUS_FORCEGALE _ (by decide), fun f hf hbits => ?_, ?_⟩
    · rw [State.fld_setFld_apart _ F.BOOT_STATUS_FORCEGALE f 1 (by decide) hbits,
        s.fld_setFld_addr F.PWR_CTRL_MODE f 1 hf]
    · rw [State.setFld_boot, State.setFld_boot]
  · exact ⟨hself, .refl _, fun _ _ _ => rfl, rfl⟩

theorem State.boot_doneShown (s : State) : s.doneShown.boot = s.boot := by
  rw [State.doneShown, State.bootTime]
  simp only [State.setFld_boot]

section
variable (happly : s.boot.apply = 2) (hwaits : s.flrWaits = false)
include happly hwaits

theorem State.bootDone_of_idle : s.bootDone = s.doneShown.modeForced.startCores := by
  have hcores := s.doneShown.modeForced.onlyCores_startCores
  obtain ⟨-, -, -, hflr⟩ := (s.onlyLoader_doneShown.trans s.doneShown.modeForced_frame.1).parts
  have hidle : s.doneShown.modeForced.startCores.flrWaits = false := by
    rw [hcores]
    exact hflr.trans hwaits
  rw [State.bootDone_eq happly, State.flrResume, hidle]
  rfl

theorem State.regs_bootDone : s.bootDone.regs = s.doneShown.modeForced.regs := by
  rw [State.bootDone_of_idle happly hwaits, State.onlyCores_startCores]

theorem State.bootDone_shows : s.bootDone.fld F.BOOT_STATUS_DONE = 1 ∧ s.bootDone.fld F.BOOT_STATUS_CODE = 0 ∧
    s.bootDone.fld F.BOOT_STATUS_STAGE = 6 := by
  obtain ⟨hdone, hcode, hstage, -⟩ := s.doneShown_shows
  obtain ⟨-, -, hfld, -⟩ := s.doneShown.modeForced_frame
  have hregs (f : Fld) := State.fld_congr _ _ f (State.regs_bootDone happly hwaits)
  exact ⟨(hregs _).trans ((hfld _ (by decide) (by decide)).trans hdone),
    (hregs _).trans ((hfld _ (by decide) (by decide)).trans hcode),
    (hregs _).trans ((hfld _ (by decide) (by decide)).trans hstage)⟩

theorem State.bootDone_frame : s.KeepsRegs s.bootDone [Reg.BOOT_STATUS, Reg.BOOT_TIME, Reg.PWR_CTRL] ∧
    s.bootDone.mem = s.mem ∧ s.bootDone.boot = s.boot := by
  obtain ⟨honly, hkeeps, -, hboot⟩ := s.doneShown.modeForced_frame
  obtain ⟨hmem, -, -, -⟩ := (s.onlyLoader_doneShown.trans honly).parts
  have hregs := State.regs_bootDone happly hwaits
  have hall : s.KeepsRegs s.doneShown.modeForced [Reg.BOOT_STATUS, Reg.BOOT_TIME, Reg.PWR_CTRL] :=
    (s.keepsRegs_doneShown.mono (by decide)).trans (hkeeps.mono (by decide))
  refine ⟨fun a ha => ?_, ?_, ?_⟩
  · rw [State.reg, hregs]
    exact hall a ha
  · rw [State.bootDone_of_idle happly hwaits, State.onlyCores_startCores, hmem]
  · rw [State.bootDone_of_idle happly hwaits, State.onlyCores_startCores, hboot, State.boot_doneShown]

theorem State.bootDone_starts {k : Nat} (hk : k < 5) : s.bootDone.core k = (s.core k).started := by
  obtain ⟨-, -, hcores, -⟩ := (s.onlyLoader_doneShown.trans s.doneShown.modeForced_frame.1).parts
  rw [State.bootDone_of_idle happly hwaits, State.core_startCores _ hk, State.core, hcores, State.core]

theorem State.bootDone_forces (hmode : s.fld F.PWR_CTRL_MODE = 0) (hout : outsideBreeze s.lit = true) :
    s.bootDone.fld F.PWR_CTRL_MODE = 1 ∧ s.bootDone.fld F.BOOT_STATUS_FORCEGALE = 1 := by
  have hregs (f : Fld) := State.fld_congr _ _ f (State.regs_bootDone happly hwaits)
  have hforced := State.modeForced_sets ((s.keepsRegs_doneShown.fld (by decide)).trans hmode)
    (s.outsideBreeze_doneShown.trans hout)
  rw [hregs, hregs, hforced]
  simp (disch := decide) only [State.fld_setFld_apart, State.fld_setFld]
  decide

theorem State.bootDone_leaves (h : s.fld F.PWR_CTRL_MODE = 1 ∨ outsideBreeze s.lit = false) :
    s.bootDone.fld F.PWR_CTRL_MODE = s.fld F.PWR_CTRL_MODE ∧
    s.bootDone.fld F.BOOT_STATUS_FORCEGALE = s.fld F.BOOT_STATUS_FORCEGALE := by
  obtain ⟨-, -, -, hforce⟩ := s.doneShown_shows
  have hregs (f : Fld) := State.fld_congr _ _ f (State.regs_bootDone happly hwaits)
  have hmode := s.keepsRegs_doneShown.fld (f := F.PWR_CTRL_MODE) (by decide)
  have hkept := State.modeForced_keeps (h.imp hmode.trans s.outsideBreeze_doneShown.trans)
  rw [hregs, hregs, hkept]
  exact ⟨hmode, hforce⟩

end

/-! ### GO and RETRY (R158, R159) -/

theorem State.onlyRegs_writePlain (s : State) (a v : Nat) : s.OnlyRegs (s.writePlain a v) [a] := by
  rw [State.writePlain]
  split
  · exact (State.OnlyRegs.refl _).setReg _ _ (List.mem_singleton.mpr rfl)
  · exact .refl _

/-- The host's ports are no cores: their accesses are never made in sealed state. -/
theorem State.sealedIni_hostIni (s : State) (spi : Bool) : s.sealedIni (hostIni spi) = false := by
  cases spi
  · rfl
  · rfl

theorem State.hostBootCmd_shut (h : (if spi then s.spiOpen else s.barOpen) = false) (v : Nat) : s.hostBootCmd spi v = s := by
  rw [State.hostBootCmd, h]
  rfl

section
variable (hopen : (if spi then s.spiOpen else s.barOpen) = true)
include hopen

theorem State.hostBootCmd_open (v : Nat) : s.hostBootCmd spi v = s.cmdWrite (hostIni spi) Reg.BOOT_CMD fun t =>
    t.writeUnits (hostIni spi) false (toBytes 4 v) (cutUnits Reg.BOOT_CMD 4) := by
  rw [State.hostBootCmd, hopen, State.cmdWrite, s.sealedIni_hostIni]
  rfl

/-- A command of the host that reaches BOOT_CMD is the register's own effect. -/
theorem State.hostBootCmd_takes (ht : s.Takes (hostIni spi) Reg.BOOT_CMD) (hv : v < 2 ^ 24) :
    s.hostBootCmd spi v = s.writeBootCmd v := by
  have hunit : s.RegUnit Reg.BOOT_CMD := .of_range s (by decide) (by decide) (by decide)
  have hcut : cutUnits Reg.BOOT_CMD 4 = [(Reg.BOOT_CMD, 0, 4)] := cutUnits_within (lo := 0) rfl (by decide) (by decide)
  have htake : (toBytes 4 v).take 4 = toBytes 4 v := rfl
  rw [State.hostBootCmd_open hopen, State.cmdWrite_takes _ _ _ _ ht]
  simp only [hcut, State.writeUnits, htake, hunit.writeUnit_whole, Nat.mod_eq_of_lt hv]
  rfl

/-- RETRY in HOLD is refused where the host may not recover the part. -/
theorem State.hostBootCmd_refused (hs : s.stopped = false) (hstage : s.fld F.BOOT_STATUS_STAGE = 8)
    (hrec : s.recoveryAllowed = false) (hfrozen : s.boot.frozen = false) (v : Nat) :
    s.hostBootCmd spi v = s.addrErr (hostIni spi) Reg.BOOT_CMD true := by
  have hgate : s.hostGate spi Reg.BOOT_CMD true = .refused := by
    simp only [State.hostGate, hstage, hrec, hfrozen, Bool.false_and, Bool.and_false, Bool.false_eq_true, if_false]
  have hverdict : s.verdict (hostIni spi) Reg.BOOT_CMD true = .refused := by
    cases spi with
    | false => simp only [State.verdict, hostIni, State.gate, Bool.false_eq_true, if_false] at hopen ⊢; simp [hopen, hgate]
    | true => simp only [State.verdict, hostIni, State.gate, if_true] at hopen ⊢; simp [hopen, hgate]
  rw [State.hostBootCmd_open hopen, State.cmdWrite_refused hs (s.sealedIni_hostIni spi) hverdict]

end

theorem State.writeBootCmd_go (hstage : s.fld F.BOOT_STATUS_STAGE = 7) : s.writeBootCmd 1 =
    (((s.writePlain Reg.BOOT_CMD 1).setFld F.BOOT_STATUS_STAGE 3).setFld F.BOOT_CMD_GO 0).setBoot
      { (s.writePlain Reg.BOOT_CMD 1).boot with frozen := true } :=
  if_pos ⟨hstage, rfl⟩

theorem State.writeBootCmd_retry (hstage : s.fld F.BOOT_STATUS_STAGE = 8) (hrec : s.recoveryAllowed = true) :
    s.writeBootCmd 2 = (s.writePlain Reg.BOOT_CMD 2).enterHostwait := by
  have hgo : ¬ (s.fld F.BOOT_STATUS_STAGE = 7 ∧ bitOf 2 0 = true) := by omega
  rw [State.writeBootCmd, if_neg hgo]
  exact if_pos ⟨hstage, rfl, hrec⟩

theorem State.OnlyRegs.parts {l : List Nat} (h : s.OnlyRegs t l) : t.mem = s.mem ∧ t.boot = s.boot ∧ t.fuses = s.fuses := by
  obtain ⟨honly, -⟩ := h
  rw [honly]
  exact ⟨rfl, rfl, rfl⟩

/-- GO freezes the host's copy and asks for the checks. -/
theorem State.writeBootCmd_go_shows (hstage : s.fld F.BOOT_STATUS_STAGE = 7) :
    (s.writeBootCmd 1).fld F.BOOT_STATUS_STAGE = 3 ∧ (s.writeBootCmd 1).fld F.BOOT_CMD_GO = 0 ∧
    (s.writeBootCmd 1).boot = { s.boot with frozen := true } ∧
    s.KeepsRegs (s.writeBootCmd 1) [Reg.BOOT_STATUS, Reg.BOOT_CMD] ∧ (s.writeBootCmd 1).mem = s.mem := by
  have hplain := s.onlyRegs_writePlain Reg.BOOT_CMD 1
  have hregs : s.KeepsRegs (s.writePlain Reg.BOOT_CMD 1) [Reg.BOOT_STATUS, Reg.BOOT_CMD] := hplain.2.mono (by decide)
  obtain ⟨hmem, hboot, -⟩ := hplain.parts
  rw [State.writeBootCmd_go hstage]
  refine ⟨?_, ?_, ?_, ?_, ?_⟩
  · rw [State.fld_setBoot, State.fld_setFld_apart _ _ _ _ (by decide) (by decide)]
    exact State.fld_setFld _ F.BOOT_STATUS_STAGE 3 (by decide)
  · rw [State.fld_setBoot]
    exact State.fld_setFld _ F.BOOT_CMD_GO 0 (by decide)
  · rw [State.setBoot_boot, hboot]
  · exact ((hregs.setFld F.BOOT_STATUS_STAGE 3 (by decide)).setFld F.BOOT_CMD_GO 0 (by decide)).setBoot _
  · rw [State.setBoot_mem, State.setFld_mem, State.setFld_mem, hmem]

theorem State.enterHostwait_eq (s : State) : s.enterHostwait =
    ((((((s.clearScratch 0).setFld F.BOOT_HOSTLEN_LEN 0).setFld F.BOOT_STATUS_STAGE 7).setFld F.BOOT_STATUS_HOLD 0).setFld
      F.BOOT_STRAP_EFFSRC 2).setFld F.BOOT_CMD_RETRY 0).setBoot
        { (((s.clearScratch 0).setFld F.BOOT_HOSTLEN_LEN 0).setFld F.BOOT_STATUS_STAGE 7).boot with frozen := false } := rfl

theorem State.enterHostwait_shows (s : State) : s.enterHostwait.fld F.BOOT_STATUS_STAGE = 7 ∧
    s.enterHostwait.fld F.BOOT_STATUS_HOLD = 0 ∧ s.enterHostwait.fld F.BOOT_STRAP_EFFSRC = 2 ∧
    s.enterHostwait.fld F.BOOT_HOSTLEN_LEN = 0 ∧ s.enterHostwait.fld F.BOOT_CMD_RETRY = 0 := by
  rw [State.enterHostwait_eq]
  simp (disch := decide) only [State.fld_setBoot, State.fld_setFld_apart, State.fld_setFld]
  decide

theorem State.enterHostwait_frame (s : State) : s.enterHostwait.boot = { s.boot with frozen := false } ∧
    (∀ a < 0x200000, s.enterHostwait.byte a = 0) ∧ (∀ a, 0x200000 ≤ a → s.enterHostwait.byte a = s.byte a) ∧
    s.enterHostwait.fuses = s.fuses := by
  have hscratch := s.onlyScratch_clearScratch 0
  have hboot : (s.clearScratch 0).boot = s.boot := by rw [hscratch]
  have hfuses : (s.clearScratch 0).fuses = s.fuses := by rw [hscratch]
  rw [State.enterHostwait_eq]
  simp only [State.setBoot_boot, State.byte_setBoot, State.setBoot_fuses, State.setFld_boot, State.byte_setFld,
    State.setFld_fuses, hboot, hfuses]
  exact ⟨trivial, fun a ha => s.byte_clearScratch_zero ha, fun a ha => s.byte_clearScratch_above ha, trivial⟩

end Sys2Proof.Machine
end

section
/-! O14: what each stage of the boot loader does. -/

namespace Sys2Proof.Machine

open Sys2Proof

variable {s t : State} {n : Nat} {go : State → State}

/-- A command in its stage answers what the stage does. -/
theorem ok_bootStep {p : State → Prop} (hs : s.stopped = false) (hst : s.fld F.BOOT_STATUS_STAGE = n) (h : p (go s)) :
    ∃ t, (ok (s.bootStep n go) : Host.Outcome State Fault Refusal) = .next t ∧ p t :=
  ⟨go s, congrArg ok (State.bootStep_runs hs hst go), h⟩

theorem bootStep_answers (hs : s.stopped = false) (hst : s.fld F.BOOT_STATUS_STAGE = n) (h : go s = t) :
    (ok (s.bootStep n go) : Host.Outcome State Fault Refusal) = .next t :=
  congrArg ok ((State.bootStep_runs hs hst go).trans h)

/-- A command outside its stage changes nothing (R137). -/
theorem bootStep_idle (h : s.stopped = true ∨ s.fld F.BOOT_STATUS_STAGE ≠ n) :
    (ok (s.bootStep n go) : Host.Outcome State Fault Refusal) = .next s := congrArg ok (State.bootStep_other h go)

/-- In a stage whose step has nothing to do yet, or outside the stage, nothing changes. -/
theorem bootStep_waits {p : Prop} (h : s.stopped = true ∨ s.fld F.BOOT_STATUS_STAGE ≠ n ∨ p) (hgo : p → go s = s) :
    (ok (s.bootStep n go) : Host.Outcome State Fault Refusal) = .next s := by
  by_cases hin : s.stopped = true ∨ s.fld F.BOOT_STATUS_STAGE ≠ n
  · exact bootStep_idle hin
  · obtain ⟨hrun, hst⟩ := not_or.mp hin
    have hp : p := (h.resolve_left hrun).resolve_left hst
    exact bootStep_answers (Bool.eq_false_iff.mpr hrun) (not_not.mp hst) (hgo hp)

/-- FUSE after power-on: the shadow is loaded, and shows what goes on from it. -/
theorem State.bootFrom_loaded (hok : s.flag F.BOOT_FUSE_SHADOWOK = false) (hn : n ≤ 2) :
    (s.loadShadow.bootFrom n).shadow = s.fuses ∧ (s.loadShadow.bootFrom n).ShowsFuses s.fuses ∧
    s.KeepsRegs (s.loadShadow.bootFrom n) (shadowRegs ++ sourceRegs) ∧
    (s.loadShadow.bootFrom n).fld F.FLT_BOOTCNT_COUNT = (s.fld F.FLT_BOOTCNT_COUNT + 1) % 256 := by
  obtain ⟨hshadow, hshows⟩ := State.loadShadow_shows hok
  obtain ⟨-, -, -, -, -, hkept⟩ := s.bootFrom_frame n
  obtain ⟨-, -, -, hcount⟩ := s.loadShadow.bootFrom_shows hn
  have hload := s.keepsRegs_loadShadow
  have hfrom := s.loadShadow.keepsRegs_bootFrom n
  refine ⟨hkept.trans hshadow, hfrom.showsFuses hshows (by decide), ?_, ?_⟩
  · exact (hload.mono fun _ h => List.mem_append_left _ h).trans (hfrom.mono fun _ h => List.mem_append_right _ h)
  · rw [hcount, hload.fld (f := F.FLT_BOOTCNT_COUNT) (by decide)]

/-- FUSE with a bad CRC or LIFECYCLE 3 ends in HOLD. -/
theorem State.fuseHold_shows (hok : s.flag F.BOOT_FUSE_SHADOWOK = false) (hwaits : s.flrWaits = false) :
    (s.loadShadow.countBoot.enterHold 1).shadow = s.fuses ∧
    (s.loadShadow.countBoot.enterHold 1).fld F.BOOT_STATUS_STAGE = 8 ∧
    (s.loadShadow.countBoot.enterHold 1).fld F.BOOT_STATUS_CODE = 1 ∧
    (s.loadShadow.countBoot.enterHold 1).fld F.BOOT_STATUS_HOLD = 1 ∧
    (s.loadShadow.countBoot.enterHold 1).flag F.BOOT_FUSE_SHADOWOK = s.fuses.crcOk ∧
    (s.loadShadow.countBoot.enterHold 1).fuses = s.fuses := by
  obtain ⟨hshadow, hshows⟩ := State.loadShadow_shows hok
  obtain ⟨hfuses, -, -, -, -, hflr⟩ := s.onlyShadow_loadShadow.parts
  have hidle : s.loadShadow.countBoot.flrWaits = false := by
    rw [State.countBoot, State.setFld_flrWaits, hflr, hwaits]
  have hcounted : s.loadShadow.countBoot.flag F.BOOT_FUSE_SHADOWOK = s.fuses.crcOk := by
    rw [State.countBoot, State.flag, State.fld_setFld_apart _ _ _ _ (by decide) (by decide)]
    exact hshows.shadowok
  obtain ⟨-, hfuses', hshadow', -⟩ := State.enterHold_parts hidle 1
  obtain ⟨hcode, hstage, hhold⟩ := State.enterHold_shows hidle (code := 1) (by decide)
  refine ⟨?_, hstage, hcode, hhold, (State.flag_enterHold hidle 1 (by decide) (by decide)).trans hcounted, ?_⟩
  · rw [hshadow', State.countBoot, State.setFld_shadow, hshadow]
  · rw [hfuses', State.countBoot, State.setFld_fuses, hfuses]

/-- Settles O14: in its stage a command is the stage's step, which the lemmas above describe case by case; outside the
stage it changes nothing. -/
theorem bootStages : Obligations.BootStages := by
  unfold Obligations.BootStages
  refine ⟨?fuseLoads, ?fuseAgain, ?fuseHolds, ?fuseTest, fun s h => bootStep_idle h,
    fun s x hs hst h => bootStep_answers hs hst (State.discover_unsigned h),
    fun s x hs hst h hbad => bootStep_answers hs hst (State.discover_refused h hbad), ?quad, ?single,
    fun s x h => bootStep_idle h, ?stage, fun s data h => bootStep_waits h fun hoff => State.stageCopy_off hoff data,
    fun s hs hst h7 h13 h => bootStep_answers hs hst (State.check_header h7 h13 h), ?checkFails, ?checkPasses,
    fun s h => bootStep_waits h State.check_off, fun s h => State.headerCode_magic h, fun s key p h => State.bodyCode_tag h,
    fun s key p htag h => State.bodyCode_version htag h, fun s key p htag h hroll => State.bodyCode_rollback htag h hroll,
    fun s c heff hcopy => State.checkFailed_backup heff hcopy c, fun s c h => State.checkFailed_last h c, ?hold,
    fun s x l hs hst h hx => bootStep_answers hs hst (State.applyParcel_first h hx),
    fun s hs hst h hx => bootStep_answers hs hst (State.applyParcel_no_clock h hx), ?pll, ?switch, ?clockWaits, ?bodyWaits,
    ?body, ?keys, fun s p x l hlock hx h => State.applySeal_same hlock hx h,
    fun s p x l hlock hx h => State.applySeal_differs hlock hx h, ?domsWait, ?starts, ?code, fun s h => bootStep_idle h,
    fun s hs hst h => ok_bootStep hs hst (State.releaseFlash_shows h), ?blow,
    fun s hs hst h hblown hsp0 hdone => ok_bootStep hs hst (State.releaseFlash_shows_leave h hblown hsp0 hdone),
    fun s h => ⟨bootStep_idle h, bootStep_idle h⟩, ?done, fun s hs hst h => bootStep_answers hs hst (if_pos h), ?go, ?retry,
    fun s spi hopen hs hst hrec hfrozen => congrArg ok (State.hostBootCmd_refused hopen hs hst hrec hfrozen 2),
    fun s spi h => ⟨congrArg ok (State.hostBootCmd_shut h 1), congrArg ok (State.hostBootCmd_shut h 2)⟩⟩
  case fuseLoads =>
    intro s n hs hst heff hok hcrc hlife hsel hn
    obtain ⟨hshadow, hshows, hkeeps, hcount⟩ := State.bootFrom_loaded hok (n := n) (by omega)
    obtain ⟨-, hloaded⟩ := State.loadShadow_shows hok
    obtain ⟨heff', htest, hstage, -⟩ := s.loadShadow.bootFrom_shows (n := n) (by omega)
    obtain ⟨h7, h13, h5⟩ := s.loadShadow.bootFrom_asks n
    obtain ⟨hfuses, hmem, hcip, hcores, hboot, -⟩ := s.bootFrom_frame n
    have hlife' : s.loadShadow.fld F.BOOT_FUSE_LIFECYCLE ≠ 3 := fun h =>
      hlife (BitVec.eq_of_toNat_eq (hloaded.lifecycle.symm.trans h))
    have hsource := State.bootFuse_source heff (hloaded.shadowok.trans hcrc) hlife' hsel
      (hn.imp_right fun h => ⟨h.1, hloaded.hostbootdis.trans h.2⟩)
    exact ⟨_, bootStep_answers hs hst hsource, hshadow, hfuses, hshows.uid, hshows.dbgdis, hshows.fmt1dis,
      hshows.hostbootdis, hshows.lifecycle, hshows.shadowok.trans hcrc, hshows.rollback, heff', htest, hstage, hcount, h7,
      h13, h5, hmem, hcip, hcores, hboot, hkeeps⟩
  case fuseAgain =>
    intro s n hs hst heff hok hlife hsel hn
    obtain ⟨heff', -, hstage, -⟩ := s.loadShadow.bootFrom_shows (n := n) (by omega)
    obtain ⟨h7, h13, h5⟩ := s.loadShadow.bootFrom_asks n
    obtain ⟨hfuses, hmem, -, -, -, hshadow⟩ := s.bootFrom_frame n
    have hkeeps := s.loadShadow.keepsRegs_bootFrom n
    have hkept := State.loadShadow_kept hok
    have hsource : s.bootFuse = s.loadShadow.bootFrom n :=
      State.bootFuse_source heff (by rwa [hkept]) (by rw [hkept]; omega) hsel (by rwa [hkept])
    rw [hkept] at heff' hstage h7 h13 h5 hfuses hmem hshadow hkeeps hsource
    exact ⟨_, bootStep_answers hs hst hsource, hshadow, hfuses, heff', hstage, h7, h13, h5, hmem, hkeeps⟩
  case fuseHolds =>
    intro s hs hst heff hok hsel hbad hwaits
    obtain ⟨-, hloaded⟩ := State.loadShadow_shows hok
    have hbad' : s.loadShadow.flag F.BOOT_FUSE_SHADOWOK = false ∨ s.loadShadow.fld F.BOOT_FUSE_LIFECYCLE = 3 :=
      hbad.imp hloaded.shadowok.trans fun h => hloaded.lifecycle.trans (congrArg BitVec.toNat h)
    exact ⟨_, bootStep_answers hs hst (State.bootFuse_hold heff hsel hbad'), State.fuseHold_shows hok hwaits⟩
  case fuseTest =>
    intro s hs hst hok heff hsel hlife
    have hset : s.KeepsRegs (s.setFld F.BOOT_STRAP_EFFSRC 3) [Reg.BOOT_STRAP, Reg.PWR_DOM 1, Reg.PWR_DOM 7] :=
      (State.KeepsRegs.refl _).setFld _ _ (by decide)
    have hkeeps := hset.trans (((s.setFld F.BOOT_STRAP_EFFSRC 3).keepsRegs_askOn [1, 7]).mono (by decide))
    obtain ⟨-, hmem, -⟩ := ((s.setFld F.BOOT_STRAP_EFFSRC 3).onlyAsks_askOn [1, 7]).parts
    have hsource : ((s.setFld F.BOOT_STRAP_EFFSRC 3).askOn [1, 7]).fld F.BOOT_STRAP_EFFSRC = 3 :=
      (State.fld_askOn_apart (by decide) (by decide) _).trans (s.fld_setFld F.BOOT_STRAP_EFFSRC 3 (by decide))
    exact ⟨_, bootStep_answers hs hst (State.bootFuse_test heff hsel hlife hok), hsource,
      (hkeeps.fld (by decide)).trans hst, State.domReq_askOn (by decide) _, hkeeps, hmem⟩
  case quad =>
    intro s x ops hs hst h hsize haddr heff hfast hquad
    have hfound := State.discover_quad_eq h hsize haddr heff hfast hquad
    obtain ⟨hstage, hq, hsingle, hdensity⟩ := s.flashFound_shows x 1 0 { s.boot with
      flash := s.boot.flash ++ [.cmd 0x66, .cmd 0x99, .cmd 0xAB, .read 0x5A 8 0, .read 0x5A 8 (bfptAt x)] ++ ops
      readOp := bitsOf (bfptWord x 3) 24 8, waits := bitsOf (bfptWord x 3) 16 5 }
    exact ⟨_, bootStep_answers hs hst hfound, hstage, hq, hsingle, hdensity, s.flashFound_frame x 1 0 _⟩
  case single =>
    intro s x hs hst h hsize haddr hno
    have hfound := State.discover_single_eq h hsize haddr hno
    obtain ⟨hstage, hq, hsingle, hdensity⟩ := s.flashFound_shows x 0 1 { s.boot with
      flash := s.boot.flash ++ [.cmd 0x66, .cmd 0x99, .cmd 0xAB, .read 0x5A 8 0, .read 0x5A 8 (bfptAt x)]
      readOp := 3, waits := 0 }
    exact ⟨_, bootStep_answers hs hst hfound, hstage, hq, hsingle, hdensity, s.flashFound_frame x 0 1 _⟩
  case stage =>
    rintro s data h n hs hst hon rfl rfl
    obtain ⟨hstage, hkeeps, hrest⟩ := State.stageCopy_frame hon data
    obtain ⟨hcopy, habove⟩ := State.byte_stageCopy hon data
    exact ok_bootStep hs hst ⟨hstage, hcopy, habove, hkeeps, hrest⟩
  case checkFails =>
    rintro s key hs hst h7 h13 h rfl hbad
    exact bootStep_answers hs hst ((State.check_body h7 h13 h).trans (if_neg hbad))
  case checkPasses =>
    rintro s key p hs hst h7 h13 h rfl rfl hgood
    obtain ⟨hstage, hfmt, hroll, hgen, hlo, hhi, howner⟩ := s.checkPassed_shows (parcelKey s.devkey s.parcel) s.parcel
    obtain ⟨hcip, hrest⟩ := s.checkPassed_frame (parcelKey s.devkey s.parcel) s.parcel
    exact ⟨_, bootStep_answers hs hst ((State.check_body h7 h13 h).trans (if_pos hgood)), hstage, hfmt, hroll, hgen, hlo, hhi,
      hcip, howner, hrest⟩
  case hold =>
    intro s c hc hwaits
    obtain ⟨hcode, hstage, hhold⟩ := State.enterHold_shows hwaits hc
    obtain ⟨hkey, hfuses, -, hboot⟩ := State.enterHold_parts hwaits c
    exact ⟨hcode, hstage, hhold, hkey, hfuses, hboot, fun hon a ha => State.byte_enterHold hwaits c hon ha,
      fun hne hhost => State.enterHold_asks hwaits hc hne hhost⟩
  case pll =>
    rintro s x l b hs hst h hx rfl hbusy
    refine bootStep_answers hs hst ((State.applyParcel_pll hx h).trans (if_neg ?_))
    simp [State.flag_of_zero hbusy]
  case switch =>
    rintro s x l b hs hst h hx rfl hlock
    exact bootStep_answers hs hst ((State.applyParcel_switch hx h).trans (if_pos (State.flag_of_one hlock)))
  case clockWaits =>
    rintro s x l hs hst hx (⟨h, hbusy⟩ | ⟨h, hlock⟩)
    · exact bootStep_answers hs hst ((State.applyParcel_pll hx h).trans (if_pos (State.flag_of_one hbusy)))
    · exact bootStep_answers hs hst ((State.applyParcel_switch hx h).trans (if_neg (by simp [State.flag_of_zero hlock])))
  case bodyWaits =>
    intro s hs hst h hwait
    refine bootStep_answers hs hst ((State.applyParcel_body h).trans (if_pos ?_))
    rcases hwait with hbusy | hoff
    · rw [State.flag_of_one hbusy, Bool.true_or]
    · rw [hoff, Bool.not_false, Bool.or_true]
  case body =>
    rintro s x l b hs hst h hbusy h7 hreg hx rfl hlock
    obtain ⟨hboot, hstage, hclass, hmeter, hdoms, hfuses⟩ := State.applyBody_shows hs hreg hx hlock
    refine ⟨_, bootStep_answers hs hst ((State.applyParcel_body h).trans (if_neg ?_)), ?_, hstage.trans hst, hclass,
      hmeter.lock, hmeter.limit, hmeter.advance, fun z hz => ?_, hdoms, hfuses⟩
    · simp [State.flag_of_zero hbusy, h7]
    · rw [hboot]
    · obtain ⟨now, hnow⟩ := hmeter.zones z hz
      rw [hnow]
      exact ⟨rfl, rfl, rfl, rfl, rfl, rfl, rfl⟩
  case keys =>
    intro s y k hs hst h hbusy h7 hreg hy h0 hnodup hkey
    refine ⟨_, bootStep_answers hs hst ((State.applyParcel_body h).trans (if_neg ?_)),
      State.cipKey_applyBody hs hreg hy h0 hnodup hkey⟩
    simp [State.flag_of_zero hbusy, h7]
  case domsWait =>
    intro s hs hst h hoff
    exact bootStep_answers hs hst ((State.applyParcel_copy h).trans (if_neg (by simp [hoff])))
  case starts =>
    intro s x hs hst h hon hx
    obtain ⟨hstage, hboot, hkey, -, -, hfuses, hzones⟩ := State.applyParcel_copies h hon
    exact ok_bootStep hs hst ⟨hstage, hboot, hkey, fun k hk => State.start_applyParcel h hon hx hk, hfuses, hzones⟩
  case code =>
    intro s x hs hst h hon hx hlong harg hlen
    obtain ⟨-, -, -, -, hmem, -, -⟩ := State.applyParcel_copies h hon
    exact ok_bootStep hs hst fun i j hi hj => (State.byte_congr hmem _).trans (s.byte_copied hx hlong hlen hi hj)
  case blow =>
    intro s hs hst h hadv hlevel hlt
    have hblown : s.KeepsRegs s.blowRollback [Reg.BOOT_ROLLBACK] := fun _ _ => rfl
    refine ⟨_, bootStep_answers hs hst (State.releaseFlash_blow h hadv hlevel), rfl, rfl, ?_,
      hblown.setFld F.BOOT_ROLLBACK_LEVEL _ (by decide), rfl, rfl⟩
    exact (State.fld_setFld _ F.BOOT_ROLLBACK_LEVEL _ (by decide)).trans (Nat.mod_eq_of_lt (show s.fuses.rollback + 1 < 2 ^ 6 by omega))
  case done =>
    intro s hs hst h hwaits
    obtain ⟨hdone, hcode, hstage⟩ := State.bootDone_shows h hwaits
    exact ok_bootStep hs hst ⟨hdone, hcode, hstage, fun k hk => State.bootDone_starts h hwaits hk,
      State.bootDone_forces h hwaits, State.bootDone_leaves h hwaits, State.bootDone_frame h hwaits⟩
  case go =>
    intro s spi hopen hst ht
    exact ⟨_, congrArg ok (State.hostBootCmd_takes hopen ht (by decide)), State.writeBootCmd_go_shows hst⟩
  case retry =>
    intro s spi hopen hst hrec ht
    have hwrite := (State.hostBootCmd_takes hopen ht (v := 2) (by decide)).trans (State.writeBootCmd_retry hst hrec)
    obtain ⟨hmem, hboot, hfuses⟩ := (s.onlyRegs_writePlain Reg.BOOT_CMD 2).parts
    obtain ⟨hstage, hhold, heff, hlen, hretry⟩ := (s.writePlain Reg.BOOT_CMD 2).enterHostwait_shows
    obtain ⟨hboot', hclear, habove, hfuses'⟩ := (s.writePlain Reg.BOOT_CMD 2).enterHostwait_frame
    rw [hboot] at hboot'
    exact ⟨_, congrArg ok hwrite, hstage, hhold, heff, hlen, hretry, hboot', hclear,
      fun a ha => (habove a ha).trans (State.byte_congr hmem a), hfuses'.trans hfuses⟩

end Sys2Proof.Machine
end

section
/-! Packets of the Round at their target and back at their source (R176, R181-R184, R187, R726). -/

namespace Sys2Proof.Machine

open Sys2Proof

variable {s : State} {p : Packet} {src tgt link n k : Nat}

/-! ### Repeats on a link (R726) -/

theorem State.linkRepeats_zero (s : State) (p : Packet) (link : Nat) : s.linkRepeats p link 0 = (s, false) :=
  if_pos (.inl rfl)

/-- Four failures on a link of its way drop the packet. -/
theorem State.linkRepeats_four (h : p.links.contains link = true) :
    s.linkRepeats p link 4 = ((s.incFld (rndRetryFld link) 3).fault 0x0C (36 + link) 0 true, true) := by
  rw [State.linkRepeats, if_neg (by rw [h]; decide)]
  rfl

/-! ### What stays in flight -/

theorem State.flight_fault (s : State) (code : Nat) (h : n < 256) (detail : Nat) (raises : Bool) :
    (s.fault code n detail raises).flight = s.flight := by
  rw [(s.onlyStore_fault code h detail raises).rest]

theorem State.flight_mailEntry (s : State) (p : Packet) (cause : Nat) : (s.mailEntry p cause).flight = s.flight := by
  rw [State.mailEntry]
  split <;> rfl

theorem State.flight_spPut (s : State) (a : Nat) (b : Byte) (t : Bool) : (s.spPut a b t).flight = s.flight := by
  rw [State.spPut]
  split <;> rfl

theorem State.flight_spWrite (s : State) (a : Nat) (t : Bool) (bs : List Byte) :
    (s.spWrite a t bs).flight = s.flight := by
  induction bs generalizing s a with
  | nil => rfl
  | cons b bs ih => exact (ih _ _).trans (s.flight_spPut a b t)

/-! ### Arrival (R181, R182) -/

/-- A posted write in its target's rows: a whole row with its tag, or single bytes with the tag ORed in (R169, R38). -/
def State.landed (s : State) (p : Packet) : State :=
  if p.wide then s.writeWide (rowAt p.addr).1 (rowAt p.addr).2 p.data p.tag else s.spWrite p.addr p.tag p.data

theorem State.landed_wide (h : p.wide = true) :
    s.landed p = s.writeWide (rowAt p.addr).1 (rowAt p.addr).2 p.data p.tag := if_pos h

theorem State.landed_narrow (h : p.wide = false) : s.landed p = s.spWrite p.addr p.tag p.data :=
  if_neg (by rw [h]; decide)

theorem State.flight_landed (s : State) (p : Packet) : (s.landed p).flight = s.flight := by
  rw [State.landed]
  split
  · rfl
  · exact s.flight_spWrite _ _ _

section
variable (hn : s.nextPacket src tgt = some n) (hp : s.flight[n]? = some p)
include hn hp

/-- A target that takes the write has it, and the acknowledgement is on its way. -/
theorem State.writeArrives_accepted (hread : p.read = false) (hcause : s.dropCause tgt = none) :
    s.writeArrives src tgt link 0 = { s.landed p with flight := s.flight.set n { p with stage := .accepted } } := by
  rw [← s.flight_landed p]
  simp only [State.writeArrives, hn, hp, hread, State.linkRepeats_zero, hcause]
  rfl

/-- A target that cannot take it logs the write and sends it back. -/
theorem State.writeArrives_returned (hread : p.read = false) (hcause : s.dropCause tgt = some k) :
    s.writeArrives src tgt link 0 =
      { s.mailEntry p k with flight := s.flight.set n { p with stage := .returned } } := by
  rw [← s.flight_mailEntry p k]
  simp only [State.writeArrives, hn, hp, hread, State.linkRepeats_zero, hcause]
  rfl

/-- A fourth repeat on a link of its way loses the write there. -/
theorem State.writeArrives_dropped (hread : p.read = false) (hlink : p.links.contains link = true) (hl : link < 4) :
    s.writeArrives src tgt link 4 =
      ({ (s.incFld (rndRetryFld link) 3).fault 0x0C (36 + link) 0 true with
          flight := s.flight.eraseIdx n } : State).lostWrite p := by
  have hflight : ((s.incFld (rndRetryFld link) 3).fault 0x0C (36 + link) 0 true).flight = s.flight := by
    rw [State.flight_fault _ _ (by omega), State.incFld_flight]
  simp only [State.writeArrives, hn, hp, hread, State.linkRepeats_four hlink, hflight]
  rfl

/-- A read brings back what the target holds, or zeros (R187). -/
theorem State.roundRead_served (hread : p.read = true) :
    s.roundRead src tgt link 0 =
      let r : State := { s with flight := s.flight.eraseIdx n }
      let len := if p.wide then 384 else 3
      if (r.dropCause tgt).isSome then (r.incFld (F.RND_RDERR_COUNT src) 1).deliverRead p (List.replicate len 0) false
      else r.deliverRead p (r.spBytes p.addr len) (r.spSealed p.addr len) := by
  simp only [State.roundRead, hn, hp, hread, State.linkRepeats_zero, Bool.false_or]
  rfl

end

/-! ### Back at the source (R176, R182) -/

theorem State.returnNotice_found (hn : (s.flight.findIdx? fun q => q.src == src && q.stage == .returned) = some n)
    (hp : s.flight[n]? = some p) :
    s.returnNotice src = (({ s with flight := s.flight.eraseIdx n } : State).lostWrite p).fire (48 + src) := by
  simp only [State.returnNotice, hn, hp]

theorem State.writeAck_found (hn : (s.flight.findIdx? fun q => q.src == src && q.stage == .accepted) = some n) :
    s.writeAck src = { s with flight := s.flight.eraseIdx n } := by
  simp only [State.writeAck, hn]

end Sys2Proof.Machine
end

section
/-! Owners of clusters and the clearings of their scratchpads (R174, R186, R190, R191). -/

namespace Sys2Proof.Machine

open Sys2Proof

variable {s t : State} {c v : Nat}

/-! ### A write of CLU_OWNER.CTX (R190) -/

theorem State.writeOwner_other (h : v ≠ s.ownerCtx c) :
    s.writeOwner c v = { s.setFld (F.CLU_OWNER_PEND c) 1 with nextCtx := tabSet (fun _ => 0) s.nextCtx c v } := if_neg h

theorem State.writeOwner_same (h : v = s.ownerCtx c) : s.writeOwner c v = s := if_pos h

/-! ### The change of owner (R190 steps 1-5) -/

theorem State.ownerChange_quiet (hpend : s.fld (F.CLU_OWNER_PEND c) = 1) (hunits : s.unitsBusy c = false)
    (hfront : s.frontUses c = false) (hout : s.outWrites c = 0) (hclear : s.clearing c = false) :
    s.ownerChange c = ((s.moveMark c).setFld (F.CLU_OWNER_CTX c) (s.newOwner c)).beginClearing c :=
  if_pos (by simp [State.flag_of_one hpend, hunits, hfront, hout, hclear])

theorem State.ownerChange_waits (h : s.fld (F.CLU_OWNER_PEND c) = 0 ∨ s.unitsBusy c = true ∨ s.frontUses c = true ∨
    s.outWrites c ≠ 0 ∨ s.clearing c = true) : s.ownerChange c = s := by
  refine if_neg ?_
  rcases h with h | h | h | h | h
  · simp [State.flag_of_zero h]
  all_goals simp [h]

/-! ### The mark of lost writes (R186) -/

/-- A late loss of a context shown in RND_LATE, and the mark it came from cleared. -/
def State.lateShown (s : State) (c ctx : Nat) : State :=
  ((s.setFld (F.RND_LATE_CTX c) ctx).setFld (F.RND_LATE_VALID c) 1).setFld (F.RND_PMARK_PEND c) 0

/-- MULTI where a late loss is shown already. -/
def State.lateAgain (s : State) (c : Nat) : State :=
  if s.flag (F.RND_LATE_VALID c) then s.setFld (F.RND_LATE_MULTI c) 1 else s

theorem State.moveMark_pending (h : s.fld (F.RND_PMARK_PEND c) = 1) : s.moveMark c =
    { (s.lateAgain c).lateShown c (s.ownerCtx c) with lostPosted := tabSet (fun _ => []) s.lostPosted c [] } :=
  if_pos (State.flag_of_one h)

theorem State.moveMark_none (h : s.fld (F.RND_PMARK_PEND c) = 0) : s.moveMark c = s :=
  if_neg (by rw [State.flag_of_zero h]; decide)

theorem State.keepsRegs_lateShown (s : State) (c ctx : Nat) :
    s.KeepsRegs (s.lateShown c ctx) [Reg.RND_LATE c, Reg.RND_PMARK c] :=
  (((State.KeepsRegs.refl _).setFld (F.RND_LATE_CTX c) ctx (by simp)).setFld (F.RND_LATE_VALID c) 1 (by simp)).setFld
    (F.RND_PMARK_PEND c) 0 (by simp)

theorem State.keepsRegs_lateAgain (s : State) (c : Nat) :
    s.KeepsRegs (s.lateAgain c) [Reg.RND_LATE c, Reg.RND_PMARK c] := by
  rw [State.lateAgain]
  split
  · exact (State.KeepsRegs.refl _).setFld (F.RND_LATE_MULTI c) 1 (by simp)
  · exact .refl _

theorem State.lateAgain_multi (h : s.fld (F.RND_LATE_VALID c) = 1) : (s.lateAgain c).fld (F.RND_LATE_MULTI c) = 1 := by
  rw [State.lateAgain, if_pos (State.flag_of_one h)]
  exact s.fld_setFld (F.RND_LATE_MULTI c) 1 (show 13 + 1 ≤ 24 by decide)

theorem State.lateShown_shows (s : State) (c : Nat) {ctx : Nat} (hctx : ctx < 2 ^ 12) :
    (s.lateShown c ctx).fld (F.RND_LATE_CTX c) = ctx ∧ (s.lateShown c ctx).fld (F.RND_LATE_VALID c) = 1 ∧
    (s.lateShown c ctx).fld (F.RND_PMARK_PEND c) = 0 ∧
    (s.lateShown c ctx).fld (F.RND_LATE_MULTI c) = s.fld (F.RND_LATE_MULTI c) := by
  have hpmark (u : State) (lo w : Nat) :
      (u.setFld (F.RND_PMARK_PEND c) 0).fld ⟨Reg.RND_LATE c, lo, w⟩ = u.fld ⟨Reg.RND_LATE c, lo, w⟩ :=
    u.fld_setFld_addr (F.RND_PMARK_PEND c) ⟨Reg.RND_LATE c, lo, w⟩ 0 (by dsimp only [Reg.RND_LATE, Reg.RND_PMARK]; omega)
  have hvalid (u : State) (lo w : Nat) (h : lo + w ≤ 12 ∨ 13 ≤ lo) :
      (u.setFld (F.RND_LATE_VALID c) 1).fld ⟨Reg.RND_LATE c, lo, w⟩ = u.fld ⟨Reg.RND_LATE c, lo, w⟩ :=
    u.fld_setFld_bits (F.RND_LATE_VALID c) ⟨Reg.RND_LATE c, lo, w⟩ 1 (show 12 + 1 ≤ 24 by decide) rfl h
  have hshown : (s.setFld (F.RND_LATE_CTX c) ctx).fld (F.RND_LATE_CTX c) = ctx :=
    (s.fld_setFld (F.RND_LATE_CTX c) ctx (show 0 + 12 ≤ 24 by decide)).trans (Nat.mod_eq_of_lt hctx)
  have hkept : (s.setFld (F.RND_LATE_CTX c) ctx).fld (F.RND_LATE_MULTI c) = s.fld (F.RND_LATE_MULTI c) :=
    s.fld_setFld_bits (F.RND_LATE_CTX c) (F.RND_LATE_MULTI c) ctx (show 0 + 12 ≤ 24 by decide) rfl
      (.inr (show 0 + 12 ≤ 13 by decide))
  exact ⟨((hpmark _ 0 12).trans (hvalid _ 0 12 (by decide))).trans hshown,
    (hpmark _ 12 1).trans (State.fld_setFld _ (F.RND_LATE_VALID c) 1 (show 12 + 1 ≤ 24 by decide)),
    State.fld_setFld _ (F.RND_PMARK_PEND c) 0 (show 12 + 1 ≤ 24 by decide),
    ((hpmark _ 13 1).trans (hvalid _ 13 1 (by decide))).trans hkept⟩

/-- A mark that moves shows its context as late, and MULTI where a late one stood already. -/
theorem State.moveMark_shows (h : s.fld (F.RND_PMARK_PEND c) = 1) :
    (s.moveMark c).fld (F.RND_LATE_CTX c) = s.ownerCtx c ∧ (s.moveMark c).fld (F.RND_LATE_VALID c) = 1 ∧
    (s.moveMark c).fld (F.RND_PMARK_PEND c) = 0 ∧
    (s.fld (F.RND_LATE_VALID c) = 1 → (s.moveMark c).fld (F.RND_LATE_MULTI c) = 1) ∧
    s.KeepsRegs (s.moveMark c) [Reg.RND_LATE c, Reg.RND_PMARK c] := by
  have hctx : s.ownerCtx c < 2 ^ 12 := bitsOf_lt ..
  have hkeeps := (s.keepsRegs_lateAgain c).trans (State.keepsRegs_lateShown _ c (s.ownerCtx c))
  obtain ⟨hlate, hvalid, hpend, hmulti⟩ := (s.lateAgain c).lateShown_shows c hctx
  have hregs : (s.moveMark c).regs = ((s.lateAgain c).lateShown c (s.ownerCtx c)).regs := by
    rw [State.moveMark_pending h]
  simp only [State.KeepsRegs, State.fld, State.reg, hregs]
  exact ⟨hlate, hvalid, hpend, fun hv => hmulti.trans (State.lateAgain_multi hv), hkeeps⟩

/-! ### The clearing (R174, R191) -/

theorem State.requestClear_idle (h : s.clearing c = false) :
    s.requestClear c = (s.setFld (F.CLU_CLEAR_REQ c) 1).beginClearing c := if_neg (by rw [h]; decide)

/-- Counting a clearing and showing it leaves the rows as they were zeroed. -/
theorem State.beginClearing_rows (s : State) (c : Nat) :
    (s.beginClearing c).tags = (s.wipe c).tags ∧ (s.beginClearing c).marks = (s.wipe c).marks ∧
    (s.beginClearing c).fresh = (s.wipe c).fresh := ⟨rfl, rfl, rfl⟩

theorem rowKey_div (c r : Nat) : rowKey c r / 4096 = c := by
  rw [rowKey]
  omega

theorem State.tag_beginClearing (s : State) (c r : Nat) : (s.beginClearing c).tag c r = false := by
  obtain ⟨htags, -, -⟩ := s.beginClearing_rows c
  rw [State.tag_congr htags, State.tag_wipe, rowKey_div]
  simp

theorem State.mark_beginClearing (s : State) (c r : Nat) : (s.beginClearing c).mark c r = false := by
  have hmark : (s.beginClearing c).mark c r =
      tabGet (fun _ => false) (tabClear (fun k => k / 4096 == c) s.marks) (rowKey c r) := rfl
  rw [hmark, tabGet_tabClear, rowKey_div, beq_self_eq_true, if_pos rfl]

theorem State.freshOf_beginClearing (s : State) (c : Nat) : (s.beginClearing c).freshOf c = [] := by
  obtain ⟨-, -, hfresh⟩ := s.beginClearing_rows c
  rw [State.freshOf, hfresh, ← State.freshOf, State.freshOf_wipe, if_pos rfl]

/-- Bytes of the other scratchpads stand. -/
theorem State.byte_beginClearing_apart {a : Nat} (h : a < c * 0x200000 ∨ (c + 1) * 0x200000 ≤ a) :
    (s.beginClearing c).byte a = s.byte a := by
  rw [State.beginClearing, State.byte_setFld, State.byte_clearScratch, if_neg (by omega)]

/-- The ring's pointers stand at zero. -/
theorem State.ring_beginClearing (s : State) (c : Nat) :
    (s.beginClearing c).fld (F.SEAL_RINGWP_WP c) = 0 ∧ (s.beginClearing c).fld (F.SEAL_RINGRP_RP c) = 0 := by
  have hlater (f : Fld) (hf : f.addr < 0x06000000 + 0x100000 * c) :
      (s.beginClearing c).fld f = ((s.zeroRows c).resetRing c).fld f :=
    (State.fld_setFld_addr _ (F.CLU_OWNER_CLEARING c) f _ (by dsimp only [Reg.CLU_OWNER]; omega)).trans
      (State.fld_setFld_addr _ (F.SPD_CLRCNT_COUNT c) f _ (by dsimp only [Reg.SPD_CLRCNT]; omega))
  rw [hlater _ (by dsimp only [Reg.SEAL_RINGWP]; omega), hlater _ (by dsimp only [Reg.SEAL_RINGRP]; omega), State.resetRing]
  generalize (s.zeroRows c).setFresh c [] = r
  refine ⟨?_, State.fld_setFld _ (F.SEAL_RINGRP_RP c) 0 (show 0 + 7 ≤ 24 by decide)⟩
  rw [State.fld_setFld_addr _ (F.SEAL_RINGRP_RP c) _ 0 (by dsimp only [Reg.SEAL_RINGWP, Reg.SEAL_RINGRP]; omega)]
  exact r.fld_setFld (F.SEAL_RINGWP_WP c) 0 (show 0 + 7 ≤ 24 by decide)

theorem State.clearing_beginClearing (s : State) (c : Nat) : (s.beginClearing c).clearing c = true :=
  (s.beginClearing_clears (a := c * 0x200000) ⟨le_rfl, by omega⟩).2

/-! ### The end of the clearing (R174, R190 step 6) -/

/-- CLEARING and CLU_CLEAR.REQ end, and PEND where the waiting owner is the one loaded. -/
def State.clearingOver (s : State) (c : Nat) : State :=
  let r := (s.setFld (F.CLU_OWNER_CLEARING c) 0).setFld (F.CLU_CLEAR_REQ c) 0
  if r.flag (F.CLU_OWNER_PEND c) && r.newOwner c == r.ownerCtx c then r.setFld (F.CLU_OWNER_PEND c) 0 else r

theorem State.endClearing_eq (h : s.clearing c = true) : s.endClearing c =
    (if (s.clearingOver c).inClReset c then ((s.clearingOver c).setFbit F.CLK_CLRST_BUSY c false).startCore c
     else s.clearingOver c).flrSettle := if_pos h

theorem State.onlyRegs_clearingOver (s : State) (c : Nat) :
    s.OnlyRegs (s.clearingOver c) [Reg.CLU_OWNER c, Reg.CLU_CLEAR c] := by
  have hended := ((State.OnlyRegs.refl (s := s) [Reg.CLU_OWNER c, Reg.CLU_CLEAR c]).setFld (F.CLU_OWNER_CLEARING c) 0
    (by simp)).setFld (F.CLU_CLEAR_REQ c) 0 (by simp)
  rw [State.clearingOver]
  split
  · exact hended.setFld (F.CLU_OWNER_PEND c) 0 (by simp)
  · exact hended

theorem State.flrSettle_none (h : s.flrDue = []) : s.flrSettle = s := if_neg (by simp [h])

theorem State.clearing_clearingOver (s : State) (c : Nat) : (s.clearingOver c).clearing c = false := by
  have hended : ((s.setFld (F.CLU_OWNER_CLEARING c) 0).setFld (F.CLU_CLEAR_REQ c) 0).fld (F.CLU_OWNER_CLEARING c) = 0 :=
    (State.fld_setFld_addr _ (F.CLU_CLEAR_REQ c) (F.CLU_OWNER_CLEARING c) 0
      (by dsimp only [Reg.CLU_OWNER, Reg.CLU_CLEAR]; omega)).trans
      (s.fld_setFld (F.CLU_OWNER_CLEARING c) 0 (show 13 + 1 ≤ 24 by decide))
  refine State.flag_of_zero ?_
  rw [State.clearingOver]
  split
  · exact (State.fld_setFld_bits _ (F.CLU_OWNER_PEND c) (F.CLU_OWNER_CLEARING c) 0 (show 12 + 1 ≤ 24 by decide) rfl
      (.inr (show 12 + 1 ≤ 13 by decide))).trans hended
  · exact hended

/-- The reset block stands: whether the cluster is in reset is as it was. -/
theorem State.inClReset_clearingOver (s : State) (c : Nat) : (s.clearingOver c).inClReset c = s.inClReset c := by
  obtain ⟨-, hregs⟩ := s.onlyRegs_clearingOver c
  have hbusy : (s.clearingOver c).fld F.CLK_CLRST_BUSY = s.fld F.CLK_CLRST_BUSY := hregs.fld (by
    simp only [List.mem_cons, List.not_mem_nil, or_false]
    dsimp only [Reg.CLK_CLRST, Reg.CLU_OWNER, Reg.CLU_CLEAR]
    omega)
  rw [State.inClReset, State.fbit, hbusy]
  rfl

theorem State.flrDue_clearingOver (s : State) (c : Nat) : (s.clearingOver c).flrDue = s.flrDue := by
  rw [(s.onlyRegs_clearingOver c).1]

/-- Outside a cluster reset nothing more ends. -/
theorem State.endClearing_owned (h : s.clearing c = true) (hflr : s.flrDue = []) (hreset : s.inClReset c = false) :
    s.endClearing c = s.clearingOver c := by
  rw [State.endClearing_eq h, s.inClReset_clearingOver, hreset, if_neg (by decide)]
  exact State.flrSettle_none ((s.flrDue_clearingOver c).trans hflr)

/-- A bit of a field reads back as it was set. -/
theorem State.fbit_setFbit (s : State) (f : Fld) {i : Nat} (hf : f.lo + f.w ≤ 24) (hi : i < f.w) (b : Bool) :
    (s.setFbit f i b).fbit f i = b := by
  rw [State.fbit, State.setFbit, s.fld_setFld _ _ hf, bitOf_eq_testBit, Nat.testBit_mod_two_pow, ← bitOf_eq_testBit,
    ← Nat.add_zero i, bitOf_putBits_in _ _ _ _ _ Nat.one_pos]
  cases b <;> simp [hi]

theorem State.onlyCores_startCore (s : State) (k : Nat) : s.OnlyCores (s.startCore k) := by
  rw [State.startCore]
  split <;> rfl

theorem State.OnlyCores.fld (h : s.OnlyCores t) (f : Fld) : t.fld f = s.fld f := by
  rw [h]
  rfl

/-- A cluster reset ends with its clearing. -/
theorem State.endClearing_reset (h : s.clearing c = true) (hflr : s.flrDue = []) (hreset : s.inClReset c = true) :
    s.endClearing c = ((s.clearingOver c).setFbit F.CLK_CLRST_BUSY c false).startCore c := by
  have hdue : (((s.clearingOver c).setFbit F.CLK_CLRST_BUSY c false).startCore c).flrDue = [] := by
    rw [State.onlyCores_startCore]
    exact (s.flrDue_clearingOver c).trans hflr
  rw [State.endClearing_eq h, s.inClReset_clearingOver, hreset, if_pos rfl]
  exact State.flrSettle_none hdue

/-- After it the cluster is neither clearing nor in reset, and its core runs from its entry address (R91, R347). -/
theorem State.endClearing_reset_shows (h : s.clearing c = true) (hflr : s.flrDue = []) (hreset : s.inClReset c = true)
    (hc : c < 4) :
    (s.endClearing c).clearing c = false ∧ (s.endClearing c).inClReset c = false ∧
    (s.endClearing c).core c = (s.core c).started := by
  rw [State.endClearing_reset h hflr hreset]
  obtain ⟨honly, -⟩ := s.onlyRegs_clearingOver c
  have hcore : ((s.clearingOver c).setFbit F.CLK_CLRST_BUSY c false).core c = s.core c := by
    rw [State.core_setFbit, honly]
    rfl
  have hstart := ((s.clearingOver c).setFbit F.CLK_CLRST_BUSY c false).onlyCores_startCore c
  refine ⟨?_, ?_, ?_⟩
  · rw [State.clearing, State.flag, hstart.fld, State.setFbit, State.fld_setFld_addr _ F.CLK_CLRST_BUSY
      (F.CLU_OWNER_CLEARING c) _ (by dsimp only [Reg.CLK_CLRST, Reg.CLU_OWNER]; omega)]
    exact s.clearing_clearingOver c
  · rw [State.inClReset, State.fbit, hstart.fld]
    exact State.fbit_setFbit _ F.CLK_CLRST_BUSY (show 4 + 4 ≤ 24 by decide) hc false
  · rw [State.core_startCore, if_pos rfl, hcore]

theorem CoreSt.started_runs {x : CoreSt} {pc : BitVec 16} (h : x.start = some pc) :
    x.started.run = .run ∧ x.started.pc = pc := by
  rw [CoreSt.started, h]
  exact ⟨rfl, rfl⟩

end Sys2Proof.Machine
end

section
/-! O21: what packets of the Round do, and how a cluster changes hands. -/

namespace Sys2Proof.Machine

open Sys2Proof

/-- Settles O21: each command is the rule above for the case its hypotheses describe. That a fourth repeat drops the packet
(log entry 56), and what a write of CLU_OWNER.CTX does while a change of owner waits (log entry 80), are the model's
choices. -/
theorem roundAndOwner : Obligations.RoundAndOwner := by
  unfold Obligations.RoundAndOwner
  refine ⟨?wide, ?narrow, ?returned, ?dropped,
    fun s src n p hn hp => congrArg ok (State.returnNotice_found hn hp), fun s p => rfl,
    fun s src n hn => congrArg ok (State.writeAck_found hn), ?read,
    fun s ini c ht => congrArg ok (State.cmdWrite_takes _ _ _ _ ht), ?owner, ?same,
    fun s c hpend hunits hfront hout hclear => congrArg ok (State.ownerChange_quiet hpend hunits hfront hout hclear),
    fun s c h => State.moveMark_shows h, fun s c h => State.moveMark_none h,
    fun s c h => congrArg ok (State.ownerChange_waits h), ?clear, ?begins, ?ends, ?endsReset⟩
  case wide =>
    rintro s src tgt link repeats n p hn hp hread hwide rfl hcause
    rw [← State.landed_wide hwide]
    exact congrArg ok (State.writeArrives_accepted hn hp hread hcause)
  case narrow =>
    rintro s src tgt link repeats n p hn hp hread hwide rfl hcause
    rw [← State.landed_narrow hwide]
    exact ⟨_, congrArg ok (State.writeArrives_accepted hn hp hread hcause), rfl⟩
  case returned =>
    rintro s src tgt link repeats n k p hn hp hread rfl hcause
    exact congrArg ok (State.writeArrives_returned hn hp hread hcause)
  case dropped =>
    rintro s src tgt link repeats n p hn hp hread hlink rfl
    exact congrArg ok (State.writeArrives_dropped hn hp hread hlink link.isLt)
  case read =>
    rintro s src tgt link repeats n p hn hp hread rfl
    exact congrArg ok (State.roundRead_served hn hp hread)
  case owner =>
    rintro s ini c v o ht rfl hne
    exact congrArg ok ((State.cmdWrite_takes _ _ _ _ ht).trans (State.writeOwner_other hne))
  case same =>
    intro s ini c v ht h
    exact congrArg ok ((State.cmdWrite_takes _ _ _ _ ht).trans (State.writeOwner_same h))
  case clear =>
    intro s ini c ht h
    exact congrArg ok ((State.cmdWrite_takes _ _ _ _ ht).trans (State.requestClear_idle h))
  case begins =>
    intro s c _
    obtain ⟨hwp, hrp⟩ := s.ring_beginClearing c
    exact ⟨fun a hlo hhi => (s.beginClearing_clears ⟨hlo, hhi⟩).1, fun a ha => State.byte_beginClearing_apart ha,
      fun r => ⟨s.tag_beginClearing c r, s.mark_beginClearing c r⟩, s.freshOf_beginClearing c, hwp, hrp,
      s.clearing_beginClearing c⟩
  case ends =>
    intro s c h hflr hreset
    exact congrArg ok (State.endClearing_owned h hflr hreset)
  case endsReset =>
    intro s c h hflr hreset _
    obtain ⟨hclear, hidle, hcore⟩ := State.endClearing_reset_shows h hflr hreset c.isLt
    refine ⟨_, rfl, hclear, hidle, fun pc hpc => ?_⟩
    obtain ⟨hrun, hat⟩ := CoreSt.started_runs hpc
    exact ⟨(congrArg CoreSt.run hcore).trans hrun, (congrArg CoreSt.pc hcore).trans hat⟩

end Sys2Proof.Machine
end

section
/-! The cells of a tile and its converters (section 07): what a row step leaves in them, and the codes a conversion
gives (R203, R213-R217, R243, R308). -/

namespace Sys2Proof.Machine

open Sys2Proof

variable {n : Noise} {r : RowStep} {t draw k w : Nat}

/-! ### Verify (R215, R308) -/

theorem accepted_iff (v w : Nat) : accepted v w = true ↔ ((v : Int) - 4 * w).natAbs ≤ 1 := by
  simp only [accepted, Bool.and_eq_true, decide_eq_true_eq]
  omega

theorem clampI_bounds {lo hi : Int} (h : lo ≤ hi) (v : Int) : lo ≤ clampI lo hi v ∧ clampI lo hi v ≤ hi := by
  rw [clampI]
  split_ifs <;> omega

theorem vcode_le (g : Rat) : vcode g ≤ 31 := by
  obtain ⟨_, hhi⟩ := clampI_bounds (lo := 0) (hi := 31) (by decide) (rheQ (4 * g))
  rw [vcode]
  omega

theorem refreshTarget_le (v : Nat) : refreshTarget v ≤ 7 := min_le_right _ _

theorem accepted_refreshTarget {v : Nat} (hv : v ≤ 29) (ha : ambiguous v = false) : accepted v (refreshTarget v) = true := by
  rw [ambiguous, beq_eq_false_iff_ne] at ha
  rw [accepted_iff, refreshTarget]
  omega

/-! ### Cells of pairs (R203) -/

theorem pairTargets_eq (row col : Nat) (w : Int) : pairTargets row col w =
    [(cellKey row col 0, if 0 < w then w.natAbs else 0), (cellKey row col 1, if w < 0 then w.natAbs else 0)] := by
  have hplus : w.toNat = if 0 < w then w.natAbs else 0 := by split_ifs <;> omega
  have hminus : (-w).toNat = if w < 0 then w.natAbs else 0 := by split_ifs <;> omega
  rw [pairTargets, hplus, hminus]

theorem cellKey_inj {r1 c1 s1 r2 c2 s2 : Nat} (hc1 : c1 < 392) (hc2 : c2 < 392) (hs1 : s1 < 2) (hs2 : s2 < 2)
    (h : cellKey r1 c1 s1 = cellKey r2 c2 s2) : r1 = r2 ∧ c1 = c2 ∧ s1 = s2 := by
  simp only [cellKey] at h
  omega

theorem Noise.cond_nonneg (n : Noise) (x : Tile) (t draw k : Nat) : 0 ≤ n.cond x t draw k := by
  rw [Noise.cond]
  split
  · rw [stuckAt]
    split <;> norm_num
  · exact le_max_left _ _

/-! ### The pulses of one cell (R216) -/

theorem b2n_not (b : Bool) : b2n (!b) = if b then 0 else 1 := by cases b <;> rfl

theorem Noise.program_accepted (h : accepted (vcode (n.cond r.tile t draw k)) w = true) : n.program t draw r (k, w) = r :=
  if_pos h

theorem Noise.program_stuck (h : accepted (vcode (n.cond r.tile t draw k)) w = false) (hs : Config.cellStuck t k = true) :
    n.program t draw r (k, w) = { r with stuck := r.stuck + 1, pulsed := true } := by
  simp [Noise.program, h, hs]

theorem Noise.program_pulsed (h : accepted (vcode (n.cond r.tile t draw k)) w = false) (hs : Config.cellStuck t k = false) :
    n.program t draw r (k, w) =
      let g := pulseCell w [t, k, draw] 24 none 0 (n.cond r.tile t draw k)
      { tile := { r.tile with cells := tabSet (fun _ => {}) r.tile.cells k ⟨w, g, draw⟩ }
        stuck := r.stuck + (if accepted (vcode g) w then 0 else 1), pulsed := true } := by
  simp [Noise.program, h, hs, b2n_not]

/-- Nothing but cells differs between `x` and `y`, and the cells at `keys` alone. -/
def Tile.OnlyCells (x y : Tile) (keys : List Nat) : Prop :=
  y = { x with cells := y.cells } ∧ ∀ j, j ∉ keys → y.cell j = x.cell j

theorem Tile.OnlyCells.refl (x : Tile) (keys : List Nat) : x.OnlyCells x keys := ⟨rfl, fun _ _ => rfl⟩

theorem Tile.OnlyCells.trans {x y z : Tile} {keys : List Nat} (h : x.OnlyCells y keys) (h' : y.OnlyCells z keys) :
    x.OnlyCells z keys := ⟨by rw [h'.1, h.1], fun j hj => (h'.2 j hj).trans (h.2 j hj)⟩

theorem Tile.OnlyCells.mono {x y : Tile} {l l' : List Nat} (h : x.OnlyCells y l) (hl : l ⊆ l') : x.OnlyCells y l' :=
  ⟨h.1, fun j hj => h.2 j fun hm => hj (hl hm)⟩

theorem Noise.onlyCells_program (n : Noise) (t draw : Nat) (r : RowStep) (kt : Nat × Nat) :
    r.tile.OnlyCells (n.program t draw r kt).tile [kt.1] := by
  obtain ⟨k, w⟩ := kt
  cases hok : accepted (vcode (n.cond r.tile t draw k)) w with
  | true =>
    rw [Noise.program_accepted hok]
    exact .refl _ _
  | false =>
    cases hs : Config.cellStuck t k with
    | true =>
      rw [Noise.program_stuck hok hs]
      exact .refl _ _
    | false =>
      rw [Noise.program_pulsed hok hs]
      exact ⟨rfl, fun j hj => tabGet_tabSet_ne _ _ _ _ _ (by simpa using hj)⟩

/-! ### A row step (R217) -/

theorem Noise.onlyCells_foldl_program (n : Noise) (t draw : Nat) (l : List (Nat × Nat)) (r : RowStep) :
    r.tile.OnlyCells (l.foldl (n.program t draw) r).tile (l.map (·.1)) := by
  induction l generalizing r with
  | nil => exact .refl _ _
  | cons kt l ih =>
    exact ((n.onlyCells_program t draw r kt).mono (by simp)).trans ((ih _).mono (by simp))

theorem State.onlyCells_runStep (s : State) (t : Nat) (l : LongOp) :
    (s.tile t).OnlyCells (s.runStep t l).tile ((s.stepTargets t l).map (·.1)) :=
  (s.noise t).onlyCells_foldl_program t s.free (s.stepTargets t l) { tile := s.tile t }

/-- What the pulses of one cell leave, by its verify and whether it is stuck. -/
theorem Noise.program_leaves (n : Noise) (t draw : Nat) (r : RowStep) (k w : Nat) :
    let ok := accepted (vcode (n.cond r.tile t draw k)) w
    let g := pulseCell w [t, k, draw] 24 none 0 (n.cond r.tile t draw k)
    let q := n.program t draw r (k, w)
    (∀ j, j ≠ k → q.tile.cell j = r.tile.cell j) ∧ (ok = true → q = r) ∧
    (ok = false → Config.cellStuck t k = true → q.tile = r.tile ∧ q.stuck = r.stuck + 1) ∧
    (ok = false → Config.cellStuck t k = false → q.tile.cell k = ⟨w, g, draw⟩ ∧ q.pulsed = true ∧
      q.stuck = r.stuck + (if accepted (vcode g) w then 0 else 1)) := by
  intro ok g q
  refine ⟨fun j hj => (n.onlyCells_program t draw r (k, w)).2 j (by simpa using hj), Noise.program_accepted,
    fun hok hs => ?_, fun hok hs => ?_⟩
  · rw [show q = _ from Noise.program_stuck hok hs]
    exact ⟨rfl, rfl⟩
  · rw [show q = _ from Noise.program_pulsed hok hs]
    exact ⟨tabGet_tabSet_same _ _ _ _, rfl, rfl⟩

/-! ### The converter (R213, R214, R243, Table TILE-3) -/

theorem gainLsb_pos (g : Nat) : (0 : Rat) < gainLsb g := by
  have : 0 < gainLsb g := Nat.pow_pos (by decide)
  exact_mod_cast this

theorem bounded_force {lo hi : Rat} (h : lo ≤ hi) (v : Rat) : lo ≤ bounded true lo hi v ∧ bounded true lo hi v ≤ hi :=
  ⟨le_max_left _ _, max_le h (min_le_left _ _)⟩

/-- A conversion has three outcomes: over the range, under it, or a code within it. -/
theorem Noise.convert_cases (n : Noise) (t col g : Nat) (k : List Nat) (d : Rat) :
    n.convert t col g k d = (15, true) ∨ n.convert t col g k d = (-16, true) ∨
    ∃ v, n.convert t col g k d = (clampI (-16) 15 v, false) := by
  simp only [Noise.convert]
  split_ifs
  · exact .inl rfl
  · exact .inr (.inl rfl)
  · exact .inr (.inr ⟨_, rfl⟩)

theorem Noise.convert_range (n : Noise) (t col g : Nat) (k : List Nat) (d : Rat) :
    (-16 : Int) ≤ (n.convert t col g k d).1 ∧ (n.convert t col g k d).1 ≤ 15 ∧
    ((n.convert t col g k d).2 = true → (n.convert t col g k d).1 = 15 ∨ (n.convert t col g k d).1 = -16) := by
  obtain h | h | ⟨v, h⟩ := n.convert_cases t col g k d
  · simp [h]
  · simp [h]
  · obtain ⟨hlo, hhi⟩ := clampI_bounds (lo := -16) (hi := 15) (by decide) v
    simp [h, hlo, hhi]

theorem Noise.convert_over (hf : n.force = true) {col g : Nat} {k : List Nat} {d : Rat}
    (h : 63 * (gainLsb g : Rat) ≤ 4 * d) : n.convert t col g k d = (15, true) := by
  have hdev := (bounded_force (lo := -(1 / 4)) (hi := 1 / 4) (by norm_num) (Config.deviation (0 :: t :: col :: k))).2
  have hv : 63 / 4 ≤ d / gainLsb g := by
    rw [le_div_iff₀ (gainLsb_pos g)]
    linarith
  simp only [Noise.convert, hf]
  exact if_pos (by linarith)

theorem Noise.convert_under (hf : n.force = true) {col g : Nat} {k : List Nat} {d : Rat}
    (h : 4 * d < -67 * (gainLsb g : Rat)) : n.convert t col g k d = (-16, true) := by
  have hover := (bounded_force (lo := -(1 / 4)) (hi := 1 / 4) (by norm_num) (Config.deviation (0 :: t :: col :: k))).1
  have hunder := (bounded_force (lo := -(1 / 4)) (hi := 1 / 4) (by norm_num) (Config.deviation (1 :: t :: col :: k))).1
  have hv : d / gainLsb g < -(67 / 4) := by
    rw [div_lt_iff₀ (gainLsb_pos g)]
    linarith
  simp only [Noise.convert, hf]
  rw [if_neg (by linarith), if_pos (by linarith)]

/-- Settles O23: a row step is the fold of the pulses of its cells, each of which touches its own cell alone. -/
theorem programmedWeights : Obligations.ProgrammedWeights := by
  unfold Obligations.ProgrammedWeights
  refine ⟨fun s t l k hk => (s.onlyCells_runStep t l).2 k hk, ?step, fun n t draw r k w => n.program_leaves t draw r k w,
    accepted_iff, fun row col w _ _ => pairTargets_eq row col w,
    fun _ _ _ _ _ _ hc1 hc2 hs1 hs2 h => cellKey_inj hc1 hc2 hs1 hs2 h, vcode_le,
    fun v => ⟨refreshTarget_le v, accepted_refreshTarget⟩, fun n t col g k d => n.convert_range t col g k d,
    fun _ _ _ _ _ _ hf h => Noise.convert_over hf h, fun _ _ _ _ _ _ hf h => Noise.convert_under hf h,
    fun n x t draw k => n.cond_nonneg x t draw k⟩
  case step =>
    intro s t l
    rw [(s.onlyCells_runStep t l).1]
    exact ⟨rfl, rfl, rfl, rfl, rfl⟩

end Sys2Proof.Machine
end

section
/-! Row steps that a step of the front end holds back (R412). -/

namespace Sys2Proof.Machine

open Sys2Proof

/-- A row step that waits for another queue's command changes nothing. -/
theorem exec_rowStepEnd_held {s : State} {t : Fin 32} (h : s.stepHeld t = true) : exec (.rowStepEnd t) s = .next s :=
  congrArg ok (if_pos h)

/-- The wipe of a TWIPE after its first six row steps, the front end's first step (Table RUN-4). -/
def wipeAtStep : LongOp :=
  { kind := .wipe, src := 0, first := 0, count := 776, mask := 0x3F, stuckok := 7, gen := 0, baro := false, phase := .between,
    idx := 6, baroNext := false, allow := 0, nospare := none, abort := false, atStep := true }

/-- A descriptor of format QF1 for cluster 0, context 0 and, where its opcode names one, tile 0: every field but OPC is 0. -/
def plainDescriptor (opc : Byte) : List Byte := opc :: List.replicate 31 0

/-- A lit part where the TWIPE of queue 0 stands between two of its steps in tile 0, while a checked WSET of queue 1 waits
to be dispatched to the same cluster. -/
def wipeHeldBack : State :=
  let lit := (List.range 26).foldl (fun s d => s.setFld (F.PWR_DOM_ACT d) 2) State.reset
  let s := ((lit.setFld (F.QUE_QSTATE_STATE 0) 1).setFld (F.QUE_QSTATE_STATE 1) 1).setFld (F.TILE_LSTAT_ROWSDONE 0) 6
  ((s.setTile 0 { long := some wipeAtStep, front := some 1 }).setQueue 0
    { cmds := [{ raw := plainDescriptor 6, phase := 2, sent := true, issued := 1, limit := 1, ids := [1] }] }).setQueue 1
    { cmds := [{ raw := plainDescriptor 1, phase := 1 }] }

theorem stepHeld_wipeHeldBack : wipeHeldBack.stepHeld (0 : Fin 32) = true := by decide +kernel

/-- Refutes O22: the clauses on a row step leave out R412, by which the first row step of the front end's next step waits
while a command of another queue wants the tile's cluster. Such a row step does not end: nothing changes, where the clause
on a wipe has the row counted and a free value drawn. -/
theorem not_tileCommands : ¬ Obligations.TileCommands := by
  unfold Obligations.TileCommands
  rintro ⟨-, -, -, -, -, -, -, -, -, -, -, -, -, hwipe, -⟩
  obtain ⟨u, hu, -, -, hfree, -⟩ := hwipe wipeHeldBack 0 wipeAtStep (by decide +kernel) rfl (by decide +kernel) rfl
    (by decide) (by decide +kernel)
  have hsame : wipeHeldBack = u := Host.Outcome.next.inj ((exec_rowStepEnd_held stepHeld_wipeHeldBack).symm.trans hu)
  rw [← hsame] at hfree
  omega

end Sys2Proof.Machine
end

section
/-! What reports leave of the tiles: entries of the fault log, refusals at egress points, and the end of an operation of a
tile (R46, R60, R222, R434, R448, R727). -/

namespace Sys2Proof.Machine

open Sys2Proof

variable {s u v : State} {l l' : List Nat} {t n st : Nat}

/-! ### States with the same tiles -/

/-- Registers of the tiles and of their calibration (Table CLK-7). -/
abbrev tileReg (a : Nat) : Prop := 0x01000000 ≤ a ∧ a < 0x01200000

/-- Tiles, memory, tags, the count of free values and the tiles' registers but the listed ones are in `u` what they are in
`s`. -/
structure State.KeepsTiles (s u : State) (but : List Nat) : Prop where
  tiles : u.tiles = s.tiles
  mem : u.mem = s.mem
  tags : u.tags = s.tags
  free : u.free = s.free
  regs : ∀ a, tileReg a → a ∉ but → u.reg a = s.reg a

theorem State.KeepsTiles.refl (s : State) (l : List Nat) : s.KeepsTiles s l := ⟨rfl, rfl, rfl, rfl, fun _ _ _ => rfl⟩

theorem State.KeepsTiles.trans (h : s.KeepsTiles u l) (h' : u.KeepsTiles v l) : s.KeepsTiles v l :=
  ⟨h'.tiles.trans h.tiles, h'.mem.trans h.mem, h'.tags.trans h.tags, h'.free.trans h.free,
    fun a ha hl => (h'.regs a ha hl).trans (h.regs a ha hl)⟩

theorem State.KeepsTiles.mono (h : s.KeepsTiles u l) (hl : l ⊆ l') : s.KeepsTiles u l' :=
  ⟨h.tiles, h.mem, h.tags, h.free, fun a ha hn => h.regs a ha fun hm => hn (hl hm)⟩

theorem State.KeepsTiles.tile (h : s.KeepsTiles u l) (t : Nat) : u.tile t = s.tile t := by
  simp only [State.tile, h.tiles]

theorem State.KeepsTiles.fld (h : s.KeepsTiles u l) {f : Fld} (hf : tileReg f.addr) (hl : f.addr ∉ l) : u.fld f = s.fld f := by
  simp only [State.fld, h.regs f.addr hf hl]

/-- A field of a listed register, or of one that belongs to no tile, may change. -/
theorem State.KeepsTiles.setFld (h : s.KeepsTiles u l) {f : Fld} (hf : tileReg f.addr → f.addr ∈ l) (x : Nat) :
    s.KeepsTiles (u.setFld f x) l :=
  ⟨h.tiles, h.mem, h.tags, h.free, fun a ha hl => by
    have hne : a ≠ f.addr := fun he => hl (by rw [he] at ha ⊢; exact hf ha)
    rw [State.reg_setFld_ne _ _ _ _ hne, h.regs a ha hl]⟩

theorem State.KeepsTiles.fire (h : s.KeepsTiles u l) (p : Nat) : s.KeepsTiles (u.fire p) l :=
  ⟨h.tiles, h.mem, h.tags, h.free, h.regs⟩

theorem State.KeepsTiles.ite {b : Prop} [Decidable b] (h : s.KeepsTiles u l) (h' : s.KeepsTiles v l) :
    s.KeepsTiles (if b then u else v) l := by
  split
  · exact h
  · exact h'

theorem tileReg_of_tile {b : Nat} (h1 : 0x01000000 ≤ b) (h2 : b < 0x01010000) (ht : t < 32) : tileReg (b + 0x10000 * t) := by
  omega

/-- Registers of other blocks are none of a tile's. -/
theorem mem_of_not_tileReg {a : Nat} (h : 0x05000000 ≤ a) : tileReg a → a ∈ l := fun ha => by omega

/-! ### Reports to the log, the host and the meter -/

theorem State.KeepsTiles.sendVec (h : s.KeepsTiles u l) (x : Nat) : s.KeepsTiles (u.sendVec x) l := by
  have hpend : ∀ a ∈ [Reg.HST_VPEND0, Reg.HST_VPEND1, Reg.HST_VPEND2], 0x05000000 ≤ a := by decide
  rw [State.sendVec]
  split_ifs
  · exact h
  · exact h.setFld (mem_of_not_tileReg (hpend _ (vpendFld_addr x))) 1
  · exact ⟨h.tiles, h.mem, h.tags, h.free, h.regs⟩
  · exact ⟨h.tiles, h.mem, h.tags, h.free, h.regs⟩

theorem State.KeepsTiles.hostEvent (h : s.KeepsTiles u l) (i : Nat) : s.KeepsTiles (u.hostEvent i) l := by
  have hbit : s.KeepsTiles (u.setFbit ⟨Reg.HST_IRQSTAT, 0, 6⟩ i true) l :=
    h.setFld (f := ⟨Reg.HST_IRQSTAT, 0, 6⟩) (mem_of_not_tileReg (by decide)) _
  exact .ite h (.ite (hbit.sendVec _) hbit)

theorem State.KeepsTiles.logEntry (h : s.KeepsTiles u l) (code unit detail : Nat) :
    s.KeepsTiles (u.logEntry code unit detail) l := by
  have hput (e : LogEntry) :
      s.KeepsTiles (if u.log.length < 32 then { u with log := u.log ++ [e] } else u.incFld F.FLT_LOGCNT_OVF 1) l := by
    split_ifs
    · exact ⟨h.tiles, h.mem, h.tags, h.free, h.regs⟩
    · exact h.setFld (f := F.FLT_LOGCNT_OVF) (mem_of_not_tileReg (by decide)) _
  exact ((hput _).setFld (f := F.FLT_STATUS_LOGANY) (mem_of_not_tileReg (by decide)) 1).hostEvent 3

theorem State.KeepsTiles.raiseD (h : s.KeepsTiles u l) (n : Nat) : s.KeepsTiles (u.raiseD n) l := by
  have hdp := h.setFld (f := ⟨Reg.FLT_DP (n / 12), 2 * (n % 12), 2⟩)
    (mem_of_not_tileReg (by dsimp only [Reg.FLT_DP]; omega)) 1
  have hset : s.KeepsTiles (u.setHealthD n 1) l := .ite hdp ⟨hdp.tiles, hdp.mem, hdp.tags, hdp.free, hdp.regs⟩
  exact .ite (hset.setFld (f := F.FLT_STATUS_DPCHG) (mem_of_not_tileReg (by decide)) 1) h

theorem State.KeepsTiles.fault (h : s.KeepsTiles u l) (code n detail : Nat) (raises : Bool) :
    s.KeepsTiles (u.fault code n detail raises) l :=
  .ite ((h.logEntry code n detail).raiseD n) (h.logEntry code n detail)

theorem State.KeepsTiles.violate (h : s.KeepsTiles u l) : s.KeepsTiles u.violate l := by
  have hcount : s.KeepsTiles (u.incFld F.SEAL_VIOL_COUNT 1) l :=
    h.setFld (f := F.SEAL_VIOL_COUNT) (mem_of_not_tileReg (by decide)) _
  exact .ite ((((hcount.setFld (f := F.SEAL_CTRL_LOCKOUT) (mem_of_not_tileReg (by decide)) 1).fire 61).fault _ _ _ _).hostEvent 2)
    hcount

/-! ### The end of an operation of a tile (R222, R448, Table TILE-6) -/

theorem State.KeepsTiles.longErr (h : s.KeepsTiles u l) (hl : Reg.TILE_ERR t ∈ l) (st : Nat) :
    s.KeepsTiles (u.longErr t st) l := by
  have hbit (i : Nat) : s.KeepsTiles (u.setFld ⟨Reg.TILE_ERR t, i, 1⟩ 1) l := h.setFld (fun _ => hl) 1
  have hegress : s.KeepsTiles ((u.setFld (F.TILE_ERR_SEALSRC t) 1).refuseEgress F.SEAL_EGRCNT2_OTHER) l :=
    ((hbit 3).violate.setFld (f := F.SEAL_STATUS_EGRESS) (mem_of_not_tileReg (by decide)) 1).setFld
      (f := F.SEAL_EGRCNT2_OTHER) (mem_of_not_tileReg (by decide)) _
  exact .ite (hbit 4) (.ite hegress (.ite (hbit 1) (.ite (hbit 2) h)))

theorem State.KeepsTiles.longDone (h : s.KeepsTiles u l) (hl : Reg.TILE_LSTAT t ∈ l) (st : Nat) :
    s.KeepsTiles (u.longDone t st) l := (h.setFld (f := F.TILE_LSTAT_STATUS t) (fun _ => hl) st).fire t

theorem State.KeepsRegs.longDone (h : s.KeepsRegs u l) (hl : Reg.TILE_LSTAT t ∈ l) (st : Nat) :
    s.KeepsRegs (u.longDone t st) l := h.setFld (F.TILE_LSTAT_STATUS t) st hl

theorem State.fld_longDone (s : State) (t : Nat) (h : st < 16) : (s.longDone t st).fld (F.TILE_LSTAT_STATUS t) = st := by
  rw [State.longDone, State.fld_fire, State.fld_setFld _ _ _ (by simp)]
  exact Nat.mod_eq_of_lt h

theorem State.mem_pulses_longDone (s : State) (t st : Nat) : t ∈ (s.longDone t st).pulses :=
  List.mem_append_right _ (List.mem_singleton_self t)

/-- The report to the front end takes its number from the tile and changes the commands the queues hold. -/
theorem State.frontTile_leaves (s : State) (t st : Nat) :
    (s.frontTile t st).tile t = { s.tile t with front := none } ∧ (s.frontTile t st).regs = s.regs ∧
    (s.frontTile t st).pulses = s.pulses := by
  cases h : (s.tile t).front with
  | none =>
    have hsame : s.frontTile t st = s := by simp only [State.frontTile, h]
    rw [hsame, ← h]
    exact ⟨rfl, rfl, rfl⟩
  | some id =>
    have hdone : s.frontTile t st = (s.setTile t { s.tile t with front := none }).unitDone id 4 st false := by
      simp only [State.frontTile, h]
    rw [hdone]
    exact ⟨State.tile_setTile_same _ _ _, rfl, rfl⟩

/-- The end of an operation of tile t as it is reported: its error bit, its status, its producer, the front end. -/
def State.reportEnd (s : State) (t st : Nat) : State := ((s.longErr t st).longDone t st).frontTile t st

theorem State.reportEnd_leaves (s : State) (t : Nat) (h : st < 16) :
    (s.reportEnd t st).fld (F.TILE_LSTAT_STATUS t) = st ∧ (s.reportEnd t st).tile t = { s.tile t with front := none } ∧
    t ∈ (s.reportEnd t st).pulses ∧
    ∀ f : Fld, tileReg f.addr → f.addr ∉ [Reg.TILE_ERR t, Reg.TILE_LSTAT t] → (s.reportEnd t st).fld f = s.fld f := by
  have hkeeps : s.KeepsTiles ((s.longErr t st).longDone t st) [Reg.TILE_ERR t, Reg.TILE_LSTAT t] :=
    ((State.KeepsTiles.refl s _).longErr (by simp) st).longDone (by simp) st
  obtain ⟨htile, hregs, hpulses⟩ := ((s.longErr t st).longDone t st).frontTile_leaves t st
  refine ⟨?_, htile.trans (by rw [hkeeps.tile]), ?_, fun f hf hl => (State.fld_congr _ _ _ hregs).trans (hkeeps.fld hf hl)⟩
  · exact (State.fld_congr _ _ _ hregs).trans (State.fld_longDone _ _ h)
  · exact hpulses ▸ State.mem_pulses_longDone _ _ _

end Sys2Proof.Machine
end

section
/-! Refreshes of a tile (section 09): how one begins, is refused and ends (R307, R309, R310). -/

namespace Sys2Proof.Machine

open Sys2Proof

variable {s : State} {ini : Initiator} {l : LongOp} {t st : Nat}

/-! ### The end of a refresh (R307, R309) -/

/-- RFACT falls, and the generation stays valid where no cell was ambiguous; beside CAL_STAT no register changes. -/
theorem State.refreshOver_leaves (s : State) (t : Nat) :
    (s.refreshOver t).fld (F.CAL_STAT_RFACT t) = 0 ∧
    (s.refreshOver t).tile t = { s.tile t with
      genValid := if s.fld (F.CAL_RFSTAT_AMBIG t) ≠ 0 then false else (s.tile t).genValid } ∧
    (s.refreshOver t).pulses = s.pulses ∧
    ∀ f : Fld, f.addr ≠ Reg.CAL_STAT t → (s.refreshOver t).fld f = s.fld f := by
  have hact : (s.setFld (F.CAL_STAT_RFACT t) 0).fld (F.CAL_STAT_RFACT t) = 0 := State.fld_setFld _ _ _ (by simp)
  have hother (f : Fld) (hf : f.addr ≠ Reg.CAL_STAT t) : (s.setFld (F.CAL_STAT_RFACT t) 0).fld f = s.fld f :=
    s.fld_setFld_addr (F.CAL_STAT_RFACT t) f 0 hf
  rw [State.refreshOver, hother (F.CAL_RFSTAT_AMBIG t) (by simp)]
  split
  · exact ⟨hact, State.tile_setTile_same _ _ _, rfl, hother⟩
  · exact ⟨hact, rfl, rfl, hother⟩

/-- What a refresh that is DONE counts: trips begin anew, and one of the whole tile raises FULLRF. -/
def State.countRefresh (s : State) (t st : Nat) (l : LongOp) : State :=
  let s1 := if st = 2 then s.setFld (F.CAL_STAT_TRIPCNT t) 0 else s
  if st = 2 ∧ l.first = 0 ∧ l.count = 768 ∧ l.mask = 0x3F then s1.incFld (F.CAL_STAT_FULLRF t) 1 else s1

theorem State.countRefresh_leaves (s : State) (t st : Nat) (l : LongOp) :
    (s.countRefresh t st l).fld (F.CAL_STAT_RFACT t) = s.fld (F.CAL_STAT_RFACT t) ∧
    (s.countRefresh t st l).tile t = s.tile t := by
  have htrip : (s.setFld (F.CAL_STAT_TRIPCNT t) 0).fld (F.CAL_STAT_RFACT t) = s.fld (F.CAL_STAT_RFACT t) :=
    State.fld_setFld_bits _ _ _ _ (by simp) rfl (by simp)
  have hfull (u : State) : (u.incFld (F.CAL_STAT_FULLRF t) 1).fld (F.CAL_STAT_RFACT t) = u.fld (F.CAL_STAT_RFACT t) :=
    State.fld_setFld_bits _ _ _ _ (by simp) rfl (by simp)
  rw [State.countRefresh]
  split_ifs
  · exact ⟨(hfull _).trans htrip, rfl⟩
  · exact ⟨hfull _, rfl⟩
  · exact ⟨htrip, rfl⟩
  · exact ⟨rfl, rfl⟩

/-- The entry of the fault log for a row without a spare (R218). -/
def State.logNospare (s : State) (t st : Nat) (l : LongOp) : State :=
  match l.nospare with
  | some r => if st = 6 then s.fault 0x06 t r true else s
  | none => s

theorem State.keepsTiles_logNospare (s : State) (t st : Nat) (l : LongOp) : s.KeepsTiles (s.logNospare t st l) [] := by
  rw [State.logNospare]
  split
  · exact .ite ((State.KeepsTiles.refl s _).fault _ _ _ _) (.refl s _)
  · exact .refl s _

theorem State.endLong_refresh (hl : (s.tile t).long = some l) (hk : l.kind = .refresh) (st : Nat) :
    s.endLong t st = ((((s.setTile t { s.tile t with long := none }).refreshOver t).countRefresh t st l).logNospare
      t st l).reportEnd t st := by
  simp only [State.endLong, hl, hk, reduceCtorEq, false_and, if_false, if_true]
  rfl

theorem State.endLong_refresh_leaves (hl : (s.tile t).long = some l) (hk : l.kind = .refresh) (ht : t < 32) (hst : st < 16) :
    (s.endLong t st).fld (F.TILE_LSTAT_STATUS t) = st ∧ (s.endLong t st).fld (F.CAL_STAT_RFACT t) = 0 ∧
    t ∈ (s.endLong t st).pulses ∧ (s.endLong t st).tile t = { s.tile t with
      long := none, front := none
      genValid := if s.fld (F.CAL_RFSTAT_AMBIG t) ≠ 0 then false else (s.tile t).genValid } := by
  rw [State.endLong_refresh hl hk]
  obtain ⟨hact, htile, -, -⟩ := (s.setTile t { s.tile t with long := none }).refreshOver_leaves t
  rw [State.tile_setTile_same, State.fld_setTile] at htile
  obtain ⟨hcount, hcounttile⟩ := ((s.setTile t { s.tile t with long := none }).refreshOver t).countRefresh_leaves t st l
  have hlog := (((s.setTile t { s.tile t with long := none }).refreshOver t).countRefresh t st l).keepsTiles_logNospare t st l
  obtain ⟨hstatus, hfront, hpulse, hregs⟩ := ((((s.setTile t { s.tile t with long := none }).refreshOver t).countRefresh t st
    l).logNospare t st l).reportEnd_leaves t hst
  have hreg : tileReg (Reg.CAL_STAT t) := tileReg_of_tile (by decide) (by decide) ht
  refine ⟨hstatus, ?_, hpulse, ?_⟩
  · rw [hregs _ hreg (by simp), hlog.fld hreg (by simp), hcount, hact]
  · rw [hfront, hlog.tile, hcounttile, htile]

/-! ### Beginning (R289, R307, R310) -/

theorem becomes_tileRefresh {t : Fin 32} (h : s.Takes ini (Reg.CAL_CMD t)) : Becomes (.tileRefresh ini t) s (s.tileRefresh t) :=
  congrArg ok (s.cmdWrite_takes ini _ _ h)

theorem State.tileRefresh_dark (h : s.domOn (domTQ t) = false) : s.tileRefresh t = s.setFld (F.CAL_STAT_DARK t) 1 := by
  simp [State.tileRefresh, h]

theorem State.tileRefresh_range (hon : s.domOn (domTQ t) = true) (hlong : (s.tile t).long = none)
    (h : 768 < s.fld (F.CAL_RFROWS_FIRST t) + s.fld (F.CAL_RFROWS_COUNT t) ∨ s.fld (F.CAL_RFROWS_COUNT t) = 0 ∨
      (s.fld (F.CAL_RFCFG_GRPMASK t) = 0 ∧ s.fld (F.CAL_RFCFG_BARO t) = 0)) :
    s.tileRefresh t = (s.endEarly t 7).refreshOver t := by
  simp [State.tileRefresh, hon, hlong, State.flag, h]

/-- The refresh of the range that the registers name, before its first row step: on data, or on the barometer group where
no data group is named. -/
def State.refreshOp (s : State) (t : Nat) : LongOp :=
  { kind := .refresh, src := 0, first := s.fld (F.CAL_RFROWS_FIRST t), count := s.fld (F.CAL_RFROWS_COUNT t),
    mask := s.fld (F.CAL_RFCFG_GRPMASK t), stuckok := s.fld (F.TILE_PGMCFG_STUCKOK t), gen := 0,
    baro := s.flag (F.CAL_RFCFG_BARO t), phase := if s.tileComputing t then .between else .step, idx := 0,
    baroNext := s.fld (F.CAL_RFCFG_GRPMASK t) == 0, allow := s.tileWaiting t, nospare := none, abort := false }

/-- A refresh of a range that passes its checks begins, unless its pair's other tile has a long operation. -/
theorem State.tileRefresh_inRange (hon : s.domOn (domTQ t) = true) (hlong : (s.tile t).long = none)
    (hcount : 1 ≤ s.fld (F.CAL_RFROWS_COUNT t)) (hrows : s.fld (F.CAL_RFROWS_FIRST t) + s.fld (F.CAL_RFROWS_COUNT t) ≤ 768)
    (hmask : s.fld (F.CAL_RFCFG_GRPMASK t) ≠ 0 ∨ s.fld (F.CAL_RFCFG_BARO t) = 1) :
    s.tileRefresh t =
      if s.pairOk t && (s.tile (s.fld (F.CAL_PAIR_PARTNER t))).long.isSome then s.setFld (F.CAL_STAT_PAIRBUSY t) 1
      else (((s.setFld (F.CAL_RFSTAT_AMBIG t) 0).setFld (F.CAL_RFSTAT_PULSED t) 0).setFld (F.CAL_STAT_RFACT t) 1).beginLong t
        (s.refreshOp t) := by
  have hrange : ¬ (768 < s.fld (F.CAL_RFROWS_FIRST t) + s.fld (F.CAL_RFROWS_COUNT t) ∨ s.fld (F.CAL_RFROWS_COUNT t) = 0 ∨
      (s.fld (F.CAL_RFCFG_GRPMASK t) = 0 ∧ s.fld (F.CAL_RFCFG_BARO t) = 0)) := by omega
  simp [State.tileRefresh, hon, hlong, State.flag, hrange, State.stepPhase, State.refreshOp]

/-- The start of an operation that ends before any row step: LSTAT's counts begin anew. -/
theorem State.endEarly_leaves (s : State) (t : Nat) (hst : st < 16) :
    (s.endEarly t st).fld (F.TILE_LSTAT_STATUS t) = st ∧ (s.endEarly t st).tile t = { s.tile t with front := none } ∧
    t ∈ (s.endEarly t st).pulses ∧
    ∀ f : Fld, tileReg f.addr → f.addr ∉ [Reg.TILE_ERR t, Reg.TILE_LSTAT t] → (s.endEarly t st).fld f = s.fld f := by
  have hcounts := (((State.KeepsTiles.refl s [Reg.TILE_ERR t, Reg.TILE_LSTAT t]).setFld (f := F.TILE_LSTAT_ROWSDONE t)
    (by simp) 0).setFld (f := F.TILE_LSTAT_SPARENEW t) (by simp) 0).setFld (f := F.TILE_LSTAT_DUP t) (by simp) 0
  have heq : s.endEarly t st = State.reportEnd (((s.setFld (F.TILE_LSTAT_ROWSDONE t) 0).setFld
    (F.TILE_LSTAT_SPARENEW t) 0).setFld (F.TILE_LSTAT_DUP t) 0) t st := rfl
  rw [heq]
  obtain ⟨hstatus, htile, hpulse, hregs⟩ := State.reportEnd_leaves (((s.setFld (F.TILE_LSTAT_ROWSDONE t) 0).setFld
    (F.TILE_LSTAT_SPARENEW t) 0).setFld (F.TILE_LSTAT_DUP t) 0) t hst
  exact ⟨hstatus, htile.trans (by rw [hcounts.tile]), hpulse, fun f hf hl => (hregs f hf hl).trans (hcounts.fld hf hl)⟩

/-- A refresh refused for its range ends as one that ran does: with its status, RFACT at 0, and no valid generation where the
last refresh left ambiguous cells. -/
theorem State.refreshRefused_leaves (s : State) (ht : t < 32) :
    ((s.endEarly t 7).refreshOver t).fld (F.TILE_LSTAT_STATUS t) = 7 ∧
    ((s.endEarly t 7).refreshOver t).fld (F.CAL_STAT_RFACT t) = 0 ∧ t ∈ ((s.endEarly t 7).refreshOver t).pulses ∧
    ((s.endEarly t 7).refreshOver t).tile t = { s.tile t with
      front := none
      genValid := if s.fld (F.CAL_RFSTAT_AMBIG t) ≠ 0 then false else (s.tile t).genValid } := by
  obtain ⟨hstatus, htile, hpulse, hregs⟩ := s.endEarly_leaves t (show 7 < 16 by decide)
  obtain ⟨hact, hover, hpulses, hother⟩ := (s.endEarly t 7).refreshOver_leaves t
  rw [htile, hregs (F.CAL_RFSTAT_AMBIG t) (tileReg_of_tile (by decide) (by decide) ht) (by simp)] at hover
  exact ⟨(hother _ (by simp)).trans hstatus, hact, hpulses ▸ hpulse, hover⟩

end Sys2Proof.Machine
end

section
/-! Barometer checks of a tile (sections 07 and 09): how one begins and what its end records and compares (R225, R302,
R303). -/

namespace Sys2Proof.Machine

open Sys2Proof

variable {s : State} {ini : Initiator} {k : Check} {codes : List (Int × Bool)} {t : Nat}

/-! ### Beginning (R225, R234) -/

/-- Nothing but registers and tiles differs between `s` and `u`. -/
def State.OnlyTileRegs (s u : State) : Prop := u = { s with regs := u.regs, tiles := u.tiles }

theorem State.OnlyTileRegs.refl (s : State) : s.OnlyTileRegs s := rfl

theorem State.OnlyTileRegs.setFld {u : State} (h : s.OnlyTileRegs u) (f : Fld) (x : Nat) : s.OnlyTileRegs (u.setFld f x) := by
  rw [State.OnlyTileRegs] at h ⊢
  rw [h]
  rfl

theorem State.OnlyTileRegs.setTile {u : State} (h : s.OnlyTileRegs u) (n : Nat) (x : Tile) : s.OnlyTileRegs (u.setTile n x) := by
  rw [State.OnlyTileRegs] at h ⊢
  rw [h]
  rfl

theorem State.onlyTileRegs_zeroAcc (s : State) (t : Nat) : s.OnlyTileRegs (s.zeroAcc t) :=
  (((State.OnlyTileRegs.refl s).setFld _ _).setFld _ _).setTile _ _

theorem becomes_barometerCheck {t : Fin 32} (h : s.Takes ini (Reg.TILE_CMD t)) :
    Becomes (.barometerCheck ini t) s (s.tileCheck t false) := by
  have hseal : s.sealedIni ini = false := h.2.1
  have hwrite := s.cmdWrite_takes ini _ (fun s => s.tileCheck t (s.sealedIni ini)) h
  rw [hseal] at hwrite
  exact congrArg ok hwrite

theorem State.tileCheck_busy (h : s.tileState t ≠ 0 ∨ s.tileDepth t ≠ 0) (b : Bool) :
    s.tileCheck t b = s.setFld (F.TILE_ERR_BUSY t) 1 := if_pos h

theorem State.tileCheck_idle (hstate : s.tileState t = 0) (hdepth : s.tileDepth t = 0) (b : Bool) :
    s.tileCheck t b = (s.zeroAcc t).setTile t { s.tile t with
      acc := [], sealedFlag := b, trims := s.trimBytes t
      check := some { trim := false, sealedIn := b, bexp0 := s.fld (F.CAL_BEXP0_B0_B3 t),
                      bexp1 := s.fld (F.CAL_BEXP1_B4_B7 t) } } := by
  rw [State.tileCheck, if_neg (by simp [hstate, hdepth])]
  dsimp only
  rw [s.tile_zeroAcc]

theorem State.tileCheck_leaves (hstate : s.tileState t = 0) (hdepth : s.tileDepth t = 0) (b : Bool) :
    let u := s.tileCheck t b
    u.tile t = { s.tile t with
      acc := [], sealedFlag := b, trims := s.trimBytes t
      check := some { trim := false, sealedIn := b, bexp0 := s.fld (F.CAL_BEXP0_B0_B3 t),
                      bexp1 := s.fld (F.CAL_BEXP1_B4_B7 t) } } ∧
    u.fld (F.TILE_CLIP_COUNT t) = 0 ∧ u.fld (F.TILE_CLIP_GRP t) = 0 ∧ s.KeepsRegs u [Reg.TILE_CLIP t] ∧
    u = { s with regs := u.regs, tiles := u.tiles } := by
  obtain ⟨hcount, hgrp⟩ := s.clip_zeroAcc t
  obtain ⟨-, -, -, hregs⟩ := s.zeroAcc_frame t
  dsimp only
  rw [State.tileCheck_idle hstate hdepth, State.tile_setTile_same, State.fld_setTile, State.fld_setTile]
  exact ⟨rfl, hcount, hgrp, hregs.setTile _ _, (s.onlyTileRegs_zeroAcc t).setTile _ _⟩

/-! ### Results (Table TILE-10) -/

theorem baroBits_lt (r : Int × Bool) : baroBits r < 64 := by
  have hclip : b2n r.2 ≤ 1 := by cases r.2 <;> decide
  rw [baroBits, unsigned]
  omega

/-- Results of columns side by side, six bits each. -/
def baroPack (l : List (Int × Bool)) : Nat := (l.zipIdx.map fun c => baroBits c.1 * 64 ^ c.2).sum

theorem baroPack_eq (l : List (Int × Bool)) : baroPack l = Nat.ofDigits 64 (l.map baroBits) := by
  rw [Nat.ofDigits_eq_sum_mapIdx, List.mapIdx_eq_zipIdx_map, List.zipIdx_map, List.map_map]
  rfl

theorem baroPack_four (a b c d : Int × Bool) :
    baroPack [a, b, c, d] = baroBits a + 64 * (baroBits b + 64 * (baroBits c + 64 * baroBits d)) := by
  simp only [baroPack_eq, List.map_cons, List.map_nil, Nat.ofDigits_cons, Nat.ofDigits_nil, Nat.mul_zero, Nat.add_zero]

theorem bitsOf_baroPack (f : Nat → Int × Bool) {i : Nat} (hi : i < 4) :
    bitsOf (baroPack [f 0, f 1, f 2, f 3] % 2 ^ 24) (6 * i) 6 = baroBits (f i) := by
  have h0 := baroBits_lt (f 0)
  have h1 := baroBits_lt (f 1)
  have h2 := baroBits_lt (f 2)
  have h3 := baroBits_lt (f 3)
  rw [baroPack_four, Nat.mod_eq_of_lt (by omega), bitsOf]
  interval_cases i <;> omega

/-- The registers at the end of a check: its eight results, and its clips counted. -/
def State.checkRecord (s : State) (t : Nat) (codes : List (Int × Bool)) : State :=
  ((s.setFld (F.TILE_BRES0_B0_B3 t) (baroPack (codes.take 4))).setFld (F.TILE_BRES1_B4_B7 t)
    (baroPack (codes.drop 4))).incFld (F.TILE_CLIP_COUNT t) (codes.filter (·.2)).length

/-- The eight codes of a check. -/
def State.baroCodes (s : State) (t : Nat) : List (Int × Bool) := (List.range 8).map (s.baroCode t)

/-- No check in progress, and its free value drawn. -/
def State.withoutCheck (s : State) (t : Nat) : State := (s.setTile t { s.tile t with check := none }).drawn

/-- The tile once its check is over, with its results recorded. -/
def State.checkOver (s : State) (t : Nat) : State := (s.checkRecord t (s.baroCodes t)).withoutCheck t

theorem State.checkEnd_eq (hk : (s.tile t).check = some k) (htrim : k.trim = false) :
    s.checkEnd t =
      (if k.sealedIn then s.checkOver t else (s.checkOver t).compareCheck t k (s.baroCodes t)).longDone t 2 := by
  simp only [State.checkEnd, hk, htrim]
  rfl

/-- Each column's six bits of BRES0-1 are those of its conversion. -/
def State.ShowsCodes (s u : State) (t : Nat) : Prop :=
  ∀ i, i < 4 → bitsOf (u.fld (F.TILE_BRES0_B0_B3 t)) (6 * i) 6 = baroBits (s.baroCode t i) ∧
    bitsOf (u.fld (F.TILE_BRES1_B4_B7 t)) (6 * i) 6 = baroBits (s.baroCode t (4 + i))

theorem State.showsCodes_checkRecord (s : State) (t : Nat) : s.ShowsCodes (s.checkRecord t (s.baroCodes t)) t := by
  intro i hi
  have h0 : (s.checkRecord t (s.baroCodes t)).fld (F.TILE_BRES0_B0_B3 t) =
      baroPack ((s.baroCodes t).take 4) % 2 ^ 24 := by
    rw [State.checkRecord, State.incFld, State.fld_setFld_addr _ _ _ _ (by simp), State.fld_setFld_addr _ _ _ _ (by simp),
      State.fld_setFld _ _ _ (by simp)]
  have h1 : (s.checkRecord t (s.baroCodes t)).fld (F.TILE_BRES1_B4_B7 t) =
      baroPack ((s.baroCodes t).drop 4) % 2 ^ 24 := by
    rw [State.checkRecord, State.incFld, State.fld_setFld_addr _ _ _ _ (by simp), State.fld_setFld _ _ _ (by simp)]
  rw [h0, h1]
  exact ⟨bitsOf_baroPack (s.baroCode t) hi, bitsOf_baroPack (fun i => s.baroCode t (4 + i)) hi⟩

theorem State.onlyRegs_checkRecord (s : State) (t : Nat) (codes : List (Int × Bool)) :
    s.OnlyRegs (s.checkRecord t codes) [Reg.TILE_BRES0 t, Reg.TILE_BRES1 t, Reg.TILE_CLIP t, Reg.TILE_LSTAT t] :=
  (((State.OnlyRegs.refl _).setFld _ _ (by simp)).setFld _ _ (by simp)).incFld _ _ (by simp)

/-! ### Comparison (R302, R303) -/

/-- The registers that show how far the columns lie from what was expected, one more check counted. -/
def State.devRecord (s : State) (t : Nat) (devs : List (Nat × Nat × Bool)) : State :=
  let worst := devs.foldl (fun a d => if d.2.1 > a.2 then (d.1, d.2.1) else a) (0, 0)
  (((s.setFld (F.CAL_LASTDEV_MAXDEV t) worst.2).setFld (F.CAL_LASTDEV_COL t) worst.1).setFld
    (F.CAL_LASTDEV_CLIP t) (b2n (devs.any (·.2.2)))).setFld (F.CAL_CHKCNT_COUNT t) (s.fld (F.CAL_CHKCNT_COUNT t) + 1)

/-- That record, with WARN where a column lies WARN codes away. -/
def State.compared (s : State) (t : Nat) (devs : List (Nat × Nat × Bool)) : State :=
  let u := s.devRecord t devs
  if devs.any fun d => decide (u.fld (F.CAL_THR_WARN t) ≤ d.2.1) then u.setFld (F.CAL_STAT_WARN t) 1 else u

/-- Registers that a comparison may change beside the log's. -/
def compareRegs (t : Nat) : List Nat := [Reg.CAL_LASTDEV t, Reg.CAL_CHKCNT t, Reg.CAL_STAT t]

theorem State.onlyRegs_devRecord (s : State) (t : Nat) (devs : List (Nat × Nat × Bool)) :
    s.OnlyRegs (s.devRecord t devs) (compareRegs t) :=
  ((((State.OnlyRegs.refl _).setFld _ _ (by simp [compareRegs])).setFld _ _ (by simp [compareRegs])).setFld _ _
    (by simp [compareRegs])).setFld _ _ (by simp [compareRegs])

theorem State.onlyRegs_compared (s : State) (t : Nat) (devs : List (Nat × Nat × Bool)) :
    s.OnlyRegs (s.compared t devs) (compareRegs t) := by
  rw [State.compared]
  split
  · exact (s.onlyRegs_devRecord t devs).setFld _ _ (by simp [compareRegs])
  · exact s.onlyRegs_devRecord t devs

/-- The check is counted; TRIP and TRIPCNT stand. -/
theorem State.fld_compared (s : State) (t : Nat) (devs : List (Nat × Nat × Bool)) :
    (s.compared t devs).fld (F.CAL_CHKCNT_COUNT t) = (s.fld (F.CAL_CHKCNT_COUNT t) + 1) % 2 ^ 24 ∧
    (s.compared t devs).fld (F.CAL_STAT_TRIP t) = s.fld (F.CAL_STAT_TRIP t) ∧
    (s.compared t devs).fld (F.CAL_STAT_TRIPCNT t) = s.fld (F.CAL_STAT_TRIPCNT t) := by
  have hcount : (s.devRecord t devs).fld (F.CAL_CHKCNT_COUNT t) = (s.fld (F.CAL_CHKCNT_COUNT t) + 1) % 2 ^ 24 :=
    State.fld_setFld _ _ _ (by simp)
  have hstat (f : Fld) (hf : f.addr = Reg.CAL_STAT t) : (s.devRecord t devs).fld f = s.fld f := by
    rw [State.devRecord, State.fld_setFld_addr _ _ _ _ (by simp [hf]), State.fld_setFld_addr _ _ _ _ (by simp [hf]),
      State.fld_setFld_addr _ _ _ _ (by simp [hf]), State.fld_setFld_addr _ _ _ _ (by simp [hf])]
  have hwarn (u : State) : (u.setFld (F.CAL_STAT_WARN t) 1).fld (F.CAL_CHKCNT_COUNT t) = u.fld (F.CAL_CHKCNT_COUNT t) ∧
      (u.setFld (F.CAL_STAT_WARN t) 1).fld (F.CAL_STAT_TRIP t) = u.fld (F.CAL_STAT_TRIP t) ∧
      (u.setFld (F.CAL_STAT_WARN t) 1).fld (F.CAL_STAT_TRIPCNT t) = u.fld (F.CAL_STAT_TRIPCNT t) :=
    ⟨State.fld_setFld_addr _ _ _ _ (by simp), State.fld_setFld_bits _ _ _ _ (by simp) rfl (by simp),
      State.fld_setFld_bits _ _ _ _ (by simp) rfl (by simp)⟩
  rw [← hcount, ← hstat (F.CAL_STAT_TRIP t) rfl, ← hstat (F.CAL_STAT_TRIPCNT t) rfl, State.compared]
  split
  · exact hwarn _
  · exact ⟨rfl, rfl, rfl⟩

/-- A column clips, or lies TRIP codes away. -/
def State.trips (s : State) (t : Nat) (devs : List (Nat × Nat × Bool)) : Bool :=
  devs.any (·.2.2) || devs.any fun d => decide (s.fld (F.CAL_THR_TRIP t) ≤ d.2.1)

theorem State.trips_iff (s : State) (t : Nat) (devs : List (Nat × Nat × Bool)) : s.trips t devs = true ↔
    devs.any (·.2.2) = true ∨ devs.any (fun d => decide (s.fld (F.CAL_THR_TRIP t) ≤ d.2.1)) = true := by
  rw [State.trips, Bool.or_eq_true]

theorem State.trips_eq_false {devs : List (Nat × Nat × Bool)} (hclip : devs.any (·.2.2) = false)
    (hdev : devs.any (fun d => decide (s.fld (F.CAL_THR_TRIP t) ≤ d.2.1)) = false) : s.trips t devs = false := by
  rw [State.trips, hclip, hdev]
  rfl

/-- TRIP set, logged and announced. -/
def State.tripped (s : State) (t : Nat) : State :=
  let s1 := (s.setFld (F.CAL_STAT_TRIP t) 1).setFld (F.CAL_STAT_TRIPCNT t) 0
  (s1.fault 0x04 t (bitsOf (s1.reg (Reg.CAL_LASTDEV t)).toNat 0 9) true).fire (44 + t / 8)

theorem State.compareCheck_eq (s : State) (t : Nat) (k : Check) (codes : List (Int × Bool)) :
    let devs := baroDevs k.bexp0 k.bexp1 codes
    let u := s.compared t devs
    s.compareCheck t k codes =
      if !s.trips t devs then u.setFld (F.CAL_STAT_TRIPCNT t) 0
      else if s.fld (F.CAL_THR_TRIPN t) = 0 then u
      else if s.fld (F.CAL_STAT_TRIPCNT t) + 1 < s.fld (F.CAL_THR_TRIPN t) then u.incFld (F.CAL_STAT_TRIPCNT t) 1
      else u.tripped t := by
  intro devs u
  have hrecord : (s.devRecord t devs).trips t devs = s.trips t devs := by
    rw [State.trips, State.trips, (s.onlyRegs_devRecord t devs).2.fld (f := F.CAL_THR_TRIP t) (by simp [compareRegs])]
  have htripn : u.fld (F.CAL_THR_TRIPN t) = s.fld (F.CAL_THR_TRIPN t) :=
    (s.onlyRegs_compared t devs).2.fld (by simp [compareRegs])
  rw [← hrecord, ← htripn, ← (s.fld_compared t devs).2.2]
  rfl

theorem State.compareCheck_quiet (h : s.trips t (baroDevs k.bexp0 k.bexp1 codes) = false) :
    s.compareCheck t k codes = (s.compared t (baroDevs k.bexp0 k.bexp1 codes)).setFld (F.CAL_STAT_TRIPCNT t) 0 := by
  rw [State.compareCheck_eq, h]
  rfl

theorem State.compareCheck_trips (h : s.trips t (baroDevs k.bexp0 k.bexp1 codes) = true) (hn : s.fld (F.CAL_THR_TRIPN t) ≠ 0)
    (hcnt : s.fld (F.CAL_THR_TRIPN t) ≤ s.fld (F.CAL_STAT_TRIPCNT t) + 1) :
    s.compareCheck t k codes = (s.compared t (baroDevs k.bexp0 k.bexp1 codes)).tripped t := by
  rw [State.compareCheck_eq, h, if_neg (by simp), if_neg hn, if_neg (by omega)]

theorem State.keepsTiles_tripped (s : State) (t : Nat) : s.KeepsTiles (s.tripped t) [Reg.CAL_STAT t] :=
  ((((State.KeepsTiles.refl s _).setFld (f := F.CAL_STAT_TRIP t) (by simp) 1).setFld (f := F.CAL_STAT_TRIPCNT t) (by simp)
    0).fault _ _ _ _).fire _

theorem State.fld_tripped (s : State) (ht : t < 32) :
    (s.tripped t).fld (F.CAL_STAT_TRIP t) = 1 ∧ (s.tripped t).fld (F.CAL_STAT_TRIPCNT t) = 0 := by
  have hlog (u : State) (detail : Nat) : u.KeepsTiles ((u.fault 0x04 t detail true).fire (44 + t / 8)) [] :=
    ((State.KeepsTiles.refl u _).fault _ _ _ _).fire _
  have hreg : tileReg (Reg.CAL_STAT t) := tileReg_of_tile (by decide) (by decide) ht
  refine ⟨((hlog _ _).fld hreg (by simp)).trans ?_, ((hlog _ _).fld hreg (by simp)).trans ?_⟩
  · rw [State.fld_setFld_bits _ (F.CAL_STAT_TRIPCNT t) (F.CAL_STAT_TRIP t) 0 (by simp) rfl (by simp)]
    exact State.fld_setFld _ _ _ (by simp)
  · exact State.fld_setFld _ _ _ (by simp)

/-- Whatever the comparison finds, what it leaves differs from its record in CAL_STAT and the log alone. -/
theorem State.keepsTiles_compareCheck (s : State) (t : Nat) (k : Check) (codes : List (Int × Bool)) :
    (s.compared t (baroDevs k.bexp0 k.bexp1 codes)).KeepsTiles (s.compareCheck t k codes) [Reg.CAL_STAT t] := by
  rw [State.compareCheck_eq]
  exact .ite ((State.KeepsTiles.refl _ _).setFld (by simp) 0) (.ite (.refl _ _)
    (.ite ((State.KeepsTiles.refl _ _).setFld (by simp) _) (State.keepsTiles_tripped _ t)))

theorem State.OnlyRegs.keepsTiles {u : State} {l : List Nat} (h : s.OnlyRegs u l) : s.KeepsTiles u l :=
  ⟨by rw [h.1], h.mem, h.tags, by rw [h.1], fun a _ ha => h.2 a ha⟩

/-! ### The end of a check (R222, R225) -/

theorem State.withoutCheck_leaves (s : State) (t : Nat) :
    (s.withoutCheck t).tile t = { s.tile t with check := none } ∧ (s.withoutCheck t).free = s.free + 1 ∧
    (s.withoutCheck t).mem = s.mem ∧ (s.withoutCheck t).tags = s.tags ∧ (s.withoutCheck t).regs = s.regs :=
  ⟨State.tile_setTile_same _ _ _, rfl, rfl, rfl, rfl⟩

theorem State.checkOver_leaves (s : State) (t : Nat) :
    (s.checkOver t).tile t = { s.tile t with check := none } ∧ (s.checkOver t).free = s.free + 1 ∧
    (s.checkOver t).mem = s.mem ∧ (s.checkOver t).tags = s.tags ∧ s.ShowsCodes (s.checkOver t) t ∧
    s.KeepsRegs (s.checkOver t) [Reg.TILE_BRES0 t, Reg.TILE_BRES1 t, Reg.TILE_CLIP t, Reg.TILE_LSTAT t] := by
  have hrecord := s.onlyRegs_checkRecord t (s.baroCodes t)
  obtain ⟨htile, hfree, hmem, htags, hregs⟩ := (s.checkRecord t (s.baroCodes t)).withoutCheck_leaves t
  refine ⟨htile.trans (by rw [hrecord.tile]), hfree.trans (by rw [hrecord.keepsTiles.free]), hmem.trans hrecord.mem,
    htags.trans hrecord.tags, fun i hi => ?_, fun a ha => ?_⟩
  · rw [State.checkOver, State.fld_congr _ _ _ hregs, State.fld_congr _ _ _ hregs]
    exact s.showsCodes_checkRecord t i hi
  · rw [State.checkOver, State.reg, hregs]
    exact hrecord.2 a ha

/-- A state whose tiles are those of another shows the same results. -/
theorem State.ShowsCodes.keepsTiles {u v : State} {l : List Nat} (h : s.ShowsCodes u t) (hk : u.KeepsTiles v l) (ht : t < 32)
    (h0 : Reg.TILE_BRES0 t ∉ l) (h1 : Reg.TILE_BRES1 t ∉ l) : s.ShowsCodes v t := fun i hi => by
  rw [hk.fld (f := F.TILE_BRES0_B0_B3 t) (tileReg_of_tile (by decide) (by decide) ht) h0,
    hk.fld (f := F.TILE_BRES1_B4_B7 t) (tileReg_of_tile (by decide) (by decide) ht) h1]
  exact h i hi

/-- What the report of a check's or sweep's end adds. -/
theorem State.longDone_leaves (s : State) (t : Nat) : (s.longDone t 2).fld (F.TILE_LSTAT_STATUS t) = 2 ∧
    t ∈ (s.longDone t 2).pulses ∧ s.KeepsTiles (s.longDone t 2) [Reg.TILE_LSTAT t] :=
  ⟨s.fld_longDone t (by decide), s.mem_pulses_longDone t 2, (State.KeepsTiles.refl s _).longDone (by simp) 2⟩

/-- The end of a check, sealed or not: what both leave. -/
theorem State.checkEnd_leaves (hk : (s.tile t).check = some k) (htrim : k.trim = false) (ht : t < 32) :
    ((s.checkEnd t).tile t).check = none ∧ (s.checkEnd t).free = s.free + 1 ∧ (s.checkEnd t).mem = s.mem ∧
    (s.checkEnd t).tags = s.tags ∧ s.ShowsCodes (s.checkEnd t) t ∧ (s.checkEnd t).fld (F.TILE_LSTAT_STATUS t) = 2 ∧
    t ∈ (s.checkEnd t).pulses ∧ ((s.checkEnd t).tile t).cells = (s.tile t).cells ∧
    ((s.checkEnd t).tile t).genValid = (s.tile t).genValid := by
  obtain ⟨htile, hfree, hmem, htags, hshows, -⟩ := s.checkOver_leaves t
  have hcompare : (s.checkOver t).KeepsTiles
      (if k.sealedIn then s.checkOver t else (s.checkOver t).compareCheck t k (s.baroCodes t)) (compareRegs t) :=
    .ite (.refl _ _) (((s.checkOver t).onlyRegs_compared t _).keepsTiles.trans
      (((s.checkOver t).keepsTiles_compareCheck t k _).mono (by simp [compareRegs])))
  rw [State.checkEnd_eq hk htrim]
  generalize (if k.sealedIn then s.checkOver t else (s.checkOver t).compareCheck t k (s.baroCodes t)) = u at hcompare
  obtain ⟨hstatus, hpulse, hdone⟩ := u.longDone_leaves t
  have hshown := (hshows.keepsTiles hcompare ht (by simp [compareRegs]) (by simp [compareRegs])).keepsTiles hdone ht
    (by simp) (by simp)
  rw [hdone.tile, hcompare.tile, htile]
  exact ⟨rfl, hdone.free.trans (hcompare.free.trans hfree), hdone.mem.trans (hcompare.mem.trans hmem),
    hdone.tags.trans (hcompare.tags.trans htags), hshown, hstatus, hpulse, rfl, rfl⟩

/-- A check begun under issue seal compares nothing: no register changes but those of its results and its status. -/
theorem State.keepsRegs_checkEnd_sealed (hk : (s.tile t).check = some k) (htrim : k.trim = false) (hseal : k.sealedIn = true) :
    s.KeepsRegs (s.checkEnd t) [Reg.TILE_BRES0 t, Reg.TILE_BRES1 t, Reg.TILE_CLIP t, Reg.TILE_LSTAT t] := by
  obtain ⟨-, -, -, -, -, hregs⟩ := s.checkOver_leaves t
  rw [State.checkEnd_eq hk htrim, if_pos hseal]
  exact hregs.longDone (by simp) 2

/-- An open check is counted. -/
theorem State.chkcnt_checkEnd (hk : (s.tile t).check = some k) (htrim : k.trim = false) (hopen : k.sealedIn = false)
    (ht : t < 32) :
    (s.checkEnd t).fld (F.CAL_CHKCNT_COUNT t) = (s.fld (F.CAL_CHKCNT_COUNT t) + 1) % 2 ^ 24 := by
  obtain ⟨-, -, -, -, -, hregs⟩ := s.checkOver_leaves t
  have hreg : tileReg (Reg.CAL_CHKCNT t) := tileReg_of_tile (by decide) (by decide) ht
  obtain ⟨hcount, -, -⟩ := (s.checkOver t).fld_compared t (baroDevs k.bexp0 k.bexp1 (s.baroCodes t))
  obtain ⟨-, -, hdone⟩ := ((s.checkOver t).compareCheck t k (s.baroCodes t)).longDone_leaves t
  rw [State.checkEnd_eq hk htrim, hopen, if_neg (by simp), hdone.fld hreg (by simp),
    ((s.checkOver t).keepsTiles_compareCheck t k _).fld hreg (by simp), hcount, hregs.fld (by simp)]

end Sys2Proof.Machine
end

section
/-! Trim sweeps of a tile (section 09): how one begins, and the trim bytes its end leaves (R289, R298, R300, R301). -/

namespace Sys2Proof.Machine

open Sys2Proof

variable {s : State} {ini : Initiator} {k : Check} {t : Nat}

/-! ### Beginning (R289, R300) -/

theorem becomes_trimSweep {t : Fin 32} (h : s.Takes ini (Reg.CAL_CMD t)) : Becomes (.trimSweep ini t) s (s.trimSweep t) :=
  congrArg ok (s.cmdWrite_takes ini _ _ h)

theorem State.trimSweep_dark (h : s.domOn (domTQ t) = false) : s.trimSweep t = s.setFld (F.CAL_STAT_DARK t) 1 := by
  simp [State.trimSweep, h]

theorem State.trimSweep_busy (hon : s.domOn (domTQ t) = true) (h : s.tileState t ≠ 0 ∨ s.tileDepth t ≠ 0) :
    s.trimSweep t = s.setFld (F.TILE_ERR_BUSY t) 1 := by
  rw [State.trimSweep, if_neg (by simp [hon]), if_pos h, State.tileRefuse]

theorem State.trimSweep_idle (hon : s.domOn (domTQ t) = true) (hstate : s.tileState t = 0) (hdepth : s.tileDepth t = 0) :
    s.trimSweep t = ((s.zeroAcc t).setFld (F.CAL_SWEEP_FAIL t) 0).setTile t { s.tile t with
      acc := [], trims := s.trimBytes t, check := some { trim := true, sealedIn := false, bexp0 := 0, bexp1 := 0 } } := by
  rw [State.trimSweep, if_neg (by simp [hon]), if_neg (by simp [hstate, hdepth])]
  dsimp only
  rw [State.tile_setFld, s.tile_zeroAcc]

theorem State.trimSweep_leaves (hon : s.domOn (domTQ t) = true) (hstate : s.tileState t = 0) (hdepth : s.tileDepth t = 0) :
    let u := s.trimSweep t
    u.tile t = { s.tile t with
      acc := [], trims := s.trimBytes t, check := some { trim := true, sealedIn := false, bexp0 := 0, bexp1 := 0 } } ∧
    u.fld (F.CAL_SWEEP_FAIL t) = 0 ∧ u.fld (F.TILE_CLIP_COUNT t) = 0 ∧ u.fld (F.TILE_CLIP_GRP t) = 0 ∧
    s.KeepsRegs u [Reg.TILE_CLIP t, Reg.CAL_SWEEP t] ∧ u = { s with regs := u.regs, tiles := u.tiles } := by
  obtain ⟨hcount, hgrp⟩ := s.clip_zeroAcc t
  obtain ⟨-, -, -, hregs⟩ := s.zeroAcc_frame t
  have hregs : s.KeepsRegs (s.zeroAcc t) [Reg.TILE_CLIP t, Reg.CAL_SWEEP t] := fun a ha => hregs a fun h => ha (by simp_all)
  have hclip (f : Fld) (hf : f.addr ≠ Reg.CAL_SWEEP t) :
      ((s.zeroAcc t).setFld (F.CAL_SWEEP_FAIL t) 0).fld f = (s.zeroAcc t).fld f :=
    State.fld_setFld_addr _ (F.CAL_SWEEP_FAIL t) f 0 hf
  dsimp only
  rw [State.trimSweep_idle hon hstate hdepth, State.tile_setTile_same, State.fld_setTile, State.fld_setTile, State.fld_setTile]
  refine ⟨rfl, State.fld_setFld _ _ _ (by simp), ?_, ?_, (hregs.setFld _ 0 (by simp)).setTile _ _, 
    ((s.onlyTileRegs_zeroAcc t).setFld _ _).setTile _ _⟩
  · rw [hclip _ (by simp), hcount]
  · rw [hclip _ (by simp), hgrp]

/-! ### The columns of a sweep (R298, R300) -/

/-- The byte the sweep finds for column j, if the column passes. -/
def State.sweptByte (s : State) (t j : Nat) : Option Nat :=
  (s.noise t).sweep (s.trimSet t) t j s.free ((s.tile t).trims.getD j 0)

theorem trimByte_lt (ofs gn : Int) : trimByte ofs gn < 256 := by
  rw [trimByte, unsigned, unsigned]
  omega

theorem Noise.sweep_lt {n : Noise} {ts : TrimSet} {col draw old b : Nat} (h : n.sweep ts t col draw old = some b) : b < 256 := by
  unfold Noise.sweep at h
  extract_lets code at h
  split at h
  · cases h
  · obtain ⟨gn, -, rfl⟩ := Option.map_eq_some_iff.mp h
    exact trimByte_lt _ _

theorem trimFld_addr (ht : t < 32) {j : Nat} (hj : j < 392) :
    tileReg (trimFld t j).addr ∧ (trimFld t j).addr ≠ Reg.TILE_LSTAT t ∧ (trimFld t j).addr ≠ Reg.CAL_STAT t := by
  dsimp only [trimFld, tileReg, Reg.CAL_TRIM, Reg.TILE_LSTAT, Reg.CAL_STAT]
  omega

/-- Trim bytes of different columns share no bit. -/
theorem State.fld_setFld_trim (s : State) (t : Nat) {i j : Nat} (h : j ≠ i) (b : Nat) :
    (s.setFld (trimFld t i) b).fld (trimFld t j) = s.fld (trimFld t j) := by
  by_cases hreg : j / 3 = i / 3
  · refine State.fld_setFld_bits _ _ _ _ ?_ (by simp [trimFld, hreg]) ?_
    · dsimp only [trimFld]
      omega
    · dsimp only [trimFld]
      omega
  · refine State.fld_setFld_addr _ _ _ _ ?_
    dsimp only [trimFld, Reg.CAL_TRIM]
    omega

theorem State.sweepColumn_eq (s : State) (t : Nat) (a : State) (j : Nat) :
    s.sweepColumn t a j = match s.sweptByte t j with
      | some b => a.setFld (trimFld t j) b
      | none => a.incFld (F.CAL_SWEEP_FAIL t) 1 := by
  unfold State.sweepColumn State.sweptByte
  rfl

theorem State.fld_sweepColumn (s : State) (t : Nat) (a : State) (i j : Nat) :
    (s.sweepColumn t a i).fld (trimFld t j) =
      if j = i then (s.sweptByte t j).getD (a.fld (trimFld t j)) else a.fld (trimFld t j) := by
  have hfail : (a.incFld (F.CAL_SWEEP_FAIL t) 1).fld (trimFld t j) = a.fld (trimFld t j) := by
    refine State.fld_setFld_addr _ _ _ _ ?_
    dsimp only [trimFld, Reg.CAL_TRIM, Reg.CAL_SWEEP]
    omega
  rw [s.sweepColumn_eq]
  by_cases h : j = i
  · subst h
    rw [if_pos rfl]
    cases hb : s.sweptByte t j with
    | none => exact hfail
    | some b =>
      refine (State.fld_setFld _ _ _ ?_).trans (Nat.mod_eq_of_lt (Noise.sweep_lt hb))
      dsimp only [trimFld]
      omega
  · rw [if_neg h]
    cases s.sweptByte t i with
    | none => exact hfail
    | some b => exact State.fld_setFld_trim _ _ h b

theorem State.fld_sweepColumns (s : State) (t j : Nat) {l : List Nat} (hl : l.Nodup) (a : State) :
    (l.foldl (s.sweepColumn t) a).fld (trimFld t j) =
      if j ∈ l then (s.sweptByte t j).getD (a.fld (trimFld t j)) else a.fld (trimFld t j) := by
  induction l generalizing a with
  | nil => rfl
  | cons i l ih =>
    obtain ⟨hi, hnodup⟩ := List.nodup_cons.mp hl
    rw [List.foldl_cons, ih hnodup, s.fld_sweepColumn]
    by_cases h : j = i
    · subst h
      simp [hi]
    · simp [h]

theorem State.sweepColumn_leaves (s : State) (t : Nat) (a : State) (j : Nat) :
    (s.sweepColumn t a j).tiles = a.tiles ∧ (s.sweepColumn t a j).mem = a.mem ∧ (s.sweepColumn t a j).tags = a.tags := by
  rw [s.sweepColumn_eq]
  cases s.sweptByte t j with
  | none => exact ⟨rfl, rfl, rfl⟩
  | some b => exact ⟨rfl, rfl, rfl⟩

theorem State.sweepColumns_leaves (s : State) (t : Nat) (l : List Nat) (a : State) :
    (l.foldl (s.sweepColumn t) a).tiles = a.tiles ∧ (l.foldl (s.sweepColumn t) a).mem = a.mem ∧
    (l.foldl (s.sweepColumn t) a).tags = a.tags := by
  induction l generalizing a with
  | nil => exact ⟨rfl, rfl, rfl⟩
  | cons i l ih =>
    obtain ⟨htiles, hmem, htags⟩ := s.sweepColumn_leaves t a i
    obtain ⟨ihtiles, ihmem, ihtags⟩ := ih (s.sweepColumn t a i)
    exact ⟨ihtiles.trans htiles, ihmem.trans hmem, ihtags.trans htags⟩

/-! ### The end of a sweep (R222, R301) -/

/-- The state whose columns the sweep of tile t has gone through. -/
def State.swept (s : State) (t : Nat) : State := (List.range 392).foldl (s.sweepColumn t) s

/-- A sweep that is over: TRIMOK, and the static terms drawn anew. -/
def State.sweepOver (s : State) (t : Nat) (ts : TrimSet) : State :=
  (((s.setTile t { s.tile t with check := none }).setTrimSet t ts).drawn.setFld (F.CAL_STAT_TRIMOK t) 1)

theorem State.sweepEnd_eq (hk : (s.tile t).check = some k) (htrim : k.trim = true) :
    s.sweepEnd t = ((s.swept t).sweepOver t
      { s.trimSet t with seed := s.free + 1, ref := (s.swept t).trimBytes t }).longDone t 2 := by
  simp only [State.sweepEnd, hk, htrim]
  rfl

theorem State.sweepOver_leaves (s : State) (t : Nat) (ts : TrimSet) :
    (s.sweepOver t ts).tile t = { s.tile t with check := none } ∧ (s.sweepOver t ts).fld (F.CAL_STAT_TRIMOK t) = 1 ∧
    (s.sweepOver t ts).mem = s.mem ∧ (s.sweepOver t ts).tags = s.tags ∧ s.KeepsRegs (s.sweepOver t ts) [Reg.CAL_STAT t] :=
  ⟨State.tile_setTile_same _ _ _, State.fld_setFld _ _ _ (by simp), rfl, rfl,
    fun a ha => State.reg_setFld_ne _ _ _ _ (by simpa using ha)⟩

theorem State.fld_swept (s : State) (t : Nat) {j : Nat} (hj : j < 392) :
    (s.swept t).fld (trimFld t j) = (s.sweptByte t j).getD (s.fld (trimFld t j)) := by
  rw [State.swept, s.fld_sweepColumns t j List.nodup_range, if_pos (List.mem_range.mpr hj)]

theorem State.swept_leaves (s : State) (t : Nat) :
    (s.swept t).tile t = s.tile t ∧ (s.swept t).mem = s.mem ∧ (s.swept t).tags = s.tags := by
  obtain ⟨htiles, hmem, htags⟩ := s.sweepColumns_leaves t (List.range 392) s
  rw [State.swept, State.tile, htiles]
  exact ⟨rfl, hmem, htags⟩

theorem State.sweepEnd_leaves (hk : (s.tile t).check = some k) (htrim : k.trim = true) (ht : t < 32) :
    ((s.sweepEnd t).tile t).check = none ∧ (s.sweepEnd t).fld (F.CAL_STAT_TRIMOK t) = 1 ∧
    (s.sweepEnd t).fld (F.TILE_LSTAT_STATUS t) = 2 ∧ t ∈ (s.sweepEnd t).pulses ∧
    (∀ j, j < 392 → (s.sweepEnd t).fld (trimFld t j) = (s.sweptByte t j).getD (s.fld (trimFld t j))) ∧
    (s.sweepEnd t).mem = s.mem ∧ (s.sweepEnd t).tags = s.tags ∧ ((s.sweepEnd t).tile t).cells = (s.tile t).cells := by
  obtain ⟨hsame, hsweptMem, hsweptTags⟩ := s.swept_leaves t
  rw [State.sweepEnd_eq hk htrim]
  generalize ({ s.trimSet t with seed := s.free + 1, ref := (s.swept t).trimBytes t } : TrimSet) = ts
  obtain ⟨htile, hok, hmem, htags, hregs⟩ := (s.swept t).sweepOver_leaves t ts
  obtain ⟨hstatus, hpulse, hkeeps⟩ := ((s.swept t).sweepOver t ts).longDone_leaves t
  rw [hkeeps.tile, htile, hsame]
  refine ⟨rfl, ?_, hstatus, hpulse, fun j hj => ?_, hkeeps.mem.trans (hmem.trans hsweptMem),
    hkeeps.tags.trans (htags.trans hsweptTags), rfl⟩
  · rw [hkeeps.fld (tileReg_of_tile (by decide) (by decide) ht) (by simp), hok]
  · obtain ⟨hreg, hlstat, hstat⟩ := trimFld_addr ht hj
    rw [hkeeps.fld hreg (by simpa using hlstat), hregs.fld (by simpa using hstat), s.fld_swept t hj]

end Sys2Proof.Machine
end

section
/-! O24: what barometer checks, trim sweeps and refreshes of a tile do. -/

namespace Sys2Proof.Machine

open Sys2Proof

/-- Settles O24: each command is the rule above for the case its hypotheses describe. -/
theorem tileChecks : Obligations.TileChecks := by
  unfold Obligations.TileChecks
  refine ⟨?checkBegins, fun s ini t ht h => ?checkBusy, ?checkSealed, ?checkOpen, ?trips, ?quiet, ?sweepBegins, ?sweepBusy,
    ?sweepDark, ?sweepEnds, ?refreshBegins, ?refreshDark, ?refreshPair, ?refreshRange, ?refreshEnds⟩
  case checkBegins =>
    intro s ini t ht hstate hdepth k
    exact ⟨_, becomes_barometerCheck ht, State.tileCheck_leaves hstate hdepth false⟩
  case checkBusy =>
    rw [← State.tileCheck_busy h false]
    exact becomes_barometerCheck ht
  case checkSealed =>
    intro s t k hk htrim hseal
    obtain ⟨hcheck, hfree, hmem, htags, hshows, hstatus, hpulse, hcells, -⟩ := State.checkEnd_leaves hk htrim t.isLt
    exact ⟨_, rfl, hcheck, hfree, hmem, htags, hshows, hstatus, hpulse, hcells,
      State.keepsRegs_checkEnd_sealed hk htrim hseal⟩
  case checkOpen =>
    intro s t k hk htrim hopen
    obtain ⟨hcheck, hfree, hmem, htags, hshows, hstatus, hpulse, hcells, hvalid⟩ := State.checkEnd_leaves hk htrim t.isLt
    exact ⟨_, rfl, hcheck, hfree, hmem, htags, hshows, hstatus, hpulse, hcells, hvalid,
      State.chkcnt_checkEnd hk htrim hopen t.isLt⟩
  case trips =>
    rintro s t k codes devs rfl htrips hn hcnt
    rw [State.compareCheck_trips ((s.trips_iff t _).mpr htrips) hn hcnt]
    obtain ⟨htrip, hzero⟩ := State.fld_tripped (s.compared t (baroDevs k.bexp0 k.bexp1 codes)) t.isLt
    exact ⟨htrip, hzero, List.mem_append_right _ (List.mem_singleton_self _)⟩
  case quiet =>
    rintro s t k codes devs rfl hclip hdev
    rw [State.compareCheck_quiet (State.trips_eq_false hclip hdev)]
    obtain ⟨-, htrip, -⟩ := s.fld_compared t (baroDevs k.bexp0 k.bexp1 codes)
    refine ⟨State.fld_setFld _ _ _ (by simp), ?_, ?_⟩
    · rw [State.fld_setFld_bits _ (F.CAL_STAT_TRIPCNT t) (F.CAL_STAT_TRIP t) 0 (by simp) rfl (by simp), htrip]
    · rw [State.setFld_pulses, (s.onlyRegs_compared t _).1]
  case sweepBegins =>
    intro s ini t ht hon hstate hdepth k
    exact ⟨_, becomes_trimSweep ht, State.trimSweep_leaves hon hstate hdepth⟩
  case sweepBusy =>
    intro s ini t ht hon h
    rw [← State.trimSweep_busy hon h]
    exact becomes_trimSweep ht
  case sweepDark =>
    intro s ini t ht hoff
    rw [← State.trimSweep_dark hoff]
    exact becomes_trimSweep ht
  case sweepEnds =>
    intro s t k hk htrim
    exact ⟨_, rfl, State.sweepEnd_leaves hk htrim t.isLt⟩
  case refreshBegins =>
    intro s ini t ht hon hlong hcount hrows hmask hp
    have h := becomes_tileRefresh ht
    rw [State.tileRefresh_inRange hon hlong hcount hrows hmask, hp] at h
    exact h
  case refreshDark =>
    intro s ini t ht hoff
    rw [← State.tileRefresh_dark hoff]
    exact becomes_tileRefresh ht
  case refreshPair =>
    intro s ini t ht hon hlong hcount hrows hmask hp hpair
    have h := becomes_tileRefresh ht
    rw [State.tileRefresh_inRange hon hlong hcount hrows hmask, hp, Option.isSome_iff_ne_none.mpr hpair] at h
    exact h
  case refreshRange =>
    intro s ini t ht hon hlong hrange
    refine ⟨_, becomes_tileRefresh ht, ?_⟩
    rw [State.tileRefresh_range hon hlong hrange]
    obtain ⟨hstatus, hact, hpulse, htile⟩ := s.refreshRefused_leaves t.isLt
    rw [htile]
    exact ⟨hstatus, hact, hlong, rfl, hpulse, fun h => if_pos h, fun h => if_neg (by simp [h])⟩
  case refreshEnds =>
    intro s t l status hl hk hst
    obtain ⟨hstatus, hact, hpulse, htile⟩ := State.endLong_refresh_leaves hl hk t.isLt (show status < 16 by omega)
    dsimp only
    rw [htile]
    exact ⟨hstatus, hact, rfl, hpulse, fun h => if_pos h, fun h => if_neg (by simp [h])⟩

end Sys2Proof.Machine
end

section
/-! Arithmetic of the tally unit: rounding, the fit to a range, and the winner of a reduction (R260, R262, R264, R333). -/

namespace Sys2Proof.Machine

open Sys2Proof

/-! ### Rounding (R260, R333) -/

/-- Rounding to the nearest multiple: it is no more than half a step away, and the even one of two that are. -/
theorem rhe_nearest (n : Int) {d : Nat} (hd : 0 < d) :
    2 * (rhe n d * d) ≤ 2 * n + d ∧ 2 * n ≤ 2 * (rhe n d * d) + d ∧
    ((2 * n - 2 * (rhe n d * d) = d ∨ 2 * (rhe n d * d) - 2 * n = d) → rhe n d % 2 = 0) := by
  have hne : (d : Int) ≠ 0 := by omega
  have hsplit : n / d * d + n % d = n := Int.ediv_mul_add_emod n d
  have hlow : 0 ≤ n % (d : Int) := Int.emod_nonneg n hne
  have hhigh : n % (d : Int) < d := Int.emod_lt_of_pos n (by omega)
  have hup : (n / d + 1) * (d : Int) = n / d * d + d := by ring
  unfold rhe
  dsimp only
  split_ifs <;> omega

variable {v : Int} {sh lfsr : Nat}

/-- A floor of the value raised by half a step lies within half a step of it. -/
theorem floor_half_step (v : Int) (hsh : 0 < sh) :
    2 * ((v + 2 ^ (sh - 1)) / 2 ^ sh * 2 ^ sh) ≤ 2 * v + 2 ^ sh ∧
    2 * v + 2 ^ sh < 2 * (((v + 2 ^ (sh - 1)) / 2 ^ sh + 1) * 2 ^ sh) := by
  have hpos : (0 : Int) < 2 ^ sh := by positivity
  have hhalf : (2 : Int) ^ sh = 2 * 2 ^ (sh - 1) := by rw [← pow_succ', Nat.sub_add_cancel hsh]
  have hle := Int.ediv_mul_le (v + 2 ^ (sh - 1)) hpos.ne'
  have hlt := Int.lt_ediv_add_one_mul_self (v + 2 ^ (sh - 1)) hpos
  omega

section
variable (hsh : 0 < sh)
include hsh

theorem roundSh_trn : roundSh v sh 0 lfsr = (v / 2 ^ sh, lfsr) := if_neg hsh.ne'

theorem roundSh_rhu : roundSh v sh 1 lfsr = ((v + 2 ^ (sh - 1)) / 2 ^ sh, lfsr) := if_neg hsh.ne'

theorem roundSh_rhe : roundSh v sh 2 lfsr = (rhe v (2 ^ sh), lfsr) := if_neg hsh.ne'

theorem roundSh_rst (h24 : sh ≤ 24) :
    roundSh v sh 3 lfsr = ((v + (lfsr % 2 ^ sh : Nat)) / 2 ^ sh, lfsrNext lfsr) := by
  simp only [roundSh, if_neg hsh.ne', if_pos h24]

end

/-! ### The fit to a range (R333) -/

theorem clampI_eq_max_min {lo hi : Int} (h : lo ≤ hi) (q : Int) : clampI lo hi q = max lo (min hi q) := by
  unfold clampI
  split_ifs <;> omega

theorem fit_saturating {lo hi : Int} (h : lo ≤ hi) (q : Int) (w : Nat) :
    fit q lo hi w true = (unsigned w (max lo (min hi q)), decide (q < lo) || decide (hi < q)) := by
  rw [← clampI_eq_max_min h]
  cases hout : decide (q < lo) || decide (hi < q) with
  | true => simp [fit, hout]
  | false =>
    simp only [Bool.or_eq_false_iff, decide_eq_false_iff_not] at hout
    simp [fit, clampI, hout]

/-! ### The winner of a reduction (R264) -/

/-- The value `x` beats `y`: greater in a MAXR, less in a MINR. -/
def beats (isMax : Bool) (x y : Int) : Bool := if isMax then decide (y < x) else decide (x < y)

@[simp] theorem beats_max (x y : Int) : beats true x y = decide (y < x) := rfl

@[simp] theorem beats_min (x y : Int) : beats false x y = decide (x < y) := rfl

theorem beats_of_beats_of_not {isMax : Bool} {x y z : Int} (h : beats isMax z y = true) (h' : beats isMax x y = false) :
    beats isMax z x = true := by
  cases isMax <;> simp at h h' ⊢ <;> omega

/-- The holder of the place so far, after a value with its offset. -/
def challenge (isMax : Bool) (b x : Int × Nat) : Int × Nat := if beats isMax x.1 b.1 then x else b

theorem winner_cons (isMax : Bool) (v : Int) (vs : List Int) :
    winner isMax (v :: vs) = (vs.zipIdx 1).foldl (challenge isMax) (v, 0) := rfl

/-- `b` is a value of the list with its offset, no value of the list beats it, and it beats every earlier one. -/
structure Wins (isMax : Bool) (l : List Int) (b : Int × Nat) : Prop where
  here : l[b.2]? = some b.1
  unbeaten : ∀ x ∈ l, beats isMax x b.1 = false
  first : ∀ i x, l[i]? = some x → i < b.2 → beats isMax b.1 x = true

variable {isMax : Bool} {l : List Int} {b : Int × Nat}

theorem wins_singleton (isMax : Bool) (v : Int) : Wins isMax [v] (v, 0) where
  here := rfl
  unbeaten := by cases isMax <;> simp
  first _ _ _ hi := absurd hi (Nat.not_lt_zero _)

/-- One more value at the end of the list. -/
theorem Wins.append (h : Wins isMax l b) (y : Int) : Wins isMax (l ++ [y]) (challenge isMax b (y, l.length)) := by
  have hlt : b.2 < l.length := (List.getElem?_eq_some_iff.mp h.here).1
  unfold challenge
  split
  · next hy =>
    refine ⟨by simp, fun x hx => ?_, fun i x hx hi => ?_⟩
    · rcases List.mem_append.mp hx with hx | hx
      · have hbeat := beats_of_beats_of_not hy (h.unbeaten x hx)
        cases isMax <;> simp at hbeat ⊢ <;> omega
      · obtain rfl := List.mem_singleton.mp hx
        cases isMax <;> simp
    · rw [List.getElem?_append_left hi] at hx
      exact beats_of_beats_of_not hy (h.unbeaten x (List.mem_of_getElem? hx))
  · next hy =>
    refine ⟨by rw [List.getElem?_append_left hlt, h.here], fun x hx => ?_, fun i x hx hi => ?_⟩
    · rcases List.mem_append.mp hx with hx | hx
      · exact h.unbeaten x hx
      · obtain rfl := List.mem_singleton.mp hx
        exact Bool.eq_false_iff.mpr hy
    · rw [List.getElem?_append_left (hi.trans hlt)] at hx
      exact h.first i x hx hi

theorem Wins.foldl (h : Wins isMax l b) (vs : List Int) :
    Wins isMax (l ++ vs) ((vs.zipIdx l.length).foldl (challenge isMax) b) := by
  induction vs generalizing l b with
  | nil => simpa using h
  | cons y vs ih => simpa using ih (h.append y)

theorem wins_winner (isMax : Bool) (v : Int) (vs : List Int) : Wins isMax (v :: vs) (winner isMax (v :: vs)) :=
  winner_cons isMax v vs ▸ (wins_singleton isMax v).foldl vs

/-- Settles O27: rounding by floors of the raised value, the winner by what holds of every prefix of the lanes. -/
theorem tallyArithmetic : Obligations.TallyArithmetic := by
  unfold Obligations.TallyArithmetic
  refine ⟨?trn, ?rhu, ?rhe, fun v sh lfsr hsh h24 => roundSh_rst hsh h24, fun q lo hi w h => ⟨fit_saturating h q w, rfl⟩,
    ?maximum, ?minimum⟩
  case trn =>
    intro v sh lfsr hsh
    have hpos : (0 : Int) < 2 ^ sh := by positivity
    rw [roundSh_trn hsh]
    exact ⟨rfl, Int.ediv_mul_le v hpos.ne', Int.lt_ediv_add_one_mul_self v hpos⟩
  case rhu =>
    intro v sh lfsr hsh
    rw [roundSh_rhu hsh]
    exact ⟨rfl, floor_half_step v hsh⟩
  case rhe =>
    intro v sh lfsr hsh
    rw [roundSh_rhe hsh]
    exact ⟨rfl, by simpa using rhe_nearest v (Nat.two_pow_pos sh)⟩
  case maximum =>
    intro v vs i x hx
    have h := wins_winner true v vs
    exact ⟨by simpa using h.unbeaten x (List.mem_of_getElem? hx), fun hi => by simpa using h.first i x hx hi, h.here⟩
  case minimum =>
    intro v vs i x hx
    have h := wins_winner false v vs
    exact ⟨by simpa using h.unbeaten x (List.mem_of_getElem? hx), fun hi => by simpa using h.first i x hx hi, h.here⟩

end Sys2Proof.Machine
end

section
/-! Word sets written through a port of the tally unit: what the port's registers take and what becomes of the word set
(R244, R245, R247, R249). -/

namespace Sys2Proof.Machine

open Sys2Proof

variable {s : State} {ini : Initiator} {a c p k opc : Nat} {b : Bool} {w : WordSet}

/-! ### Writes of a core in sealed state (R39, R42) -/

/-- A core in sealed state writes what R42 lets it write. -/
theorem State.cmdWrite_sealed_may (hs : s.stopped = false) (hk : coreOf ini = some k) (hm : sealedMay k a = true)
    (hv : s.verdict ini a true = .pass) (f : State → State) : s.cmdWrite ini a f = f s := by
  simp [State.cmdWrite, State.onWrite, hs, hk, hm, hv]

/-! ### Opcodes (Table TOP-2) -/

theorem wsOpc_withOpc (h : opc < 16) (w : WordSet) : wsOpc (withOpc opc w) = opc := by
  rw [wsOpc, withOpc, toNat_putBits _ _ _ _ (by decide), bitsOf_putBits_same]
  exact Nat.mod_eq_of_lt h

/-- Each of the seven commands issues its word set with its own opcode. -/
theorem exec_wordSet (c : Fin 4) (p : Fin 3) (ini : Initiator) (d : WordSet) (s : State) (i : Fin 7) :
    exec ([Instr.top, Instr.maxr, Instr.minr, Instr.ins, Instr.finr, Instr.frank, Instr.sync][i] c p ini d) s =
      ok (s.issueOpc (i.val + 1) c p ini d) := by
  fin_cases i <;> rfl

theorem State.issueOpc_takes (h : s.Takes ini (Reg.TAL_OP_D c p 4)) (opc : Nat) (w : WordSet) :
    s.issueOpc opc c p ini w = s.tallyIssue c p false (withOpc opc w) := by
  have ⟨_, hopen, _⟩ := h
  rw [State.issueOpc, s.cmdWrite_takes _ _ _ h, hopen]

/-- Issued in sealed state, a word set carries the seal (R39). -/
theorem State.issueOpc_sealed (hs : s.stopped = false) (hsl : s.sealedIni .sv = true)
    (hm : sealedMay 4 (Reg.TAL_OP_D c p 4) = true) (hv : s.verdict .sv (Reg.TAL_OP_D c p 4) true = .pass) (opc : Nat)
    (w : WordSet) : s.issueOpc opc c p .sv w = s.tallyIssue c p true (withOpc opc w) := by
  rw [State.issueOpc, State.cmdWrite_sealed_may hs rfl hm hv, hsl]

/-! ### The registers of a port (R244) -/

theorem State.onlyRegs_setPortWords (s : State) (c p : Nat) (w : WordSet) :
    s.OnlyRegs (s.setPortWords c p w) ((List.range 5).map (Reg.TAL_OP_D c p)) := by
  have hmem (k : Nat) (hk : k < 5) : Reg.TAL_OP_D c p k ∈ (List.range 5).map (Reg.TAL_OP_D c p) :=
    List.mem_map_of_mem (List.mem_range.mpr hk)
  exact (((((State.OnlyRegs.refl _).setReg _ _ (hmem 0 (by decide))).setReg _ _ (hmem 1 (by decide))).setReg _ _
    (hmem 2 (by decide))).setReg _ _ (hmem 3 (by decide))).setReg _ _ (hmem 4 (by decide))

theorem State.reg_setPortWords (s : State) (c p : Nat) (w : WordSet) :
    (s.setPortWords c p w).reg (Reg.TAL_OP_D c p 0) = w.d0 ∧ (s.setPortWords c p w).reg (Reg.TAL_OP_D c p 1) = w.d1 ∧
    (s.setPortWords c p w).reg (Reg.TAL_OP_D c p 2) = w.d2 ∧ (s.setPortWords c p w).reg (Reg.TAL_OP_D c p 3) = w.d3 ∧
    (s.setPortWords c p w).reg (Reg.TAL_OP_D c p 4) = w.d4 := by
  simp [State.setPortWords, State.reg_setReg]

@[simp] theorem State.tally_setPortWords (s : State) (c p : Nat) (w : WordSet) (d : Nat) :
    (s.setPortWords c p w).tally d = s.tally d :=
  (s.onlyRegs_setPortWords c p w).tally d

@[simp] theorem State.pulses_setPortWords (s : State) (c p : Nat) (w : WordSet) :
    (s.setPortWords c p w).pulses = s.pulses := by
  simp only [State.setPortWords, State.setReg_pulses]

/-- A field of no register of the port keeps its value. -/
theorem State.fld_setPortWords (s : State) (w : WordSet) {f : Fld} (hf : ∀ k, k < 5 → Reg.TAL_OP_D c p k ≠ f.addr) :
    (s.setPortWords c p w).fld f = s.fld f :=
  (s.onlyRegs_setPortWords c p w).2.fld (by simpa using hf)

theorem State.pend_setPortWords (s : State) (c p : Nat) (w : WordSet) :
    (s.setPortWords c p w).fld (F.CLU_OWNER_PEND c) = s.fld (F.CLU_OWNER_PEND c) :=
  s.fld_setPortWords w fun k hk => by simp only [Reg.TAL_OP_D, Reg.CLU_OWNER]; omega

theorem State.donecnt_setPortWords (s : State) (c p : Nat) (w : WordSet) :
    (s.setPortWords c p w).fld (F.TAL_DONECNT_COUNT c) = s.fld (F.TAL_DONECNT_COUNT c) :=
  s.fld_setPortWords w fun k hk => by simp only [Reg.TAL_OP_D, Reg.TAL_DONECNT]; omega

/-! ### What becomes of a word set (R245, R247, R249) -/

/-- The entry of a word set that enters the queue. -/
def State.newEntry (s : State) (c p : Nat) (b : Bool) (w : WordSet) : TalEntry :=
  { port := p, ws := w, iseal := b, pad := s.padOf c w, phase := .queued }

/-- Its completion shows its tag, its opcode and its port, and neither of MIXED and the output's seal. -/
theorem cplOf_newEntry (s : State) (c p : Nat) (b : Bool) (w : WordSet) (st : Nat) :
    cplOf (s.newEntry c p b w) st false = ⟨d0f w 4 6, st, wsOpc w, false, false, p⟩ := by
  simp [cplOf, State.newEntry]

theorem State.tallyPush_pending (h : s.fld (F.CLU_OWNER_PEND c) = 1) (p : Nat) (b : Bool) (w : WordSet) :
    s.tallyPush c p b w = s.setFld (F.TAL_STATUS_OWNPEND c) 1 := if_pos (State.flag_of_one h)

theorem State.tallyIssue_room (hroom : (s.tally c).entries.length < 16) (p : Nat) (b : Bool) (w : WordSet) :
    s.tallyIssue c p b w = (s.setPortWords c p w).tallyPush c p b w := by
  simp [State.tallyIssue, State.tallyWaits, State.tallyFull, Nat.not_le.mpr hroom]

section
variable (hpend : s.fld (F.CLU_OWNER_PEND c) = 0)
include hpend

/-- On a full queue D4 keeps what it holds, and the queue stays (R245). -/
theorem State.tallyIssue_full (hfull : 16 ≤ (s.tally c).entries.length) (p : Nat) (b : Bool) (w : WordSet) :
    s.tallyIssue c p b w = s.setPortWords c p { w with d4 := s.reg (Reg.TAL_OP_D c p 4) } := by
  simp [State.tallyIssue, State.tallyWaits, State.tallyFull, State.flag_of_zero hpend, hfull, State.portWords]

variable (hroom : (s.tally c).entries.length < 16)
include hroom

theorem State.tallyPush_enters (hok : wsOk w = true) (p : Nat) (b : Bool) : s.tallyPush c p b w =
    s.setTally c { s.tally c with entries := (s.tally c).entries ++ [s.newEntry c p b w] } := by
  simp [State.tallyPush, State.flag_of_zero hpend, Nat.not_le.mpr hroom, hok, State.newEntry]

theorem State.tallyPush_refused (hbad : wsOk w = false) (p : Nat) (b : Bool) : s.tallyPush c p b w =
    (s.setFld (F.TAL_STATUS_BADARG c) 1).tallyReport c (s.newEntry c p b w) 1 false := by
  simp [State.tallyPush, State.flag_of_zero hpend, Nat.not_le.mpr hroom, hbad, State.newEntry]

theorem State.tallyIssue_enters (hok : wsOk w = true) (p : Nat) (b : Bool) : s.tallyIssue c p b w =
    (s.setPortWords c p w).setTally c { s.tally c with
      entries := (s.tally c).entries ++ [(s.setPortWords c p w).newEntry c p b w] } := by
  have hpend' := (s.pend_setPortWords c p w).trans hpend
  have htally := s.tally_setPortWords c p w c
  rw [State.tallyIssue_room hroom, State.tallyPush_enters hpend' (htally.symm ▸ hroom) hok, htally]

end

theorem State.tallyIssue_pending (h : s.fld (F.CLU_OWNER_PEND c) = 1) (p : Nat) (b : Bool) (w : WordSet) :
    s.tallyIssue c p b w = (s.setPortWords c p w).setFld (F.TAL_STATUS_OWNPEND c) 1 := by
  rw [← State.tallyPush_pending ((s.pend_setPortWords c p w).trans h) p b w]
  simp [State.tallyIssue, State.tallyWaits, State.flag_of_one h]

/-- A completion without a start: its report, BADARG, its count and its event (R249). -/
theorem State.tallyReport_badarg (s : State) (c : Nat) {e : TalEntry} (hp : e.port ≠ 2)
    (hroom : (s.tally c).cpl.length < 16) (st : Nat) :
    let u := (s.setFld (F.TAL_STATUS_BADARG c) 1).tallyReport c e st false
    u.tally c = { s.tally c with cpl := (s.tally c).cpl ++ [cplOf e st false] } ∧ u.fld (F.TAL_STATUS_BADARG c) = 1 ∧
    u.fld (F.TAL_DONECNT_COUNT c) = (s.fld (F.TAL_DONECNT_COUNT c) + 1) % 2 ^ 24 ∧
    u.pulses = (if d0f e.ws 10 1 = 1 then s.pulses ++ [32 + c] else s.pulses) ∧ u.mem = s.mem ∧ u.tags = s.tags := by
  have htally := s.tally_setFld (F.TAL_STATUS_BADARG c) 1 c
  obtain ⟨hmem, htags, -, hregs⟩ := (s.setFld (F.TAL_STATUS_BADARG c) 1).counted_frame c e
  have hbad : (s.setFld (F.TAL_STATUS_BADARG c) 1).fld (F.TAL_STATUS_BADARG c) = 1 := s.fld_setFld _ 1 (by simp)
  have hcount := s.fld_setFld_addr (F.TAL_STATUS_BADARG c) (F.TAL_DONECNT_COUNT c) 1 (by simp)
  dsimp only
  rw [State.tallyReport_fifo hp (htally.symm ▸ hroom), htally]
  refine ⟨State.tally_setTally_same .., ?_, ?_, ?_, ?_, ?_⟩
  · rw [State.fld_setTally, hregs.fld (by simp), hbad]
  · rw [State.fld_setTally, State.fld_counted, hcount]
  · rw [State.setTally_pulses, State.pulses_counted, State.setFld_pulses]
  · rw [State.setTally_mem, hmem, State.setFld_mem]
  · rw [State.setTally_tags, htags, State.setFld_tags]

/-- A word set that fails a check leaves the queue as it is and completes with status 1. -/
theorem State.tallyIssue_refused (hpend : s.fld (F.CLU_OWNER_PEND c) = 0) (hroom : (s.tally c).entries.length < 16)
    (hp : p ≠ 2) (hcpl : (s.tally c).cpl.length < 16) (hopc : opc < 16) (hbad : wsOk (withOpc opc w) = false) (b : Bool) :
    let u := s.tallyIssue c p b (withOpc opc w)
    u.tally c = { s.tally c with cpl := (s.tally c).cpl ++ [⟨d0f (withOpc opc w) 4 6, 1, opc, false, false, p⟩] } ∧
    u.fld (F.TAL_STATUS_BADARG c) = 1 ∧
    u.fld (F.TAL_DONECNT_COUNT c) = (s.fld (F.TAL_DONECNT_COUNT c) + 1) % 2 ^ 24 ∧
    u.pulses = (if d0f (withOpc opc w) 10 1 = 1 then s.pulses ++ [32 + c] else s.pulses) ∧ u.mem = s.mem ∧ u.tags = s.tags := by
  have hpend' := (s.pend_setPortWords c p (withOpc opc w)).trans hpend
  have htally := s.tally_setPortWords c p (withOpc opc w) c
  have hreport := (s.setPortWords c p (withOpc opc w)).tallyReport_badarg c
    (e := (s.setPortWords c p (withOpc opc w)).newEntry c p b (withOpc opc w)) hp (htally.symm ▸ hcpl) 1
  obtain ⟨hcplOf, hbadarg, hcount, hpulse, hmem, htags⟩ := hreport
  dsimp only
  rw [State.tallyIssue_room hroom, State.tallyPush_refused hpend' (htally.symm ▸ hroom) hbad]
  refine ⟨?_, hbadarg, ?_, hpulse.trans ?_, hmem.trans ?_, htags.trans ?_⟩
  · rw [hcplOf, htally, cplOf_newEntry, wsOpc_withOpc hopc]
  · rw [hcount, State.donecnt_setPortWords]
  · rw [State.pulses_setPortWords, State.newEntry]
  · exact (s.onlyRegs_setPortWords c p (withOpc opc w)).mem
  · exact (s.onlyRegs_setPortWords c p (withOpc opc w)).tags

/-- The word set that command i issues, entered. -/
theorem becomes_wordSet_enters {c : Fin 4} {p : Fin 3} {d : WordSet} (i : Fin 7) (ht : s.Takes ini (Reg.TAL_OP_D c p 4))
    (hok : wsOk (withOpc (i.val + 1) d) = true) (hpend : s.fld (F.CLU_OWNER_PEND c) = 0)
    (hroom : (s.tally c).entries.length < 16) :
    let r := s.setPortWords c p (withOpc (i.val + 1) d)
    Becomes ([Instr.top, Instr.maxr, Instr.minr, Instr.ins, Instr.finr, Instr.frank, Instr.sync][i] c p ini d) s
      (r.setTally c { s.tally c with
        entries := (s.tally c).entries ++ [r.newEntry c p false (withOpc (i.val + 1) d)] }) := by
  rw [Becomes, exec_wordSet, State.issueOpc_takes ht, State.tallyIssue_enters hpend hroom hok]

/-- Settles O25: each command issues its word set, and the issue goes by the case its hypotheses describe. -/
theorem wordSetCommands : Obligations.WordSetCommands := by
  unfold Obligations.WordSetCommands
  refine ⟨fun s ini c p d => becomes_wordSet_enters 0, fun s ini c p d => becomes_wordSet_enters 1,
    fun s ini c p d => becomes_wordSet_enters 2, fun s ini c p d => becomes_wordSet_enters 3,
    fun s ini c p d => becomes_wordSet_enters 4, fun s ini c p d => becomes_wordSet_enters 5,
    fun s ini c p d => becomes_wordSet_enters 6, ?sealedIssue, ?pending, ?refused, ?full, ?registers, fun s c w => rfl⟩
  case sealedIssue =>
    intro s c p d i hs hsl hm hv hok hpend hroom
    rw [Becomes, exec_wordSet, State.issueOpc_sealed hs hsl hm hv, State.tallyIssue_enters hpend hroom hok]
    rfl
  case pending =>
    intro s ini c p d i ht hpend
    rw [Becomes, exec_wordSet, State.issueOpc_takes ht, State.tallyIssue_pending hpend]
  case refused =>
    intro s ini c p d i ht hpend hroom hp hcpl hbad
    have hp' : (p : Nat) ≠ 2 := fun h => hp (Fin.ext h)
    refine ⟨_, (exec_wordSet c p ini d s i).trans (congrArg ok (State.issueOpc_takes ht _ _)), ?_⟩
    exact State.tallyIssue_refused hpend hroom hp' hcpl (by omega) hbad false
  case full =>
    intro s ini c p d i ht hpend hfull
    rw [Becomes, exec_wordSet, State.issueOpc_takes ht, State.tallyIssue_full hpend hfull]
  case registers =>
    intro s c p w _ _
    obtain ⟨h0, h1, h2, h3, h4⟩ := s.reg_setPortWords c p w
    exact ⟨h0, h1, h2, h3, h4, s.onlyRegs_setPortWords c p w⟩

end Sys2Proof.Machine
end

section
/-! The registers that an event of the fault log changes, and the entry it makes (R434, R727, R728). -/

namespace Sys2Proof.Machine

open Sys2Proof

variable {s : State}

/-! ### Messages to the host (R434, R435) -/

theorem State.keepsRegs_sendVec (s : State) (v : Nat) : s.KeepsRegs (s.sendVec v) logRegs := by
  have hpend : ∀ a ∈ [Reg.HST_VPEND0, Reg.HST_VPEND1, Reg.HST_VPEND2], a ∈ logRegs := by decide
  rw [State.sendVec]
  split_ifs
  · exact .refl _
  · exact (State.KeepsRegs.refl _).setFld _ 1 (hpend _ (vpendFld_addr v))
  · exact fun _ _ => rfl
  · exact fun _ _ => rfl

theorem State.log_sendVec (s : State) (v : Nat) : (s.sendVec v).log = s.log := by
  rw [State.sendVec]
  split_ifs <;> rfl

theorem State.keepsRegs_hostEvent (s : State) (i : Nat) : s.KeepsRegs (s.hostEvent i) logRegs := by
  have hbit : s.KeepsRegs (s.setFbit ⟨Reg.HST_IRQSTAT, 0, 6⟩ i true) logRegs :=
    (State.KeepsRegs.refl _).setFld _ _ (by decide)
  rw [State.hostEvent]
  split_ifs
  · exact .refl _
  · exact hbit.trans (State.keepsRegs_sendVec _ _)
  · exact hbit

theorem State.log_hostEvent (s : State) (i : Nat) : (s.hostEvent i).log = s.log := by
  rw [State.hostEvent]
  split_ifs
  · rfl
  · exact State.log_sendVec _ _
  · rfl

/-! ### Entries (R728) -/

theorem State.keepsRegs_logEntry (s : State) (code unit detail : Nat) : s.KeepsRegs (s.logEntry code unit detail) logRegs := by
  have hput (e : LogEntry) :
      s.KeepsRegs (if s.log.length < 32 then { s with log := s.log ++ [e] } else s.incFld F.FLT_LOGCNT_OVF 1) logRegs := by
    split_ifs
    · exact fun _ _ => rfl
    · exact (State.KeepsRegs.refl _).setFld _ _ (by decide)
  exact ((hput _).setFld F.FLT_STATUS_LOGANY 1 (by decide)).trans (State.keepsRegs_hostEvent _ 3)

/-- With room in the log, one entry is added. -/
theorem State.log_logEntry (h : s.log.length < 32) (code unit detail : Nat) :
    ∃ e, (s.logEntry code unit detail).log = s.log ++ [e] ∧ e.code = code ∧ e.unit = unit ∧ e.detail = detail % 2 ^ 16 := by
  rw [State.logEntry, State.log_hostEvent, State.setFld_log, if_pos h]
  exact ⟨_, rfl, rfl, rfl, rfl⟩

/-! ### Events of Table FLT-3 (R727) -/

theorem State.keepsRegs_raiseD (s : State) (n : Nat) :
    s.KeepsRegs (s.raiseD n) [Reg.FLT_DP (n / 12), Reg.FLT_STATUS] := by
  have hset : s.KeepsRegs (s.setHealthD n 1) [Reg.FLT_DP (n / 12), Reg.FLT_STATUS] := by
    have hdp := (State.KeepsRegs.refl (s := s) [Reg.FLT_DP (n / 12), Reg.FLT_STATUS]).setFld
      ⟨Reg.FLT_DP (n / 12), 2 * (n % 12), 2⟩ 1 List.mem_cons_self
    rw [State.setHealthD, State.settleUnit]
    split_ifs
    · exact hdp
    · exact hdp
  rw [State.raiseD]
  split_ifs
  · exact hset.setFld _ 1 (by simp)
  · exact .refl _

theorem State.log_raiseD (s : State) (n : Nat) : (s.raiseD n).log = s.log := by
  rw [State.raiseD, State.setHealthD, State.settleUnit]
  split_ifs <;> rfl

/-- An event changes the log's and the host's registers, and where it raises D, that of its unit. -/
theorem State.keepsRegs_fault (s : State) (code n detail : Nat) (raises : Bool) :
    s.KeepsRegs (s.fault code n detail raises) (Reg.FLT_DP (n / 12) :: logRegs) := by
  have hlog := (s.keepsRegs_logEntry code n detail).mono fun a ha => List.mem_cons_of_mem (Reg.FLT_DP (n / 12)) ha
  rw [State.fault]
  split_ifs
  · exact hlog.trans ((State.keepsRegs_raiseD _ n).mono (by simp [logRegs]))
  · exact hlog

theorem State.log_fault (h : s.log.length < 32) (code n detail : Nat) (raises : Bool) : ∃ e,
    (s.fault code n detail raises).log = s.log ++ [e] ∧ e.code = code ∧ e.unit = n ∧ e.detail = detail % 2 ^ 16 := by
  rw [State.fault]
  split_ifs
  · rw [State.log_raiseD]
    exact State.log_logEntry h code n detail
  · exact State.log_logEntry h code n detail

theorem State.mover_fault (s : State) (code : Nat) {n : Nat} (h : n < 256) (detail : Nat) (raises : Bool) (c : Nat) :
    (s.fault code n detail raises).mover c = s.mover c := by
  rw [(s.onlyStore_fault code h detail raises).rest]
  rfl

end Sys2Proof.Machine
end

section
/-! The movers: jobs written through a port, their start, the answers of host reads, the rows they deliver and their
completion (R272-R275, R433). -/

namespace Sys2Proof.Machine

open Sys2Proof

variable {s : State} {ini : Initiator} {a c p : Nat} {b : Bool} {jw : JobWords} {j : MovJob} {rest : List MovJob}
  {bs : List Byte}

/-! ### The registers of a port (R272) -/

theorem State.onlyRegs_setPortJob (s : State) (c p : Nat) (jw : JobWords) :
    s.OnlyRegs (s.setPortJob c p jw) ((List.range 4).map (Reg.MOV_JOB_J c p)) := by
  have hmem (k : Nat) (hk : k < 4) : Reg.MOV_JOB_J c p k ∈ (List.range 4).map (Reg.MOV_JOB_J c p) :=
    List.mem_map_of_mem (List.mem_range.mpr hk)
  exact ((((State.OnlyRegs.refl _).setReg _ _ (hmem 0 (by decide))).setReg _ _ (hmem 1 (by decide))).setReg _ _
    (hmem 2 (by decide))).setReg _ _ (hmem 3 (by decide))

theorem State.reg_setPortJob (s : State) (c p : Nat) (jw : JobWords) :
    (s.setPortJob c p jw).reg (Reg.MOV_JOB_J c p 0) = jw.j0 ∧ (s.setPortJob c p jw).reg (Reg.MOV_JOB_J c p 1) = jw.j1 ∧
    (s.setPortJob c p jw).reg (Reg.MOV_JOB_J c p 2) = jw.j2 ∧ (s.setPortJob c p jw).reg (Reg.MOV_JOB_J c p 3) = jw.j3 := by
  simp [State.setPortJob, State.reg_setReg]

@[simp] theorem State.mover_setPortJob (s : State) (c p : Nat) (jw : JobWords) (d : Nat) :
    (s.setPortJob c p jw).mover d = s.mover d := by
  simp only [State.setPortJob, State.mover_setReg]

@[simp] theorem State.pulses_setPortJob (s : State) (c p : Nat) (jw : JobWords) :
    (s.setPortJob c p jw).pulses = s.pulses := by
  simp only [State.setPortJob, State.setReg_pulses]

theorem State.pend_setPortJob (s : State) (c p : Nat) (jw : JobWords) :
    (s.setPortJob c p jw).fld (F.CLU_OWNER_PEND c) = s.fld (F.CLU_OWNER_PEND c) := by
  refine (s.onlyRegs_setPortJob c p jw).2.fld ?_
  simp only [List.mem_map, List.mem_range, not_exists, not_and, Reg.MOV_JOB_J, Reg.CLU_OWNER]
  omega

/-! ### Completions (R269, R272) -/

/-- The event of a completion, where the job asks for it. -/
def State.notified (s : State) (c : Nat) (jw : JobWords) : State := if bitOf jw.j1.toNat 22 then s.fire (36 + c) else s

theorem State.notified_frame (s : State) (c : Nat) (jw : JobWords) :
    (s.notified c jw).regs = s.regs ∧ (s.notified c jw).mem = s.mem ∧ (s.notified c jw).tags = s.tags ∧
    ∀ d, (s.notified c jw).mover d = s.mover d := by
  rw [State.notified]
  split
  · exact ⟨rfl, rfl, rfl, fun d => s.mover_fire (36 + c) d⟩
  · exact ⟨rfl, rfl, rfl, fun _ => rfl⟩

theorem State.pulses_notified (s : State) (c : Nat) (jw : JobWords) :
    (s.notified c jw).pulses = if bitOf jw.j1.toNat 22 then s.pulses ++ [36 + c] else s.pulses := by
  rw [State.notified]
  split <;> rfl

/-- A job of a port with a FIFO that has room reports there, and fires its event where it asks for one. -/
theorem State.moverReport_fifo (hp : p ≠ 2) (hroom : (s.mover c).cpl.length < 8) (jw : JobWords) (st rows id : Nat) :
    s.moverReport c p jw st rows id =
      (s.notified c jw).setMover c
        { s.mover c with cpl := (s.mover c).cpl ++ [⟨bitsOf jw.j1.toNat 16 6, st, p, rows⟩] } := by
  obtain ⟨-, -, -, hmover⟩ := s.notified_frame c jw
  rw [State.notified] at hmover ⊢
  simp only [State.moverReport, if_neg hp, hmover c, if_pos hroom]

theorem State.moverReport_leaves (hp : p ≠ 2) (hroom : (s.mover c).cpl.length < 8) (jw : JobWords) (st rows id : Nat) :
    let u := s.moverReport c p jw st rows id
    u.mover c = { s.mover c with cpl := (s.mover c).cpl ++ [⟨bitsOf jw.j1.toNat 16 6, st, p, rows⟩] } ∧
    u.pulses = (if bitOf jw.j1.toNat 22 then s.pulses ++ [36 + c] else s.pulses) ∧ u.regs = s.regs ∧ u.mem = s.mem ∧
    u.tags = s.tags := by
  obtain ⟨hregs, hmem, htags, -⟩ := s.notified_frame c jw
  dsimp only
  rw [State.moverReport_fifo hp hroom]
  exact ⟨State.mover_setMover_same .., s.pulses_notified c jw, hregs, hmem, htags⟩

/-! ### What becomes of a job (R247, R272, R273) -/

/-- The job as it enters the queue. -/
def newJob (p : Nat) (b : Bool) (jw : JobWords) (id : Nat) : MovJob :=
  { port := p, jw := jw, iseal := b, running := false, done := 0, got := [], asked := 0, status := 0, ended := false, id := id }

theorem State.moverPush_pending (h : s.fld (F.CLU_OWNER_PEND c) = 1) (p : Nat) (b : Bool) (jw : JobWords) (id : Nat) :
    s.moverPush c p b jw id = s.setFld (F.MOV_STATUS_OWNPEND c) 1 := if_pos (State.flag_of_one h)

theorem State.moverIssue_room (hroom : (s.mover c).jobs.length < 8) (p : Nat) (b : Bool) (jw : JobWords) (id : Nat) :
    s.moverIssue c p b jw id = (s.setPortJob c p jw).moverPush c p b jw id := by
  simp [State.moverIssue, State.moverWaits, State.moverFull, Nat.not_le.mpr hroom]

theorem State.moverIssue_pending (h : s.fld (F.CLU_OWNER_PEND c) = 1) (p : Nat) (b : Bool) (jw : JobWords) (id : Nat) :
    s.moverIssue c p b jw id = (s.setPortJob c p jw).setFld (F.MOV_STATUS_OWNPEND c) 1 := by
  rw [← State.moverPush_pending ((s.pend_setPortJob c p jw).trans h) p b jw id]
  simp [State.moverIssue, State.moverWaits, State.flag_of_one h]

section
variable (hpend : s.fld (F.CLU_OWNER_PEND c) = 0)
include hpend

/-- On a full queue J3 keeps what it holds, and the queue stays (R272). -/
theorem State.moverIssue_full (hfull : 8 ≤ (s.mover c).jobs.length) (p : Nat) (b : Bool) (jw : JobWords) (id : Nat) :
    s.moverIssue c p b jw id = s.setPortJob c p { jw with j3 := s.reg (Reg.MOV_JOB_J c p 3) } := by
  simp [State.moverIssue, State.moverWaits, State.moverFull, State.flag_of_zero hpend, hfull, State.portJob]

variable (hroom : (s.mover c).jobs.length < 8)
include hroom

theorem State.moverIssue_enters (hok : jobOk jw = true) (p : Nat) (b : Bool) (id : Nat) : s.moverIssue c p b jw id =
    (s.setPortJob c p jw).setMover c { s.mover c with jobs := (s.mover c).jobs ++ [newJob p b jw id] } := by
  have hflag := State.flag_of_zero ((s.pend_setPortJob c p jw).trans hpend)
  rw [State.moverIssue_room hroom, State.moverPush]
  simp only [hflag, State.mover_setPortJob, Nat.not_le.mpr hroom, hok, Bool.false_eq_true, if_false, if_true, newJob]

theorem State.moverIssue_refused (hbad : jobOk jw = false) (p : Nat) (b : Bool) (id : Nat) :
    s.moverIssue c p b jw id = (s.setPortJob c p jw).moverReport c p jw 1 0 id := by
  have hflag := State.flag_of_zero ((s.pend_setPortJob c p jw).trans hpend)
  rw [State.moverIssue_room hroom, State.moverPush]
  simp only [hflag, State.mover_setPortJob, Nat.not_le.mpr hroom, hbad, Bool.false_eq_true, if_false]

/-- A job that fails the checks leaves the queue as it is and completes with status 1. -/
theorem State.moverIssue_refused_leaves (hbad : jobOk jw = false) (hp : p ≠ 2) (hcpl : (s.mover c).cpl.length < 8) (b : Bool)
    (id : Nat) :
    let u := s.moverIssue c p b jw id
    u.mover c = { s.mover c with cpl := (s.mover c).cpl ++ [⟨bitsOf jw.j1.toNat 16 6, 1, p, 0⟩] } ∧
    u.pulses = (if bitOf jw.j1.toNat 22 then s.pulses ++ [36 + c] else s.pulses) ∧
    s.KeepsRegs u ((List.range 4).map (Reg.MOV_JOB_J c p)) ∧ u.mem = s.mem ∧ u.tags = s.tags := by
  have hport := s.onlyRegs_setPortJob c p jw
  have hmover := s.mover_setPortJob c p jw c
  obtain ⟨hreport, hpulses, hregs, hmem, htags⟩ :=
    (s.setPortJob c p jw).moverReport_leaves hp (hmover.symm ▸ hcpl) jw 1 0 id
  dsimp only
  rw [State.moverIssue_refused hpend hroom hbad]
  refine ⟨by rw [hreport, hmover], by rw [hpulses, State.pulses_setPortJob], fun a ha => ?_, hmem.trans hport.mem,
    htags.trans hport.tags⟩
  rw [State.reg, hregs]
  exact hport.2 a ha

end

theorem becomes_moverJob {c : Fin 4} {p : Fin 3} (ht : s.Takes ini (Reg.MOV_JOB_J c p 3)) (jw : JobWords) :
    Becomes (.moverJob ini c p jw) s (s.moverIssue c p false jw) := by
  have ⟨_, hopen, _⟩ := ht
  exact congrArg ok ((s.cmdWrite_takes _ _ _ ht).trans (by rw [hopen]))

/-- Issued in sealed state, a job carries the seal (R39). -/
theorem becomes_moverJob_sealed {c : Fin 4} {p : Fin 3} (hs : s.stopped = false) (hsl : s.sealedIni .sv = true)
    (hm : sealedMay 4 (Reg.MOV_JOB_J c p 3) = true) (hv : s.verdict .sv (Reg.MOV_JOB_J c p 3) true = .pass) (jw : JobWords) :
    Becomes (.moverJob .sv c p jw) s (s.moverIssue c p true jw) :=
  congrArg ok ((State.cmdWrite_sealed_may hs rfl hm hv _).trans (by rw [hsl]))

/-! ### The start of a job (R272) -/

theorem State.moverStart_starts (hact : s.unitsAct c = true) (hjobs : (s.mover c).jobs = j :: rest) (hrun : j.running = false) :
    s.moverStart c = s.setMover c { s.mover c with jobs := { j with running := true } :: rest, sealedFlag := j.iseal } := by
  simp [State.moverStart, hact, hjobs, hrun]

theorem State.moverStart_idle (h : s.unitsAct c = false ∨ (s.mover c).jobs = [] ∨
    (s.mover c).jobs.head?.map (·.running) = some true) : s.moverStart c = s := by
  rcases h with h | h | h
  · simp [State.moverStart, h]
  · simp [State.moverStart, h]
  · cases hjobs : (s.mover c).jobs with
    | nil => simp [hjobs] at h
    | cons j rest =>
      have hrun : j.running = true := by simpa [hjobs] using h
      simp [State.moverStart, hjobs, hrun]

/-! ### The answer of a host read (R433) -/

section
variable (hjobs : (s.mover c).jobs = j :: rest) (hrun : j.running = true) (hsrc : sideOf (jobSrc j.jw) false = .host)
  (hasked : j.done < j.asked) (hgot : j.got = []) (hended : j.ended = false)
include hjobs hrun hsrc hasked hgot hended

theorem State.hostReadDone_arrives (hlen : bs.length = hostRow (jobConv j.jw)) : s.hostReadDone c true bs =
    s.setMover c { s.mover c with jobs := { j with got := [(bs, false)] } :: rest } := by
  simp [State.hostReadDone, hjobs, hrun, hsrc, hasked, hgot, hended, List.take_left' hlen]

theorem State.hostReadDone_fails (bs : List Byte) : s.hostReadDone c false bs =
    ((s.setMover c { s.mover c with jobs := { j with status := 2, ended := true } :: rest }).setFld F.HST_ERR_RDFAIL
      1).fault 0x0F 42 0 true := by
  simp [State.hostReadDone, hjobs, hrun, hsrc, hasked, hgot, hended]

end

/-- RDFAIL set, with an event of the log at the mover's unit. -/
theorem State.rdfail_leaves (s : State) (c : Nat) (hlog : s.log.length < 32) :
    let u := (s.setFld F.HST_ERR_RDFAIL 1).fault 0x0F 42 0 true
    u.mover c = s.mover c ∧ u.fld F.HST_ERR_RDFAIL = 1 ∧
    (∃ l, u.log = s.log ++ [l] ∧ l.code = 0x0F ∧ l.unit = 42 ∧ l.detail = 0) ∧ u.mem = s.mem ∧ u.tags = s.tags := by
  have hset : (s.setFld F.HST_ERR_RDFAIL 1).fld F.HST_ERR_RDFAIL = 1 := s.fld_setFld _ 1 (by decide)
  have hmover := s.mover_setFld F.HST_ERR_RDFAIL 1 c
  have hmem := s.setFld_mem F.HST_ERR_RDFAIL 1
  have htags := s.setFld_tags F.HST_ERR_RDFAIL 1
  have hlogs := s.setFld_log F.HST_ERR_RDFAIL 1
  generalize s.setFld F.HST_ERR_RDFAIL 1 = r at hset hmover hmem htags hlogs
  have htiles := (State.KeepsTiles.refl r []).fault 0x0F 42 0 true
  rw [← hlogs] at hlog ⊢
  have hkept := (r.keepsRegs_fault 0x0F 42 0 true).fld (f := F.HST_ERR_RDFAIL) (by decide)
  exact ⟨(r.mover_fault 0x0F (by decide) 0 true c).trans hmover, hkept.trans hset,
    State.log_fault hlog 0x0F 42 0 true, htiles.mem.trans hmem, htiles.tags.trans htags⟩

/-! ### Rows (R275) -/

theorem State.length_rowBytes (s : State) (c r : Nat) : (s.rowBytes c r).length = 384 := by
  simp [State.rowBytes, State.bytes, tabGetList]

theorem State.writeWide_frame (s : State) (c r : Nat) (bs : List Byte) (b : Bool) :
    (s.writeWide c r bs b).regs = s.regs ∧ ∀ d, (s.writeWide c r bs b).mover d = s.mover d := by
  have h := ((s.setBytes (rowAddr c r) (bs.take 384)).setTag c r b).onlyFresh_clearFresh c r
  refine ⟨h.regs, fun d => ?_⟩
  rw [State.writeWide, h]
  rfl

theorem State.byte_writeWide_out {r : Nat} (h : a < rowAddr c r ∨ rowAddr c r + 384 ≤ a) :
    (s.writeWide c r bs b).byte a = s.byte a := by
  have hlen := List.length_take_le 384 bs
  exact s.byte_setBytes_out _ _ _ (by omega)

/-- The sealed flag of a mover whose data is sealed (R45). -/
def State.moverTaint (s : State) (c : Nat) (t : Bool) : State :=
  if t then s.setMover c { s.mover c with sealedFlag := true } else s

theorem State.moverTaint_frame (s : State) (c : Nat) (t : Bool) :
    (s.moverTaint c t).mem = s.mem ∧ (s.moverTaint c t).tags = s.tags ∧ (s.moverTaint c t).regs = s.regs ∧
    (s.moverTaint c t).spOn c = s.spOn c ∧ ((s.moverTaint c t).mover c).jobs = (s.mover c).jobs ∧
    ((s.moverTaint c t).mover c).cpl = (s.mover c).cpl := by
  cases t with
  | false => exact ⟨rfl, rfl, rfl, rfl, rfl, rfl⟩
  | true =>
    have hmover := s.mover_setMover_same c { s.mover c with sealedFlag := true }
    refine ⟨rfl, rfl, rfl, rfl, ?_, ?_⟩ <;> simp only [State.moverTaint, if_true, hmover]

/-! `moverRow`, `moverPut` and `moverRows` match on the side of an address, or on what became of a row. The kernel must not
evaluate these (a comparison of an address with a bound of the map would run through the bound one by one), so each
function is unfolded where it stands under a name of its own, before it is applied. -/

/-- A row of the own scratchpad is read there, with its tag and the seal of the issue. -/
theorem State.moverRow_own (hon : s.spOn c = true) (hsrc : sideOf (jobSrc j.jw) false = .sp)
    (hdst : sideOf (jobDst j.jw) true ≠ .bad) (hc : (rowAt (jobSrc j.jw + j.done * 0x200)).1 = c) :
    s.moverRow c j = s.moverPut c j (s.rowBytes c (rowAt (jobSrc j.jw + j.done * 0x200)).2)
      (s.tag c (rowAt (jobSrc j.jw + j.done * 0x200)).2 || j.iseal) := by
  have hstride : sideStride .sp (jobConv j.jw) = 0x200 := rfl
  generalize hrow : @State.moverRow = row
  delta State.moverRow at hrow
  subst hrow
  simp only [hsrc, hstride, if_neg hdst, if_pos hc, if_pos hon]

/-- A row for the own scratchpad is written there whole. -/
theorem State.moverPut_own (hon : s.spOn c = true) (hdst : sideOf (jobDst j.jw) true = .sp)
    (hc : (rowAt (jobDst j.jw + j.done * 0x200)).1 = c) (bs : List Byte) (t : Bool) :
    s.moverPut c j bs t = .moved ((s.moverTaint c t).writeWide c (rowAt (jobDst j.jw + j.done * 0x200)).2 bs t)
      { j with done := j.done + 1, got := j.got.drop 1 } := by
  have hstride : sideStride .sp (jobConv j.jw) = 0x200 := rfl
  obtain ⟨-, -, -, hspOn, -⟩ := s.moverTaint_frame c t
  rw [hon, State.moverTaint] at hspOn
  rw [State.moverTaint]
  generalize hput : @State.moverPut = put
  delta State.moverPut at hput
  subst hput
  simp only [hdst, hstride, if_pos hc, if_pos hspOn]

/-- Sealed data does not leave for host memory (R46). -/
theorem State.moverPut_egress (hdst : sideOf (jobDst j.jw) true = .host) (bs : List Byte) :
    s.moverPut c j bs true =
      .failed ((s.setMover c { s.mover c with sealedFlag := true }).refuseEgress F.SEAL_EGRCNT_HOST) 3 := by
  generalize hput : @State.moverPut = put
  delta State.moverPut at hput
  subst hput
  simp only [hdst, if_true]

/-- A job that has ended, or has no row left, ends; a row that is delivered makes room for the next. -/
theorem State.moverRows_succ (s : State) (c n : Nat) (j : MovJob) :
    (j.ended = true ∨ j.done = jobRows j.jw → State.moverRows c (n + 1) j s = (s, { j with ended := true })) ∧
    (¬ (j.ended = true ∨ j.done = jobRows j.jw) → ∀ (t : State) (k : MovJob), s.moverRow c j = .moved t k →
      State.moverRows c (n + 1) j s = State.moverRows c n k t) := by
  obtain ⟨row, hrow⟩ : ∃ row, @State.moverRow = row := ⟨_, rfl⟩
  obtain ⟨len, hlen⟩ : ∃ len, jobRows = len := ⟨_, rfl⟩
  generalize hrows : @State.moverRows = rows
  delta State.moverRows at hrows
  generalize hbody : @State.moverRows._f = body at hrows
  delta State.moverRows._f at hbody
  rw [hrow, hlen] at hbody
  rw [hrow, hlen]
  subst hbody hrows
  exact ⟨fun h => by simp only [if_pos h], fun h t k hk => by simp only [if_neg h, hk]⟩

/-- The last row ends the job. -/
theorem State.moverRows_last {t : State} {k : MovJob} (hended : j.ended = false) (hlast : j.done + 1 = jobRows j.jw)
    (hrow : s.moverRow c j = .moved t k) (hdone : k.done = jobRows k.jw) :
    State.moverRows c (jobRows j.jw - j.done + 1) j s = (t, { k with ended := true }) := by
  have hgo : ¬ (j.ended = true ∨ j.done = jobRows j.jw) := by
    rw [hended, ← hlast]
    simp
  have hleft : jobRows j.jw - j.done = 1 := by omega
  rw [hleft, (s.moverRows_succ c 1 j).2 hgo t k hrow, (t.moverRows_succ c 0 k).1 (.inr hdone)]

/-! ### Completion (R275) -/

theorem State.moverComplete_running {r : State} {k : MovJob} (hact : s.unitsAct c = true)
    (hjobs : (s.mover c).jobs = j :: rest) (hrun : j.running = true)
    (hrows : State.moverRows c (jobRows j.jw - j.done + 1) j s = (r, k)) :
    s.moverComplete c =
      if k.ended then
        (r.setMover c { r.mover c with jobs := (r.mover c).jobs.drop 1 }).moverReport c j.port j.jw k.status k.done j.id
      else r.setMover c { r.mover c with jobs := k :: (r.mover c).jobs.drop 1 } := by
  simp only [State.moverComplete, hact, hjobs, hrun, hrows, Bool.not_true, Bool.false_eq_true, if_false, if_true]

/-- The last row of a copy within the own scratchpad, and the completion with it. -/
theorem State.moverComplete_copied (hact : s.unitsAct c = true) (hon : s.spOn c = true) (hjobs : (s.mover c).jobs = j :: rest)
    (hrun : j.running = true) (hended : j.ended = false) (hst : j.status = 0) (hp : j.port ≠ 2)
    (hcpl : (s.mover c).cpl.length < 8) (hlast : j.done + 1 = jobRows j.jw) (hsrc : sideOf (jobSrc j.jw) false = .sp)
    (hdst : sideOf (jobDst j.jw) true = .sp) (hcs : (rowAt (jobSrc j.jw + j.done * 0x200)).1 = c)
    (hcd : (rowAt (jobDst j.jw + j.done * 0x200)).1 = c) :
    let src := (rowAt (jobSrc j.jw + j.done * 0x200)).2
    let dst := (rowAt (jobDst j.jw + j.done * 0x200)).2
    let u := s.moverComplete c
    u.rowBytes c dst = s.rowBytes c src ∧ u.tag c dst = (s.tag c src || j.iseal) ∧
    (∀ a, (a < rowAddr c dst ∨ rowAddr c dst + 384 ≤ a) → u.byte a = s.byte a) ∧ (u.mover c).jobs = rest ∧
    (u.mover c).cpl = (s.mover c).cpl ++ [⟨bitsOf j.jw.j1.toNat 16 6, 0, j.port, j.done + 1⟩] ∧ u.regs = s.regs := by
  intro src dst u
  have hrow := State.moverRow_own hon hsrc (by simp [hdst]) hcs
  rw [State.moverPut_own hon hdst hcd] at hrow
  have hu := State.moverComplete_running hact hjobs hrun (State.moverRows_last hended hlast hrow hlast)
  obtain ⟨hmem, -, hregs, -, hjobs', hcpl'⟩ := s.moverTaint_frame c (s.tag c src || j.iseal)
  rw [if_pos rfl] at hu
  generalize s.moverTaint c (s.tag c src || j.iseal) = r at hu hmem hregs hjobs' hcpl'
  have hrowBytes := r.rowBytes_writeWide c dst (s.tag c src || j.iseal) (s.length_rowBytes c src)
  have htag := r.tag_writeWide c dst (s.rowBytes c src) (s.tag c src || j.iseal)
  have hout (a : Nat) (ha : a < rowAddr c dst ∨ rowAddr c dst + 384 ≤ a) :=
    r.byte_writeWide_out (bs := s.rowBytes c src) (b := s.tag c src || j.iseal) ha
  obtain ⟨hwregs, hwmover⟩ := r.writeWide_frame c dst (s.rowBytes c src) (s.tag c src || j.iseal)
  generalize r.writeWide c dst (s.rowBytes c src) (s.tag c src || j.iseal) = w at hu hrowBytes htag hout hwregs hwmover
  have hq := w.mover_setMover_same c { w.mover c with jobs := (w.mover c).jobs.drop 1 }
  obtain ⟨hreport, -, huregs, humem, hutags⟩ := State.moverReport_leaves hp (by rw [hq, hwmover, hcpl']; exact hcpl) j.jw
    j.status (j.done + 1) j.id
  rw [← hu] at hreport huregs humem hutags
  refine ⟨(State.rowBytes_congr humem).trans hrowBytes, (State.tag_congr hutags).trans htag, fun a ha => ?_, ?_, ?_,
    huregs.trans (hwregs.trans hregs)⟩
  · exact (State.byte_congr humem a).trans ((hout a ha).trans (State.byte_congr hmem a))
  · rw [hreport, hq, hwmover, hjobs', hjobs, List.drop_one, List.tail_cons]
  · rw [hreport, hq, hwmover, hcpl', hst]

/-- Settles O28: each command is the rule above for the case its hypotheses describe. -/
theorem moverCommands : Obligations.MoverCommands := by
  unfold Obligations.MoverCommands
  refine ⟨?enters, ?entersSealed, ?refused, ?pending, ?full, ?registers, ?starts, ?idle, ?arrives, ?fails, ?rows, ?copied,
    ?egress, fun s ini c ht => congrArg ok (s.cmdWrite_takes _ _ _ ht)⟩
  case enters =>
    intro s ini c p jw ht hok hpend hroom
    exact (becomes_moverJob ht jw).trans (congrArg ok (State.moverIssue_enters hpend hroom hok p false 0))
  case entersSealed =>
    intro s c p jw hs hsl hm hv hok hpend hroom
    exact (becomes_moverJob_sealed hs hsl hm hv jw).trans (congrArg ok (State.moverIssue_enters hpend hroom hok p true 0))
  case refused =>
    intro s ini c p jw ht hbad hpend hroom hp hcpl
    exact ⟨_, becomes_moverJob ht jw,
      State.moverIssue_refused_leaves hpend hroom hbad (fun h => hp (Fin.ext h)) hcpl false 0⟩
  case pending =>
    intro s ini c p jw ht hpend
    exact (becomes_moverJob ht jw).trans (congrArg ok (State.moverIssue_pending hpend p false jw 0))
  case full =>
    intro s ini c p jw ht hpend hfull
    exact (becomes_moverJob ht jw).trans (congrArg ok (State.moverIssue_full hpend hfull p false jw 0))
  case registers =>
    intro s c p jw _ _
    obtain ⟨h0, h1, h2, h3⟩ := s.reg_setPortJob c p jw
    exact ⟨h0, h1, h2, h3, s.onlyRegs_setPortJob c p jw⟩
  case starts => exact fun s c j rest hact hjobs hrun => congrArg ok (State.moverStart_starts hact hjobs hrun)
  case idle => exact fun s c h => congrArg ok (State.moverStart_idle h)
  case arrives =>
    intro s c data j rest hjobs hrun hsrc hasked hgot hended hlen
    exact congrArg ok (State.hostReadDone_arrives hjobs hrun hsrc hasked hgot hended hlen)
  case fails =>
    intro s c data j rest hjobs hrun hsrc hasked hgot hended hlog
    refine ⟨_, congrArg ok (State.hostReadDone_fails hjobs hrun hsrc hasked hgot hended data), ?_⟩
    have h := State.rdfail_leaves (s.setMover c { s.mover c with jobs := { j with status := 2, ended := true } :: rest }) c hlog
    rwa [State.mover_setMover_same] at h
  case rows =>
    intro s c j rest r k hact hjobs hrun hrows
    exact congrArg ok (State.moverComplete_running hact hjobs hrun hrows)
  case copied =>
    intro s c j rest hact hon hjobs hrun hended hst hp hcpl hlast hsrc hdst hcs hcd
    exact ⟨_, rfl, State.moverComplete_copied hact hon hjobs hrun hended hst hp hcpl hlast hsrc hdst hcs hcd⟩
  case egress =>
    intro s c j hon hsrc hdst hc hsealed
    rw [State.moverRow_own hon hsrc (by simp [hdst]) hc, Bool.or_eq_true_iff.mpr hsealed, State.moverPut_egress hdst]

end Sys2Proof.Machine
end

section
/-! Integers stored as words (R327, R333), and the value of each ALU function of a core (Table CORE-4, R329). -/

namespace Sys2Proof.Machine

open Sys2Proof

/-! ### Integers stored as words -/

@[simp] theorem w24_toInt (x : Word) : w24 x.toInt = x := BitVec.ofInt_toInt

@[simp] theorem w24_natCast (n : Nat) : w24 n = BitVec.ofNat 24 n := BitVec.ofInt_natCast 24 n

@[simp] theorem w24_toNat (x : Word) : w24 x.toNat = x := by rw [w24_natCast, BitVec.ofNat_toNat, BitVec.setWidth_eq]

theorem w24_add (a b : Int) : w24 (a + b) = w24 a + w24 b := BitVec.ofInt_add a b

theorem w24_mul (a b : Int) : w24 (a * b) = w24 a * w24 b := BitVec.ofInt_mul a b

theorem w24_sub (a b : Int) : w24 (a - b) = w24 a - w24 b := by
  rw [sub_eq_add_neg, w24_add, BitVec.sub_eq_add_neg]
  exact congrArg (w24 a + ·) BitVec.ofInt_neg

/-- A number shifted up and stored is the stored number shifted up. -/
theorem ofNat_mul_two_pow (n k : Nat) : BitVec.ofNat 24 (n * 2 ^ k) = BitVec.ofNat 24 n <<< k := by
  apply BitVec.eq_of_toNat_eq
  rw [BitVec.toNat_shiftLeft, BitVec.toNat_ofNat, BitVec.toNat_ofNat, Nat.shiftLeft_eq, Nat.mod_mul_mod]

theorem signed_eq_toInt {w : Nat} (hw : 0 < w) (v : Nat) : signed w v = (BitVec.ofNat w v).toInt := by
  have hpow : 2 ^ w = 2 * 2 ^ (w - 1) := by rw [← pow_succ', Nat.sub_add_cancel hw]
  simp only [signed, BitVec.toInt_eq_toNat_cond, BitVec.toNat_ofNat, Nat.cast_pow, Nat.cast_ofNat]
  split_ifs <;> omega

theorem w24_signed {w : Nat} (hw : 0 < w) (v : Nat) : w24 (signed w v) = (BitVec.ofNat w v).signExtend 24 := by
  rw [signed_eq_toInt hw]
  rfl

/-! ### Shifts (functions 5 to 7) -/

theorem w24_shl (x : Word) (n : Nat) : w24 (if 24 ≤ n then 0 else x.toNat * 2 ^ n) = x <<< n := by
  split
  case isTrue h => exact (BitVec.shiftLeft_eq_zero h).symm
  case isFalse =>
    have hcast : (x.toNat : Int) * 2 ^ n = (x.toNat * 2 ^ n : Nat) := by push_cast; rfl
    rw [hcast, w24_natCast, ofNat_mul_two_pow, BitVec.ofNat_toNat, BitVec.setWidth_eq]

theorem w24_shr (x : Word) (n : Nat) : w24 (if 24 ≤ n then 0 else x.toNat / 2 ^ n) = x >>> n := by
  split
  case isTrue h => exact (BitVec.ushiftRight_eq_zero h).symm
  case isFalse =>
    have hcast : (x.toNat : Int) / 2 ^ n = (x >>> n).toNat := by
      rw [BitVec.toNat_ushiftRight, Nat.shiftRight_eq_div_pow]
      push_cast
      rfl
    rw [hcast, w24_toNat]

theorem w24_sar (x : Word) (n : Nat) : w24 (x.toInt / 2 ^ n) = x.sshiftRight n := by
  rw [BitVec.sshiftRight, Int.shiftRight_eq_div_pow, w24, Nat.cast_pow, Nat.cast_ofNat]

/-! ### Compares, minima and maxima (functions 8 to 13) -/

theorem w24_b2n (p : Bool) : w24 (b2n p) = if p then 1 else 0 := by cases p <;> rfl

section
variable {f : Word → Int} (hf : ∀ z, w24 (f z) = z)
include hf

theorem w24_min (x y : Word) : w24 (min (f x) (f y)) = if f x < f y then x else y := by
  rw [min_def_lt, apply_ite w24, hf, hf]

theorem w24_max (x y : Word) : w24 (max (f x) (f y)) = if f x < f y then y else x := by
  rw [max_def_lt, apply_ite w24, hf, hf]

end

/-! ### High halves of products (functions 17 and 18) -/

/-- The high half of a 48-bit product is the product divided by 2^24, rounded down. -/
theorem w24_div_two_pow_24 (v : Int) : w24 (v / 2 ^ 24) = (BitVec.ofInt 48 v).extractLsb' 24 24 := by
  apply BitVec.eq_of_toNat_eq
  rw [w24, BitVec.toNat_ofInt, BitVec.extractLsb'_toNat, BitVec.toNat_ofInt, Nat.shiftRight_eq_div_pow]
  omega

/-! ### Quotients and remainders (R329) -/

section
variable {x y : Word} (hy : y ≠ 0)
include hy

theorem word_toInt_ne_zero : y.toInt ≠ 0 := fun h => hy (BitVec.toInt_inj.mp (h.trans BitVec.toInt_zero.symm))

theorem word_toNat_ne_zero : y.toNat ≠ 0 := fun h => hy (BitVec.eq_of_toNat_eq h)

/-- Away from the two cases of R329 that saturate, the quotient is the one truncated toward zero. -/
theorem divS_exact (hov : ¬(x = 0x800000 ∧ y = 0xFFFFFF)) :
    divS x.toInt y.toInt = ((x.sdiv y).toInt, false) := by
  have hmin : ¬(x.toInt = -8388608 ∧ y.toInt = -1) := fun h =>
    hov ⟨BitVec.toInt_inj.mp (h.1.trans (by decide)), BitVec.toInt_inj.mp (h.2.trans (by decide))⟩
  have hne : x ≠ BitVec.intMin 24 ∨ y ≠ -1#24 := not_and_or.mp hov
  rw [divS, if_neg (word_toInt_ne_zero hy), if_neg hmin, BitVec.toInt_sdiv_of_ne_or_ne x y hne]

theorem w24_srem : w24 (if y.toInt = 0 then 0 else x.toInt - y.toInt * Int.tdiv x.toInt y.toInt) = x.srem y := by
  have hrem : x.toInt - y.toInt * Int.tdiv x.toInt y.toInt = (x.srem y).toInt := by
    rw [BitVec.toInt_srem, Int.tmod_def]
  rw [if_neg (word_toInt_ne_zero hy), hrem, w24_toInt]

theorem w24_umod : w24 (if y.toNat = 0 then 0 else x.toNat % y.toNat) = x % y := by
  have hrem : (x.toNat : Int) % y.toNat = (x % y).toNat := by rw [BitVec.toNat_umod, Int.natCast_emod]
  rw [if_neg (word_toNat_ne_zero hy), hrem, w24_toNat]

theorem alu_divu (n : Nat) : alu 0x15 x y n = some (x / y, false) := by
  have hquot : (x.toNat : Int) / y.toNat = (x / y).toNat := by rw [BitVec.toNat_udiv, Int.natCast_ediv]
  rw [alu, if_neg (word_toNat_ne_zero hy), hquot]
  exact congrArg (fun v => some (v, false)) (w24_toNat _)

end

/-- A division by zero takes the end of the range on the dividend's side. -/
theorem alu_div_zero (x : Word) (n : Nat) : alu 0x14 x 0 n = some (if x.slt 0 then 0x800000 else 0x7FFFFF, true) := by
  rw [alu, BitVec.slt_eq_decide]
  by_cases h : x.toInt < 0 <;> simp [divS, h, w24]

/-! ### Leading bits (functions 24 and 25) -/

theorem bitOf_top {m x : Nat} (hge : 2 ^ m ≤ x) (hlt : x < 2 ^ (m + 1)) : bitOf x m = true := by
  rw [bitOf_eq_testBit]
  exact Nat.testBit_of_two_pow_le_and_two_pow_add_one_gt hge hlt

theorem bitOf_above {m x : Nat} (h : x < 2 ^ m) : bitOf x m = false := by
  rw [bitOf_eq_testBit]
  exact Nat.testBit_lt_two_pow h

theorem leadZeros_of_top {m x : Nat} (hge : 2 ^ m ≤ x) (hlt : x < 2 ^ (m + 1)) : leadZeros (m + 1) x = 0 := by
  rw [leadZeros, if_pos (bitOf_top hge hlt)]

theorem leadZeros_below {m x : Nat} (hlt : x < 2 ^ m) : leadZeros (m + 1) x = leadZeros m x + 1 := by
  rw [leadZeros, bitOf_above hlt, if_neg Bool.false_ne_true, Nat.add_comm]

/-- A number below `m - n` bits has `n` leading zeros among `m` where its bit below them is set, or none is left. -/
theorem leadZeros_eq {m n x : Nat} (hn : n ≤ m) (hlt : x < 2 ^ (m - n)) (hge : n = m ∨ 2 ^ (m - 1 - n) ≤ x) :
    leadZeros m x = n := by
  induction m generalizing n with
  | zero => exact (Nat.le_zero.mp hn).symm
  | succ m ih =>
    cases n with
    | zero => exact leadZeros_of_top (by simpa using hge) hlt
    | succ n =>
      rw [Nat.add_sub_add_right] at hlt
      have hm : x < 2 ^ m := hlt.trans_le (Nat.pow_le_pow_right (by decide) (Nat.sub_le m n))
      have hge' : n = m ∨ 2 ^ (m - 1 - n) ≤ x := by
        rcases hge with h | h
        · exact .inl (Nat.succ.inj h)
        · exact .inr (by rwa [Nat.add_sub_cancel, Nat.sub_add_eq, Nat.sub_right_comm] at h)
      rw [leadZeros_below hm, ih (Nat.le_of_succ_le_succ hn) hlt hge']

/-- The bits of a word that count for CLS: its own where it is not negative, else their complement. -/
def signDistance (x : Word) : Nat := if x.toInt < 0 then (-1 - x.toInt).toNat else x.toInt.toNat

theorem leadSigns_eq_leadZeros (x : Word) : leadSigns x = leadZeros 23 (signDistance x) := by
  have hlt := x.isLt
  have htop : bitOf x.toNat 23 = decide (x.toInt < 0) := by
    rw [bitOf_eq_testBit, BitVec.testBit_toNat, ← BitVec.msb_eq_toInt, BitVec.msb_eq_getLsbD_last]
  have hval : x.toInt = if 2 * x.toNat < 2 ^ 24 then (x.toNat : Int) else (x.toNat : Int) - (2 ^ 24 : Nat) :=
    x.toInt_eq_toNat_cond
  rw [leadSigns, htop, signDistance]
  by_cases h : x.toInt < 0
  · rw [if_pos (by simpa using h), if_pos h]
    congr 1
    split_ifs at hval <;> omega
  · rw [if_neg (by simpa using h), if_neg h]
    congr 1
    split_ifs at hval <;> omega

theorem leadSigns_eq {x : Word} {n : Nat} (hn : n ≤ 23) (hlo : -(2 ^ (23 - n)) ≤ x.toInt)
    (hhi : x.toInt < 2 ^ (23 - n)) (hge : n = 23 ∨ x.toInt < -(2 ^ (22 - n)) ∨ 2 ^ (22 - n) ≤ x.toInt) :
    leadSigns x = n := by
  have h23 : ((2 ^ (23 - n) : Nat) : Int) = 2 ^ (23 - n) := by push_cast; rfl
  have h22 : ((2 ^ (23 - 1 - n) : Nat) : Int) = 2 ^ (22 - n) := by push_cast; rfl
  rw [leadSigns_eq_leadZeros]
  apply leadZeros_eq hn <;> rw [signDistance] <;> split_ifs <;> omega

/-- Settles O32: each function of Table CORE-4 is the word operation that computes its integer. -/
theorem aluResults : Obligations.AluResults := by
  unfold Obligations.AluResults
  have value {v : Int} {w : Word} (h : w24 v = w) : some (w24 v, false) = some (w, false) := by rw [h]
  refine ⟨?add, ?sub, fun _ _ _ => rfl, fun _ _ _ => rfl, fun _ _ _ => rfl, ?shl, ?shru, ?shrs, ?slt, ?sltu, ?min,
    ?max, ?minu, ?maxu, ?mul, ?mulx, ?mulxu, ?div, alu_div_zero, fun _ => rfl, ?divu, fun _ _ => rfl, ?rmd, ?rmdu,
    fun _ _ => ⟨rfl, rfl⟩, ?clz, ?cls, ?sx12⟩
  case add => exact fun x y n => value (by rw [w24_add, w24_toInt, w24_toInt])
  case sub => exact fun x y n => value (by rw [w24_sub, w24_toInt, w24_toInt])
  case shl => exact fun x y n => value (w24_shl x _)
  case shru => exact fun x y n => value (w24_shr x _)
  case shrs => exact fun x y n => value (w24_sar x _)
  case slt => exact fun x y n => value (by rw [w24_b2n, BitVec.slt_eq_decide])
  case sltu => exact fun x y n => value (by rw [w24_b2n, BitVec.ult_eq_decide])
  case min => exact fun x y n => value (by simp [w24_min w24_toInt, BitVec.slt_eq_decide])
  case max => exact fun x y n => value (by simp [w24_max w24_toInt, BitVec.slt_eq_decide])
  case minu => exact fun x y n => value (by simpa [BitVec.ult_eq_decide] using w24_min w24_toNat x y)
  case maxu => exact fun x y n => value (by simpa [BitVec.ult_eq_decide] using w24_max w24_toNat x y)
  case mul => exact fun x y n => value (by rw [w24_mul, w24_toInt, w24_toInt])
  case mulx => exact fun x y n => value (by rw [w24_div_two_pow_24, BitVec.ofInt_mul]; rfl)
  case mulxu =>
    intro x y n
    have hzero (z : Word) : BitVec.ofInt 48 z.toNat = z.zeroExtend 48 :=
      (BitVec.ofInt_natCast 48 z.toNat).trans (BitVec.ofNat_toNat 48 z)
    exact value (by rw [w24_div_two_pow_24, BitVec.ofInt_mul, hzero, hzero])
  case div =>
    intro x y n hy hov
    rw [alu, divS_exact hy hov, w24_toInt]
  case divu => exact fun x y n hy => alu_divu hy n
  case rmd => exact fun x y n hy => value (w24_srem hy)
  case rmdu => exact fun x y n hy => value (w24_umod hy)
  case clz => exact fun x n hn hlt hge => value (by rw [leadZeros_eq hn hlt hge, w24_natCast])
  case cls => exact fun x n hn hlo hhi hge => value (by rw [leadSigns_eq hn hlo hhi hge, w24_natCast])
  case sx12 => exact fun x => value (w24_signed (by decide) x.toNat)

end Sys2Proof.Machine
end

section
/-! The integer instructions, branches and calls of a core that runs (Tables CORE-3 and CORE-4, R326-R328). -/

namespace Sys2Proof.Machine

open Sys2Proof

/-! ### One instruction of a core that runs -/

section
variable {s : State} {c : CoreSt} {k : Nat} {body : CoreSt → Option CoreSt} (h : s.coreRuns k = true)
include h

theorem ok_instr_some (hb : body (s.core k) = some c) : ok (s.instr k body) = .next (s.setCore k c.retired) := by
  rw [State.instr_runs h, hb]
  rfl

theorem ok_instr_none (hb : body (s.core k) = none) : ok (s.instr k body) = .next (s.illegal k) := by
  rw [State.instr_runs h, hb]
  rfl

end

/-! ### Integer instructions (Tables CORE-3 and CORE-4) -/

theorem shi_of_kind (kind : Fin 3) (n : Fin 24) (x : Word) : shi (BitVec.ofNat 10 (256 * kind + n)).toNat x =
    some (if kind = 0 then x <<< (n : Nat) else if kind = 1 then x >>> (n : Nat) else x.sshiftRight n) := by
  have hn := n.isLt
  have himm : (BitVec.ofNat 10 (256 * kind + n)).toNat = 256 * kind + n := by
    rw [BitVec.toNat_ofNat, Nat.mod_eq_of_lt (by omega)]
  have hamount : (256 * (kind : Nat) + n) % 32 = n := by omega
  have hzero : (256 * (kind : Nat) + n) / 32 % 8 = 0 := by omega
  have hkind : (256 * (kind : Nat) + n) / 256 = kind := by omega
  rw [himm, shi, hamount, hzero, hkind, if_neg (by omega)]
  fin_cases kind <;> rfl

theorem shi_unlisted {imm : Nat} (h : 23 < imm % 32 ∨ imm / 32 % 8 ≠ 0 ∨ imm / 256 = 3) (x : Word) :
    shi imm x = none := by
  rw [shi]
  split
  case isTrue => rfl
  case isFalse hfields =>
    have hkind : imm / 256 = 3 := by omega
    rw [hkind]
    rfl

theorem alu_above (n : Nat) (x y : Word) (rs2 : Nat) : alu (n + 27) x y rs2 = none := rfl

/-- A function of one operand takes no rs2 other than 0 (R326). -/
theorem alu_unary {fn rs2 : Nat} (hlo : 23 < fn) (hhi : fn ≤ 26) (h : rs2 ≠ 0) (x y : Word) :
    alu fn x y rs2 = none := by
  interval_cases fn <;> exact if_neg h

theorem alu_unlisted {fn : Fin 64} {rs2 : Fin 16}
    (h : fn ∈ [14, 15, 19] ∨ 26 < (fn : Nat) ∨ (23 < (fn : Nat) ∧ rs2 ≠ 0)) (x y : Word) : alu fn x y rs2 = none := by
  have habove (h : 26 < (fn : Nat)) : alu fn x y rs2 = none := by
    rw [← Nat.sub_add_cancel h]
    exact alu_above _ x y rs2
  rcases h with h | h | ⟨h, hr⟩
  · simp only [List.mem_cons, List.not_mem_nil, or_false] at h
    rcases h with rfl | rfl | rfl <;> rfl
  · exact habove h
  · rcases Nat.lt_or_ge 26 fn with hfn | hfn
    · exact habove hfn
    · exact alu_unary h hfn (Fin.val_ne_zero_iff.mpr hr) x y

/-- Settles O31: an instruction of a core that runs writes its table's value, and raises ILLEGAL where there is none. -/
theorem coreIntegers : Obligations.CoreIntegers := by
  unfold Obligations.CoreIntegers
  refine ⟨?addi, ?andi, ?ori, ?xori, ?tlti, ?lih, ?shi, ?shiBad, ?alu, ?aluSat, ?aluBad, ?retired,
    fun c v => ⟨rfl, rfl⟩⟩
  case addi | andi | ori | xori | tlti => exact fun s k rd rs1 imm h => ok_instr_some h rfl
  case lih =>
    intro s k rd imm h
    have hval : BitVec.ofNat 24 (imm.toNat * 2 ^ 10) = imm.zeroExtend 24 <<< 10 := by
      rw [ofNat_mul_two_pow, BitVec.ofNat_toNat]
    rw [← hval]
    exact ok_instr_some h rfl
  case shi =>
    intro s k rd rs1 kind n h
    exact ok_instr_some h (by rw [shi_of_kind]; rfl)
  case shiBad =>
    intro s k rd rs1 imm h hbad
    exact ok_instr_none h (by rw [shi_unlisted hbad]; rfl)
  case alu | aluSat =>
    intro s k fn rd rs1 rs2 v h hv
    exact ok_instr_some h (by rw [hv]; rfl)
  case aluBad =>
    intro s k fn rd rs1 rs2 h hbad
    exact ok_instr_none h (by rw [alu_unlisted hbad])
  case retired =>
    intro c hstep hhalt
    simp [CoreSt.retired, CoreSt.boundary, CoreSt.settle, CoreSt.setCsr, hstep, hhalt]

/-! ### Branches and calls (R328) -/

theorem cond_ne (x y : Word) : cond 1 x y = decide (x ≠ y) := decide_not.symm

theorem cond_ge (x y : Word) : cond 3 x y = !x.slt y := by simp [cond, BitVec.slt_eq_decide, ← decide_not]

theorem cond_geu (x y : Word) : cond 5 x y = !x.ult y := by simp [cond, BitVec.ult_eq_decide, ← decide_not]

theorem cond_eq (n : Fin 6) (x y : Word) : cond n x y = match (n : Nat) with
    | 0 => decide (x = y) | 1 => decide (x ≠ y) | 2 => x.slt y | 3 => !x.slt y | 4 => x.ult y | _ => !x.ult y := by
  fin_cases n
  exacts [rfl, cond_ne x y, rfl, cond_ge x y, rfl, cond_geu x y]

theorem CoreSt.branch_of_cond {c : CoreSt} {n : Nat} {x y : Word} {taken : Bool} (h : cond n x y = taken)
    (off : BitVec 10) :
    c.branch (cond n x y) off = { c with pc := if taken then c.pc + off.signExtend 16 else c.pc + 1 } := by
  rw [h]
  cases taken <;> rfl

/-- Settles O33: a branch goes by its condition, a call writes its link. -/
theorem coreBranches : Obligations.CoreBranches := by
  unfold Obligations.CoreBranches
  refine ⟨?cb, ?cz, fun s k rd off h => ok_instr_some h rfl,
    fun s k rd rs1 imm h => ok_instr_some h rfl⟩
  case cb =>
    intro s k n rs1 rs2 off h
    exact ok_instr_some h (congrArg some (CoreSt.branch_of_cond (cond_eq n _ _) off))
  case cz =>
    intro s k n rs1 imm off h
    exact ok_instr_some h (congrArg some (CoreSt.branch_of_cond (cond_eq n _ (czConst n imm)) off))

end Sys2Proof.Machine
end

section
/-! The fixed-point, accumulator and half-word instructions of a core that runs (Tables CORE-5 to CORE-7, R333-R340). -/

namespace Sys2Proof.Machine

open Sys2Proof

variable {c : CoreSt}

/-! ### The fit of a core (R333, R334) -/

theorem ofNat_unsigned (w : Nat) (v : Int) : BitVec.ofNat w (unsigned w v) = BitVec.ofInt w v := by
  have hmod : 0 ≤ v % ((2 ^ w : Nat) : Int) := Int.emod_nonneg v (by positivity)
  apply BitVec.eq_of_toInt_eq
  rw [unsigned, ← BitVec.ofInt_natCast, ← Nat.cast_ofNat, ← Nat.cast_pow, Int.toNat_of_nonneg hmod, BitVec.toInt_ofInt,
    BitVec.toInt_ofInt, Int.emod_bmod]

section
variable {q lo hi : Int} {w : Nat} {sat : Bool}

theorem CoreSt.fitted_kept (h : sat = false ∨ (lo ≤ q ∧ q ≤ hi)) : c.fitted q lo hi w sat = (unsigned w q, c) := by
  have hin : (sat && (decide (q < lo) || decide (hi < q))) = false := by
    rcases h with h | ⟨hlo, hhi⟩
    · simp [h]
    · simp [hlo.not_gt, hhi.not_gt]
  simp [CoreSt.fitted, fit, hin]

theorem CoreSt.fitted_above (h : lo ≤ hi) (hq : hi < q) :
    c.fitted q lo hi w true = (unsigned w hi, c.countSat 1) := by
  simp [CoreSt.fitted, fit_saturating h, hq, min_eq_left hq.le, max_eq_right h]

theorem CoreSt.fitted_below (h : lo ≤ hi) (hq : q < lo) :
    c.fitted q lo hi w true = (unsigned w lo, c.countSat 1) := by
  simp [CoreSt.fitted, fit_saturating h, hq, min_eq_right (hq.le.trans h), max_eq_left hq.le]

end

variable {rd : Nat} {q : Int} {sat : Bool}

theorem CoreSt.putFit_kept (h : sat = false ∨ (-(2 ^ 23) ≤ q ∧ q ≤ 2 ^ 23 - 1)) :
    c.putFit rd q sat = c.setReg rd (BitVec.ofInt 24 q) := by
  rw [CoreSt.putFit, CoreSt.fitted_kept (by simpa using h)]
  exact congrArg (c.setReg rd) (ofNat_unsigned 24 q)

/-- Settles O38: QADD writes the fit of its exact value, and a fit keeps the value or takes the end it passes. -/
theorem fixedPointSums : Obligations.FixedPointSums := by
  unfold Obligations.FixedPointSums
  refine ⟨?sums, fun c rd q sat h => CoreSt.putFit_kept h, ?above, ?below⟩
  case sums =>
    intro s k rd rs1 rs2 sat h
    have habs (a : Int) : |a| = (a.natAbs : Int) := Int.abs_eq_natAbs a
    refine ⟨ok_instr_some h rfl, ok_instr_some h rfl, ok_instr_some h rfl, ?_⟩
    rw [habs]
    exact ok_instr_some h rfl
  case above =>
    intro c rd q hq
    rw [CoreSt.putFit, CoreSt.fitted_above (by decide) (by simpa using hq)]
    rfl
  case below =>
    intro c rd q hq
    rw [CoreSt.putFit, CoreSt.fitted_below (by decide) (by simpa using hq)]
    rfl

/-! ### Accumulation (R338) -/

/-- Settles O39: MAC keeps the fit of the sum to the accumulator's 56 bits. -/
theorem multiplyAccumulate : Obligations.MultiplyAccumulate := by
  unfold Obligations.MultiplyAccumulate
  refine ⟨?mac, fun x y => ⟨rfl, rfl⟩,
    fun c v => ⟨CoreSt.fitted_kept (.inl rfl), fun hlo hhi => CoreSt.fitted_kept (.inr ⟨hlo, hhi⟩)⟩,
    fun c v hv => CoreSt.fitted_above (by decide) hv, fun c v hv => CoreSt.fitted_below (by decide) hv⟩
  intro s k rd rs1 rs2 sat sub p h hp hrd
  refine ok_instr_some h ?_
  have hbit : bitOf rd 3 = false := bitOf_above hrd
  simp [hbit, hp]

/-! ### Fixed-point instructions (R335-R338) -/

theorem qShift_above (n : Nat) : qShift (n + 5) = none := rfl

theorem qadd_unlisted {sub rs2 : Nat} (h : 3 < sub ∨ (1 < sub ∧ rs2 ≠ 0)) (a b : Int) : qadd sub a b rs2 = none := by
  rcases Nat.lt_or_ge 3 sub with h3 | h3
  · obtain ⟨n, rfl⟩ := Nat.exists_eq_add_of_le' h3
    rfl
  · obtain ⟨h1, hr⟩ := h.resolve_left h3.not_gt
    interval_cases sub <;> exact if_neg hr

theorem macProd_above (n : Nat) (x y : Word) : macProd (n + 2) x y = none := rfl

/-! ### The accumulators (R338, R339, Table CORE-7) -/

theorem accxShift_eq {sub : Fin 8} {rs2 : Fin 16} {sh : Nat} {y : Word}
    (h : if sub = 5 then sh = min (y.toNat % 64) 47 else rs2 = 0 ∧ qShift sub = some sh) :
    accxShift sub rs2 y = some sh := by
  split at h
  case isTrue hsub => rw [hsub, h]; rfl
  case isFalse hsub =>
    obtain ⟨rfl, hsh⟩ := h
    exact (if_neg (Fin.val_ne_of_ne hsub)).trans hsh

theorem accxShift_unlisted {sub rs2 : Nat} (h : 5 < sub ∨ (sub ≠ 5 ∧ rs2 ≠ 0)) (y : Word) :
    accxShift sub rs2 y = none := by
  rw [accxShift, if_neg (by omega)]
  rcases h with h | ⟨-, hr⟩
  · obtain ⟨n, rfl⟩ := Nat.exists_eq_add_of_le' h
    exact ite_self none
  · exact if_neg hr

/-- Function 7 clamps the accumulator to 48 bits and counts the clamp. -/
theorem accFn_clamp (x : Nat) (c : CoreSt) : accFn 7 x 0 0 c =
    some ((if -(2 ^ 47) ≤ c.acc x ∧ c.acc x < 2 ^ 47 then c else c.countSat 1).setAcc x
      (max (-(2 ^ 47)) (min (2 ^ 47 - 1) (c.acc x)))) := by
  have hkept : clampI (-(2 ^ 47)) (2 ^ 47 - 1) (c.acc x) = c.acc x ↔ -(2 ^ 47) ≤ c.acc x ∧ c.acc x < 2 ^ 47 := by
    rw [clampI]
    split_ifs <;> omega
  rw [← clampI_eq_max_min (by decide), ← if_congr hkept rfl rfl]
  rfl

theorem accFn_unlisted {fn x rd rs1 : Nat}
    (h : 9 < fn ∨ (fn ≤ 2 ∧ rs1 ≠ 0) ∨ (3 ≤ fn ∧ rd ≠ 0) ∨ (6 ≤ fn ∧ fn ≤ 8 ∧ rs1 ≠ 0)) (c : CoreSt) :
    accFn fn x rd rs1 c = none := by
  by_cases h1 : fn ≤ 2 ∧ rs1 ≠ 0
  · exact if_pos h1
  by_cases h2 : 3 ≤ fn ∧ rd ≠ 0
  · exact (if_neg h1).trans (if_pos h2)
  by_cases h3 : 6 ≤ fn ∧ fn ≤ 8 ∧ rs1 ≠ 0
  · exact (if_neg h1).trans ((if_neg h2).trans (if_pos h3))
  obtain ⟨n, rfl⟩ := Nat.exists_eq_add_of_le' (show 10 ≤ fn by omega)
  unfold accFn
  rw [if_neg h1, if_neg h2, if_neg h3]
  rfl

/-! ### Halves of words (R340) -/

theorem unsigned_add_signed (a b : Nat) : unsigned 12 (signed 12 a + signed 12 b) = (a + b) % 4096 := by
  simp only [unsigned, signed]
  split_ifs <;> omega

theorem hiH_eq (x : Word) : hiH x = x.toInt / 2 ^ 12 := by
  have hlt := x.isLt
  rw [hiH, signed, x.toInt_eq_toNat_cond]
  split_ifs <;> omega

theorem hopFn_add (x y : Word) (c : CoreSt) : hopFn 0 0 0 false x y c =
    some (BitVec.ofNat 24 ((x.toNat + y.toNat) % 4096 + 4096 * ((x.toNat / 4096 + y.toNat / 4096) % 4096)), c) := by
  have hfit : hopFn 0 0 0 false x y c = some (c.fitHalves (loH x + loH y) (hiH x + hiH y) false) := rfl
  rw [hfit, CoreSt.fitHalves, CoreSt.fitted_kept (.inl rfl), CoreSt.fitted_kept (.inl rfl)]
  simp only [loH, hiH, unsigned_add_signed]

theorem hopFn_pack (x y : Word) (c : CoreSt) :
    hopFn 3 0 0 false x y c = some (BitVec.ofNat 24 (x.toNat % 4096 + 4096 * (y.toNat % 4096)), c) := by
  rw [Nat.add_comm, Nat.mul_comm]
  rfl

theorem hopFn_unlisted {sub rs2 rm : Nat} {sat : Bool}
    (h : 5 < sub ∨ (sub ≠ 2 ∧ rm ≠ 0) ∨ (3 ≤ sub ∧ sat = true) ∨ (4 ≤ sub ∧ rs2 ≠ 0)) (x y : Word) (c : CoreSt) :
    hopFn sub rs2 rm sat x y c = none := by
  by_cases hrm : sub ≠ 2 ∧ rm ≠ 0
  · exact if_pos hrm
  by_cases hsat : 3 ≤ sub ∧ sat = true
  · exact (if_neg hrm).trans (if_pos hsat)
  refine (if_neg hrm).trans ((if_neg hsat).trans ?_)
  rcases h with h | h | h | ⟨h4, hr⟩
  · obtain ⟨n, rfl⟩ := Nat.exists_eq_add_of_le' h
    rfl
  · exact absurd h hrm
  · exact absurd h hsat
  · rcases Nat.lt_or_ge 5 sub with h5 | h5
    · obtain ⟨n, rfl⟩ := Nat.exists_eq_add_of_le' h5
      rfl
    · interval_cases sub <;> exact if_neg hr

/-- Settles O34: an instruction of a core that runs has its function's effect, and raises ILLEGAL where it has none. -/
theorem coreFixedPoint : Obligations.CoreFixedPoint := by
  unfold Obligations.CoreFixedPoint
  refine ⟨?qmul, rfl, ?qmulBad, ?qaddBad, ?qsh, ?qshBad, ?macBad, ?accx, ?accxBad, ?acc, ?accFns, ?accBad, ?hop,
    ?hopFns, ?hopBad⟩
  case qmul =>
    intro s k rd rs1 rs2 rm sat sub sh h hsh
    exact ok_instr_some h (by rw [hsh]; rfl)
  case qmulBad =>
    intro s k rd rs1 rs2 rm sat sub h hsub
    obtain ⟨n, hn⟩ := Nat.exists_eq_add_of_le' hsub
    exact ok_instr_none h (by rw [hn, qShift_above]; rfl)
  case qaddBad =>
    intro s k rd rs1 rs2 rm sat sub h hbad
    refine ok_instr_none h ?_
    split_ifs with hrm
    · rfl
    · rw [qadd_unlisted (by simpa using hbad.resolve_left hrm)]
      rfl
  case qsh =>
    intro s k rd rs1 rs2 rm sat h
    exact ⟨ok_instr_some h rfl, ok_instr_some h rfl⟩
  case qshBad =>
    intro s k rd rs1 rs2 rm sat sub h hbad
    refine ok_instr_none h ?_
    dsimp only
    rw [if_neg (by omega), if_neg (by omega)]
  case macBad =>
    intro s k rd rs1 rs2 rm sat sub h hbad
    refine ok_instr_none h ?_
    by_cases hfields : rm ≠ 0 ∨ bitOf rd 3
    · exact if_pos hfields
    · have hrd : ¬7 < (rd : Nat) := fun hlt => hfields (.inr (bitOf_top hlt rd.isLt))
      have hsub : 2 ≤ (sub : Nat) := (hbad.resolve_left fun hrm => hfields (.inl hrm)).resolve_left hrd
      obtain ⟨n, hn⟩ := Nat.exists_eq_add_of_le' hsub
      rw [if_neg hfields, hn, macProd_above]
      rfl
  case accx =>
    intro s k rd rs1 rs2 rm sat sub sh h hx hsh
    refine ok_instr_some h ?_
    rw [if_neg (by omega), accxShift_eq hsh]
    rfl
  case accxBad =>
    intro s k rd rs1 rs2 rm sat sub h hbad
    refine ok_instr_none h ?_
    split_ifs with hx
    · rfl
    · rw [accxShift_unlisted (by omega)]
      rfl
  case acc =>
    intro s k rd rs1 rs2 fn c h hx hc
    exact ok_instr_some h (by rw [if_neg (by omega), hc]; rfl)
  case accFns =>
    intro c x r hx
    refine ⟨rfl, rfl, ?_, rfl, rfl, rfl, rfl, accFn_clamp x c, rfl, rfl⟩
    rw [← w24_signed (by decide)]
    rfl
  case accBad =>
    intro s k rd rs1 rs2 fn h hbad
    refine ok_instr_none h ?_
    split_ifs with hx
    · rfl
    · rw [accFn_unlisted (by omega)]
      rfl
  case hop =>
    intro s k rd rs1 rs2 rm sat sub r h hr
    exact ok_instr_some h (by rw [hr]; rfl)
  case hopFns =>
    intro x y c
    refine ⟨hopFn_add x y c, hopFn_pack x y c, ?_, ?_⟩
    · exact congrArg (fun v => some (v, c)) (w24_signed (by decide) x.toNat)
    · exact congrArg (fun v => some (v, c)) ((congrArg w24 (hiH_eq x)).trans (w24_sar x 12))
  case hopBad =>
    intro s k rd rs1 rs2 rm sat sub h hbad
    have hfields : 5 < (sub : Nat) ∨ ((sub : Nat) ≠ 2 ∧ (rm : Nat) ≠ 0) ∨ (3 ≤ (sub : Nat) ∧ sat = true) ∨
        (4 ≤ (sub : Nat) ∧ (rs2 : Nat) ≠ 0) :=
      hbad.imp_right (Or.imp (And.imp Fin.val_ne_of_ne Fin.val_ne_of_ne)
        (Or.imp_right (And.imp_right Fin.val_ne_of_ne)))
    exact ok_instr_none h (by rw [hopFn_unlisted hfields]; rfl)

end Sys2Proof.Machine
end

section
/-! Dataflow arrays: their ports, their schedule memory and their timetables (R369-R380, R386, R387). -/

namespace Sys2Proof.Machine

open Sys2Proof

variable {s t : State} {c q : Nat}

/-- A fold whose steps on the list leave the state leaves it. -/
theorem foldl_eq_self {α β : Type} {f : β → α → β} {b : β} {l : List α} (h : ∀ x ∈ l, f b x = b) :
    l.foldl f b = b := by
  induction l with
  | nil => rfl
  | cons x l ih =>
    rw [List.foldl_cons, h x List.mem_cons_self]
    exact ih fun y hy => h y (List.mem_cons_of_mem x hy)

@[simp] theorem State.setDfa_setDfa (s : State) (c : Nat) (x y : Dfa) : (s.setDfa c x).setDfa c y = s.setDfa c y := by
  simp only [State.setDfa, tabSet_tabSet]

/-! ### Ports -/

theorem Dfa.port_setPort (d : Dfa) (q j : Nat) (p : DfaPort) :
    (d.setPort q p).port j = if j = q then p else d.port j := tabGet_tabSet _ _ _ _ _

@[simp] theorem Dfa.port_setPort_same (d : Dfa) (q : Nat) (p : DfaPort) : (d.setPort q p).port q = p :=
  tabGet_tabSet_same _ _ _ _

/-- Each of the first n ports changed by itself; the array keeps what else it holds. -/
theorem Dfa.foldl_setPort (f : Nat → DfaPort → DfaPort) (d : Dfa) (n : Nat) :
    ∃ ps, (List.range n).foldl (fun d q => d.setPort q (f q (d.port q))) d = { d with ports := ps } ∧
      ∀ j, tabGet (fun _ => {}) ps j = if j < n then f j (d.port j) else d.port j := by
  induction n with
  | zero => exact ⟨d.ports, rfl, fun j => rfl⟩
  | succ n ih =>
    obtain ⟨ps, hfold, hports⟩ := ih
    have hn : tabGet (fun _ => {}) ps n = d.port n := (hports n).trans (if_neg (lt_irrefl n))
    refine ⟨tabSet (fun _ => {}) ps n (f n (d.port n)), ?_, fun j => ?_⟩
    · rw [List.range_succ, List.foldl_append, hfold, ← hn]
      rfl
    · rw [tabGet_tabSet, hports]
      rcases eq_or_ne j n with rfl | hne
      · rw [if_pos rfl, if_pos (Nat.lt_succ_self j)]
      · rw [if_neg hne]
        exact if_congr (by omega) rfl rfl

theorem State.flushPort_idle (h : ((s.dfa c).port q).fill = []) : s.flushPort c q = s := by
  simp [State.flushPort, h]

/-- Where no port reads a stream, no request waits to be served before a write (R374). -/
theorem State.serveRow_idle (h : ∀ j < 32, ((s.dfa c).port j).en = false ∨ ((s.dfa c).port j).writes = true) (r : Nat) :
    s.serveRow c r = s := by
  refine foldl_eq_self fun j hj => ?_
  rcases h j (List.mem_range.mp hj) with h | h <;> simp [State.serveRow.serve, h]

/-! ### The schedule memory under a change of the array -/

theorem State.sched_congr (h : t.mem = s.mem) (off : Nat) : t.sched c off = s.sched c off := by
  simp only [State.sched, State.bytes, h]

theorem State.slotWord_congr (h : t.mem = s.mem) (k j : Nat) : t.slotWord c k j = s.slotWord c k j :=
  State.sched_congr h _

theorem State.dfaEntry_congr (h : t.mem = s.mem) (k : Nat) : t.dfaEntry c k = s.dfaEntry c k := by
  simp only [State.dfaEntry, State.entryWord, State.sched_congr h]

theorem State.timetable_congr (h : t.mem = s.mem) (k : Nat) : t.timetable c k = s.timetable c k := by
  have hgo (fuel j : Nat) : State.timetable.go t c k fuel j = State.timetable.go s c k fuel j := by
    induction fuel generalizing j with
    | zero => rfl
    | succ fuel ih => rw [State.timetable.go, State.timetable.go, State.slotWord_congr h, ih]
  exact hgo 8 0

/-! ### The turn to an entry of a timetable (R379) -/

/-- Port q as its descriptor of round r leaves it: CONT keeps all but EN. -/
def State.loadedPort (s : State) (c r q : Nat) (p : DfaPort) : DfaPort :=
  if bitOf (s.portDesc c r q 1) 5 then { p with pd1 := putBits p.pd1 4 1 (b2n (bitOf (s.portDesc c r q 1) 4)) }
  else { pd0 := s.portDesc c r q 0, pd1 := s.portDesc c r q 1 }

theorem State.loadedPort_new {r : Nat} (h : bitOf (s.portDesc c r q 1) 5 = false) (p : DfaPort) :
    s.loadedPort c r q p = { pd0 := s.portDesc c r q 0, pd1 := s.portDesc c r q 1 } := if_neg (by simp [h])

/-- A continued port keeps its place in the stream and takes the new EN. -/
theorem State.loadedPort_cont {r : Nat} (h : bitOf (s.portDesc c r q 1) 5 = true) (p : DfaPort) :
    (s.loadedPort c r q p).en = bitOf (s.portDesc c r q 1) 4 ∧ (s.loadedPort c r q p).pos = p.pos := by
  have hen (b : Bool) : bitOf (putBits p.pd1 4 1 (b2n b)) 4 = b := by
    rw [← Nat.add_zero 4, bitOf_putBits_in _ _ _ _ _ Nat.zero_lt_one]
    cases b <;> rfl
  rw [State.loadedPort, if_pos h]
  exact ⟨hen _, rfl⟩

theorem State.loadPorts_eq (s : State) (c r : Nat) :
    ∃ ps, s.loadPorts c r = s.setDfa c { s.dfa c with ports := ps } ∧
      ∀ q < 32, tabGet (fun _ => {}) ps q = s.loadedPort c r q ((s.dfa c).port q) := by
  obtain ⟨ps, hfold, hports⟩ := Dfa.foldl_setPort (s.loadedPort c r) (s.dfa c) 32
  refine ⟨ps, ?_, fun q hq => (hports q).trans (if_pos hq)⟩
  rw [← hfold, State.loadPorts]
  congr 2
  funext d q
  exact (apply_ite (d.setPort q) _ _ _).symm

/-- Where no port has a partly filled row, the array turns to entry j: its ports are loaded, and CLR is obeyed. -/
theorem State.enterEntry_eq {slot j : Nat} {e : Nat × Nat × Bool} {flush : Bool} (he : (s.timetable c slot)[j]? = some e)
    (hidle : flush = true → ∀ q < 32, ((s.dfa c).port q).fill = []) :
    ∃ ps, s.enterEntry c slot j flush = s.setDfa c { s.dfa c with
          ports := ps, l := if e.2.2 then [] else (s.dfa c).l, o := if e.2.2 then [] else (s.dfa c).o } ∧
      ∀ q < 32, tabGet (fun _ => {}) ps q = s.loadedPort c e.1 q ((s.dfa c).port q) := by
  obtain ⟨ps, hload, hports⟩ := s.loadPorts_eq c e.1
  refine ⟨ps, ?_, hports⟩
  have hflush : (if flush then (List.range 32).foldl
      (fun t q => if bitOf (t.portDesc c e.1 q 1) 5 then t else t.flushPort c q) s else s) = s := by
    cases flush with
    | false => rfl
    | true =>
      refine foldl_eq_self fun q hq => ?_
      rw [State.flushPort_idle (hidle rfl q (List.mem_range.mp hq)), ite_self]
  simp only [State.enterEntry, he, hflush, hload]
  split
  · simp only [State.clearCells, State.dfa_setDfa_same, State.setDfa_setDfa]
  · rfl

end Sys2Proof.Machine
end

section
/-! The operations of a dataflow array on words (Table DFA-3). -/

namespace Sys2Proof.Machine

open Sys2Proof

variable {e : DfaEntry} {a b d o : Word} {l : Nat}

/-! ### Signed values and their storage -/

theorem signed_toNat (x : Word) : signed 24 x.toNat = x.toInt := by
  rw [signed_eq_toInt (by decide), BitVec.ofNat_toNat, BitVec.setWidth_eq]

theorem w24_shiftLeft (x : Word) (n : Nat) : w24 (x.toInt * 2 ^ n) = x <<< n := by
  have hpow : w24 ((2 : Int) ^ n) = BitVec.ofNat 24 (2 ^ n) := by rw [← w24_natCast, Nat.cast_pow, Nat.cast_ofNat]
  calc w24 (x.toInt * 2 ^ n) = x * BitVec.ofNat 24 (2 ^ n) := by rw [w24_mul, w24_toInt, hpow]
    _ = BitVec.ofNat 24 (x.toNat * 2 ^ n) := by rw [BitVec.ofNat_mul, BitVec.ofNat_toNat, BitVec.setWidth_eq]
    _ = x <<< n := by rw [ofNat_mul_two_pow, BitVec.ofNat_toNat, BitVec.setWidth_eq]

theorem roundSh_zero (v : Int) (rm lfsr : Nat) : roundSh v 0 rm lfsr = (v, lfsr) := if_pos rfl

/-- A shift that truncates gives the floor, a shift of 0 among them. -/
theorem roundSh_floor (v : Int) (sh lfsr : Nat) : roundSh v sh 0 lfsr = (v / 2 ^ sh, lfsr) := by
  rcases Nat.eq_zero_or_pos sh with rfl | hsh
  · rw [roundSh_zero, pow_zero, Int.ediv_one]
  · exact roundSh_trn hsh

/-! ### Operations that store an operand or a truth value -/

theorem dfaOp_mov (h : e.op = 0x01) : dfaOp e a b d o l = (a, false, l) := by simp only [dfaOp, h]

theorem dfaOp_min (h : e.op = 0x05) : dfaOp e a b d o l = (if a.slt b then a else b, false, l) := by
  simp only [dfaOp, h, signed_toNat, BitVec.slt_iff_toInt_lt]

theorem dfaOp_max (h : e.op = 0x06) : dfaOp e a b d o l = (if a.slt b then b else a, false, l) := by
  simp only [dfaOp, h, signed_toNat, BitVec.slt_iff_toInt_lt]

theorem dfaOp_and (h : e.op = 0x07) : dfaOp e a b d o l = (a &&& b, false, l) := by simp only [dfaOp, h]

theorem dfaOp_or (h : e.op = 0x08) : dfaOp e a b d o l = (a ||| b, false, l) := by simp only [dfaOp, h]

theorem dfaOp_xor (h : e.op = 0x09) : dfaOp e a b d o l = (a ^^^ b, false, l) := by simp only [dfaOp, h]

theorem dfaOp_sar (h : e.op = 0x0B) (hrm : e.rm = 0) : dfaOp e a b d o l = (a.sshiftRight e.sh, false, l) := by
  simp only [dfaOp, h, hrm, signed_toNat, roundSh_floor]
  exact congrArg (·, false, l) (w24_sar a e.sh)

theorem dfaOp_less (h : e.op = 0x0F) : dfaOp e a b d o l = (if a.slt b then 1 else 0, false, l) := by
  simp only [dfaOp, h, signed_toNat, BitVec.slt_iff_toInt_lt]

theorem dfaOp_equal (h : e.op = 0x10) : dfaOp e a b d o l = (if a = b then 1 else 0, false, l) := by
  simp only [dfaOp, h, signed_toNat, BitVec.toInt_inj]

theorem dfaOp_sel (h : e.op = 0x11) : dfaOp e a b d o l = (if o = 0 then b else a, false, l) := by simp only [dfaOp, h]

/-! ### Operations that store an integer -/

/-- An exact result as an entry stores it: the word, whether the fit clamped it, and the LFSR after it. -/
def dfaFit (sat : Bool) (q : Int) (l : Nat) : Word × Bool × Nat :=
  (BitVec.ofNat 24 (fit q (-8388608) 8388607 24 sat).1, (fit q (-8388608) 8388607 24 sat).2, l)

theorem dfaFit_wraps (q : Int) : dfaFit false q l = (w24 q, false, l) := congrArg (·, false, l) (ofNat_unsigned 24 q)

theorem dfaFit_above {q : Int} (h : 8388607 < q) : dfaFit true q l = (0x7FFFFF, true, l) := by
  rw [dfaFit, fit_saturating (by decide), min_eq_left h.le, max_eq_right (by decide), decide_eq_true h, Bool.or_true]
  rfl

theorem dfaOp_add (h : e.op = 0x02) : dfaOp e a b d o l = dfaFit e.sat (a.toInt + b.toInt) l := by
  simp only [dfaOp, h, signed_toNat, dfaFit]

theorem dfaOp_sub (h : e.op = 0x03) : dfaOp e a b d o l = dfaFit e.sat (a.toInt - b.toInt) l := by
  simp only [dfaOp, h, signed_toNat, dfaFit]

theorem dfaOp_shl (h : e.op = 0x0A) : dfaOp e a b d o l = dfaFit e.sat (a.toInt * 2 ^ e.sh) l := by
  simp only [dfaOp, h, signed_toNat, dfaFit]

theorem dfaOp_mul (h : e.op = 0x0C) (hsh : e.sh = 0) : dfaOp e a b d o l = dfaFit e.sat (a.toInt * b.toInt) l := by
  simp only [dfaOp, h, hsh, signed_toNat, roundSh_zero, dfaFit]

theorem dfaOp_mac (h : e.op = 0x0D) (hsh : e.sh = 0) :
    dfaOp e a b d o l = dfaFit e.sat (d.toInt + a.toInt * b.toInt) l := by
  simp only [dfaOp, h, hsh, signed_toNat, roundSh_zero, dfaFit]

section
variable (hsat : e.sat = false)
include hsat

theorem dfaOp_add_wraps (h : e.op = 0x02) : dfaOp e a b d o l = (a + b, false, l) := by
  rw [dfaOp_add h, hsat, dfaFit_wraps, w24_add, w24_toInt, w24_toInt]

theorem dfaOp_sub_wraps (h : e.op = 0x03) : dfaOp e a b d o l = (a - b, false, l) := by
  rw [dfaOp_sub h, hsat, dfaFit_wraps, w24_sub, w24_toInt, w24_toInt]

theorem dfaOp_shl_wraps (h : e.op = 0x0A) : dfaOp e a b d o l = (a <<< e.sh, false, l) := by
  rw [dfaOp_shl h, hsat, dfaFit_wraps, w24_shiftLeft]

theorem dfaOp_mul_wraps (h : e.op = 0x0C) (hsh : e.sh = 0) : dfaOp e a b d o l = (a * b, false, l) := by
  rw [dfaOp_mul h hsh, hsat, dfaFit_wraps, w24_mul, w24_toInt, w24_toInt]

theorem dfaOp_mac_wraps (h : e.op = 0x0D) (hsh : e.sh = 0) : dfaOp e a b d o l = (d + a * b, false, l) := by
  rw [dfaOp_mac h hsh, hsat, dfaFit_wraps, w24_add, w24_mul, w24_toInt, w24_toInt, w24_toInt]

end

end Sys2Proof.Machine
end

section
/-! The step of a dataflow array: when it runs, the moves of its timetable, and the cycle of a round switch (R367, R369,
R378-R380). -/

namespace Sys2Proof.Machine

open Sys2Proof

variable {s : State} {c n p : Nat} {d : Dfa} {e : DfaEntry} {r : DfaRun}

/-! ### When a step runs (R369) -/

theorem Dfa.not_ready (hp : p < 2) (h : ((e.reads p || e.pops p) = true ∧ (d.port (2 * n + p)).present = false) ∨
    (e.pushes p = true ∧ d.room (2 * n + p) = false)) : d.ready n e = false := by
  refine List.all_eq_false.mpr ⟨p, by simp; omega, ?_⟩
  rcases h with ⟨huse, habsent⟩ | ⟨hpush, hfull⟩
  · simp only [huse, habsent, Bool.not_true, Bool.or_self, Bool.false_and]
    exact Bool.false_ne_true
  · simp only [hpush, hfull, Bool.not_true, Bool.or_self, Bool.and_false]
    exact Bool.false_ne_true

/-- The round, iterations and CLR of the timetable's entry. -/
def State.runEntry (s : State) (c : Nat) (r : DfaRun) : Nat × Nat × Bool :=
  (s.timetable c r.start.slot).getD r.entry (0, 1, false)

/-- The number of cell 0's entry of the step. -/
def State.stepBase (s : State) (c : Nat) (r : DfaRun) : Nat := ((s.runEntry c r).1 * 256 + r.step) * 16

section
variable (hrun : (s.dfa c).run = some r)
include hrun

section
variable (hact : s.unitsAct c = true) (hended : r.ended = false) (hswitch : r.switching = false)
include hact hended hswitch

theorem State.dfaStep_runs (hready : ∀ n < 16, (s.dfa c).ready n (s.dfaEntry c (s.stepBase c r + n)) = true) :
    s.dfaStep c =
      ((s.dfaResults c (s.stepBase c r)).1.foldl (State.dfaStore c)
        ((s.dfaSat c (s.dfaResults c (s.stepBase c r)).2.1).setFld (F.DFA_RSTSEED_STATE c)
          (s.dfaResults c (s.stepBase c r)).2.2)).dfaAdvance c r := by
  have hall : ((List.range 16).all fun n => (s.dfa c).ready n (s.dfaEntry c (s.stepBase c r + n))) = true :=
    List.all_eq_true.mpr fun n hn => hready n (List.mem_range.mp hn)
  rw [State.stepBase, State.runEntry] at hall ⊢
  simp only [State.dfaStep, hrun, hact, hended, hswitch, hall, Bool.not_true, Bool.or_self, Bool.false_eq_true, if_false,
    if_true]

theorem State.dfaStep_stalls (hn : n < 16) (hwait : (s.dfa c).ready n (s.dfaEntry c (s.stepBase c r + n)) = false) :
    s.dfaStep c = if (s.dfa c).sealedSt then s else s.incFld (F.DFA_STALLCNT_COUNT c) 1 := by
  have hall : ((List.range 16).all fun n => (s.dfa c).ready n (s.dfaEntry c (s.stepBase c r + n))) = false :=
    List.all_eq_false.mpr ⟨n, List.mem_range.mpr hn, by rw [hwait]; exact Bool.false_ne_true⟩
  rw [State.stepBase, State.runEntry] at hall
  simp only [State.dfaStep, hrun, hact, hended, hswitch, hall, Bool.not_true, Bool.or_self, Bool.false_eq_true, if_false]

end

theorem State.dfaStep_switches (hact : s.unitsAct c = true) (hended : r.ended = false) (hswitch : r.switching = true) :
    s.dfaStep c = s.roundSwitch c r := by
  simp only [State.dfaStep, hrun, hact, hended, hswitch, Bool.not_true, Bool.or_self, Bool.false_eq_true, if_false,
    if_true]

/-! ### The moves of a timetable (R378, R380) -/

theorem State.dfaAdvance_step (h : r.step + 1 < s.roundLen c (s.runEntry c r).1) :
    s.dfaAdvance c r = s.setDfa c { s.dfa c with run := some { r with step := r.step + 1 } } := by
  rw [State.runEntry] at h
  simp only [State.dfaAdvance, hrun, Option.map_some, if_pos h]

section
variable (hlast : s.roundLen c (s.runEntry c r).1 ≤ r.step + 1)
include hlast

theorem State.dfaAdvance_iter (h : r.iter + 1 < (s.runEntry c r).2.1) :
    s.dfaAdvance c r = s.setDfa c { s.dfa c with run := some { r with step := 0, iter := r.iter + 1 } } := by
  rw [State.runEntry] at hlast h
  simp only [State.dfaAdvance, hrun, Option.map_some, if_neg hlast.not_gt, if_pos h]

variable (hdone : (s.runEntry c r).2.1 ≤ r.iter + 1)
include hdone

theorem State.dfaAdvance_switch (h : r.entry + 1 < (s.timetable c r.start.slot).length) :
    s.dfaAdvance c r = s.setDfa c { s.dfa c with run := some { r with switching := true } } := by
  rw [State.runEntry] at hlast hdone
  simp only [State.dfaAdvance, hrun, Option.map_some, if_neg hlast.not_gt, if_neg hdone.not_gt, if_pos h]

theorem State.dfaAdvance_end (h : (s.timetable c r.start.slot).length ≤ r.entry + 1) :
    s.dfaAdvance c r = s.setDfa c { s.dfa c with run := some { r with ended := true } } := by
  rw [State.runEntry] at hlast hdone
  simp only [State.dfaAdvance, hrun, Option.map_some, if_neg hlast.not_gt, if_neg hdone.not_gt, if_neg h.not_gt]

end

end

theorem State.dfaStep_idle (h : (s.dfa c).run = none ∨ s.unitsAct c = false) : s.dfaStep c = s := by
  cases hrun : (s.dfa c).run with
  | none => simp only [State.dfaStep, hrun]
  | some r =>
    have hact := h.resolve_left (by simp [hrun])
    simp only [State.dfaStep, hrun, hact, Bool.not_false, Bool.or_true, if_true]

/-! ### The cycle of a round switch (R380) -/

theorem State.roundSwitch_eq {x : Nat × Nat × Bool} (hx : (s.timetable c r.start.slot)[r.entry + 1]? = some x)
    (hidle : ∀ q < 32, ((s.dfa c).port q).fill = []) :
    ∃ ps, s.roundSwitch c r = s.setDfa c { s.dfa c with
          run := some { r with step := 0, iter := 0, entry := r.entry + 1, switching := false }
          ports := ps, l := if x.2.2 then [] else (s.dfa c).l, o := if x.2.2 then [] else (s.dfa c).o } ∧
      ∀ q < 32, tabGet (fun _ => {}) ps q = s.loadedPort c x.1 q ((s.dfa c).port q) := by
  obtain ⟨ps, henter, hports⟩ := State.enterEntry_eq (flush := true)
    (s := s.setDfa c { s.dfa c with
      run := some { r with step := 0, iter := 0, entry := r.entry + 1, switching := false } })
    ((congrArg (·[r.entry + 1]?) (State.timetable_congr rfl _)).trans hx)
    (fun _ q hq => by rw [State.dfa_setDfa_same]; exact hidle q hq)
  rw [State.dfa_setDfa_same] at henter hports
  exact ⟨ps, by rw [State.roundSwitch, henter, State.setDfa_setDfa], hports⟩

/-- Settles O30: a step by whether it runs, the timetable by its place in it, each operation by its row of the table. -/
theorem dataflowStep : Obligations.DataflowStep := by
  unfold Obligations.DataflowStep
  refine ⟨fun s c r hact hrun hended hswitch hready => congrArg ok (State.dfaStep_runs hrun hact hended hswitch hready),
    fun s c r n hact hrun hended hswitch hn hwait =>
      congrArg ok (State.dfaStep_stalls hrun hact hended hswitch hn hwait),
    fun d n p e hp h => Dfa.not_ready hp h, ?switch, fun s c h => congrArg ok (State.dfaStep_idle h),
    fun s c r hrun => State.dfaAdvance_step hrun, fun s c r hrun => State.dfaAdvance_iter hrun,
    fun s c r hrun => State.dfaAdvance_switch hrun, fun s c r hrun => State.dfaAdvance_end hrun, ?ops, ?above⟩
  case switch =>
    intro s c r x hact hrun hended hswitch hx hidle
    obtain ⟨ps, heq, hports⟩ := State.roundSwitch_eq hx hidle
    refine ⟨_, congrArg ok ((State.dfaStep_switches hrun hact hended hswitch).trans heq), ?_⟩
    beta_reduce
    rw [State.dfa_setDfa_same]
    refine ⟨rfl, fun q hq h => (hports q hq).trans (State.loadedPort_new h _), fun q hq h => ?_, rfl, rfl, rfl⟩
    obtain ⟨hen, hpos⟩ := State.loadedPort_cont h ((s.dfa c).port q)
    exact ⟨(congrArg DfaPort.en (hports q hq)).trans hen, (congrArg DfaPort.pos (hports q hq)).trans hpos⟩
  case ops =>
    intro e a b d o l hsat
    exact ⟨dfaOp_mov, dfaOp_add_wraps hsat, dfaOp_sub_wraps hsat, dfaOp_min, dfaOp_max, dfaOp_and, dfaOp_or, dfaOp_xor,
      dfaOp_shl_wraps hsat, fun h hrm _ => dfaOp_sar h hrm, dfaOp_mul_wraps hsat, dfaOp_mac_wraps hsat, dfaOp_less, dfaOp_equal,
      dfaOp_sel⟩
  case above =>
    intro e a b d o l h hsat hgt
    rw [dfaOp_add h, hsat, dfaFit_above hgt]

end Sys2Proof.Machine
end

section
/-! Starts, completions and aborts of a dataflow array (R44, R381-R385). -/

namespace Sys2Proof.Machine

open Sys2Proof

variable {s : State} {ini : Initiator} {c : Nat} {st : DfaStart} {rest : List DfaStart} {r : DfaRun}

/-! ### The start queue (R381) -/

theorem State.dfaQueue_room (h : s.dfaDepth c < 4) (st : DfaStart) :
    s.dfaQueue c st = s.setDfa c { s.dfa c with queue := (s.dfa c).queue ++ [st] } := by
  simp only [State.dfaQueue, State.dfaFull, decide_eq_true_eq, if_neg h.not_ge]

theorem State.dfaQueue_full (h : 4 ≤ s.dfaDepth c) (st : DfaStart) : s.dfaQueue c st = s := by
  simp only [State.dfaQueue, State.dfaFull, decide_eq_true_eq, if_pos h]

/-- The start that a write of port p spells (Table DFA-10). -/
def writtenStart (v p : Nat) : DfaStart :=
  { slot := v % 4, tag := v / 4 % 64, notify := v.testBit 8, src := p, iseal := false, id := 0 }

theorem State.dfaStart_pending (h : s.fld (F.CLU_OWNER_PEND c) = 1) (p : Nat) (b : Bool) (v : Nat) :
    s.dfaStart c p b v = s.setFld (F.DFA_STATUS_OWNPEND c) 1 := if_pos (State.flag_of_one h)

theorem State.dfaStart_queued (h : s.fld (F.CLU_OWNER_PEND c) = 0) (p v : Nat) :
    s.dfaStart c p false v = s.dfaQueue c (writtenStart v p) := by
  have hslot : bitsOf v 0 2 = v % 4 := congrArg (· % 4) (Nat.div_one v)
  rw [State.dfaStart, State.flag_of_zero h, hslot, bitOf_eq_testBit]
  rfl

theorem becomes_dfaStart {c : Fin 4} {p : Fin 3} (ht : s.Takes ini (Reg.DFA_START c p)) (v : Word) :
    Becomes (.dfaStart ini c p v) s (s.dfaStart c p false v.toNat) := by
  have ⟨_, hopen, _⟩ := ht
  exact congrArg ok ((s.cmdWrite_takes _ _ _ ht).trans (by rw [hopen]))

/-! ### Event starts (R381) -/

/-- The start that an event brings to slot k. -/
def eventStart (k : Nat) : DfaStart := { slot := k, tag := k, notify := true, src := 3, iseal := false, id := 0 }

section
variable {k : Nat} (ha : s.arriving.contains (32 + 4 * c + k) = true)
include ha

theorem State.dfaEventStart_queued (hon : s.domOn (domCL c) = true) (hroom : s.dfaDepth c < 4) : s.dfaEventStart c k =
    ({ s with arriving := s.arriving.erase (32 + 4 * c + k) } : State).setDfa c
      { s.dfa c with queue := (s.dfa c).queue ++ [eventStart k] } := by
  have hfull : s.dfaFull c = false := decide_eq_false hroom.not_ge
  simp only [State.dfaEventStart, ha, hon, hfull, Bool.not_false, Bool.and_self, if_true]
  exact State.dfaQueue_room (s := { s with arriving := s.arriving.erase (32 + 4 * c + k) }) hroom (eventStart k)

theorem State.dfaEventStart_held (h : s.domOn (domCL c) = false ∨ 4 ≤ s.dfaDepth c) : s.dfaEventStart c k =
    ({ s with arriving := s.arriving.erase (32 + 4 * c + k) } : State).holdArrival (32 + 4 * c + k) := by
  have hbusy : (s.domOn (domCL c) && !s.dfaFull c) = false := by
    rcases h with hoff | hfull
    · rw [hoff, Bool.false_and]
    · rw [State.dfaFull, decide_eq_true hfull, Bool.not_true, Bool.and_false]
  simp only [State.dfaEventStart, ha, hbusy, Bool.false_eq_true, if_true, if_false]

end

theorem State.dfaEventStart_none {k : Nat} (ha : s.arriving.contains (32 + 4 * c + k) = false) :
    s.dfaEventStart c k = s := if_neg (by rw [ha]; exact Bool.false_ne_true)

/-! ### Completions (R383) -/

/-- The event of a completion, where its start asks for it. -/
def State.dfaNotified (s : State) (c : Nat) (st : DfaStart) : State := if st.notify then s.fire (40 + c) else s

theorem State.dfaNotified_frame (s : State) (c : Nat) (st : DfaStart) :
    (s.dfaNotified c st).regs = s.regs ∧ (s.dfaNotified c st).mem = s.mem ∧ (s.dfaNotified c st).tags = s.tags ∧
    ∀ d, (s.dfaNotified c st).dfa d = s.dfa d := by
  rw [State.dfaNotified]
  split
  · exact ⟨rfl, rfl, rfl, fun d => s.dfa_fire (40 + c) d⟩
  · exact ⟨rfl, rfl, rfl, fun _ => rfl⟩

theorem State.pulses_dfaNotified (s : State) (c : Nat) (st : DfaStart) :
    (s.dfaNotified c st).pulses = if st.notify then s.pulses ++ [40 + c] else s.pulses := by
  rw [State.dfaNotified]
  split <;> rfl

section
variable (hsrc : st.src ≠ 2)
include hsrc

theorem State.dfaReport_overflow (hfull : 8 ≤ (s.dfa c).cpl.length) (status : Nat) (b x : Bool) :
    s.dfaReport c st status b x =
      ((s.dfaNotified c st).incFld (F.DFA_CPLCNT_OVF c) 1).setFld (F.DFA_STATUS_CPLOVF c) 1 := by
  obtain ⟨-, -, -, hdfa⟩ := s.dfaNotified_frame c st
  rw [State.dfaNotified] at hdfa ⊢
  simp only [State.dfaReport, if_neg hsrc, hdfa c, if_neg hfull.not_gt]

/-- A start of a port with a FIFO that has room, or of an event, reports there. -/
theorem State.dfaReport_leaves (hroom : (s.dfa c).cpl.length < 8) (status : Nat) (b x : Bool) :
    let u := s.dfaReport c st status b x
    u.dfa c = { s.dfa c with cpl := (s.dfa c).cpl ++ [⟨st.tag, status, st.slot, st.src, b, x⟩] } ∧
    u.pulses = (if st.notify then s.pulses ++ [40 + c] else s.pulses) ∧ u.regs = s.regs ∧ u.mem = s.mem ∧
    u.tags = s.tags := by
  obtain ⟨hregs, hmem, htags, hdfa⟩ := s.dfaNotified_frame c st
  have hpulses := s.pulses_dfaNotified c st
  have heq : s.dfaReport c st status b x = (s.dfaNotified c st).setDfa c
      { s.dfa c with cpl := (s.dfa c).cpl ++ [⟨st.tag, status, st.slot, st.src, b, x⟩] } := by
    rw [State.dfaNotified] at hdfa ⊢
    simp only [State.dfaReport, if_neg hsrc, hdfa c, if_pos hroom]
  dsimp only
  rw [heq]
  exact ⟨State.dfa_setDfa_same .., hpulses, hregs, hmem, htags⟩

end

/-! ### The start of a timetable (R382, R385) -/

section
variable (hact : s.unitsAct c = true) (hrun : (s.dfa c).run = none) (hqueue : (s.dfa c).queue = st :: rest)
include hact hrun hqueue

theorem State.timetableStart_runs {e : Nat × Nat × Bool}
    (hok : (s.setDfa c { s.dfa c with queue := rest }).startOk c st.slot = true)
    (he : (s.timetable c st.slot)[0]? = some e) :
    ∃ ps, s.timetableStart c = s.setDfa c { s.dfa c with
          queue := rest, ports := ps, writes := [], sealedSt := st.iseal
          run := some { start := st, entry := 0, iter := 0, step := 0, exh := false, ended := false }
          l := if e.2.2 then [] else (s.dfa c).l, o := if e.2.2 then [] else (s.dfa c).o } ∧
      ∀ q < 32, tabGet (fun _ => {}) ps q = s.loadedPort c e.1 q {} := by
  obtain ⟨ps, henter, hports⟩ := State.enterEntry_eq (flush := false)
    (s := s.setDfa c { s.dfa c with
      queue := rest, ports := [], writes := [], sealedSt := st.iseal
      run := some { start := st, entry := 0, iter := 0, step := 0, exh := false, ended := false } })
    ((congrArg (·[0]?) (State.timetable_congr rfl _)).trans he) (fun h => absurd h Bool.false_ne_true)
  rw [State.dfa_setDfa_same] at henter hports
  refine ⟨ps, ?_, hports⟩
  simp only [hrun] at hok
  simp only [State.timetableStart, hact, hrun, hqueue, hok, Option.isSome_none, Bool.not_true, Bool.or_self,
    Bool.false_eq_true, if_false, State.dfa_setDfa_same, State.setDfa_setDfa, henter]

theorem State.timetableStart_refused (hbad : (s.setDfa c { s.dfa c with queue := rest }).startOk c st.slot = false) :
    s.timetableStart c = ((s.setDfa c { s.dfa c with queue := rest }).dfaReport c st 1 false false).setFld
      (F.DFA_STATUS_BADARG c) 1 := by
  simp only [hrun] at hbad
  simp only [State.timetableStart, hact, hrun, hqueue, hbad, Option.isSome_none, Bool.not_true, Bool.not_false,
    Bool.or_self, Bool.false_eq_true, if_false, if_true]

/-- A start that fails the checks leaves the queue and completes with status 1. -/
theorem State.timetableStart_refused_leaves
    (hbad : (s.setDfa c { s.dfa c with queue := rest }).startOk c st.slot = false) (hsrc : st.src ≠ 2)
    (hroom : (s.dfa c).cpl.length < 8) :
    let u := s.timetableStart c
    u.dfa c = { s.dfa c with queue := rest, cpl := (s.dfa c).cpl ++ [⟨st.tag, 1, st.slot, st.src, false, false⟩] } ∧
    u.fld (F.DFA_STATUS_BADARG c) = 1 ∧ s.KeepsRegs u [Reg.DFA_STATUS c] ∧ u.mem = s.mem ∧ u.tags = s.tags := by
  obtain ⟨hdfa, -, hregs, hmem, htags⟩ := State.dfaReport_leaves (s := s.setDfa c { s.dfa c with queue := rest }) hsrc
    (by rwa [State.dfa_setDfa_same]) 1 false false
  rw [State.dfa_setDfa_same] at hdfa
  have hkeeps : s.KeepsRegs ((s.setDfa c { s.dfa c with queue := rest }).dfaReport c st 1 false false)
      [Reg.DFA_STATUS c] := fun a _ => by rw [State.reg, hregs]; rfl
  dsimp only
  rw [State.timetableStart_refused hact hrun hqueue hbad]
  exact ⟨(State.dfa_setFld ..).trans hdfa, State.fld_setFld _ (F.DFA_STATUS_BADARG c) 1 (show 10 + 1 ≤ 24 by decide),
    hkeeps.setFld _ 1 (List.mem_singleton_self _), (State.setFld_mem ..).trans hmem, (State.setFld_tags ..).trans htags⟩

end

theorem State.timetableStart_idle (h : s.unitsAct c = false ∨ (s.dfa c).run ≠ none ∨ (s.dfa c).queue = []) :
    s.timetableStart c = s := by
  rcases h with hact | hrun | hqueue
  · simp only [State.timetableStart, hact, Bool.not_false, Bool.true_or, if_true]
  · simp only [State.timetableStart, Option.isSome_iff_ne_none.mpr hrun, Bool.or_true, if_true]
  · simp only [State.timetableStart, hqueue, ite_self]

/-! ### The end of a timetable (R44, R383) -/

/-- The array once its timetable has ended and its wipe is done. -/
def Dfa.wiped (d : Dfa) : Dfa :=
  { d with l := if d.sealedSt then [] else d.l, o := if d.sealedSt then [] else d.o
           ports := [], writes := [], sealedSt := false, run := none }

theorem State.dfaWipe_stopped (s : State) (c : Nat) :
    (s.dfaWipe c).setDfa c { (s.dfaWipe c).dfa c with run := none } = s.setDfa c (s.dfa c).wiped := by
  cases hsealed : (s.dfa c).sealedSt <;> simp [State.dfaWipe, Dfa.wiped, hsealed]

/-- With no row waiting, there is none to write. -/
theorem State.writeRows_none (h : (s.dfa c).writes = []) (f : Nat × Nat × List Byte → Bool) :
    s.writeRows c f = s.setDfa c (s.dfa c) := by
  have hkept : { s.dfa c with writes := [] } = s.dfa c := by rw [← h]
  simp only [State.writeRows, h, List.filter_nil, List.foldl_nil, hkept]

section
variable (hact : s.unitsAct c = true) (hrun : (s.dfa c).run = some r) (hended : r.ended = true)
include hact hrun hended

theorem State.timetableDone_ends :
    let f := ((List.range 32).foldl (fun u q => u.flushPort c q) s).writeRows c fun _ => true
    let w := (f.dfaWipe c).setDfa c { (f.dfaWipe c).dfa c with run := none }
    s.timetableDone c = w.dfaReport c r.start 0 (f.dfa c).sealedSt r.exh := by
  simp only [State.timetableDone, hrun, hact, hended, Bool.and_self, if_true]

/-- With every row written, the end is the wipe and the report. -/
theorem State.timetableDone_written (hwrites : (s.dfa c).writes = []) (hidle : ∀ q < 32, ((s.dfa c).port q).fill = []) :
    s.timetableDone c =
      (s.setDfa c (s.dfa c).wiped).dfaReport c r.start 0 (s.dfa c).sealedSt r.exh := by
  have hflush : (List.range 32).foldl (fun u q => u.flushPort c q) s = s :=
    foldl_eq_self fun q hq => State.flushPort_idle (hidle q (List.mem_range.mp hq))
  rw [State.timetableDone_ends hact hrun hended, hflush, State.writeRows_none hwrites, State.dfaWipe_stopped,
    State.dfa_setDfa_same, State.setDfa_setDfa]

end

theorem State.timetableDone_running (hrun : (s.dfa c).run = some r) (hended : r.ended = false) :
    s.timetableDone c = s := by
  simp only [State.timetableDone, hrun, hended, Bool.false_and, Bool.false_eq_true, if_false]

/-! ### Aborts (R384) -/

theorem State.dfaAbort_run (hrun : (s.dfa c).run = some r) (hqueue : (s.dfa c).queue = []) :
    s.dfaAbort c (fun _ => true) =
      (s.setDfa c (s.dfa c).wiped).dfaReport c r.start 2 (s.dfa c).sealedSt r.exh := by
  have hkept : { s.dfa c with queue := [] } = s.dfa c := by rw [← hqueue]
  simp only [hrun] at hkept
  simp only [State.dfaAbort, hrun, hqueue, List.filter_nil, List.foldl_nil, if_true, hkept, State.dfaWipe_stopped,
    State.dfa_setDfa_same, State.setDfa_setDfa]

theorem State.dfaAbort_queued (hrun : (s.dfa c).run = none) (hqueue : (s.dfa c).queue = [st]) :
    s.dfaAbort c (fun _ => true) = (s.setDfa c { s.dfa c with queue := [] }).dfaReport c st 2 false false := by
  simp [State.dfaAbort, hrun, hqueue]

end Sys2Proof.Machine
end

section
/-! Rows that pass through the ports of a dataflow array (R372-R375, R379). -/

namespace Sys2Proof.Machine

open Sys2Proof

variable {s : State} {c q r : Nat} {bs : List Byte}

/-- A port whose request is granted while no row of the array waits to be written takes the row it asked for, and its seal
with it. -/
theorem State.portGrant_arrives {p : DfaPort} (hwrites : (s.dfa c).writes = []) (hp : p = (s.dfa c).port q)
    (hen : p.en = true) (hread : p.writes = false) (hasked : p.arrived < p.asked) : s.portGrant c q = s.setDfa c
      { (s.dfa c).setPort q { p with
          arrived := p.arrived + 1, bufs := p.bufs ++ [(p.arrived, s.unitRow c (p.row p.arrived))] } with
        sealedSt := (s.dfa c).sealedSt || s.unitTag c (p.row p.arrived) } := by
  have hgrant : s.portGrant c q = s.rowArrives c q := by
    simp only [State.portGrant, hwrites, List.any_nil, Bool.false_eq_true, if_false]
  rw [hgrant]
  simp only [State.rowArrives, ← hp, hen, hread, decide_eq_true hasked, Bool.not_false, Bool.and_self, if_true,
    State.writeRows_none hwrites, State.dfa_setDfa_same, State.setDfa_setDfa]
  rfl

/-- A port whose one full row is granted writes it, with the tag of the array's state (R374, R375). -/
theorem State.portGrant_writes (hwrites : (s.dfa c).writes = [(q, r, bs)]) : s.portGrant c q =
    (s.setDfa c { s.dfa c with writes := [] }).unitWrite c r bs (s.dfa c).sealedSt := by
  simp [State.portGrant, State.writePort, hwrites]

/-- What a granted write leaves, the scratchpad ON. -/
theorem State.portGrant_writes_leaves (hon : s.spOn c = true) (hwrites : (s.dfa c).writes = [(q, r, bs)])
    (hlen : bs.length = 384) :
    let u := s.portGrant c q
    (u.dfa c).writes = [] ∧ u.rowBytes c r = bs ∧ u.tag c r = (s.dfa c).sealedSt ∧
    (∀ a, (a < rowAddr c r ∨ rowAddr c r + 384 ≤ a) → u.byte a = s.byte a) ∧ u.regs = s.regs := by
  have heq : s.portGrant c q = (s.setDfa c { s.dfa c with writes := [] }).writeWide c r bs (s.dfa c).sealedSt :=
    (State.portGrant_writes hwrites).trans (if_pos hon)
  have hfresh := (((s.setDfa c { s.dfa c with writes := [] }).setBytes (rowAddr c r) (bs.take 384)).setTag c r
    (s.dfa c).sealedSt).onlyFresh_clearFresh c r
  dsimp only
  rw [heq]
  refine ⟨?_, State.rowBytes_writeWide _ c r _ hlen, State.tag_writeWide _ c r bs _,
    fun a ha => State.byte_writeWide_out ha, (State.writeWide_frame _ c r bs _).1⟩
  rw [State.writeWide, hfresh]
  exact congrArg Dfa.writes (s.dfa_setDfa_same c { s.dfa c with writes := [] })

/-- A flush issues the partly filled row, zero where nothing was pushed, where no port of the array reads (R379). -/
theorem State.flushPort_fills {p : DfaPort} (hp : p = (s.dfa c).port q) (hfill : p.fill ≠ [])
    (hidle : ∀ j < 32, ((s.dfa c).port j).en = false ∨ ((s.dfa c).port j).writes = true) :
    s.flushPort c q = s.setDfa c { (s.dfa c).setPort q { p with fill := [] } with
      writes := (s.dfa c).writes ++
        [(q, p.row (p.pos / p.perRow), p.fill ++ List.replicate (384 - p.fill.length) 0)] } := by
  have hserve : (s.setDfa c ((s.dfa c).setPort q { p with fill := [] })).serveRow c (p.row (p.pos / p.perRow)) =
      s.setDfa c ((s.dfa c).setPort q { p with fill := [] }) := by
    refine State.serveRow_idle (fun j hj => ?_) _
    rw [State.dfa_setDfa_same, Dfa.port_setPort]
    split
    case isTrue hjq => rw [hp, ← hjq]; exact hidle j hj
    case isFalse => exact hidle j hj
  simp only [State.flushPort, ← hp, List.isEmpty_eq_false_iff.mpr hfill, Bool.not_false, if_true, State.portRow, hserve,
    State.dfa_setDfa_same, State.setDfa_setDfa]
  rfl

end Sys2Proof.Machine
end

section
/-! Words of schedule memory, written one by one or by a load (R386-R388). -/

namespace Sys2Proof.Machine

open Sys2Proof

variable {s : State} {ini : Initiator} {c off k v : Nat} {l : DfaLoad}

/-! ### One word (R387) -/

theorem State.writeSched_nowhere (h : schedPlace off = .none) (v : Nat) : s.writeSched c off v = s := if_pos h

theorem State.writeSched_inUse (h : schedPlace off ≠ .none) (huse : s.schedInUse c (schedPlace off) = true) (v : Nat) :
    s.writeSched c off v = s.setFld (F.DFA_STATUS_LOADBUSY c) 1 := (if_neg h).trans (if_pos huse)

theorem State.writeSched_free (h : schedPlace off ≠ .none) (hfree : s.schedInUse c (schedPlace off) = false) (v : Nat) :
    s.writeSched c off v = s.putSched c off v := (if_neg h).trans (if_neg (by rw [hfree]; exact Bool.false_ne_true))

theorem becomes_scheduleWrite {c : Fin 4} {i : Fin 131072} (ht : s.Takes ini (schedBase c + 4 * i)) (v : Word) :
    Becomes (.scheduleWrite ini c i v) s (s.writeSched c (4 * i) v.toNat) :=
  congrArg ok (s.cmdWrite_takes _ _ _ ht)

/-- The word stored at its place. -/
def State.storeSched (s : State) (c off v : Nat) : State := s.setBytes (schedBase c + off) (toBytes 3 v)

theorem State.putSched_entry (h : schedPlace off = .entry k) (v : Nat) : s.putSched c off v =
    (s.storeSched c off v).setDfa c { s.dfa c with
      bad := tabSet (fun _ => false) (s.dfa c).bad k (!((s.storeSched c off v).dfaEntry c k).valid) } := by
  simp only [State.putSched, h]
  rfl

theorem State.putSched_other (h : ∀ k, schedPlace off ≠ .entry k) (v : Nat) :
    s.putSched c off v = s.storeSched c off v := by
  rw [State.putSched]
  split
  case h_1 k hk => exact absurd hk (h k)
  case h_2 => rfl

/-- But for the word itself, only the record of invalid entries changes. -/
theorem State.putSched_frame (s : State) (c off v : Nat) :
    (s.putSched c off v).mem = (s.storeSched c off v).mem ∧ (s.putSched c off v).regs = s.regs ∧
    (s.putSched c off v).tags = s.tags ∧
    ∃ bad, (s.putSched c off v).dfa c = { s.dfa c with bad := bad } := by
  by_cases h : ∃ k, schedPlace off = .entry k
  · obtain ⟨k, hk⟩ := h
    rw [State.putSched_entry hk]
    exact ⟨rfl, rfl, rfl, _, State.dfa_setDfa_same ..⟩
  · rw [State.putSched_other fun k hk => h ⟨k, hk⟩]
    exact ⟨rfl, rfl, rfl, (s.dfa c).bad, rfl⟩

theorem State.byte_putSched_out {a : Nat} (h : a < schedBase c + off ∨ schedBase c + off + 3 ≤ a) (v : Nat) :
    (s.putSched c off v).byte a = s.byte a := by
  rw [State.byte_congr (s.putSched_frame c off v).1]
  exact s.byte_setBytes_out _ _ _ (by rwa [length_toBytes])

theorem State.sched_putSched_same (s : State) (c off v : Nat) : (s.putSched c off v).sched c off = v % 2 ^ 24 := by
  have hstored := s.bytes_setBytes (schedBase c + off) (toBytes 3 v)
  rw [length_toBytes] at hstored
  rw [State.sched_congr (s.putSched_frame c off v).1, State.sched, State.storeSched, hstored, ofBytes_toBytes]

theorem State.sched_putSched_apart {o : Nat} (h : o + 3 ≤ off ∨ off + 3 ≤ o) (v : Nat) :
    (s.putSched c off v).sched c o = s.sched c o := by
  simp only [State.sched, State.bytes, tabGetList]
  refine congrArg ofBytes (List.map_congr_left fun i hi => ?_)
  have hlt := List.mem_range.mp hi
  exact State.byte_putSched_out (by omega) v

/-- The entry written is validated as it now stands. -/
theorem State.bad_putSched_entry (h : schedPlace off = .entry k) (v : Nat) :
    tabGet (fun _ => false) ((s.putSched c off v).dfa c).bad k = !((s.putSched c off v).dfaEntry c k).valid := by
  rw [State.dfaEntry_congr (s.putSched_frame c off v).1, State.putSched_entry h, State.dfa_setDfa_same,
    tabGet_tabSet_same]

theorem State.bad_putSched_other (h : schedPlace off ≠ .entry k) (v : Nat) :
    tabGet (fun _ => false) ((s.putSched c off v).dfa c).bad k = tabGet (fun _ => false) (s.dfa c).bad k := by
  by_cases hplace : ∃ j, schedPlace off = .entry j
  · obtain ⟨j, hj⟩ := hplace
    have hne : k ≠ j := fun hkj => h (hkj ▸ hj)
    rw [State.putSched_entry hj, State.dfa_setDfa_same, tabGet_tabSet_ne _ _ _ _ _ hne]
  · rw [State.putSched_other fun j hj => hplace ⟨j, hj⟩]
    rfl

/-! ### Loads (R388) -/

theorem State.dfaLoad_begins (hload : (s.dfa c).load = none) (hn : s.fld (F.DFA_LOAD0_NROWS c) ≠ 0)
    (hfit : s.fld (F.DFA_LOAD0_SRCROW c) + s.fld (F.DFA_LOAD0_NROWS c) ≤ 4096) :
    s.dfaLoad c = s.setDfa c { s.dfa c with
      load := some ⟨s.fld (F.DFA_LOAD0_SRCROW c), s.fld (F.DFA_LOAD0_NROWS c), s.fld (F.DFA_LOAD1_WIDX c)⟩ } := by
  simp only [State.dfaLoad, hload, Option.isSome_none, Bool.false_eq_true, if_false, if_neg (not_or.mpr ⟨hn, hfit.not_gt⟩)]

theorem State.dfaLoad_refused (hload : (s.dfa c).load = none) (hbad : s.fld (F.DFA_LOAD0_NROWS c) = 0 ∨
    4096 < s.fld (F.DFA_LOAD0_SRCROW c) + s.fld (F.DFA_LOAD0_NROWS c)) :
    s.dfaLoad c = s.setFld (F.DFA_STATUS_BADARG c) 1 := by
  simp only [State.dfaLoad, hload, Option.isSome_none, Bool.false_eq_true, if_false, if_pos hbad]

theorem State.loadRows_sealed (n : Nat) {i : Nat} (h : s.unitTag c (l.src + i) = true) :
    State.loadRows c l (n + 1) i s = s.setFld (F.DFA_STATUS_LDSEAL c) 1 := if_pos h

theorem State.loadRows_open (n : Nat) {i : Nat} (h : s.unitTag c (l.src + i) = false) :
    State.loadRows c l (n + 1) i s = State.loadRows c l n (i + 1) (s.loadRow c l i) :=
  if_neg (by rw [h]; exact Bool.false_ne_true)

theorem State.dfaLoadEnd_loads (hact : s.unitsAct c = true) (hload : (s.dfa c).load = some l) :
    s.dfaLoadEnd c = (State.loadRows c l l.rows 0 s).setDfa c
      { (State.loadRows c l l.rows 0 s).dfa c with load := none } := by
  simp only [State.dfaLoadEnd, hload, hact, if_true]

/-- Entries fill the first 65536 words of schedule memory (Table DFA-8). -/
theorem schedPlace_entry {i : Nat} (h : i < 65536) : schedPlace (4 * i) = .entry (4 * i / 8) := if_pos (by omega)

/-- With no timetable running or queued, no place is in use. -/
theorem State.schedInUse_none (hrun : (s.dfa c).run = none) (hqueue : (s.dfa c).queue = []) (p : SchedPlace) :
    s.schedInUse c p = false := by
  have hslots : s.slotsInUse c = [] := by simp only [State.slotsInUse, hrun, hqueue, List.map_nil, List.append_nil]
  cases p <;> simp [State.schedInUse, hslots]

/-- Words written one after the other from index i on. -/
def State.putWords (s : State) (c i : Nat) (f : Nat → Nat) (n : Nat) : State :=
  (List.range n).foldl (fun s w => s.putSched c (4 * (i + w)) (f w)) s

theorem State.putWords_succ (s : State) (c i : Nat) (f : Nat → Nat) (n : Nat) :
    s.putWords c i f (n + 1) = (s.putWords c i f n).putSched c (4 * (i + n)) (f n) := by
  rw [State.putWords, List.range_succ, List.foldl_append]
  rfl

theorem State.putWords_frame (s : State) (c i : Nat) (f : Nat → Nat) (n : Nat) :
    (s.putWords c i f n).regs = s.regs ∧ (s.putWords c i f n).tags = s.tags ∧
    ∃ bad, (s.putWords c i f n).dfa c = { s.dfa c with bad := bad } := by
  induction n with
  | zero => exact ⟨rfl, rfl, (s.dfa c).bad, rfl⟩
  | succ n ih =>
    obtain ⟨hregs, htags, bad, hdfa⟩ := ih
    obtain ⟨-, hregs', htags', bad', hdfa'⟩ := (s.putWords c i f n).putSched_frame c (4 * (i + n)) (f n)
    rw [State.putWords_succ]
    exact ⟨hregs'.trans hregs, htags'.trans htags, bad', by rw [hdfa', hdfa]⟩

theorem State.sched_putWords (s : State) (c i : Nat) (f : Nat → Nat) {n w : Nat} (hw : w < n) :
    (s.putWords c i f n).sched c (4 * (i + w)) = f w % 2 ^ 24 := by
  induction n with
  | zero => exact absurd hw (Nat.not_lt_zero w)
  | succ n ih =>
    rw [State.putWords_succ]
    rcases eq_or_ne w n with rfl | hne
    · exact State.sched_putSched_same ..
    · exact (State.sched_putSched_apart (by omega) (f n)).trans (ih (by omega))

/-- A row of a load that falls among the entries, with none in use, stores its 128 words. -/
theorem State.loadRow_free {i : Nat} (hrun : (s.dfa c).run = none) (hqueue : (s.dfa c).queue = [])
    (hplace : l.widx + 128 * i + 128 ≤ 65536) :
    s.loadRow c l i = s.putWords c (l.widx + 128 * i) (laneAt (s.unitRow c (l.src + i)) 3) 128 := by
  have upto (n : Nat) (hn : n ≤ 128) : (List.range n).foldl (fun u w =>
      if l.widx + 128 * i + w < 131072 then
        u.writeSched c (4 * (l.widx + 128 * i + w)) (laneAt (s.unitRow c (l.src + i)) 3 w)
      else u) s = s.putWords c (l.widx + 128 * i) (laneAt (s.unitRow c (l.src + i)) 3) n := by
    induction n with
    | zero => rfl
    | succ n ih =>
      obtain ⟨-, -, bad, hdfa⟩ := s.putWords_frame c (l.widx + 128 * i) (laneAt (s.unitRow c (l.src + i)) 3) n
      have hentry := schedPlace_entry (i := l.widx + 128 * i + n) (by omega)
      rw [State.putWords_succ, List.range_succ, List.foldl_append, ih (by omega), List.foldl_cons, List.foldl_nil,
        if_pos (by omega)]
      exact State.writeSched_free (by rw [hentry]; exact SchedPlace.noConfusion)
        (State.schedInUse_none (by rw [hdfa]; exact hrun) (by rw [hdfa]; exact hqueue) _) _
  exact upto 128 le_rfl

theorem laneAt_lt (bs : List Byte) (w i : Nat) : laneAt bs w i < 2 ^ (8 * w) :=
  (ofBytes_lt _).trans_le (Nat.pow_le_pow_right Nat.two_pos (Nat.mul_le_mul_left 8 (List.length_take_le _ _)))

/-- One open row of a load that falls among the entries, with none in use: its 128 lanes stand there. -/
theorem State.dfaLoadEnd_row (hact : s.unitsAct c = true) (hload : (s.dfa c).load = some l) (hrows : l.rows = 1)
    (hplace : l.widx + 128 ≤ 65536) (hopen : s.unitTag c l.src = false) (hrun : (s.dfa c).run = none)
    (hqueue : (s.dfa c).queue = []) :
    let u := s.dfaLoadEnd c
    (u.dfa c).load = none ∧ u.regs = s.regs ∧ u.tags = s.tags ∧
    ∀ w < 128, u.sched c (4 * (l.widx + w)) = laneAt (s.unitRow c l.src) 3 w := by
  have hwords : State.loadRows c l l.rows 0 s = s.putWords c l.widx (laneAt (s.unitRow c l.src) 3) 128 := by
    have hrow := State.loadRow_free (i := 0) hrun hqueue (by omega : l.widx + 128 * 0 + 128 ≤ 65536)
    simp only [Nat.mul_zero, Nat.add_zero] at hrow
    rw [hrows, State.loadRows_open 0 hopen, State.loadRows, hrow]
  obtain ⟨hregs, htags, -⟩ := s.putWords_frame c l.widx (laneAt (s.unitRow c l.src) 3) 128
  have hsched (w : Nat) (hw : w < 128) := (s.sched_putWords c l.widx (laneAt (s.unitRow c l.src) 3) hw).trans
    (Nat.mod_eq_of_lt (laneAt_lt _ 3 w))
  dsimp only
  rw [State.dfaLoadEnd_loads hact hload, hwords, State.dfa_setDfa_same]
  generalize s.putWords c l.widx (laneAt (s.unitRow c l.src) 3) 128 = u at hregs htags hsched ⊢
  exact ⟨rfl, hregs, htags, hsched⟩

end Sys2Proof.Machine
end

section
/-! What each command of a dataflow array does (section 11). -/

namespace Sys2Proof.Machine

open Sys2Proof

theorem lfsrLoad_word (v : Word) : lfsrLoad v.toNat = if v = 0 then 1 else v.toNat := by
  have hv : v.toNat % 2 ^ 24 = v.toNat := Nat.mod_eq_of_lt v.isLt
  rw [lfsrLoad, hv]
  exact if_congr (BitVec.toNat_inj (y := 0)) rfl rfl

/-- Settles O29: each command by the state it finds, through the rule of the operation it runs. -/
theorem dataflowCommands : Obligations.DataflowCommands := by
  unfold Obligations.DataflowCommands
  refine ⟨?queued, ?pending, ?full, fun s c k ha hon hroom => congrArg ok (State.dfaEventStart_queued ha hon hroom),
    fun s c k ha h => congrArg ok (State.dfaEventStart_held ha h),
    fun s c k ha => congrArg ok (State.dfaEventStart_none ha), ?starts, ?refused,
    fun s c h => congrArg ok (State.timetableStart_idle h), ?arrives, ?writes, ?flush, ?ends,
    fun s c r hact hrun hended => congrArg ok (State.timetableDone_ends hact hrun hended),
    fun s c r hrun hended => congrArg ok (State.timetableDone_running hrun hended), ?abort, ?abortQueued, ?load, ?loadBad,
    fun s c l hact hload => congrArg ok (State.dfaLoadEnd_loads hact hload), ?loadRow,
    fun s c n i l h => State.loadRows_sealed n h, ?nowhere, ?inUse, ?written, by decide,
    fun s ini c ht => congrArg ok (s.cmdWrite_takes _ _ _ ht), ?seed,
    fun s c st status b x hsrc hfull => State.dfaReport_overflow hsrc hfull status b x⟩
  case queued =>
    intro s ini c p v ht hpend hroom
    exact (becomes_dfaStart ht v).trans
      (congrArg ok ((State.dfaStart_queued hpend p v.toNat).trans (State.dfaQueue_room hroom _)))
  case pending =>
    intro s ini c p v ht hpend
    exact (becomes_dfaStart ht v).trans (congrArg ok (State.dfaStart_pending hpend p false v.toNat))
  case full =>
    intro s ini c p v ht hpend hfull
    exact (becomes_dfaStart ht v).trans
      (congrArg ok ((State.dfaStart_queued hpend p v.toNat).trans (State.dfaQueue_full hfull _)))
  case starts =>
    intro s c st rest e hact hrun hqueue hok he
    obtain ⟨ps, heq, hports⟩ := State.timetableStart_runs hact hrun hqueue hok he
    refine ⟨_, congrArg ok heq, ?_⟩
    beta_reduce
    rw [State.dfa_setDfa_same]
    exact ⟨rfl, rfl, rfl, rfl, fun q hq h => (hports q hq).trans (State.loadedPort_new h _), rfl, rfl, rfl, rfl, rfl⟩
  case refused =>
    intro s c st rest hact hrun hqueue hbad hsrc hroom
    obtain ⟨hdfa, hfld, hregs, hmem, htags⟩ :=
      State.timetableStart_refused_leaves hact hrun hqueue hbad hsrc hroom
    refine ⟨_, rfl, ?_⟩
    beta_reduce
    rw [hdfa]
    exact ⟨rfl, hrun, rfl, hfld, hregs, hmem, htags⟩
  case arrives =>
    intro s c n p q hact hwrites hq hen hread hasked
    refine ⟨_, congrArg ok ((if_pos hact).trans (State.portGrant_arrives hwrites hq hen hread hasked)), ?_⟩
    beta_reduce
    rw [State.dfa_setDfa_same]
    exact ⟨Dfa.port_setPort_same _ _ _, fun j hj => (Dfa.port_setPort _ _ _ _).trans (if_neg hj), rfl, rfl, rfl, rfl⟩
  case writes =>
    intro s c n p r bs hact hon hwrites hlen
    exact ⟨_, congrArg ok (if_pos hact), State.portGrant_writes_leaves hon hwrites hlen⟩
  case flush =>
    intro s c q p hp hfill hidle
    rw [State.flushPort_fills hp hfill hidle, State.dfa_setDfa_same]
    exact ⟨rfl, congrArg DfaPort.fill (Dfa.port_setPort_same _ _ _), rfl⟩
  case ends =>
    intro s c r hact hrun hended hsrc hroom hwrites hidle
    obtain ⟨hdfa, hpulses, hregs, hmem, -⟩ := State.dfaReport_leaves (s := s.setDfa c (s.dfa c).wiped) hsrc
      (by rwa [State.dfa_setDfa_same]) 0 (s.dfa c).sealedSt r.exh
    rw [State.dfa_setDfa_same] at hdfa
    refine ⟨_, congrArg ok (State.timetableDone_written hact hrun hended hwrites hidle), ?_⟩
    beta_reduce
    rw [hdfa]
    exact ⟨rfl, rfl, rfl, rfl, rfl, rfl, hregs, hmem, hpulses⟩
  case abort =>
    intro s ini c r ht hrun hqueue hsrc hroom
    obtain ⟨hdfa, -, hregs, hmem, htags⟩ := State.dfaReport_leaves (s := s.setDfa c (s.dfa c).wiped) hsrc
      (by rwa [State.dfa_setDfa_same]) 2 (s.dfa c).sealedSt r.exh
    rw [State.dfa_setDfa_same] at hdfa
    refine ⟨_, congrArg ok ((s.cmdWrite_takes _ _ _ ht).trans (State.dfaAbort_run hrun hqueue)), ?_⟩
    beta_reduce
    rw [hdfa]
    exact ⟨rfl, hqueue, rfl, rfl, rfl, rfl, rfl, hregs, hmem, htags⟩
  case abortQueued =>
    intro s ini c st ht hqueue hrun
    exact congrArg ok ((s.cmdWrite_takes _ _ _ ht).trans (State.dfaAbort_queued hrun hqueue))
  case load =>
    intro s ini c ht hload hn hfit
    exact congrArg ok ((s.cmdWrite_takes _ _ _ ht).trans (State.dfaLoad_begins hload hn hfit))
  case loadBad =>
    intro s ini c ht hload hbad
    exact congrArg ok ((s.cmdWrite_takes _ _ _ ht).trans (State.dfaLoad_refused hload hbad))
  case loadRow =>
    intro s c l hact hload hrows hplace hopen hrun hqueue
    exact ⟨_, rfl, State.dfaLoadEnd_row hact hload hrows hplace hopen hrun hqueue⟩
  case nowhere =>
    intro s ini c i v ht hplace
    exact (becomes_scheduleWrite ht v).trans (congrArg ok (State.writeSched_nowhere hplace v.toNat))
  case inUse =>
    intro s ini c i v ht hplace huse
    exact (becomes_scheduleWrite ht v).trans (congrArg ok (State.writeSched_inUse hplace huse v.toNat))
  case written =>
    intro s ini c i v ht hplace hfree
    obtain ⟨-, hregs, htags, -⟩ := s.putSched_frame c (4 * i) v.toNat
    refine ⟨_, (becomes_scheduleWrite ht v).trans (congrArg ok (State.writeSched_free hplace hfree v.toNat)), ?_⟩
    exact ⟨(s.sched_putSched_same c (4 * i) v.toNat).trans (Nat.mod_eq_of_lt v.isLt),
      fun a ha => State.byte_putSched_out ha v.toNat, hregs, htags, fun k hk => State.bad_putSched_entry hk v.toNat,
      fun k hk => State.bad_putSched_other hk v.toNat⟩
  case seed =>
    intro s ini c v ht
    exact congrArg ok ((s.cmdWrite_takes _ _ _ ht).trans (by rw [lfsrLoad_word]))

end Sys2Proof.Machine
end

section
/-! Frames of a formed mesh: routes and forwarding, zone reports at the root, the loss of the parent, and hand-over (R416,
R636, R637, R639, R642). -/

namespace Sys2Proof.Machine

open Sys2Proof

variable {s t u : State} {f : MmpFrame} {r : ZoneRecord} {w : Stream} {target dest hop : Nat} {p : List Byte}

/-! ### Routes (R636) -/

theorem State.route_adds (hsec : f.secok = true) (hroot : s.mesh.phase = .root) (h : frameByte f.payload 8 = 0) :
    s.route f = s.setMesh { s.mesh with
      routes := s.mesh.routes.filter (fun u => u.1 != frameWord f.payload 0 8) ++
        [(frameWord f.payload 0 8, f.origin)] } := by
  simp [State.route, hsec, hroot, h]

theorem State.route_removes (hsec : f.secok = true) (hroot : s.mesh.phase = .root) (h : frameByte f.payload 8 ≠ 0) :
    s.route f = s.setMesh { s.mesh with
      routes := s.mesh.routes.filter (fun u => u.1 != frameWord f.payload 0 8) } := by
  simp [State.route, hsec, hroot, h]

theorem State.route_elsewhere (h : s.mesh.phase ≠ .root) : s.route f = s := by simp [State.route, h]

/-! ### Forwarding (R636) -/

theorem Mesh.through_child {m : Mesh} (h : m.children.any (fun u => u.addr == target) = true) (n : Nat) :
    m.through (n + 1) target = some target := if_pos h

theorem Mesh.through_route {m : Mesh} (hchild : m.children.any (fun u => u.addr == target) = false)
    (h : m.routes.find? (fun u => u.1 == target) = some (target, hop)) (n : Nat) :
    m.through (n + 1) target = m.through n hop := by
  simp only [Mesh.through, hchild, h, Bool.false_eq_true, if_false]

theorem Mesh.through_nowhere {m : Mesh} (hchild : m.children = []) (h : m.routes = []) (n : Nat) :
    m.through n target = none := by
  cases n with
  | zero => rfl
  | succ n => simp [Mesh.through, hchild, h]

theorem Mesh.parenting_root {m : Mesh} (h : m.phase = .root) : m.parenting = true := by simp [Mesh.parenting, h]

theorem Mesh.parenting_router {m : Mesh} (h : m.phase = .joined) (hub : m.hub = true) : m.parenting = true := by
  simp [Mesh.parenting, h, hub]

theorem State.mmpMine_up (h : f.up = true) : s.mmpMine f = (s.mesh.phase == .root) := by simp [State.mmpMine, h]

theorem State.mmpMine_down (h : f.up = false) : s.mmpMine f = (frameWord f.payload 0 8 == s.uid) := by
  simp [State.mmpMine, h]

theorem State.mmpHop_up (h : f.up = true) (hj : s.mesh.phase = .joined) : s.mmpHop f = some s.mesh.parent := by
  simp [State.mmpHop, h, hj]

theorem State.mmpHop_down (h : f.up = false) (ht : s.mesh.through 4 (frameWord f.payload 0 8) = some hop) :
    s.mmpHop f = some hop := by
  simp [State.mmpHop, h, ht]

theorem State.mmpHop_nowhere (h : f.up = false) (hj : s.mesh.phase = .joined)
    (ht : s.mesh.through 4 (frameWord f.payload 0 8) = none) : s.mmpHop f = some s.mesh.parent := by
  simp [State.mmpHop, h, hj, ht]

theorem State.mmpVia_parent (h : s.mesh.phase = .joined) : s.mmpVia s.mesh.parent = .data := by simp [State.mmpVia, h]

theorem State.mmpVia_root (h : s.mesh.phase = .root) (dest : Nat) : s.mmpVia dest = .downlink := by simp [State.mmpVia, h]

/-- A parent sends a frame that is not its own on to the next hop, with TTL lowered. -/
theorem State.mmpForward_sends (hsec : f.secok = true) (hp : s.mesh.parenting = true) (hmine : s.mmpMine f = false)
    (httl : 2 ≤ f.ttl) (htype : f.up = true ∨ f.type = 6 ∨ f.type = 7) (hhop : s.mmpHop f = some dest) :
    s.mmpForward f = s.mmpSend (s.mmpVia dest) dest (mmpBytes { f with ttl := f.ttl - 1 }) := by
  have hlive : ¬ f.ttl ≤ 1 := by omega
  have hkind : (f.up || f.type == 6 || f.type == 7) = true := by simpa [or_assoc] using htype
  simp only [State.mmpForward, hsec, hp, hmine, hlive, hkind, hhop]
  rfl

/-- Down from the root, through the child that `through` finds. -/
theorem State.mmpForward_root (hsec : f.secok = true) (hroot : s.mesh.phase = .root) (hdown : f.up = false)
    (htype : f.type = 6 ∨ f.type = 7) (httl : 2 ≤ f.ttl) (hother : frameWord f.payload 0 8 ≠ s.uid)
    (ht : s.mesh.through 4 (frameWord f.payload 0 8) = some hop) :
    s.mmpForward f = s.mmpSend .downlink hop (mmpBytes { f with ttl := f.ttl - 1 }) := by
  have hmine : s.mmpMine f = false := (State.mmpMine_down hdown).trans (beq_false_of_ne hother)
  rw [State.mmpForward_sends hsec (Mesh.parenting_root hroot) hmine httl (.inr htype) (State.mmpHop_down hdown ht),
    State.mmpVia_root hroot]

/-- A router sends to its parent whatever its hop names the parent for. -/
theorem State.mmpForward_router (hsec : f.secok = true) (hj : s.mesh.phase = .joined) (hub : s.mesh.hub = true)
    (hmine : s.mmpMine f = false) (htype : f.up = true ∨ f.type = 6 ∨ f.type = 7) (httl : 2 ≤ f.ttl)
    (hhop : s.mmpHop f = some s.mesh.parent) :
    s.mmpForward f = s.mmpSend .data s.mesh.parent (mmpBytes { f with ttl := f.ttl - 1 }) := by
  rw [State.mmpForward_sends hsec (Mesh.parenting_router hj hub) hmine httl htype hhop, State.mmpVia_parent hj]

theorem State.mmpForward_spent (h : f.ttl ≤ 1) : s.mmpForward f = s := by simp [State.mmpForward, h]

theorem State.mmpForward_mine (h : s.mmpMine f = true) : s.mmpForward f = s := by simp [State.mmpForward, h]

/-! ### Zone reports (R637) -/

theorem State.zreport_root (hsec : f.secok = true) (hroot : s.mesh.phase = .root) : s.zreport f =
    (zoneRecords f.origin f.compact f.payload.length none f.payload).foldl State.zoneRecord s := by
  simp [State.zreport, hsec, hroot]

theorem State.zreport_elsewhere (h : s.mesh.phase ≠ .root) : s.zreport f = s := by simp [State.zreport, h]

/-- The stream of a record. -/
def ZoneRecord.ofStream (r : ZoneRecord) (u : Stream) : Bool :=
  u.origin == r.origin && u.zone == r.zone && u.cluster == r.cluster

/-- The stream a record begins. -/
def ZoneRecord.begins (r : ZoneRecord) : Stream :=
  { origin := r.origin, zone := r.zone, cluster := r.cluster, hi := r.epoch, masks := setMask (List.replicate 64 0) 0 r.seq }

theorem State.zoneRecord_begins (hnew : s.mesh.streams.find? r.ofStream = none) (hroom : s.mesh.streams.length < 64) :
    s.zoneRecord r = s.setMesh { s.mesh with
      streams := s.mesh.streams ++ [r.begins], records := s.mesh.records ++ [r] } := by
  unfold ZoneRecord.ofStream at hnew
  simp only [State.zoneRecord, hnew, if_neg hroom.not_ge]
  rfl

theorem State.zoneRecord_overflow (hnew : s.mesh.streams.find? r.ofStream = none) (hfull : 64 ≤ s.mesh.streams.length) :
    s.zoneRecord r = s.setMesh { s.mesh with overflow := s.mesh.overflow + 1 } := by
  unfold ZoneRecord.ofStream at hnew
  simp only [State.zoneRecord, hnew, if_pos hfull]

/-- A record of the stream's own highest epoch that its mask shows is a repeat. -/
theorem State.zoneRecord_repeat (hold : s.mesh.streams.find? r.ofStream = some w) (hepoch : r.epoch = w.hi)
    (hseen : bitOf (w.masks.getD 0 0) r.seq = true) : s.zoneRecord r = s := by
  have hd : (r.epoch + 65536 - w.hi) % 65536 = 0 := by omega
  unfold ZoneRecord.ofStream at hold
  simp only [State.zoneRecord, hold, hd, Nat.sub_zero, Nat.mod_self, hseen]
  rfl

/-! ### Messages of this node -/

/-- `t` is `s` after n messages of this node. -/
structure State.HasSent (s t : State) (n : Nat) : Prop where
  rest : t = s.setMesh t.mesh
  mesh : t.mesh = { s.mesh with mseq := t.mesh.mseq, out := t.mesh.out }
  out : t.mesh.out.length = s.mesh.out.length + n

theorem State.HasSent.refl (s : State) : s.HasSent s 0 := ⟨rfl, rfl, rfl⟩

theorem State.HasSent.trans {m n : Nat} (h : s.HasSent t m) (h' : t.HasSent u n) : s.HasSent u (m + n) := by
  refine ⟨?_, ?_, by rw [h'.out, h.out, Nat.add_assoc]⟩
  · rw [h'.rest, h.rest]
    rfl
  · rw [h'.mesh, h.mesh]

theorem State.hasSent_mmpMake (s : State) (via : MmpVia) (dest type : Nat) (up : Bool) (p : List Byte) :
    s.HasSent (s.mmpMake via dest type up p) 1 := ⟨rfl, rfl, List.length_append⟩

theorem State.hasSent_foldl {α : Type} {g : State → α → State} (hg : ∀ v x, State.HasSent v (g v x) 1) (l : List α)
    (s : State) : s.HasSent (l.foldl g s) l.length := by
  induction l generalizing s with
  | nil => exact .refl s
  | cons x l ih =>
    rw [List.length_cons, Nat.add_comm]
    exact (hg s x).trans (ih _)

theorem State.HasSent.jobs {n : Nat} (h : s.HasSent t n) : t.mesh.jobs = s.mesh.jobs := by rw [h.mesh]
theorem State.HasSent.answers {n : Nat} (h : s.HasSent t n) : t.mesh.answers = s.mesh.answers := by rw [h.mesh]
theorem State.HasSent.handOut {n : Nat} (h : s.HasSent t n) : t.mesh.handOut = s.mesh.handOut := by rw [h.mesh]

/-! ### The loss of the parent (R639) -/

/-- Nothing but the slot engine, its registers, its requests and its events differs between `s` and `t`. -/
def State.OnlyEngine (s t : State) : Prop :=
  t = { s with regs := t.regs, waiting := t.waiting, lnk := t.lnk, pulses := t.pulses }

theorem State.OnlyEngine.trans (h : s.OnlyEngine t) (h' : t.OnlyEngine u) : s.OnlyEngine u := by
  rw [State.OnlyEngine] at h h' ⊢
  rw [h', h]

theorem State.OnlyAsks.onlyEngine (h : s.OnlyAsks t) : s.OnlyEngine t := by
  rw [State.OnlyAsks] at h
  rw [State.OnlyEngine, h]

theorem State.onlyAsks_requestLeave (s : State) (going : List (Nat × Nat)) : s.OnlyAsks (s.requestLeave going) := by
  refine List.foldlRecOn (motive := s.OnlyAsks) going _ rfl fun u hu g _ => ?_
  split_ifs
  · exact hu
  · exact hu.setFld _ 1
  · exact hu.setFld _ 1
  · exact hu.trans (u.onlyAsks_setReq _ _)

theorem State.onlyEngine_slotEnd (s : State) : s.OnlyEngine s.slotEnd := by
  have hidle (u : State) : u.OnlyEngine u.autoRet := by
    rw [State.autoRet]
    split_ifs
    · exact (u.onlyAsks_requestLeave _).onlyEngine
    · rfl
  have hwoke : s.OnlyEngine { s with lnk := { s.lnk with woke := [] } } := rfl
  exact (hwoke.trans (State.onlyAsks_requestLeave _ _).onlyEngine).trans (hidle _)

theorem State.onlyEngine_lnkStop (s : State) : s.OnlyEngine s.lnkStop := by
  have hbufs (n : Nat) (v : State) : v.OnlyEngine ((List.range n).foldl (fun s b =>
      let t := s.tx b
      if t.st = 2 then if t.csma then s.txEnd b 10 else s.setTx b { t with st := 1, cancel := false, backoff := 0 }
      else s) v) := by
    refine List.foldlRecOn (motive := v.OnlyEngine) _ _ rfl fun u hu b _ => ?_
    dsimp only
    split_ifs
    · exact hu.trans rfl
    · exact hu.trans rfl
    · exact hu
  rw [State.lnkStop]
  generalize hv : List.foldl _ s (List.range 16) = v
  have hreset : v.OnlyEngine { (v.setFld F.LNK_STATUS_STATE 0).setFld F.LNK_STATUS_HELD 0 with
      lnk := { v.lnk with onAir := none, rxLink := none, resync := 0, guard := 0, corr := 0, latched := none } } := rfl
  exact ((hv ▸ hbufs 16 s).trans hreset).trans (State.onlyEngine_slotEnd _)

theorem State.onlyEngine_mmpListen (s : State) (ch : Nat) : s.OnlyEngine (s.mmpListen ch) := by
  rw [State.mmpListen]
  split_ifs <;> rfl

/-- A node that scans again: what it keeps, and what it forgets. -/
theorem State.mmpScan_leaves (s : State) :
    s.mmpScan.mesh = { s.mesh with phase := .scan, scanPos := 0, kept := [], cand := none, tries := 0 } ∧
    s.mmpScan.mem = s.mem := by
  have h := State.onlyEngine_mmpListen
    (s.setMesh { s.mesh with phase := .scan, scanPos := 0, kept := [], cand := none, tries := 0 }) s.mesh.claimCh
  rw [State.OnlyEngine] at h
  rw [State.mmpScan, h]
  exact ⟨rfl, rfl⟩

/-- The messages of a node that leaves: up the removal of its children's routes, down a LEAVE to each child. -/
def State.leaveSent (s : State) : State :=
  s.mesh.children.foldl (fun v c => v.mmpMake .downlink c.addr 5 false [])
    (s.mesh.children.foldl (fun v c => v.mmpMake .data v.mesh.parent 4 true (toBytes 8 c.addr ++ [1, 0])) s)

/-- The slot engine stopped, where it is ON. -/
def State.engineStopped (s : State) : State := if s.domOn 3 then s.lnkStop else s

/-- What the mesh keeps of a parent that is lost: the ROOTGEN. -/
def State.parentForgotten (s : State) : State :=
  s.setMesh { s.mesh with lostGen := some s.mesh.rootGen, children := [], routes := [], parent := 0 }

theorem State.mmpLeave_joined (h : s.mesh.phase = .joined) :
    s.mmpLeave = s.leaveSent.engineStopped.parentForgotten.mmpScan := if_pos h

theorem State.mmpLeave_elsewhere (h : s.mesh.phase ≠ .joined) : s.mmpLeave = s := if_neg h

theorem State.hasSent_leaveSent (s : State) : s.HasSent s.leaveSent (s.mesh.children.length + s.mesh.children.length) :=
  (State.hasSent_foldl (fun v _ => v.hasSent_mmpMake _ _ _ _ _) _ s).trans
    (State.hasSent_foldl (fun v _ => v.hasSent_mmpMake _ _ _ _ _) _ _)

theorem State.onlyEngine_engineStopped (s : State) : s.OnlyEngine s.engineStopped := by
  rw [State.engineStopped]
  split_ifs
  · exact s.onlyEngine_lnkStop
  · rfl

theorem State.OnlyEngine.mesh (h : s.OnlyEngine t) : t.mesh = s.mesh := by rw [h]
theorem State.OnlyEngine.mem (h : s.OnlyEngine t) : t.mem = s.mem := by rw [h]
theorem State.HasSent.mem {n : Nat} (h : s.HasSent t n) : t.mem = s.mem := by rw [h.rest]; rfl

/-- The mesh of a node that has left: it scans, and of what it had it keeps the ROOTGEN and what it has sent. -/
theorem State.mmpLeave_leaves (h : s.mesh.phase = .joined) :
    s.mmpLeave.mesh = { s.leaveSent.mesh with
      phase := .scan, scanPos := 0, kept := [], cand := none, tries := 0, lostGen := some s.mesh.rootGen, children := [],
      routes := [], parent := 0 } ∧
    s.mmpLeave.mem = s.mem := by
  have hsent := s.hasSent_leaveSent
  have hstop := s.leaveSent.onlyEngine_engineStopped
  obtain ⟨hmesh, hmem⟩ := s.leaveSent.engineStopped.parentForgotten.mmpScan_leaves
  have hgen : s.leaveSent.mesh.rootGen = s.mesh.rootGen := by rw [hsent.mesh]
  rw [State.mmpLeave_joined h]
  refine ⟨?_, hmem.trans (hstop.mem.trans hsent.mem)⟩
  rw [hmesh, State.parentForgotten, hstop.mesh, hgen]
  rfl

theorem State.length_out_leaveSent (s : State) :
    s.leaveSent.mesh.out.length = s.mesh.out.length + 2 * s.mesh.children.length := by
  rw [s.hasSent_leaveSent.out, Nat.two_mul]

/-! ### Hand-over (R416, R642) -/

/-- What a node remembers of its answer to a HANDOVER. -/
def handRecord (f : MmpFrame) (st : Nat) : Nat × Nat × Nat × Nat :=
  (f.origin, frameByte f.payload 14 % 64, frameWord f.payload 8 2, st)

/-- The HANDACK with a status, on the way back to the sender of a HANDOVER. -/
def State.handAnswer (s : State) (f : MmpFrame) (st : Nat) : State :=
  let dest := (s.mmpHop { f with payload := toBytes 8 f.origin, up := false }).getD f.origin
  s.mmpMake (s.mmpVia dest) dest 7 false (toBytes 8 f.origin ++ toBytes 2 (frameWord f.payload 8 2) ++ toBytes 1 st)

theorem State.hasSent_handAnswer (s : State) (f : MmpFrame) (st : Nat) : s.HasSent (s.handAnswer f st) 1 :=
  s.hasSent_mmpMake _ _ _ _ _

section
variable (hsec : f.secok = true) (hto : frameWord f.payload 0 8 = s.uid)
include hsec hto

theorem State.handover_taken (hans : s.mesh.answers = []) (hacc : s.mesh.accepted = []) : s.handover f true true =
    (s.setMesh { s.mesh with
      answers := [handRecord f 0], jobs := s.mesh.jobs ++ [f.payload],
      accepted := [(f.origin, frameByte f.payload 14 % 64, frameWord f.payload 8 2)] }).handAnswer f 0 := by
  simp only [State.handover, hsec, hto, hans, hacc, State.handFresh, bne_self_eq_false, List.find?_nil]
  rfl

theorem State.handover_noPlace (hans : s.mesh.answers = []) (hacc : s.mesh.accepted = []) (sensor : Bool) :
    s.handover f false sensor = (s.setMesh { s.mesh with answers := [handRecord f 2] }).handAnswer f 2 := by
  simp only [State.handover, hsec, hto, hans, hacc, State.handFresh, bne_self_eq_false, List.find?_nil]
  rfl

theorem State.handover_again {st : Nat} (hans : s.mesh.answers = [handRecord f st]) (place sensor : Bool) :
    s.handover f place sensor = s.handAnswer f st := by
  simp only [State.handover, hsec, hto, hans, handRecord, bne_self_eq_false, List.find?_cons, beq_self_eq_true,
    Bool.and_self]
  rfl

theorem State.handack_ends {n : Nat} (h : s.mesh.handOut = some (p, frameWord f.payload 8 2, n)) :
    s.handack f = s.setMesh { s.mesh with handOut := none } := by
  simp [State.handack, hsec, hto, h]

end

theorem State.handover_other (h : frameWord f.payload 0 8 ≠ s.uid) (place sensor : Bool) : s.handover f place sensor = s := by
  simp [State.handover, h]

theorem State.handack_other (h : frameWord f.payload 0 8 ≠ s.uid) : s.handack f = s := by simp [State.handack, h]

/-- The first HANDOVER of a job is one message. -/
theorem State.handoverRepeat_first (h : s.mesh.handOut = none) :
    (s.setMesh { s.mesh with handOut := some (p, frameWord p 8 2, 0) }).HasSent (s.handoverRepeat p) 1 := by
  simp only [State.handoverRepeat, h]
  exact State.hasSent_mmpMake _ _ _ _ _ _

/-- So is each of its repeats. -/
theorem State.handoverRepeat_repeats {n : Nat} (h : s.mesh.handOut = some (p, frameWord p 8 2, n)) (hn : n < 8) :
    (s.setMesh { s.mesh with handOut := some (p, frameWord p 8 2, n + 1) }).HasSent (s.handoverRepeat p) 1 := by
  simp only [State.handoverRepeat, h, if_true, if_pos hn]
  exact State.hasSent_mmpMake _ _ _ _ _ _

theorem State.handoverRepeat_ends {n : Nat} (h : s.mesh.handOut = some (p, frameWord p 8 2, n)) (hn : 8 ≤ n) :
    s.handoverRepeat p = s.setMesh { s.mesh with handOut := none } := by
  simp only [State.handoverRepeat, h, if_true, if_neg hn.not_gt]

/-! ### The statement -/

/-- Settles O53: each command by the state it finds, through the lemma that says what its operation does there. -/
theorem meshTraffic : Obligations.MeshTraffic := by
  unfold Obligations.MeshTraffic
  refine ⟨fun s f hsec hroot h => congrArg ok (State.route_adds hsec hroot h),
    fun s f hsec hroot h => congrArg ok (State.route_removes hsec hroot h),
    fun s f h => ⟨congrArg ok (State.route_elsewhere h), congrArg ok (State.zreport_elsewhere h)⟩,
    ?up, fun s f h => congrArg ok (State.mmpForward_spent h), ?atRoot, ?byRoute, ?toChild, ?router,
    fun s f hsec hroot => congrArg ok (State.zreport_root hsec hroot), ?newStream,
    fun s r hnew hfull => State.zoneRecord_overflow hnew hfull,
    fun s r w hold hepoch _ hseen => State.zoneRecord_repeat hold hepoch hseen,
    fun s o z c => rfl, ?loss, fun s h => congrArg ok (State.mmpLeave_elsewhere h), ?leave,
    fun s f h => congrArg ok (if_neg fun hl => h hl.2), ?taken, ?noPlace, ?again,
    fun s f p y h => ⟨congrArg ok (State.handover_other h p y), congrArg ok (State.handack_other h)⟩, ?acked, ?first,
    ?repeats, fun s p n h hn => congrArg ok (State.handoverRepeat_ends h hn)⟩
  case up =>
    intro s f hsec hj hub hup httl
    exact congrArg ok (State.mmpForward_router hsec hj hub (by rw [State.mmpMine_up hup, hj]; rfl) (.inl hup) httl
      (State.mmpHop_up hup hj))
  case atRoot =>
    intro s f hroot hup
    exact congrArg ok (State.mmpForward_mine (by rw [State.mmpMine_up hup, hroot]; rfl))
  case byRoute =>
    intro s f r hsec hroot hdown htype httl hother hchild hroute hhop
    exact congrArg ok (State.mmpForward_root hsec hroot hdown htype httl hother
      ((Mesh.through_route hchild hroute 3).trans (Mesh.through_child hhop 2)))
  case toChild =>
    intro s f hsec hroot hdown htype httl hother hchild
    exact congrArg ok (State.mmpForward_root hsec hroot hdown htype httl hother (Mesh.through_child hchild 3))
  case router =>
    intro s f hsec hj hub hdown htype httl hother hchild hroute
    exact congrArg ok (State.mmpForward_router hsec hj hub ((State.mmpMine_down hdown).trans (beq_false_of_ne hother))
      (.inr htype) httl (State.mmpHop_nowhere hdown hj (Mesh.through_nowhere hchild hroute 4)))
  case newStream =>
    intro s r hnew hroom
    rw [State.zoneRecord_begins hnew hroom]
    exact ⟨rfl, List.length_append, rfl⟩
  case loss =>
    intro s hj
    obtain ⟨hmesh, hmem⟩ := State.mmpLeave_leaves hj
    refine ⟨s.mmpLeave, rfl, ?_⟩
    beta_reduce
    rw [hmesh]
    exact ⟨rfl, rfl, rfl, rfl, rfl, rfl, s.length_out_leaveSent, hmem⟩
  case leave =>
    intro s f hsec hfrom hj
    obtain ⟨hmesh, hmem⟩ := State.mmpLeave_leaves hj
    refine ⟨s.mmpLeave, congrArg ok (if_pos ⟨hsec, hfrom⟩), ?_⟩
    beta_reduce
    rw [hmesh]
    exact ⟨rfl, rfl, rfl, rfl, rfl, rfl, hmem⟩
  case taken =>
    intro s f hsec hto hans hacc
    have hsent := State.hasSent_handAnswer (s.setMesh { s.mesh with
      answers := [handRecord f 0], jobs := s.mesh.jobs ++ [f.payload],
      accepted := [(f.origin, frameByte f.payload 14 % 64, frameWord f.payload 8 2)] }) f 0
    exact ⟨_, congrArg ok (State.handover_taken hsec hto hans hacc), hsent.jobs, hsent.answers, hsent.out⟩
  case noPlace =>
    intro s f y hsec hto hans hacc
    have hsent := State.hasSent_handAnswer (s.setMesh { s.mesh with answers := [handRecord f 2] }) f 2
    exact ⟨_, congrArg ok (State.handover_noPlace hsec hto hans hacc y), hsent.jobs, hsent.answers, hsent.out⟩
  case again =>
    intro s f p y st hsec hto hans
    have hsent := s.hasSent_handAnswer f st
    exact ⟨_, congrArg ok (State.handover_again hsec hto hans p y), hsent.jobs, hsent.answers, hsent.out⟩
  case acked =>
    rintro s f p h n hsec hto hout rfl
    exact congrArg ok (State.handack_ends hsec hto hout)
  case first =>
    intro s p hout
    have hsent := State.handoverRepeat_first (p := p) hout
    exact ⟨_, rfl, hsent.handOut, hsent.out⟩
  case repeats =>
    intro s p n hout hn
    have hsent := State.handoverRepeat_repeats hout hn
    exact ⟨_, rfl, hsent.handOut, hsent.out⟩

end Sys2Proof.Machine
end

section
/-! The dispatch of a command of a host queue: whose turn it is, what ends a command before it runs, and the unit operations
it issues (R445-R448, R453, R469). -/

namespace Sys2Proof.Machine

open Sys2Proof

variable {s t u : State} {q n k h opc st : Nat} {x y : QCmd} {c : Instr} {but l : List Nat}

/-! ### The turn of a queue (R447) -/

/-- Each of the nine commands of a queue dispatches the queue's next command, if that has its opcode. -/
theorem exec_queueCommand {q : Fin 64} {i : Nat}
    (hc : ([Instr.queNop q, .wset q, .wslist q, .move q, .timetable q, .tpgm q, .twipe q, .trefresh q, .wait q] : List
      Instr)[i]? = some c) (s : State) : exec c s = ok (s.dispatch q i) := by
  obtain ⟨hi, rfl⟩ := List.getElem?_eq_some_iff.mp hc
  have hi9 : i < 9 := hi
  interval_cases i <;> rfl

/-- Queue q is the last one served. -/
def State.served (s : State) (q : Nat) : State := { s with front := { s.front with rr := q } }

theorem State.dispatch_elsewhere (h : s.nextQueue ≠ some q) (opc : Nat) : s.dispatch q opc = s := if_neg h

/-- The command as a check at its dispatch ends it (R446, R453, R469). -/
def QCmd.endedWith (x : QCmd) (st : Nat) : QCmd := { x with sent := true, phase := 3, status := st }

section
variable (hn : s.NextCmd q n x)
include hn

theorem State.dispatch_stale (hw : x.waitf = some h) (hstale : s.handleOk h = false) :
    s.dispatch q x.opc = (s.served q).setCmd q n (x.endedWith 11) := by
  obtain ⟨hturn, hcmd, hx⟩ := hn
  simp only [State.dispatch, hturn, hcmd, hx, hw, hstale, Bool.not_false, if_true]
  rfl

theorem State.dispatch_depfail (hw : x.waitf = some h) (hok : s.handleOk h = true) (hchk : x.flagAt 4 = true)
    (hst : s.fld (F.QUE_FSTATE_STATUS (handleIdx h)) ≠ 1) :
    s.dispatch q x.opc = (s.served q).setCmd q n (x.endedWith 13) := by
  obtain ⟨hturn, hcmd, hx⟩ := hn
  simp only [State.dispatch, hturn, hcmd, hx, hw, hok, hchk, bne_iff_ne.mpr hst, Bool.not_true, Bool.and_self,
    Bool.false_eq_true, if_true, if_false]
  rfl

variable (hw : x.waitf = none)
include hw

theorem State.dispatch_foreign (hunit : x.hasUnit = true) (howner : s.ownsCl x = false) :
    s.dispatch q x.opc = (s.served q).setCmd q n (x.endedWith 10) := by
  obtain ⟨hturn, hcmd, hx⟩ := hn
  simp only [State.dispatch, hturn, hcmd, hx, hw, hunit, howner, Bool.not_false, Bool.and_self, Bool.false_eq_true,
    if_true, if_false]
  rfl

theorem State.dispatch_fenced (hunit : x.hasUnit = true) (howner : s.ownsCl x = true)
    (hfence : s.fenced (32 + x.cl) = true) :
    s.dispatch q x.opc = (s.served q).setCmd q n { x.endedWith 8 with detail := 0x14 } := by
  obtain ⟨hturn, hcmd, hx⟩ := hn
  simp only [State.dispatch, hturn, hcmd, hx, hw, hunit, howner, hfence, Bool.not_true, Bool.and_false, Bool.and_self,
    Bool.false_eq_true, if_true, if_false]
  rfl

end

theorem State.dispatch_turn (ht : s.Turn q n x) : s.dispatch q x.opc = (s.served q).runCmd q n x := by
  obtain ⟨⟨hturn, hcmd, hx⟩, hw, hcl, -⟩ := ht
  have howner : (x.hasUnit && !s.ownsCl x) = false := by
    rcases hcl with hunit | ⟨howns, -⟩
    · rw [hunit, Bool.false_and]
    · rw [howns, Bool.not_true, Bool.and_false]
  have hfence : (x.hasUnit && s.fenced (32 + x.cl)) = false := by
    rcases hcl with hunit | ⟨-, hopen⟩
    · rw [hunit, Bool.false_and]
    · rw [hopen, Bool.and_false]
  simp only [State.dispatch, hturn, hcmd, hx, hw, howner, hfence, Bool.false_eq_true, if_true, if_false]
  rfl

/-! ### Commands that end, or wait, at their dispatch (R445, R453) -/

theorem State.runCmd_nop (ho : x.opc = 0) : s.runCmd q n x =
    s.setCmd q n { x with phase := 3, sent := true, limit := 1 } := by
  simp only [State.runCmd, ho]
  rw [QCmd.perStep, ho]
  rfl

section
variable (ho : x.opc = 8)
include ho

theorem State.runCmd_wait_stale (hh : s.handleOk x.waitOn = false) : s.runCmd q n x =
    s.setCmd q n { x with phase := 3, sent := true, limit := 1, status := 11 } := by
  simp only [State.runCmd, ho, hh]
  rw [QCmd.perStep, ho]
  rfl

theorem State.runCmd_wait_signalled (hh : s.handleOk x.waitOn = true) (hf : s.fenceState (handleIdx x.waitOn) = 2) :
    s.runCmd q n x = s.setCmd q n { x with
      phase := 3, sent := true, limit := 1,
      status := if x.flagAt 4 = true ∧ s.fld (F.QUE_FSTATE_STATUS (handleIdx x.waitOn)) ≠ 1 then 13 else 1 } := by
  simp only [State.runCmd, ho, hh, hf, QCmd.waitStatus, Bool.and_eq_true, bne_iff_ne]
  rw [QCmd.perStep, ho]
  rfl

theorem State.runCmd_wait_pending (hh : s.handleOk x.waitOn = true) (hf : s.fenceState (handleIdx x.waitOn) = 1) :
    s.runCmd q n x = s.setCmd q n { x with phase := 2, sent := true, limit := 1 } := by
  simp only [State.runCmd, ho, hh, hf]
  rw [QCmd.perStep, ho]
  rfl

end

theorem State.runCmd_timetable_refused (ho : x.opc = 4) (h : s.admitted x.cl (x.pay 0 1) = false) : s.runCmd q n x =
    s.setCmd q n { x with phase := 3, sent := true, limit := 1, status := 12 } := by
  simp only [State.runCmd, ho, h]
  rw [QCmd.perStep, ho]
  rfl

/-! ### Unit operations of a step (R445, R448) -/

/-- The command in flight before its first unit operation. -/
def QCmd.inFlight (x : QCmd) : QCmd := { x with phase := 2, sent := true, limit := x.perStep }

/-- The command takes its place among those in flight, and shows its progress where it is a long one (R412). -/
def State.begun (s : State) (q n : Nat) (x : QCmd) : State :=
  let u := (s.served q).queue q
  ((s.served q).setQueue q { u with
    cmds := u.cmds.set n x.inFlight
    ran := if u.ran.contains x.cl then u.ran else u.ran ++ [x.cl] }).startLong q x

theorem State.runCmd_unit (ho : 1 ≤ x.opc ∧ x.opc ≤ 7) (hadm : x.opc = 4 → s.admitted x.cl (x.pay 0 1) = true) :
    (s.served q).runCmd q n x = State.pump 8 q n (s.begun q n x) := by
  have hcost : (x.opc = 4 && !(s.served q).admitted x.cl (x.pay 0 1)) = false := by
    rcases eq_or_ne x.opc 4 with h4 | h4
    · have h : (s.served q).admitted x.cl (x.pay 0 1) = true := hadm h4
      rw [h, Bool.not_true, Bool.and_false]
    · rw [decide_eq_false h4, Bool.false_and]
  rw [State.runCmd]
  split
  · omega
  · omega
  · rw [hcost, if_neg Bool.false_ne_true]
    rfl

/-- The n-th command of queue q takes the next number for a unit operation. -/
def State.unitNumbered (s : State) (q n : Nat) (x : QCmd) : State :=
  ({ s with front := { s.front with ids := s.front.ids + 1 } } : State).setCmd q n
    { x with issued := x.issued + 1, ids := x.ids ++ [s.front.ids] }

section
variable (hx : (s.queue q).cmds[n]? = some x)
include hx

theorem State.pump_stops (h : x.phase ≠ 2 ∨ x.status ≠ 1 ∨ x.limit ≤ x.issued ∨ x.total ≤ x.issued) (k : Nat) :
    State.pump k q n s = s := by
  have hstop : ¬ (x.phase = 2 ∧ x.status = 1 ∧ x.issued < x.limit ∧ x.issued < x.total) := by omega
  cases k with
  | zero => rfl
  | succ k => simp only [State.pump, hx, if_neg hstop]

variable (hp : x.phase = 2 ∧ x.status = 1 ∧ x.issued < x.limit ∧ x.issued < x.total)
include hp

theorem State.pump_issues (hopen : (x.opc = 2 && s.unitTag x.cl (x.pay 0 2 + x.issued / 25)) = false)
    (hroom : s.unitRoom x = true) (k : Nat) :
    State.pump (k + 1) q n s = State.pump k q n ((s.unitNumbered q n x).issueUnit q x x.issued s.front.ids) := by
  rw [State.pump]
  simp only [hx, if_pos hp, hopen, hroom, Bool.false_eq_true, if_true, if_false]
  rfl

theorem State.pump_sealed (hsealed : (x.opc = 2 && s.unitTag x.cl (x.pay 0 2 + x.issued / 25)) = true) (k : Nat) :
    State.pump (k + 1) q n s = s.setCmd q n ({ x with status := 3 } : QCmd).settle := by
  rw [State.pump]
  simp only [hx, if_pos hp, hsealed, if_true]

end

/-! ### The state a unit operation is issued in -/

theorem QCmd.noted_running (h : x.phase ≠ 3) (m : Nat) : x.noted m = x := if_neg fun hn => h hn.1

theorem State.queue_setQueue_ne {p : Nat} (hp : p ≠ q) (s : State) (v : Queue) : (s.setQueue q v).queue p = s.queue p :=
  tabGet_tabSet_ne _ s.queues q p v hp

/-- Nothing but the queues, the front end and the registers differs between `s` and `t`. -/
def State.OnlyFront (s t : State) : Prop := t = { s with regs := t.regs, queues := t.queues, front := t.front }

/-- Queue q shows a long command, with v in its progress word. -/
def State.showsLong (s : State) (q : Nat) (x : QCmd) (v : Nat) : State :=
  (s.setQueue q { s.queue q with long := some x.uid }).setFld (F.QUE_QPROG_ALL q) v

theorem State.startLong_short (h : x.isLong = false) (s : State) (q : Nat) : s.startLong q x = s :=
  if_neg (by rw [h]; exact Bool.false_ne_true)

theorem State.startLong_long (h : x.isLong = true) (s : State) (q : Nat) :
    s.startLong q x = s.showsLong q x (2048 * (x.steps % 2048) + 2 ^ 23) := if_pos h

theorem State.queue_showsLong (s : State) (q : Nat) (x : QCmd) (v : Nat) :
    (s.showsLong q x v).queue q = { s.queue q with long := some x.uid } := State.queue_setQueue_same _ _ _

theorem State.showsLong_leaves (s : State) (q : Nat) (x : QCmd) (v : Nat) :
    s.OnlyFront (s.showsLong q x v) ∧ (s.showsLong q x v).front = s.front ∧
    ((s.showsLong q x v).queue q).cmds = (s.queue q).cmds ∧ (∀ p, p ≠ q → (s.showsLong q x v).queue p = s.queue p) ∧
    s.KeepsRegs (s.showsLong q x v) [Reg.QUE_QPROG q] :=
  ⟨rfl, rfl, by rw [State.queue_showsLong], fun _ hp => State.queue_setQueue_ne hp s _,
    State.KeepsRegs.setFld (fun _ _ => rfl) _ _ List.mem_cons_self⟩

/-- The start of a command's progress word changes nothing but that word and what it shows (R412). -/
theorem State.startLong_leaves (s : State) (q : Nat) (x : QCmd) :
    s.OnlyFront (s.startLong q x) ∧ (s.startLong q x).front = s.front ∧
    ((s.startLong q x).queue q).cmds = (s.queue q).cmds ∧ (∀ p, p ≠ q → (s.startLong q x).queue p = s.queue p) ∧
    s.KeepsRegs (s.startLong q x) [Reg.QUE_QPROG q] := by
  cases h : x.isLong with
  | true =>
    rw [State.startLong_long h]
    exact s.showsLong_leaves q x _
  | false =>
    rw [State.startLong_short h]
    exact ⟨rfl, rfl, rfl, fun _ _ => rfl, .refl _⟩

theorem State.startLong_shows (h : x.isLong = true) (s : State) (q : Nat) :
    ((s.startLong q x).queue q).long = some x.uid ∧
    (s.startLong q x).fld (F.QUE_QPROG_ALL q) = 2048 * (x.steps % 2048) + 2 ^ 23 := by
  have hfit : 2048 * (x.steps % 2048) + 2 ^ 23 < 2 ^ 24 := by omega
  have hfld (v : Nat) : (s.showsLong q x v).fld (F.QUE_QPROG_ALL q) = v % 2 ^ 24 := State.fld_setFld _ _ _ (by simp)
  rw [State.startLong_long h, hfld, Nat.mod_eq_of_lt hfit, State.queue_showsLong]
  exact ⟨rfl, rfl⟩

/-- Queue q holds the command with its new number. -/
theorem State.queue_unitNumbered (hrun : x.phase ≠ 3) (s : State) (q n : Nat) : (s.unitNumbered q n x).queue q =
    { s.queue q with
      cmds := (s.queue q).cmds.set n { x with issued := x.issued + 1, ids := x.ids ++ [s.front.ids] } } := by
  have hsame : QCmd.noted s.posted { x with issued := x.issued + 1, ids := x.ids ++ [s.front.ids] } =
      { x with issued := x.issued + 1, ids := x.ids ++ [s.front.ids] } :=
    QCmd.noted_running (x := { x with issued := x.issued + 1, ids := x.ids ++ [s.front.ids] }) hrun _
  exact (State.queue_setQueue_same _ q _).trans (congrArg (fun z => { s.queue q with cmds := (s.queue q).cmds.set n z }) hsame)

/-- A launch: the command in flight with its first unit operation's number, before the operation reaches its unit. -/
def State.launch (s : State) (q n : Nat) (x : QCmd) : State := (s.begun q n x).unitNumbered q n x.inFlight

/-- What the launch of a command leaves: the command is in flight under the front end's next number. -/
structure State.Launched (s t : State) (q n : Nat) (x : QCmd) : Prop where
  rest : s.OnlyFront t
  front : t.front = { s.front with rr := q, ids := s.front.ids + 1 }
  cmds : (t.queue q).cmds = (s.queue q).cmds.set n (x.launched s.front.ids)
  others : ∀ p, p ≠ q → t.queue p = s.queue p
  regs : s.KeepsRegs t [Reg.QUE_QPROG q]

/-- The command begun, before it issues anything. -/
theorem State.begun_leaves (s : State) (q n : Nat) (x : QCmd) :
    s.OnlyFront (s.begun q n x) ∧ (s.begun q n x).front = { s.front with rr := q } ∧
    ((s.begun q n x).queue q).cmds = (s.queue q).cmds.set n x.inFlight ∧
    (∀ p, p ≠ q → (s.begun q n x).queue p = s.queue p) ∧ s.KeepsRegs (s.begun q n x) [Reg.QUE_QPROG q] := by
  rw [State.begun]
  generalize hv : Queue.mk ((s.served q).queue q |>.cmds.set n x.inFlight) _ _ _ = v
  obtain ⟨hrest, hfront, hcmds, hothers, hregs⟩ := ((s.served q).setQueue q v).startLong_leaves q x
  rw [State.queue_setQueue_same] at hcmds
  refine ⟨?_, hfront, hcmds.trans (by rw [← hv]; rfl), fun p hp => ?_, hregs⟩
  · rw [State.OnlyFront] at hrest ⊢
    rw [hrest]
    rfl
  · exact (hothers p hp).trans (State.queue_setQueue_ne hp _ v)

theorem State.launched_launch (hi : x.issued = 0) (hids : x.ids = []) (s : State) (q n : Nat) :
    s.Launched (s.launch q n x) q n x := by
  obtain ⟨hrest, hfront, hcmds, hothers, hregs⟩ := s.begun_leaves q n x
  have hid : (s.begun q n x).front.ids = s.front.ids := by rw [hfront]
  have hrun : x.inFlight.phase ≠ 3 := show 2 ≠ 3 by decide
  refine ⟨?_, ?_, ?_, fun p hp => (State.queue_setQueue_ne hp _ _).trans (hothers p hp), hregs⟩
  · rw [State.OnlyFront] at hrest ⊢
    rw [State.launch, State.unitNumbered, hrest]
    rfl
  · rw [State.launch, State.unitNumbered, State.setCmd, State.setQueue_front, hfront]
  · rw [State.launch, State.queue_unitNumbered hrun, hid]
    dsimp only
    rw [hcmds, List.set_set, QCmd.launched, QCmd.inFlight, hi, hids]
    rfl

/-! ### What a launch leaves as it was -/

section
variable (hrest : s.OnlyFront t) (hregs : s.KeepsRegs t [Reg.QUE_QPROG q])
include hregs

theorem State.KeepsRegs.fld_outside_progress {f : Fld} (hf : f.addr < 0x050C0020 ∨ 0x06000000 ≤ f.addr) (hq : q < 64) :
    t.fld f = s.fld f :=
  hregs.fld fun hmem => by
    have haddr := List.mem_singleton.mp hmem
    dsimp only [Reg.QUE_QPROG] at haddr
    omega

include hrest

theorem State.OnlyFront.domOn {d : Nat} (hq : q < 64) (hd : d < 26) : t.domOn d = s.domOn d := by
  have hact : t.reg (Reg.PWR_DOM d) = s.reg (Reg.PWR_DOM d) := hregs _ fun hmem => by
    have haddr := List.mem_singleton.mp hmem
    dsimp only [Reg.QUE_QPROG, Reg.PWR_DOM] at haddr
    omega
  exact State.domOn_congr hact (by rw [hrest])

theorem State.OnlyFront.unitTag {c : Nat} (hq : q < 64) (hc : c < 4) (r : Nat) : t.unitTag c r = s.unitTag c r := by
  have hon := State.OnlyFront.domOn hrest hregs hq (d := domSP c) (by simp only [domSP]; omega)
  have htag : t.tag c r = s.tag c r := by rw [hrest]; rfl
  rw [State.unitTag, State.spOn, hon, htag, State.unitTag, State.spOn]

theorem State.OnlyFront.unitRow {c : Nat} (hq : q < 64) (hc : c < 4) (r : Nat) : t.unitRow c r = s.unitRow c r := by
  have hon := State.OnlyFront.domOn hrest hregs hq (d := domSP c) (by simp only [domSP]; omega)
  have hrow : t.rowBytes c r = s.rowBytes c r := by rw [hrest]; rfl
  rw [State.unitRow, State.spOn, hon, hrow, State.unitRow, State.spOn]

end

/-! ### A command with one unit operation -/

/-- The command begun may issue its first unit operation (R448). -/
theorem QCmd.inFlight_mayIssue (hst : x.status = 1) (hi : x.issued = 0) (htotal : 0 < x.total) :
    x.inFlight.phase = 2 ∧ x.inFlight.status = 1 ∧ x.inFlight.issued < x.inFlight.limit ∧
    x.inFlight.issued < x.inFlight.total := by
  have hlimit : 0 < x.perStep := by rw [QCmd.perStep]; split_ifs <;> decide
  exact ⟨rfl, hst, hi.symm ▸ hlimit, hi.symm ▸ htotal⟩

section
variable (ht : s.Turn q n x) (hq : q < 64)
include ht

theorem State.Turn.begun_holds : ((s.begun q n x).queue q).cmds[n]? = some x.inFlight := by
  obtain ⟨⟨-, -, hx⟩, -⟩ := ht
  obtain ⟨hlt, -⟩ := List.getElem?_eq_some_iff.mp hx
  obtain ⟨-, -, hcmds, -⟩ := s.begun_leaves q n x
  rw [hcmds, List.getElem?_set_self hlt]

include hq

/-- The row its first word set comes from is the payload's first, as sealed as it was (R469). -/
theorem State.Turn.unitTag_begun : (s.begun q n x).unitTag x.inFlight.cl (x.inFlight.pay 0 2 + x.inFlight.issued / 25) =
    s.unitTag x.cl (x.pay 0 2) := by
  obtain ⟨-, -, -, -, hi, -⟩ := ht
  obtain ⟨hrest, -, -, -, hregs⟩ := s.begun_leaves q n x
  rw [show x.inFlight.issued = 0 from hi, Nat.zero_div, Nat.add_zero]
  exact State.OnlyFront.unitTag hrest hregs hq x.cl_lt (x.pay 0 2)

/-- A command in its turn whose step holds one unit operation issues it, and is then in flight. -/
theorem State.dispatch_issues (ho : 1 ≤ x.opc ∧ x.opc ≤ 7) (hone : x.total = 1)
    (hadm : x.opc = 4 → s.admitted x.cl (x.pay 0 1) = true) (hopen : x.opc = 2 → s.unitTag x.cl (x.pay 0 2) = false)
    (hroom : s.unitRoom x = true)
    (hkeeps : ((s.launch q n x).issueUnit q x 0 s.front.ids).queue q = (s.launch q n x).queue q) :
    s.dispatch q x.opc = (s.launch q n x).issueUnit q x 0 s.front.ids := by
  have ⟨⟨_, _, hx⟩, _, _, hst, hi, hids⟩ := ht
  obtain ⟨hlt, -⟩ := List.getElem?_eq_some_iff.mp hx
  obtain ⟨hrest, hfront, -⟩ := s.begun_leaves q n x
  have hid : (s.begun q n x).front.ids = s.front.ids := by rw [hfront]
  have hclear : (x.inFlight.opc = 2 && (s.begun q n x).unitTag x.inFlight.cl
      (x.inFlight.pay 0 2 + x.inFlight.issued / 25)) = false := by
    rw [State.Turn.unitTag_begun ht hq, show x.inFlight.opc = x.opc from rfl]
    rcases eq_or_ne x.opc 2 with h2 | h2
    · rw [hopen h2, Bool.and_false]
    · rw [decide_eq_false h2, Bool.false_and]
  have hspace : (s.begun q n x).unitRoom x.inFlight = true := by rw [hrest]; exact hroom
  have hlaunch : ((s.launch q n x).queue q).cmds[n]? = some (x.launched s.front.ids) := by
    rw [(s.launched_launch hi hids q n).cmds, List.getElem?_set_self hlt]
  rw [State.dispatch_turn ht, State.runCmd_unit ho hadm,
    State.pump_issues (State.Turn.begun_holds ht) (QCmd.inFlight_mayIssue hst hi (by omega)) hclear hspace, hid,
    show x.inFlight.issued = 0 from hi]
  exact State.pump_stops (hkeeps ▸ hlaunch) (.inr (.inr (.inr (le_of_eq hone)))) 7

end

/-- The dispatch changes one cluster's units and the registers listed; queues, rows and cores stay. -/
structure State.OnlyUnit (t u : State) (c : Nat) (but : List Nat) : Prop where
  queues : u.queues = t.queues
  rr : u.front.rr = t.front.rr
  regs : t.KeepsRegs u but
  mem : u.mem = t.mem
  tags : u.tags = t.tags
  cores : u.cores = t.cores
  units : ∀ d, d ≠ c → u.tally d = t.tally d ∧ u.mover d = t.mover d ∧ u.dfa d = t.dfa d

theorem State.OnlyUnit.queue {c : Nat} (hu : t.OnlyUnit u c but) (p : Nat) : u.queue p = t.queue p := by
  rw [State.queue, hu.queues, State.queue]

theorem State.Launched.dispatched (hl : s.Launched t q n x) (hregs : s.KeepsRegs t l) (hu : t.OnlyUnit u x.cl but) :
    s.Dispatched u q n x.cl (x.launched s.front.ids) (l ++ but) := by
  have hunits (d : Nat) : t.tally d = s.tally d ∧ t.mover d = s.mover d ∧ t.dfa d = s.dfa d := by
    rw [hl.rest]
    exact ⟨rfl, rfl, rfl⟩
  refine ⟨hu.rr.trans (by rw [hl.front]), by rw [hu.queue, hl.cmds], fun p hp => (hu.queue p).trans (hl.others p hp), ?_,
    hu.mem.trans (by rw [hl.rest]), hu.tags.trans (by rw [hl.rest]), hu.cores.trans (by rw [hl.rest]), fun d hd => ?_⟩
  · exact (hregs.mono fun a ha => List.mem_append_left _ ha).trans (hu.regs.mono fun a ha => List.mem_append_right _ ha)
  · obtain ⟨htally, hmover, hdfa⟩ := hu.units d hd
    obtain ⟨htally', hmover', hdfa'⟩ := hunits d
    exact ⟨htally.trans htally', hmover.trans hmover', hdfa.trans hdfa'⟩

end Sys2Proof.Machine
end

section
/-! The unit operations of a dispatched command at their units: what the tally unit, the mover, the dataflow array, a tile and
SV take from it (R244, R272, R381, R220, R223, R459). -/

namespace Sys2Proof.Machine

open Sys2Proof

variable {s t u : State} {a c p q n id : Nat} {b : Bool} {x : QCmd} {w : WordSet} {l : LongOp} {but : List Nat}

/-! ### Writes of the front end (R91, R114) -/

theorem State.frontWrite_live (hon : s.domOn (domCL c) = true) (hreset : s.inClReset c = false) (a : Nat)
    (f : State → State) : s.frontWrite c a f = f s := by
  simp only [State.frontWrite, hon, hreset, Bool.not_true, Bool.false_eq_true, if_false]

theorem State.frontTileWrite_live (hon : s.domOn (domTQ p) = true) (f : State → State) : s.frontTileWrite p f = f s :=
  if_pos hon

/-- A cluster of the command's own context keeps its owner (R446). -/
theorem State.pend_of_ownsCl (h : s.ownsCl x = true) : s.fld (F.CLU_OWNER_PEND x.cl) = 0 := by
  rw [State.ownsCl, Bool.and_eq_true, Bool.not_eq_true', State.flag, bne_eq_false_iff_eq] at h
  exact h.2

/-! ### Changes of one cluster's units -/

theorem State.OnlyRegs.onlyTileRegs (h : s.OnlyRegs u but) : s.OnlyTileRegs u := by
  rw [State.OnlyTileRegs, h.1]

theorem State.OnlyTileRegs.trans (h : s.OnlyTileRegs t) (h' : t.OnlyTileRegs u) : s.OnlyTileRegs u := by
  rw [State.OnlyTileRegs] at h h' ⊢
  rw [h', h]

theorem State.OnlyTileRegs.onlyUnit (h : s.OnlyTileRegs u) (hregs : s.KeepsRegs u but) (c : Nat) : s.OnlyUnit u c but := by
  rw [State.OnlyTileRegs] at h
  have hunits (d : Nat) : u.tally d = s.tally d ∧ u.mover d = s.mover d ∧ u.dfa d = s.dfa d := by
    rw [h]
    exact ⟨rfl, rfl, rfl⟩
  exact ⟨by rw [h], by rw [h], hregs, by rw [h], by rw [h], by rw [h], fun d _ => hunits d⟩

section
variable (h : s.OnlyUnit u c but)
include h

theorem State.OnlyUnit.setTally (y : Tally) : s.OnlyUnit (u.setTally c y) c but where
  queues := h.queues
  rr := h.rr
  regs := h.regs
  mem := h.mem
  tags := h.tags
  cores := h.cores
  units d hd := by
    rw [State.tally_setTally, if_neg hd, State.mover_setTally, State.dfa_setTally]
    exact h.units d hd

theorem State.OnlyUnit.setMover (y : Mover) : s.OnlyUnit (u.setMover c y) c but where
  queues := h.queues
  rr := h.rr
  regs := h.regs
  mem := h.mem
  tags := h.tags
  cores := h.cores
  units d hd := by
    rw [State.mover_setMover, if_neg hd, State.tally_setMover, State.dfa_setMover]
    exact h.units d hd

theorem State.OnlyUnit.setDfa (y : Dfa) : s.OnlyUnit (u.setDfa c y) c but where
  queues := h.queues
  rr := h.rr
  regs := h.regs
  mem := h.mem
  tags := h.tags
  cores := h.cores
  units d hd := by
    rw [State.dfa_setDfa, if_neg hd, State.tally_setDfa, State.mover_setDfa]
    exact h.units d hd

end

/-! ### The tally unit (R244, R245) -/

theorem State.portWords_setPortWords (s : State) (c p : Nat) (w : WordSet) : (s.setPortWords c p w).portWords c p = w := by
  obtain ⟨h0, h1, h2, h3, h4⟩ := s.reg_setPortWords c p w
  rw [State.portWords, h0, h1, h2, h3, h4]

theorem State.tallyIssue_numbered (hpend : s.fld (F.CLU_OWNER_PEND c) = 0) (hroom : s.tallyFull c = false)
    (hok : wsOk w = true) (p : Nat) (b : Bool) (id : Nat) : s.tallyIssue c p b w id =
    (s.setPortWords c p w).setTally c { s.tally c with
      entries := (s.tally c).entries ++ [{ (s.setPortWords c p w).newEntry c p b w with id := id }] } := by
  have hflag := State.flag_of_zero ((s.pend_setPortWords c p w).trans hpend)
  have hlen : ¬ 16 ≤ (s.tally c).entries.length := of_decide_eq_false hroom
  simp only [State.tallyIssue, State.tallyWaits, State.tallyPush, hroom, hflag, hlen, hok, State.tally_setPortWords,
    Bool.false_and, Bool.false_eq_true, if_false, if_true]
  rfl

theorem State.onlyUnit_tally (s : State) (c : Nat) (w : WordSet) (y : Tally) :
    s.OnlyUnit ((s.setPortWords c 2 w).setTally c y) c ((List.range 5).map (Reg.TAL_OP_D c 2)) := by
  have hport := s.onlyRegs_setPortWords c 2 w
  exact (hport.onlyTileRegs.onlyUnit hport.2 c).setTally y

/-! ### The mover (R272) -/

theorem State.portJob_setPortJob (s : State) (c p : Nat) (jw : JobWords) : (s.setPortJob c p jw).portJob c p = jw := by
  obtain ⟨h0, h1, h2, h3⟩ := s.reg_setPortJob c p jw
  rw [State.portJob, h0, h1, h2, h3]

theorem State.onlyUnit_mover (s : State) (c : Nat) (jw : JobWords) (y : Mover) :
    s.OnlyUnit ((s.setPortJob c 2 jw).setMover c y) c ((List.range 4).map (Reg.MOV_JOB_J c 2)) := by
  have hport := s.onlyRegs_setPortJob c 2 jw
  exact (hport.onlyTileRegs.onlyUnit hport.2 c).setMover y

/-! ### The dataflow array (R381) -/

/-- The start that a TIMETABLE spells to port 2 (Table HOST-6, Table DFA-10). -/
theorem State.dfaStart_numbered (hpend : s.fld (F.CLU_OWNER_PEND c) = 0) (hroom : s.dfaDepth c < 4) {slot v : Nat}
    (hslot : slot < 4) (id : Nat) :
    s.dfaStart c 2 false (slot + 4 * bitsOf v 0 6 + 256 * bitsOf v 6 1) id =
      s.setDfa c { s.dfa c with queue := (s.dfa c).queue ++ [
        { slot := slot, tag := v % 64, notify := v / 64 % 2 == 1, src := 2, iseal := false, id := id }] } := by
  have h1 : bitsOf (slot + 4 * bitsOf v 0 6 + 256 * bitsOf v 6 1) 0 2 = slot := by
    simp only [bitsOf]
    omega
  have h2 : bitsOf (slot + 4 * bitsOf v 0 6 + 256 * bitsOf v 6 1) 2 6 = v % 64 := by
    simp only [bitsOf]
    omega
  have h3 : bitOf (slot + 4 * bitsOf v 0 6 + 256 * bitsOf v 6 1) 8 = (v / 64 % 2 == 1) := by
    rw [bitOf]
    congr 1
    simp only [bitsOf]
    omega
  rw [State.dfaStart, State.flag_of_zero hpend, h1, h2, h3]
  exact State.dfaQueue_room hroom _

theorem State.onlyUnit_dfa (s : State) (c : Nat) (y : Dfa) : s.OnlyUnit (s.setDfa c y) c [] :=
  ((State.OnlyTileRegs.refl s).onlyUnit (.refl _) c).setDfa y

/-! ### The tiles (R220, R221, R223) -/

/-- The registers of a long operation that begins: RUNNING, with its counts at 0. -/
def State.lstatBegun (s : State) (t : Nat) : State :=
  ((((s.setFld (F.TILE_LSTAT_STATUS t) 1).setFld (F.TILE_LSTAT_ROWSDONE t) 0).setFld
    (F.TILE_LSTAT_SPARENEW t) 0).setFld (F.TILE_LSTAT_DUP t) 0).setFld (F.TILE_STUCK_COUNT t) 0

theorem State.onlyRegs_lstatBegun (s : State) (t : Nat) : s.OnlyRegs (s.lstatBegun t) [Reg.TILE_LSTAT t, Reg.TILE_STUCK t] :=
  (((((State.OnlyRegs.refl _).setFld _ _ (by simp)).setFld _ _ (by simp)).setFld _ _ (by simp)).setFld _ _
    (by simp)).setFld _ _ (by simp)

theorem State.status_lstatBegun (s : State) (t : Nat) : (s.lstatBegun t).fld (F.TILE_LSTAT_STATUS t) = 1 := by
  simp [State.lstatBegun, State.fld_setFld, State.fld_setFld_addr, State.fld_setFld_bits]

/-- The begin of a long operation changes only its registers and what its tile runs (R220). -/
theorem State.beginLong_leaves (s : State) (p : Nat) (l : LongOp) :
    s.OnlyTileRegs (s.beginLong p l) ∧ s.KeepsRegs (s.beginLong p l) [Reg.TILE_LSTAT p, Reg.TILE_STUCK p] ∧
    (s.beginLong p l).fld (F.TILE_LSTAT_STATUS p) = 1 ∧ (∀ k, k ≠ p → (s.beginLong p l).tile k = s.tile k) ∧
    (s.beginLong p l).tile p = { s.tile p with long := some l } := by
  have hlstat := s.onlyRegs_lstatBegun p
  have hbegin : s.beginLong p l = (s.lstatBegun p).setTile p { (s.lstatBegun p).tile p with long := some l } := rfl
  rw [hbegin, hlstat.tile]
  refine ⟨hlstat.onlyTileRegs.setTile p _, hlstat.2.setTile p _,
    (State.fld_setTile _ _ _ _).trans (s.status_lstatBegun p), fun k hk => ?_, State.tile_setTile_same _ _ _⟩
  rw [State.tile_setTile, if_neg hk, hlstat.tile]

/-- A program of a range that passes its checks, of a generation the tile does not hold, begins with its pre-scan. -/
theorem State.tileProgram_begins {t : Nat} (hlong : (s.tile t).long = none)
    (hrows : s.fld (F.TILE_PGMROWS_FIRST t) + s.fld (F.TILE_PGMROWS_COUNT t) ≤ 768)
    (hcount : 1 ≤ s.fld (F.TILE_PGMROWS_COUNT t))
    (hmask : 1 ≤ s.fld (F.TILE_PGMCFG_GRPMASK t))
    (hsrc : s.fld (F.TILE_PGMSRC_SRCROW t) + srcRows (s.fld (F.TILE_PGMROWS_COUNT t)) ≤ 4096)
    (hgen : (s.tile t).genValid = false ∨ s.fld (F.TILE_PGMGEN_GEN t) ≠ (s.tile t).gen) :
    s.tileProgram t false = s.beginLong t {
      kind := .program, src := s.fld (F.TILE_PGMSRC_SRCROW t), first := s.fld (F.TILE_PGMROWS_FIRST t),
      count := s.fld (F.TILE_PGMROWS_COUNT t), mask := s.fld (F.TILE_PGMCFG_GRPMASK t),
      stuckok := s.fld (F.TILE_PGMCFG_STUCKOK t), gen := s.fld (F.TILE_PGMGEN_GEN t), baro := false, phase := .prescan,
      idx := 0, baroNext := false, allow := 0, nospare := none, abort := false } := by
  have hrange : ¬ (768 < s.fld (F.TILE_PGMROWS_FIRST t) + s.fld (F.TILE_PGMROWS_COUNT t) ∨
      s.fld (F.TILE_PGMROWS_COUNT t) = 0 ∨ s.fld (F.TILE_PGMCFG_GRPMASK t) = 0 ∨
      4096 < s.fld (F.TILE_PGMSRC_SRCROW t) + srcRows (s.fld (F.TILE_PGMROWS_COUNT t))) := by omega
  have hnew : ¬ ((s.tile t).genValid = true ∧ s.fld (F.TILE_PGMGEN_GEN t) = (s.tile t).gen) := by
    rintro ⟨hvalid, heq⟩
    rcases hgen with hinvalid | hne
    · rw [hinvalid] at hvalid
      exact Bool.false_ne_true hvalid
    · exact hne heq
  simp only [State.tileProgram, hlong, gt_iff_lt, if_neg hrange, if_neg hnew, Bool.false_eq_true, if_false]

/-- The parameter registers of a program (Table TILE-10). -/
abbrev pgmAddrs (t : Nat) : List Nat := [Reg.TILE_PGMSRC t, Reg.TILE_PGMROWS t, Reg.TILE_PGMCFG t, Reg.TILE_PGMGEN t]

theorem State.onlyRegs_pgmRegs (s : State) (x : QCmd) : s.OnlyRegs (s.pgmRegs x) (pgmAddrs x.tile) :=
  ((((((State.OnlyRegs.refl _).setFld _ _ (by simp)).setFld _ _ (by simp)).setFld _ _ (by simp)).setFld _ _
    (by simp)).setFld _ _ (by simp)).setFld _ _ (by simp)

/-- They show the payload of a TPGM (Table HOST-6). -/
theorem State.fld_pgmRegs (s : State) (x : QCmd) :
    (s.pgmRegs x).fld (F.TILE_PGMSRC_SRCROW x.tile) = x.pay 1 2 % 2 ^ 12 ∧
    (s.pgmRegs x).fld (F.TILE_PGMROWS_FIRST x.tile) = x.pay 3 2 % 2 ^ 10 ∧
    (s.pgmRegs x).fld (F.TILE_PGMROWS_COUNT x.tile) = x.pay 5 2 % 2 ^ 10 ∧
    (s.pgmRegs x).fld (F.TILE_PGMCFG_GRPMASK x.tile) = x.pay 7 1 % 2 ^ 6 ∧
    (s.pgmRegs x).fld (F.TILE_PGMCFG_STUCKOK x.tile) = x.pay 8 1 % 2 ^ 3 ∧
    (s.pgmRegs x).fld (F.TILE_PGMGEN_GEN x.tile) = x.pay 9 2 % 2 ^ 16 := by
  simp [State.pgmRegs, State.fld_setFld, State.fld_setFld_addr, State.fld_setFld_bits]

/-- The program of a TPGM, before its pre-scan (R220, Table HOST-6). -/
def QCmd.pgmOp (x : QCmd) : LongOp :=
  { kind := .program, src := x.pay 1 2, first := x.pay 3 2, count := x.pay 5 2, mask := x.pay 7 1, stuckok := x.pay 8 1,
    gen := x.pay 9 2, baro := false, phase := .prescan, idx := 0, baroNext := false, allow := 0, nospare := none,
    abort := false }

theorem QCmd.pay_two_lt (x : QCmd) (o : Nat) : x.pay o 2 < 2 ^ 16 :=
  (ofBytes_lt _).trans_le (Nat.pow_le_pow_right Nat.two_pos (Nat.mul_le_mul_left 8 (List.length_take_le _ _)))

/-- The payload of a TPGM names a program the tile accepts: rows and source in range, a group named (R221). -/
structure QCmd.PgmOk (x : QCmd) : Prop where
  src : x.pay 1 2 + srcRows (x.pay 5 2) ≤ 4096
  count : 1 ≤ x.pay 5 2
  rows : x.pay 3 2 + x.pay 5 2 ≤ 768
  mask : 1 ≤ x.pay 7 1
  groups : x.pay 7 1 < 64
  stuckok : x.pay 8 1 < 8

/-- Tile t with the number of the front end's operation. -/
theorem State.tile_askTile (s : State) (t id : Nat) : (s.askTile t id).tile t = { s.tile t with front := some id } :=
  s.tile_setTile_same t _

theorem State.tile_askTile_ne {k p : Nat} (h : k ≠ p) (s : State) (id : Nat) : (s.askTile p id).tile k = s.tile k :=
  (s.tile_setTile k p _).trans (if_neg h)

theorem State.onlyTileRegs_askTile (s : State) (p id : Nat) : s.OnlyTileRegs (s.askTile p id) :=
  (State.OnlyTileRegs.refl s).setTile p _

theorem State.KeepsRegs.askTile (h : s.KeepsRegs u but) (p id : Nat) : s.KeepsRegs (u.askTile p id) but := h.setTile p _

theorem State.tpgm_begins (h : x.PgmOk) (hlong : (s.tile x.tile).long = none)
    (hgen : (s.tile x.tile).genValid = false ∨ x.pay 9 2 ≠ (s.tile x.tile).gen) (id : Nat) :
    ((s.pgmRegs x).askTile x.tile id).tileProgram x.tile false =
      ((s.pgmRegs x).askTile x.tile id).beginLong x.tile x.pgmOp := by
  obtain ⟨hsrc, hfirst, hcount, hmask, hstuck, hg⟩ := s.fld_pgmRegs x
  have htile : ((s.pgmRegs x).askTile x.tile id).tile x.tile = { s.tile x.tile with front := some id } := by
    rw [State.tile_askTile, (s.onlyRegs_pgmRegs x).tile]
  have hrows : srcRows (x.pay 5 2) = (x.pay 5 2 + 1) / 2 := rfl
  have ⟨ksrc, kcount, krows, kmask, kgroups, kstuck⟩ := h
  rw [Nat.mod_eq_of_lt (by omega)] at hsrc hfirst hcount hmask hstuck
  rw [Nat.mod_eq_of_lt (x.pay_two_lt 9)] at hg
  have hbegins := State.tileProgram_begins (s := (s.pgmRegs x).askTile x.tile id) (t := x.tile)
  simp only [State.askTile, State.fld_setTile, hsrc, hfirst, hcount, hmask, hstuck, hg] at hbegins htile ⊢
  rw [htile] at hbegins
  exact hbegins hlong krows kcount kmask ksrc hgen

/-- What a TPGM leaves at its tile. -/
theorem State.tpgm_leaves (h : x.PgmOk) (hlong : (s.tile x.tile).long = none)
    (hgen : (s.tile x.tile).genValid = false ∨ x.pay 9 2 ≠ (s.tile x.tile).gen) (c id : Nat) :
    let u := ((s.pgmRegs x).askTile x.tile id).tileProgram x.tile false
    s.OnlyUnit u c (pgmAddrs x.tile ++ [Reg.TILE_LSTAT x.tile, Reg.TILE_STUCK x.tile]) ∧
    u.fld (F.TILE_LSTAT_STATUS x.tile) = 1 ∧ (∀ k, k ≠ x.tile → u.tile k = s.tile k) ∧
    u.tile x.tile = { s.tile x.tile with front := some id, long := some x.pgmOp } := by
  have hpgm := s.onlyRegs_pgmRegs x
  have hask := hpgm.onlyTileRegs.trans ((s.pgmRegs x).onlyTileRegs_askTile x.tile id)
  have htile := (s.pgmRegs x).tile_askTile x.tile id
  have hrest (k : Nat) (hk : k ≠ x.tile) := State.tile_askTile_ne hk (s.pgmRegs x) id
  have hregs := hpgm.2.askTile x.tile id
  dsimp only
  rw [State.tpgm_begins h hlong hgen]
  generalize (s.pgmRegs x).askTile x.tile id = v at hask htile hrest hregs ⊢
  obtain ⟨honly, hkeeps, hstatus, hothers, hself⟩ := v.beginLong_leaves x.tile x.pgmOp
  refine ⟨(hask.trans honly).onlyUnit ?_ c, hstatus, fun k hk => ?_, ?_⟩
  · exact (hregs.mono fun a ha => List.mem_append_left _ ha).trans (hkeeps.mono fun a ha => List.mem_append_right _ ha)
  · rw [hothers k hk, hrest k hk, hpgm.tile]
  · rw [hself, htile, hpgm.tile]

/-- The wipe of a TWIPE. -/
def State.wipeOp (s : State) (t : Nat) : LongOp :=
  { kind := .wipe, src := 0, first := 0, count := 776, mask := 0x3F, stuckok := 7, gen := 0, baro := false,
    phase := s.stepPhase t, idx := 0, baroNext := false, allow := s.tileWaiting t, nospare := none, abort := false }

/-- A wipe of a tile that runs nothing begins, and the tile's generation is void from then on (R223). -/
theorem State.tileWipe_begins (hlong : (s.tile p).long = none) : s.tileWipe p false =
    (s.beginLong p (s.wipeOp p)).setTile p
      { (s.beginLong p (s.wipeOp p)).tile p with gen := 0, genValid := false, sealedFlag := false } :=
  if_neg (by rw [hlong]; exact Bool.false_ne_true)

/-- What a TWIPE leaves at its tile. -/
theorem State.twipe_leaves (hlong : (s.tile p).long = none) (c id : Nat) :
    let u := (s.askTile p id).tileWipe p false
    s.OnlyUnit u c [Reg.TILE_LSTAT p, Reg.TILE_STUCK p] ∧ u.fld (F.TILE_LSTAT_STATUS p) = 1 ∧
    (∀ k, k ≠ p → u.tile k = s.tile k) ∧
    u.tile p = { s.tile p with
      front := some id, gen := 0, genValid := false, sealedFlag := false, long := some ((s.askTile p id).wipeOp p) } := by
  have hask := s.onlyTileRegs_askTile p id
  have htile := s.tile_askTile p id
  have hrest (k : Nat) (hk : k ≠ p) := State.tile_askTile_ne hk s id
  have hregs := (State.KeepsRegs.refl (s := s) [Reg.TILE_LSTAT p, Reg.TILE_STUCK p]).askTile p id
  dsimp only
  generalize s.askTile p id = v at hask htile hrest hregs ⊢
  rw [State.tileWipe_begins (by rw [htile]; exact hlong)]
  obtain ⟨honly, hkeeps, hstatus, hothers, hself⟩ := v.beginLong_leaves p (v.wipeOp p)
  refine ⟨((hask.trans honly).setTile p _).onlyUnit ((hregs.trans hkeeps).setTile p _) c,
    (State.fld_setTile _ _ _ _).trans hstatus, fun k hk => ?_, ?_⟩
  · rw [State.tile_setTile, if_neg hk, hothers k hk, hrest k hk]
  · rw [State.tile_setTile_same, hself, htile]

/-! ### SV (R459) -/

/-- The registers that show SV a request. -/
abbrev svAddrs : List Nat := [Reg.QUE_SVREQ0, Reg.QUE_SVREQ1, Reg.QUE_SVREQ2]

/-- The request of a TREFRESH in those registers. -/
def State.svShown (s : State) (q : Nat) (x : QCmd) : State :=
  (((((((s.setFld F.QUE_SVREQ0_QUEUE q).setFld F.QUE_SVREQ0_TILE x.tile).setFld F.QUE_SVREQ0_VALID 1).setFld
    F.QUE_SVREQ0_ABORT 0).setFld F.QUE_SVREQ1_FIRST (x.pay 1 2)).setFld F.QUE_SVREQ1_COUNT (x.pay 3 2)).setFld
    F.QUE_SVREQ2_GRPMASK (x.pay 5 1)).setFld F.QUE_SVREQ2_BARO (x.pay 6 1)

theorem State.onlyRegs_svShown (s : State) (q : Nat) (x : QCmd) : s.OnlyRegs (s.svShown q x) svAddrs :=
  ((((((((State.OnlyRegs.refl _).setFld _ _ (by simp)).setFld _ _ (by simp)).setFld _ _ (by simp)).setFld _ _
    (by simp)).setFld _ _ (by simp)).setFld _ _ (by simp)).setFld _ _ (by simp)).setFld _ _ (by simp)

theorem State.fld_svShown (s : State) (q : Nat) (x : QCmd) :
    (s.svShown q x).fld F.QUE_SVREQ0_QUEUE = q % 2 ^ 6 ∧ (s.svShown q x).fld F.QUE_SVREQ0_TILE = x.tile % 2 ^ 5 ∧
    (s.svShown q x).fld F.QUE_SVREQ0_VALID = 1 ∧ (s.svShown q x).fld F.QUE_SVREQ1_FIRST = x.pay 1 2 % 2 ^ 10 ∧
    (s.svShown q x).fld F.QUE_SVREQ1_COUNT = x.pay 3 2 % 2 ^ 10 ∧
    (s.svShown q x).fld F.QUE_SVREQ2_GRPMASK = x.pay 5 1 % 2 ^ 6 ∧
    (s.svShown q x).fld F.QUE_SVREQ2_BARO = x.pay 6 1 % 2 := by
  simp [State.svShown, State.fld_setFld, State.fld_setFld_addr, State.fld_setFld_bits]

theorem State.askSv_eq (s : State) (q : Nat) (x : QCmd) (id : Nat) : s.askSv q x id =
    { (s.svShown q x).fire 63 with front := { (s.svShown q x).front with sv := some id } } := rfl

/-- What a TREFRESH leaves with SV. -/
theorem State.askSv_leaves (s : State) (q : Nat) (x : QCmd) (c id : Nat) :
    s.OnlyUnit (s.askSv q x id) c svAddrs ∧ (∀ f, (s.askSv q x id).fld f = (s.svShown q x).fld f) ∧
    (s.askSv q x id).front.sv = some id ∧ (s.askSv q x id).tiles = s.tiles ∧
    (s.askSv q x id).pulses = s.pulses ++ [63] := by
  have hregs := s.onlyRegs_svShown q x
  rw [State.askSv_eq]
  generalize s.svShown q x = v at hregs ⊢
  obtain ⟨hrest, hkeeps⟩ := hregs
  have hfrom : ({ v.fire 63 with front := { v.front with sv := some id } } : State) =
      { s with regs := v.regs, pulses := s.pulses ++ [63], front := { s.front with sv := some id } } := by
    rw [hrest]
    rfl
  have hunits (d : Nat) : ({ v.fire 63 with front := { v.front with sv := some id } } : State).tally d = s.tally d ∧
      ({ v.fire 63 with front := { v.front with sv := some id } } : State).mover d = s.mover d ∧
      ({ v.fire 63 with front := { v.front with sv := some id } } : State).dfa d = s.dfa d := by
    rw [hfrom]
    exact ⟨rfl, rfl, rfl⟩
  exact ⟨⟨by rw [hfrom], by rw [hfrom], hkeeps, by rw [hfrom], by rw [hfrom], by rw [hfrom], fun d _ => hunits d⟩,
    fun f => rfl, rfl, by rw [hfrom], by rw [hfrom]⟩

end Sys2Proof.Machine
end

section
/-! What the dispatch of each command with unit work leaves (R445, R447, R448). -/

namespace Sys2Proof.Machine

open Sys2Proof

variable {s t u : State} {c n q id : Nat} {x : QCmd} {w : WordSet} {but l : List Nat}

/-! ### The unit that takes an operation -/

/-- Cluster c takes the front end's writes: it is ON, out of cluster reset, and its owner is not about to change (R91, R114,
R247). -/
structure State.TakesUnit (s : State) (c : Nat) : Prop where
  on : s.domOn (domCL c) = true
  reset : s.inClReset c = false
  pend : s.fld (F.CLU_OWNER_PEND c) = 0

theorem State.Turn.takesUnit (ht : s.Turn q n x) (ho : 1 ≤ x.opc ∧ x.opc ≤ 7) (hon : s.domOn (domCL x.cl) = true)
    (hreset : s.inClReset x.cl = false) : s.TakesUnit x.cl := by
  obtain ⟨-, -, hcl, -⟩ := ht
  refine ⟨hon, hreset, ?_⟩
  rcases hcl with hunit | ⟨howns, -⟩
  · have hwork : x.hasUnit = true := by rw [QCmd.hasUnit, decide_eq_true ho.1, decide_eq_true ho.2, Bool.and_self]
    rw [hwork] at hunit
    exact absurd hunit Bool.noConfusion
  · exact State.pend_of_ownsCl howns

/-- A tile whose operation is next in turn runs no other (R447). -/
theorem State.Turn.tile_idle (ht : s.Turn q n x) (ho : 5 ≤ x.opc ∧ x.opc ≤ 7) : (s.tile x.tile).long = none := by
  obtain ⟨⟨hturn, hcmd, hx⟩, -⟩ := ht
  have hdisp : s.dispatchable q = true := List.find?_some hturn
  simp only [State.dispatchable, hcmd, hx, Bool.and_eq_true, Bool.or_eq_true, decide_eq_true_eq,
    Option.isNone_iff_eq_none] at hdisp
  obtain ⟨⟨-, hout | hidle⟩, -⟩ := hdisp
  · omega
  · exact hidle

section
variable (hl : s.Launched t q n x)
include hl

theorem State.Launched.tally (c : Nat) : t.tally c = s.tally c := by
  rw [hl.rest]
  rfl

theorem State.Launched.mover (c : Nat) : t.mover c = s.mover c := by
  rw [hl.rest]
  rfl

theorem State.Launched.dfa (c : Nat) : t.dfa c = s.dfa c := by
  rw [hl.rest]
  rfl

theorem State.Launched.tile (k : Nat) : t.tile k = s.tile k := by
  rw [hl.rest]
  rfl

theorem State.Launched.takesUnit (hq : q < 64) (hc : c < 4) (h : s.TakesUnit c) : t.TakesUnit c := by
  have hreset := State.KeepsRegs.fld_outside_progress hl.regs (f := F.CLK_CLRST_BUSY) (.inl (by decide)) hq
  have hpend := State.KeepsRegs.fld_outside_progress hl.regs (f := F.CLU_OWNER_PEND c)
    (by dsimp only [F.CLU_OWNER_PEND, Reg.CLU_OWNER]; omega) hq
  refine ⟨(State.OnlyFront.domOn hl.rest hl.regs hq (by rw [domCL]; omega)).trans h.on, ?_, hpend.trans h.pend⟩
  rw [State.inClReset, State.fbit, hreset]
  exact h.reset

end

/-! ### The launch of a long command (R412) -/

theorem State.launch_shows (h : x.isLong = true) (s : State) (q n : Nat) :
    ((s.launch q n x).queue q).long = some x.uid ∧
    (s.launch q n x).fld (F.QUE_QPROG_ALL q) = 2048 * (x.steps % 2048) + 2 ^ 23 := by
  have hregs (v : State) (f : Fld) : (v.unitNumbered q n x.inFlight).fld f = v.fld f := rfl
  have hrun : x.inFlight.phase ≠ 3 := show 2 ≠ 3 by decide
  rw [State.launch, State.queue_unitNumbered hrun, hregs]
  exact State.startLong_shows h _ q

/-- A command that is not a long one leaves the registers to its unit. -/
theorem State.launch_short (h : x.isLong = false) (s : State) (q n : Nat) : s.KeepsRegs (s.launch q n x) [] := by
  have hregs (v : State) (a : Nat) : (v.unitNumbered q n x.inFlight).reg a = v.reg a := rfl
  intro a _
  rw [State.launch, hregs, State.begun, State.startLong_short h]
  rfl

/-! ### The operation at its unit -/

/-- The tally unit with one more word set of the front end (R244). -/
def State.tallied (s : State) (c : Nat) (w : WordSet) (id : Nat) : State :=
  (s.setPortWords c 2 w).setTally c { s.tally c with
    entries := (s.tally c).entries ++ [{ (s.setPortWords c 2 w).newEntry c 2 false w with id := id }] }

theorem State.portWords_tallied (s : State) (c : Nat) (w : WordSet) (id : Nat) : (s.tallied c w id).portWords c 2 = w := by
  have hport (v : State) (y : Tally) : (v.setTally c y).portWords c 2 = v.portWords c 2 := rfl
  rw [State.tallied, hport, State.portWords_setPortWords]

theorem State.entries_tallied (s : State) (c : Nat) (w : WordSet) (id : Nat) :
    ∃ e : TalEntry, ((s.tallied c w id).tally c).entries = (s.tally c).entries ++ [e] ∧ e.port = 2 ∧ e.iseal = false ∧
      e.phase = .queued ∧ e.id = id ∧ e.ws = w :=
  ⟨_, congrArg Tally.entries ((State.tally_setTally _ _ _ _).trans (if_pos rfl)), rfl, rfl, rfl, rfl, rfl⟩

theorem State.issueUnit_wset (ho : x.opc = 1) (hready : s.TakesUnit x.cl) (hroom : s.tallyFull x.cl = false)
    (hok : wsOk (wordSetOf (x.raw.drop (if x.qf2 then 16 else 9))) = true) (q id : Nat) :
    s.issueUnit q x 0 id = s.tallied x.cl (wordSetOf (x.raw.drop (if x.qf2 then 16 else 9))) id := by
  simp only [State.issueUnit, ho]
  rw [State.frontWrite_live hready.on hready.reset]
  exact State.tallyIssue_numbered hready.pend hroom hok 2 false id

theorem State.issueUnit_wslist (ho : x.opc = 2) (hready : s.TakesUnit x.cl) (hroom : s.tallyFull x.cl = false)
    (hok : wsOk (wordSetOf (s.unitRow x.cl (x.pay 0 2))) = true) (q id : Nat) :
    s.issueUnit q x 0 id = s.tallied x.cl (wordSetOf (s.unitRow x.cl (x.pay 0 2))) id := by
  simp only [State.issueUnit, ho]
  rw [State.frontWrite_live hready.on hready.reset]
  exact State.tallyIssue_numbered hready.pend hroom hok 2 false id

/-- The mover with one more job of the front end (R272). -/
def State.moverGiven (s : State) (c : Nat) (jw : JobWords) (id : Nat) : State :=
  (s.setPortJob c 2 jw).setMover c { s.mover c with jobs := (s.mover c).jobs ++ [newJob 2 false jw id] }

theorem State.jobs_moverGiven (s : State) (c : Nat) (jw : JobWords) (id : Nat) :
    ((s.moverGiven c jw id).mover c).jobs = (s.mover c).jobs ++ [newJob 2 false jw id] :=
  congrArg Mover.jobs ((State.mover_setMover _ _ _ _).trans (if_pos rfl))

theorem State.portJob_moverGiven (s : State) (c : Nat) (jw : JobWords) (id : Nat) :
    (s.moverGiven c jw id).portJob c 2 = jw := by
  have hport (v : State) (y : Mover) : (v.setMover c y).portJob c 2 = v.portJob c 2 := rfl
  rw [State.moverGiven, hport, State.portJob_setPortJob]

theorem State.issueUnit_move (ho : x.opc = 3) (hone : x.total = 1) (hready : s.TakesUnit x.cl)
    (hroom : s.moverFull x.cl = false) (hok : jobOk x.job = true) (q id : Nat) :
    s.issueUnit q x 0 id = s.moverGiven x.cl x.job id := by
  simp only [State.issueUnit, ho]
  have hjob : x.jobAt 0 = x.job := if_pos hone
  have hlen : (s.mover x.cl).jobs.length < 8 := Nat.lt_of_not_le (of_decide_eq_false hroom)
  rw [State.frontWrite_live hready.on hready.reset, hjob]
  exact State.moverIssue_enters hready.pend hlen hok 2 false id

theorem State.issueUnit_timetable (ho : x.opc = 4) (hready : s.TakesUnit x.cl) (hroom : s.dfaDepth x.cl < 4)
    (hslot : x.pay 0 1 < 4) (q id : Nat) : s.issueUnit q x 0 id = s.setDfa x.cl { s.dfa x.cl with
      queue := (s.dfa x.cl).queue ++ [{ slot := x.pay 0 1, tag := x.pay 1 1 % 64, notify := x.pay 1 1 / 64 % 2 == 1,
                                        src := 2, iseal := false, id := id }] } := by
  simp only [State.issueUnit, ho]
  rw [State.frontWrite_live hready.on hready.reset]
  exact State.dfaStart_numbered hready.pend hroom hslot id

theorem State.issueUnit_tpgm (ho : x.opc = 5) (hon : s.domOn (domTQ x.tile) = true) (q id : Nat) :
    s.issueUnit q x 0 id = ((s.pgmRegs x).askTile x.tile id).tileProgram x.tile false := by
  simp only [State.issueUnit, ho]
  exact State.frontTileWrite_live hon _

theorem State.issueUnit_twipe (ho : x.opc = 6) (hon : s.domOn (domTQ x.tile) = true) (q id : Nat) :
    s.issueUnit q x 0 id = (s.askTile x.tile id).tileWipe x.tile false := by
  simp only [State.issueUnit, ho]
  exact State.frontTileWrite_live hon _

theorem State.issueUnit_trefresh (ho : x.opc = 7) (s : State) (q id : Nat) : s.issueUnit q x 0 id = s.askSv q x id := by
  simp only [State.issueUnit, ho]

/-! ### From the turn to the unit -/

/-- A command that a sealed row stopped, with nothing of it out, ends there. -/
theorem QCmd.settle_stopped (hp : x.phase = 2) (ho : x.opc ≠ 8) (hids : x.ids = []) (hst : x.status ≠ 1) :
    x.settle = { x with phase := 3 } := if_pos ⟨hp, ho, List.isEmpty_iff.mpr hids, .inl hst⟩

theorem QCmd.noted_keeps (x : QCmd) (m : Nat) :
    (x.noted m).phase = x.phase ∧ (x.noted m).status = x.status ∧ (x.noted m).issued = x.issued := by
  rw [QCmd.noted]
  split_ifs <;> exact ⟨rfl, rfl, rfl⟩

section
variable (ht : s.Turn q n x) (hq : q < 64) (hone : x.total = 1)
  (hadm : x.opc = 4 → s.admitted x.cl (x.pay 0 1) = true) (hopen : x.opc = 2 → s.unitTag x.cl (x.pay 0 2) = false)
  (hroom : s.unitRoom x = true) (hu : (s.launch q n x).issueUnit q x 0 s.front.ids = u)
  (hunit : (s.launch q n x).OnlyUnit u x.cl but)
include ht hq hone hadm hopen hroom hu hunit

/-- The dispatch of a command of one unit operation, whose unit leaves `u`. -/
theorem State.Turn.dispatched (ho : 1 ≤ x.opc ∧ x.opc ≤ 7) (hregs : s.KeepsRegs (s.launch q n x) l) :
    s.dispatch q x.opc = u ∧ s.Dispatched u q n x.cl (x.launched s.front.ids) (l ++ but) := by
  have ⟨_, _, _, _, hi, hids⟩ := ht
  refine ⟨(State.dispatch_issues ht hq ho hone hadm hopen hroom ?_).trans hu,
    (s.launched_launch hi hids q n).dispatched hregs hunit⟩
  rw [hu, hunit.queue]

/-- A long command shows its progress besides. -/
theorem State.Turn.dispatched_long (ho : 2 ≤ x.opc ∧ x.opc ≤ 7) : s.dispatch q x.opc = u ∧
    s.Dispatched u q n x.cl (x.launched s.front.ids) (Reg.QUE_QPROG q :: but) ∧ (u.queue q).long = some x.uid := by
  have ⟨_, _, _, _, hi, hids⟩ := ht
  have hlong : x.isLong = true := decide_eq_true ho
  obtain ⟨hdisp, hleft⟩ := State.Turn.dispatched ht hq hone hadm hopen hroom hu hunit ⟨by omega, ho.2⟩
    (s.launched_launch hi hids q n).regs
  exact ⟨hdisp, hleft, by rw [hunit.queue]; exact (State.launch_shows hlong s q n).1⟩

end

end Sys2Proof.Machine
end

section
/-! What each command of a host queue does at its dispatch. -/

namespace Sys2Proof.Machine

open Sys2Proof

variable {s t u : State} {q : Fin 64} {n i : Nat} {x : QCmd} {c : Instr} {p : State → Prop}

/-- The nine commands of a queue, by their opcodes. -/
abbrev queueInstrs (q : Fin 64) : List Instr :=
  [.queNop q, .wset q, .wslist q, .move q, .timetable q, .tpgm q, .twipe q, .trefresh q, .wait q]

theorem becomes_dispatch (hc : (queueInstrs q)[i]? = some c) (h : s.dispatch q i = t) : Becomes c s t :=
  (exec_queueCommand hc s).trans (congrArg ok h)

theorem gives_dispatch (hc : (queueInstrs q)[i]? = some c) (h : s.dispatch q i = t) (hp : p t) : Gives c s p :=
  ⟨t, becomes_dispatch hc h, hp⟩

theorem becomes_runCmd (ht : s.Turn q n x) (hc : (queueInstrs q)[x.opc]? = some c)
    (h : (s.served q).runCmd q n x = t) : Becomes c s t :=
  becomes_dispatch hc ((State.dispatch_turn ht).trans h)

section
variable (ht : s.Turn q n x)
include ht

/-! ### Word sets -/

theorem gives_wset (ho : x.opc = 1) (hon : s.domOn (domCL x.cl) = true) (hreset : s.inClReset x.cl = false)
    (hroom : s.tallyFull x.cl = false) (hok : wsOk (wordSetOf (x.raw.drop (if x.qf2 then 16 else 9))) = true) :
    Gives (.wset q) s fun t =>
      s.Dispatched t q n x.cl (x.launched s.front.ids) ((List.range 5).map (Reg.TAL_OP_D x.cl 2)) ∧
      t.portWords x.cl 2 = wordSetOf (x.raw.drop (if x.qf2 then 16 else 9)) ∧
      ∃ e : TalEntry, (t.tally x.cl).entries = (s.tally x.cl).entries ++ [e] ∧ e.port = 2 ∧ e.iseal = false ∧
        e.phase = .queued ∧ e.id = s.front.ids ∧ e.ws = wordSetOf (x.raw.drop (if x.qf2 then 16 else 9)) := by
  have ⟨_, _, _, _, hi, hids⟩ := ht
  have hl := s.launched_launch hi hids q n
  have hready := hl.takesUnit q.isLt x.cl_lt (State.Turn.takesUnit ht (by omega) hon hreset)
  have hone : x.total = 1 := by simp only [QCmd.total, ho]
  have hspace : s.unitRoom x = true := by simp only [State.unitRoom, QCmd.kind, ho, hroom, Bool.not_false]
  have hshort : x.isLong = false := by simp [QCmd.isLong, ho]
  have hfree : (s.launch q n x).tallyFull x.cl = false := by rw [State.tallyFull, hl.tally, ← State.tallyFull, hroom]
  obtain ⟨hdisp, hleft⟩ := State.Turn.dispatched ht q.isLt hone (by omega) (by omega) hspace
    (State.issueUnit_wset ho hready hfree hok q s.front.ids) (State.onlyUnit_tally _ _ _ _) (by omega)
    (State.launch_short hshort s q n)
  refine gives_dispatch (by rw [ho]; rfl) hdisp ⟨hleft, State.portWords_tallied _ _ _ _, ?_⟩
  rw [← hl.tally]
  exact State.entries_tallied _ _ _ _

theorem gives_wslist (ho : x.opc = 2) (hcount : x.pay 2 2 = 1) (hon : s.domOn (domCL x.cl) = true)
    (hreset : s.inClReset x.cl = false) (hopen : s.unitTag x.cl (x.pay 0 2) = false) (hroom : s.tallyFull x.cl = false)
    (hok : wsOk (wordSetOf (s.unitRow x.cl (x.pay 0 2))) = true) :
    Gives (.wslist q) s fun t =>
      s.Dispatched t q n x.cl (x.launched s.front.ids) (Reg.QUE_QPROG q :: (List.range 5).map (Reg.TAL_OP_D x.cl 2)) ∧
      (t.queue q).long = some x.uid ∧ t.fld (F.QUE_QPROG_ALL q) = 2048 + 2 ^ 23 ∧
      ∃ e : TalEntry, (t.tally x.cl).entries = (s.tally x.cl).entries ++ [e] ∧ e.port = 2 ∧ e.iseal = false ∧
        e.phase = .queued ∧ e.id = s.front.ids ∧ e.ws = wordSetOf (s.unitRow x.cl (x.pay 0 2)) := by
  have ⟨_, _, _, _, hi, hids⟩ := ht
  have hl := s.launched_launch hi hids q n
  have hready := hl.takesUnit q.isLt x.cl_lt (State.Turn.takesUnit ht (by omega) hon hreset)
  have hone : x.total = 1 := by simp only [QCmd.total, ho, hcount]
  have hsteps : x.steps = 1 := by simp only [QCmd.steps, ho, hone]
  have hspace : s.unitRoom x = true := by simp only [State.unitRoom, QCmd.kind, ho, hroom, Bool.not_false]
  have hfree : (s.launch q n x).tallyFull x.cl = false := by rw [State.tallyFull, hl.tally, ← State.tallyFull, hroom]
  have hrow := State.OnlyFront.unitRow hl.rest hl.regs q.isLt x.cl_lt (x.pay 0 2)
  have hunit := (s.launch q n x).onlyUnit_tally x.cl (wordSetOf ((s.launch q n x).unitRow x.cl (x.pay 0 2)))
  obtain ⟨hdisp, hleft, huid⟩ := State.Turn.dispatched_long ht q.isLt hone (by omega) (fun _ => hopen) hspace
    (State.issueUnit_wslist ho hready hfree (by rw [hrow]; exact hok) q s.front.ids) (hunit _) (by omega)
  refine gives_dispatch (by rw [ho]; rfl) hdisp ⟨hleft, huid, ?_, ?_⟩
  · have hprog : Reg.QUE_QPROG q ∉ (List.range 5).map (Reg.TAL_OP_D x.cl 2) := by
      rw [List.mem_map]
      rintro ⟨k, -, hk⟩
      have hcl := x.cl_lt
      dsimp only [Reg.QUE_QPROG, Reg.TAL_OP_D] at hk
      omega
    have hlong : x.isLong = true := by simp [QCmd.isLong, ho]
    have hshown := (State.launch_shows hlong s q n).2
    rw [hsteps] at hshown
    exact ((hunit _).regs.fld hprog).trans hshown
  · rw [← hl.tally, ← hrow]
    exact State.entries_tallied _ _ _ _

/-- A word set list whose first row is sealed ends with status 3 before it issues anything (R469). -/
theorem gives_wslist_sealed (ho : x.opc = 2) (hcount : 1 ≤ x.pay 2 2) (hsealed : s.unitTag x.cl (x.pay 0 2) = true) :
    Gives (.wslist q) s fun t => t.tallies = s.tallies ∧ t.mem = s.mem ∧
      ∃ y : QCmd, (t.queue q).cmds[n]? = some y ∧ y.phase = 3 ∧ y.status = 3 ∧ y.issued = 0 := by
  have ⟨⟨_, _, hx⟩, _, _, hst, hi, hids⟩ := ht
  obtain ⟨hlt, -⟩ := List.getElem?_eq_some_iff.mp hx
  obtain ⟨hrest, -, hcmds, -⟩ := s.begun_leaves q n x
  have htotal : 0 < x.total := by simp only [QCmd.total, ho]; exact hcount
  have hrow : (x.inFlight.opc = 2 && (s.begun q n x).unitTag x.inFlight.cl
      (x.inFlight.pay 0 2 + x.inFlight.issued / 25)) = true := by
    rw [State.Turn.unitTag_begun ht q.isLt, hsealed, decide_eq_true (show x.inFlight.opc = 2 from ho), Bool.and_self]
  have hends : ({ x.inFlight with status := 3 } : QCmd).settle = { x.inFlight with status := 3, phase := 3 } :=
    QCmd.settle_stopped rfl (fun h8 => absurd (ho.symm.trans h8) (by decide)) hids (show 3 ≠ 1 by decide)
  have hdisp : s.dispatch q x.opc = (s.begun q n x).setCmd q n { x.inFlight with status := 3, phase := 3 } := by
    rw [State.dispatch_turn ht, State.runCmd_unit (by omega) (by omega), State.pump_sealed (State.Turn.begun_holds ht)
      (QCmd.inFlight_mayIssue hst hi htotal) hrow, hends]
  obtain ⟨hphase, hstatus, hissued⟩ := QCmd.noted_keeps { x.inFlight with status := 3, phase := 3 } (s.begun q n x).posted
  refine gives_dispatch (by rw [ho]; rfl) hdisp ⟨?_, ?_, _, ?_, hphase, hstatus, hissued.trans hi⟩
  · rw [State.setCmd, State.setQueue_tallies, hrest]
  · rw [State.setCmd, State.setQueue_mem, hrest]
  · rw [State.setCmd, State.queue_setQueue_same, List.getElem?_set_self (by rw [hcmds, List.length_set]; exact hlt)]

/-! ### Moves and timetables -/

theorem gives_move (ho : x.opc = 3) (hrows : x.moveRows ≤ 256) (hon : s.domOn (domCL x.cl) = true)
    (hreset : s.inClReset x.cl = false) (hroom : s.moverFull x.cl = false) (hok : jobOk x.job = true) :
    Gives (.move q) s fun t =>
      s.Dispatched t q n x.cl (x.launched s.front.ids) (Reg.QUE_QPROG q :: (List.range 4).map (Reg.MOV_JOB_J x.cl 2)) ∧
      (t.queue q).long = some x.uid ∧ t.portJob x.cl 2 = x.job ∧
      ∃ j : MovJob, (t.mover x.cl).jobs = (s.mover x.cl).jobs ++ [j] ∧ j.port = 2 ∧ j.iseal = false ∧
        j.running = false ∧ j.id = s.front.ids ∧ j.jw = x.job := by
  have ⟨_, _, _, _, hi, hids⟩ := ht
  have hl := s.launched_launch hi hids q n
  have hready := hl.takesUnit q.isLt x.cl_lt (State.Turn.takesUnit ht (by omega) hon hreset)
  have hone : x.total = 1 := by
    simp only [QCmd.total, ho]
    exact if_neg (by omega)
  have hspace : s.unitRoom x = true := by simp only [State.unitRoom, QCmd.kind, ho, hroom, Bool.not_false]
  have hfree : (s.launch q n x).moverFull x.cl = false := by rw [State.moverFull, hl.mover, ← State.moverFull, hroom]
  obtain ⟨hdisp, hleft, huid⟩ := State.Turn.dispatched_long ht q.isLt hone (by omega) (by omega) hspace
    (State.issueUnit_move ho hone hready hfree hok q s.front.ids) (State.onlyUnit_mover _ _ _ _) (by omega)
  refine gives_dispatch (by rw [ho]; rfl) hdisp ⟨hleft, huid, State.portJob_moverGiven _ _ _ _,
    newJob 2 false x.job s.front.ids, ?_, rfl, rfl, rfl, rfl, rfl⟩
  rw [State.jobs_moverGiven, hl.mover]

theorem gives_timetable (ho : x.opc = 4) (hadm : s.admitted x.cl (x.pay 0 1) = true)
    (hon : s.domOn (domCL x.cl) = true) (hreset : s.inClReset x.cl = false) (hroom : s.dfaDepth x.cl < 4)
    (hslot : x.pay 0 1 < 4) :
    Gives (.timetable q) s fun t => s.Dispatched t q n x.cl (x.launched s.front.ids) [Reg.QUE_QPROG q] ∧
      (t.queue q).long = some x.uid ∧
      t.dfa x.cl = { s.dfa x.cl with queue := (s.dfa x.cl).queue ++ ([{
        slot := x.pay 0 1, tag := x.pay 1 1 % 64, notify := (x.pay 1 1 / 64) % 2 == 1, src := 2, iseal := false,
          id := s.front.ids }] : List DfaStart) } := by
  have ⟨_, _, _, _, hi, hids⟩ := ht
  have hl := s.launched_launch hi hids q n
  have hready := hl.takesUnit q.isLt x.cl_lt (State.Turn.takesUnit ht (by omega) hon hreset)
  have hone : x.total = 1 := by simp only [QCmd.total, ho]
  have hspace : s.unitRoom x = true := by simp only [State.unitRoom, QCmd.kind, ho, hroom, decide_true]
  have hfree : (s.launch q n x).dfaDepth x.cl < 4 := by rw [State.dfaDepth, hl.dfa]; exact hroom
  obtain ⟨hdisp, hleft, huid⟩ := State.Turn.dispatched_long ht q.isLt hone (fun _ => hadm) (by omega) hspace
    (State.issueUnit_timetable ho hready hfree hslot q s.front.ids) (State.onlyUnit_dfa _ _ _) (by omega)
  refine gives_dispatch (by rw [ho]; rfl) hdisp ⟨hleft, huid, ?_⟩
  rw [State.dfa_setDfa, if_pos rfl, hl.dfa]

/-! ### Long operations of a tile -/

theorem gives_tpgm (ho : x.opc = 5) (hon : s.domOn (domTQ x.tile) = true) (htile : x.tile < 32) (hpgm : x.PgmOk)
    (hgen : (s.tile x.tile).genValid = false ∨ x.pay 9 2 ≠ (s.tile x.tile).gen) :
    Gives (.tpgm q) s fun t =>
      s.Dispatched t q n x.cl (x.launched s.front.ids)
        (Reg.QUE_QPROG q :: (pgmAddrs x.tile ++ [Reg.TILE_LSTAT x.tile, Reg.TILE_STUCK x.tile])) ∧
      t.fld (F.TILE_LSTAT_STATUS x.tile) = 1 ∧ (∀ k, k ≠ x.tile → t.tile k = s.tile k) ∧
      t.tile x.tile = { s.tile x.tile with front := some s.front.ids, long := some x.pgmOp } := by
  have ⟨_, _, _, _, hi, hids⟩ := ht
  have hl := s.launched_launch hi hids q n
  have hlive := (State.OnlyFront.domOn hl.rest hl.regs q.isLt (by rw [domTQ]; omega)).trans hon
  have hidle := State.Turn.tile_idle ht (by omega)
  have hone : x.total = 1 := by simp only [QCmd.total, ho]
  have hspace : s.unitRoom x = true := by simp only [State.unitRoom, QCmd.kind, ho]
  rw [← hl.tile] at hidle hgen
  obtain ⟨hunit, hstatus, hothers, hself⟩ := State.tpgm_leaves hpgm hidle hgen x.cl s.front.ids
  obtain ⟨hdisp, hleft, -⟩ := State.Turn.dispatched_long ht q.isLt hone (by omega) (by omega) hspace
    (State.issueUnit_tpgm ho hlive q s.front.ids) hunit (by omega)
  exact gives_dispatch (by rw [ho]; rfl) hdisp
    ⟨hleft, hstatus, fun k hk => (hothers k hk).trans (hl.tile k), hself.trans (by rw [hl.tile])⟩

theorem gives_twipe (ho : x.opc = 6) (hon : s.domOn (domTQ x.tile) = true) (htile : x.tile < 32) :
    Gives (.twipe q) s fun t =>
      s.Dispatched t q n x.cl (x.launched s.front.ids)
        [Reg.QUE_QPROG q, Reg.TILE_LSTAT x.tile, Reg.TILE_STUCK x.tile] ∧
      t.fld (F.TILE_LSTAT_STATUS x.tile) = 1 ∧ (∀ k, k ≠ x.tile → t.tile k = s.tile k) ∧
      (t.tile x.tile).front = some s.front.ids ∧ (t.tile x.tile).genValid = false ∧ (t.tile x.tile).sealedFlag = false ∧
      ∃ l : LongOp, (t.tile x.tile).long = some l ∧ l.kind = .wipe ∧ l.count = 776 ∧ l.mask = 0x3F ∧ l.idx = 0 := by
  have ⟨_, _, _, _, hi, hids⟩ := ht
  have hl := s.launched_launch hi hids q n
  have hlive := (State.OnlyFront.domOn hl.rest hl.regs q.isLt (by rw [domTQ]; omega)).trans hon
  have hidle := State.Turn.tile_idle ht (by omega)
  have hone : x.total = 1 := by simp only [QCmd.total, ho]
  have hspace : s.unitRoom x = true := by simp only [State.unitRoom, QCmd.kind, ho]
  rw [← hl.tile] at hidle
  obtain ⟨hunit, hstatus, hothers, hself⟩ := State.twipe_leaves hidle x.cl s.front.ids
  obtain ⟨hdisp, hleft, -⟩ := State.Turn.dispatched_long ht q.isLt hone (by omega) (by omega) hspace
    (State.issueUnit_twipe ho hlive q s.front.ids) hunit (by omega)
  refine gives_dispatch (by rw [ho]; rfl) hdisp ⟨hleft, hstatus, fun k hk => (hothers k hk).trans (hl.tile k), ?_⟩
  rw [hself]
  exact ⟨rfl, rfl, rfl, _, rfl, rfl, rfl, rfl, rfl⟩

/-! ### Requests to SV -/

theorem gives_trefresh (ho : x.opc = 7) (htile : x.tile < 32) (hfirst : x.pay 1 2 < 1024) (hcount : x.pay 3 2 < 1024)
    (hgroups : x.pay 5 1 < 64) :
    Gives (.trefresh q) s fun t =>
      s.Dispatched t q n x.cl (x.launched s.front.ids) (Reg.QUE_QPROG q :: svAddrs) ∧
      t.fld F.QUE_SVREQ0_QUEUE = q ∧ t.fld F.QUE_SVREQ0_TILE = x.tile ∧ t.fld F.QUE_SVREQ0_VALID = 1 ∧
      t.fld F.QUE_SVREQ1_FIRST = x.pay 1 2 ∧ t.fld F.QUE_SVREQ1_COUNT = x.pay 3 2 ∧
      t.fld F.QUE_SVREQ2_GRPMASK = x.pay 5 1 ∧ t.fld F.QUE_SVREQ2_BARO = x.pay 6 1 % 2 ∧
      t.front.sv = some s.front.ids ∧ t.tiles = s.tiles ∧ t.pulses = s.pulses ++ [63] := by
  have ⟨_, _, _, _, hi, hids⟩ := ht
  have hl := s.launched_launch hi hids q n
  have hone : x.total = 1 := by simp only [QCmd.total, ho]
  have hspace : s.unitRoom x = true := by simp only [State.unitRoom, QCmd.kind, ho]
  obtain ⟨hunit, hfld, hsv, htiles, hpulses⟩ := (s.launch q n x).askSv_leaves q x x.cl s.front.ids
  obtain ⟨hqueue, hnum, hvalid, hrow, hrows, hmask, hbaro⟩ := (s.launch q n x).fld_svShown q x
  rw [Nat.mod_eq_of_lt (by omega)] at hqueue hnum hrow hrows hmask
  obtain ⟨hdisp, hleft, -⟩ := State.Turn.dispatched_long ht q.isLt hone (by omega) (by omega) hspace
    (State.issueUnit_trefresh ho _ q s.front.ids) hunit (by omega)
  exact gives_dispatch (by rw [ho]; rfl) hdisp ⟨hleft, (hfld _).trans hqueue, (hfld _).trans hnum, (hfld _).trans hvalid,
    (hfld _).trans hrow, (hfld _).trans hrows, (hfld _).trans hmask, (hfld _).trans hbaro, hsv,
    htiles.trans (by rw [hl.rest]), hpulses.trans (by rw [hl.rest])⟩

end

/-! ### The obligation -/

/-- The cost bound of a timetable off the PLL (R413). -/
theorem State.admitted_off_pll {s : State} {c slot : Nat} (h : s.coreOnPll = false) :
    s.admitted c slot = decide (s.costBound c slot ≤ 48000) :=
  if_neg (by rw [h]; exact Bool.false_ne_true)

/-- Settles O40: whose turn it is and what refuses a command are read off the dispatch, a command that runs is launched and its
one unit operation is followed to its unit. -/
theorem queueCommands : Obligations.QueueCommands := by
  unfold Obligations.QueueCommands
  refine ⟨?nop, ?waitSignalled, ?waitPending, ?waitStale, ?wset, ?wslist, ?wslistSealed, ?move, ?timetable, ?timetableRefused,
    ?admitted, ?tpgm, ?twipe, ?trefresh, ?stale, ?depfail, ?fenced, ?foreign, ?elsewhere, ?pumpIssues, ?pumpStops⟩
  case nop =>
    intro s q n x ht ho
    exact becomes_runCmd ht (by rw [ho]; rfl) (State.runCmd_nop ho)
  case waitSignalled =>
    intro s q n x ht ho hh hf
    exact becomes_runCmd ht (by rw [ho]; rfl) (State.runCmd_wait_signalled ho hh hf)
  case waitPending =>
    intro s q n x ht ho hh hf
    exact becomes_runCmd ht (by rw [ho]; rfl) (State.runCmd_wait_pending ho hh hf)
  case waitStale =>
    intro s q n x ht ho hh
    exact becomes_runCmd ht (by rw [ho]; rfl) (State.runCmd_wait_stale ho hh)
  case wset =>
    intro s q n x ht ho hon hreset hroom hok
    exact gives_wset ht ho hon hreset hroom hok
  case wslist =>
    intro s q n x ht ho hcount hon hreset hopen hroom hok
    exact gives_wslist ht ho hcount hon hreset hopen hroom hok
  case wslistSealed =>
    intro s q n x ht ho hcount hsealed
    exact gives_wslist_sealed ht ho hcount hsealed
  case move =>
    intro s q n x ht ho hrows hon hreset hroom hok
    exact gives_move ht ho hrows hon hreset hroom hok
  case timetable =>
    intro s q n x ht ho hadm hon hreset hroom hslot
    exact gives_timetable ht ho hadm hon hreset hroom hslot
  case timetableRefused =>
    intro s q n x ht ho hadm
    exact becomes_runCmd ht (by rw [ho]; rfl) (State.runCmd_timetable_refused ho hadm)
  case admitted =>
    intro s c slot h
    exact State.admitted_off_pll h
  case tpgm =>
    intro s q n x ht ho hon htile hsrc hcount hrows hmask hgroups hstuck hgen
    exact gives_tpgm ht ho hon htile ⟨hsrc, hcount, hrows, hmask, hgroups, hstuck⟩ hgen
  case twipe =>
    intro s q n x ht ho hon htile
    exact gives_twipe ht ho hon htile
  case trefresh =>
    intro s q n x ht ho htile hfirst hcount hgroups
    exact gives_trefresh ht ho htile hfirst hcount hgroups
  case stale =>
    intro s q n x h c hn hw hstale hc
    exact becomes_dispatch hc (State.dispatch_stale hn hw hstale)
  case depfail =>
    intro s q n x h c hn hw hok hchk hst hc
    exact becomes_dispatch hc (State.dispatch_depfail hn hw hok hchk hst)
  case fenced =>
    intro s q n x c hn hw hunit howner hfence hc
    exact becomes_dispatch hc (State.dispatch_fenced hn hw hunit howner hfence)
  case foreign =>
    intro s q n x c hn hw hunit howner hc
    exact becomes_dispatch hc (State.dispatch_foreign hn hw hunit howner)
  case elsewhere =>
    intro s q i c h hc
    exact becomes_dispatch hc (State.dispatch_elsewhere h i)
  case pumpIssues =>
    intro s q n k x hx hphase hstatus hlimit htotal ho hroom
    exact State.pump_issues hx ⟨hphase, hstatus, hlimit, htotal⟩ (by rw [decide_eq_false ho, Bool.false_and]) hroom k
  case pumpStops =>
    intro s q n k x hx hstop
    exact State.pump_stops hx hstop k

end Sys2Proof.Machine
end
